-- ==== Sys2Proof/Word.lean ====
section
/-! DEFINITION. The byte type, and the plain number forms the manual uses: a value of `w` bits is held as a
natural number below `2 ^ w` (R3: registers are 32 bits wide), a signed one as an integer (R11). -/

namespace Sys2Proof

/-- One byte of the vat or of a frame (R3: memory and descriptors are little-endian). -/
abbrev Byte := BitVec 8

/-- A value narrowed to `w` bits. -/
def trunc (w v : Nat) : Nat := v % 2 ^ w

end Sys2Proof
end

