-- ==== Sys2Proof/Syntax.lean ====
section
/-! DEFINITION. The commands the block takes from outside, one constructor for each row of the table of operations and
events, with the operands each carries: register writes and reads, descriptors of commands, frames and edges on pins, the
expiry of timers. -/

namespace Sys2Proof

/-- Who sent a register write or a command, or caused a change: the ORIGIN codes of Table 20-4, in its order. -/
inductive Origin where
  | pf0 | pf1 | mspi | peer | auto | tamper
  deriving DecidableEq, Repr

/-- How a command's argument area read (R381, R385): well formed, malformed (a reserved byte not 0, a wrong indirect
length, INDIRECT where the row calls for none), or an argument block whose DMA failed. -/
inductive ArgForm where
  | good | malformed | blockError
  deriving DecidableEq, Repr

/-- What a command descriptor carries beside its arguments (Table 16-4): its origin, the slot and index of its ring,
its TAG, its late policy, how its argument area read, and whether the data DMA that it calls for ends without error. -/
structure Hdr where
  origin : Origin := .pf0
  ring : Nat := 0
  index : Nat := 0
  tag : Nat := 0
  polGiven : Bool := false
  latePol : Bool := false
  form : ArgForm := .good
  dmaOk : Bool := true
  deriving DecidableEq, Repr

/-- The PCIe configuration space and link as the engine sees them when a ring or doorbell write arrives
(R370, R372, R377, R420): link state, Bus Master Enable of each function, Extended Tag Field Enable, and the vectors masked since. -/
structure PcieView where
  linkUp : Bool := true
  speed : Nat := 4
  width : Nat := 8
  bme0 : Bool := true
  bme1 : Bool := true
  extTag : Bool := true
  masked : List Nat := []
  deriving DecidableEq, Repr

/-- How the DMA of host data into the engine ended: the bytes read, or an error status. -/
structure DmaIn where
  ok : Bool := true
  bytes : List Byte := []
  deriving DecidableEq, Repr

/-- What a sample port brought since the last edge (R96, R98): the counter times of its rising SCLK edges in the sheet, less that of the
sheet's own edge, in 2⁻¹⁶ ns, and the samples not yet given to the engine, each as eight pin levels: D0 to D3 at the rising edge in
bits 0 to 3, at the falling edge in bits 4 to 7. -/
structure SclkIn where
  edges : List Int := []
  samples : List Nat := []
  deriving DecidableEq, Repr

/-- Random edges of the code-density calibration that reached a tap in a sheet (R78): channel, line (false E, true F),
tap and how many. -/
structure Injection where
  ch : Nat
  line : Bool
  tap : Nat
  n : Nat
  deriving DecidableEq, Repr

/-- Where an edge that reaches a time-interval channel comes from (R63, R70, Table 4-1): its pin, the clock recovered on a port, the 10 MHz or
1PPS of the atomic port, a strobe, a clock output or a PPS output. -/
inductive EdgeSrc where
  | pin
  | syncE (port : Nat)
  | atomClk
  | atomPps
  | strobe (n : Nat)
  | output (n : Nat)
  | pps (n : Nat)
  deriving DecidableEq, Repr

/-- A steer entry (Table 5-6): rates and adjustments that are valid. -/
structure SteerEntry where
  sheet : Nat
  channel : Nat
  code : Option Nat
  carr : Option Int
  codeAdj : Option Int
  carrAdj : Option Int
  deriving DecidableEq, Repr

/-- What comes with a correlator dump (R96, R106, R111): the samples of the channel's band not yet given to the engine, in the form of
`SclkIn`, whether data bits are aligned, and where the secondary code is aligned, the chip of it at which the next primary period begins. -/
structure DumpIn where
  samples : List Nat := []
  bitSync : Bool := false
  sec : Option Nat := none
  deriving DecidableEq, Repr

/-- What a finished search found (R104): short time and code phase, peak-to-noise ratio in 0.1 dB, the Doppler of the refined peak less
the centre in eighths of STEP, C/N0. -/
structure AcqIn where
  epoch : Nat
  codePhase : Nat
  pnr : Nat
  eighths : Int
  cn0 : Nat
  deriving DecidableEq, Repr

/-- The arguments of a search (Table 5-2): Doppler centre in 2⁻⁸ Hz, SPAN and STEP in Hz, THRESH in 0.1 dB. -/
structure AcqArgs where
  signal : Nat
  sv : Nat
  k : Int := 0
  channel : Nat := 254
  doppler : Int := 0
  span : Nat := 0
  step : Nat := 500
  coh : Nat := 1
  noncoh : Nat := 1
  thresh : Nat := 0
  tag : Nat := 0
  deriving DecidableEq, Repr

/-- What a port's circuits measured in the sheet that ended: the phase of its launch grid from the sheet edge in 2⁻¹⁶ ns, to 25 ps
(R234), RS-FEC codewords corrected and not correctable, whether RS-FEC is aligned and the receiver is in LPI (Table 11-6). -/
structure PortEdge where
  grid : Nat := 0
  fecCorr : Nat := 0
  fecUncorr : Nat := 0
  fecLock : Bool := false
  lpiRx : Bool := false
  deriving DecidableEq, Repr

/-- What the shadowing of a pipeline found in the sheet that ended (R334): agreement, a physical pipeline outvoted, or results of
which none could be released. -/
inductive ShadowIn where
  | agree
  | outvoted (pipe : Nat)
  | discarded (op : Nat)
  deriving DecidableEq, Repr

/-- What the keep-alive domain shows (R444 to R448): its count, whether the crystal runs, whether it has run without a break since the
last alignment, whether VKEEP is below 2.7 V, the levels of TAMP0 to TAMP3, VKEEP in mV. -/
structure KeepIn where
  cnt : Nat := 0
  xtalOk : Bool := true
  unbroken : Bool := true
  low : Bool := false
  pins : Nat := 0
  mv : Nat := 3300
  deriving DecidableEq, Repr

/-- What the environment shows the engine at a sheet edge: the fine counter less the OSC_IN shadow counter (R52), the fits of
the two sample ports (R98), the random edges that reached each tap in the sheet that ended (R78), the ports,
the shadowing of a pipeline, the levels of PAIR_ACT_I and ARB_IN, the keep-alive domain. -/
structure EdgeIn where
  diff : Int := 0
  sclk : List SclkIn := [{}, {}]
  inject : List Injection := []
  osc : Option Nat := none
  ports : List PortEdge := List.replicate 8 {}
  shadow : ShadowIn := .agree
  pairAct : Bool := false
  arbIn : Bool := false
  keep : KeepIn := {}
  deriving DecidableEq, Repr

/-- What a unit of a navigation message carries (Table 6-1): message alignment with the transmit time in TAI seconds of the start of a
primary code period, the polarity of the preamble, a part of an ephemeris, an almanac record, UTC parameters A0 in 2⁻⁵¹ s and A1 in
2⁻⁵¹ s/s with their reference second, the leap-second count and an announcement as (TAI second, direction), the eight ionosphere
parameters, a broadcast inter-system offset in ps. -/
inductive NavItem where
  | align (codeEpoch : Nat) (tx : Rat)
  | polarity (inverted : Bool)
  | eph (sv iod part of_ off : Nat) (bytes : List Byte)
  | almanac (slot : Nat) (bytes : List Byte)
  | utc (a0 a1 : Int) (tot : Nat) (leap : Int) (ann : Option (Nat × Nat))
  | iono (params : List Int)
  | offset (sys : Nat) (ps : Int)
  | other
  deriving DecidableEq, Repr

/-- The argument block of KEY_DERIVE (Table 16-6). -/
structure DeriveArgs where
  parent : Nat
  child : Nat
  alg : Nat
  spp : Nat
  keyId : Nat
  uses : Nat
  counted : Bool
  expire : Bool
  label : List Byte
  context : List Byte
  deriving DecidableEq, Repr

/-- What the engine reads where a doorbell says a host-written descriptor stands (R374 to R377): its 32 bytes, the argument block it
names (R381), the data its command or frame reads from the host; or a read that failed. -/
inductive RingIn where
  | desc (bytes : List Byte) (block data : DmaIn)
  | dmaError
  deriving DecidableEq, Repr

/-- A host frame as its transmit descriptors give it (Table 16-8): transmit ring, index of its last descriptor, how many there are,
PORT, TC, FLAGS, MSS, HDR_LEN, COOKIE of the last, the bytes, whether their DMA ended well. -/
structure TxIn where
  ring : Nat
  index : Nat
  descs : Nat
  port : Nat
  tc : Nat
  flags : Nat
  mss : Nat
  hdrLen : Nat
  cookie : Nat
  bytes : List Byte
  dmaOk : Bool
  deriving DecidableEq, Repr

/-- What the scrubber finds on a page (R400 to R402, R408): words whose single-bit error it corrects, as (word of the page, bit), words
that fail SECDED, and whether the page code fails as well. -/
structure PageFind where
  fixed : List (Nat × Nat) := []
  bad : List Nat := []
  fails : Bool := false
  deriving DecidableEq, Repr

/-- What the tamper logic senses (R446): for each of TAMP0 to TAMP3 its level and for how many keep-alive periods it has held it; VKEEP
and VDD_CORE in mV; the longest crystal period of late in µs; the core clock in kHz; the keep-alive sensor in °C. -/
structure TampIn where
  pins : List (Bool × Nat) := []
  vkeepMv : Nat := 3300
  coreMv : Nat := 800
  xtalUs : Nat := 31
  coreKHz : Nat := 400000
  tempC : Int := 25
  deriving DecidableEq, Repr

/-- The commands of the block, in the order of the table. -/
inductive Instr where
  /-- SHEET_EDGE (R25): The sheet timer expires: the sheet number is incremented and the edge actions of R55 run in their order. -/
  | sheetEdge (e : EdgeIn)
  /-- MEAS_DELIVERY_SLICE (R88): Windows closed in the previous sheet are delivered to their owning blocks or to the measurement ring. -/
  | measDeliverySlice
  /-- SELECTION_SLICE (R154): Reference selection, switching and the DPLL update run once, and the history is updated. -/
  | selectionSlice (dieTemp : Int)
  /-- CONTROL_SLICE (R203): New control values are applied to the calenders and the time counter, and phase steps are worked off. -/
  | controlSlice
  /-- BOUND_SLICE (R218): The error bound is recomputed and latched as the sheet's watermark content. -/
  | boundSlice
  /-- FINALISE_SLICE (R19): Messages due for launch are finalised with the sheet's watermark, sequence numbers and integrity checks. -/
  | finaliseSlice
  /-- CLOSE_SLICE (R41): At 118.000 µs overrun is judged, unfinished work is carried and the couch snapshot is taken. -/
  | closeSlice (overrun : Bool) (late0 : Bool)
  /-- DECKLE_NOP (R30): A NOP deckle entry reaches its TICK and does nothing. -/
  | deckleNop (entry : Nat)
  /-- DECKLE_SEND_PTP (R277): A SEND_PTP entry reaches its TICK; the message is sent if called for, and skipped or dropped otherwise. -/
  | deckleSendPtp (entry : Nat)
  /-- DECKLE_REPLY_SLOT (R33): A reply slot launches the oldest queued reply of the port that fits, or leaves the wire idle. -/
  | deckleReplySlot (entry : Nat)
  /-- DECKLE_GATE (R246): A GATE entry applies the gate states of its gate-list entry. -/
  | deckleGate (entry : Nat)
  /-- DECKLE_STROBE (R60): A STROBE entry drives its event strobe pulse at TICK. -/
  | deckleStrobe (entry : Nat)
  /-- DECKLE_NCO_HOP (R114): An NCO_HOP entry loads a loop-table value into a channel NCO or a calender phase step. -/
  | deckleNcoHop (entry : Nat) (samples : List Nat)
  /-- DECKLE_MARK (R391): A MARK entry posts its marker, the sheet and TICK to the event ring. -/
  | deckleMark (entry : Nat)
  /-- NOP (R385): Command that returns the present sheet number. -/
  | nop (h : Hdr)
  /-- MODE_SET (R386): Command that names a mode to take effect at the next sheet edge. -/
  | modeSet (h : Hdr) (mode : Nat)
  /-- STATUS_CLEAR (R387): Command that clears the sticky status bits set in MASK at a BAR0 offset. -/
  | statusClear (h : Hdr) (addr mask : Nat)
  /-- RESTORE_FACTORY_SIZING (R467): Command that removes the user sizing items in its scope at the next edge. -/
  | restoreFactorySizing (h : Hdr) (scope : Nat)
  /-- BIST_RUN (R471): Command that starts BIST on the named units in QUIET. -/
  | bistRun (h : Hdr) (target index : Nat)
  /-- BIST_DONE (R471): BIST finishes; failures and skipped units are reported, and BIST_DONE is posted. -/
  | bistDone (fails : List (Nat × Nat × Nat)) (lines : List (Nat × Nat × Bool))
  /-- SPARE_PROMOTE (R472): Command that promotes a spare in place of the named unit. -/
  | sparePromote (h : Hdr) (target index : Nat)
  /-- MOULD_LOAD (R34): Command that starts a DMA load of a mould image into a buffer. -/
  | mouldLoad (h : Hdr) (buf addr len : Nat)
  /-- MOULD_LOAD_DONE (R34): The mould DMA and its checks end, and the buffer becomes READY or EMPTY with MOULD_INVALID. -/
  | mouldLoadDone (buf : Nat) (dma : DmaIn)
  /-- MOULD_ACTIVATE (R36): Command that schedules activation of a READY buffer at a named sheet. -/
  | mouldActivate (h : Hdr) (buf sheet : Nat)
  /-- MOULD_CANCEL (R37): Command that withdraws a pending mould activation. -/
  | mouldCancel (h : Hdr)
  /-- TIME_SET (R54): Command that sets the time counter in QUIET. -/
  | timeSet (h : Hdr) (wide : Nat)
  /-- TIME_STEP (R54): Command that requests a step of the counter, to be judged again and applied at the next edge. -/
  | timeStep (h : Hdr) (offset : Int) (grant : Bool)
  /-- TIME_SLEW (R56): Command that adds an offset to the slew residual. -/
  | timeSlew (h : Hdr) (offset : Int)
  /-- LEAP_SCHEDULE (R58): Command that arms a leap second at a target. -/
  | leapSchedule (h : Hdr) (target dir : Nat)
  /-- LEAP_CANCEL (R58): Command that disarms the armed leap second. -/
  | leapCancel (h : Hdr)
  /-- STROBE_AT (R60): Command that schedules one strobe pulse at a short-time target. -/
  | strobeAt (h : Hdr) (strobe target width : Nat)
  /-- STROBE_PERIODIC (R61): Command that starts a periodic series of strobe pulses. -/
  | strobePeriodic (h : Hdr) (strobe width count first period : Nat)
  /-- STROBE_STOP (R61): Command that stops a strobe's periodic series. -/
  | strobeStop (h : Hdr) (strobe : Nat)
  /-- STROBE_TARGET (R60): A commanded or periodic strobe pulse target is reached, and the pulse is placed. -/
  | strobeTarget (strobe : Nat)
  /-- MEAS_ARM (R85): Command that arms a window at a short-time target. -/
  | measArm (h : Hdr) (window target : Nat)
  /-- MEAS_DISARM (R86): Command that disarms a measurement window. -/
  | measDisarm (h : Hdr) (window : Nat)
  /-- TDC_SIZE (R82): Command that starts sizing of the named time-interval channels in SIZING. -/
  | tdcSize (h : Hdr) (mask : Nat)
  /-- TDC_SIZE_DONE (R82): A channel's sizing histograms are full; the table is computed, written to user sizing and measurement resumes. -/
  | tdcSizeDone (ch : Nat)
  /-- TDC_TABLE_READ (R81): Command that writes a channel's INL or bin table to host memory. -/
  | tdcTableRead (h : Hdr) (ch addr : Nat)
  /-- TDC_CDC_RESTART (R92): Command that discards a class B channel's histograms. -/
  | tdcCdcRestart (h : Hdr) (ch : Nat)
  /-- ACQ_START (R103): Command that starts an acquisition search. -/
  | acqStart (h : Hdr) (a : AcqArgs)
  /-- ACQ_ABORT (R103): Command that aborts a running search. -/
  | acqAbort (h : Hdr) (search : Nat)
  /-- ACQ_RESULT (R104): A search finishes and posts its result entry, arranging a handoff when a signal is FOUND. -/
  | acqResult (search : Nat) (r : AcqIn)
  /-- EPH_LOAD (R128): Command that loads ephemeris records from the host. -/
  | ephLoad (h : Hdr) (count addr : Nat) (d : DmaIn)
  /-- ALM_LOAD (R145): Command that loads almanac records from the host. -/
  | almLoad (h : Hdr) (count addr : Nat) (d : DmaIn)
  /-- EPH_READ (R126): Command that writes a slot's current and previous ephemeris records to host memory. -/
  | ephRead (h : Hdr) (slot addr : Nat)
  /-- NAV_RESET (R145): Command that resets navigation data for the systems in its mask. -/
  | navReset (h : Hdr) (mask : Nat)
  /-- SURVEY_START (R139): Command that starts a position survey. -/
  | surveyStart (h : Hdr) (dur target : Nat)
  /-- SURVEY_STOP (R140): Command that ends a survey with ABORTED. -/
  | surveyStop (h : Hdr)
  /-- SURVEY_EPOCH (R139): A 1 s survey epoch is solved and accumulated into the normal equations. -/
  | surveyEpoch
  /-- SURVEY_DONE (R140): The survey duration ends; the position is stored, or SURVEY_POOR is reported. -/
  | surveyDone
  /-- POS_SET (R141): Command that sets the held antenna position. -/
  | posSet (h : Hdr) (x y z : Int) (sigma : Nat)
  /-- GNSS_DELAY_SIZE (R142): Command that starts sizing of the antenna delay against a known 1PPS. -/
  | gnssDelaySize (h : Hdr) (ch dur : Nat)
  /-- DELAY_SIZED (R142): The delay sizing duration ends, and the new delays are written to user sizing. -/
  | delaySized
  /-- REF_SELECT (R155): Command that names a slot for selection at the next selection slice. -/
  | refSelect (h : Hdr) (slot : Nat)
  /-- WTR_CLEAR (R169): Command that ends the wait-to-restore of a slot. -/
  | wtrClear (h : Hdr) (slot : Nat)
  /-- HOLD_HISTORY_CLEAR (R171): Command that empties the holdover history in QUIET. -/
  | holdHistoryClear (h : Hdr)
  /-- HOLD_HISTORY_READ (R188): Command that writes the history bins to host memory. -/
  | holdHistoryRead (h : Hdr) (addr : Nat)
  /-- ATOM_RESCAN (R184): Command that restarts identification of an atomic module from NO_ID. -/
  | atomRescan (h : Hdr)
  /-- CAL_PHASE_STEP (R215): Command that adds a phase step to a calender's pending phase. -/
  | calPhaseStep (h : Hdr) (cal : Nat) (step : Int)
  /-- PORT_SIZE (R258): Command that starts sizing of a port's internal delays. -/
  | portSize (h : Hdr) (port : Nat)
  /-- PORT_SIZE_DONE (R258): The loop-back measurement ends, the delays are written to user sizing and the link is restored. -/
  | portSizeDone (port trip : Nat)
  /-- PORT_EXT_SET (R258): Command that writes a port's external delays to user sizing. -/
  | portExtSet (h : Hdr) (port : Nat) (tx rx : Int) (u : Nat)
  /-- MOD_READ (R257): Command that reads bytes from a pluggable module to host memory. -/
  | modRead (h : Hdr) (port dev off len addr : Nat)
  /-- MOD_WRITE (R257): Command that writes bytes to a pluggable module. -/
  | modWrite (h : Hdr) (port dev off : Nat) (data : List Byte)
  /-- MOD_TRANSFER_DONE (R257): A module read or write over the two-wire bus ends, and its command completes. -/
  | modTransferDone (port : Nat) (ok : Bool) (bytes : List Byte)
  /-- MOD_RESCAN (R256): Command that rereads an UNREADABLE module. -/
  | modRescan (h : Hdr) (port : Nat)
  /-- CLIENT_SET (R292): Command that writes a client record image. -/
  | clientSet (h : Hdr) (record addr : Nat) (dma : DmaIn)
  /-- CLIENT_READ (R292): Command that writes a client record to host memory. -/
  | clientRead (h : Hdr) (record addr : Nat)
  /-- CLIENT_DEL (R292): Command that raises an engine CANCEL and frees the record. -/
  | clientDel (h : Hdr) (record : Nat)
  /-- CLIENT_DEL_TIMEOUT (R292): A deleted record whose CANCEL has not been sent within 2 s is freed. -/
  | clientDelTimeout (record : Nat)
  /-- NTS_ROTATE (R307): Command that makes an entry the CURRENT master key generation at the next edge. -/
  | ntsRotate (h : Hdr) (entry slot keyId : Nat)
  /-- NTS_RETIRE (R307): Command that retires a generation at the next edge. -/
  | ntsRetire (h : Hdr) (entry : Nat)
  /-- MINT_COOKIE (R308): Command that mints cookies from a host key block under the CURRENT generation. -/
  | mintCookie (h : Hdr) (count : Nat) (erase : Bool) (keyAddr cookieAddr : Nat) (dma : DmaIn)
  /-- KEY_DERIVE (R325): Command that derives a child key into a slot. -/
  | keyDerive (h : Hdr) (a : DeriveArgs)
  /-- KEY_INVALIDATE (R327): Command that invalidates a slot at the next edge and makes its descendants STALE. -/
  | keyInvalidate (h : Hdr) (slot : Nat)
  /-- KEY_INFO (R337): Command that writes slot descriptors to host memory. -/
  | keyInfo (h : Hdr) (first count addr : Nat)
  /-- KEY_TAMPER_CLEAR (R331): Command that clears KEY_STATUS.TAMPER in QUIET. -/
  | keyTamperClear (h : Hdr)
  /-- PAIR_SWITCHOVER (R360): Command that starts a planned handover to the standby. -/
  | pairSwitchover (h : Hdr) (dwell : Nat)
  /-- PAIR_PROMOTE (R362): Command that promotes the standby into a serving mode. -/
  | pairPromote (h : Hdr) (mode : Nat)
  /-- PAIR_RESYNC (R367): Command that asks the active for a resync fill. -/
  | pairResync (h : Hdr)
  /-- UNKNOWN_OPCODE (R382): A command with an OPCODE not in the command set completes UNKNOWN_OP. -/
  | unknownOpcode (h : Hdr) (op : Nat)
  /-- GLB_UNLOCK_WRITE (R449): A write to GLB_UNLOCK arms or disarms the unlock of its origin. -/
  | glbUnlockWrite (o : Origin) (v : Nat)
  /-- UNLOCK_LAPSE (R449): An unused unlock lapses at the second sheet edge after it was armed. -/
  | unlockLapse (o : Origin)
  /-- REGISTER_WRITE (R450): A write to a register that has no behaviour of its own is judged by its access code, applied or refused, and journaled. -/
  | registerWrite (o : Origin) (a v : Nat)
  /-- POS_WRITE (R141): A write to POS_X, POS_Y, POS_Z or POS_SIGMA sets the position from the next epoch and resets smoothing. -/
  | posWrite (o : Origin) (addr v : Nat)
  /-- TIME_SNAP (R50): A write of 1 to SNAP latches the counter, the sheet number and the flags. -/
  | timeSnap (o : Origin)
  /-- KEY_STAGE_WRITE (R318): A write to a key staging register stages key or descriptor bytes, or is denied from PF1 or the maintenance SPI. -/
  | keyStageWrite (o : Origin) (addr v : Nat)
  /-- KEY_COMMIT (R319): A commit word starts the checks and the keep-alive write of a staged key. -/
  | keyCommit (o : Origin) (v : Nat)
  /-- KEY_COMMIT_SWITCH (R320): The keep-alive half-select switches and BUSY falls, ending the commit write. -/
  | keyCommitSwitch
  /-- CAL_APPLY (R205): A write of 1 to APPLY stages the calender plan for the next edge, or refuses it. -/
  | calApply (o : Origin) (k v : Nat)
  /-- OUT_DIV_HI_WRITE (R204): A write to OUT_DIV_HI applies the output divider at the next edge. -/
  | outDivHiWrite (o : Origin) (n v : Nat)
  /-- HOLD_STEER_CFG_WRITE (R181): A write that changes STEER_MODE to 1 or changes EFC_SENS latches EFC_BASE. -/
  | holdSteerCfgWrite (o : Origin) (addr v : Nat)
  /-- HOLD_TEMP_WRITE (R175): A write of HOLD_TEMP supplies a fresh host temperature. -/
  | holdTempWrite (o : Origin) (v : Nat)
  /-- CH_CFG_WRITE (R86): A write to CH_CFGn or CH_PRESCn closes the windows that name the channel with ABORTED. -/
  | chCfgWrite (o : Origin) (ch : Nat) (presc : Bool) (v : Nat)
  /-- WINDOW_DISARM_WRITE (R86): A write of ARM 0 disarms a window and aborts an open one. -/
  | windowDisarmWrite (o : Origin) (window v : Nat)
  /-- REF_ENABLE (R152): A write of ENABLE 1 moves a slot from DISABLED to UNQUALIFIED. -/
  | refEnable (o : Origin) (slot v : Nat)
  /-- REF_DISABLE (R152): A write of ENABLE 0 moves a slot to DISABLED. -/
  | refDisable (o : Origin) (slot v : Nat)
  /-- GNSS_CH_ENABLE (R111): A write of ENABLE 1 starts a tracking channel in PULL_IN, or is ignored beyond 128 channels. -/
  | gnssChEnable (o : Origin) (ch v : Nat)
  /-- GNSS_CH_DISABLE (R111): A write of ENABLE 0 stops a channel and frees an AUTO-owned one. -/
  | gnssChDisable (o : Origin) (ch v : Nat)
  /-- PORT_CFG_WRITE (R232): A write to PORT_CFG takes the link down and discards staged frames. -/
  | portCfgWrite (o : Origin) (port v : Nat)
  /-- MOD_TXDIS_WRITE (R256): A write of MOD_CTRL.TXDIS moves the port between PRESENT and LINKING. -/
  | modTxdisWrite (o : Origin) (port v : Nat)
  /-- TA_EN_WRITE (R311): Enabling a timing address sends ARP or unsolicited neighbour announcements. -/
  | taEnWrite (o : Origin) (port v : Nat)
  /-- RING_ENABLE (R378): A write of ENABLE 1 starts a ring, or refuses it with ERR CONFIG. -/
  | ringEnable (o : Origin) (ring v : Nat) (view : PcieView)
  /-- RING_DISABLE (R374): A write of ENABLE 0 stops a ring. -/
  | ringDisable (o : Origin) (ring v : Nat)
  /-- DOORBELL_WRITE (R375): A doorbell write reports the host's count of descriptors written or consumed. -/
  | doorbellWrite (fn ring count : Nat) (view : PcieView) (ds : List RingIn)
  /-- STAGED_ENTRY_POST (R379): Entries held for want of ring room are posted once room appears. -/
  | stagedEntryPost
  /-- VEC_CLAIM (R421): A read of VEC_CLAIM claims the highest-priority eligible source. -/
  | vecClaim (vector : Nat)
  /-- VEC_COMPLETE (R422): A write of VEC_COMPLETE ends a claim. -/
  | vecComplete (o : Origin) (vector v : Nat)
  /-- MSIX_UNMASK (R420): Unmasking an MSI-X vector sends its held message and clears the pending bit. -/
  | msixUnmask (vector : Nat)
  /-- SRC_FORCE (R417): A write of FORCE makes an interrupt source pending. -/
  | srcForce (o : Origin) (source v : Nat)
  /-- FLT_ACK (R429): A write to FLT_ACK acknowledges faults. -/
  | fltAck (o : Origin) (word v : Nat)
  /-- FLT_ESC_CLEAR (R430): A write to FLT_ESC_CLEAR returns escalation to NONE, or is refused. -/
  | fltEscClear (o : Origin) (v : Nat)
  /-- FLT_FORCE_ACT (R428): A write to FLT_FORCE_ACT drives fault pairs active. -/
  | fltForceAct (o : Origin) (word v : Nat)
  /-- FLT_FORCE_WIRE (R428): A write to FLT_FORCE_WIRE drives both rails of fault pairs low. -/
  | fltForceWire (o : Origin) (word v : Nat)
  /-- GLB_CNT_CLEAR (R453): A write with GO clears every event counter of a block at the next edge. -/
  | glbCntClear (o : Origin) (v : Nat)
  /-- REAM_POP (R458): A write of 1 to REAM_POP drains the oldest undrained entry. -/
  | reamPop (o : Origin) (v : Nat)
  /-- SIZ_LOAD (R466): A write of SIZ_LOAD checks the item in SIZ_BUF and loads it into the user bank. -/
  | sizLoad (o : Origin) (v : Nat)
  /-- SIZ_READ (R466): A write of GO copies a sizing item into SIZ_BUF. -/
  | sizRead (o : Origin) (v : Nat)
  /-- MB_GO (R393): A write of GO submits the mailbox command. -/
  | mbGo (v : Nat)
  /-- MSPI_TRANSFER (R392): A maintenance SPI transfer reads or writes BAR0 or the mailbox, or is rejected as malformed. -/
  | mspiTransfer (op addr : Nat) (words : List Nat) (ok : Bool)
  /-- RESET_ASSERT (R479): The power-on detector or RESET_N puts the engine into reset. -/
  | resetAssert
  /-- RESET_RELEASE (R484): Reset ends, and the start-up runs without a host. -/
  | resetRelease (cold : Bool) (k : KeepIn)
  /-- OSC_IN_DETECTED (R485): OSC_IN is identified, OSC_SEL and the calenders are set, and the system PLL starts. -/
  | oscInDetected (ratios : List Nat)
  /-- SHEET_ZERO (R486): The start-up conditions are met, and sheet 0 begins in QUIET. -/
  | sheetZero (e : EdgeIn) (met : Nat) (rest : Int)
  /-- PCIE_PERST (R481): PCIE_PERST_N resets the PCIe endpoint and disables every ring. -/
  | pciePerst
  /-- PCIE_FLR (R373): A Function Level Reset disables the rings of the function. -/
  | pcieFlr (fn : Nat)
  /-- SP_LOCK_LOSS (R195): Loss of system PLL lock is declared, coarse counting begins and REFSEL freezes. -/
  | spLockLoss (diff : Int)
  /-- SP_LOCK_DECLARED (R196): System PLL lock is declared again, and the relock wait starts. -/
  | spLockDeclared
  /-- FINE_COUNT_RESUME (R53): The relock wait expires, and fine counting resumes at the sheet edge. -/
  | fineCountResume (rest : Int)
  /-- FREEZE_COUNT_EXPIRE (R163): A clock frozen for more than FREEZE_SHEETS sheets enters HOLDOVER or FREE_RUN. -/
  | freezeCountExpire
  /-- OSC_ACTIVITY_LOSS (R199): OSC_IN activity is lost; the counter moves to the PCIe reference and the outputs squelch. -/
  | oscActivityLoss (ratio : Option Nat)
  /-- OSC_ACTIVITY_RETURN (R198): After 8,000 clean sheets OSC_IN activity returns, and coarse counting resumes. -/
  | oscActivityReturn (offset : Int)
  /-- CALENDER_UNLOCK (R207): A calender loses lock, and its outputs are held low. -/
  | calenderUnlock (k : Nat)
  /-- OUTPUT_RELEASE (R207): A held output is released on its rising edge after relock or at the whole second. -/
  | outputRelease (n : Nat)
  /-- PPS_PULSE (R209): A PPS output pulses at a whole second plus its offset. -/
  | ppsPulse (k : Nat)
  /-- TOD_FRAME_START (R211): A ToD frame for the next PPS edge starts TOD_DELAY after the edge, with its content latched. -/
  | todFrameStart (k : Nat)
  /-- VKEEP_LOSS (R444): VKEEP falls below 2.2 V, and the keep-alive state is lost. -/
  | vkeepLoss
  /-- TAMPER_TRIGGER (R330): A tamper trigger zeroises the key store within 2 µs. -/
  | tamperTrigger (p : TampIn) (ka : Nat)
  /-- PWR_WARN (R442): PWR_WARN_N low for 1 µs sets EMERG and stops admission of classes 2 to 4. -/
  | pwrWarn (low : Bool)
  /-- EMERG_EXIT (R442): PWR_WARN_N has been high for WARN_HOLD_MS, and EMERG clears at the next edge. -/
  | emergExit
  /-- KA_LATCH_EDGE (R418): A keep-alive latch captures an edge on a tamper, power, atom or module pin. -/
  | kaLatchEdge (latch ka : Nat)
  /-- KA_LATCH_TRANSFER (R418): The IRQ block takes a set latch as a pending edge source and clears the latch. -/
  | kaLatchTransfer (latch : Nat)
  /-- KA_ALIGN (R65): At a whole TAI second the keep-alive alignment pair is latched. -/
  | kaAlign (kaCount edgeTime : Nat)
  /-- KA_FREQ_UPDATE (R65): Every 1,024 s the crystal frequency offset KA_FREQ is updated. -/
  | kaFreqUpdate
  /-- ATOM_PRESENT_CHANGE (R184): ATOM_PRESENT_N held at a level for 100 ms moves the module between ABSENT and IDENT. -/
  | atomPresentChange (present : Bool)
  /-- ATOM_IDENT (R184): A valid IDENT frame stores the module's identity and enters WARMUP. -/
  | atomIdent (frame : List Byte)
  /-- ATOM_STATUS (R184): A STATUS frame updates lock state, alarms and temperature. -/
  | atomStatus (frame : List Byte)
  /-- STEER_ACK (R186): A STEER_ACK frame sets the pull p, or records a refusal. -/
  | steerAck (frame : List Byte)
  /-- ATOM_BAD_FRAME (R182): A module frame with a bad CRC, an unknown TYPE or a wrong LEN is discarded. -/
  | atomBadFrame (frame : List Byte)
  /-- ATOM_IDENT_RETRY (R184): IDENT_REQ is repeated each second, and after five unanswered requests the module is NO_ID. -/
  | atomIdentRetry
  /-- ATOM_STATUS_TIMEOUT (R184): No valid STATUS for 3 s moves the module to ABSENT. -/
  | atomStatusTimeout
  /-- ATOM_STEER_TIMEOUT (R186): A STEER without an ACK within 500 ms is sent again, or counted as a failure. -/
  | atomSteerTimeout
  /-- MOD_PRS_CHANGE (R256): MOD_PRS_N held for 100 ms makes a module ABSENT or starts its read. -/
  | modPrsChange (port : Nat) (high : Bool)
  /-- MODULE_READ_DONE (R256): The module identity read completes or fails. -/
  | moduleReadDone (port : Nat) (ok : Bool) (bytes : List Byte)
  /-- PORT_LINK_UP (R256): Block lock held for 1 ms brings a LINKING port UP. -/
  | portLinkUp (port : Nat)
  /-- PORT_LINK_DOWN (R256): Loss of block lock or MOD_LOS takes an UP port back to LINKING. -/
  | portLinkDown (port : Nat)
  /-- FRAME_RX (R236): A received frame is stored, FCS-checked, timestamped and classified by the headbox. -/
  | frameRx (port : Nat) (bytes : List Byte) (fcsOk : Bool) (time : Nat)
  /-- PAUSE_RX (R248): A received PAUSE frame stops new frames on the port for its pause time. -/
  | pauseRx (port : Nat)
  /-- PAUSE_EXPIRE (R248): The pause time ends, and transmission resumes. -/
  | pauseExpire (port : Nat)
  /-- PAUSE_STORM (R249): The pause watchdog trips, and PAUSE is ignored for the holdoff. -/
  | pauseStorm (port : Nat)
  /-- PAUSE_HOLDOFF_END (R249): The holdoff ends, and PAUSE is obeyed again. -/
  | pauseHoldoffEnd (port : Nat)
  /-- DELAY_REQ_RX (R279): A Delay_Req is policed and answered with a Delay_Resp in a reply slot. -/
  | delayReqRx (port : Nat)
  /-- PDELAY_REQ_RX (R280): A Pdelay_Req on a P2P port is answered with a Pdelay_Resp. -/
  | pdelayReqRx (port : Nat)
  /-- SIGNALING_RX (R272): A Signaling message's negotiation TLVs are processed and answered. -/
  | signalingRx (port : Nat)
  /-- MANAGEMENT_RX (R285): A Management message is checked and forwarded to the host. -/
  | managementRx (port : Nat)
  /-- UPSTREAM_ANNOUNCE_RX (R286): An Announce from an upstream master updates candidacy and the master dataset. -/
  | upstreamAnnounceRx (port : Nat)
  /-- UPSTREAM_SYNC_RX (R287): A Sync, with its Follow_Up, from the chosen master delivers offsetFromMaster to REF13. -/
  | upstreamSyncRx (port : Nat)
  /-- UPSTREAM_DELAY_RESP_RX (R287): A Delay_Resp or Pdelay response completes a delay exchange. -/
  | upstreamDelayRespRx (port : Nat)
  /-- UPSTREAM_DELAY_REQ_TX (R286): At the DREQ_LOG rate the upstream port sends a Delay_Req or Pdelay_Req. -/
  | upstreamDelayReqTx (master : Nat)
  /-- UPSTREAM_GRANT_RENEW (R286): The upstream port requests or renews grants at half their duration. -/
  | upstreamGrantRenew (master type : Nat)
  /-- UPSTREAM_CANDIDATE_TIMEOUT (R286): A master without Announces for three intervals stops being a candidate. -/
  | upstreamCandidateTimeout (master : Nat)
  /-- NTP_REQUEST_RX (R295): An NTP request is checked, rate-limited and answered, plain or through the NTS steps of R22. -/
  | ntpRequestRx (port : Nat)
  /-- ARP_RX (R309): An ARP frame for a timing address is answered or detected as a conflict. -/
  | arpRx (port : Nat)
  /-- ND_RX (R310): A neighbour discovery frame for a timing address is answered or detected as a conflict. -/
  | ndRx (port : Nat)
  /-- ESMC_PDU_RX (R164): An ESMC PDU updates a SyncE slot's SSM and eSSM. -/
  | esmcPduRx (port : Nat)
  /-- ESMC_QL_TIMEOUT (R164): No valid PDU for 5 s fails the slot's QL. -/
  | esmcQlTimeout (slot : Nat)
  /-- ESMC_TX_SECOND (R166): At each whole TAI second an information PDU is sent on enabled ports. -/
  | esmcTxSecond (port : Nat)
  /-- ESMC_EVENT_PDU_TX (R166): A change of transmitted QL sends an event PDU in the next sheet. -/
  | esmcEventPduTx (port : Nat)
  /-- LLDP_RX (R251): The EEE TLV of an LLDP frame is read into EEE_PARTNER and the frame goes to the host. -/
  | lldpRx (port : Nat)
  /-- HOST_FRAME_RX (R390): A host frame is written into receive buffers and completed, or held. -/
  | hostFrameRx (port : Nat)
  /-- RX_STALL_TIMEOUT (R390): A stalled partial frame is dropped after RX_STALL_SHEETS edges. -/
  | rxStallTimeout (ring : Nat)
  /-- TX_FRAME (R388): A host frame's transmit descriptors are read into port staging. -/
  | txFrame (t : TxIn)
  /-- UNSCHED_FRAME_START (R245): A waiting unscheduled frame starts when it fits before the next scheduled launch. -/
  | unschedFrameStart (port time : Nat)
  /-- LPI_ENTER (R252): A port with no traffic due enters low-power idle. -/
  | lpiEnter (port : Nat)
  /-- LPI_WAKE (R252): A port wakes from LPI ahead of a scheduled launch or for an unscheduled frame. -/
  | lpiWake (port : Nat)
  /-- COUCH_BLOCK_LOCK (R358): Block lock on all couch lanes for 1 ms moves the standby from ALONE or STALE to LINKING. -/
  | couchBlockLock
  /-- HELLO_RX (R358): A HELLO frame from the peer moves LINKING to FILLING, or reports PRIO_CLASH. -/
  | helloRx (at_ : Nat) (seg : List Byte)
  /-- FORWARD_FRAME_RX (R349): The standby receives a FORWARD frame and applies its entries. -/
  | forwardFrameRx (at_ : Nat) (segs : List (List Byte))
  /-- RETURN_FRAME_RX (R353): The active receives a RETURN frame with the standby's state and digests. -/
  | returnFrameRx (at_ : Nat) (seg : List Byte)
  /-- COUCH_LINK_CHECK (R358): At 120.000 µs a missing FORWARD frame counts as link lost. -/
  | couchLinkCheck
  /-- HEARTBEAT_CHECK (R355): At 62.500 µs the standby checks the heartbeat change and the rails. -/
  | heartbeatCheck (changed equal : Bool)
  /-- SPLIT_BRAIN (R365): A serving unit detects a conflict with its peer and one unit enters QUIET. -/
  | splitBrain (readback arb : Bool)
  /-- ORPHAN_PROMOTE (R362): An ORPHAN standby that meets the conditions promotes itself at the next edge. -/
  | orphanPromote (arb act : Bool)
  /-- HANDOVER_SHEET (R360): With ACCEPT received, the active runs the handover sheet, or cancels the switchover. -/
  | handoverSheet
  /-- HANDOVER_EDGE (R360): At sheet H the roles swap and the held sheets begin. -/
  | handoverEdge
  /-- HANDOVER_REPROMOTE (R361): A unit that entered MIRROR by handover and sees a RETURN frame promotes itself again at H + 1. -/
  | handoverRepromote
  /-- HELD_SHEETS_END (R363): After two held sheets the promoted unit serves its own values. -/
  | heldSheetsEnd
  /-- DRILL_EXPIRE (R364): DRILL_LEFT reaches 0, and a handover back starts or DRILL_NO_RETURN is raised. -/
  | drillExpire
  /-- TDC_EDGE (R64): An edge on a time-interval channel is interpolated and placed into open windows. -/
  | tdcEdge (ch : Nat) (src : EdgeSrc) (falling : Bool) (gap tc : Nat) (second : Bool) (tE tF : Option Nat) (after : Bool)
  /-- WINDOW_ARM (R85): A window arms at its command target, sheet offset, previous close or strobe edge. -/
  | windowArm (window : Nat)
  /-- WINDOW_CLOSE (R85): A window closes at the end of its length or its CLOSE_COUNT-th stop and yields a record. -/
  | windowClose (window : Nat)
  /-- DLL_SEARCH_DONE (R76): Ten binary-search steps end, and the line enters TRACK. -/
  | dllSearchDone (ch : Nat) (line : Bool) (coarse : Nat)
  /-- DLL_LOCK (R76): A line within ±1 fine step for 1,024 cycles becomes LOCKED. -/
  | dllLock (ch : Nat) (line : Bool) (fine : Nat)
  /-- DLL_UNLOCK (R76): A line beyond ±4 fine steps for 64 cycles returns to TRACK. -/
  | dllUnlock (ch : Nat) (line : Bool)
  /-- DLL_TRACK_TIMEOUT (R76): A line not LOCKED within 65,536 cycles of TRACK, or whose fine code hits an end, searches again. -/
  | dllTrackTimeout (ch : Nat) (line fineEnd : Bool)
  /-- TDC_DLL_FAULT (R77): A line out of LOCKED for more than 8 sheets raises TDC_DLL. -/
  | tdcDllFault (ch : Nat) (line : Bool)
  /-- CDC_TABLE_COMPUTE (R79): Full histograms yield a new bin table, or CDC_BAD. -/
  | cdcTableCompute (ch : Nat)
  /-- TAI_MS_EDGE (R117): At each TAI millisecond the spectrum is judged, notches engage and observations are latched and delivered. -/
  | taiMsEdge
  /-- CORRELATOR_DUMP (R110): At the end of a coherent interval the discriminators and loops update the channel. -/
  | correlatorDump (ch : Nat) (d : DumpIn)
  /-- PULL_IN_TIMEOUT (R111): A channel not LOCKING within 2 s of PULL_IN goes to LOST. -/
  | pullInTimeout (ch : Nat)
  /-- STEER_TIMEOUT (R116): STEER_TIMEOUT sheets without a steer entry return the channel to LOCKING. -/
  | steerTimeout (ch : Nat)
  /-- NAV_UNIT_DECODED (R124): A navigation message unit is decoded and checked, and its data is used or discarded. -/
  | navUnitDecoded (ch ty : Nat) (bits : List Bool) (item : NavItem)
  /-- SOLUTION_EPOCH (R133): At a solution epoch the time solution and T-RAIM run. -/
  | solutionEpoch
  /-- SLOT_MEASUREMENT (R149): A measurement arrives at a reference slot, θ is formed and the criteria are judged. -/
  | slotMeasurement (slot : Nat)
  /-- TOD_IN_MESSAGE (R150): A ToD input message arrives for the next 1PPS edge. -/
  | todInMessage (input baud : Nat) (frame : List Byte)
  /-- REF_WHOLE_SECOND (R151): At each whole TAI second the slot criteria, slopes and disagreements are evaluated. -/
  | refWholeSecond
  /-- SLOT_TIMER_EXPIRE (R152): A slot's QUAL or WTR timer expires and the slot moves on. -/
  | slotTimerExpire (slot : Nat)
  /-- HOLD_SECOND_SAMPLE (R170): At a whole second HOLD takes a history sample and checks the oscillator. -/
  | holdSecondSample
  /-- OSC_GOOD_EXPIRE (R178): OSC_FAIL clears after OSC_GOOD_S clean seconds. -/
  | oscGoodExpire
  /-- TEMP_STALE (R175): A host or module temperature older than 10 s becomes stale. -/
  | tempStale
  /-- LEAP_WARNING_START (R59): LEAP_WARNING is set LEAP_WARN seconds before an armed target. -/
  | leapWarningStart
  /-- NTS_GEN_AGE_EXPIRE (R306): An ACCEPT generation reaches ACCEPT_S and becomes RETIRED. -/
  | ntsGenAgeExpire (entry : Nat)
  /-- AGEING_VISIT (R281): A client record is visited, and freed if it has aged out. -/
  | ageingVisit (record : Nat)
  /-- SCRUB_PAGE (R408): The scrubber reads a page, writes back corrections and reconstructs it if needed. -/
  | scrubPage (f : PageFind)
  /-- REPAIR_COPY_DONE (R411): A column repair copy ends, and reads move to the spare with a fuse entry. -/
  | repairCopyDone
  /-- WEAR_MEASURE (R469): Every 1,024 s the wear monitors are measured and PAST is judged. -/
  | wearMeasure (ppm : List Int)
  /-- PROMOTION_PASS (R472): At entry to QUIET and every 64 s in QUIET, due BIST runs and candidates are promoted. -/
  | promotionPass
  /-- FAULT_WIRE_BREAK (R426): Equal rails on a fault pair for 4 cycles mark a broken pair. -/
  | faultWireBreak (pair : Nat) (equal : Bool)
  /-- REACTION_TIMER_EXPIRE (R430): The reaction timer expires with a fault pressing, and escalation advances one stage. -/
  | reactionTimerExpire
  /-- FAULT_N_PULSE_END (R432): The FAULT_N pulse ends, and the pin is released unless HOLD is 1. -/
  | faultNPulseEnd
  /-- VKEEP_RISE (R444): VKEEP rises from below 2.2 V, the keep-alive registers take their reset values and the keep-alive counter starts from 0. -/
  | vkeepRise (low : Bool)
  /-- SUPPLY (R493): A core rail leaves its monitor window for 2 µs and fault SUPPLY becomes active, or all rails stay inside for 100 µs and it clears. -/
  | supply (rails : List Nat) (us : Nat)
  /-- TEMP_HIGH (R493): The on-die sensor reads above 115 °C and fault TEMP_HIGH becomes active, or below 110 °C and it clears. -/
  | tempHigh (t : Int)
  /-- CALENDER_LOCK (R207): A calender reaches lock after an application, a loss of lock or the return of OSC_IN, clearing REF_BAD of the ports and couch lanes it serves. -/
  | calenderLock (k : Nat)
  /-- RING_TIME_US_EXPIRE (R380): TIME_US microseconds pass since the first unsignalled entry of a ring, and the ring raises its MSI-X vector. -/
  | ringTimeUsExpire (ring : Nat)
  /-- POSTED_WRITE_APPLIED (R452): A posted write to an analogue or keep-alive register is applied in its own clock domain and the block's BUSY falls. -/
  | postedWriteApplied (a : Nat)
  /-- AUTO_ALLOCATION (R105): With ALLOC_CFG.AUTO set, the engine starts a search on a free AUTO search for a satellite reported visible and not tracked. -/
  | autoAllocation (a : AcqArgs)
  deriving DecidableEq, Repr

end Sys2Proof
end

