-- ==== Sys2Proof/Decode.lean ====
section
/-! DEFINITION. Commands as words of the table of operations. The table gives none of its rows a bit, so no word spells a command. -/

namespace Sys2Proof

/-- The command that a word spells by the table's bits: no row of the table has any. -/
def decodeTableWord (_nbits _w : Nat) : Option Instr := none

end Sys2Proof
end

