-- ==== Sys2Proof/Config.lean ====
section
/-! DEFINITION. What a die's fuses fix and what the manual leaves open: opaque constants, so that no proof can see a value. -/

namespace Sys2Proof

/-- Silicon stepping, from the factory fuses (Table 20-2, GLB_STEP). -/
opaque Config.fuseStep : Nat
/-- Unique die number, from the factory fuses (Table 20-2, GLB_DIE_ID). -/
opaque Config.fuseDieId : Nat
/-- Generation of the factory sizing bank, from the factory fuses (R464). -/
opaque Config.fuseFgen : Nat
/-- Vat spare columns free, from the factory fuses (Table 20-10, SPARE_LEFT). -/
opaque Config.fuseSpareCols : Nat
/-- The free values: what the manual leaves open, one after another. -/
opaque Config.freeNat : Nat → Nat
/-- Factory sizing of a class A channel (R82): INL[FINE] in 2⁻¹⁶ ns. -/
opaque Config.factoryInl (ch fine : Nat) : Int
/-- Factory sizing of a class B channel (R82): entry of a line (0 E, 1 F) at a tap, in 2⁻¹⁶ ns. -/
opaque Config.factoryTap (ch line tap : Nat) : Nat
/-- Factory sizing of a channel (R82, Table 20-6): path delay D in 2⁻¹⁶ ns. -/
opaque Config.factoryDelay (ch : Nat) : Int
/-- Factory sizing of a channel (Table 20-6): uncertainty U in ps. -/
opaque Config.factoryU (ch : Nat) : Nat
/-- Class A edge measured on one line only: the manual states no conversion (R73, Table 4-1); τ in 2⁻¹⁶ ns from the
channel, the line and the tap. -/
opaque Config.halfTau (ch line tap : Nat) (after : Bool) : Int
/-- INL[FINE] that TDC_SIZE computes for a class A channel from its counts: the manual states no computation (R82). -/
opaque Config.inlOf (ch : Nat) (histE histF : List Nat) (fine : Nat) : Int
/-- Factory sizing of a spare delay line (R91): its offset in 2⁻¹⁶ ns when it stands in a line, numbered 2n for E and 2n + 1 for F. -/
opaque Config.spareOffset (spare line : Nat) : Int
/-- A chip of the primary code of a signal and SV, of the pilot or of the data component: the interface control documents and the ROM of
memory codes hold it, and the manual does not (R95). True stands for −1. -/
opaque Config.primaryChip (signal sv : Nat) (data : Bool) (chip : Nat) : Bool
/-- A chip of the secondary code of a signal and SV, as `primaryChip` (R95). -/
opaque Config.secondaryChip (signal sv : Nat) (data : Bool) (chip : Nat) : Bool
/-- The level of a sample code in a format that PORT_CFG can hold and the manual gives no meaning: FMT 3 (R96). -/
opaque Config.levelOpen (code : Nat) : Int
/-- The phase in turns that a discriminator gives where the manual states no value: of the point (0, 0), and of a quotient by 0 (R109). -/
opaque Config.phaseOpen (pilot : Bool) (y x : Rat) : Rat
/-- The code discriminator where early and late are both 0: the manual states no value (R109). -/
opaque Config.envelopeOpen : Rat
/-- The signed 16-bit word that reports a correlator in an observation: the manual states no scale (Table 5-7). -/
opaque Config.corrWord (v : Rat) : Int
/-- Depth in 0.25 dB of a notch through which no power passed: the manual states no value (R100). -/
opaque Config.depthOpen : Nat
/-- Mean lock indicator of prompts that are all zero: the manual states no value (R112). -/
opaque Config.zeroPrompt : Rat
/-- C/N0 in 0.01 dB-Hz where the noise power is not positive: the manual states no value (R112). -/
opaque Config.cn0Open (absI pow : Rat) : Nat
/-- Satellite position in metres from a record of KIND 0 at a time in TAI seconds: the Keplerian algorithm of the interface control
documents, which the manual names and does not state (R129). -/
opaque Config.keplerPos (record : List Byte) (t : Rat) : List Rat
/-- Acceleration of a GLONASS satellite by the Earth's field and rotation at a position and velocity, in m/s²: the interface control document
has it (R129). -/
opaque Config.gloField (pos vel : List Rat) : List Rat
/-- Satellite clock correction in seconds, with the relativistic term and the group delay of the signal, by the interface control documents
(R129). -/
opaque Config.satClock (record : List Byte) (signal : Nat) (t : Rat) : Rat
/-- The Klobuchar delay in metres at 1575.42 MHz, by the interface control document of a system (R130). -/
opaque Config.klobuchar (sys : Nat) (params : List Int) (pos sat : List Rat) (t : Rat) : Rat
/-- Klobuchar delay where neither GPS nor BeiDou parameters are held: the manual states no value (R130). -/
opaque Config.klobucharNone (t : Rat) : Rat
/-- What a parameter that is no number stands for: the manual states no value (Table 6-3). -/
opaque Config.notANumber (word : Nat) : Rat
/-- The height and direction of a position at the Earth's centre, which has none (R129). -/
opaque Config.centreUp : List Rat
/-- Whether an almanac record places its satellite above an elevation in degrees, with health 0 (R128). -/
opaque Config.almVisible (record : List Byte) (slot : Nat) (t : Rat) (pos : List Rat) (deg : Int) : Bool
/-- Broadcast UTC correction of a system that has sent none: the manual states no value (R134). -/
opaque Config.utcNone (sys : Nat) (t : Rat) : Rat
/-- Factory sizing of the GNSS delays (Table 20-6): item 0x200 by field: 0 D_A, 1 D_B, 2 U_A, 3 U_B, 4 to 15 D_sig,
16 to 29 D_k. -/
opaque Config.factoryGnss (field : Nat) : Int
/-- The fit of R173 where the bins do not determine it: the manual states no value; c, a and k from rows (time, weight, u, temp). -/
opaque Config.holdFitOpen : List (Rat × Rat × Rat × Rat) → Rat × Rat × Rat
/-- SIZING_ID while the peer's slot is selected, or a slot that names no channel: the manual names no item for it (R464). -/
opaque Config.peerSizing : Nat
/-- Factory sizing of a port (Table 20-6): 0 TX_INT, 1 RX_INT in 2⁻¹⁶ ns, 2 U_INT in ps. The EXT fields are 0 in that bank. -/
opaque Config.factoryPort (port field : Nat) : Int
/-- The division of a round trip between the directions where the factory delays add up to 0: the manual states no value (R258). -/
opaque Config.factoryShare (port : Nat) : Rat
/-- U_INT of a port after PORT_SIZE, from its round trip in ps: the manual states no computation (R258). -/
opaque Config.sizedUInt (port trip : Nat) : Nat
/-- The multicast address MCASTi, which no register of the map holds (Table 11-6, HB_MCAST). -/
opaque Config.mcast (i : Nat) : Nat
/-- Identification, flags and fragment offset of the IPv4 headers that the engine makes: the manual states no value. -/
opaque Config.ipv4Id : Nat
/-- Flow label of the IPv6 headers that the engine makes: the manual states no value. -/
opaque Config.ipv6Flow : Nat
/-- DSCP and hop limit of PTP messages over UDP: the manual states no value. -/
opaque Config.ptpDscp : Nat
/-- Hop limit of PTP messages over UDP: the manual states no value. -/
opaque Config.ptpHop : Nat
/-- PCP and DEI of the VLAN tag of a message that answers no tagged frame, by traffic class: the manual states no value. -/
opaque Config.vlanPcp (tc : Nat) : Nat
/-- Traffic class of the answers and announcements of R309 to R311: the manual states none. -/
opaque Config.answerTc : Nat
/-- Traffic class of ESMC PDUs: the manual states none (R166). -/
opaque Config.esmcTc : Nat
/-- originTimestamp of an Announce: the manual states no value (R266). -/
opaque Config.announceOrigin : Nat
/-- Destination MAC of an upstream message over UDP before a frame of its master has come: the manual states none (R286). -/
opaque Config.upMac (master : Nat) : Nat
/-- logInterMessagePeriod of the Announces that the upstream port requests: the manual states none (R286). -/
opaque Config.upAnnounceLog : Nat
/-- targetPortIdentity of the upstream port's Signaling: the manual states none (R286). -/
opaque Config.upTarget (master : Nat) : Nat
/-- Whether upstream requests of profile 1 go to 01-80-C2-00-00-0E rather than 01-1B-19-00-00-00: the manual names both (Table 12-1). -/
opaque Config.upGroup : Bool
/-- The 16 bytes of an extended QL TLV after its eSSM code: the manual states no value (R166). -/
opaque Config.esmcExt : Nat
/-- Whether L4_OK is given for a UDP datagram that carries no checksum, over IPv4 or IPv6 (R255 does not say). -/
opaque Config.udpNoSum : Bool → Bool
/-- The bytes of host frames that the receive holding area holds; the manual gives the area together with other uses (R390). -/
opaque Config.rxHoldBytes : Nat
/-- The PCP that TC_FROM_PCP takes for a frame without a tag (R245 speaks of tagged frames). -/
opaque Config.untaggedPcp : Nat
/-- The bit column of its bank in which a bit of a word stands; the manual gives the columns, not their order (R410, R411). -/
opaque Config.bitColumn (word bit : Nat) : Nat
/-- The column repairs of a bank in the factory fuses, as (spare, column) (R412). -/
opaque Config.factoryColumns (bank : Nat) : List (Nat × Nat)
/-- SIZED_AT of an item of the factory bank, in TAI seconds (R465). -/
opaque Config.factorySizedAt (item : Nat) : Nat
/-- The slowdown of each wear monitor at the factory, in ppm, from the factory fuses (R469). -/
opaque Config.wearBaseline : Nat → Int

end Sys2Proof
end

