-- ==== Sys2Proof/Machine/Bits.lean ====
section
/-! DEFINITION. Bit fields, two's complement, byte order, rounding and the three cyclic redundancy codes the
manual names: every helper of this kind the model uses stands here. -/

namespace Sys2Proof.Machine

/-- Field `[lsb + w - 1 : lsb]` of `v` (R3). -/
def bits (v lsb w : Nat) : Nat := v / 2 ^ lsb % 2 ^ w

/-- Bit `i` of `v`. -/
def bitOf (v i : Nat) : Bool := v / 2 ^ i % 2 == 1

/-- `v` with bit `i` made `b`. -/
def putBit (v i : Nat) (b : Bool) : Nat :=
  if bitOf v i then (if b then v else v - 2 ^ i) else (if b then v + 2 ^ i else v)

/-- `v` with field `[lsb + w - 1 : lsb]` replaced by `x`. -/
def putBits (v lsb w x : Nat) : Nat := v - bits v lsb w * 2 ^ lsb + x % 2 ^ w * 2 ^ lsb

/-- The signed reading of a `w`-bit two's-complement value (R11). -/
def toS (w v : Nat) : Int :=
  if v % 2 ^ w < 2 ^ (w - 1) then (v % 2 ^ w : Nat) else (v % 2 ^ w : Nat) - (2 ^ w : Nat)

/-- A signed number narrowed to `w` bits of two's complement. -/
def ofS (w : Nat) (i : Int) : Nat := (i % (2 ^ w : Nat)).toNat

/-- A signed number held at the ends of a `w`-bit two's-complement range. -/
def satS (w : Nat) (i : Int) : Int :=
  if i > (2 ^ (w - 1) : Nat) - 1 then (2 ^ (w - 1) : Nat) - 1
  else if i < -(2 ^ (w - 1) : Nat) then -(2 ^ (w - 1) : Nat) else i

/-- A natural number held at the top of a `w`-bit range. -/
def satN (w v : Nat) : Nat := min v (2 ^ w - 1)

/-- A signed number clamped to `lo` to `hi`. -/
def clampI (lo hi i : Int) : Int := max lo (min hi i)

/-- A signed rational clamped to `lo` to `hi`. -/
def clampQ (lo hi q : Rat) : Rat := max lo (min hi q)

/-- `a ÷ b` rounded to the nearest unit, a value exactly half-way going away from zero (R502). -/
def roundDiv (a : Int) (b : Nat) : Int :=
  if a < 0 then -(((2 * a.natAbs + b) / (2 * b) : Nat) : Int) else ((2 * a.natAbs + b) / (2 * b) : Nat)

/-- A rational rounded to the nearest unit, a value exactly half-way going away from zero (R502). -/
def roundQ (q : Rat) : Int := roundDiv q.num q.den

/-- A rational rounded up to the next unit. -/
def ceilQ (q : Rat) : Int := -((-q.num) / q.den)

/-- The greatest `n` below 2 ^ `k` for which a property that holds up to some bound holds, found bit by bit. -/
def greatest (p : Nat → Bool) : Nat → Nat → Nat
  | 0, acc => acc
  | k + 1, acc => greatest p k (if p (acc + 2 ^ k) then acc + 2 ^ k else acc)

/-- `m` × log₁₀ (`num` ÷ `den`) rounded to the nearest unit, exactly; 0 where that is negative, at most 2 ^ 16 − 1. -/
def logRound (m num den : Nat) : Nat :=
  greatest (fun n => n == 0 || decide (10 ^ (2 * n - 1) * den ^ (2 * m) ≤ num ^ (2 * m))) 16 0

/-- The whole part of a square root. -/
def isqrt (x : Nat) : Nat := greatest (fun n => decide (n * n ≤ x)) (Nat.log2 x / 2 + 1) 0

/-- A square root of a rational that is not negative, to within 2⁻⁶⁴ below (DESIGN CHOICE: the manual states no rounding of what
its formulas pass through). -/
def sqrtQ (q : Rat) : Rat := (isqrt (q.num.toNat * 2 ^ 128 / q.den) : Rat) / 2 ^ 64

/-- π to within 10⁻³⁰ (DESIGN CHOICE, as `sqrtQ`). -/
def piQ : Rat := 3141592653589793238462643383280 / 10 ^ 30

/-- The absolute value of an integer as an integer. -/
def absI (i : Int) : Int := if i < 0 then -i else i

/-- The absolute value of a rational. -/
def absQ (q : Rat) : Rat := if q < 0 then -q else q

/-- Short-time difference of a later value less an earlier one: the signed 64-bit difference (R9). -/
def sdiff (later earlier : Nat) : Int := toS 64 (ofS 64 ((later : Int) - earlier))

/-- `n` bytes of `v`, least significant first (R3). -/
def leBytes : Nat → Nat → List Byte
  | 0, _ => []
  | n + 1, v => BitVec.ofNat 8 v :: leBytes n (v / 256)

/-- The number spelled by bytes, least significant first (R3). -/
def leNat : List Byte → Nat
  | [] => 0
  | b :: bs => b.toNat + 256 * leNat bs

/-- `n` bytes of `v` in network order (R3). -/
def beBytes (n v : Nat) : List Byte := (leBytes n v).reverse

/-- The number spelled by bytes in network order (R3). -/
def beNat (bs : List Byte) : Nat := leNat bs.reverse

/-- Bytes `off` to `off + n - 1` of a block, read as a little-endian number. -/
def leAt (bs : List Byte) (off n : Nat) : Nat := leNat ((bs.drop off).take n)

/-- The element at an index, with a value for an index beyond the end. -/
def nth {α : Type} (l : List α) (i : Nat) (d : α) : α := l.getD i d

/-- A list with the element at an index replaced; unchanged beyond the end. -/
def setNth {α : Type} (l : List α) (i : Nat) (a : α) : List α := l.set i a

/-- The set bits of the low `w` bits of a mask, lowest first. -/
def bitsOf (w m : Nat) : List Nat := (List.range w).filter (fun i => bitOf m i)

/-- The mask with exactly the listed bits set. -/
def maskOf (l : List Nat) : Nat := l.dedup.foldl (fun a i => a + 2 ^ i) 0

/-- One bit step of a reflected CRC. -/
def crcStepR (poly c : Nat) : Nat := if c % 2 = 1 then (c / 2) ^^^ poly else c / 2

/-- One byte into the IEEE 802.3 CRC-32 (Table 2-1, R465). -/
def crc32Byte (c : Nat) (b : Byte) : Nat :=
  (List.range 8).foldl (fun c _ => crcStepR 0xEDB88320 c) (c ^^^ b.toNat)

/-- CRC-32 with the IEEE 802.3 polynomial over a block (Table 2-1, R465). -/
def crc32 (bs : List Byte) : Nat := bs.foldl crc32Byte 0xFFFFFFFF ^^^ 0xFFFFFFFF

/-- One bit step of an unreflected CRC of `w` bits. -/
def crcStepL (w poly c : Nat) : Nat := if bitOf c (w - 1) then (c * 2 % 2 ^ w) ^^^ poly else c * 2 % 2 ^ w

/-- CRC-16 with polynomial 0x1021 from 0xFFFF over a block (the serial frames of the manual). -/
def crc16 (bs : List Byte) : Nat :=
  bs.foldl (fun c b => (List.range 8).foldl (fun c _ => crcStepL 16 0x1021 c) (c ^^^ (b.toNat * 256))) 0xFFFF

/-- CRC-8 with polynomial 0x07 over a block (Table 17-4). -/
def crc8 (bs : List Byte) : Nat :=
  bs.foldl (fun c b => (List.range 8).foldl (fun c _ => crcStepL 8 0x07 c) (c ^^^ b.toNat)) 0

end Sys2Proof.Machine
end

