-- ==== Sys2Proof/Machine/Regs.lean ====
section
/-! DEFINITION. The shape of a register field and of a row of a register map (R3 to R7, R13), and the register
file as plain data in one canonical form. -/

namespace Sys2Proof.Machine

/-- A register field: where it stands (`32 × BAR0 offset + lsb`), its width in bits (32 or more bits across the
_LO and _HI registers of a pair, R5), and its reset value (R4). -/
structure Fld where
  key : Nat
  width : Nat
  rst : Nat
  deriving DecidableEq, Repr

/-- The access codes of Table 0-4 (R7). -/
inductive Access where
  | ro | rw | wo | rwl | rwt | hro
  deriving DecidableEq, Repr

/-- The values a write may leave in a field; a write of another value is ignored where the map states a range. -/
inductive Allowed where
  | any
  | range (lo hi : Nat)
  | oneOf (l : List Nat)
  deriving DecidableEq, Repr

/-- Whether a value is one a field may take. -/
def Allowed.ok : Allowed → Nat → Bool
  | .any, _ => true
  | .range lo hi, v => decide (lo ≤ v) && decide (v ≤ hi)
  | .oneOf l, v => l.contains v

/-- Which part of its field a map row holds: all of it, or the _LO or _HI register of a pair (R5). -/
inductive Half where
  | whole
  | lo (hiWidth : Nat)
  | hi
  deriving DecidableEq, Repr

/-- One row of a register map: the BAR0 offset of its first instance, two array strides with their counts,
its bits, its access code, its reset values by instance, the values a write may leave, and whether it is part of a
48-bit event counter (R453). -/
structure Row where
  addr : Nat
  s1 : Nat
  n1 : Nat
  s2 : Nat
  n2 : Nat
  lsb : Nat
  w : Nat
  acc : Access
  rst : List Nat
  ok : Allowed
  half : Half
  cnt : Bool
  deriving DecidableEq, Repr

/-- The reset value of an instance: that of the list, the last one repeated. -/
def rstAt (l : List Nat) (i : Nat) : Nat := nth l i (l.getLastD 0)

/-- The instance of a row that stands at a BAR0 offset, if one does. -/
def Row.instAt (r : Row) (a : Nat) : Option Nat :=
  if a < r.addr then none
  else
    let d := a - r.addr
    let i := if r.n1 ≤ 1 then 0 else d / r.s1
    let e := if r.n1 ≤ 1 then d else d % r.s1
    let j := if r.n2 ≤ 1 then 0 else e / r.s2
    let f := if r.n2 ≤ 1 then e else e % r.s2
    if decide (i < max r.n1 1) && decide (j < max r.n2 1) && f == 0 then some (i * max r.n2 1 + j) else none

/-- The field that an instance of a row stands for; both registers of a pair name the whole value. -/
def Row.fld (r : Row) (a i : Nat) : Fld :=
  match r.half with
  | .whole => ⟨32 * a + r.lsb, r.w, rstAt r.rst i⟩
  | .lo hw => ⟨32 * a, 32 + hw, rstAt r.rst i⟩
  | .hi => ⟨32 * (a - 4), 32 + r.w, rstAt r.rst i⟩

/-- A register file: (field key, value) pairs, keys strictly rising; a field never written is not listed and at its reset
value. -/
abbrev RegFile := List (Nat × Nat)

/-- The value listed for a key. -/
def RegFile.find : RegFile → Nat → Option Nat
  | [], _ => none
  | (k, v) :: t, x => if k = x then some v else if x < k then none else RegFile.find t x

/-- The file with a key's entry put in its place. -/
def RegFile.insert : RegFile → Nat → Nat → RegFile
  | [], x, y => [(x, y)]
  | (k, v) :: t, x, y =>
    if k = x then (x, y) :: t
    else if x < k then (x, y) :: (k, v) :: t else (k, v) :: RegFile.insert t x y

/-- The value of a field: the listed one, else its reset value (R4), in the bits that the field has. -/
def RegFile.get (m : RegFile) (f : Fld) : Nat := (m.find f.key).getD f.rst % 2 ^ f.width

/-- The file after a field takes a value, narrowed to the field's width. -/
def RegFile.put (m : RegFile) (f : Fld) (v : Nat) : RegFile := m.insert f.key (v % 2 ^ f.width)

/-- The canonical form: keys strictly rising. -/
def RegFile.wf : RegFile → Bool
  | [] => true
  | [_] => true
  | (k, _) :: (k', v') :: t => decide (k < k') && RegFile.wf ((k', v') :: t)

end Sys2Proof.Machine
end

