-- ==== Sys2Proof/Machine/RegMap.lean ====
section
/-! DEFINITION. Every register field of the 26 blocks, one definition each under its block's name, with its place,
width and reset value, and the map of each block as rows with their access codes (Tables 2-8 to 20-11). -/

namespace Sys2Proof.Machine.GLB

/-- Table 20-2, GLB_ID DEVICE [15:0], RO: Device -/
def GLB_ID_DEVICE : Fld := ⟨32 * 0x0, 16, 38472⟩
/-- Table 20-2, GLB_ID VENDOR [31:16], RO: Oaskali -/
def GLB_ID_VENDOR : Fld := ⟨32 * 0x0 + 16, 16, 8046⟩
/-- Table 20-2, GLB_STEP STEP [7:0], RO: Silicon stepping -/
def GLB_STEP_STEP : Fld := ⟨32 * 0x4, 8, Config.fuseStep⟩
/-- Table 20-2, GLB_STEP MEMBER [15:8], RO: Atdun family member -/
def GLB_STEP_MEMBER : Fld := ⟨32 * 0x4 + 8, 8, 1⟩
/-- Table 20-2, GLB_DIE_ID_LO ID [63:0] over its _LO and _HI, RO: Unique die number, low word -/
def GLB_DIE_ID : Fld := ⟨32 * 0x8, 64, Config.fuseDieId⟩
/-- Table 20-2, GLB_UNLOCK KEY [31:0], WO: R449 -/
def GLB_UNLOCK : Fld := ⟨32 * 0x10, 32, 0⟩
/-- Table 20-2, GLB_STATUS UNLOCK_PF0 [0:0], HRO: Unlock armed for PF0 -/
def GLB_STATUS_UNLOCK_PF0 : Fld := ⟨32 * 0x14, 1, 0⟩
/-- Table 20-2, GLB_STATUS UNLOCK_MSPI [1:1], HRO: Unlock armed for MSPI -/
def GLB_STATUS_UNLOCK_MSPI : Fld := ⟨32 * 0x14 + 1, 1, 0⟩
/-- Table 20-2, GLB_STATUS VOTE_MISMATCH [2:2], HRO: Sticky; R451 -/
def GLB_STATUS_VOTE_MISMATCH : Fld := ⟨32 * 0x14 + 2, 1, 0⟩
/-- Table 20-2, GLB_STATUS VOTE_FAIL [3:3], HRO: Sticky; R451 -/
def GLB_STATUS_VOTE_FAIL : Fld := ⟨32 * 0x14 + 3, 1, 0⟩
/-- Table 20-2, GLB_MODE MODE [2:0], RWT: Mode in force, encoded as in Table 15-1. It changes only by MODE_SET; a register write is refused under R450. -/
def GLB_MODE_MODE : Fld := ⟨32 * 0x18, 3, 0⟩
/-- Table 20-2, GLB_MODE PEND_MODE [6:4], HRO: Mode of a pending MODE_SET -/
def GLB_MODE_PEND_MODE : Fld := ⟨32 * 0x18 + 4, 3, 0⟩
/-- Table 20-2, GLB_MODE PENDING [7:7], HRO: A MODE_SET is pending -/
def GLB_MODE_PENDING : Fld := ⟨32 * 0x18 + 7, 1, 0⟩
/-- Table 20-2, VOTE_ADDR ADDR [21:0], HRO: BAR0 offset of the last mismatch -/
def VOTE_ADDR : Fld := ⟨32 * 0x1C, 22, 0⟩
/-- Table 20-2, GLB_CNT_OVF OVF [25:0], HRO: Sticky; R453 -/
def GLB_CNT_OVF : Fld := ⟨32 * 0x20, 26, 0⟩
/-- Table 20-2, GLB_CNT_CLEAR BLOCK [4:0], WO: R453 -/
def GLB_CNT_CLEAR_BLOCK : Fld := ⟨32 * 0x24, 5, 0⟩
/-- Table 20-2, GLB_CNT_CLEAR GO [31:31], WO: R453 -/
def GLB_CNT_CLEAR_GO : Fld := ⟨32 * 0x24 + 31, 1, 0⟩
/-- Table 20-2, GLB_CAP0 CLIENTS [20:0], RO: Client records -/
def GLB_CAP0 : Fld := ⟨32 * 0x30, 21, 1048576⟩
/-- Table 20-2, GLB_CAP1 DECKLE [12:0], RO: Entries per deckle -/
def GLB_CAP1_DECKLE : Fld := ⟨32 * 0x34, 13, 4096⟩
/-- Table 20-2, GLB_CAP1 NEG [28:16], RO: Pending negotiations -/
def GLB_CAP1_NEG : Fld := ⟨32 * 0x34 + 16, 13, 4096⟩
/-- Table 20-2, GLB_CAP2 KEYS [8:0], RO: Key slots -/
def GLB_CAP2_KEYS : Fld := ⟨32 * 0x38, 9, 256⟩
/-- Table 20-2, GLB_CAP2 CHANNELS [23:16], RO: Enabled tracking channels -/
def GLB_CAP2_CHANNELS : Fld := ⟨32 * 0x38 + 16, 8, 128⟩
/-- Table 20-2, RWL_DENY_CNT COUNT [47:0] over its _LO and _HI, HRO: R450 -/
def RWL_DENY_CNT : Fld := ⟨32 * 0x40, 48, 0⟩
/-- Table 20-2, VOTE_CNT COUNT [47:0] over its _LO and _HI, HRO: R451 -/
def VOTE_CNT : Fld := ⟨32 * 0x48, 48, 0⟩
/-- Table 20-2, POSTED_DROP_CNT COUNT [47:0] over its _LO and _HI, HRO: R452 -/
def POSTED_DROP_CNT : Fld := ⟨32 * 0x50, 48, 0⟩

/-- The register map of block GLB, part 1 of 1. -/
def rows1 : List Row :=
  [⟨0x0, 0x0, 1, 0x0, 1, 0, 16, .ro, [38472], .any, .whole, false⟩,
   ⟨0x0, 0x0, 1, 0x0, 1, 16, 16, .ro, [8046], .any, .whole, false⟩,
   ⟨0x4, 0x0, 1, 0x0, 1, 0, 8, .ro, [Config.fuseStep], .any, .whole, false⟩,
   ⟨0x4, 0x0, 1, 0x0, 1, 8, 8, .ro, [1], .any, .whole, false⟩,
   ⟨0x8, 0x0, 1, 0x0, 1, 0, 32, .ro, [Config.fuseDieId], .any, (.lo 32), false⟩,
   ⟨0xC, 0x0, 1, 0x0, 1, 0, 32, .ro, [Config.fuseDieId], .any, .hi, false⟩,
   ⟨0x10, 0x0, 1, 0x0, 1, 0, 32, .wo, [0], .any, .whole, false⟩,
   ⟨0x14, 0x0, 1, 0x0, 1, 0, 1, .hro, [0], .any, .whole, false⟩,
   ⟨0x14, 0x0, 1, 0x0, 1, 1, 1, .hro, [0], .any, .whole, false⟩,
   ⟨0x14, 0x0, 1, 0x0, 1, 2, 1, .hro, [0], .any, .whole, false⟩,
   ⟨0x14, 0x0, 1, 0x0, 1, 3, 1, .hro, [0], .any, .whole, false⟩,
   ⟨0x18, 0x0, 1, 0x0, 1, 0, 3, .rwt, [0], .any, .whole, false⟩,
   ⟨0x18, 0x0, 1, 0x0, 1, 4, 3, .hro, [0], .any, .whole, false⟩,
   ⟨0x18, 0x0, 1, 0x0, 1, 7, 1, .hro, [0], .any, .whole, false⟩,
   ⟨0x1C, 0x0, 1, 0x0, 1, 0, 22, .hro, [0], .any, .whole, false⟩,
   ⟨0x20, 0x0, 1, 0x0, 1, 0, 26, .hro, [0], .any, .whole, false⟩,
   ⟨0x24, 0x0, 1, 0x0, 1, 0, 5, .wo, [0], .any, .whole, false⟩,
   ⟨0x24, 0x0, 1, 0x0, 1, 31, 1, .wo, [0], .any, .whole, false⟩,
   ⟨0x30, 0x0, 1, 0x0, 1, 0, 21, .ro, [1048576], .any, .whole, false⟩,
   ⟨0x34, 0x0, 1, 0x0, 1, 0, 13, .ro, [4096], .any, .whole, false⟩,
   ⟨0x34, 0x0, 1, 0x0, 1, 16, 13, .ro, [4096], .any, .whole, false⟩,
   ⟨0x38, 0x0, 1, 0x0, 1, 0, 9, .ro, [256], .any, .whole, false⟩,
   ⟨0x38, 0x0, 1, 0x0, 1, 16, 8, .ro, [128], .any, .whole, false⟩,
   ⟨0x40, 0x0, 1, 0x0, 1, 0, 32, .hro, [0], .any, (.lo 16), true⟩,
   ⟨0x44, 0x0, 1, 0x0, 1, 0, 16, .hro, [0], .any, .hi, true⟩,
   ⟨0x48, 0x0, 1, 0x0, 1, 0, 32, .hro, [0], .any, (.lo 16), true⟩,
   ⟨0x4C, 0x0, 1, 0x0, 1, 0, 16, .hro, [0], .any, .hi, true⟩,
   ⟨0x50, 0x0, 1, 0x0, 1, 0, 32, .hro, [0], .any, (.lo 16), true⟩,
   ⟨0x54, 0x0, 1, 0x0, 1, 0, 16, .hro, [0], .any, .hi, true⟩]

/-- The register map of block GLB. -/
def rows : List Row := rows1

end Sys2Proof.Machine.GLB

namespace Sys2Proof.Machine.LEDGER

/-- Table 19-4, LEDGER_STATUS EMERG [0:0], HRO: R442 -/
def LEDGER_STATUS_EMERG : Fld := ⟨32 * 0x10000, 1, 0⟩
/-- Table 19-4, LEDGER_STATUS THIN [1:1], HRO: R438 -/
def LEDGER_STATUS_THIN : Fld := ⟨32 * 0x10000 + 1, 1, 0⟩
/-- Table 19-4, LEDGER_STATUS RESERVE_OVER [2:2], HRO: Class 0 beyond RESERVE in the last sheet -/
def LEDGER_STATUS_RESERVE_OVER : Fld := ⟨32 * 0x10000 + 2, 1, 0⟩
/-- Table 19-4, LEDGER_STATUS WARN_PIN [3:3], HRO: PWR_WARN_N level -/
def LEDGER_STATUS_WARN_PIN : Fld := ⟨32 * 0x10000 + 3, 1, 1⟩
/-- Table 19-4, CEILING DA [8:0], RWT: 0.1 A units -/
def CEILING : Fld := ⟨32 * 0x10004, 9, 320⟩
/-- Table 19-4, EMERG_CEILING DA [8:0], RWT: 0.1 A units -/
def EMERG_CEILING : Fld := ⟨32 * 0x10008, 9, 80⟩
/-- Table 19-4, RESERVE STOCK [31:0], RW: R440 -/
def RESERVE : Fld := ⟨32 * 0x1000C, 32, 1500000⟩
/-- Table 19-4, FLOORc STOCK [31:0], RW: For c = 1 to 4 -/
def FLOOR (c : Nat) : Fld := ⟨32 * (0x10010 + 0x4 * (c - 1)), 32, (rstAt [4000000, 3000000, 500000, 200000] (c - 1))⟩
/-- Table 19-4, CAPc STOCK [31:0], RW: R439 -/
def CAP (c : Nat) : Fld := ⟨32 * (0x10020 + 0x4 * (c - 1)), 32, 4294967295⟩
/-- Table 19-4, WARN_CFG WARN_HOLD_MS [15:0], RW: 1 to 65,535; 0 is ignored -/
def WARN_CFG_WARN_HOLD_MS : Fld := ⟨32 * 0x10030, 16, 100⟩
/-- Table 19-4, WARN_CFG WARN_EN [16:16], RW: R442 -/
def WARN_CFG_WARN_EN : Fld := ⟨32 * 0x10030 + 16, 1, 1⟩
/-- Table 19-4, BUDGET STOCK [31:0], HRO: B of this sheet -/
def BUDGET : Fld := ⟨32 * 0x10040, 32, 40000000⟩
/-- Table 19-4, SHARED_LEFT STOCK [31:0], HRO: Shared stock left -/
def SHARED_LEFT : Fld := ⟨32 * 0x10044, 32, 0⟩
/-- Table 19-4, USEDc STOCK [31:0], HRO: Class c, last complete sheet, c = 0 to 4 -/
def USED (c : Nat) : Fld := ⟨32 * (0x10080 + 0x4 * c), 32, 0⟩
/-- Table 19-4, REFUSE_CNTc COUNT [47:0] over its _LO and _HI, HRO: R439, c = 1 to 4 -/
def REFUSE_CNT (c : Nat) : Fld := ⟨32 * (0x10100 + 0x8 * c), 48, 0⟩
/-- Table 19-4, EMERG_CNT COUNT [47:0] over its _LO and _HI, HRO: R442 -/
def EMERG_CNT : Fld := ⟨32 * 0x10140, 48, 0⟩
/-- Table 19-4, RESERVE_OVER_CNT COUNT [47:0] over its _LO and _HI, HRO: R440 -/
def RESERVE_OVER_CNT : Fld := ⟨32 * 0x10148, 48, 0⟩

/-- The register map of block LEDGER, part 1 of 1. -/
def rows1 : List Row :=
  [⟨0x10000, 0x0, 1, 0x0, 1, 0, 1, .hro, [0], .any, .whole, false⟩,
   ⟨0x10000, 0x0, 1, 0x0, 1, 1, 1, .hro, [0], .any, .whole, false⟩,
   ⟨0x10000, 0x0, 1, 0x0, 1, 2, 1, .hro, [0], .any, .whole, false⟩,
   ⟨0x10000, 0x0, 1, 0x0, 1, 3, 1, .hro, [1], .any, .whole, false⟩,
   ⟨0x10004, 0x0, 1, 0x0, 1, 0, 9, .rwt, [320], (.range 60 320), .whole, false⟩,
   ⟨0x10008, 0x0, 1, 0x0, 1, 0, 9, .rwt, [80], (.range 60 320), .whole, false⟩,
   ⟨0x1000C, 0x0, 1, 0x0, 1, 0, 32, .rw, [1500000], .any, .whole, false⟩,
   ⟨0x10010, 0x4, 4, 0x0, 1, 0, 32, .rw, [4000000, 3000000, 500000, 200000], .any, .whole, false⟩,
   ⟨0x10020, 0x4, 4, 0x0, 1, 0, 32, .rw, [4294967295], .any, .whole, false⟩,
   ⟨0x10030, 0x0, 1, 0x0, 1, 0, 16, .rw, [100], (.range 1 65535), .whole, false⟩,
   ⟨0x10030, 0x0, 1, 0x0, 1, 16, 1, .rw, [1], .any, .whole, false⟩,
   ⟨0x10040, 0x0, 1, 0x0, 1, 0, 32, .hro, [40000000], .any, .whole, false⟩,
   ⟨0x10044, 0x0, 1, 0x0, 1, 0, 32, .hro, [0], .any, .whole, false⟩,
   ⟨0x10080, 0x4, 5, 0x0, 1, 0, 32, .hro, [0], .any, .whole, false⟩,
   ⟨0x10108, 0x8, 4, 0x0, 1, 0, 32, .hro, [0], .any, (.lo 16), true⟩,
   ⟨0x1010C, 0x8, 4, 0x0, 1, 0, 16, .hro, [0], .any, .hi, true⟩,
   ⟨0x10140, 0x0, 1, 0x0, 1, 0, 32, .hro, [0], .any, (.lo 16), true⟩,
   ⟨0x10144, 0x0, 1, 0x0, 1, 0, 16, .hro, [0], .any, .hi, true⟩,
   ⟨0x10148, 0x0, 1, 0x0, 1, 0, 32, .hro, [0], .any, (.lo 16), true⟩,
   ⟨0x1014C, 0x0, 1, 0x0, 1, 0, 16, .hro, [0], .any, .hi, true⟩]

/-- The register map of block LEDGER. -/
def rows : List Row := rows1

end Sys2Proof.Machine.LEDGER

namespace Sys2Proof.Machine.SHEET

/-- Table 2-8, SHEET_NUM_LO NUM [63:0] over its _LO and _HI, HRO: Sheet number, low word -/
def SHEET_NUM : Fld := ⟨32 * 0x20000, 64, 0⟩
/-- Table 2-8, SHEET_PHASE K [15:0], HRO: Deckle index entry in use (R26) -/
def SHEET_PHASE : Fld := ⟨32 * 0x20008, 16, 0⟩
/-- Table 2-8, SHEET_STATUS THIN [0:0], HRO: The sheet is thin -/
def SHEET_STATUS_THIN : Fld := ⟨32 * 0x2000C, 1, 0⟩
/-- Table 2-8, SHEET_STATUS CARRYING [1:1], HRO: Carried work is pending -/
def SHEET_STATUS_CARRYING : Fld := ⟨32 * 0x2000C + 1, 1, 0⟩
/-- Table 2-8, SHEET_STATUS EMPTY_SCHED [2:2], HRO: The empty schedule runs -/
def SHEET_STATUS_EMPTY_SCHED : Fld := ⟨32 * 0x2000C + 2, 1, 1⟩
/-- Table 2-8, SHEET_STATUS PENDING [3:3], HRO: An activation is pending -/
def SHEET_STATUS_PENDING : Fld := ⟨32 * 0x2000C + 3, 1, 0⟩
/-- Table 2-8, SHEET_STATUS TRAP [4:4], HRO: Sticky; a schedule fetch has trapped -/
def SHEET_STATUS_TRAP : Fld := ⟨32 * 0x2000C + 4, 1, 0⟩
/-- Table 2-8, SHEET_STATUS ACTIVE_BUF [5:5], HRO: 0 for A, 1 for B; valid when EMPTY_SCHED is 0 -/
def SHEET_STATUS_ACTIVE_BUF : Fld := ⟨32 * 0x2000C + 5, 1, 0⟩
/-- Table 2-8, SHEET_STATUS PEND_BUF [6:6], HRO: Buffer of the pending activation -/
def SHEET_STATUS_PEND_BUF : Fld := ⟨32 * 0x2000C + 6, 1, 0⟩
/-- Table 2-8, SHEET_STATUS STATE_A [10:8], HRO: Buffer A state, Table 2-5 -/
def SHEET_STATUS_STATE_A : Fld := ⟨32 * 0x2000C + 8, 3, 0⟩
/-- Table 2-8, SHEET_STATUS STATE_B [14:12], HRO: Buffer B state, Table 2-5 -/
def SHEET_STATUS_STATE_B : Fld := ⟨32 * 0x2000C + 12, 3, 0⟩
/-- Table 2-8, PEND_SHEET_LO S [63:0] over its _LO and _HI, HRO: Sheet of the pending activation -/
def PEND_SHEET : Fld := ⟨32 * 0x20010, 64, 0⟩
/-- Table 2-8, SHEET_CFG CARRY_LIMIT [4:0], RW: 1 to 16 sheets; a write outside that range is ignored -/
def SHEET_CFG_CARRY_LIMIT : Fld := ⟨32 * 0x20020, 5, 4⟩
/-- Table 2-8, SHEET_CFG STROBE_LATE_POL [16:16], RW: Default policy, Table 2-6 -/
def SHEET_CFG_STROBE_LATE_POL : Fld := ⟨32 * 0x20020 + 16, 1, 1⟩
/-- Table 2-8, SHEET_CFG HOP_LATE_POL [17:17], RW: Default policy -/
def SHEET_CFG_HOP_LATE_POL : Fld := ⟨32 * 0x20020 + 17, 1, 0⟩
/-- Table 2-8, SHEET_CFG MOULD_LATE_POL [18:18], RW: Default policy -/
def SHEET_CFG_MOULD_LATE_POL : Fld := ⟨32 * 0x20020 + 18, 1, 0⟩
/-- Table 2-8, SHEET_CFG LEAP_LATE_POL [19:19], RW: Default policy -/
def SHEET_CFG_LEAP_LATE_POL : Fld := ⟨32 * 0x20020 + 19, 1, 0⟩
/-- Table 2-8, OVERRUN_CNT COUNT [47:0] over its _LO and _HI, HRO: Overrun sheets -/
def OVERRUN_CNT : Fld := ⟨32 * 0x20030, 48, 0⟩
/-- Table 2-8, SEND_DROP_CNT COUNT [47:0] over its _LO and _HI, HRO: Sends dropped by R32 -/
def SEND_DROP_CNT : Fld := ⟨32 * 0x20038, 48, 0⟩
/-- Table 2-8, CARRY_DROP_CNT COUNT [47:0] over its _LO and _HI, HRO: Work dropped by R42 -/
def CARRY_DROP_CNT : Fld := ⟨32 * 0x20040, 48, 0⟩
/-- Table 2-8, LATE_CNT COUNT [47:0] over its _LO and _HI, HRO: Actions executed late -/
def LATE_CNT : Fld := ⟨32 * 0x20048, 48, 0⟩
/-- Table 2-8, LATE_DISCARD_CNT COUNT [47:0] over its _LO and _HI, HRO: Actions discarded as late -/
def LATE_DISCARD_CNT : Fld := ⟨32 * 0x20050, 48, 0⟩
/-- Table 2-8, TRAP_CNT COUNT [47:0] over its _LO and _HI, HRO: Schedule traps -/
def TRAP_CNT : Fld := ⟨32 * 0x20058, 48, 0⟩
/-- Table 2-8, TRAP_ADDR ADDR [26:0], HRO: Vat address of the last trap -/
def TRAP_ADDR : Fld := ⟨32 * 0x20060, 27, 0⟩
/-- Table 2-8, TRAP_SHEET_LO SHEET [63:0] over its _LO and _HI, HRO: Sheet of the last trap -/
def TRAP_SHEET : Fld := ⟨32 * 0x20064, 64, 0⟩
/-- Table 2-8, MOULD_ID_A_LO ID [63:0] over its _LO and _HI, HRO: MOULD_ID of buffer A -/
def MOULD_ID_A : Fld := ⟨32 * 0x20070, 64, 0⟩
/-- Table 2-8, MOULD_ID_B_LO ID [63:0] over its _LO and _HI, HRO: MOULD_ID of buffer B -/
def MOULD_ID_B : Fld := ⟨32 * 0x20078, 64, 0⟩
/-- Table 2-8, LOAD_REASON CODE [7:0], HRO: Reason code of the last rejected load, Table 2-4 -/
def LOAD_REASON : Fld := ⟨32 * 0x20080, 8, 0⟩

/-- The register map of block SHEET, part 1 of 2. -/
def rows1 : List Row :=
  [⟨0x20000, 0x0, 1, 0x0, 1, 0, 32, .hro, [0], .any, (.lo 32), false⟩,
   ⟨0x20004, 0x0, 1, 0x0, 1, 0, 32, .hro, [0], .any, .hi, false⟩,
   ⟨0x20008, 0x0, 1, 0x0, 1, 0, 16, .hro, [0], .any, .whole, false⟩,
   ⟨0x2000C, 0x0, 1, 0x0, 1, 0, 1, .hro, [0], .any, .whole, false⟩,
   ⟨0x2000C, 0x0, 1, 0x0, 1, 1, 1, .hro, [0], .any, .whole, false⟩,
   ⟨0x2000C, 0x0, 1, 0x0, 1, 2, 1, .hro, [1], .any, .whole, false⟩,
   ⟨0x2000C, 0x0, 1, 0x0, 1, 3, 1, .hro, [0], .any, .whole, false⟩,
   ⟨0x2000C, 0x0, 1, 0x0, 1, 4, 1, .hro, [0], .any, .whole, false⟩,
   ⟨0x2000C, 0x0, 1, 0x0, 1, 5, 1, .hro, [0], .any, .whole, false⟩,
   ⟨0x2000C, 0x0, 1, 0x0, 1, 6, 1, .hro, [0], .any, .whole, false⟩,
   ⟨0x2000C, 0x0, 1, 0x0, 1, 8, 3, .hro, [0], .any, .whole, false⟩,
   ⟨0x2000C, 0x0, 1, 0x0, 1, 12, 3, .hro, [0], .any, .whole, false⟩,
   ⟨0x20010, 0x0, 1, 0x0, 1, 0, 32, .hro, [0], .any, (.lo 32), false⟩,
   ⟨0x20014, 0x0, 1, 0x0, 1, 0, 32, .hro, [0], .any, .hi, false⟩,
   ⟨0x20020, 0x0, 1, 0x0, 1, 0, 5, .rw, [4], (.range 1 16), .whole, false⟩,
   ⟨0x20020, 0x0, 1, 0x0, 1, 16, 1, .rw, [1], .any, .whole, false⟩,
   ⟨0x20020, 0x0, 1, 0x0, 1, 17, 1, .rw, [0], .any, .whole, false⟩,
   ⟨0x20020, 0x0, 1, 0x0, 1, 18, 1, .rw, [0], .any, .whole, false⟩,
   ⟨0x20020, 0x0, 1, 0x0, 1, 19, 1, .rw, [0], .any, .whole, false⟩,
   ⟨0x20030, 0x0, 1, 0x0, 1, 0, 32, .hro, [0], .any, (.lo 16), true⟩,
   ⟨0x20034, 0x0, 1, 0x0, 1, 0, 16, .hro, [0], .any, .hi, true⟩,
   ⟨0x20038, 0x0, 1, 0x0, 1, 0, 32, .hro, [0], .any, (.lo 16), true⟩,
   ⟨0x2003C, 0x0, 1, 0x0, 1, 0, 16, .hro, [0], .any, .hi, true⟩,
   ⟨0x20040, 0x0, 1, 0x0, 1, 0, 32, .hro, [0], .any, (.lo 16), true⟩,
   ⟨0x20044, 0x0, 1, 0x0, 1, 0, 16, .hro, [0], .any, .hi, true⟩,
   ⟨0x20048, 0x0, 1, 0x0, 1, 0, 32, .hro, [0], .any, (.lo 16), true⟩,
   ⟨0x2004C, 0x0, 1, 0x0, 1, 0, 16, .hro, [0], .any, .hi, true⟩,
   ⟨0x20050, 0x0, 1, 0x0, 1, 0, 32, .hro, [0], .any, (.lo 16), true⟩,
   ⟨0x20054, 0x0, 1, 0x0, 1, 0, 16, .hro, [0], .any, .hi, true⟩,
   ⟨0x20058, 0x0, 1, 0x0, 1, 0, 32, .hro, [0], .any, (.lo 16), true⟩]

/-- The register map of block SHEET, part 2 of 2. -/
def rows2 : List Row :=
  [⟨0x2005C, 0x0, 1, 0x0, 1, 0, 16, .hro, [0], .any, .hi, true⟩,
   ⟨0x20060, 0x0, 1, 0x0, 1, 0, 27, .hro, [0], .any, .whole, false⟩,
   ⟨0x20064, 0x0, 1, 0x0, 1, 0, 32, .hro, [0], .any, (.lo 32), false⟩,
   ⟨0x20068, 0x0, 1, 0x0, 1, 0, 32, .hro, [0], .any, .hi, false⟩,
   ⟨0x20070, 0x0, 1, 0x0, 1, 0, 32, .hro, [0], .any, (.lo 32), false⟩,
   ⟨0x20074, 0x0, 1, 0x0, 1, 0, 32, .hro, [0], .any, .hi, false⟩,
   ⟨0x20078, 0x0, 1, 0x0, 1, 0, 32, .hro, [0], .any, (.lo 32), false⟩,
   ⟨0x2007C, 0x0, 1, 0x0, 1, 0, 32, .hro, [0], .any, .hi, false⟩,
   ⟨0x20080, 0x0, 1, 0x0, 1, 0, 8, .hro, [0], .any, .whole, false⟩]

/-- The register map of block SHEET. -/
def rows : List Row := rows1 ++ rows2

end Sys2Proof.Machine.SHEET

namespace Sys2Proof.Machine.TIME

/-- Table 3-4, TIME_SNAP SNAP [0:0], WO: 1 latches the snapshot (R50) -/
def TIME_SNAP : Fld := ⟨32 * 0x30000, 1, 0⟩
/-- Table 3-4, SNAP_SEC_LO SEC [47:0] over its _LO and _HI, HRO: TAI seconds, low word -/
def SNAP_SEC : Fld := ⟨32 * 0x30004, 48, 0⟩
/-- Table 3-4, SNAP_NS NS [29:0], HRO: Nanoseconds -/
def SNAP_NS : Fld := ⟨32 * 0x3000C, 30, 0⟩
/-- Table 3-4, SNAP_FRAC FRAC [15:0], HRO: Fraction in 2⁻¹⁶ ns -/
def SNAP_FRAC_FRAC : Fld := ⟨32 * 0x30010, 16, 0⟩
/-- Table 3-4, SNAP_FRAC COARSE [16:16], HRO: Coarse counting at the snapshot -/
def SNAP_FRAC_COARSE : Fld := ⟨32 * 0x30010 + 16, 1, 0⟩
/-- Table 3-4, SNAP_FRAC SET [17:17], HRO: Time had been set at the snapshot -/
def SNAP_FRAC_SET : Fld := ⟨32 * 0x30010 + 17, 1, 0⟩
/-- Table 3-4, SNAP_SHEET_LO SHEET [63:0] over its _LO and _HI, HRO: Sheet number at the snapshot -/
def SNAP_SHEET : Fld := ⟨32 * 0x30014, 64, 0⟩
/-- Table 3-4, TIME_STATUS COARSE [0:0], HRO: Coarse counting (R52) -/
def TIME_STATUS_COARSE : Fld := ⟨32 * 0x30020, 1, 0⟩
/-- Table 3-4, TIME_STATUS SET [1:1], HRO: Time has been set since reset (R66) -/
def TIME_STATUS_SET : Fld := ⟨32 * 0x30020 + 1, 1, 0⟩
/-- Table 3-4, TIME_STATUS SLEWING [2:2], HRO: Slew term active -/
def TIME_STATUS_SLEWING : Fld := ⟨32 * 0x30020 + 2, 1, 0⟩
/-- Table 3-4, TIME_STATUS LEAP_ARMED [3:3], HRO: A leap second is armed -/
def TIME_STATUS_LEAP_ARMED : Fld := ⟨32 * 0x30020 + 3, 1, 0⟩
/-- Table 3-4, TIME_STATUS LEAP_DIR [4:4], HRO: 0 insert, 1 delete -/
def TIME_STATUS_LEAP_DIR : Fld := ⟨32 * 0x30020 + 4, 1, 0⟩
/-- Table 3-4, TIME_STATUS LEAP_WARNING [5:5], HRO: Within LEAP_WARN of the target -/
def TIME_STATUS_LEAP_WARNING : Fld := ⟨32 * 0x30020 + 5, 1, 0⟩
/-- Table 3-4, TIME_STATUS UTC_VALID [6:6], HRO: OFFSET is valid -/
def TIME_STATUS_UTC_VALID : Fld := ⟨32 * 0x30020 + 6, 1, 0⟩
/-- Table 3-4, TIME_STATUS UTC_SRC [7:7], HRO: 0 decoded, 1 host -/
def TIME_STATUS_UTC_SRC : Fld := ⟨32 * 0x30020 + 7, 1, 0⟩
/-- Table 3-4, TIME_STATUS STEP_PENDING [8:8], HRO: A step waits for the next edge -/
def TIME_STATUS_STEP_PENDING : Fld := ⟨32 * 0x30020 + 8, 1, 0⟩
/-- Table 3-4, TIME_CFG RELOCK_SHEETS [7:0], RW: 1 to 255; a write of 0 is ignored -/
def TIME_CFG_RELOCK_SHEETS : Fld := ⟨32 * 0x30024, 8, 8⟩
/-- Table 3-4, TIME_CFG LEAP_AUTO [8:8], RW: Adopt decoded offset and announcements -/
def TIME_CFG_LEAP_AUTO : Fld := ⟨32 * 0x30024 + 8, 1, 0⟩
/-- Table 3-4, TIME_CFG AUTO_STEP_US [31:16], RW: Automatic step threshold in µs; 0 disables -/
def TIME_CFG_AUTO_STEP_US : Fld := ⟨32 * 0x30024 + 16, 16, 1000⟩
/-- Table 3-4, SLEW_LIMIT PPT [26:0], RW: 1,000 to 100,000,000 ppt; other writes ignored -/
def SLEW_LIMIT : Fld := ⟨32 * 0x30028, 27, 1000000⟩
/-- Table 3-4, TAI_UTC OFFSET [15:0], RWL: Signed seconds, TAI − UTC -/
def TAI_UTC : Fld := ⟨32 * 0x3002C, 16, 0⟩
/-- Table 3-4, LEAP_WARN SEC [17:0], RW: Warning time in seconds -/
def LEAP_WARN : Fld := ⟨32 * 0x30030, 18, 43200⟩
/-- Table 3-4, LEAP_TARGET_LO T [63:0] over its _LO and _HI, HRO: Short time of the armed leap -/
def LEAP_TARGET : Fld := ⟨32 * 0x30034, 64, 0⟩
/-- Table 3-4, SLEW_RESID_LO RESID [63:0] over its _LO and _HI, HRO: Signed residual in 2⁻¹⁶ ns -/
def SLEW_RESID : Fld := ⟨32 * 0x30040, 64, 0⟩
/-- Table 3-4, STEER_LO Y [39:0] over its _LO and _HI, HRO: Total y (R49), low word -/
def STEER : Fld := ⟨32 * 0x30048, 40, 0⟩
/-- Table 3-4, KA_ALIGN_CNT CNT [63:0] over its _LO and _HI, HRO: Keep-alive count of the last alignment -/
def KA_ALIGN_CNT : Fld := ⟨32 * 0x30050, 64, 0⟩
/-- Table 3-4, KA_ALIGN_TIME T [63:0] over its _LO and _HI, HRO: Short time of that crystal edge -/
def KA_ALIGN_TIME : Fld := ⟨32 * 0x30058, 64, 0⟩
/-- Table 3-4, KA_FREQ PPT [31:0], HRO: Signed crystal offset in ppt; positive when the crystal runs fast -/
def KA_FREQ : Fld := ⟨32 * 0x30060, 32, 0⟩
/-- Table 3-4, STEP_CNT COUNT [47:0] over its _LO and _HI, HRO: Steps applied -/
def STEP_CNT : Fld := ⟨32 * 0x30068, 48, 0⟩
/-- Table 3-4, COARSE_CNT COUNT [47:0] over its _LO and _HI, HRO: Entries to coarse counting -/
def COARSE_CNT : Fld := ⟨32 * 0x30070, 48, 0⟩
/-- Table 3-4, LATE_DISCARD_CNT COUNT [47:0] over its _LO and _HI, HRO: Periodic pulses skipped (R61) -/
def LATE_DISCARD_CNT : Fld := ⟨32 * 0x30078, 48, 0⟩
/-- Table 3-4, EVT_CFGn POL [0:0], RW: 0 active high, 1 active low -/
def EVT_CFG_POL (n : Nat) : Fld := ⟨32 * (0x30080 + 0x10 * n), 1, 0⟩
/-- Table 3-4, EVT_CFGn LOOPBACK [1:1], RW: Drive TIN(32 + n) (R63) -/
def EVT_CFG_LOOPBACK (n : Nat) : Fld := ⟨32 * (0x30080 + 0x10 * n) + 1, 1, 0⟩
/-- Table 3-4, EVT_STATn PERIODIC [0:0], HRO: A series runs -/
def EVT_STAT_PERIODIC (n : Nat) : Fld := ⟨32 * (0x30084 + 0x10 * n), 1, 0⟩
/-- Table 3-4, EVT_STATn LEVEL [1:1], HRO: Present output level -/
def EVT_STAT_LEVEL (n : Nat) : Fld := ⟨32 * (0x30084 + 0x10 * n) + 1, 1, 0⟩
/-- Table 3-4, EVT_STATn SUPPRESSED [2:2], HRO: Pin held inactive (R62) -/
def EVT_STAT_SUPPRESSED (n : Nat) : Fld := ⟨32 * (0x30084 + 0x10 * n) + 2, 1, 1⟩
/-- Table 3-4, EVT_CNTn COUNT [47:0] over its _LO and _HI, HRO: Pulses timed on EVTn -/
def EVT_CNT (n : Nat) : Fld := ⟨32 * (0x30088 + 0x10 * n), 48, 0⟩
/-- Table 3-4, STROBE_OVL_CNT COUNT [47:0] over its _LO and _HI, HRO: Overlapping pulses (R62) -/
def STROBE_OVL_CNT : Fld := ⟨32 * 0x30180, 48, 0⟩

/-- The register map of block TIME, part 1 of 2. -/
def rows1 : List Row :=
  [⟨0x30000, 0x0, 1, 0x0, 1, 0, 1, .wo, [0], .any, .whole, false⟩,
   ⟨0x30004, 0x0, 1, 0x0, 1, 0, 32, .hro, [0], .any, (.lo 16), false⟩,
   ⟨0x30008, 0x0, 1, 0x0, 1, 0, 16, .hro, [0], .any, .hi, false⟩,
   ⟨0x3000C, 0x0, 1, 0x0, 1, 0, 30, .hro, [0], .any, .whole, false⟩,
   ⟨0x30010, 0x0, 1, 0x0, 1, 0, 16, .hro, [0], .any, .whole, false⟩,
   ⟨0x30010, 0x0, 1, 0x0, 1, 16, 1, .hro, [0], .any, .whole, false⟩,
   ⟨0x30010, 0x0, 1, 0x0, 1, 17, 1, .hro, [0], .any, .whole, false⟩,
   ⟨0x30014, 0x0, 1, 0x0, 1, 0, 32, .hro, [0], .any, (.lo 32), false⟩,
   ⟨0x30018, 0x0, 1, 0x0, 1, 0, 32, .hro, [0], .any, .hi, false⟩,
   ⟨0x30020, 0x0, 1, 0x0, 1, 0, 1, .hro, [0], .any, .whole, false⟩,
   ⟨0x30020, 0x0, 1, 0x0, 1, 1, 1, .hro, [0], .any, .whole, false⟩,
   ⟨0x30020, 0x0, 1, 0x0, 1, 2, 1, .hro, [0], .any, .whole, false⟩,
   ⟨0x30020, 0x0, 1, 0x0, 1, 3, 1, .hro, [0], .any, .whole, false⟩,
   ⟨0x30020, 0x0, 1, 0x0, 1, 4, 1, .hro, [0], .any, .whole, false⟩,
   ⟨0x30020, 0x0, 1, 0x0, 1, 5, 1, .hro, [0], .any, .whole, false⟩,
   ⟨0x30020, 0x0, 1, 0x0, 1, 6, 1, .hro, [0], .any, .whole, false⟩,
   ⟨0x30020, 0x0, 1, 0x0, 1, 7, 1, .hro, [0], .any, .whole, false⟩,
   ⟨0x30020, 0x0, 1, 0x0, 1, 8, 1, .hro, [0], .any, .whole, false⟩,
   ⟨0x30024, 0x0, 1, 0x0, 1, 0, 8, .rw, [8], (.range 1 255), .whole, false⟩,
   ⟨0x30024, 0x0, 1, 0x0, 1, 8, 1, .rw, [0], .any, .whole, false⟩,
   ⟨0x30024, 0x0, 1, 0x0, 1, 16, 16, .rw, [1000], .any, .whole, false⟩,
   ⟨0x30028, 0x0, 1, 0x0, 1, 0, 27, .rw, [1000000], (.range 1000 100000000), .whole, false⟩,
   ⟨0x3002C, 0x0, 1, 0x0, 1, 0, 16, .rwl, [0], .any, .whole, false⟩,
   ⟨0x30030, 0x0, 1, 0x0, 1, 0, 18, .rw, [43200], .any, .whole, false⟩,
   ⟨0x30034, 0x0, 1, 0x0, 1, 0, 32, .hro, [0], .any, (.lo 32), false⟩,
   ⟨0x30038, 0x0, 1, 0x0, 1, 0, 32, .hro, [0], .any, .hi, false⟩,
   ⟨0x30040, 0x0, 1, 0x0, 1, 0, 32, .hro, [0], .any, (.lo 32), false⟩,
   ⟨0x30044, 0x0, 1, 0x0, 1, 0, 32, .hro, [0], .any, .hi, false⟩,
   ⟨0x30048, 0x0, 1, 0x0, 1, 0, 32, .hro, [0], .any, (.lo 8), false⟩,
   ⟨0x3004C, 0x0, 1, 0x0, 1, 0, 8, .hro, [0], .any, .hi, false⟩]

/-- The register map of block TIME, part 2 of 2. -/
def rows2 : List Row :=
  [⟨0x30050, 0x0, 1, 0x0, 1, 0, 32, .hro, [0], .any, (.lo 32), false⟩,
   ⟨0x30054, 0x0, 1, 0x0, 1, 0, 32, .hro, [0], .any, .hi, false⟩,
   ⟨0x30058, 0x0, 1, 0x0, 1, 0, 32, .hro, [0], .any, (.lo 32), false⟩,
   ⟨0x3005C, 0x0, 1, 0x0, 1, 0, 32, .hro, [0], .any, .hi, false⟩,
   ⟨0x30060, 0x0, 1, 0x0, 1, 0, 32, .hro, [0], .any, .whole, false⟩,
   ⟨0x30068, 0x0, 1, 0x0, 1, 0, 32, .hro, [0], .any, (.lo 16), true⟩,
   ⟨0x3006C, 0x0, 1, 0x0, 1, 0, 16, .hro, [0], .any, .hi, true⟩,
   ⟨0x30070, 0x0, 1, 0x0, 1, 0, 32, .hro, [0], .any, (.lo 16), true⟩,
   ⟨0x30074, 0x0, 1, 0x0, 1, 0, 16, .hro, [0], .any, .hi, true⟩,
   ⟨0x30078, 0x0, 1, 0x0, 1, 0, 32, .hro, [0], .any, (.lo 16), true⟩,
   ⟨0x3007C, 0x0, 1, 0x0, 1, 0, 16, .hro, [0], .any, .hi, true⟩,
   ⟨0x30080, 0x10, 16, 0x0, 1, 0, 1, .rw, [0], .any, .whole, false⟩,
   ⟨0x30080, 0x10, 16, 0x0, 1, 1, 1, .rw, [0], .any, .whole, false⟩,
   ⟨0x30084, 0x10, 16, 0x0, 1, 0, 1, .hro, [0], .any, .whole, false⟩,
   ⟨0x30084, 0x10, 16, 0x0, 1, 1, 1, .hro, [0], .any, .whole, false⟩,
   ⟨0x30084, 0x10, 16, 0x0, 1, 2, 1, .hro, [1], .any, .whole, false⟩,
   ⟨0x30088, 0x10, 16, 0x0, 1, 0, 32, .hro, [0], .any, (.lo 16), true⟩,
   ⟨0x3008C, 0x10, 16, 0x0, 1, 0, 16, .hro, [0], .any, .hi, true⟩,
   ⟨0x30180, 0x0, 1, 0x0, 1, 0, 32, .hro, [0], .any, (.lo 16), true⟩,
   ⟨0x30184, 0x0, 1, 0x0, 1, 0, 16, .hro, [0], .any, .hi, true⟩]

/-- The register map of block TIME. -/
def rows : List Row := rows1 ++ rows2

end Sys2Proof.Machine.TIME

namespace Sys2Proof.Machine.TDC

/-- Table 4-8, TDC_STATUS BUSY [0:0], HRO: A posted write is in progress -/
def TDC_STATUS_BUSY : Fld := ⟨32 * 0x40000, 1, 0⟩
/-- Table 4-8, TDC_STATUS CLK_VALID [1:1], HRO: The time-interval clock is trusted -/
def TDC_STATUS_CLK_VALID : Fld := ⟨32 * 0x40000 + 1, 1, 0⟩
/-- Table 4-8, TDC_STATUS SIZING_RUN [2:2], HRO: TDC_SIZE is running -/
def TDC_STATUS_SIZING_RUN : Fld := ⟨32 * 0x40000 + 2, 1, 0⟩
/-- Table 4-8, TDC_CFG INJECT_RATE [9:0], RW: 0 to 1,023 per line per sheet -/
def TDC_CFG_INJECT_RATE : Fld := ⟨32 * 0x40004, 10, 256⟩
/-- Table 4-8, TDC_CFG CAL_TARGET_LOG2 [14:10], RW: 16 to 24; other writes ignored -/
def TDC_CFG_CAL_TARGET_LOG2 : Fld := ⟨32 * 0x40004 + 10, 5, 20⟩
/-- Table 4-8, TDC_CFG CAL_MAX_AGE [23:16], RW: In units of 1,024 sheets; 1 to 255 -/
def TDC_CFG_CAL_MAX_AGE : Fld := ⟨32 * 0x40004 + 16, 8, 40⟩
/-- Table 4-8, CAL_OK_A OK [31:0], HRO: Bit n: CAL_OK of TINn -/
def CAL_OK_A : Fld := ⟨32 * 0x40008, 32, 0⟩
/-- Table 4-8, CAL_OK_B OK [15:0], HRO: Bit n: table valid for TIN(32 + n) -/
def CAL_OK_B : Fld := ⟨32 * 0x4000C, 16, 0⟩
/-- Table 4-8, SPARE_MAP SPARE0 [6:0], HRO: Line replaced; 127 is unused -/
def SPARE_MAP_SPARE0 : Fld := ⟨32 * 0x40010, 7, 127⟩
/-- Table 4-8, SPARE_MAP SPARE1 [14:8], HRO: Line replaced; 127 is unused -/
def SPARE_MAP_SPARE1 : Fld := ⟨32 * 0x40010 + 8, 7, 127⟩
/-- Table 4-8, DEAD_CNT COUNT [47:0] over its _LO and _HI, HRO: Edges lost by R72 -/
def DEAD_CNT : Fld := ⟨32 * 0x40020, 48, 0⟩
/-- Table 4-8, HALF_CNT COUNT [47:0] over its _LO and _HI, HRO: Edges measured on one line -/
def HALF_CNT : Fld := ⟨32 * 0x40028, 48, 0⟩
/-- Table 4-8, STOP_OVF_CNT COUNT [47:0] over its _LO and _HI, HRO: Stops beyond 16 -/
def STOP_OVF_CNT : Fld := ⟨32 * 0x40030, 48, 0⟩
/-- Table 4-8, MEAS_DROP_CNT COUNT [47:0] over its _LO and _HI, HRO: Records discarded by R90 -/
def MEAS_DROP_CNT : Fld := ⟨32 * 0x40038, 48, 0⟩
/-- Table 4-8, DLL_UNLOCK_CNT COUNT [47:0] over its _LO and _HI, HRO: LOCKED to TRACK transitions -/
def DLL_UNLOCK_CNT : Fld := ⟨32 * 0x40040, 48, 0⟩
/-- Table 4-8, DLL_FAIL_CNT COUNT [47:0] over its _LO and _HI, HRO: TRACK timeouts -/
def DLL_FAIL_CNT : Fld := ⟨32 * 0x40048, 48, 0⟩
/-- Table 4-8, CH_CFGn SRC [1:0], RW: Table 4-1 -/
def CH_CFG_SRC (n : Nat) : Fld := ⟨32 * (0x40100 + 0x20 * n), 2, 0⟩
/-- Table 4-8, CH_CFGn SRC_SEL [5:2], RW: Port, output or PPS number -/
def CH_CFG_SRC_SEL (n : Nat) : Fld := ⟨32 * (0x40100 + 0x20 * n) + 2, 4, 0⟩
/-- Table 4-8, CH_CFGn EDGE [8:8], RW: 0 rising, 1 falling -/
def CH_CFG_EDGE (n : Nat) : Fld := ⟨32 * (0x40100 + 0x20 * n) + 8, 1, 0⟩
/-- Table 4-8, CH_CFGn ENABLE [9:9], RW: Channel enabled -/
def CH_CFG_ENABLE (n : Nat) : Fld := ⟨32 * (0x40100 + 0x20 * n) + 9, 1, 0⟩
/-- Table 4-8, CH_CFGn TERM [10:10], RW: Class A 100 Ω on; ignored for class B -/
def CH_CFG_TERM (n : Nat) : Fld := ⟨32 * (0x40100 + 0x20 * n) + 10, 1, 1⟩
/-- Table 4-8, CH_PRESCn DIV [15:0], RW: N − 1 -/
def CH_PRESC (n : Nat) : Fld := ⟨32 * (0x40104 + 0x20 * n), 16, 0⟩
/-- Table 4-8, CH_STATn CAL_STATE [2:0], HRO: Table 4-2; class B: 0 off, 1 seed, 2 refreshed -/
def CH_STAT_CAL_STATE (n : Nat) : Fld := ⟨32 * (0x40108 + 0x20 * n), 3, 0⟩
/-- Table 4-8, CH_STATn CAL_OK [3:3], HRO: Calibration valid -/
def CH_STAT_CAL_OK (n : Nat) : Fld := ⟨32 * (0x40108 + 0x20 * n) + 3, 1, 0⟩
/-- Table 4-8, CH_STATn SPARED [4:4], HRO: A line is a spare not yet sized -/
def CH_STAT_SPARED (n : Nat) : Fld := ⟨32 * (0x40108 + 0x20 * n) + 4, 1, 0⟩
/-- Table 4-8, CH_STATn GEN [15:8], HRO: Low 8 bits of table generation -/
def CH_STAT_GEN (n : Nat) : Fld := ⟨32 * (0x40108 + 0x20 * n) + 8, 8, 0⟩
/-- Table 4-8, CH_DLLn COARSE [9:0], HRO: Line E coarse code -/
def CH_DLL_COARSE (n : Nat) : Fld := ⟨32 * (0x4010C + 0x20 * n), 10, 512⟩
/-- Table 4-8, CH_DLLn FINE [15:10], HRO: Line E fine code -/
def CH_DLL_FINE (n : Nat) : Fld := ⟨32 * (0x4010C + 0x20 * n) + 10, 6, 32⟩
/-- Table 4-8, CH_DLLn COARSE_F [25:16], HRO: Line F coarse code -/
def CH_DLL_COARSE_F (n : Nat) : Fld := ⟨32 * (0x4010C + 0x20 * n) + 16, 10, 512⟩
/-- Table 4-8, CH_DELAYn D [31:0], HRO: Signed path delay in 2⁻¹⁶ ns -/
def CH_DELAY (n : Nat) : Fld := ⟨32 * (0x40110 + 0x20 * n), 32, 0⟩
/-- Table 4-8, CH_CNTn COUNT [47:0] over its _LO and _HI, HRO: Edges passed -/
def CH_CNT (n : Nat) : Fld := ⟨32 * (0x40114 + 0x20 * n), 48, 0⟩
/-- Table 4-8, WIN_CFGm START_CH [5:0], RW: Start channel -/
def WIN_CFG_START_CH (m : Nat) : Fld := ⟨32 * (0x40800 + 0x20 * m), 6, 0⟩
/-- Table 4-8, WIN_CFGm MODE [6:6], RW: 0 interval, 1 frequency -/
def WIN_CFG_MODE (m : Nat) : Fld := ⟨32 * (0x40800 + 0x20 * m) + 6, 1, 0⟩
/-- Table 4-8, WIN_CFGm ARM [10:8], RW: 0 off, 1 command, 2 every sheet, 3 continuous, 4 strobe -/
def WIN_CFG_ARM (m : Nat) : Fld := ⟨32 * (0x40800 + 0x20 * m) + 8, 3, 0⟩
/-- Table 4-8, WIN_CFGm STROBE [14:11], RW: EVT0–EVT15 for ARM 4 -/
def WIN_CFG_STROBE (m : Nat) : Fld := ⟨32 * (0x40800 + 0x20 * m) + 11, 4, 0⟩
/-- Table 4-8, WIN_CFGm CLOSE_COUNT [19:15], RW: 0 by length; 1–16 -/
def WIN_CFG_CLOSE_COUNT (m : Nat) : Fld := ⟨32 * (0x40800 + 0x20 * m) + 15, 5, 0⟩
/-- Table 4-8, WIN_CFGm OWNER [21:20], RW: R88 -/
def WIN_CFG_OWNER (m : Nat) : Fld := ⟨32 * (0x40800 + 0x20 * m) + 20, 2, 0⟩
/-- Table 4-8, WIN_CFGm COPY_TO_RING [22:22], RW: Copy block-owned records -/
def WIN_CFG_COPY_TO_RING (m : Nat) : Fld := ⟨32 * (0x40800 + 0x20 * m) + 22, 1, 0⟩
/-- Table 4-8, WIN_STOPAm MASK [31:0], RW: Stop channels 0–31 -/
def WIN_STOPA (m : Nat) : Fld := ⟨32 * (0x40804 + 0x20 * m), 32, 0⟩
/-- Table 4-8, WIN_STOPBm MASK [15:0], RW: Stop channels 32–47 -/
def WIN_STOPB (m : Nat) : Fld := ⟨32 * (0x40808 + 0x20 * m), 16, 0⟩
/-- Table 4-8, WIN_LENm LEN [27:0], RW: 1 to 2²⁸ − 1 timing cycles; 0 is ignored -/
def WIN_LEN (m : Nat) : Fld := ⟨32 * (0x4080C + 0x20 * m), 28, 1⟩
/-- Table 4-8, WIN_OFFm OFF [16:0], RW: 0 to 78,124; other writes ignored -/
def WIN_OFF (m : Nat) : Fld := ⟨32 * (0x40810 + 0x20 * m), 17, 0⟩
/-- Table 4-8, WIN_STATm OPEN [0:0], HRO: Window open -/
def WIN_STAT_OPEN (m : Nat) : Fld := ⟨32 * (0x40814 + 0x20 * m), 1, 0⟩
/-- Table 4-8, WIN_STATm PENDING [1:1], HRO: MEAS_ARM target pending -/
def WIN_STAT_PENDING (m : Nat) : Fld := ⟨32 * (0x40814 + 0x20 * m) + 1, 1, 0⟩
/-- Table 4-8, WIN_STATm STOPS [6:2], HRO: Stops taken so far -/
def WIN_STAT_STOPS (m : Nat) : Fld := ⟨32 * (0x40814 + 0x20 * m) + 2, 5, 0⟩

/-- The register map of block TDC, part 1 of 2. -/
def rows1 : List Row :=
  [⟨0x40000, 0x0, 1, 0x0, 1, 0, 1, .hro, [0], .any, .whole, false⟩,
   ⟨0x40000, 0x0, 1, 0x0, 1, 1, 1, .hro, [0], .any, .whole, false⟩,
   ⟨0x40000, 0x0, 1, 0x0, 1, 2, 1, .hro, [0], .any, .whole, false⟩,
   ⟨0x40004, 0x0, 1, 0x0, 1, 0, 10, .rw, [256], .any, .whole, false⟩,
   ⟨0x40004, 0x0, 1, 0x0, 1, 10, 5, .rw, [20], (.range 16 24), .whole, false⟩,
   ⟨0x40004, 0x0, 1, 0x0, 1, 16, 8, .rw, [40], (.range 1 255), .whole, false⟩,
   ⟨0x40008, 0x0, 1, 0x0, 1, 0, 32, .hro, [0], .any, .whole, false⟩,
   ⟨0x4000C, 0x0, 1, 0x0, 1, 0, 16, .hro, [0], .any, .whole, false⟩,
   ⟨0x40010, 0x0, 1, 0x0, 1, 0, 7, .hro, [127], .any, .whole, false⟩,
   ⟨0x40010, 0x0, 1, 0x0, 1, 8, 7, .hro, [127], .any, .whole, false⟩,
   ⟨0x40020, 0x0, 1, 0x0, 1, 0, 32, .hro, [0], .any, (.lo 16), true⟩,
   ⟨0x40024, 0x0, 1, 0x0, 1, 0, 16, .hro, [0], .any, .hi, true⟩,
   ⟨0x40028, 0x0, 1, 0x0, 1, 0, 32, .hro, [0], .any, (.lo 16), true⟩,
   ⟨0x4002C, 0x0, 1, 0x0, 1, 0, 16, .hro, [0], .any, .hi, true⟩,
   ⟨0x40030, 0x0, 1, 0x0, 1, 0, 32, .hro, [0], .any, (.lo 16), true⟩,
   ⟨0x40034, 0x0, 1, 0x0, 1, 0, 16, .hro, [0], .any, .hi, true⟩,
   ⟨0x40038, 0x0, 1, 0x0, 1, 0, 32, .hro, [0], .any, (.lo 16), true⟩,
   ⟨0x4003C, 0x0, 1, 0x0, 1, 0, 16, .hro, [0], .any, .hi, true⟩,
   ⟨0x40040, 0x0, 1, 0x0, 1, 0, 32, .hro, [0], .any, (.lo 16), true⟩,
   ⟨0x40044, 0x0, 1, 0x0, 1, 0, 16, .hro, [0], .any, .hi, true⟩,
   ⟨0x40048, 0x0, 1, 0x0, 1, 0, 32, .hro, [0], .any, (.lo 16), true⟩,
   ⟨0x4004C, 0x0, 1, 0x0, 1, 0, 16, .hro, [0], .any, .hi, true⟩,
   ⟨0x40100, 0x20, 48, 0x0, 1, 0, 2, .rw, [0], .any, .whole, false⟩,
   ⟨0x40100, 0x20, 48, 0x0, 1, 2, 4, .rw, [0], .any, .whole, false⟩,
   ⟨0x40100, 0x20, 48, 0x0, 1, 8, 1, .rw, [0], .any, .whole, false⟩,
   ⟨0x40100, 0x20, 48, 0x0, 1, 9, 1, .rw, [0], .any, .whole, false⟩,
   ⟨0x40100, 0x20, 48, 0x0, 1, 10, 1, .rw, [1], .any, .whole, false⟩,
   ⟨0x40104, 0x20, 48, 0x0, 1, 0, 16, .rw, [0], .any, .whole, false⟩,
   ⟨0x40108, 0x20, 48, 0x0, 1, 0, 3, .hro, [0], .any, .whole, false⟩,
   ⟨0x40108, 0x20, 48, 0x0, 1, 3, 1, .hro, [0], .any, .whole, false⟩]

/-- The register map of block TDC, part 2 of 2. -/
def rows2 : List Row :=
  [⟨0x40108, 0x20, 48, 0x0, 1, 4, 1, .hro, [0], .any, .whole, false⟩,
   ⟨0x40108, 0x20, 48, 0x0, 1, 8, 8, .hro, [0], .any, .whole, false⟩,
   ⟨0x4010C, 0x20, 48, 0x0, 1, 0, 10, .hro, [512], .any, .whole, false⟩,
   ⟨0x4010C, 0x20, 48, 0x0, 1, 10, 6, .hro, [32], .any, .whole, false⟩,
   ⟨0x4010C, 0x20, 48, 0x0, 1, 16, 10, .hro, [512], .any, .whole, false⟩,
   ⟨0x40110, 0x20, 48, 0x0, 1, 0, 32, .hro, [0], .any, .whole, false⟩,
   ⟨0x40114, 0x20, 48, 0x0, 1, 0, 32, .hro, [0], .any, (.lo 16), true⟩,
   ⟨0x40118, 0x20, 48, 0x0, 1, 0, 16, .hro, [0], .any, .hi, true⟩,
   ⟨0x40800, 0x20, 64, 0x0, 1, 0, 6, .rw, [0], .any, .whole, false⟩,
   ⟨0x40800, 0x20, 64, 0x0, 1, 6, 1, .rw, [0], .any, .whole, false⟩,
   ⟨0x40800, 0x20, 64, 0x0, 1, 8, 3, .rw, [0], (.range 0 4), .whole, false⟩,
   ⟨0x40800, 0x20, 64, 0x0, 1, 11, 4, .rw, [0], .any, .whole, false⟩,
   ⟨0x40800, 0x20, 64, 0x0, 1, 15, 5, .rw, [0], (.range 0 16), .whole, false⟩,
   ⟨0x40800, 0x20, 64, 0x0, 1, 20, 2, .rw, [0], .any, .whole, false⟩,
   ⟨0x40800, 0x20, 64, 0x0, 1, 22, 1, .rw, [0], .any, .whole, false⟩,
   ⟨0x40804, 0x20, 64, 0x0, 1, 0, 32, .rw, [0], .any, .whole, false⟩,
   ⟨0x40808, 0x20, 64, 0x0, 1, 0, 16, .rw, [0], .any, .whole, false⟩,
   ⟨0x4080C, 0x20, 64, 0x0, 1, 0, 28, .rw, [1], (.range 1 268435455), .whole, false⟩,
   ⟨0x40810, 0x20, 64, 0x0, 1, 0, 17, .rw, [0], (.range 0 78124), .whole, false⟩,
   ⟨0x40814, 0x20, 64, 0x0, 1, 0, 1, .hro, [0], .any, .whole, false⟩,
   ⟨0x40814, 0x20, 64, 0x0, 1, 1, 1, .hro, [0], .any, .whole, false⟩,
   ⟨0x40814, 0x20, 64, 0x0, 1, 2, 5, .hro, [0], .any, .whole, false⟩]

/-- The register map of block TDC. -/
def rows : List Row := rows1 ++ rows2

end Sys2Proof.Machine.TDC

namespace Sys2Proof.Machine.GNSSF

/-- Table 5-9, GNSSF_STATUS A_OK [0:0], HRO: Port A enabled and SCLK_OK -/
def GNSSF_STATUS_A_OK : Fld := ⟨32 * 0x80000, 1, 0⟩
/-- Table 5-9, GNSSF_STATUS B_OK [1:1], HRO: Port B enabled and SCLK_OK -/
def GNSSF_STATUS_B_OK : Fld := ⟨32 * 0x80000 + 1, 1, 0⟩
/-- Table 5-9, GNSSF_STATUS ACQ_BUSY [15:8], HRO: Bit s: search s runs -/
def GNSSF_STATUS_ACQ_BUSY : Fld := ⟨32 * 0x80000 + 8, 8, 0⟩
/-- Table 5-9, PORT_CFG A_EN [0:0], RW: Port A enabled -/
def PORT_CFG_A_EN : Fld := ⟨32 * 0x80004, 1, 0⟩
/-- Table 5-9, PORT_CFG B_EN [1:1], RW: Port B enabled -/
def PORT_CFG_B_EN : Fld := ⟨32 * 0x80004 + 1, 1, 0⟩
/-- Table 5-9, PORT_CFG A_FMT [3:2], RW: 0 two's complement, 1 offset binary, 2 sign and magnitude -/
def PORT_CFG_A_FMT : Fld := ⟨32 * 0x80004 + 2, 2, 0⟩
/-- Table 5-9, PORT_CFG B_FMT [5:4], RW: As A_FMT -/
def PORT_CFG_B_FMT : Fld := ⟨32 * 0x80004 + 4, 2, 0⟩
/-- Table 5-9, PORT_CFG A_INV [8:8], RW: Negate Q -/
def PORT_CFG_A_INV : Fld := ⟨32 * 0x80004 + 8, 1, 0⟩
/-- Table 5-9, PORT_CFG B_INV [9:9], RW: Negate Q -/
def PORT_CFG_B_INV : Fld := ⟨32 * 0x80004 + 9, 1, 0⟩
/-- Table 5-9, NOTCH_CFG THRESH [7:0], RW: 0.25 dB -/
def NOTCH_CFG_THRESH : Fld := ⟨32 * 0x80008, 8, 48⟩
/-- Table 5-9, NOTCH_CFG RHO_SEL [9:8], RW: ρ = 1 − 2^−(4 + RHO_SEL); 3 is ignored -/
def NOTCH_CFG_RHO_SEL : Fld := ⟨32 * 0x80008 + 8, 2, 1⟩
/-- Table 5-9, NOTCH_CFG MU_LOG2 [14:10], RW: 4 to 20; other writes ignored -/
def NOTCH_CFG_MU_LOG2 : Fld := ⟨32 * 0x80008 + 10, 5, 10⟩
/-- Table 5-9, NOTCH_CFG A_ENABLE [16:16], RW: Notches of band A -/
def NOTCH_CFG_A_ENABLE : Fld := ⟨32 * 0x80008 + 16, 1, 1⟩
/-- Table 5-9, NOTCH_CFG B_ENABLE [17:17], RW: Notches of band B -/
def NOTCH_CFG_B_ENABLE : Fld := ⟨32 * 0x80008 + 17, 1, 1⟩
/-- Table 5-9, NOTCH_CFG RELEASE_MS [31:24], RW: 1 to 255 -/
def NOTCH_CFG_RELEASE_MS : Fld := ⟨32 * 0x80008 + 24, 8, 64⟩
/-- Table 5-9, ACQ_CFG AUTO_MAX [3:0], RW: 0 to 8 -/
def ACQ_CFG : Fld := ⟨32 * 0x8000C, 4, 6⟩
/-- Table 5-9, ALLOC_CFG AUTO [0:0], RW: Automatic allocation -/
def ALLOC_CFG_AUTO : Fld := ⟨32 * 0x80010, 1, 0⟩
/-- Table 5-9, ALLOC_CFG SIG_MASK [15:4], RW: Bit n: signal code n -/
def ALLOC_CFG_SIG_MASK : Fld := ⟨32 * 0x80010 + 4, 12, 4095⟩
/-- Table 5-9, ALLOC_CFG ALLOC_MAX [23:16], RW: 0 to 128 -/
def ALLOC_CFG_ALLOC_MAX : Fld := ⟨32 * 0x80010 + 16, 8, 128⟩
/-- Table 5-9, STEER_CFG STEER_TIMEOUT [7:0], RW: 1 to 255 sheets -/
def STEER_CFG : Fld := ⟨32 * 0x80014, 8, 8⟩
/-- Table 5-9, TRACK_CFG CN0_DROP [15:0], RW: 0.01 dB-Hz -/
def TRACK_CFG : Fld := ⟨32 * 0x80018, 16, 2500⟩
/-- Table 5-9, SV_NO_CHANNEL_CNT COUNT [47:0] over its _LO and _HI, HRO: R104, R105 -/
def SV_NO_CHANNEL_CNT : Fld := ⟨32 * 0x80040, 48, 0⟩
/-- Table 5-9, OBS_DROP_CNT COUNT [47:0] over its _LO and _HI, HRO: R119 -/
def OBS_DROP_CNT : Fld := ⟨32 * 0x80048, 48, 0⟩
/-- Table 5-9, STEER_LATE_CNT COUNT [47:0] over its _LO and _HI, HRO: R116 -/
def STEER_LATE_CNT : Fld := ⟨32 * 0x80050, 48, 0⟩
/-- Table 5-9, STEER_REJECT_CNT COUNT [47:0] over its _LO and _HI, HRO: R116 -/
def STEER_REJECT_CNT : Fld := ⟨32 * 0x80058, 48, 0⟩
/-- Table 5-9, STEER_TIMEOUT_CNT COUNT [47:0] over its _LO and _HI, HRO: R116 -/
def STEER_TIMEOUT_CNT : Fld := ⟨32 * 0x80060, 48, 0⟩
/-- Table 5-9, ACQ_CNT COUNT [47:0] over its _LO and _HI, HRO: Searches completed -/
def ACQ_CNT : Fld := ⟨32 * 0x80068, 48, 0⟩
/-- Table 5-9, BAND_STATb JAM [7:0], HRO: R102 -/
def BAND_STAT_JAM (b : Nat) : Fld := ⟨32 * (0x80100 + 0x80 * b), 8, 0⟩
/-- Table 5-9, BAND_STATb JAMMING [8:8], HRO: R102 -/
def BAND_STAT_JAMMING (b : Nat) : Fld := ⟨32 * (0x80100 + 0x80 * b) + 8, 1, 0⟩
/-- Table 5-9, BAND_STATb NOTCH_ACT [12:9], HRO: Bit k: notch k active -/
def BAND_STAT_NOTCH_ACT (b : Nat) : Fld := ⟨32 * (0x80100 + 0x80 * b) + 9, 4, 0⟩
/-- Table 5-9, BAND_STATb SCLK_OK [13:13], HRO: R98 -/
def BAND_STAT_SCLK_OK (b : Nat) : Fld := ⟨32 * (0x80100 + 0x80 * b) + 13, 1, 0⟩
/-- Table 5-9, JAM_CFGb JAM_THRESH [7:0], RW: 0.25 dB -/
def JAM_CFG_JAM_THRESH (b : Nat) : Fld := ⟨32 * (0x80104 + 0x80 * b), 8, 40⟩
/-- Table 5-9, JAM_CFGb JAM_REF [31:16], RW: 2⁻⁴ level² units; 0 disables A -/
def JAM_CFG_JAM_REF (b : Nat) : Fld := ⟨32 * (0x80104 + 0x80 * b) + 16, 16, 0⟩
/-- Table 5-9, P_INb P [15:0], HRO: 2⁻⁴ level² units -/
def P_IN (b : Nat) : Fld := ⟨32 * (0x80108 + 0x80 * b), 16, 0⟩
/-- Table 5-9, SCLK_OFFb OFF [31:0], HRO: Signed; 2⁻¹⁶ ns -/
def SCLK_OFF (b : Nat) : Fld := ⟨32 * (0x8010C + 0x80 * b), 32, 0⟩
/-- Table 5-9, NOTCH_FREQbk W [23:0], HRO: Signed; 64 MHz ÷ 2²⁴ units -/
def NOTCH_FREQ_W (b k : Nat) : Fld := ⟨32 * (0x80110 + 0x80 * b + 0x8 * k), 24, 0⟩
/-- Table 5-9, NOTCH_FREQbk ACTIVE [31:31], HRO: Notch engaged -/
def NOTCH_FREQ_ACTIVE (b k : Nat) : Fld := ⟨32 * (0x80110 + 0x80 * b + 0x8 * k) + 31, 1, 0⟩
/-- Table 5-9, NOTCH_DEPTHbk DEPTH [7:0], HRO: 0.25 dB -/
def NOTCH_DEPTH (b k : Nat) : Fld := ⟨32 * (0x80114 + 0x80 * b + 0x8 * k), 8, 0⟩
/-- Table 5-9, SCLK_BAD_CNTb COUNT [47:0] over its _LO and _HI, HRO: R98 -/
def SCLK_BAD_CNT (b : Nat) : Fld := ⟨32 * (0x80130 + 0x80 * b), 48, 0⟩

/-- The register map of block GNSSF, part 1 of 2. -/
def rows1 : List Row :=
  [⟨0x80000, 0x0, 1, 0x0, 1, 0, 1, .hro, [0], .any, .whole, false⟩,
   ⟨0x80000, 0x0, 1, 0x0, 1, 1, 1, .hro, [0], .any, .whole, false⟩,
   ⟨0x80000, 0x0, 1, 0x0, 1, 8, 8, .hro, [0], .any, .whole, false⟩,
   ⟨0x80004, 0x0, 1, 0x0, 1, 0, 1, .rw, [0], .any, .whole, false⟩,
   ⟨0x80004, 0x0, 1, 0x0, 1, 1, 1, .rw, [0], .any, .whole, false⟩,
   ⟨0x80004, 0x0, 1, 0x0, 1, 2, 2, .rw, [0], (.range 0 2), .whole, false⟩,
   ⟨0x80004, 0x0, 1, 0x0, 1, 4, 2, .rw, [0], (.range 0 2), .whole, false⟩,
   ⟨0x80004, 0x0, 1, 0x0, 1, 8, 1, .rw, [0], .any, .whole, false⟩,
   ⟨0x80004, 0x0, 1, 0x0, 1, 9, 1, .rw, [0], .any, .whole, false⟩,
   ⟨0x80008, 0x0, 1, 0x0, 1, 0, 8, .rw, [48], .any, .whole, false⟩,
   ⟨0x80008, 0x0, 1, 0x0, 1, 8, 2, .rw, [1], (.range 0 2), .whole, false⟩,
   ⟨0x80008, 0x0, 1, 0x0, 1, 10, 5, .rw, [10], (.range 4 20), .whole, false⟩,
   ⟨0x80008, 0x0, 1, 0x0, 1, 16, 1, .rw, [1], .any, .whole, false⟩,
   ⟨0x80008, 0x0, 1, 0x0, 1, 17, 1, .rw, [1], .any, .whole, false⟩,
   ⟨0x80008, 0x0, 1, 0x0, 1, 24, 8, .rw, [64], (.range 1 255), .whole, false⟩,
   ⟨0x8000C, 0x0, 1, 0x0, 1, 0, 4, .rw, [6], (.range 0 8), .whole, false⟩,
   ⟨0x80010, 0x0, 1, 0x0, 1, 0, 1, .rw, [0], .any, .whole, false⟩,
   ⟨0x80010, 0x0, 1, 0x0, 1, 4, 12, .rw, [4095], .any, .whole, false⟩,
   ⟨0x80010, 0x0, 1, 0x0, 1, 16, 8, .rw, [128], (.range 0 128), .whole, false⟩,
   ⟨0x80014, 0x0, 1, 0x0, 1, 0, 8, .rw, [8], (.range 1 255), .whole, false⟩,
   ⟨0x80018, 0x0, 1, 0x0, 1, 0, 16, .rw, [2500], .any, .whole, false⟩,
   ⟨0x80040, 0x0, 1, 0x0, 1, 0, 32, .hro, [0], .any, (.lo 16), true⟩,
   ⟨0x80044, 0x0, 1, 0x0, 1, 0, 16, .hro, [0], .any, .hi, true⟩,
   ⟨0x80048, 0x0, 1, 0x0, 1, 0, 32, .hro, [0], .any, (.lo 16), true⟩,
   ⟨0x8004C, 0x0, 1, 0x0, 1, 0, 16, .hro, [0], .any, .hi, true⟩,
   ⟨0x80050, 0x0, 1, 0x0, 1, 0, 32, .hro, [0], .any, (.lo 16), true⟩,
   ⟨0x80054, 0x0, 1, 0x0, 1, 0, 16, .hro, [0], .any, .hi, true⟩,
   ⟨0x80058, 0x0, 1, 0x0, 1, 0, 32, .hro, [0], .any, (.lo 16), true⟩,
   ⟨0x8005C, 0x0, 1, 0x0, 1, 0, 16, .hro, [0], .any, .hi, true⟩,
   ⟨0x80060, 0x0, 1, 0x0, 1, 0, 32, .hro, [0], .any, (.lo 16), true⟩]

/-- The register map of block GNSSF, part 2 of 2. -/
def rows2 : List Row :=
  [⟨0x80064, 0x0, 1, 0x0, 1, 0, 16, .hro, [0], .any, .hi, true⟩,
   ⟨0x80068, 0x0, 1, 0x0, 1, 0, 32, .hro, [0], .any, (.lo 16), true⟩,
   ⟨0x8006C, 0x0, 1, 0x0, 1, 0, 16, .hro, [0], .any, .hi, true⟩,
   ⟨0x80100, 0x80, 2, 0x0, 1, 0, 8, .hro, [0], .any, .whole, false⟩,
   ⟨0x80100, 0x80, 2, 0x0, 1, 8, 1, .hro, [0], .any, .whole, false⟩,
   ⟨0x80100, 0x80, 2, 0x0, 1, 9, 4, .hro, [0], .any, .whole, false⟩,
   ⟨0x80100, 0x80, 2, 0x0, 1, 13, 1, .hro, [0], .any, .whole, false⟩,
   ⟨0x80104, 0x80, 2, 0x0, 1, 0, 8, .rw, [40], .any, .whole, false⟩,
   ⟨0x80104, 0x80, 2, 0x0, 1, 16, 16, .rw, [0], .any, .whole, false⟩,
   ⟨0x80108, 0x80, 2, 0x0, 1, 0, 16, .hro, [0], .any, .whole, false⟩,
   ⟨0x8010C, 0x80, 2, 0x0, 1, 0, 32, .hro, [0], .any, .whole, false⟩,
   ⟨0x80110, 0x80, 2, 0x8, 4, 0, 24, .hro, [0], .any, .whole, false⟩,
   ⟨0x80110, 0x80, 2, 0x8, 4, 31, 1, .hro, [0], .any, .whole, false⟩,
   ⟨0x80114, 0x80, 2, 0x8, 4, 0, 8, .hro, [0], .any, .whole, false⟩,
   ⟨0x80130, 0x80, 2, 0x0, 1, 0, 32, .hro, [0], .any, (.lo 16), true⟩,
   ⟨0x80134, 0x80, 2, 0x0, 1, 0, 16, .hro, [0], .any, .hi, true⟩]

/-- The register map of block GNSSF. -/
def rows : List Row := rows1 ++ rows2

end Sys2Proof.Machine.GNSSF

namespace Sys2Proof.Machine.GNSSC

/-- Table 5-10, CH_CTRL ENABLE [0:0], RW: R105, Table 5-4 -/
def CH_CTRL_ENABLE (c : Nat) : Fld := ⟨32 * (0xC0000 + 0x400 * c), 1, 0⟩
/-- Table 5-10, CH_CTRL STEER [1:1], RW: Host-steered from the next edge -/
def CH_CTRL_STEER (c : Nat) : Fld := ⟨32 * (0xC0000 + 0x400 * c) + 1, 1, 0⟩
/-- Table 5-10, CH_CTRL OWNER [2:2], HRO: 0 host, 1 AUTO -/
def CH_CTRL_OWNER (c : Nat) : Fld := ⟨32 * (0xC0000 + 0x400 * c) + 2, 1, 0⟩
/-- Table 5-10, CH_CTRL OBS_TO_RING [3:3], RW: Post observations -/
def CH_CTRL_OBS_TO_RING (c : Nat) : Fld := ⟨32 * (0xC0000 + 0x400 * c) + 3, 1, 1⟩
/-- Table 5-10, CH_CTRL AID [4:4], RW: Carrier aiding of the DLL -/
def CH_CTRL_AID (c : Nat) : Fld := ⟨32 * (0xC0000 + 0x400 * c) + 4, 1, 1⟩
/-- Table 5-10, CH_SIG SIGNAL [3:0], RW: Table 5-1 -/
def CH_SIG_SIGNAL (c : Nat) : Fld := ⟨32 * (0xC0004 + 0x400 * c), 4, 0⟩
/-- Table 5-10, CH_SIG SV [15:8], RW: SV number -/
def CH_SIG_SV (c : Nat) : Fld := ⟨32 * (0xC0004 + 0x400 * c) + 8, 8, 0⟩
/-- Table 5-10, CH_SIG GLO_K [19:16], RW: k + 7 -/
def CH_SIG_GLO_K (c : Nat) : Fld := ⟨32 * (0xC0004 + 0x400 * c) + 16, 4, 0⟩
/-- Table 5-10, CH_CORR EL_SPACING [4:0], RW: d in 1/32 chip; 1 to 31 -/
def CH_CORR_EL_SPACING (c : Nat) : Fld := ⟨32 * (0xC0008 + 0x400 * c), 5, 16⟩
/-- Table 5-10, CH_CORR VEVL_SPACING [13:8], RW: D in 1/32 chip; 1 to 63 -/
def CH_CORR_VEVL_SPACING (c : Nat) : Fld := ⟨32 * (0xC0008 + 0x400 * c) + 8, 6, 32⟩
/-- Table 5-10, CH_TINT T [4:0], RW: Interval in ms: 1, 2, 4, 5, 10 or 20, a whole number of code periods; other writes ignored -/
def CH_TINT (c : Nat) : Fld := ⟨32 * (0xC000C + 0x400 * c), 5, 1⟩
/-- Table 5-10, CH_LOOP PLL_ORDER [1:0], RW: 2 or 3; other writes ignored -/
def CH_LOOP_PLL_ORDER (c : Nat) : Fld := ⟨32 * (0xC0010 + 0x400 * c), 2, 3⟩
/-- Table 5-10, CH_LOOP FLL_ASSIST [2:2], RW: FLL terms in TRACK -/
def CH_LOOP_FLL_ASSIST (c : Nat) : Fld := ⟨32 * (0xC0010 + 0x400 * c) + 2, 1, 0⟩
/-- Table 5-10, CH_LOOP BN_PLL [15:8], RW: 0.25 Hz -/
def CH_LOOP_BN_PLL (c : Nat) : Fld := ⟨32 * (0xC0010 + 0x400 * c) + 8, 8, 40⟩
/-- Table 5-10, CH_LOOP BN_FLL [23:16], RW: 0.25 Hz -/
def CH_LOOP_BN_FLL (c : Nat) : Fld := ⟨32 * (0xC0010 + 0x400 * c) + 16, 8, 40⟩
/-- Table 5-10, CH_LOOP BN_DLL [31:24], RW: 0.01 Hz -/
def CH_LOOP_BN_DLL (c : Nat) : Fld := ⟨32 * (0xC0010 + 0x400 * c) + 24, 8, 50⟩
/-- Table 5-10, CODE_RATE_INIT RATE [31:0], RW: Code word at ENABLE -/
def CODE_RATE_INIT (c : Nat) : Fld := ⟨32 * (0xC0014 + 0x400 * c), 32, 0⟩
/-- Table 5-10, CODE_PHASE_INIT PHASE [29:0], RW: Chips × 2¹⁶ at the next millisecond edge -/
def CODE_PHASE_INIT (c : Nat) : Fld := ⟨32 * (0xC0018 + 0x400 * c), 30, 0⟩
/-- Table 5-10, CARR_RATE_INIT_LO RATE [47:0] over its _LO and _HI, RW: Carrier word at ENABLE -/
def CARR_RATE_INIT (c : Nat) : Fld := ⟨32 * (0xC0020 + 0x400 * c), 48, 0⟩
/-- Table 5-10, CODE_RATE RATE [31:0], HRO: Word in use -/
def CODE_RATE (c : Nat) : Fld := ⟨32 * (0xC0028 + 0x400 * c), 32, 0⟩
/-- Table 5-10, CARR_RATE_LO RATE [47:0] over its _LO and _HI, HRO: Word in use -/
def CARR_RATE (c : Nat) : Fld := ⟨32 * (0xC0030 + 0x400 * c), 48, 0⟩
/-- Table 5-10, CH_STAT STATE [3:0], HRO: Table 5-4 -/
def CH_STAT_STATE (c : Nat) : Fld := ⟨32 * (0xC0038 + 0x400 * c), 4, 0⟩
/-- Table 5-10, CH_STAT PLL_LOCK [4:4], HRO: Lock indicator ≥ 0.8 -/
def CH_STAT_PLL_LOCK (c : Nat) : Fld := ⟨32 * (0xC0038 + 0x400 * c) + 4, 1, 0⟩
/-- Table 5-10, CH_STAT BIT_SYNC [5:5], HRO: Data bits aligned -/
def CH_STAT_BIT_SYNC (c : Nat) : Fld := ⟨32 * (0xC0038 + 0x400 * c) + 5, 1, 0⟩
/-- Table 5-10, CH_STAT SEC_SYNC [6:6], HRO: Secondary code aligned -/
def CH_STAT_SEC_SYNC (c : Nat) : Fld := ⟨32 * (0xC0038 + 0x400 * c) + 6, 1, 0⟩
/-- Table 5-10, CH_STAT RETIRED [7:7], HRO: R120 -/
def CH_STAT_RETIRED (c : Nat) : Fld := ⟨32 * (0xC0038 + 0x400 * c) + 7, 1, 0⟩
/-- Table 5-10, CH_STAT SPARED [8:8], HRO: R120 -/
def CH_STAT_SPARED (c : Nat) : Fld := ⟨32 * (0xC0038 + 0x400 * c) + 8, 1, 0⟩
/-- Table 5-10, CH_STAT STEER_HOLD [9:9], HRO: R116 -/
def CH_STAT_STEER_HOLD (c : Nat) : Fld := ⟨32 * (0xC0038 + 0x400 * c) + 9, 1, 0⟩
/-- Table 5-10, CH_STAT NOTCHED [10:10], HRO: R101 -/
def CH_STAT_NOTCHED (c : Nat) : Fld := ⟨32 * (0xC0038 + 0x400 * c) + 10, 1, 0⟩
/-- Table 5-10, CH_CN0 CN0 [15:0], HRO: 0.01 dB-Hz -/
def CH_CN0 (c : Nat) : Fld := ⟨32 * (0xC003C + 0x400 * c), 16, 0⟩
/-- Table 5-10, SLIP_CNT COUNT [47:0] over its _LO and _HI, HRO: TRACK to LOCKING -/
def SLIP_CNT (c : Nat) : Fld := ⟨32 * (0xC0040 + 0x400 * c), 48, 0⟩
/-- Table 5-10, LOSS_CNT COUNT [47:0] over its _LO and _HI, HRO: Entries to LOST -/
def LOSS_CNT (c : Nat) : Fld := ⟨32 * (0xC0048 + 0x400 * c), 48, 0⟩
/-- Table 5-10, CH_LOCKIND IND [15:0], HRO: Signed; × 2¹⁵ -/
def CH_LOCKIND (c : Nat) : Fld := ⟨32 * (0xC0050 + 0x400 * c), 16, 0⟩

/-- The register map of block GNSSC, part 1 of 2. -/
def rows1 : List Row :=
  [⟨0xC0000, 0x400, 136, 0x0, 1, 0, 1, .rw, [0], .any, .whole, false⟩,
   ⟨0xC0000, 0x400, 136, 0x0, 1, 1, 1, .rw, [0], .any, .whole, false⟩,
   ⟨0xC0000, 0x400, 136, 0x0, 1, 2, 1, .hro, [0], .any, .whole, false⟩,
   ⟨0xC0000, 0x400, 136, 0x0, 1, 3, 1, .rw, [1], .any, .whole, false⟩,
   ⟨0xC0000, 0x400, 136, 0x0, 1, 4, 1, .rw, [1], .any, .whole, false⟩,
   ⟨0xC0004, 0x400, 136, 0x0, 1, 0, 4, .rw, [0], .any, .whole, false⟩,
   ⟨0xC0004, 0x400, 136, 0x0, 1, 8, 8, .rw, [0], .any, .whole, false⟩,
   ⟨0xC0004, 0x400, 136, 0x0, 1, 16, 4, .rw, [0], .any, .whole, false⟩,
   ⟨0xC0008, 0x400, 136, 0x0, 1, 0, 5, .rw, [16], (.range 1 31), .whole, false⟩,
   ⟨0xC0008, 0x400, 136, 0x0, 1, 8, 6, .rw, [32], (.range 1 63), .whole, false⟩,
   ⟨0xC000C, 0x400, 136, 0x0, 1, 0, 5, .rw, [1], (.oneOf [1, 2, 4, 5, 10, 20]), .whole, false⟩,
   ⟨0xC0010, 0x400, 136, 0x0, 1, 0, 2, .rw, [3], (.range 2 3), .whole, false⟩,
   ⟨0xC0010, 0x400, 136, 0x0, 1, 2, 1, .rw, [0], .any, .whole, false⟩,
   ⟨0xC0010, 0x400, 136, 0x0, 1, 8, 8, .rw, [40], .any, .whole, false⟩,
   ⟨0xC0010, 0x400, 136, 0x0, 1, 16, 8, .rw, [40], .any, .whole, false⟩,
   ⟨0xC0010, 0x400, 136, 0x0, 1, 24, 8, .rw, [50], .any, .whole, false⟩,
   ⟨0xC0014, 0x400, 136, 0x0, 1, 0, 32, .rw, [0], .any, .whole, false⟩,
   ⟨0xC0018, 0x400, 136, 0x0, 1, 0, 30, .rw, [0], .any, .whole, false⟩,
   ⟨0xC0020, 0x400, 136, 0x0, 1, 0, 32, .rw, [0], .any, (.lo 16), false⟩,
   ⟨0xC0024, 0x400, 136, 0x0, 1, 0, 16, .rw, [0], .any, .hi, false⟩,
   ⟨0xC0028, 0x400, 136, 0x0, 1, 0, 32, .hro, [0], .any, .whole, false⟩,
   ⟨0xC0030, 0x400, 136, 0x0, 1, 0, 32, .hro, [0], .any, (.lo 16), false⟩,
   ⟨0xC0034, 0x400, 136, 0x0, 1, 0, 16, .hro, [0], .any, .hi, false⟩,
   ⟨0xC0038, 0x400, 136, 0x0, 1, 0, 4, .hro, [0], .any, .whole, false⟩,
   ⟨0xC0038, 0x400, 136, 0x0, 1, 4, 1, .hro, [0], .any, .whole, false⟩,
   ⟨0xC0038, 0x400, 136, 0x0, 1, 5, 1, .hro, [0], .any, .whole, false⟩,
   ⟨0xC0038, 0x400, 136, 0x0, 1, 6, 1, .hro, [0], .any, .whole, false⟩,
   ⟨0xC0038, 0x400, 136, 0x0, 1, 7, 1, .hro, [0], .any, .whole, false⟩,
   ⟨0xC0038, 0x400, 136, 0x0, 1, 8, 1, .hro, [0], .any, .whole, false⟩,
   ⟨0xC0038, 0x400, 136, 0x0, 1, 9, 1, .hro, [0], .any, .whole, false⟩]

/-- The register map of block GNSSC, part 2 of 2. -/
def rows2 : List Row :=
  [⟨0xC0038, 0x400, 136, 0x0, 1, 10, 1, .hro, [0], .any, .whole, false⟩,
   ⟨0xC003C, 0x400, 136, 0x0, 1, 0, 16, .hro, [0], .any, .whole, false⟩,
   ⟨0xC0040, 0x400, 136, 0x0, 1, 0, 32, .hro, [0], .any, (.lo 16), true⟩,
   ⟨0xC0044, 0x400, 136, 0x0, 1, 0, 16, .hro, [0], .any, .hi, true⟩,
   ⟨0xC0048, 0x400, 136, 0x0, 1, 0, 32, .hro, [0], .any, (.lo 16), true⟩,
   ⟨0xC004C, 0x400, 136, 0x0, 1, 0, 16, .hro, [0], .any, .hi, true⟩,
   ⟨0xC0050, 0x400, 136, 0x0, 1, 0, 16, .hro, [0], .any, .whole, false⟩]

/-- The register map of block GNSSC. -/
def rows : List Row := rows1 ++ rows2

end Sys2Proof.Machine.GNSSC

namespace Sys2Proof.Machine.GNSSN

/-- Table 6-8, NAV_STATUS SOL_MODE [1:0], HRO: 0 off, 1 survey, 2 hold -/
def NAV_STATUS_SOL_MODE : Fld := ⟨32 * 0x100000, 2, 0⟩
/-- Table 6-8, NAV_STATUS STATUS [4:2], HRO: Last status, Table 6-4 -/
def NAV_STATUS_STATUS : Fld := ⟨32 * 0x100000 + 2, 3, 5⟩
/-- Table 6-8, NAV_STATUS POS_VALID [5:5], HRO: POS holds a position -/
def NAV_STATUS_POS_VALID : Fld := ⟨32 * 0x100000 + 5, 1, 0⟩
/-- Table 6-8, NAV_STATUS SURVEY_RUN [6:6], HRO: A survey runs -/
def NAV_STATUS_SURVEY_RUN : Fld := ⟨32 * 0x100000 + 6, 1, 0⟩
/-- Table 6-8, NAV_STATUS NUSED [15:8], HRO: Satellites used -/
def NAV_STATUS_NUSED : Fld := ⟨32 * 0x100000 + 8, 8, 0⟩
/-- Table 6-8, NAV_STATUS NEPH [23:16], HRO: Slots with a usable record -/
def NAV_STATUS_NEPH : Fld := ⟨32 * 0x100000 + 16, 8, 0⟩
/-- Table 6-8, SOL_CFG SOL_PERIOD_MS [9:0], RW: 10 to 1,000 ms; other writes ignored -/
def SOL_CFG_SOL_PERIOD_MS : Fld := ⟨32 * 0x100004, 10, 100⟩
/-- Table 6-8, SOL_CFG REF_SYS [12:10], RW: System code -/
def SOL_CFG_REF_SYS : Fld := ⟨32 * 0x100004 + 10, 3, 0⟩
/-- Table 6-8, SOL_CFG SINGLE_FREQ [13:13], RW: Use single-band satellites -/
def SOL_CFG_SINGLE_FREQ : Fld := ⟨32 * 0x100004 + 13, 1, 1⟩
/-- Table 6-8, SOL_CFG SMOOTH [14:14], RW: Carrier smoothing -/
def SOL_CFG_SMOOTH : Fld := ⟨32 * 0x100004 + 14, 1, 1⟩
/-- Table 6-8, SOL_CFG TO_RING [15:15], RW: Post solution records -/
def SOL_CFG_TO_RING : Fld := ⟨32 * 0x100004 + 15, 1, 0⟩
/-- Table 6-8, SOL_CFG SMOOTH_S [23:16], RW: 1 to 255 s -/
def SOL_CFG_SMOOTH_S : Fld := ⟨32 * 0x100004 + 16, 8, 100⟩
/-- Table 6-8, ISO_CFG ISO_MODE [9:0], RW: 2 bits per system code: 0 ESTIMATE, 1 BROADCAST, 2 EXCLUDE; ignored for REF_SYS -/
def ISO_CFG : Fld := ⟨32 * 0x100008, 10, 0⟩
/-- Table 6-8, MASK_CFG ELEV_MASK [6:0], RW: Degrees, 0 to 60 -/
def MASK_CFG_ELEV_MASK : Fld := ⟨32 * 0x10000C, 7, 10⟩
/-- Table 6-8, MASK_CFG CN0_MIN [15:8], RW: dB-Hz -/
def MASK_CFG_CN0_MIN : Fld := ⟨32 * 0x10000C + 8, 8, 30⟩
/-- Table 6-8, TRAIM_CFG PFA_SEL [1:0], RW: 0 10⁻³, 1 10⁻⁵, 2 10⁻⁷; 3 is ignored -/
def TRAIM_CFG_PFA_SEL : Fld := ⟨32 * 0x100010, 2, 1⟩
/-- Table 6-8, TRAIM_CFG MAX_EXCL [5:4], RW: 0 to 3 -/
def TRAIM_CFG_MAX_EXCL : Fld := ⟨32 * 0x100010 + 4, 2, 2⟩
/-- Table 6-8, TRAIM_CFG ALLOW_UNPROTECTED [6:6], RW: Pass NO_RAIM to REF0 -/
def TRAIM_CFG_ALLOW_UNPROTECTED : Fld := ⟨32 * 0x100010 + 6, 1, 0⟩
/-- Table 6-8, TRAIM_CFG QUARANTINE_S [31:16], RW: Seconds -/
def TRAIM_CFG_QUARANTINE_S : Fld := ⟨32 * 0x100010 + 16, 16, 300⟩
/-- Table 6-8, WEIGHT_CFG SIGMA0 [15:0], RW: mm -/
def WEIGHT_CFG_SIGMA0 : Fld := ⟨32 * 0x100014, 16, 300⟩
/-- Table 6-8, WEIGHT_CFG SIGMA1 [31:16], RW: mm at 45 dB-Hz -/
def WEIGHT_CFG_SIGMA1 : Fld := ⟨32 * 0x100014 + 16, 16, 1500⟩
/-- Table 6-8, SF_CFG SF_SIGMA [15:0], RW: mm -/
def SF_CFG : Fld := ⟨32 * 0x100018, 16, 5000⟩
/-- Table 6-8, POS_X X [63:0] over its _LO and _HI, RWL: Signed ECEF, mm -/
def POS_X : Fld := ⟨32 * 0x100020, 64, 0⟩
/-- Table 6-8, POS_Y Y [63:0] over its _LO and _HI, RWL: Signed ECEF, mm -/
def POS_Y : Fld := ⟨32 * 0x100028, 64, 0⟩
/-- Table 6-8, POS_Z Z [63:0] over its _LO and _HI, RWL: Signed ECEF, mm -/
def POS_Z : Fld := ⟨32 * 0x100030, 64, 0⟩
/-- Table 6-8, POS_SIGMA S [31:0], RWL: mm -/
def POS_SIGMA : Fld := ⟨32 * 0x100038, 32, 0⟩
/-- Table 6-8, OFFSET OFF [63:0] over its _LO and _HI, HRO: Signed; 2⁻¹⁶ ns -/
def OFFSET : Fld := ⟨32 * 0x100040, 64, 0⟩
/-- Table 6-8, SIGMA S [31:0], HRO: ps -/
def SIGMA : Fld := ⟨32 * 0x100048, 32, 0⟩
/-- Table 6-8, TPL TPL [31:0], HRO: ps; saturates -/
def TPL : Fld := ⟨32 * 0x10004C, 32, 4294967295⟩
/-- Table 6-8, ISO_s ISO [31:0], HRO: Signed ps, s = 0 to 4 -/
def ISO (s : Nat) : Fld := ⟨32 * (0x100050 + 0x4 * s), 32, 0⟩
/-- Table 6-8, SURVEY_STAT ELAPSED [19:0], HRO: Seconds -/
def SURVEY_STAT_ELAPSED : Fld := ⟨32 * 0x100070, 20, 0⟩
/-- Table 6-8, SURVEY_STAT RESULT [23:20], HRO: 0 none, 1 done, 2 SURVEY_POOR, 3 ABORTED -/
def SURVEY_STAT_RESULT : Fld := ⟨32 * 0x100070 + 20, 4, 0⟩
/-- Table 6-8, SURVEY_SIGMA S [31:0], HRO: mm -/
def SURVEY_SIGMA : Fld := ⟨32 * 0x100074, 32, 0⟩
/-- Table 6-8, D_A D [31:0], HRO: Signed ps -/
def D_A : Fld := ⟨32 * 0x100080, 32, 0⟩
/-- Table 6-8, D_B D [31:0], HRO: Signed ps -/
def D_B : Fld := ⟨32 * 0x100084, 32, 0⟩
/-- Table 6-8, U_A U [15:0], HRO: ps -/
def U_A : Fld := ⟨32 * 0x100088, 16, 0⟩
/-- Table 6-8, U_B U [15:0], HRO: ps -/
def U_B : Fld := ⟨32 * 0x10008C, 16, 0⟩
/-- Table 6-8, PARITY_FAIL_CNT COUNT [47:0] over its _LO and _HI, HRO: R124 -/
def PARITY_FAIL_CNT : Fld := ⟨32 * 0x1000A0, 48, 0⟩
/-- Table 6-8, EPH_NEW_CNT COUNT [47:0] over its _LO and _HI, HRO: Records accepted -/
def EPH_NEW_CNT : Fld := ⟨32 * 0x1000A8, 48, 0⟩
/-- Table 6-8, EPH_JUMP_CNT COUNT [47:0] over its _LO and _HI, HRO: R127 -/
def EPH_JUMP_CNT : Fld := ⟨32 * 0x1000B0, 48, 0⟩
/-- Table 6-8, TRAIM_DETECT_CNT COUNT [47:0] over its _LO and _HI, HRO: R137 -/
def TRAIM_DETECT_CNT : Fld := ⟨32 * 0x1000B8, 48, 0⟩
/-- Table 6-8, TRAIM_EXCL_CNT COUNT [47:0] over its _LO and _HI, HRO: R137 -/
def TRAIM_EXCL_CNT : Fld := ⟨32 * 0x1000C0, 48, 0⟩
/-- Table 6-8, NO_FIX_CNT COUNT [47:0] over its _LO and _HI, HRO: Epochs ending NO_FIX or FAULT -/
def NO_FIX_CNT : Fld := ⟨32 * 0x1000C8, 48, 0⟩

/-- The register map of block GNSSN, part 1 of 2. -/
def rows1 : List Row :=
  [⟨0x100000, 0x0, 1, 0x0, 1, 0, 2, .hro, [0], .any, .whole, false⟩,
   ⟨0x100000, 0x0, 1, 0x0, 1, 2, 3, .hro, [5], .any, .whole, false⟩,
   ⟨0x100000, 0x0, 1, 0x0, 1, 5, 1, .hro, [0], .any, .whole, false⟩,
   ⟨0x100000, 0x0, 1, 0x0, 1, 6, 1, .hro, [0], .any, .whole, false⟩,
   ⟨0x100000, 0x0, 1, 0x0, 1, 8, 8, .hro, [0], .any, .whole, false⟩,
   ⟨0x100000, 0x0, 1, 0x0, 1, 16, 8, .hro, [0], .any, .whole, false⟩,
   ⟨0x100004, 0x0, 1, 0x0, 1, 0, 10, .rw, [100], (.range 10 1000), .whole, false⟩,
   ⟨0x100004, 0x0, 1, 0x0, 1, 10, 3, .rw, [0], .any, .whole, false⟩,
   ⟨0x100004, 0x0, 1, 0x0, 1, 13, 1, .rw, [1], .any, .whole, false⟩,
   ⟨0x100004, 0x0, 1, 0x0, 1, 14, 1, .rw, [1], .any, .whole, false⟩,
   ⟨0x100004, 0x0, 1, 0x0, 1, 15, 1, .rw, [0], .any, .whole, false⟩,
   ⟨0x100004, 0x0, 1, 0x0, 1, 16, 8, .rw, [100], (.range 1 255), .whole, false⟩,
   ⟨0x100008, 0x0, 1, 0x0, 1, 0, 10, .rw, [0], .any, .whole, false⟩,
   ⟨0x10000C, 0x0, 1, 0x0, 1, 0, 7, .rw, [10], (.range 0 60), .whole, false⟩,
   ⟨0x10000C, 0x0, 1, 0x0, 1, 8, 8, .rw, [30], .any, .whole, false⟩,
   ⟨0x100010, 0x0, 1, 0x0, 1, 0, 2, .rw, [1], (.range 0 2), .whole, false⟩,
   ⟨0x100010, 0x0, 1, 0x0, 1, 4, 2, .rw, [2], .any, .whole, false⟩,
   ⟨0x100010, 0x0, 1, 0x0, 1, 6, 1, .rw, [0], .any, .whole, false⟩,
   ⟨0x100010, 0x0, 1, 0x0, 1, 16, 16, .rw, [300], .any, .whole, false⟩,
   ⟨0x100014, 0x0, 1, 0x0, 1, 0, 16, .rw, [300], .any, .whole, false⟩,
   ⟨0x100014, 0x0, 1, 0x0, 1, 16, 16, .rw, [1500], .any, .whole, false⟩,
   ⟨0x100018, 0x0, 1, 0x0, 1, 0, 16, .rw, [5000], .any, .whole, false⟩,
   ⟨0x100020, 0x0, 1, 0x0, 1, 0, 32, .rwl, [0], .any, (.lo 32), false⟩,
   ⟨0x100024, 0x0, 1, 0x0, 1, 0, 32, .rwl, [0], .any, .hi, false⟩,
   ⟨0x100028, 0x0, 1, 0x0, 1, 0, 32, .rwl, [0], .any, (.lo 32), false⟩,
   ⟨0x10002C, 0x0, 1, 0x0, 1, 0, 32, .rwl, [0], .any, .hi, false⟩,
   ⟨0x100030, 0x0, 1, 0x0, 1, 0, 32, .rwl, [0], .any, (.lo 32), false⟩,
   ⟨0x100034, 0x0, 1, 0x0, 1, 0, 32, .rwl, [0], .any, .hi, false⟩,
   ⟨0x100038, 0x0, 1, 0x0, 1, 0, 32, .rwl, [0], .any, .whole, false⟩,
   ⟨0x100040, 0x0, 1, 0x0, 1, 0, 32, .hro, [0], .any, (.lo 32), false⟩]

/-- The register map of block GNSSN, part 2 of 2. -/
def rows2 : List Row :=
  [⟨0x100044, 0x0, 1, 0x0, 1, 0, 32, .hro, [0], .any, .hi, false⟩,
   ⟨0x100048, 0x0, 1, 0x0, 1, 0, 32, .hro, [0], .any, .whole, false⟩,
   ⟨0x10004C, 0x0, 1, 0x0, 1, 0, 32, .hro, [4294967295], .any, .whole, false⟩,
   ⟨0x100050, 0x4, 5, 0x0, 1, 0, 32, .hro, [0], .any, .whole, false⟩,
   ⟨0x100070, 0x0, 1, 0x0, 1, 0, 20, .hro, [0], .any, .whole, false⟩,
   ⟨0x100070, 0x0, 1, 0x0, 1, 20, 4, .hro, [0], .any, .whole, false⟩,
   ⟨0x100074, 0x0, 1, 0x0, 1, 0, 32, .hro, [0], .any, .whole, false⟩,
   ⟨0x100080, 0x0, 1, 0x0, 1, 0, 32, .hro, [0], .any, .whole, false⟩,
   ⟨0x100084, 0x0, 1, 0x0, 1, 0, 32, .hro, [0], .any, .whole, false⟩,
   ⟨0x100088, 0x0, 1, 0x0, 1, 0, 16, .hro, [0], .any, .whole, false⟩,
   ⟨0x10008C, 0x0, 1, 0x0, 1, 0, 16, .hro, [0], .any, .whole, false⟩,
   ⟨0x1000A0, 0x0, 1, 0x0, 1, 0, 32, .hro, [0], .any, (.lo 16), true⟩,
   ⟨0x1000A4, 0x0, 1, 0x0, 1, 0, 16, .hro, [0], .any, .hi, true⟩,
   ⟨0x1000A8, 0x0, 1, 0x0, 1, 0, 32, .hro, [0], .any, (.lo 16), true⟩,
   ⟨0x1000AC, 0x0, 1, 0x0, 1, 0, 16, .hro, [0], .any, .hi, true⟩,
   ⟨0x1000B0, 0x0, 1, 0x0, 1, 0, 32, .hro, [0], .any, (.lo 16), true⟩,
   ⟨0x1000B4, 0x0, 1, 0x0, 1, 0, 16, .hro, [0], .any, .hi, true⟩,
   ⟨0x1000B8, 0x0, 1, 0x0, 1, 0, 32, .hro, [0], .any, (.lo 16), true⟩,
   ⟨0x1000BC, 0x0, 1, 0x0, 1, 0, 16, .hro, [0], .any, .hi, true⟩,
   ⟨0x1000C0, 0x0, 1, 0x0, 1, 0, 32, .hro, [0], .any, (.lo 16), true⟩,
   ⟨0x1000C4, 0x0, 1, 0x0, 1, 0, 16, .hro, [0], .any, .hi, true⟩,
   ⟨0x1000C8, 0x0, 1, 0x0, 1, 0, 32, .hro, [0], .any, (.lo 16), true⟩,
   ⟨0x1000CC, 0x0, 1, 0x0, 1, 0, 16, .hro, [0], .any, .hi, true⟩]

/-- The register map of block GNSSN. -/
def rows : List Row := rows1 ++ rows2

end Sys2Proof.Machine.GNSSN

namespace Sys2Proof.Machine.REFSEL

/-- Table 7-7, REFSEL_STATUS CLOCK_STATE [2:0], HRO: Table 7-4 -/
def REFSEL_STATUS_CLOCK_STATE : Fld := ⟨32 * 0x110000, 3, 0⟩
/-- Table 7-7, REFSEL_STATUS SELECTED [7:4], HRO: Selected slot; valid when SEL_VALID is 1 -/
def REFSEL_STATUS_SELECTED : Fld := ⟨32 * 0x110000 + 4, 4, 0⟩
/-- Table 7-7, REFSEL_STATUS SEL_VALID [8:8], HRO: A slot is selected -/
def REFSEL_STATUS_SEL_VALID : Fld := ⟨32 * 0x110000 + 8, 1, 0⟩
/-- Table 7-7, REFSEL_STATUS ASSIST [12:9], HRO: Assist slot -/
def REFSEL_STATUS_ASSIST : Fld := ⟨32 * 0x110000 + 9, 4, 0⟩
/-- Table 7-7, REFSEL_STATUS ASSIST_VALID [13:13], HRO: An assist is in use -/
def REFSEL_STATUS_ASSIST_VALID : Fld := ⟨32 * 0x110000 + 13, 1, 0⟩
/-- Table 7-7, REFSEL_STATUS SWITCHING [14:14], HRO: A switch is under way -/
def REFSEL_STATUS_SWITCHING : Fld := ⟨32 * 0x110000 + 14, 1, 0⟩
/-- Table 7-7, REFSEL_STATUS FROZEN [15:15], HRO: R163 -/
def REFSEL_STATUS_FROZEN : Fld := ⟨32 * 0x110000 + 15, 1, 0⟩
/-- Table 7-7, REFSEL_STATUS DISAGREE [16:16], HRO: A pair is SUSPECT -/
def REFSEL_STATUS_DISAGREE : Fld := ⟨32 * 0x110000 + 16, 1, 0⟩
/-- Table 7-7, REFSEL_CFG REVERTIVE [0:0], RW: R154 -/
def REFSEL_CFG_REVERTIVE : Fld := ⟨32 * 0x110004, 1, 1⟩
/-- Table 7-7, REFSEL_CFG HYBRID [1:1], RW: R156 -/
def REFSEL_CFG_HYBRID : Fld := ⟨32 * 0x110004 + 1, 1, 0⟩
/-- Table 7-7, REFSEL_CFG QL_ENABLE [2:2], RW: QL criterion and ordering -/
def REFSEL_CFG_QL_ENABLE : Fld := ⟨32 * 0x110004 + 2, 1, 0⟩
/-- Table 7-7, REFSEL_CFG QL_OPTION [3:3], RW: 0 option 1, 1 option 2 -/
def REFSEL_CFG_QL_OPTION : Fld := ⟨32 * 0x110004 + 3, 1, 0⟩
/-- Table 7-7, REFSEL_CFG FREEZE_SHEETS [15:8], RW: 1 to 255 -/
def REFSEL_CFG_FREEZE_SHEETS : Fld := ⟨32 * 0x110004 + 8, 8, 80⟩
/-- Table 7-7, DPLL_BW BW [16:0], RW: 0.1 mHz units, 1 to 100,000; other writes ignored -/
def DPLL_BW : Fld := ⟨32 * 0x110008, 17, 1000⟩
/-- Table 7-7, DPLL_DAMP ZETA [11:0], RW: ζ in 1/256, 64 to 4,095; other writes ignored -/
def DPLL_DAMP : Fld := ⟨32 * 0x11000C, 12, 181⟩
/-- Table 7-7, ASSIST_BW BW [16:0], RW: 0.1 mHz units, 1 to 100,000 -/
def ASSIST_BW : Fld := ⟨32 * 0x110010, 17, 1000⟩
/-- Table 7-7, QUAL_CFG QUAL_S [7:0], RW: Seconds, 1 to 255 -/
def QUAL_CFG_QUAL_S : Fld := ⟨32 * 0x110014, 8, 10⟩
/-- Table 7-7, QUAL_CFG FREQ_WIN_S [15:8], RW: Seconds, 2 to 255 -/
def QUAL_CFG_FREQ_WIN_S : Fld := ⟨32 * 0x110014 + 8, 8, 16⟩
/-- Table 7-7, QUAL_CFG WTR_S [31:16], RW: Seconds; 0 disables the wait -/
def QUAL_CFG_WTR_S : Fld := ⟨32 * 0x110014 + 16, 16, 300⟩
/-- Table 7-7, FREQ_LIMIT PPT [31:0], RW: R151 -/
def FREQ_LIMIT : Fld := ⟨32 * 0x110018, 32, 9200000⟩
/-- Table 7-7, JUMP_LIMIT PS [31:0], RW: R151 -/
def JUMP_LIMIT : Fld := ⟨32 * 0x11001C, 32, 100000⟩
/-- Table 7-7, LOCK_CFG LOCK_PHASE [15:0], RW: ns -/
def LOCK_CFG_LOCK_PHASE : Fld := ⟨32 * 0x110020, 16, 100⟩
/-- Table 7-7, LOCK_CFG LOCK_S [23:16], RW: Seconds, 1 to 255 -/
def LOCK_CFG_LOCK_S : Fld := ⟨32 * 0x110020 + 16, 8, 16⟩
/-- Table 7-7, UNLOCK_CFG UNLOCK_PHASE [15:0], RW: ns -/
def UNLOCK_CFG : Fld := ⟨32 * 0x110024, 16, 1000⟩
/-- Table 7-7, DIS_CFG DIS_LIMIT [15:0], RW: ppt -/
def DIS_CFG_DIS_LIMIT : Fld := ⟨32 * 0x110028, 16, 200⟩
/-- Table 7-7, DIS_CFG DIS_WIN_S [31:16], RW: Seconds, 2 to 65,535 -/
def DIS_CFG_DIS_WIN_S : Fld := ⟨32 * 0x110028 + 16, 16, 64⟩
/-- Table 7-7, PTP_CFG PTP_CLASS_MAX [7:0], RW: Highest upstream clockClass accepted -/
def PTP_CFG : Fld := ⟨32 * 0x11002C, 8, 7⟩
/-- Table 7-7, REF_OVERRIDE FORCE_SLOT [3:0], RWT: Forced slot -/
def REF_OVERRIDE_FORCE_SLOT : Fld := ⟨32 * 0x110030, 4, 0⟩
/-- Table 7-7, REF_OVERRIDE FORCE_EN [4:4], RWT: Forcing on -/
def REF_OVERRIDE_FORCE_EN : Fld := ⟨32 * 0x110030 + 4, 1, 0⟩
/-- Table 7-7, REF_OVERRIDE LOCKOUT [31:16], RWT: Bit n locks out REFn -/
def REF_OVERRIDE_LOCKOUT : Fld := ⟨32 * 0x110030 + 16, 16, 0⟩
/-- Table 7-7, TX_QL_CFG LOCKED_SSM [3:0], RW: R166 -/
def TX_QL_CFG_LOCKED_SSM : Fld := ⟨32 * 0x110034, 4, 2⟩
/-- Table 7-7, TX_QL_CFG LOCKED_ESSM [15:8], RW: R166 -/
def TX_QL_CFG_LOCKED_ESSM : Fld := ⟨32 * 0x110034 + 8, 8, 32⟩
/-- Table 7-7, TX_QL_CFG HOLD_SSM [19:16], RW: R166 -/
def TX_QL_CFG_HOLD_SSM : Fld := ⟨32 * 0x110034 + 16, 4, 4⟩
/-- Table 7-7, TX_QL_CFG HOLD_ESSM [27:20], RW: R166 -/
def TX_QL_CFG_HOLD_ESSM : Fld := ⟨32 * 0x110034 + 20, 8, 255⟩
/-- Table 7-7, TX_QL_CFG2 FREE_SSM [3:0], RW: R166 -/
def TX_QL_CFG2_FREE_SSM : Fld := ⟨32 * 0x110038, 4, 11⟩
/-- Table 7-7, TX_QL_CFG2 FREE_ESSM [15:8], RW: R166 -/
def TX_QL_CFG2_FREE_ESSM : Fld := ⟨32 * 0x110038 + 8, 8, 255⟩
/-- Table 7-7, TX_QL_CFG2 EXT_TLV [16:16], RW: Send the extended TLV -/
def TX_QL_CFG2_EXT_TLV : Fld := ⟨32 * 0x110038 + 16, 1, 1⟩
/-- Table 7-7, TX_QL_CFG2 ESMC_TX_EN [31:24], RW: Bit p: send on Pp -/
def TX_QL_CFG2_ESMC_TX_EN : Fld := ⟨32 * 0x110038 + 24, 8, 0⟩
/-- Table 7-7, DPLL_CTRL_LO Y [39:0] over its _LO and _HI, HRO: DPLL term of y, low word -/
def DPLL_CTRL : Fld := ⟨32 * 0x110040, 40, 0⟩
/-- Table 7-7, PHASE_ERR_LO PS [39:0] over its _LO and _HI, HRO: Signed θ − PBO of the selected slot -/
def PHASE_ERR : Fld := ⟨32 * 0x110048, 40, 0⟩
/-- Table 7-7, DIS_WIDEN_LO PS [39:0] over its _LO and _HI, HRO: R159 -/
def DIS_WIDEN : Fld := ⟨32 * 0x110050, 40, 0⟩
/-- Table 7-7, SWITCH_CNT COUNT [47:0] over its _LO and _HI, HRO: Switches completed -/
def SWITCH_CNT : Fld := ⟨32 * 0x110058, 48, 0⟩
/-- Table 7-7, DISAGREE_CNT COUNT [47:0] over its _LO and _HI, HRO: R159 -/
def DISAGREE_CNT : Fld := ⟨32 * 0x110060, 48, 0⟩
/-- Table 7-7, ESMC_BAD_CNT COUNT [47:0] over its _LO and _HI, HRO: R164 -/
def ESMC_BAD_CNT : Fld := ⟨32 * 0x110068, 48, 0⟩
/-- Table 7-7, TOD_CFGi BAUD [13:0], RW: Units of 100 baud, 96 to 9,216 -/
def TOD_CFG_BAUD (i : Nat) : Fld := ⟨32 * (0x110080 + 0x4 * i), 14, 96⟩
/-- Table 7-7, TOD_CFGi UTC [16:16], RW: Messages carry UTC -/
def TOD_CFG_UTC (i : Nat) : Fld := ⟨32 * (0x110080 + 0x4 * i) + 16, 1, 1⟩
/-- Table 7-7, TOD_CFGi ENABLE [17:17], RW: Receiver on -/
def TOD_CFG_ENABLE (i : Nat) : Fld := ⟨32 * (0x110080 + 0x4 * i) + 17, 1, 0⟩
/-- Table 7-7, REF_CFGn ENABLE [0:0], RW: Table 7-2 -/
def REF_CFG_ENABLE (n : Nat) : Fld := ⟨32 * (0x110100 + 0x20 * n), 1, 0⟩
/-- Table 7-7, REF_CFGn RANK [4:1], RW: 0 best, 15 worst -/
def REF_CFG_RANK (n : Nat) : Fld := ⟨32 * (0x110100 + 0x20 * n) + 1, 4, (rstAt [0, 2, 2, 4, 4, 6, 6, 6, 6, 6, 6, 6, 6, 3, 1, 0] n)⟩
/-- Table 7-7, REF_CFGn WIN [10:5], RW: Window of an edge-measured slot -/
def REF_CFG_WIN (n : Nat) : Fld := ⟨32 * (0x110100 + 0x20 * n) + 5, 6, 0⟩
/-- Table 7-7, REF_CFGn QL_ASSIGN [15:12], RW: SSM of a slot that is not SyncE -/
def REF_CFG_QL_ASSIGN (n : Nat) : Fld := ⟨32 * (0x110100 + 0x20 * n) + 12, 4, 15⟩
/-- Table 7-7, REF_CFGn LOS_MS [31:16], RW: 1 to 65,535 ms -/
def REF_CFG_LOS_MS (n : Nat) : Fld := ⟨32 * (0x110100 + 0x20 * n) + 16, 16, (rstAt [1000, 1500, 1500, 2, 2, 2, 2, 2, 2, 2, 2, 2, 2, 3000, 2, 1] n)⟩
/-- Table 7-7, REF_PERIOD_LOn P [47:0] over its _LO and _HI, RW: Period of passed edges in 2⁻¹⁶ ns -/
def REF_PERIOD (n : Nat) : Fld := ⟨32 * (0x110104 + 0x20 * n), 48, (rstAt [0, 65536000000000, 65536000000000, 0, 0, 0, 0, 0, 0, 0, 0, 0, 0, 0, 0, 0] n)⟩
/-- Table 7-7, REF_STATn STATE [2:0], HRO: Table 7-2 -/
def REF_STAT_STATE (n : Nat) : Fld := ⟨32 * (0x11010C + 0x20 * n), 3, 0⟩
/-- Table 7-7, REF_STATn KIND [3:3], HRO: 0 TIME, 1 FREQ -/
def REF_STAT_KIND (n : Nat) : Fld := ⟨32 * (0x11010C + 0x20 * n) + 3, 1, (rstAt [0, 0, 0, 1, 1, 1, 1, 1, 1, 1, 1, 1, 1, 0, 1, 0] n)⟩
/-- Table 7-7, REF_STATn SELECTED [4:4], HRO: Time reference -/
def REF_STAT_SELECTED (n : Nat) : Fld := ⟨32 * (0x11010C + 0x20 * n) + 4, 1, 0⟩
/-- Table 7-7, REF_STATn ASSIST [5:5], HRO: Frequency assist -/
def REF_STAT_ASSIST (n : Nat) : Fld := ⟨32 * (0x11010C + 0x20 * n) + 5, 1, 0⟩
/-- Table 7-7, REF_STATn SUSPECT [6:6], HRO: R159 -/
def REF_STAT_SUSPECT (n : Nat) : Fld := ⟨32 * (0x11010C + 0x20 * n) + 6, 1, 0⟩
/-- Table 7-7, REF_STATn LOCKED_OUT [7:7], HRO: Bit set in LOCKOUT -/
def REF_STAT_LOCKED_OUT (n : Nat) : Fld := ⟨32 * (0x11010C + 0x20 * n) + 7, 1, 0⟩
/-- Table 7-7, REF_STATn CAUSE [15:8], HRO: [8] LOS, [9] FREQ, [10] JUMP, [11] SOURCE, [12] TOD, [13] QL, [14] MODE, [15] CONFIG -/
def REF_STAT_CAUSE (n : Nat) : Fld := ⟨32 * (0x11010C + 0x20 * n) + 8, 8, 0⟩
/-- Table 7-7, REF_STATn ARBITRATED [16:16], HRO: Failed by arbitration -/
def REF_STAT_ARBITRATED (n : Nat) : Fld := ⟨32 * (0x11010C + 0x20 * n) + 16, 1, 0⟩
/-- Table 7-7, REF_STATn RX_SSM [23:20], HRO: R164 -/
def REF_STAT_RX_SSM (n : Nat) : Fld := ⟨32 * (0x11010C + 0x20 * n) + 20, 4, 15⟩
/-- Table 7-7, REF_STATn RX_ESSM [31:24], HRO: R164 -/
def REF_STAT_RX_ESSM (n : Nat) : Fld := ⟨32 * (0x11010C + 0x20 * n) + 24, 8, 255⟩
/-- Table 7-7, REF_TIMERn SEC [15:0], HRO: Seconds left on the timer -/
def REF_TIMER (n : Nat) : Fld := ⟨32 * (0x110110 + 0x20 * n), 16, 0⟩
/-- Table 7-7, REF_FREQn PPT [31:0], HRO: Signed slope -/
def REF_FREQ (n : Nat) : Fld := ⟨32 * (0x110114 + 0x20 * n), 32, 0⟩
/-- Table 7-7, REF_PHASE_LOn PS [39:0] over its _LO and _HI, HRO: Latest signed θ -/
def REF_PHASE (n : Nat) : Fld := ⟨32 * (0x110118 + 0x20 * n), 40, 0⟩

/-- The register map of block REFSEL, part 1 of 3. -/
def rows1 : List Row :=
  [⟨0x110000, 0x0, 1, 0x0, 1, 0, 3, .hro, [0], .any, .whole, false⟩,
   ⟨0x110000, 0x0, 1, 0x0, 1, 4, 4, .hro, [0], .any, .whole, false⟩,
   ⟨0x110000, 0x0, 1, 0x0, 1, 8, 1, .hro, [0], .any, .whole, false⟩,
   ⟨0x110000, 0x0, 1, 0x0, 1, 9, 4, .hro, [0], .any, .whole, false⟩,
   ⟨0x110000, 0x0, 1, 0x0, 1, 13, 1, .hro, [0], .any, .whole, false⟩,
   ⟨0x110000, 0x0, 1, 0x0, 1, 14, 1, .hro, [0], .any, .whole, false⟩,
   ⟨0x110000, 0x0, 1, 0x0, 1, 15, 1, .hro, [0], .any, .whole, false⟩,
   ⟨0x110000, 0x0, 1, 0x0, 1, 16, 1, .hro, [0], .any, .whole, false⟩,
   ⟨0x110004, 0x0, 1, 0x0, 1, 0, 1, .rw, [1], .any, .whole, false⟩,
   ⟨0x110004, 0x0, 1, 0x0, 1, 1, 1, .rw, [0], .any, .whole, false⟩,
   ⟨0x110004, 0x0, 1, 0x0, 1, 2, 1, .rw, [0], .any, .whole, false⟩,
   ⟨0x110004, 0x0, 1, 0x0, 1, 3, 1, .rw, [0], .any, .whole, false⟩,
   ⟨0x110004, 0x0, 1, 0x0, 1, 8, 8, .rw, [80], (.range 1 255), .whole, false⟩,
   ⟨0x110008, 0x0, 1, 0x0, 1, 0, 17, .rw, [1000], (.range 1 100000), .whole, false⟩,
   ⟨0x11000C, 0x0, 1, 0x0, 1, 0, 12, .rw, [181], (.range 64 4095), .whole, false⟩,
   ⟨0x110010, 0x0, 1, 0x0, 1, 0, 17, .rw, [1000], (.range 1 100000), .whole, false⟩,
   ⟨0x110014, 0x0, 1, 0x0, 1, 0, 8, .rw, [10], (.range 1 255), .whole, false⟩,
   ⟨0x110014, 0x0, 1, 0x0, 1, 8, 8, .rw, [16], (.range 2 255), .whole, false⟩,
   ⟨0x110014, 0x0, 1, 0x0, 1, 16, 16, .rw, [300], .any, .whole, false⟩,
   ⟨0x110018, 0x0, 1, 0x0, 1, 0, 32, .rw, [9200000], .any, .whole, false⟩,
   ⟨0x11001C, 0x0, 1, 0x0, 1, 0, 32, .rw, [100000], .any, .whole, false⟩,
   ⟨0x110020, 0x0, 1, 0x0, 1, 0, 16, .rw, [100], .any, .whole, false⟩,
   ⟨0x110020, 0x0, 1, 0x0, 1, 16, 8, .rw, [16], (.range 1 255), .whole, false⟩,
   ⟨0x110024, 0x0, 1, 0x0, 1, 0, 16, .rw, [1000], .any, .whole, false⟩,
   ⟨0x110028, 0x0, 1, 0x0, 1, 0, 16, .rw, [200], .any, .whole, false⟩,
   ⟨0x110028, 0x0, 1, 0x0, 1, 16, 16, .rw, [64], (.range 2 65535), .whole, false⟩,
   ⟨0x11002C, 0x0, 1, 0x0, 1, 0, 8, .rw, [7], .any, .whole, false⟩,
   ⟨0x110030, 0x0, 1, 0x0, 1, 0, 4, .rwt, [0], .any, .whole, false⟩,
   ⟨0x110030, 0x0, 1, 0x0, 1, 4, 1, .rwt, [0], .any, .whole, false⟩,
   ⟨0x110030, 0x0, 1, 0x0, 1, 16, 16, .rwt, [0], .any, .whole, false⟩]

/-- The register map of block REFSEL, part 2 of 3. -/
def rows2 : List Row :=
  [⟨0x110034, 0x0, 1, 0x0, 1, 0, 4, .rw, [2], .any, .whole, false⟩,
   ⟨0x110034, 0x0, 1, 0x0, 1, 8, 8, .rw, [32], .any, .whole, false⟩,
   ⟨0x110034, 0x0, 1, 0x0, 1, 16, 4, .rw, [4], .any, .whole, false⟩,
   ⟨0x110034, 0x0, 1, 0x0, 1, 20, 8, .rw, [255], .any, .whole, false⟩,
   ⟨0x110038, 0x0, 1, 0x0, 1, 0, 4, .rw, [11], .any, .whole, false⟩,
   ⟨0x110038, 0x0, 1, 0x0, 1, 8, 8, .rw, [255], .any, .whole, false⟩,
   ⟨0x110038, 0x0, 1, 0x0, 1, 16, 1, .rw, [1], .any, .whole, false⟩,
   ⟨0x110038, 0x0, 1, 0x0, 1, 24, 8, .rw, [0], .any, .whole, false⟩,
   ⟨0x110040, 0x0, 1, 0x0, 1, 0, 32, .hro, [0], .any, (.lo 8), false⟩,
   ⟨0x110044, 0x0, 1, 0x0, 1, 0, 8, .hro, [0], .any, .hi, false⟩,
   ⟨0x110048, 0x0, 1, 0x0, 1, 0, 32, .hro, [0], .any, (.lo 8), false⟩,
   ⟨0x11004C, 0x0, 1, 0x0, 1, 0, 8, .hro, [0], .any, .hi, false⟩,
   ⟨0x110050, 0x0, 1, 0x0, 1, 0, 32, .hro, [0], .any, (.lo 8), false⟩,
   ⟨0x110054, 0x0, 1, 0x0, 1, 0, 8, .hro, [0], .any, .hi, false⟩,
   ⟨0x110058, 0x0, 1, 0x0, 1, 0, 32, .hro, [0], .any, (.lo 16), true⟩,
   ⟨0x11005C, 0x0, 1, 0x0, 1, 0, 16, .hro, [0], .any, .hi, true⟩,
   ⟨0x110060, 0x0, 1, 0x0, 1, 0, 32, .hro, [0], .any, (.lo 16), true⟩,
   ⟨0x110064, 0x0, 1, 0x0, 1, 0, 16, .hro, [0], .any, .hi, true⟩,
   ⟨0x110068, 0x0, 1, 0x0, 1, 0, 32, .hro, [0], .any, (.lo 16), true⟩,
   ⟨0x11006C, 0x0, 1, 0x0, 1, 0, 16, .hro, [0], .any, .hi, true⟩,
   ⟨0x110080, 0x4, 2, 0x0, 1, 0, 14, .rw, [96], (.range 96 9216), .whole, false⟩,
   ⟨0x110080, 0x4, 2, 0x0, 1, 16, 1, .rw, [1], .any, .whole, false⟩,
   ⟨0x110080, 0x4, 2, 0x0, 1, 17, 1, .rw, [0], .any, .whole, false⟩,
   ⟨0x110100, 0x20, 16, 0x0, 1, 0, 1, .rw, [0], .any, .whole, false⟩,
   ⟨0x110100, 0x20, 16, 0x0, 1, 1, 4, .rw, [0, 2, 2, 4, 4, 6, 6, 6, 6, 6, 6, 6, 6, 3, 1, 0], .any, .whole, false⟩,
   ⟨0x110100, 0x20, 16, 0x0, 1, 5, 6, .rw, [0], .any, .whole, false⟩,
   ⟨0x110100, 0x20, 16, 0x0, 1, 12, 4, .rw, [15], .any, .whole, false⟩,
   ⟨0x110100, 0x20, 16, 0x0, 1, 16, 16, .rw, [1000, 1500, 1500, 2, 2, 2, 2, 2, 2, 2, 2, 2, 2, 3000, 2, 1], (.range 1 65535), .whole, false⟩,
   ⟨0x110104, 0x20, 16, 0x0, 1, 0, 32, .rw, [0, 65536000000000, 65536000000000, 0, 0, 0, 0, 0, 0, 0, 0, 0, 0, 0, 0, 0], .any, (.lo 16), false⟩,
   ⟨0x110108, 0x20, 16, 0x0, 1, 0, 16, .rw, [0, 65536000000000, 65536000000000, 0, 0, 0, 0, 0, 0, 0, 0, 0, 0, 0, 0, 0], .any, .hi, false⟩]

/-- The register map of block REFSEL, part 3 of 3. -/
def rows3 : List Row :=
  [⟨0x11010C, 0x20, 16, 0x0, 1, 0, 3, .hro, [0], .any, .whole, false⟩,
   ⟨0x11010C, 0x20, 16, 0x0, 1, 3, 1, .hro, [0, 0, 0, 1, 1, 1, 1, 1, 1, 1, 1, 1, 1, 0, 1, 0], .any, .whole, false⟩,
   ⟨0x11010C, 0x20, 16, 0x0, 1, 4, 1, .hro, [0], .any, .whole, false⟩,
   ⟨0x11010C, 0x20, 16, 0x0, 1, 5, 1, .hro, [0], .any, .whole, false⟩,
   ⟨0x11010C, 0x20, 16, 0x0, 1, 6, 1, .hro, [0], .any, .whole, false⟩,
   ⟨0x11010C, 0x20, 16, 0x0, 1, 7, 1, .hro, [0], .any, .whole, false⟩,
   ⟨0x11010C, 0x20, 16, 0x0, 1, 8, 8, .hro, [0], .any, .whole, false⟩,
   ⟨0x11010C, 0x20, 16, 0x0, 1, 16, 1, .hro, [0], .any, .whole, false⟩,
   ⟨0x11010C, 0x20, 16, 0x0, 1, 20, 4, .hro, [15], .any, .whole, false⟩,
   ⟨0x11010C, 0x20, 16, 0x0, 1, 24, 8, .hro, [255], .any, .whole, false⟩,
   ⟨0x110110, 0x20, 16, 0x0, 1, 0, 16, .hro, [0], .any, .whole, false⟩,
   ⟨0x110114, 0x20, 16, 0x0, 1, 0, 32, .hro, [0], .any, .whole, false⟩,
   ⟨0x110118, 0x20, 16, 0x0, 1, 0, 32, .hro, [0], .any, (.lo 8), false⟩,
   ⟨0x11011C, 0x20, 16, 0x0, 1, 0, 8, .hro, [0], .any, .hi, false⟩]

/-- The register map of block REFSEL. -/
def rows : List Row := rows1 ++ rows2 ++ rows3

end Sys2Proof.Machine.REFSEL

namespace Sys2Proof.Machine.HOLD

/-- Table 8-8, HOLD_STATUS HIST_VALID [0:0], HRO: R172 -/
def HOLD_STATUS_HIST_VALID : Fld := ⟨32 * 0x120000, 1, 0⟩
/-- Table 8-8, HOLD_STATUS IN_HOLD [1:1], HRO: Model of R174 applied -/
def HOLD_STATUS_IN_HOLD : Fld := ⟨32 * 0x120000 + 1, 1, 0⟩
/-- Table 8-8, HOLD_STATUS DEGRADED [2:2], HRO: R173 -/
def HOLD_STATUS_DEGRADED : Fld := ⟨32 * 0x120000 + 2, 1, 0⟩
/-- Table 8-8, HOLD_STATUS CATEGORY [4:3], HRO: Table 8-2 -/
def HOLD_STATUS_CATEGORY : Fld := ⟨32 * 0x120000 + 3, 2, 0⟩
/-- Table 8-8, HOLD_STATUS OSC_FAIL [5:5], HRO: R178 -/
def HOLD_STATUS_OSC_FAIL : Fld := ⟨32 * 0x120000 + 5, 1, 0⟩
/-- Table 8-8, HOLD_STATUS TEMP_STALE [6:6], HRO: R175 -/
def HOLD_STATUS_TEMP_STALE : Fld := ⟨32 * 0x120000 + 6, 1, 0⟩
/-- Table 8-8, HOLD_STATUS STEER_CFG_BAD [7:7], HRO: R180 -/
def HOLD_STATUS_STEER_CFG_BAD : Fld := ⟨32 * 0x120000 + 7, 1, 0⟩
/-- Table 8-8, HOLD_STATUS ASSISTED [8:8], HRO: Holdover with an assist -/
def HOLD_STATUS_ASSISTED : Fld := ⟨32 * 0x120000 + 8, 1, 0⟩
/-- Table 8-8, HOLD_CFG HIST_LOG2 [4:0], RW: 10 to 22; other writes ignored -/
def HOLD_CFG_HIST_LOG2 : Fld := ⟨32 * 0x120004, 5, 16⟩
/-- Table 8-8, HOLD_CFG AGEING_EN [5:5], RW: Fit a -/
def HOLD_CFG_AGEING_EN : Fld := ⟨32 * 0x120004 + 5, 1, 1⟩
/-- Table 8-8, HOLD_CFG TEMP_SRC [7:6], RW: R175 -/
def HOLD_CFG_TEMP_SRC : Fld := ⟨32 * 0x120004 + 6, 2, 0⟩
/-- Table 8-8, HOLD_CFG TEMP_LEARN [8:8], RW: Fit k -/
def HOLD_CFG_TEMP_LEARN : Fld := ⟨32 * 0x120004 + 8, 1, 0⟩
/-- Table 8-8, HOLD_CFG STEER_MODE [10:9], RW: R180; 3 is ignored -/
def HOLD_CFG_STEER_MODE : Fld := ⟨32 * 0x120004 + 9, 2, 0⟩
/-- Table 8-8, HOLD_CFG OSC_SRC [11:11], RW: 0 OCXO, 1 atomic module drives OSC_IN -/
def HOLD_CFG_OSC_SRC : Fld := ⟨32 * 0x120004 + 11, 1, 0⟩
/-- Table 8-8, SKIP_CFG SKIP_S [15:0], RW: Seconds -/
def SKIP_CFG_SKIP_S : Fld := ⟨32 * 0x120008, 16, 900⟩
/-- Table 8-8, SKIP_CFG HIST_MIN_S [31:16], RW: Seconds, at least 64 -/
def SKIP_CFG_HIST_MIN_S : Fld := ⟨32 * 0x120008 + 16, 16, 1024⟩
/-- Table 8-8, FREQ_FLOOR F [31:0], RW: 2⁻¹⁰ ppt -/
def FREQ_FLOOR : Fld := ⟨32 * 0x12000C, 32, 1024⟩
/-- Table 8-8, AGE_ALLOW G [31:0], RW: 2⁻¹⁰ ppt per day -/
def AGE_ALLOW : Fld := ⟨32 * 0x120010, 32, 1024⟩
/-- Table 8-8, TEMP_ALLOW H [31:0], RW: 2⁻¹⁰ ppt per °C -/
def TEMP_ALLOW : Fld := ⟨32 * 0x120014, 32, 0⟩
/-- Table 8-8, TEMP_COEF K [31:0], RW: Signed; 2⁻¹⁰ ppt per °C -/
def TEMP_COEF : Fld := ⟨32 * 0x120018, 32, 0⟩
/-- Table 8-8, STALE_RATE S [31:0], RW: 2⁻¹⁰ ppt -/
def STALE_RATE : Fld := ⟨32 * 0x12001C, 32, 10240⟩
/-- Table 8-8, ASSIST_ALLOW F [31:0], RW: 2⁻¹⁰ ppt -/
def ASSIST_ALLOW : Fld := ⟨32 * 0x120020, 32, 16384⟩
/-- Table 8-8, SPEC_NS T [31:0], RW: ns -/
def SPEC_NS : Fld := ⟨32 * 0x120024, 32, 1000⟩
/-- Table 8-8, CAT1_NS T [31:0], RW: ns -/
def CAT1_NS : Fld := ⟨32 * 0x120028, 32, 5000⟩
/-- Table 8-8, CAT2_NS T [31:0], RW: ns -/
def CAT2_NS : Fld := ⟨32 * 0x12002C, 32, 50000⟩
/-- Table 8-8, OSC_LIMIT PPT [31:0], RW: R178 -/
def OSC_LIMIT : Fld := ⟨32 * 0x120030, 32, 10000000⟩
/-- Table 8-8, OSC_JUMP PPT [31:0], RW: R178 -/
def OSC_JUMP : Fld := ⟨32 * 0x120034, 32, 1000⟩
/-- Table 8-8, OSC_GOOD_S S [15:0], RW: Seconds, 1 to 65,535 -/
def OSC_GOOD_S : Fld := ⟨32 * 0x120038, 16, 60⟩
/-- Table 8-8, OFFLOAD_MIN U [31:0], RW: 2⁻¹⁰ ppt -/
def OFFLOAD_MIN : Fld := ⟨32 * 0x12003C, 32, 1024⟩
/-- Table 8-8, OFFLOAD_MAX U [31:0], RW: 2⁻¹⁰ ppt -/
def OFFLOAD_MAX : Fld := ⟨32 * 0x120040, 32, 1048576⟩
/-- Table 8-8, EFC_INIT CODE [23:0], RW: DAC code at reset -/
def EFC_INIT : Fld := ⟨32 * 0x120044, 24, 8388608⟩
/-- Table 8-8, EFC_CODE CODE [23:0], HRO: DAC code driven -/
def EFC_CODE : Fld := ⟨32 * 0x120048, 24, 8388608⟩
/-- Table 8-8, EFC_SENS S [31:0], RW: Signed; 2⁻¹⁰ ppt per code -/
def EFC_SENS : Fld := ⟨32 * 0x12004C, 32, 0⟩
/-- Table 8-8, HOLD_VALUE_LO U [39:0] over its _LO and _HI, HRO: Signed u now, low word -/
def HOLD_VALUE : Fld := ⟨32 * 0x120050, 40, 0⟩
/-- Table 8-8, HOLD_MEAN_LO C [39:0] over its _LO and _HI, HRO: Signed c of the frozen model -/
def HOLD_MEAN : Fld := ⟨32 * 0x120058, 40, 0⟩
/-- Table 8-8, HOLD_AGEING A [31:0], HRO: Signed; 2⁻¹⁰ ppt per day -/
def HOLD_AGEING : Fld := ⟨32 * 0x120060, 32, 0⟩
/-- Table 8-8, TEMP_COEF_FIT K [31:0], HRO: Signed; 2⁻¹⁰ ppt per °C -/
def TEMP_COEF_FIT : Fld := ⟨32 * 0x120064, 32, 0⟩
/-- Table 8-8, HOLD_EH_LO PS [39:0] over its _LO and _HI, HRO: e_h, low word -/
def HOLD_EH : Fld := ⟨32 * 0x120068, 40, 0⟩
/-- Table 8-8, PULL_LO P [39:0] over its _LO and _HI, HRO: Signed p -/
def PULL : Fld := ⟨32 * 0x120070, 40, 0⟩
/-- Table 8-8, HIST_USABLE_S S [22:0], HRO: R172 -/
def HIST_USABLE_S : Fld := ⟨32 * 0x120078, 23, 0⟩
/-- Table 8-8, HOLD_TEMP T [15:0], RW: Signed 1/16 °C; each write is fresh -/
def HOLD_TEMP : Fld := ⟨32 * 0x12007C, 16, 0⟩
/-- Table 8-8, ATOM_CFG BAUD [13:0], RW: 100 baud units, 96 to 9,216 -/
def ATOM_CFG_BAUD : Fld := ⟨32 * 0x120090, 14, 1152⟩
/-- Table 8-8, ATOM_CFG ENABLE [16:16], RW: Port in use -/
def ATOM_CFG_ENABLE : Fld := ⟨32 * 0x120090 + 16, 1, 1⟩
/-- Table 8-8, ATOM_STATUS STATE [2:0], HRO: Table 8-4 -/
def ATOM_STATUS_STATE : Fld := ⟨32 * 0x120094, 3, 0⟩
/-- Table 8-8, ATOM_STATUS LOCK [5:3], HRO: Last STATUS LOCK -/
def ATOM_STATUS_LOCK : Fld := ⟨32 * 0x120094 + 3, 3, 0⟩
/-- Table 8-8, ATOM_STATUS CAPS [15:8], HRO: From IDENT -/
def ATOM_STATUS_CAPS : Fld := ⟨32 * 0x120094 + 8, 8, 0⟩
/-- Table 8-8, ATOM_STATUS ALARMS [31:16], HRO: From STATUS -/
def ATOM_STATUS_ALARMS : Fld := ⟨32 * 0x120094 + 16, 16, 0⟩
/-- Table 8-8, ATOM_ID VENDOR [15:0], HRO: From IDENT -/
def ATOM_ID_VENDOR : Fld := ⟨32 * 0x120098, 16, 0⟩
/-- Table 8-8, ATOM_ID MODEL [31:16], HRO: From IDENT -/
def ATOM_ID_MODEL : Fld := ⟨32 * 0x120098 + 16, 16, 0⟩
/-- Table 8-8, ATOM_SERIAL SERIAL [31:0], HRO: From IDENT -/
def ATOM_SERIAL : Fld := ⟨32 * 0x12009C, 32, 0⟩
/-- Table 8-8, ATOM_FW FW [15:0], HRO: From IDENT -/
def ATOM_FW_FW : Fld := ⟨32 * 0x1200A0, 16, 0⟩
/-- Table 8-8, ATOM_FW STEER_RES [31:16], HRO: From IDENT -/
def ATOM_FW_STEER_RES : Fld := ⟨32 * 0x1200A0 + 16, 16, 0⟩
/-- Table 8-8, ATOM_RANGE PPT [31:0], HRO: From IDENT -/
def ATOM_RANGE : Fld := ⟨32 * 0x1200A4, 32, 0⟩
/-- Table 8-8, ATOM_TEMP T [15:0], HRO: From STATUS -/
def ATOM_TEMP : Fld := ⟨32 * 0x1200A8, 16, 0⟩
/-- Table 8-8, EFC_BASE CODE [23:0], HRO: Code from which p is measured (R181) -/
def EFC_BASE : Fld := ⟨32 * 0x1200AC, 24, 8388608⟩
/-- Table 8-8, HOLD_ENTRY_CNT COUNT [47:0] over its _LO and _HI, HRO: Entries to HOLDOVER -/
def HOLD_ENTRY_CNT : Fld := ⟨32 * 0x1200C0, 48, 0⟩
/-- Table 8-8, OSC_FAIL_CNT COUNT [47:0] over its _LO and _HI, HRO: R178 -/
def OSC_FAIL_CNT : Fld := ⟨32 * 0x1200C8, 48, 0⟩
/-- Table 8-8, OFFLOAD_CNT COUNT [47:0] over its _LO and _HI, HRO: Offloads applied -/
def OFFLOAD_CNT : Fld := ⟨32 * 0x1200D0, 48, 0⟩
/-- Table 8-8, ATOM_BAD_CNT COUNT [47:0] over its _LO and _HI, HRO: R182 -/
def ATOM_BAD_CNT : Fld := ⟨32 * 0x1200D8, 48, 0⟩
/-- Table 8-8, ATOM_STEER_FAIL_CNT COUNT [47:0] over its _LO and _HI, HRO: R186 -/
def ATOM_STEER_FAIL_CNT : Fld := ⟨32 * 0x1200E0, 48, 0⟩

/-- The register map of block HOLD, part 1 of 3. -/
def rows1 : List Row :=
  [⟨0x120000, 0x0, 1, 0x0, 1, 0, 1, .hro, [0], .any, .whole, false⟩,
   ⟨0x120000, 0x0, 1, 0x0, 1, 1, 1, .hro, [0], .any, .whole, false⟩,
   ⟨0x120000, 0x0, 1, 0x0, 1, 2, 1, .hro, [0], .any, .whole, false⟩,
   ⟨0x120000, 0x0, 1, 0x0, 1, 3, 2, .hro, [0], .any, .whole, false⟩,
   ⟨0x120000, 0x0, 1, 0x0, 1, 5, 1, .hro, [0], .any, .whole, false⟩,
   ⟨0x120000, 0x0, 1, 0x0, 1, 6, 1, .hro, [0], .any, .whole, false⟩,
   ⟨0x120000, 0x0, 1, 0x0, 1, 7, 1, .hro, [0], .any, .whole, false⟩,
   ⟨0x120000, 0x0, 1, 0x0, 1, 8, 1, .hro, [0], .any, .whole, false⟩,
   ⟨0x120004, 0x0, 1, 0x0, 1, 0, 5, .rw, [16], (.range 10 22), .whole, false⟩,
   ⟨0x120004, 0x0, 1, 0x0, 1, 5, 1, .rw, [1], .any, .whole, false⟩,
   ⟨0x120004, 0x0, 1, 0x0, 1, 6, 2, .rw, [0], .any, .whole, false⟩,
   ⟨0x120004, 0x0, 1, 0x0, 1, 8, 1, .rw, [0], .any, .whole, false⟩,
   ⟨0x120004, 0x0, 1, 0x0, 1, 9, 2, .rw, [0], (.range 0 2), .whole, false⟩,
   ⟨0x120004, 0x0, 1, 0x0, 1, 11, 1, .rw, [0], .any, .whole, false⟩,
   ⟨0x120008, 0x0, 1, 0x0, 1, 0, 16, .rw, [900], .any, .whole, false⟩,
   ⟨0x120008, 0x0, 1, 0x0, 1, 16, 16, .rw, [1024], (.range 64 65535), .whole, false⟩,
   ⟨0x12000C, 0x0, 1, 0x0, 1, 0, 32, .rw, [1024], .any, .whole, false⟩,
   ⟨0x120010, 0x0, 1, 0x0, 1, 0, 32, .rw, [1024], .any, .whole, false⟩,
   ⟨0x120014, 0x0, 1, 0x0, 1, 0, 32, .rw, [0], .any, .whole, false⟩,
   ⟨0x120018, 0x0, 1, 0x0, 1, 0, 32, .rw, [0], .any, .whole, false⟩,
   ⟨0x12001C, 0x0, 1, 0x0, 1, 0, 32, .rw, [10240], .any, .whole, false⟩,
   ⟨0x120020, 0x0, 1, 0x0, 1, 0, 32, .rw, [16384], .any, .whole, false⟩,
   ⟨0x120024, 0x0, 1, 0x0, 1, 0, 32, .rw, [1000], .any, .whole, false⟩,
   ⟨0x120028, 0x0, 1, 0x0, 1, 0, 32, .rw, [5000], .any, .whole, false⟩,
   ⟨0x12002C, 0x0, 1, 0x0, 1, 0, 32, .rw, [50000], .any, .whole, false⟩,
   ⟨0x120030, 0x0, 1, 0x0, 1, 0, 32, .rw, [10000000], .any, .whole, false⟩,
   ⟨0x120034, 0x0, 1, 0x0, 1, 0, 32, .rw, [1000], .any, .whole, false⟩,
   ⟨0x120038, 0x0, 1, 0x0, 1, 0, 16, .rw, [60], (.range 1 65535), .whole, false⟩,
   ⟨0x12003C, 0x0, 1, 0x0, 1, 0, 32, .rw, [1024], .any, .whole, false⟩,
   ⟨0x120040, 0x0, 1, 0x0, 1, 0, 32, .rw, [1048576], .any, .whole, false⟩]

/-- The register map of block HOLD, part 2 of 3. -/
def rows2 : List Row :=
  [⟨0x120044, 0x0, 1, 0x0, 1, 0, 24, .rw, [8388608], .any, .whole, false⟩,
   ⟨0x120048, 0x0, 1, 0x0, 1, 0, 24, .hro, [8388608], .any, .whole, false⟩,
   ⟨0x12004C, 0x0, 1, 0x0, 1, 0, 32, .rw, [0], .any, .whole, false⟩,
   ⟨0x120050, 0x0, 1, 0x0, 1, 0, 32, .hro, [0], .any, (.lo 8), false⟩,
   ⟨0x120054, 0x0, 1, 0x0, 1, 0, 8, .hro, [0], .any, .hi, false⟩,
   ⟨0x120058, 0x0, 1, 0x0, 1, 0, 32, .hro, [0], .any, (.lo 8), false⟩,
   ⟨0x12005C, 0x0, 1, 0x0, 1, 0, 8, .hro, [0], .any, .hi, false⟩,
   ⟨0x120060, 0x0, 1, 0x0, 1, 0, 32, .hro, [0], .any, .whole, false⟩,
   ⟨0x120064, 0x0, 1, 0x0, 1, 0, 32, .hro, [0], .any, .whole, false⟩,
   ⟨0x120068, 0x0, 1, 0x0, 1, 0, 32, .hro, [0], .any, (.lo 8), false⟩,
   ⟨0x12006C, 0x0, 1, 0x0, 1, 0, 8, .hro, [0], .any, .hi, false⟩,
   ⟨0x120070, 0x0, 1, 0x0, 1, 0, 32, .hro, [0], .any, (.lo 8), false⟩,
   ⟨0x120074, 0x0, 1, 0x0, 1, 0, 8, .hro, [0], .any, .hi, false⟩,
   ⟨0x120078, 0x0, 1, 0x0, 1, 0, 23, .hro, [0], .any, .whole, false⟩,
   ⟨0x12007C, 0x0, 1, 0x0, 1, 0, 16, .rw, [0], .any, .whole, false⟩,
   ⟨0x120090, 0x0, 1, 0x0, 1, 0, 14, .rw, [1152], (.range 96 9216), .whole, false⟩,
   ⟨0x120090, 0x0, 1, 0x0, 1, 16, 1, .rw, [1], .any, .whole, false⟩,
   ⟨0x120094, 0x0, 1, 0x0, 1, 0, 3, .hro, [0], .any, .whole, false⟩,
   ⟨0x120094, 0x0, 1, 0x0, 1, 3, 3, .hro, [0], .any, .whole, false⟩,
   ⟨0x120094, 0x0, 1, 0x0, 1, 8, 8, .hro, [0], .any, .whole, false⟩,
   ⟨0x120094, 0x0, 1, 0x0, 1, 16, 16, .hro, [0], .any, .whole, false⟩,
   ⟨0x120098, 0x0, 1, 0x0, 1, 0, 16, .hro, [0], .any, .whole, false⟩,
   ⟨0x120098, 0x0, 1, 0x0, 1, 16, 16, .hro, [0], .any, .whole, false⟩,
   ⟨0x12009C, 0x0, 1, 0x0, 1, 0, 32, .hro, [0], .any, .whole, false⟩,
   ⟨0x1200A0, 0x0, 1, 0x0, 1, 0, 16, .hro, [0], .any, .whole, false⟩,
   ⟨0x1200A0, 0x0, 1, 0x0, 1, 16, 16, .hro, [0], .any, .whole, false⟩,
   ⟨0x1200A4, 0x0, 1, 0x0, 1, 0, 32, .hro, [0], .any, .whole, false⟩,
   ⟨0x1200A8, 0x0, 1, 0x0, 1, 0, 16, .hro, [0], .any, .whole, false⟩,
   ⟨0x1200AC, 0x0, 1, 0x0, 1, 0, 24, .hro, [8388608], .any, .whole, false⟩,
   ⟨0x1200C0, 0x0, 1, 0x0, 1, 0, 32, .hro, [0], .any, (.lo 16), true⟩]

/-- The register map of block HOLD, part 3 of 3. -/
def rows3 : List Row :=
  [⟨0x1200C4, 0x0, 1, 0x0, 1, 0, 16, .hro, [0], .any, .hi, true⟩,
   ⟨0x1200C8, 0x0, 1, 0x0, 1, 0, 32, .hro, [0], .any, (.lo 16), true⟩,
   ⟨0x1200CC, 0x0, 1, 0x0, 1, 0, 16, .hro, [0], .any, .hi, true⟩,
   ⟨0x1200D0, 0x0, 1, 0x0, 1, 0, 32, .hro, [0], .any, (.lo 16), true⟩,
   ⟨0x1200D4, 0x0, 1, 0x0, 1, 0, 16, .hro, [0], .any, .hi, true⟩,
   ⟨0x1200D8, 0x0, 1, 0x0, 1, 0, 32, .hro, [0], .any, (.lo 16), true⟩,
   ⟨0x1200DC, 0x0, 1, 0x0, 1, 0, 16, .hro, [0], .any, .hi, true⟩,
   ⟨0x1200E0, 0x0, 1, 0x0, 1, 0, 32, .hro, [0], .any, (.lo 16), true⟩,
   ⟨0x1200E4, 0x0, 1, 0x0, 1, 0, 16, .hro, [0], .any, .hi, true⟩]

/-- The register map of block HOLD. -/
def rows : List Row := rows1 ++ rows2 ++ rows3

end Sys2Proof.Machine.HOLD

namespace Sys2Proof.Machine.SYN

/-- Table 9-7, SYN_STATUS BUSY [0:0], HRO: A posted write is in progress -/
def SYN_STATUS_BUSY : Fld := ⟨32 * 0x130000, 1, 0⟩
/-- Table 9-7, SYN_STATUS SP_LOCK [1:1], HRO: R193 -/
def SYN_STATUS_SP_LOCK : Fld := ⟨32 * 0x130000 + 1, 1, 0⟩
/-- Table 9-7, SYN_STATUS SP_IN_SERVICE [2:2], HRO: R194 -/
def SYN_STATUS_SP_IN_SERVICE : Fld := ⟨32 * 0x130000 + 2, 1, 0⟩
/-- Table 9-7, SYN_STATUS BYPASS [3:3], HRO: Core on the PCIe reference -/
def SYN_STATUS_BYPASS : Fld := ⟨32 * 0x130000 + 3, 1, 1⟩
/-- Table 9-7, SYN_STATUS OSC_ACT [4:4], HRO: R198 -/
def SYN_STATUS_OSC_ACT : Fld := ⟨32 * 0x130000 + 4, 1, 0⟩
/-- Table 9-7, SYN_STATUS RAMPING [5:5], HRO: Core ramp in progress -/
def SYN_STATUS_RAMPING : Fld := ⟨32 * 0x130000 + 5, 1, 0⟩
/-- Table 9-7, SYN_STATUS CAL_LOCK [9:6], HRO: Bit k: calender k locked -/
def SYN_STATUS_CAL_LOCK : Fld := ⟨32 * 0x130000 + 6, 4, 0⟩
/-- Table 9-7, SYN_STATUS CNT_SRC [11:10], HRO: 0 fine, 1 OSC_IN coarse, 2 PCIe reference -/
def SYN_STATUS_CNT_SRC : Fld := ⟨32 * 0x130000 + 10, 2, 1⟩
/-- Table 9-7, SYSPLL_CFG OSC_SEL [1:0], RW: Table 9-1; 3 is ignored -/
def SYSPLL_CFG_OSC_SEL : Fld := ⟨32 * 0x130004, 2, 1⟩
/-- Table 9-7, SYSPLL_CFG CP_I [14:8], RW: 0.1 mA, 5 to 80 -/
def SYSPLL_CFG_CP_I : Fld := ⟨32 * 0x130004 + 8, 7, 40⟩
/-- Table 9-7, SYSPLL_CFG N_SP [25:16], HRO: R191 -/
def SYSPLL_CFG_N_SP : Fld := ⟨32 * 0x130004 + 16, 10, 250⟩
/-- Table 9-7, CORE_CFG SSC_MODE [1:0], RW: R202; 3 is ignored -/
def CORE_CFG_SSC_MODE : Fld := ⟨32 * 0x130008, 2, 0⟩
/-- Table 9-7, CORE_CFG SSC_DEPTH [5:2], RW: 0.05 %, 0 to 10 -/
def CORE_CFG_SSC_DEPTH : Fld := ⟨32 * 0x130008 + 2, 4, 0⟩
/-- Table 9-7, OSC_MON PPM_LIMIT [15:0], RW: ppm, 100 to 10,000 -/
def OSC_MON : Fld := ⟨32 * 0x13000C, 16, 1000⟩
/-- Table 9-7, OSC_RATIO_LO RATIO [39:0] over its _LO and _HI, HRO: Ratio × 2³², low word -/
def OSC_RATIO : Fld := ⟨32 * 0x130010, 40, 0⟩
/-- Table 9-7, OUT_EN CLK [15:0], RWT: Bit n: OUTn enabled -/
def OUT_EN_CLK : Fld := ⟨32 * 0x130020, 16, 0⟩
/-- Table 9-7, OUT_EN PPS [19:16], RWT: Bit k: PPSk enabled -/
def OUT_EN_PPS : Fld := ⟨32 * 0x130020 + 16, 4, 0⟩
/-- Table 9-7, OUT_EN TOD [23:20], RWT: Bit k: TOD_OUTk enabled -/
def OUT_EN_TOD : Fld := ⟨32 * 0x130020 + 20, 4, 0⟩
/-- Table 9-7, OUT_EN SQ_LOST [24:24], RWT: R212 -/
def OUT_EN_SQ_LOST : Fld := ⟨32 * 0x130020 + 24, 1, 1⟩
/-- Table 9-7, OUT_EN SQ_FREE [25:25], RWT: R212 -/
def OUT_EN_SQ_FREE : Fld := ⟨32 * 0x130020 + 25, 1, 0⟩
/-- Table 9-7, SP_UNLOCK_CNT COUNT [47:0] over its _LO and _HI, HRO: R195 -/
def SP_UNLOCK_CNT : Fld := ⟨32 * 0x130030, 48, 0⟩
/-- Table 9-7, OSC_LOSS_CNT COUNT [47:0] over its _LO and _HI, HRO: R198 -/
def OSC_LOSS_CNT : Fld := ⟨32 * 0x130038, 48, 0⟩
/-- Table 9-7, CAL_UNLOCK_CNT COUNT [47:0] over its _LO and _HI, HRO: R207 -/
def CAL_UNLOCK_CNT : Fld := ⟨32 * 0x130040, 48, 0⟩
/-- Table 9-7, PLAN_REFUSE_CNT COUNT [47:0] over its _LO and _HI, HRO: R205 -/
def PLAN_REFUSE_CNT : Fld := ⟨32 * 0x130048, 48, 0⟩
/-- Table 9-7, CAL_CFGk CREF [1:0], RW: CREF − 1; staged -/
def CAL_CFG (k : Nat) : Fld := ⟨32 * (0x130100 + 0x40 * k), 2, 0⟩
/-- Table 9-7, CAL_NINTk N [15:0], RW: Staged; set at start-up from OSC_SEL (R191, R485) -/
def CAL_NINT (k : Nat) : Fld := ⟨32 * (0x130104 + 0x40 * k), 16, 125⟩
/-- Table 9-7, CAL_NFRAC_LOk F [39:0] over its _LO and _HI, RW: Staged -/
def CAL_NFRAC (k : Nat) : Fld := ⟨32 * (0x130108 + 0x40 * k), 40, 0⟩
/-- Table 9-7, CAL_CTRLk ENABLE [0:0], RW: Calender on -/
def CAL_CTRL_ENABLE (k : Nat) : Fld := ⟨32 * (0x130110 + 0x40 * k), 1, 1⟩
/-- Table 9-7, CAL_CTRLk APPLY [1:1], WO: R205 -/
def CAL_CTRL_APPLY (k : Nat) : Fld := ⟨32 * (0x130110 + 0x40 * k) + 1, 1, 0⟩
/-- Table 9-7, CAL_CTRLk STEER [2:2], RW: Follow y (R203) -/
def CAL_CTRL_STEER (k : Nat) : Fld := ⟨32 * (0x130110 + 0x40 * k) + 2, 1, 1⟩
/-- Table 9-7, CAL_PSTEP_RATEk PS [13:0], RW: ps per sheet, 1 to 12,500 -/
def CAL_PSTEP_RATE (k : Nat) : Fld := ⟨32 * (0x130114 + 0x40 * k), 14, 1250⟩
/-- Table 9-7, CAL_PHASE_LOk PS [39:0] over its _LO and _HI, HRO: Signed phase applied -/
def CAL_PHASE (k : Nat) : Fld := ⟨32 * (0x130118 + 0x40 * k), 40, 0⟩
/-- Table 9-7, CAL_PHASE_PENDk PS [31:0], HRO: Signed phase pending; saturates -/
def CAL_PHASE_PEND (k : Nat) : Fld := ⟨32 * (0x130120 + 0x40 * k), 32, 0⟩
/-- Table 9-7, CAL_STATk STATE [1:0], HRO: 0 off, 1 locking, 2 locked -/
def CAL_STAT_STATE (k : Nat) : Fld := ⟨32 * (0x130124 + 0x40 * k), 2, 0⟩
/-- Table 9-7, CAL_STATk REFUSED [2:2], HRO: R205 -/
def CAL_STAT_REFUSED (k : Nat) : Fld := ⟨32 * (0x130124 + 0x40 * k) + 2, 1, 0⟩
/-- Table 9-7, OUT_CFGn SRC [1:0], RW: Calender -/
def OUT_CFG_SRC (n : Nat) : Fld := ⟨32 * (0x130400 + 0x20 * n), 2, 0⟩
/-- Table 9-7, OUT_CFGn FMT [3:2], RW: 0 LVDS, 1 HCSL, 2 CML, 3 LVCMOS on P -/
def OUT_CFG_FMT (n : Nat) : Fld := ⟨32 * (0x130400 + 0x20 * n) + 2, 2, 0⟩
/-- Table 9-7, OUT_CFGn SQ_HIZ [4:4], RW: R212 -/
def OUT_CFG_SQ_HIZ (n : Nat) : Fld := ⟨32 * (0x130400 + 0x20 * n) + 4, 1, 0⟩
/-- Table 9-7, OUT_CFGn INV [5:5], RW: Swap P and N -/
def OUT_CFG_INV (n : Nat) : Fld := ⟨32 * (0x130400 + 0x20 * n) + 5, 1, 0⟩
/-- Table 9-7, OUT_CFGn ALIGN [6:6], RW: R207 -/
def OUT_CFG_ALIGN (n : Nat) : Fld := ⟨32 * (0x130400 + 0x20 * n) + 6, 1, 1⟩
/-- Table 9-7, OUT_DIV_LOn OD [33:0] over its _LO and _HI, RW: R204 -/
def OUT_DIV (n : Nat) : Fld := ⟨32 * (0x130404 + 0x20 * n), 34, 32⟩
/-- Table 9-7, OUT_SKEWn PS [10:0], RW: 0 to 2,047 ps -/
def OUT_SKEW (n : Nat) : Fld := ⟨32 * (0x13040C + 0x20 * n), 11, 0⟩
/-- Table 9-7, OUT_FMAXn KHZ [20:0], RW: R205 -/
def OUT_FMAX (n : Nat) : Fld := ⟨32 * (0x130410 + 0x20 * n), 21, 1500000⟩
/-- Table 9-7, OUT_STATn DRIVEN [0:0], HRO: Toggling at the pin -/
def OUT_STAT_DRIVEN (n : Nat) : Fld := ⟨32 * (0x130414 + 0x20 * n), 1, 0⟩
/-- Table 9-7, OUT_STATn HELD_LOW [1:1], HRO: R207 -/
def OUT_STAT_HELD_LOW (n : Nat) : Fld := ⟨32 * (0x130414 + 0x20 * n) + 1, 1, 0⟩
/-- Table 9-7, OUT_STATn SQUELCHED [2:2], HRO: R212 -/
def OUT_STAT_SQUELCHED (n : Nat) : Fld := ⟨32 * (0x130414 + 0x20 * n) + 2, 1, 1⟩
/-- Table 9-7, OUT_STATn ALIGNED [3:3], HRO: Edge on the second -/
def OUT_STAT_ALIGNED (n : Nat) : Fld := ⟨32 * (0x130414 + 0x20 * n) + 3, 1, 0⟩
/-- Table 9-7, PPS_CFGk SRC [1:0], RW: Calender -/
def PPS_CFG_SRC (k : Nat) : Fld := ⟨32 * (0x130600 + 0x10 * k), 2, 0⟩
/-- Table 9-7, PPS_CFGk POL [2:2], RW: 0 active high -/
def PPS_CFG_POL (k : Nat) : Fld := ⟨32 * (0x130600 + 0x10 * k) + 2, 1, 0⟩
/-- Table 9-7, PPS_CFGk SQ_HIZ [3:3], RW: R212 -/
def PPS_CFG_SQ_HIZ (k : Nat) : Fld := ⟨32 * (0x130600 + 0x10 * k) + 3, 1, 0⟩
/-- Table 9-7, PPS_WIDTHk US [19:0], RW: 1 to 900,000 µs -/
def PPS_WIDTH (k : Nat) : Fld := ⟨32 * (0x130604 + 0x10 * k), 20, 100000⟩
/-- Table 9-7, PPS_OFFk PS [31:0], RW: Signed offset -/
def PPS_OFF (k : Nat) : Fld := ⟨32 * (0x130608 + 0x10 * k), 32, 0⟩
/-- Table 9-7, PPS_STATk NO_SRC [0:0], HRO: R209 -/
def PPS_STAT_NO_SRC (k : Nat) : Fld := ⟨32 * (0x13060C + 0x10 * k), 1, 0⟩
/-- Table 9-7, PPS_STATk SQUELCHED [1:1], HRO: R212 -/
def PPS_STAT_SQUELCHED (k : Nat) : Fld := ⟨32 * (0x13060C + 0x10 * k) + 1, 1, 1⟩
/-- Table 9-7, TOD_CFGk TOD_BAUD [13:0], RW: 100 baud, 96 to 9,216 -/
def TOD_CFG_TOD_BAUD (k : Nat) : Fld := ⟨32 * (0x130700 + 0x10 * k), 14, 96⟩
/-- Table 9-7, TOD_CFGk UTC [16:16], RW: SECONDS in UTC -/
def TOD_CFG_UTC (k : Nat) : Fld := ⟨32 * (0x130700 + 0x10 * k) + 16, 1, 1⟩
/-- Table 9-7, TOD_CFGk PPS [18:17], RW: PPS output followed -/
def TOD_CFG_PPS (k : Nat) : Fld := ⟨32 * (0x130700 + 0x10 * k) + 17, 2, 0⟩
/-- Table 9-7, TOD_DELAYk MS [9:0], RW: 1 to 900 ms (R211) -/
def TOD_DELAY (k : Nat) : Fld := ⟨32 * (0x130704 + 0x10 * k), 10, 500⟩

/-- The register map of block SYN, part 1 of 3. -/
def rows1 : List Row :=
  [⟨0x130000, 0x0, 1, 0x0, 1, 0, 1, .hro, [0], .any, .whole, false⟩,
   ⟨0x130000, 0x0, 1, 0x0, 1, 1, 1, .hro, [0], .any, .whole, false⟩,
   ⟨0x130000, 0x0, 1, 0x0, 1, 2, 1, .hro, [0], .any, .whole, false⟩,
   ⟨0x130000, 0x0, 1, 0x0, 1, 3, 1, .hro, [1], .any, .whole, false⟩,
   ⟨0x130000, 0x0, 1, 0x0, 1, 4, 1, .hro, [0], .any, .whole, false⟩,
   ⟨0x130000, 0x0, 1, 0x0, 1, 5, 1, .hro, [0], .any, .whole, false⟩,
   ⟨0x130000, 0x0, 1, 0x0, 1, 6, 4, .hro, [0], .any, .whole, false⟩,
   ⟨0x130000, 0x0, 1, 0x0, 1, 10, 2, .hro, [1], .any, .whole, false⟩,
   ⟨0x130004, 0x0, 1, 0x0, 1, 0, 2, .rw, [1], (.range 0 2), .whole, false⟩,
   ⟨0x130004, 0x0, 1, 0x0, 1, 8, 7, .rw, [40], (.range 5 80), .whole, false⟩,
   ⟨0x130004, 0x0, 1, 0x0, 1, 16, 10, .hro, [250], .any, .whole, false⟩,
   ⟨0x130008, 0x0, 1, 0x0, 1, 0, 2, .rw, [0], (.range 0 2), .whole, false⟩,
   ⟨0x130008, 0x0, 1, 0x0, 1, 2, 4, .rw, [0], (.range 0 10), .whole, false⟩,
   ⟨0x13000C, 0x0, 1, 0x0, 1, 0, 16, .rw, [1000], (.range 100 10000), .whole, false⟩,
   ⟨0x130010, 0x0, 1, 0x0, 1, 0, 32, .hro, [0], .any, (.lo 8), false⟩,
   ⟨0x130014, 0x0, 1, 0x0, 1, 0, 8, .hro, [0], .any, .hi, false⟩,
   ⟨0x130020, 0x0, 1, 0x0, 1, 0, 16, .rwt, [0], .any, .whole, false⟩,
   ⟨0x130020, 0x0, 1, 0x0, 1, 16, 4, .rwt, [0], .any, .whole, false⟩,
   ⟨0x130020, 0x0, 1, 0x0, 1, 20, 4, .rwt, [0], .any, .whole, false⟩,
   ⟨0x130020, 0x0, 1, 0x0, 1, 24, 1, .rwt, [1], .any, .whole, false⟩,
   ⟨0x130020, 0x0, 1, 0x0, 1, 25, 1, .rwt, [0], .any, .whole, false⟩,
   ⟨0x130030, 0x0, 1, 0x0, 1, 0, 32, .hro, [0], .any, (.lo 16), true⟩,
   ⟨0x130034, 0x0, 1, 0x0, 1, 0, 16, .hro, [0], .any, .hi, true⟩,
   ⟨0x130038, 0x0, 1, 0x0, 1, 0, 32, .hro, [0], .any, (.lo 16), true⟩,
   ⟨0x13003C, 0x0, 1, 0x0, 1, 0, 16, .hro, [0], .any, .hi, true⟩,
   ⟨0x130040, 0x0, 1, 0x0, 1, 0, 32, .hro, [0], .any, (.lo 16), true⟩,
   ⟨0x130044, 0x0, 1, 0x0, 1, 0, 16, .hro, [0], .any, .hi, true⟩,
   ⟨0x130048, 0x0, 1, 0x0, 1, 0, 32, .hro, [0], .any, (.lo 16), true⟩,
   ⟨0x13004C, 0x0, 1, 0x0, 1, 0, 16, .hro, [0], .any, .hi, true⟩,
   ⟨0x130100, 0x40, 4, 0x0, 1, 0, 2, .rw, [0], .any, .whole, false⟩]

/-- The register map of block SYN, part 2 of 3. -/
def rows2 : List Row :=
  [⟨0x130104, 0x40, 4, 0x0, 1, 0, 16, .rw, [125], .any, .whole, false⟩,
   ⟨0x130108, 0x40, 4, 0x0, 1, 0, 32, .rw, [0], .any, (.lo 8), false⟩,
   ⟨0x13010C, 0x40, 4, 0x0, 1, 0, 8, .rw, [0], .any, .hi, false⟩,
   ⟨0x130110, 0x40, 4, 0x0, 1, 0, 1, .rw, [1], .any, .whole, false⟩,
   ⟨0x130110, 0x40, 4, 0x0, 1, 1, 1, .wo, [0], .any, .whole, false⟩,
   ⟨0x130110, 0x40, 4, 0x0, 1, 2, 1, .rw, [1], .any, .whole, false⟩,
   ⟨0x130114, 0x40, 4, 0x0, 1, 0, 14, .rw, [1250], (.range 1 12500), .whole, false⟩,
   ⟨0x130118, 0x40, 4, 0x0, 1, 0, 32, .hro, [0], .any, (.lo 8), false⟩,
   ⟨0x13011C, 0x40, 4, 0x0, 1, 0, 8, .hro, [0], .any, .hi, false⟩,
   ⟨0x130120, 0x40, 4, 0x0, 1, 0, 32, .hro, [0], .any, .whole, false⟩,
   ⟨0x130124, 0x40, 4, 0x0, 1, 0, 2, .hro, [0], .any, .whole, false⟩,
   ⟨0x130124, 0x40, 4, 0x0, 1, 2, 1, .hro, [0], .any, .whole, false⟩,
   ⟨0x130400, 0x20, 16, 0x0, 1, 0, 2, .rw, [0], .any, .whole, false⟩,
   ⟨0x130400, 0x20, 16, 0x0, 1, 2, 2, .rw, [0], .any, .whole, false⟩,
   ⟨0x130400, 0x20, 16, 0x0, 1, 4, 1, .rw, [0], .any, .whole, false⟩,
   ⟨0x130400, 0x20, 16, 0x0, 1, 5, 1, .rw, [0], .any, .whole, false⟩,
   ⟨0x130400, 0x20, 16, 0x0, 1, 6, 1, .rw, [1], .any, .whole, false⟩,
   ⟨0x130404, 0x20, 16, 0x0, 1, 0, 32, .rw, [32], .any, (.lo 2), false⟩,
   ⟨0x130408, 0x20, 16, 0x0, 1, 0, 2, .rw, [32], .any, .hi, false⟩,
   ⟨0x13040C, 0x20, 16, 0x0, 1, 0, 11, .rw, [0], .any, .whole, false⟩,
   ⟨0x130410, 0x20, 16, 0x0, 1, 0, 21, .rw, [1500000], .any, .whole, false⟩,
   ⟨0x130414, 0x20, 16, 0x0, 1, 0, 1, .hro, [0], .any, .whole, false⟩,
   ⟨0x130414, 0x20, 16, 0x0, 1, 1, 1, .hro, [0], .any, .whole, false⟩,
   ⟨0x130414, 0x20, 16, 0x0, 1, 2, 1, .hro, [1], .any, .whole, false⟩,
   ⟨0x130414, 0x20, 16, 0x0, 1, 3, 1, .hro, [0], .any, .whole, false⟩,
   ⟨0x130600, 0x10, 4, 0x0, 1, 0, 2, .rw, [0], .any, .whole, false⟩,
   ⟨0x130600, 0x10, 4, 0x0, 1, 2, 1, .rw, [0], .any, .whole, false⟩,
   ⟨0x130600, 0x10, 4, 0x0, 1, 3, 1, .rw, [0], .any, .whole, false⟩,
   ⟨0x130604, 0x10, 4, 0x0, 1, 0, 20, .rw, [100000], (.range 1 900000), .whole, false⟩,
   ⟨0x130608, 0x10, 4, 0x0, 1, 0, 32, .rw, [0], .any, .whole, false⟩]

/-- The register map of block SYN, part 3 of 3. -/
def rows3 : List Row :=
  [⟨0x13060C, 0x10, 4, 0x0, 1, 0, 1, .hro, [0], .any, .whole, false⟩,
   ⟨0x13060C, 0x10, 4, 0x0, 1, 1, 1, .hro, [1], .any, .whole, false⟩,
   ⟨0x130700, 0x10, 4, 0x0, 1, 0, 14, .rw, [96], (.range 96 9216), .whole, false⟩,
   ⟨0x130700, 0x10, 4, 0x0, 1, 16, 1, .rw, [1], .any, .whole, false⟩,
   ⟨0x130700, 0x10, 4, 0x0, 1, 17, 2, .rw, [0], .any, .whole, false⟩,
   ⟨0x130704, 0x10, 4, 0x0, 1, 0, 10, .rw, [500], (.range 1 900), .whole, false⟩]

/-- The register map of block SYN. -/
def rows : List Row := rows1 ++ rows2 ++ rows3

end Sys2Proof.Machine.SYN

namespace Sys2Proof.Machine.BOUND

/-- Table 10-5, BOUND_STATUS FLAGS [7:0], HRO: FLAGS of Table 10-3 for the sheet. Bit 6, SATURATED, is 1 when B_core is 2⁴⁰ − 1 or UNSET is 1, which are the cases in which every port's watermark carries SATURATED. A port whose B_p alone saturates shows it in PORT_BOUNDp. -/
def BOUND_STATUS : Fld := ⟨32 * 0x140000, 8, 96⟩
/-- Table 10-5, BOUND_CORE_LO PS [39:0] over its _LO and _HI, HRO: B_core, low word -/
def BOUND_CORE : Fld := ⟨32 * 0x140004, 40, 0⟩
/-- Table 10-5, BOUND_SRC_LO PS [39:0] over its _LO and _HI, HRO: B_src, or B_frozen in HOLDOVER -/
def BOUND_SRC : Fld := ⟨32 * 0x14000C, 40, 0⟩
/-- Table 10-5, BOUND_TIME_LO PS [39:0] over its _LO and _HI, HRO: B_time -/
def BOUND_TIME : Fld := ⟨32 * 0x140014, 40, 0⟩
/-- Table 10-5, BOUND_CFG K_SIGMA [7:0], RW: R219, 1 to 255; a write of 0 is ignored -/
def BOUND_CFG : Fld := ⟨32 * 0x140020, 8, 6⟩
/-- Table 10-5, INT_ALLOW PS [31:0], RW: Engine allowance -/
def INT_ALLOW : Fld := ⟨32 * 0x140024, 32, 600⟩
/-- Table 10-5, FLAG_ALLOW PS [31:0], RW: Per flagged satellite -/
def FLAG_ALLOW : Fld := ⟨32 * 0x140028, 32, 500⟩
/-- Table 10-5, SPARE_ALLOW PS [31:0], RW: R221 -/
def SPARE_ALLOW : Fld := ⟨32 * 0x14002C, 32, 25⟩
/-- Table 10-5, COARSE_ALLOW PS [31:0], RW: R221 -/
def COARSE_ALLOW : Fld := ⟨32 * 0x140030, 32, 100000⟩
/-- Table 10-5, DRIFT_ALLOW PPT [31:0], RW: R220 -/
def DRIFT_ALLOW : Fld := ⟨32 * 0x140034, 32, 10⟩
/-- Table 10-5, PCIE_RATE PPT [31:0], RW: R221 -/
def PCIE_RATE : Fld := ⟨32 * 0x140038, 32, 1000000⟩
/-- Table 10-5, FREE_RATE PPT [31:0], RW: R220 -/
def FREE_RATE : Fld := ⟨32 * 0x14003C, 32, 10000000⟩
/-- Table 10-5, FREE_BASE_LO PS [39:0] over its _LO and _HI, RW: 1,000,000,000 ps (1 ms), low word -/
def FREE_BASE : Fld := ⟨32 * 0x140040, 40, 1000000000⟩
/-- Table 10-5, WM_CFG PTP_TYPE [15:0], RW: R226 -/
def WM_CFG_PTP_TYPE : Fld := ⟨32 * 0x140048, 16, 8196⟩
/-- Table 10-5, WM_CFG PTP_MSG [23:16], RW: [0] Sync and Follow_Up, [1] Delay_Resp, [2] Announce, [3] Signaling -/
def WM_CFG_PTP_MSG : Fld := ⟨32 * 0x140048 + 16, 8, 11⟩
/-- Table 10-5, WM_CFG ACC_MODE [24:24], RW: R228 -/
def WM_CFG_ACC_MODE : Fld := ⟨32 * 0x140048 + 24, 1, 0⟩
/-- Table 10-5, WM_NTP NTP_TYPE [15:0], RW: R227 -/
def WM_NTP : Fld := ⟨32 * 0x14004C, 16, 0⟩
/-- Table 10-5, ACC_CFG ACC_FIXED [7:0], RW: R228 -/
def ACC_CFG_ACC_FIXED : Fld := ⟨32 * 0x140050, 8, 33⟩
/-- Table 10-5, ACC_CFG OSLV_LOCKED [31:16], RW: R228 -/
def ACC_CFG_OSLV_LOCKED : Fld := ⟨32 * 0x140050 + 16, 16, 20061⟩
/-- Table 10-5, ACC_CFG2 OSLV_OTHER [15:0], RW: R228 -/
def ACC_CFG2 : Fld := ⟨32 * 0x140054, 16, 65535⟩
/-- Table 10-5, WM_ENGINE_ID_LO ID [63:0] over its _LO and _HI, RWL: ENGINE_ID, low word -/
def WM_ENGINE_ID : Fld := ⟨32 * 0x140058, 64, 0⟩
/-- Table 10-5, REF_ID1 ID [63:0] over its _LO and _HI, RW: ORIGIN_ID for REF1, _LO then _HI -/
def REF_ID1 : Fld := ⟨32 * 0x140060, 64, 0⟩
/-- Table 10-5, REF_ID2 ID [63:0] over its _LO and _HI, RW: ORIGIN_ID for REF2 -/
def REF_ID2 : Fld := ⟨32 * 0x140068, 64, 0⟩
/-- Table 10-5, SAT_CNT COUNT [47:0] over its _LO and _HI, HRO: Sheets with B_core at 2⁴⁰ − 1 -/
def SAT_CNT : Fld := ⟨32 * 0x140070, 48, 0⟩
/-- Table 10-5, DIS_SHEET_CNT COUNT [47:0] over its _LO and _HI, HRO: Sheets with B_dis not 0 -/
def DIS_SHEET_CNT : Fld := ⟨32 * 0x140078, 48, 0⟩
/-- Table 10-5, REF_UNCn PS [31:0], RWL: R219 -/
def REF_UNC (n : Nat) : Fld := ⟨32 * (0x140100 + 0x4 * n), 32, 0⟩
/-- Table 10-5, PORT_ALLOWp PS [31:0], RW: R222 -/
def PORT_ALLOW (p : Nat) : Fld := ⟨32 * (0x140180 + 0x8 * p), 32, 0⟩
/-- Table 10-5, PORT_BOUNDp PS [31:0], HRO: B_p, saturating at 32 bits -/
def PORT_BOUND (p : Nat) : Fld := ⟨32 * (0x140184 + 0x8 * p), 32, 4294967295⟩

/-- The register map of block BOUND, part 1 of 2. -/
def rows1 : List Row :=
  [⟨0x140000, 0x0, 1, 0x0, 1, 0, 8, .hro, [96], .any, .whole, false⟩,
   ⟨0x140004, 0x0, 1, 0x0, 1, 0, 32, .hro, [0], .any, (.lo 8), false⟩,
   ⟨0x140008, 0x0, 1, 0x0, 1, 0, 8, .hro, [0], .any, .hi, false⟩,
   ⟨0x14000C, 0x0, 1, 0x0, 1, 0, 32, .hro, [0], .any, (.lo 8), false⟩,
   ⟨0x140010, 0x0, 1, 0x0, 1, 0, 8, .hro, [0], .any, .hi, false⟩,
   ⟨0x140014, 0x0, 1, 0x0, 1, 0, 32, .hro, [0], .any, (.lo 8), false⟩,
   ⟨0x140018, 0x0, 1, 0x0, 1, 0, 8, .hro, [0], .any, .hi, false⟩,
   ⟨0x140020, 0x0, 1, 0x0, 1, 0, 8, .rw, [6], (.range 1 255), .whole, false⟩,
   ⟨0x140024, 0x0, 1, 0x0, 1, 0, 32, .rw, [600], .any, .whole, false⟩,
   ⟨0x140028, 0x0, 1, 0x0, 1, 0, 32, .rw, [500], .any, .whole, false⟩,
   ⟨0x14002C, 0x0, 1, 0x0, 1, 0, 32, .rw, [25], .any, .whole, false⟩,
   ⟨0x140030, 0x0, 1, 0x0, 1, 0, 32, .rw, [100000], .any, .whole, false⟩,
   ⟨0x140034, 0x0, 1, 0x0, 1, 0, 32, .rw, [10], .any, .whole, false⟩,
   ⟨0x140038, 0x0, 1, 0x0, 1, 0, 32, .rw, [1000000], .any, .whole, false⟩,
   ⟨0x14003C, 0x0, 1, 0x0, 1, 0, 32, .rw, [10000000], .any, .whole, false⟩,
   ⟨0x140040, 0x0, 1, 0x0, 1, 0, 32, .rw, [1000000000], .any, (.lo 8), false⟩,
   ⟨0x140044, 0x0, 1, 0x0, 1, 0, 8, .rw, [1000000000], .any, .hi, false⟩,
   ⟨0x140048, 0x0, 1, 0x0, 1, 0, 16, .rw, [8196], .any, .whole, false⟩,
   ⟨0x140048, 0x0, 1, 0x0, 1, 16, 8, .rw, [11], .any, .whole, false⟩,
   ⟨0x140048, 0x0, 1, 0x0, 1, 24, 1, .rw, [0], .any, .whole, false⟩,
   ⟨0x14004C, 0x0, 1, 0x0, 1, 0, 16, .rw, [0], .any, .whole, false⟩,
   ⟨0x140050, 0x0, 1, 0x0, 1, 0, 8, .rw, [33], .any, .whole, false⟩,
   ⟨0x140050, 0x0, 1, 0x0, 1, 16, 16, .rw, [20061], .any, .whole, false⟩,
   ⟨0x140054, 0x0, 1, 0x0, 1, 0, 16, .rw, [65535], .any, .whole, false⟩,
   ⟨0x140058, 0x0, 1, 0x0, 1, 0, 32, .rwl, [0], .any, (.lo 32), false⟩,
   ⟨0x14005C, 0x0, 1, 0x0, 1, 0, 32, .rwl, [0], .any, .hi, false⟩,
   ⟨0x140060, 0x0, 1, 0x0, 1, 0, 32, .rw, [0], .any, (.lo 32), false⟩,
   ⟨0x140064, 0x0, 1, 0x0, 1, 0, 32, .rw, [0], .any, .hi, false⟩,
   ⟨0x140068, 0x0, 1, 0x0, 1, 0, 32, .rw, [0], .any, (.lo 32), false⟩,
   ⟨0x14006C, 0x0, 1, 0x0, 1, 0, 32, .rw, [0], .any, .hi, false⟩]

/-- The register map of block BOUND, part 2 of 2. -/
def rows2 : List Row :=
  [⟨0x140070, 0x0, 1, 0x0, 1, 0, 32, .hro, [0], .any, (.lo 16), true⟩,
   ⟨0x140074, 0x0, 1, 0x0, 1, 0, 16, .hro, [0], .any, .hi, true⟩,
   ⟨0x140078, 0x0, 1, 0x0, 1, 0, 32, .hro, [0], .any, (.lo 16), true⟩,
   ⟨0x14007C, 0x0, 1, 0x0, 1, 0, 16, .hro, [0], .any, .hi, true⟩,
   ⟨0x140100, 0x4, 16, 0x0, 1, 0, 32, .rwl, [0], .any, .whole, false⟩,
   ⟨0x140180, 0x8, 8, 0x0, 1, 0, 32, .rw, [0], .any, .whole, false⟩,
   ⟨0x140184, 0x8, 8, 0x0, 1, 0, 32, .hro, [4294967295], .any, .whole, false⟩]

/-- The register map of block BOUND. -/
def rows : List Row := rows1 ++ rows2

end Sys2Proof.Machine.BOUND

namespace Sys2Proof.Machine.MAC

/-- Table 11-6, PORT_STATUS BUSY [0:0], HRO: A posted write is in progress -/
def PORT_STATUS_BUSY (p : Nat) : Fld := ⟨32 * (0x180000 + 0x4000 * p), 1, 0⟩
/-- Table 11-6, PORT_STATUS MOD_STATE [3:1], HRO: Table 11-4, states 0 to 3 -/
def PORT_STATUS_MOD_STATE (p : Nat) : Fld := ⟨32 * (0x180000 + 0x4000 * p) + 1, 3, 0⟩
/-- Table 11-6, PORT_STATUS LINK [5:4], HRO: 0 down, 1 linking, 2 up -/
def PORT_STATUS_LINK (p : Nat) : Fld := ⟨32 * (0x180000 + 0x4000 * p) + 4, 2, 0⟩
/-- Table 11-6, PORT_STATUS REF_BAD [6:6], HRO: R233 -/
def PORT_STATUS_REF_BAD (p : Nat) : Fld := ⟨32 * (0x180000 + 0x4000 * p) + 6, 1, 0⟩
/-- Table 11-6, PORT_STATUS GRID_JUMP [7:7], HRO: R234 -/
def PORT_STATUS_GRID_JUMP (p : Nat) : Fld := ⟨32 * (0x180000 + 0x4000 * p) + 7, 1, 0⟩
/-- Table 11-6, PORT_STATUS LPI_TX [8:8], HRO: Transmit in LPI -/
def PORT_STATUS_LPI_TX (p : Nat) : Fld := ⟨32 * (0x180000 + 0x4000 * p) + 8, 1, 0⟩
/-- Table 11-6, PORT_STATUS LPI_RX [9:9], HRO: Receive in LPI -/
def PORT_STATUS_LPI_RX (p : Nat) : Fld := ⟨32 * (0x180000 + 0x4000 * p) + 9, 1, 0⟩
/-- Table 11-6, PORT_STATUS PAUSED [10:10], HRO: R248 -/
def PORT_STATUS_PAUSED (p : Nat) : Fld := ⟨32 * (0x180000 + 0x4000 * p) + 10, 1, 0⟩
/-- Table 11-6, PORT_STATUS PAUSE_OVERRIDE [11:11], HRO: R249 -/
def PORT_STATUS_PAUSE_OVERRIDE (p : Nat) : Fld := ⟨32 * (0x180000 + 0x4000 * p) + 11, 1, 0⟩
/-- Table 11-6, PORT_STATUS FEC_LOCK [12:12], HRO: RS-FEC aligned -/
def PORT_STATUS_FEC_LOCK (p : Nat) : Fld := ⟨32 * (0x180000 + 0x4000 * p) + 12, 1, 0⟩
/-- Table 11-6, PORT_CFG RATE [1:0], RW: Table 11-1 -/
def PORT_CFG_RATE (p : Nat) : Fld := ⟨32 * (0x180004 + 0x4000 * p), 2, 3⟩
/-- Table 11-6, PORT_CFG FEC [2:2], RW: RS-FEC at 25GBASE-R -/
def PORT_CFG_FEC (p : Nat) : Fld := ⟨32 * (0x180004 + 0x4000 * p) + 2, 1, 0⟩
/-- Table 11-6, PORT_CFG REF_CAL [5:4], RW: R233 -/
def PORT_CFG_REF_CAL (p : Nat) : Fld := ⟨32 * (0x180004 + 0x4000 * p) + 4, 2, 0⟩
/-- Table 11-6, PORT_CFG MAX_FRAME [29:16], RW: 64 to 9,216 bytes; other writes ignored -/
def PORT_CFG_MAX_FRAME (p : Nat) : Fld := ⟨32 * (0x180004 + 0x4000 * p) + 16, 14, 1522⟩
/-- Table 11-6, MAC_ADDR_LO ADDR [47:0] over its _LO and _HI, RW: Port MAC address, low 4 octets -/
def MAC_ADDR (p : Nat) : Fld := ⟨32 * (0x180008 + 0x4000 * p), 48, 0⟩
/-- Table 11-6, HB_CFG PTP_L2 [0:0], RW: Rule 4, port address and 01-1B-19-00-00-00 -/
def HB_CFG_PTP_L2 (p : Nat) : Fld := ⟨32 * (0x180010 + 0x4000 * p), 1, 0⟩
/-- Table 11-6, HB_CFG PTP_P2P [1:1], RW: Rule 4, 01-80-C2-00-00-0E -/
def HB_CFG_PTP_P2P (p : Nat) : Fld := ⟨32 * (0x180010 + 0x4000 * p) + 1, 1, 0⟩
/-- Table 11-6, HB_CFG PTP_UDP [2:2], RW: Rule 5 -/
def HB_CFG_PTP_UDP (p : Nat) : Fld := ⟨32 * (0x180010 + 0x4000 * p) + 2, 1, 0⟩
/-- Table 11-6, HB_CFG NTP [3:3], RW: Rules 6 and 7 -/
def HB_CFG_NTP (p : Nat) : Fld := ⟨32 * (0x180010 + 0x4000 * p) + 3, 1, 0⟩
/-- Table 11-6, HB_CFG VLAN_ID [15:4], RW: R241 -/
def HB_CFG_VLAN_ID (p : Nat) : Fld := ⟨32 * (0x180010 + 0x4000 * p) + 4, 12, 0⟩
/-- Table 11-6, HB_CFG VLAN_EN [16:16], RW: R241 -/
def HB_CFG_VLAN_EN (p : Nat) : Fld := ⟨32 * (0x180010 + 0x4000 * p) + 16, 1, 0⟩
/-- Table 11-6, HB_MCAST EN [7:0], RW: Bit i: multicast address MCASTi to host -/
def HB_MCAST (p : Nat) : Fld := ⟨32 * (0x180014 + 0x4000 * p), 8, 0⟩
/-- Table 11-6, TA_V4i ADDR [31:0], RW: IPv4 timing address -/
def TA_V4 (p i : Nat) : Fld := ⟨32 * (0x180020 + 0x4000 * p + 0x4 * i), 32, 0⟩
/-- Table 11-6, TA_EN V4 [3:0], RW: Bit i: TA_V4i enabled -/
def TA_EN_V4 (p : Nat) : Fld := ⟨32 * (0x180030 + 0x4000 * p), 4, 0⟩
/-- Table 11-6, TA_EN V6 [11:8], RW: Bit i: TA_V6i enabled -/
def TA_EN_V6 (p : Nat) : Fld := ⟨32 * (0x180030 + 0x4000 * p) + 8, 4, 0⟩
/-- Table 11-6, TA_V6i ADDR [31:0], RW: IPv6 timing address -/
def TA_V6 (p i j : Nat) : Fld := ⟨32 * (0x180040 + 0x4000 * p + 0x10 * i + 0x4 * j), 32, 0⟩
/-- Table 11-6, TC_MAP MAP [23:0], RW: 3 bits per PCP; identity at reset -/
def TC_MAP (p : Nat) : Fld := ⟨32 * (0x180084 + 0x4000 * p), 24, 16434824⟩
/-- Table 11-6, GATE_STATE OPEN [7:0], HRO: R246 -/
def GATE_STATE (p : Nat) : Fld := ⟨32 * (0x180088 + 0x4000 * p), 8, 255⟩
/-- Table 11-6, PAUSE_CFG RX_EN [0:0], RW: R248 -/
def PAUSE_CFG_RX_EN (p : Nat) : Fld := ⟨32 * (0x180090 + 0x4000 * p), 1, 1⟩
/-- Table 11-6, PAUSE_CFG WD_US [31:16], RW: µs, 10 to 65,535 -/
def PAUSE_CFG_WD_US (p : Nat) : Fld := ⟨32 * (0x180090 + 0x4000 * p) + 16, 16, 1000⟩
/-- Table 11-6, PAUSE_HOLDOFF MS [15:0], RW: ms, 1 to 65,535 -/
def PAUSE_HOLDOFF (p : Nat) : Fld := ⟨32 * (0x180094 + 0x4000 * p), 16, 1000⟩
/-- Table 11-6, EEE_CFG EN [0:0], RW: R250 -/
def EEE_CFG_EN (p : Nat) : Fld := ⟨32 * (0x1800A0 + 0x4000 * p), 1, 0⟩
/-- Table 11-6, EEE_CFG LINK_KIND [2:1], RW: 0 other, 1 backplane-style, 2 direct-attach -/
def EEE_CFG_LINK_KIND (p : Nat) : Fld := ⟨32 * (0x1800A0 + 0x4000 * p) + 1, 2, 0⟩
/-- Table 11-6, EEE_CFG TW_TX [31:16], RW: µs -/
def EEE_CFG_TW_TX (p : Nat) : Fld := ⟨32 * (0x1800A0 + 0x4000 * p) + 16, 16, 0⟩
/-- Table 11-6, EEE_PARTNER RX_TW [15:0], HRO: µs (R251) -/
def EEE_PARTNER_RX_TW (p : Nat) : Fld := ⟨32 * (0x1800A4 + 0x4000 * p), 16, 0⟩
/-- Table 11-6, EEE_PARTNER TX_TW [31:16], HRO: µs -/
def EEE_PARTNER_TX_TW (p : Nat) : Fld := ⟨32 * (0x1800A4 + 0x4000 * p) + 16, 16, 0⟩
/-- Table 11-6, TX_EXT D [31:0], HRO: Signed; 2⁻¹⁶ ns, from sizing -/
def TX_EXT (p : Nat) : Fld := ⟨32 * (0x1800B0 + 0x4000 * p), 32, 0⟩
/-- Table 11-6, RX_EXT D [31:0], HRO: Signed; 2⁻¹⁶ ns, from sizing -/
def RX_EXT (p : Nat) : Fld := ⟨32 * (0x1800B4 + 0x4000 * p), 32, 0⟩
/-- Table 11-6, U_EXT PS [31:0], HRO: From sizing -/
def U_EXT (p : Nat) : Fld := ⟨32 * (0x1800B8 + 0x4000 * p), 32, 0⟩
/-- Table 11-6, TS_UNC PS [15:0], HRO: Table 11-1 for RATE -/
def TS_UNC (p : Nat) : Fld := ⟨32 * (0x1800BC + 0x4000 * p), 16, 0⟩
/-- Table 11-6, GRID_PHASE PH [31:0], HRO: 2⁻¹⁶ ns (R234) -/
def GRID_PHASE (p : Nat) : Fld := ⟨32 * (0x1800C0 + 0x4000 * p), 32, 0⟩
/-- Table 11-6, MOD_CTRL TXDIS [0:0], RW: Hold MOD_TXDISp asserted -/
def MOD_CTRL_TXDIS (p : Nat) : Fld := ⟨32 * (0x1800D0 + 0x4000 * p), 1, 1⟩
/-- Table 11-6, MOD_CTRL FIXED [1:1], RW: R256 -/
def MOD_CTRL_FIXED (p : Nat) : Fld := ⟨32 * (0x1800D0 + 0x4000 * p) + 1, 1, 0⟩
/-- Table 11-6, MOD_INFO IDENT [7:0], HRO: Byte 0 of address 0xA0 -/
def MOD_INFO_IDENT (p : Nat) : Fld := ⟨32 * (0x1800D4 + 0x4000 * p), 8, 0⟩
/-- Table 11-6, MOD_INFO EXT_IDENT [15:8], HRO: Byte 1 -/
def MOD_INFO_EXT_IDENT (p : Nat) : Fld := ⟨32 * (0x1800D4 + 0x4000 * p) + 8, 8, 0⟩
/-- Table 11-6, MOD_INFO CONNECTOR [23:16], HRO: Byte 2 -/
def MOD_INFO_CONNECTOR (p : Nat) : Fld := ⟨32 * (0x1800D4 + 0x4000 * p) + 16, 8, 0⟩
/-- Table 11-6, RX_FRAMES COUNT [47:0] over its _LO and _HI, HRO: Frames passed by R236 -/
def RX_FRAMES (p : Nat) : Fld := ⟨32 * (0x180100 + 0x4000 * p), 48, 0⟩
/-- Table 11-6, RX_FCS_ERR COUNT [47:0] over its _LO and _HI, HRO: R236 -/
def RX_FCS_ERR (p : Nat) : Fld := ⟨32 * (0x180108 + 0x4000 * p), 48, 0⟩
/-- Table 11-6, RX_OVERSIZE COUNT [47:0] over its _LO and _HI, HRO: R236 -/
def RX_OVERSIZE (p : Nat) : Fld := ⟨32 * (0x180110 + 0x4000 * p), 48, 0⟩
/-- Table 11-6, RX_TIMING COUNT [47:0] over its _LO and _HI, HRO: Rules 3 to 7 -/
def RX_TIMING (p : Nat) : Fld := ⟨32 * (0x180118 + 0x4000 * p), 48, 0⟩
/-- Table 11-6, RX_HOST COUNT [47:0] over its _LO and _HI, HRO: Rules 8 and 9 -/
def RX_HOST (p : Nat) : Fld := ⟨32 * (0x180120 + 0x4000 * p), 48, 0⟩
/-- Table 11-6, RX_NOT_SERVING COUNT [47:0] over its _LO and _HI, HRO: R242 -/
def RX_NOT_SERVING (p : Nat) : Fld := ⟨32 * (0x180128 + 0x4000 * p), 48, 0⟩
/-- Table 11-6, RX_HOLD_DROP COUNT [47:0] over its _LO and _HI, HRO: R243 -/
def RX_HOLD_DROP (p : Nat) : Fld := ⟨32 * (0x180130 + 0x4000 * p), 48, 0⟩
/-- Table 11-6, RX_UNMATCHED COUNT [47:0] over its _LO and _HI, HRO: Rules 2 and 10 -/
def RX_UNMATCHED (p : Nat) : Fld := ⟨32 * (0x180138 + 0x4000 * p), 48, 0⟩
/-- Table 11-6, TX_SCHED COUNT [47:0] over its _LO and _HI, HRO: Scheduled frames launched -/
def TX_SCHED (p : Nat) : Fld := ⟨32 * (0x180140 + 0x4000 * p), 48, 0⟩
/-- Table 11-6, TX_UNSCHED COUNT [47:0] over its _LO and _HI, HRO: Unscheduled frames sent -/
def TX_UNSCHED (p : Nat) : Fld := ⟨32 * (0x180148 + 0x4000 * p), 48, 0⟩
/-- Table 11-6, LAUNCH_MISSED COUNT [47:0] over its _LO and _HI, HRO: R21, R234, R235, R244 -/
def LAUNCH_MISSED (p : Nat) : Fld := ⟨32 * (0x180150 + 0x4000 * p), 48, 0⟩
/-- Table 11-6, TX_LINK_DOWN COUNT [47:0] over its _LO and _HI, HRO: R232 -/
def TX_LINK_DOWN (p : Nat) : Fld := ⟨32 * (0x180158 + 0x4000 * p), 48, 0⟩
/-- Table 11-6, PAUSE_RX COUNT [47:0] over its _LO and _HI, HRO: R248 -/
def PAUSE_RX (p : Nat) : Fld := ⟨32 * (0x180160 + 0x4000 * p), 48, 0⟩
/-- Table 11-6, PFC_RX COUNT [47:0] over its _LO and _HI, HRO: Rule 2 -/
def PFC_RX (p : Nat) : Fld := ⟨32 * (0x180168 + 0x4000 * p), 48, 0⟩
/-- Table 11-6, PAUSE_WD_TRIP COUNT [47:0] over its _LO and _HI, HRO: R249 -/
def PAUSE_WD_TRIP (p : Nat) : Fld := ⟨32 * (0x180170 + 0x4000 * p), 48, 0⟩
/-- Table 11-6, LPI_ENTRY COUNT [47:0] over its _LO and _HI, HRO: R252 -/
def LPI_ENTRY (p : Nat) : Fld := ⟨32 * (0x180178 + 0x4000 * p), 48, 0⟩
/-- Table 11-6, FEC_CORR COUNT [47:0] over its _LO and _HI, HRO: Codewords corrected -/
def FEC_CORR (p : Nat) : Fld := ⟨32 * (0x180180 + 0x4000 * p), 48, 0⟩
/-- Table 11-6, FEC_UNCORR COUNT [47:0] over its _LO and _HI, HRO: Codewords not correctable -/
def FEC_UNCORR (p : Nat) : Fld := ⟨32 * (0x180188 + 0x4000 * p), 48, 0⟩
/-- Table 11-6, LINK_DOWN_CNT COUNT [47:0] over its _LO and _HI, HRO: R256 -/
def LINK_DOWN_CNT (p : Nat) : Fld := ⟨32 * (0x180190 + 0x4000 * p), 48, 0⟩

/-- The register map of block MAC, part 1 of 3. -/
def rows1 : List Row :=
  [⟨0x180000, 0x4000, 8, 0x0, 1, 0, 1, .hro, [0], .any, .whole, false⟩,
   ⟨0x180000, 0x4000, 8, 0x0, 1, 1, 3, .hro, [0], .any, .whole, false⟩,
   ⟨0x180000, 0x4000, 8, 0x0, 1, 4, 2, .hro, [0], .any, .whole, false⟩,
   ⟨0x180000, 0x4000, 8, 0x0, 1, 6, 1, .hro, [0], .any, .whole, false⟩,
   ⟨0x180000, 0x4000, 8, 0x0, 1, 7, 1, .hro, [0], .any, .whole, false⟩,
   ⟨0x180000, 0x4000, 8, 0x0, 1, 8, 1, .hro, [0], .any, .whole, false⟩,
   ⟨0x180000, 0x4000, 8, 0x0, 1, 9, 1, .hro, [0], .any, .whole, false⟩,
   ⟨0x180000, 0x4000, 8, 0x0, 1, 10, 1, .hro, [0], .any, .whole, false⟩,
   ⟨0x180000, 0x4000, 8, 0x0, 1, 11, 1, .hro, [0], .any, .whole, false⟩,
   ⟨0x180000, 0x4000, 8, 0x0, 1, 12, 1, .hro, [0], .any, .whole, false⟩,
   ⟨0x180004, 0x4000, 8, 0x0, 1, 0, 2, .rw, [3], .any, .whole, false⟩,
   ⟨0x180004, 0x4000, 8, 0x0, 1, 2, 1, .rw, [0], .any, .whole, false⟩,
   ⟨0x180004, 0x4000, 8, 0x0, 1, 4, 2, .rw, [0], .any, .whole, false⟩,
   ⟨0x180004, 0x4000, 8, 0x0, 1, 16, 14, .rw, [1522], (.range 64 9216), .whole, false⟩,
   ⟨0x180008, 0x4000, 8, 0x0, 1, 0, 32, .rw, [0], .any, (.lo 16), false⟩,
   ⟨0x18000C, 0x4000, 8, 0x0, 1, 0, 16, .rw, [0], .any, .hi, false⟩,
   ⟨0x180010, 0x4000, 8, 0x0, 1, 0, 1, .rw, [0], .any, .whole, false⟩,
   ⟨0x180010, 0x4000, 8, 0x0, 1, 1, 1, .rw, [0], .any, .whole, false⟩,
   ⟨0x180010, 0x4000, 8, 0x0, 1, 2, 1, .rw, [0], .any, .whole, false⟩,
   ⟨0x180010, 0x4000, 8, 0x0, 1, 3, 1, .rw, [0], .any, .whole, false⟩,
   ⟨0x180010, 0x4000, 8, 0x0, 1, 4, 12, .rw, [0], .any, .whole, false⟩,
   ⟨0x180010, 0x4000, 8, 0x0, 1, 16, 1, .rw, [0], .any, .whole, false⟩,
   ⟨0x180014, 0x4000, 8, 0x0, 1, 0, 8, .rw, [0], .any, .whole, false⟩,
   ⟨0x180020, 0x4000, 8, 0x4, 4, 0, 32, .rw, [0], .any, .whole, false⟩,
   ⟨0x180030, 0x4000, 8, 0x0, 1, 0, 4, .rw, [0], .any, .whole, false⟩,
   ⟨0x180030, 0x4000, 8, 0x0, 1, 8, 4, .rw, [0], .any, .whole, false⟩,
   ⟨0x180040, 0x4000, 8, 0x4, 16, 0, 32, .rw, [0], .any, .whole, false⟩,
   ⟨0x180084, 0x4000, 8, 0x0, 1, 0, 24, .rw, [16434824], .any, .whole, false⟩,
   ⟨0x180088, 0x4000, 8, 0x0, 1, 0, 8, .hro, [255], .any, .whole, false⟩,
   ⟨0x180090, 0x4000, 8, 0x0, 1, 0, 1, .rw, [1], .any, .whole, false⟩]

/-- The register map of block MAC, part 2 of 3. -/
def rows2 : List Row :=
  [⟨0x180090, 0x4000, 8, 0x0, 1, 16, 16, .rw, [1000], (.range 10 65535), .whole, false⟩,
   ⟨0x180094, 0x4000, 8, 0x0, 1, 0, 16, .rw, [1000], (.range 1 65535), .whole, false⟩,
   ⟨0x1800A0, 0x4000, 8, 0x0, 1, 0, 1, .rw, [0], .any, .whole, false⟩,
   ⟨0x1800A0, 0x4000, 8, 0x0, 1, 1, 2, .rw, [0], .any, .whole, false⟩,
   ⟨0x1800A0, 0x4000, 8, 0x0, 1, 16, 16, .rw, [0], .any, .whole, false⟩,
   ⟨0x1800A4, 0x4000, 8, 0x0, 1, 0, 16, .hro, [0], .any, .whole, false⟩,
   ⟨0x1800A4, 0x4000, 8, 0x0, 1, 16, 16, .hro, [0], .any, .whole, false⟩,
   ⟨0x1800B0, 0x4000, 8, 0x0, 1, 0, 32, .hro, [0], .any, .whole, false⟩,
   ⟨0x1800B4, 0x4000, 8, 0x0, 1, 0, 32, .hro, [0], .any, .whole, false⟩,
   ⟨0x1800B8, 0x4000, 8, 0x0, 1, 0, 32, .hro, [0], .any, .whole, false⟩,
   ⟨0x1800BC, 0x4000, 8, 0x0, 1, 0, 16, .hro, [0], .any, .whole, false⟩,
   ⟨0x1800C0, 0x4000, 8, 0x0, 1, 0, 32, .hro, [0], .any, .whole, false⟩,
   ⟨0x1800D0, 0x4000, 8, 0x0, 1, 0, 1, .rw, [1], .any, .whole, false⟩,
   ⟨0x1800D0, 0x4000, 8, 0x0, 1, 1, 1, .rw, [0], .any, .whole, false⟩,
   ⟨0x1800D4, 0x4000, 8, 0x0, 1, 0, 8, .hro, [0], .any, .whole, false⟩,
   ⟨0x1800D4, 0x4000, 8, 0x0, 1, 8, 8, .hro, [0], .any, .whole, false⟩,
   ⟨0x1800D4, 0x4000, 8, 0x0, 1, 16, 8, .hro, [0], .any, .whole, false⟩,
   ⟨0x180100, 0x4000, 8, 0x0, 1, 0, 32, .hro, [0], .any, (.lo 16), true⟩,
   ⟨0x180104, 0x4000, 8, 0x0, 1, 0, 16, .hro, [0], .any, .hi, true⟩,
   ⟨0x180108, 0x4000, 8, 0x0, 1, 0, 32, .hro, [0], .any, (.lo 16), true⟩,
   ⟨0x18010C, 0x4000, 8, 0x0, 1, 0, 16, .hro, [0], .any, .hi, true⟩,
   ⟨0x180110, 0x4000, 8, 0x0, 1, 0, 32, .hro, [0], .any, (.lo 16), true⟩,
   ⟨0x180114, 0x4000, 8, 0x0, 1, 0, 16, .hro, [0], .any, .hi, true⟩,
   ⟨0x180118, 0x4000, 8, 0x0, 1, 0, 32, .hro, [0], .any, (.lo 16), true⟩,
   ⟨0x18011C, 0x4000, 8, 0x0, 1, 0, 16, .hro, [0], .any, .hi, true⟩,
   ⟨0x180120, 0x4000, 8, 0x0, 1, 0, 32, .hro, [0], .any, (.lo 16), true⟩,
   ⟨0x180124, 0x4000, 8, 0x0, 1, 0, 16, .hro, [0], .any, .hi, true⟩,
   ⟨0x180128, 0x4000, 8, 0x0, 1, 0, 32, .hro, [0], .any, (.lo 16), true⟩,
   ⟨0x18012C, 0x4000, 8, 0x0, 1, 0, 16, .hro, [0], .any, .hi, true⟩,
   ⟨0x180130, 0x4000, 8, 0x0, 1, 0, 32, .hro, [0], .any, (.lo 16), true⟩]

/-- The register map of block MAC, part 3 of 3. -/
def rows3 : List Row :=
  [⟨0x180134, 0x4000, 8, 0x0, 1, 0, 16, .hro, [0], .any, .hi, true⟩,
   ⟨0x180138, 0x4000, 8, 0x0, 1, 0, 32, .hro, [0], .any, (.lo 16), true⟩,
   ⟨0x18013C, 0x4000, 8, 0x0, 1, 0, 16, .hro, [0], .any, .hi, true⟩,
   ⟨0x180140, 0x4000, 8, 0x0, 1, 0, 32, .hro, [0], .any, (.lo 16), true⟩,
   ⟨0x180144, 0x4000, 8, 0x0, 1, 0, 16, .hro, [0], .any, .hi, true⟩,
   ⟨0x180148, 0x4000, 8, 0x0, 1, 0, 32, .hro, [0], .any, (.lo 16), true⟩,
   ⟨0x18014C, 0x4000, 8, 0x0, 1, 0, 16, .hro, [0], .any, .hi, true⟩,
   ⟨0x180150, 0x4000, 8, 0x0, 1, 0, 32, .hro, [0], .any, (.lo 16), true⟩,
   ⟨0x180154, 0x4000, 8, 0x0, 1, 0, 16, .hro, [0], .any, .hi, true⟩,
   ⟨0x180158, 0x4000, 8, 0x0, 1, 0, 32, .hro, [0], .any, (.lo 16), true⟩,
   ⟨0x18015C, 0x4000, 8, 0x0, 1, 0, 16, .hro, [0], .any, .hi, true⟩,
   ⟨0x180160, 0x4000, 8, 0x0, 1, 0, 32, .hro, [0], .any, (.lo 16), true⟩,
   ⟨0x180164, 0x4000, 8, 0x0, 1, 0, 16, .hro, [0], .any, .hi, true⟩,
   ⟨0x180168, 0x4000, 8, 0x0, 1, 0, 32, .hro, [0], .any, (.lo 16), true⟩,
   ⟨0x18016C, 0x4000, 8, 0x0, 1, 0, 16, .hro, [0], .any, .hi, true⟩,
   ⟨0x180170, 0x4000, 8, 0x0, 1, 0, 32, .hro, [0], .any, (.lo 16), true⟩,
   ⟨0x180174, 0x4000, 8, 0x0, 1, 0, 16, .hro, [0], .any, .hi, true⟩,
   ⟨0x180178, 0x4000, 8, 0x0, 1, 0, 32, .hro, [0], .any, (.lo 16), true⟩,
   ⟨0x18017C, 0x4000, 8, 0x0, 1, 0, 16, .hro, [0], .any, .hi, true⟩,
   ⟨0x180180, 0x4000, 8, 0x0, 1, 0, 32, .hro, [0], .any, (.lo 16), true⟩,
   ⟨0x180184, 0x4000, 8, 0x0, 1, 0, 16, .hro, [0], .any, .hi, true⟩,
   ⟨0x180188, 0x4000, 8, 0x0, 1, 0, 32, .hro, [0], .any, (.lo 16), true⟩,
   ⟨0x18018C, 0x4000, 8, 0x0, 1, 0, 16, .hro, [0], .any, .hi, true⟩,
   ⟨0x180190, 0x4000, 8, 0x0, 1, 0, 32, .hro, [0], .any, (.lo 16), true⟩,
   ⟨0x180194, 0x4000, 8, 0x0, 1, 0, 16, .hro, [0], .any, .hi, true⟩]

/-- The register map of block MAC. -/
def rows : List Row := rows1 ++ rows2 ++ rows3

end Sys2Proof.Machine.MAC

namespace Sys2Proof.Machine.PTP

/-- Table 12-6, PTP_STATUS SERVING [0:0], HRO: A serving mode is in force -/
def PTP_STATUS_SERVING : Fld := ⟨32 * 0x1A0000, 1, 0⟩
/-- Table 12-6, PTP_STATUS TABLE_FULL [1:1], HRO: R276 -/
def PTP_STATUS_TABLE_FULL : Fld := ⟨32 * 0x1A0000 + 1, 1, 0⟩
/-- Table 12-6, PTP_STATUS UP_ACTIVE [2:2], HRO: Upstream port running -/
def PTP_STATUS_UP_ACTIVE : Fld := ⟨32 * 0x1A0000 + 2, 1, 0⟩
/-- Table 12-6, PTP_STATUS UP_MASTER [4:3], HRO: Chosen master -/
def PTP_STATUS_UP_MASTER : Fld := ⟨32 * 0x1A0000 + 3, 2, 0⟩
/-- Table 12-6, PTP_STATUS UP_MASTER_VALID [5:5], HRO: A master is chosen -/
def PTP_STATUS_UP_MASTER_VALID : Fld := ⟨32 * 0x1A0000 + 5, 1, 0⟩
/-- Table 12-6, PTP_CFG PROFILE [1:0], RW: Table 12-1; 3 is ignored -/
def PTP_CFG_PROFILE : Fld := ⟨32 * 0x1A0004, 2, 0⟩
/-- Table 12-6, PTP_CFG P2P_MASK [15:8], RW: Bit p: peer-to-peer on Pp -/
def PTP_CFG_P2P_MASK : Fld := ⟨32 * 0x1A0004 + 8, 8, 0⟩
/-- Table 12-6, PTP_CFG P2P_TWO_STEP [23:16], RW: Bit p: two-step Pdelay_Resp -/
def PTP_CFG_P2P_TWO_STEP : Fld := ⟨32 * 0x1A0004 + 16, 8, 0⟩
/-- Table 12-6, PTP_DOMAIN DOMAIN [7:0], RW: R261 -/
def PTP_DOMAIN : Fld := ⟨32 * 0x1A0008, 8, 0⟩
/-- Table 12-6, CLOCK_ID_LO ID [63:0] over its _LO and _HI, RWL: clockIdentity, octets 4–7 -/
def CLOCK_ID : Fld := ⟨32 * 0x1A000C, 64, 0⟩
/-- Table 12-6, GM_PRIO PRIORITY1 [7:0], RW: R266 -/
def GM_PRIO_PRIORITY1 : Fld := ⟨32 * 0x1A0014, 8, 128⟩
/-- Table 12-6, GM_PRIO PRIORITY2 [15:8], RW: R266 -/
def GM_PRIO_PRIORITY2 : Fld := ⟨32 * 0x1A0014 + 8, 8, 128⟩
/-- Table 12-6, GRANT_CFG DUR_MAX [15:0], RW: Seconds, 10 to 65,535 -/
def GRANT_CFG_DUR_MAX : Fld := ⟨32 * 0x1A0018, 16, 300⟩
/-- Table 12-6, GRANT_CFG AGE_S [31:16], RW: R281 -/
def GRANT_CFG_AGE_S : Fld := ⟨32 * 0x1A0018 + 16, 16, 300⟩
/-- Table 12-6, LOG_LIMITS SYNC_LOG_MIN [7:0], RW: Signed; −7 -/
def LOG_LIMITS_SYNC_LOG_MIN : Fld := ⟨32 * 0x1A001C, 8, 249⟩
/-- Table 12-6, LOG_LIMITS ANN_LOG_MIN [15:8], RW: Signed; −3 -/
def LOG_LIMITS_ANN_LOG_MIN : Fld := ⟨32 * 0x1A001C + 8, 8, 253⟩
/-- Table 12-6, LOG_LIMITS DRESP_LOG_MIN [23:16], RW: Signed; −7 -/
def LOG_LIMITS_DRESP_LOG_MIN : Fld := ⟨32 * 0x1A001C + 16, 8, 249⟩
/-- Table 12-6, LOG_LIMITS LOG_MAX [31:24], RW: Signed -/
def LOG_LIMITS_LOG_MAX : Fld := ⟨32 * 0x1A001C + 24, 8, 4⟩
/-- Table 12-6, AUTH_CFG AUTH_REQ [0:0], RW: R282 -/
def AUTH_CFG_AUTH_REQ : Fld := ⟨32 * 0x1A0020, 1, 0⟩
/-- Table 12-6, AUTH_CFG CF_ZERO [1:1], RW: R283 -/
def AUTH_CFG_CF_ZERO : Fld := ⟨32 * 0x1A0020 + 1, 1, 0⟩
/-- Table 12-6, AUTH_CFG MGMT_AUTH [2:2], RW: R282 -/
def AUTH_CFG_MGMT_AUTH : Fld := ⟨32 * 0x1A0020 + 2, 1, 0⟩
/-- Table 12-6, AUTH_CFG P2P_AUTH [15:8], RW: Bit p: Pdelay_Req must be authenticated -/
def AUTH_CFG_P2P_AUTH : Fld := ⟨32 * 0x1A0020 + 8, 8, 0⟩
/-- Table 12-6, PDELAY_CFG PDELAY_MAX [15:0], RW: Per port per second -/
def PDELAY_CFG : Fld := ⟨32 * 0x1A0024, 16, 64⟩
/-- Table 12-6, EXT_TSRC REF1 [7:0], RW: timeSource for REF1 -/
def EXT_TSRC_REF1 : Fld := ⟨32 * 0x1A0028, 8, 144⟩
/-- Table 12-6, EXT_TSRC REF2 [15:8], RW: timeSource for REF2 -/
def EXT_TSRC_REF2 : Fld := ⟨32 * 0x1A0028 + 8, 8, 144⟩
/-- Table 12-6, CLIENTS_LIVE N [20:0], HRO: VALID records -/
def CLIENTS_LIVE : Fld := ⟨32 * 0x1A0030, 21, 0⟩
/-- Table 12-6, NEG_PENDING N [12:0], HRO: R275 -/
def NEG_PENDING : Fld := ⟨32 * 0x1A0034, 13, 0⟩
/-- Table 12-6, GRANT_CNT COUNT [47:0] over its _LO and _HI, HRO: Grants made -/
def GRANT_CNT : Fld := ⟨32 * 0x1A0040, 48, 0⟩
/-- Table 12-6, DENY_CNT COUNT [47:0] over its _LO and _HI, HRO: R272 -/
def DENY_CNT : Fld := ⟨32 * 0x1A0048, 48, 0⟩
/-- Table 12-6, TABLE_FULL_CNT COUNT [47:0] over its _LO and _HI, HRO: R276 -/
def TABLE_FULL_CNT : Fld := ⟨32 * 0x1A0050, 48, 0⟩
/-- Table 12-6, NO_POOL_CNT COUNT [47:0] over its _LO and _HI, HRO: R276 -/
def NO_POOL_CNT : Fld := ⟨32 * 0x1A0058, 48, 0⟩
/-- Table 12-6, INDEX_FULL_CNT COUNT [47:0] over its _LO and _HI, HRO: R276 -/
def INDEX_FULL_CNT : Fld := ⟨32 * 0x1A0060, 48, 0⟩
/-- Table 12-6, NEG_PEND_DROP COUNT [47:0] over its _LO and _HI, HRO: R275 -/
def NEG_PEND_DROP : Fld := ⟨32 * 0x1A0068, 48, 0⟩
/-- Table 12-6, NO_GRANT_CNT COUNT [47:0] over its _LO and _HI, HRO: R279 -/
def NO_GRANT_CNT : Fld := ⟨32 * 0x1A0070, 48, 0⟩
/-- Table 12-6, DREQ_POLICE_CNT COUNT [47:0] over its _LO and _HI, HRO: R279 -/
def DREQ_POLICE_CNT : Fld := ⟨32 * 0x1A0078, 48, 0⟩
/-- Table 12-6, AUTH_FAIL_CNT COUNT [47:0] over its _LO and _HI, HRO: R282 -/
def AUTH_FAIL_CNT : Fld := ⟨32 * 0x1A0080, 48, 0⟩
/-- Table 12-6, AUTH_MISSING_CNT COUNT [47:0] over its _LO and _HI, HRO: R282 -/
def AUTH_MISSING_CNT : Fld := ⟨32 * 0x1A0088, 48, 0⟩
/-- Table 12-6, AUTH_STALE_CNT COUNT [47:0] over its _LO and _HI, HRO: R282 -/
def AUTH_STALE_CNT : Fld := ⟨32 * 0x1A0090, 48, 0⟩
/-- Table 12-6, AUTH_UNSUP_CNT COUNT [47:0] over its _LO and _HI, HRO: R282 -/
def AUTH_UNSUP_CNT : Fld := ⟨32 * 0x1A0098, 48, 0⟩
/-- Table 12-6, DOMAIN_DROP_CNT COUNT [47:0] over its _LO and _HI, HRO: R262 -/
def DOMAIN_DROP_CNT : Fld := ⟨32 * 0x1A00A0, 48, 0⟩
/-- Table 12-6, MGMT_FWD_CNT COUNT [47:0] over its _LO and _HI, HRO: R285 -/
def MGMT_FWD_CNT : Fld := ⟨32 * 0x1A00A8, 48, 0⟩
/-- Table 12-6, CLIENT_NEW_CNT COUNT [47:0] over its _LO and _HI, HRO: R273 -/
def CLIENT_NEW_CNT : Fld := ⟨32 * 0x1A00B0, 48, 0⟩
/-- Table 12-6, CLIENT_AGED_CNT COUNT [47:0] over its _LO and _HI, HRO: R281 -/
def CLIENT_AGED_CNT : Fld := ⟨32 * 0x1A00B8, 48, 0⟩
/-- Table 12-6, PDELAY_DROP_CNT COUNT [47:0] over its _LO and _HI, HRO: R280 -/
def PDELAY_DROP_CNT : Fld := ⟨32 * 0x1A00C0, 48, 0⟩
/-- Table 12-6, CANCEL_CNT COUNT [47:0] over its _LO and _HI, HRO: CANCELs received -/
def CANCEL_CNT : Fld := ⟨32 * 0x1A00C8, 48, 0⟩
/-- Table 12-6, RX_IGNORED_CNT COUNT [47:0] over its _LO and _HI, HRO: R262, R272, R280 -/
def RX_IGNORED_CNT : Fld := ⟨32 * 0x1A00D0, 48, 0⟩
/-- Table 12-6, DUAL_MISMATCH_CNT COUNT [47:0] over its _LO and _HI, HRO: R291 -/
def DUAL_MISMATCH_CNT : Fld := ⟨32 * 0x1A00D8, 48, 0⟩
/-- Table 12-6, MC_RECp RECORD [19:0], RW: Multicast record of Pp -/
def MC_REC_RECORD (p : Nat) : Fld := ⟨32 * (0x1A00E0 + 0x4 * p), 20, 0⟩
/-- Table 12-6, MC_RECp EN [31:31], RW: Enabled -/
def MC_REC_EN (p : Nat) : Fld := ⟨32 * (0x1A00E0 + 0x4 * p) + 31, 1, 0⟩
/-- Table 12-6, POOL_FIRSTi FIRST [19:0], RW: Staged (R269) -/
def POOL_FIRST (i : Nat) : Fld := ⟨32 * (0x1A0100 + 0x10 * i), 20, 0⟩
/-- Table 12-6, POOL_LASTi LAST [19:0], RW: Staged -/
def POOL_LAST (i : Nat) : Fld := ⟨32 * (0x1A0104 + 0x10 * i), 20, 0⟩
/-- Table 12-6, POOL_CFGi PORT [2:0], RW: Staged -/
def POOL_CFG_PORT (i : Nat) : Fld := ⟨32 * (0x1A0108 + 0x10 * i), 3, 0⟩
/-- Table 12-6, POOL_CFGi STRIDE [15:8], RW: 1 to 255; 0 is ignored -/
def POOL_CFG_STRIDE (i : Nat) : Fld := ⟨32 * (0x1A0108 + 0x10 * i) + 8, 8, 1⟩
/-- Table 12-6, POOL_CFGi EN [16:16], RW: Staged -/
def POOL_CFG_EN (i : Nat) : Fld := ⟨32 * (0x1A0108 + 0x10 * i) + 16, 1, 0⟩
/-- Table 12-6, POOL_CFGi MSG [19:17], RW: [17] Sync, [18] Announce, [19] Delay_Resp -/
def POOL_CFG_MSG (i : Nat) : Fld := ⟨32 * (0x1A0108 + 0x10 * i) + 17, 3, 0⟩
/-- Table 12-6, POOL_LOGi SYNC_LOG [7:0], RW: Signed base; staged -/
def POOL_LOG_SYNC_LOG (i : Nat) : Fld := ⟨32 * (0x1A010C + 0x10 * i), 8, 252⟩
/-- Table 12-6, POOL_LOGi ANN_LOG [15:8], RW: Signed base; staged -/
def POOL_LOG_ANN_LOG (i : Nat) : Fld := ⟨32 * (0x1A010C + 0x10 * i) + 8, 8, 0⟩
/-- Table 12-6, POOL_LOGi FREE [31:16], HRO: Free members, saturating at 65,535 -/
def POOL_LOG_FREE (i : Nat) : Fld := ⟨32 * (0x1A010C + 0x10 * i) + 16, 16, 0⟩
/-- Table 12-6, UP_CFG EN [0:0], RW: R286 -/
def UP_CFG_EN : Fld := ⟨32 * 0x1A0400, 1, 0⟩
/-- Table 12-6, UP_CFG PORT [3:1], RW: Upstream port -/
def UP_CFG_PORT : Fld := ⟨32 * 0x1A0400 + 1, 3, 0⟩
/-- Table 12-6, UP_CFG TRANSPORT [5:4], RW: 0 Ethernet, 1 IPv4, 2 IPv6 -/
def UP_CFG_TRANSPORT : Fld := ⟨32 * 0x1A0400 + 4, 2, 0⟩
/-- Table 12-6, UP_CFG NEGOTIATE [6:6], RW: Request grants -/
def UP_CFG_NEGOTIATE : Fld := ⟨32 * 0x1A0400 + 6, 1, 0⟩
/-- Table 12-6, UP_CFG P2P [7:7], RW: Peer delay -/
def UP_CFG_P2P : Fld := ⟨32 * 0x1A0400 + 7, 1, 0⟩
/-- Table 12-6, UP_CFG UP_TC [10:8], RW: Traffic class -/
def UP_CFG_UP_TC : Fld := ⟨32 * 0x1A0400 + 8, 3, 7⟩
/-- Table 12-6, UP_CFG SYNC_LOG [23:16], RW: Signed; Sync period requested -/
def UP_CFG_SYNC_LOG : Fld := ⟨32 * 0x1A0400 + 16, 8, 252⟩
/-- Table 12-6, UP_CFG DREQ_LOG [31:24], RW: Signed; Delay_Req period -/
def UP_CFG_DREQ_LOG : Fld := ⟨32 * 0x1A0400 + 24, 8, 252⟩
/-- Table 12-6, UP_CFG2 UP_DURATION [15:0], RW: Seconds -/
def UP_CFG2_UP_DURATION : Fld := ⟨32 * 0x1A0404, 16, 300⟩
/-- Table 12-6, UP_CFG2 PD_WIN [22:16], RW: 1 to 64 -/
def UP_CFG2_PD_WIN : Fld := ⟨32 * 0x1A0404 + 16, 7, 16⟩
/-- Table 12-6, UP_CFG2 AUTH [24:24], RW: R288 -/
def UP_CFG2_AUTH : Fld := ⟨32 * 0x1A0404 + 24, 1, 0⟩
/-- Table 12-6, UP_ASYM PS [31:0], RW: Signed (R287) -/
def UP_ASYM : Fld := ⟨32 * 0x1A0408, 32, 0⟩
/-- Table 12-6, UP_OFFSET_LO PS [39:0] over its _LO and _HI, HRO: Latest signed θ -/
def UP_OFFSET : Fld := ⟨32 * 0x1A0410, 40, 0⟩
/-- Table 12-6, UP_DELAY PS [31:0], HRO: d_min -/
def UP_DELAY : Fld := ⟨32 * 0x1A0418, 32, 0⟩
/-- Table 12-6, UP_BOUND_LO PS [39:0] over its _LO and _HI, HRO: R288 -/
def UP_BOUND : Fld := ⟨32 * 0x1A041C, 40, 0⟩
/-- Table 12-6, UP_ADDRm ADDR [31:0], RW: IPv6, IPv4 in the first word, or MAC in the first 6 octets; most significant word first -/
def UP_ADDR (m j : Nat) : Fld := ⟨32 * (0x1A0440 + 0x20 * m + 0x4 * j), 32, 0⟩
/-- Table 12-6, UP_MCFGm LOCAL_PRIORITY [7:0], RW: R286 -/
def UP_MCFG_LOCAL_PRIORITY (m : Nat) : Fld := ⟨32 * (0x1A0450 + 0x20 * m), 8, 128⟩
/-- Table 12-6, UP_MCFGm EN [8:8], RW: Master enabled -/
def UP_MCFG_EN (m : Nat) : Fld := ⟨32 * (0x1A0450 + 0x20 * m) + 8, 1, 0⟩
/-- Table 12-6, UP_MSTATm CLOCK_CLASS [7:0], HRO: From the last Announce -/
def UP_MSTAT_CLOCK_CLASS (m : Nat) : Fld := ⟨32 * (0x1A0454 + 0x20 * m), 8, 255⟩
/-- Table 12-6, UP_MSTATm CANDIDATE [8:8], HRO: Announces current -/
def UP_MSTAT_CANDIDATE (m : Nat) : Fld := ⟨32 * (0x1A0454 + 0x20 * m) + 8, 1, 0⟩
/-- Table 12-6, UP_MSTATm GRANTED [11:9], HRO: [9] Announce, [10] Sync, [11] Delay_Resp -/
def UP_MSTAT_GRANTED (m : Nat) : Fld := ⟨32 * (0x1A0454 + 0x20 * m) + 9, 3, 0⟩
/-- Table 12-6, PRP_CFG LAN_ID [3:0], RW: R290 -/
def PRP_CFG : Fld := ⟨32 * 0x1A0500, 4, 10⟩
/-- Table 12-6, FLOW_CFGf SEQ [15:0], HRO: Next PRP sequence number -/
def FLOW_CFG_SEQ (f : Nat) : Fld := ⟨32 * (0x1A0800 + 0x4 * f), 16, 0⟩
/-- Table 12-6, FLOW_CFGf EN [16:16], RW: Flow in use -/
def FLOW_CFG_EN (f : Nat) : Fld := ⟨32 * (0x1A0800 + 0x4 * f) + 16, 1, 0⟩

/-- The register map of block PTP, part 1 of 4. -/
def rows1 : List Row :=
  [⟨0x1A0000, 0x0, 1, 0x0, 1, 0, 1, .hro, [0], .any, .whole, false⟩,
   ⟨0x1A0000, 0x0, 1, 0x0, 1, 1, 1, .hro, [0], .any, .whole, false⟩,
   ⟨0x1A0000, 0x0, 1, 0x0, 1, 2, 1, .hro, [0], .any, .whole, false⟩,
   ⟨0x1A0000, 0x0, 1, 0x0, 1, 3, 2, .hro, [0], .any, .whole, false⟩,
   ⟨0x1A0000, 0x0, 1, 0x0, 1, 5, 1, .hro, [0], .any, .whole, false⟩,
   ⟨0x1A0004, 0x0, 1, 0x0, 1, 0, 2, .rw, [0], (.range 0 2), .whole, false⟩,
   ⟨0x1A0004, 0x0, 1, 0x0, 1, 8, 8, .rw, [0], .any, .whole, false⟩,
   ⟨0x1A0004, 0x0, 1, 0x0, 1, 16, 8, .rw, [0], .any, .whole, false⟩,
   ⟨0x1A0008, 0x0, 1, 0x0, 1, 0, 8, .rw, [0], .any, .whole, false⟩,
   ⟨0x1A000C, 0x0, 1, 0x0, 1, 0, 32, .rwl, [0], .any, (.lo 32), false⟩,
   ⟨0x1A0010, 0x0, 1, 0x0, 1, 0, 32, .rwl, [0], .any, .hi, false⟩,
   ⟨0x1A0014, 0x0, 1, 0x0, 1, 0, 8, .rw, [128], .any, .whole, false⟩,
   ⟨0x1A0014, 0x0, 1, 0x0, 1, 8, 8, .rw, [128], .any, .whole, false⟩,
   ⟨0x1A0018, 0x0, 1, 0x0, 1, 0, 16, .rw, [300], (.range 10 65535), .whole, false⟩,
   ⟨0x1A0018, 0x0, 1, 0x0, 1, 16, 16, .rw, [300], .any, .whole, false⟩,
   ⟨0x1A001C, 0x0, 1, 0x0, 1, 0, 8, .rw, [249], .any, .whole, false⟩,
   ⟨0x1A001C, 0x0, 1, 0x0, 1, 8, 8, .rw, [253], .any, .whole, false⟩,
   ⟨0x1A001C, 0x0, 1, 0x0, 1, 16, 8, .rw, [249], .any, .whole, false⟩,
   ⟨0x1A001C, 0x0, 1, 0x0, 1, 24, 8, .rw, [4], .any, .whole, false⟩,
   ⟨0x1A0020, 0x0, 1, 0x0, 1, 0, 1, .rw, [0], .any, .whole, false⟩,
   ⟨0x1A0020, 0x0, 1, 0x0, 1, 1, 1, .rw, [0], .any, .whole, false⟩,
   ⟨0x1A0020, 0x0, 1, 0x0, 1, 2, 1, .rw, [0], .any, .whole, false⟩,
   ⟨0x1A0020, 0x0, 1, 0x0, 1, 8, 8, .rw, [0], .any, .whole, false⟩,
   ⟨0x1A0024, 0x0, 1, 0x0, 1, 0, 16, .rw, [64], .any, .whole, false⟩,
   ⟨0x1A0028, 0x0, 1, 0x0, 1, 0, 8, .rw, [144], .any, .whole, false⟩,
   ⟨0x1A0028, 0x0, 1, 0x0, 1, 8, 8, .rw, [144], .any, .whole, false⟩,
   ⟨0x1A0030, 0x0, 1, 0x0, 1, 0, 21, .hro, [0], .any, .whole, false⟩,
   ⟨0x1A0034, 0x0, 1, 0x0, 1, 0, 13, .hro, [0], .any, .whole, false⟩,
   ⟨0x1A0040, 0x0, 1, 0x0, 1, 0, 32, .hro, [0], .any, (.lo 16), true⟩,
   ⟨0x1A0044, 0x0, 1, 0x0, 1, 0, 16, .hro, [0], .any, .hi, true⟩]

/-- The register map of block PTP, part 2 of 4. -/
def rows2 : List Row :=
  [⟨0x1A0048, 0x0, 1, 0x0, 1, 0, 32, .hro, [0], .any, (.lo 16), true⟩,
   ⟨0x1A004C, 0x0, 1, 0x0, 1, 0, 16, .hro, [0], .any, .hi, true⟩,
   ⟨0x1A0050, 0x0, 1, 0x0, 1, 0, 32, .hro, [0], .any, (.lo 16), true⟩,
   ⟨0x1A0054, 0x0, 1, 0x0, 1, 0, 16, .hro, [0], .any, .hi, true⟩,
   ⟨0x1A0058, 0x0, 1, 0x0, 1, 0, 32, .hro, [0], .any, (.lo 16), true⟩,
   ⟨0x1A005C, 0x0, 1, 0x0, 1, 0, 16, .hro, [0], .any, .hi, true⟩,
   ⟨0x1A0060, 0x0, 1, 0x0, 1, 0, 32, .hro, [0], .any, (.lo 16), true⟩,
   ⟨0x1A0064, 0x0, 1, 0x0, 1, 0, 16, .hro, [0], .any, .hi, true⟩,
   ⟨0x1A0068, 0x0, 1, 0x0, 1, 0, 32, .hro, [0], .any, (.lo 16), true⟩,
   ⟨0x1A006C, 0x0, 1, 0x0, 1, 0, 16, .hro, [0], .any, .hi, true⟩,
   ⟨0x1A0070, 0x0, 1, 0x0, 1, 0, 32, .hro, [0], .any, (.lo 16), true⟩,
   ⟨0x1A0074, 0x0, 1, 0x0, 1, 0, 16, .hro, [0], .any, .hi, true⟩,
   ⟨0x1A0078, 0x0, 1, 0x0, 1, 0, 32, .hro, [0], .any, (.lo 16), true⟩,
   ⟨0x1A007C, 0x0, 1, 0x0, 1, 0, 16, .hro, [0], .any, .hi, true⟩,
   ⟨0x1A0080, 0x0, 1, 0x0, 1, 0, 32, .hro, [0], .any, (.lo 16), true⟩,
   ⟨0x1A0084, 0x0, 1, 0x0, 1, 0, 16, .hro, [0], .any, .hi, true⟩,
   ⟨0x1A0088, 0x0, 1, 0x0, 1, 0, 32, .hro, [0], .any, (.lo 16), true⟩,
   ⟨0x1A008C, 0x0, 1, 0x0, 1, 0, 16, .hro, [0], .any, .hi, true⟩,
   ⟨0x1A0090, 0x0, 1, 0x0, 1, 0, 32, .hro, [0], .any, (.lo 16), true⟩,
   ⟨0x1A0094, 0x0, 1, 0x0, 1, 0, 16, .hro, [0], .any, .hi, true⟩,
   ⟨0x1A0098, 0x0, 1, 0x0, 1, 0, 32, .hro, [0], .any, (.lo 16), true⟩,
   ⟨0x1A009C, 0x0, 1, 0x0, 1, 0, 16, .hro, [0], .any, .hi, true⟩,
   ⟨0x1A00A0, 0x0, 1, 0x0, 1, 0, 32, .hro, [0], .any, (.lo 16), true⟩,
   ⟨0x1A00A4, 0x0, 1, 0x0, 1, 0, 16, .hro, [0], .any, .hi, true⟩,
   ⟨0x1A00A8, 0x0, 1, 0x0, 1, 0, 32, .hro, [0], .any, (.lo 16), true⟩,
   ⟨0x1A00AC, 0x0, 1, 0x0, 1, 0, 16, .hro, [0], .any, .hi, true⟩,
   ⟨0x1A00B0, 0x0, 1, 0x0, 1, 0, 32, .hro, [0], .any, (.lo 16), true⟩,
   ⟨0x1A00B4, 0x0, 1, 0x0, 1, 0, 16, .hro, [0], .any, .hi, true⟩,
   ⟨0x1A00B8, 0x0, 1, 0x0, 1, 0, 32, .hro, [0], .any, (.lo 16), true⟩,
   ⟨0x1A00BC, 0x0, 1, 0x0, 1, 0, 16, .hro, [0], .any, .hi, true⟩]

/-- The register map of block PTP, part 3 of 4. -/
def rows3 : List Row :=
  [⟨0x1A00C0, 0x0, 1, 0x0, 1, 0, 32, .hro, [0], .any, (.lo 16), true⟩,
   ⟨0x1A00C4, 0x0, 1, 0x0, 1, 0, 16, .hro, [0], .any, .hi, true⟩,
   ⟨0x1A00C8, 0x0, 1, 0x0, 1, 0, 32, .hro, [0], .any, (.lo 16), true⟩,
   ⟨0x1A00CC, 0x0, 1, 0x0, 1, 0, 16, .hro, [0], .any, .hi, true⟩,
   ⟨0x1A00D0, 0x0, 1, 0x0, 1, 0, 32, .hro, [0], .any, (.lo 16), true⟩,
   ⟨0x1A00D4, 0x0, 1, 0x0, 1, 0, 16, .hro, [0], .any, .hi, true⟩,
   ⟨0x1A00D8, 0x0, 1, 0x0, 1, 0, 32, .hro, [0], .any, (.lo 16), true⟩,
   ⟨0x1A00DC, 0x0, 1, 0x0, 1, 0, 16, .hro, [0], .any, .hi, true⟩,
   ⟨0x1A00E0, 0x4, 8, 0x0, 1, 0, 20, .rw, [0], .any, .whole, false⟩,
   ⟨0x1A00E0, 0x4, 8, 0x0, 1, 31, 1, .rw, [0], .any, .whole, false⟩,
   ⟨0x1A0100, 0x10, 32, 0x0, 1, 0, 20, .rw, [0], .any, .whole, false⟩,
   ⟨0x1A0104, 0x10, 32, 0x0, 1, 0, 20, .rw, [0], .any, .whole, false⟩,
   ⟨0x1A0108, 0x10, 32, 0x0, 1, 0, 3, .rw, [0], .any, .whole, false⟩,
   ⟨0x1A0108, 0x10, 32, 0x0, 1, 8, 8, .rw, [1], (.range 1 255), .whole, false⟩,
   ⟨0x1A0108, 0x10, 32, 0x0, 1, 16, 1, .rw, [0], .any, .whole, false⟩,
   ⟨0x1A0108, 0x10, 32, 0x0, 1, 17, 3, .rw, [0], .any, .whole, false⟩,
   ⟨0x1A010C, 0x10, 32, 0x0, 1, 0, 8, .rw, [252], .any, .whole, false⟩,
   ⟨0x1A010C, 0x10, 32, 0x0, 1, 8, 8, .rw, [0], .any, .whole, false⟩,
   ⟨0x1A010C, 0x10, 32, 0x0, 1, 16, 16, .hro, [0], .any, .whole, false⟩,
   ⟨0x1A0400, 0x0, 1, 0x0, 1, 0, 1, .rw, [0], .any, .whole, false⟩,
   ⟨0x1A0400, 0x0, 1, 0x0, 1, 1, 3, .rw, [0], .any, .whole, false⟩,
   ⟨0x1A0400, 0x0, 1, 0x0, 1, 4, 2, .rw, [0], .any, .whole, false⟩,
   ⟨0x1A0400, 0x0, 1, 0x0, 1, 6, 1, .rw, [0], .any, .whole, false⟩,
   ⟨0x1A0400, 0x0, 1, 0x0, 1, 7, 1, .rw, [0], .any, .whole, false⟩,
   ⟨0x1A0400, 0x0, 1, 0x0, 1, 8, 3, .rw, [7], .any, .whole, false⟩,
   ⟨0x1A0400, 0x0, 1, 0x0, 1, 16, 8, .rw, [252], .any, .whole, false⟩,
   ⟨0x1A0400, 0x0, 1, 0x0, 1, 24, 8, .rw, [252], .any, .whole, false⟩,
   ⟨0x1A0404, 0x0, 1, 0x0, 1, 0, 16, .rw, [300], .any, .whole, false⟩,
   ⟨0x1A0404, 0x0, 1, 0x0, 1, 16, 7, .rw, [16], (.range 1 64), .whole, false⟩,
   ⟨0x1A0404, 0x0, 1, 0x0, 1, 24, 1, .rw, [0], .any, .whole, false⟩]

/-- The register map of block PTP, part 4 of 4. -/
def rows4 : List Row :=
  [⟨0x1A0408, 0x0, 1, 0x0, 1, 0, 32, .rw, [0], .any, .whole, false⟩,
   ⟨0x1A0410, 0x0, 1, 0x0, 1, 0, 32, .hro, [0], .any, (.lo 8), false⟩,
   ⟨0x1A0414, 0x0, 1, 0x0, 1, 0, 8, .hro, [0], .any, .hi, false⟩,
   ⟨0x1A0418, 0x0, 1, 0x0, 1, 0, 32, .hro, [0], .any, .whole, false⟩,
   ⟨0x1A041C, 0x0, 1, 0x0, 1, 0, 32, .hro, [0], .any, (.lo 8), false⟩,
   ⟨0x1A0420, 0x0, 1, 0x0, 1, 0, 8, .hro, [0], .any, .hi, false⟩,
   ⟨0x1A0440, 0x20, 4, 0x4, 4, 0, 32, .rw, [0], .any, .whole, false⟩,
   ⟨0x1A0450, 0x20, 4, 0x0, 1, 0, 8, .rw, [128], .any, .whole, false⟩,
   ⟨0x1A0450, 0x20, 4, 0x0, 1, 8, 1, .rw, [0], .any, .whole, false⟩,
   ⟨0x1A0454, 0x20, 4, 0x0, 1, 0, 8, .hro, [255], .any, .whole, false⟩,
   ⟨0x1A0454, 0x20, 4, 0x0, 1, 8, 1, .hro, [0], .any, .whole, false⟩,
   ⟨0x1A0454, 0x20, 4, 0x0, 1, 9, 3, .hro, [0], .any, .whole, false⟩,
   ⟨0x1A0500, 0x0, 1, 0x0, 1, 0, 4, .rw, [10], .any, .whole, false⟩,
   ⟨0x1A0800, 0x4, 256, 0x0, 1, 0, 16, .hro, [0], .any, .whole, false⟩,
   ⟨0x1A0800, 0x4, 256, 0x0, 1, 16, 1, .rw, [0], .any, .whole, false⟩]

/-- The register map of block PTP. -/
def rows : List Row := rows1 ++ rows2 ++ rows3 ++ rows4

end Sys2Proof.Machine.PTP

namespace Sys2Proof.Machine.NTS

/-- Table 13-8, NTS_STATUS SERVING [0:0], HRO: Requests are answered -/
def NTS_STATUS_SERVING : Fld := ⟨32 * 0x1B0000, 1, 0⟩
/-- Table 13-8, NTS_STATUS CURRENT_VALID [1:1], HRO: An entry is CURRENT -/
def NTS_STATUS_CURRENT_VALID : Fld := ⟨32 * 0x1B0000 + 1, 1, 0⟩
/-- Table 13-8, NTS_STATUS CURRENT_GEN [3:2], HRO: The CURRENT entry -/
def NTS_STATUS_CURRENT_GEN : Fld := ⟨32 * 0x1B0000 + 2, 2, 0⟩
/-- Table 13-8, NTS_STATUS CHANGE_PENDING [4:4], HRO: R307 -/
def NTS_STATUS_CHANGE_PENDING : Fld := ⟨32 * 0x1B0000 + 4, 1, 0⟩
/-- Table 13-8, NTS_CFG PLAIN_EN [0:0], RW: Answer plain requests -/
def NTS_CFG_PLAIN_EN : Fld := ⟨32 * 0x1B0004, 1, 1⟩
/-- Table 13-8, NTS_CFG NTS_EN [1:1], RW: Answer NTS requests -/
def NTS_CFG_NTS_EN : Fld := ⟨32 * 0x1B0004 + 1, 1, 1⟩
/-- Table 13-8, NTS_CFG RL_EN [2:2], RW: R296 -/
def NTS_CFG_RL_EN : Fld := ⟨32 * 0x1B0004 + 2, 1, 1⟩
/-- Table 13-8, NTS_CFG RL_KOD [3:3], RW: R296 -/
def NTS_CFG_RL_KOD : Fld := ⟨32 * 0x1B0004 + 3, 1, 0⟩
/-- Table 13-8, NTS_CFG COOKIE_MAX [7:4], RW: 1 to 8; other writes ignored -/
def NTS_CFG_COOKIE_MAX : Fld := ⟨32 * 0x1B0004 + 4, 4, 8⟩
/-- Table 13-8, NTS_CFG TC [10:8], RW: Traffic class of replies -/
def NTS_CFG_TC : Fld := ⟨32 * 0x1B0004 + 8, 3, 6⟩
/-- Table 13-8, NTS_CFG DSCP [21:16], RW: R300 -/
def NTS_CFG_DSCP : Fld := ⟨32 * 0x1B0004 + 16, 6, 0⟩
/-- Table 13-8, NTS_CFG HOP_LIMIT [31:24], RW: R300 -/
def NTS_CFG_HOP_LIMIT : Fld := ⟨32 * 0x1B0004 + 24, 8, 64⟩
/-- Table 13-8, POLL_CFG POLL_MIN [7:0], RW: Signed -/
def POLL_CFG_POLL_MIN : Fld := ⟨32 * 0x1B0008, 8, 4⟩
/-- Table 13-8, POLL_CFG POLL_MAX [15:8], RW: Signed -/
def POLL_CFG_POLL_MAX : Fld := ⟨32 * 0x1B0008 + 8, 8, 17⟩
/-- Table 13-8, POLL_CFG PRECISION [23:16], RW: Signed; −32 -/
def POLL_CFG_PRECISION : Fld := ⟨32 * 0x1B0008 + 16, 8, 224⟩
/-- Table 13-8, RL_CFG RL_RATE [15:0], RW: Tokens per second, 1 to 65,535 -/
def RL_CFG_RL_RATE : Fld := ⟨32 * 0x1B000C, 16, 16⟩
/-- Table 13-8, RL_CFG RL_BURST [31:16], RW: Tokens, 1 to 65,535 -/
def RL_CFG_RL_BURST : Fld := ⟨32 * 0x1B000C + 16, 16, 64⟩
/-- Table 13-8, RL_CFG2 V6_PREFIX [7:0], RW: 32 to 128; other writes ignored -/
def RL_CFG2 : Fld := ⟨32 * 0x1B0010, 8, 64⟩
/-- Table 13-8, ACCEPT_S S [31:0], RW: Seconds, at least 60 -/
def ACCEPT_S : Fld := ⟨32 * 0x1B0014, 32, 86400⟩
/-- Table 13-8, NTS_GENg STATE [1:0], HRO: Table 13-5 -/
def NTS_GEN_STATE (g : Nat) : Fld := ⟨32 * (0x1B0020 + 0x10 * g), 2, 0⟩
/-- Table 13-8, NTS_GENg SLOT [15:8], HRO: Master key slot -/
def NTS_GEN_SLOT (g : Nat) : Fld := ⟨32 * (0x1B0020 + 0x10 * g) + 8, 8, 0⟩
/-- Table 13-8, NTS_KEYIDg KEY_ID [31:0], HRO: Key identifier -/
def NTS_KEYID (g : Nat) : Fld := ⟨32 * (0x1B0024 + 0x10 * g), 32, 0⟩
/-- Table 13-8, NTS_AGEg S [31:0], HRO: Seconds in ACCEPT -/
def NTS_AGE (g : Nat) : Fld := ⟨32 * (0x1B0028 + 0x10 * g), 32, 0⟩
/-- Table 13-8, NTP_RESP_CNT COUNT [47:0] over its _LO and _HI, HRO: Plain responses -/
def NTP_RESP_CNT : Fld := ⟨32 * 0x1B0080, 48, 0⟩
/-- Table 13-8, NTS_RESP_CNT COUNT [47:0] over its _LO and _HI, HRO: NTS responses -/
def NTS_RESP_CNT : Fld := ⟨32 * 0x1B0088, 48, 0⟩
/-- Table 13-8, NAK_CNT COUNT [47:0] over its _LO and _HI, HRO: R305 -/
def NAK_CNT : Fld := ⟨32 * 0x1B0090, 48, 0⟩
/-- Table 13-8, RX_BAD_CNT COUNT [47:0] over its _LO and _HI, HRO: Table 13-1 -/
def RX_BAD_CNT : Fld := ⟨32 * 0x1B0098, 48, 0⟩
/-- Table 13-8, BAD_MODE_CNT COUNT [47:0] over its _LO and _HI, HRO: Table 13-1 -/
def BAD_MODE_CNT : Fld := ⟨32 * 0x1B00A0, 48, 0⟩
/-- Table 13-8, PLAIN_DROP_CNT COUNT [47:0] over its _LO and _HI, HRO: Table 13-1 -/
def PLAIN_DROP_CNT : Fld := ⟨32 * 0x1B00A8, 48, 0⟩
/-- Table 13-8, NTS_DROP_CNT COUNT [47:0] over its _LO and _HI, HRO: Table 13-1 -/
def NTS_DROP_CNT : Fld := ⟨32 * 0x1B00B0, 48, 0⟩
/-- Table 13-8, MALFORMED_CNT COUNT [47:0] over its _LO and _HI, HRO: Table 13-1 -/
def MALFORMED_CNT : Fld := ⟨32 * 0x1B00B8, 48, 0⟩
/-- Table 13-8, RL_DROP_CNT COUNT [47:0] over its _LO and _HI, HRO: R296 -/
def RL_DROP_CNT : Fld := ⟨32 * 0x1B00C0, 48, 0⟩
/-- Table 13-8, AUTH_FAIL_CNT COUNT [47:0] over its _LO and _HI, HRO: R304 -/
def AUTH_FAIL_CNT : Fld := ⟨32 * 0x1B00C8, 48, 0⟩
/-- Table 13-8, WM_OMIT_CNT COUNT [47:0] over its _LO and _HI, HRO: R227, R304 -/
def WM_OMIT_CNT : Fld := ⟨32 * 0x1B00D0, 48, 0⟩
/-- Table 13-8, NO_CURRENT_CNT COUNT [47:0] over its _LO and _HI, HRO: R304 -/
def NO_CURRENT_CNT : Fld := ⟨32 * 0x1B00D8, 48, 0⟩
/-- Table 13-8, ARP_ANS_CNT COUNT [47:0] over its _LO and _HI, HRO: R309, R311 -/
def ARP_ANS_CNT : Fld := ⟨32 * 0x1B00E0, 48, 0⟩
/-- Table 13-8, ND_ANS_CNT COUNT [47:0] over its _LO and _HI, HRO: R310, R311 -/
def ND_ANS_CNT : Fld := ⟨32 * 0x1B00E8, 48, 0⟩
/-- Table 13-8, ADDR_CONFLICT_CNT COUNT [47:0] over its _LO and _HI, HRO: R311 -/
def ADDR_CONFLICT_CNT : Fld := ⟨32 * 0x1B00F0, 48, 0⟩
/-- Table 13-8, MINT_CNT COUNT [47:0] over its _LO and _HI, HRO: R308 -/
def MINT_CNT : Fld := ⟨32 * 0x1B00F8, 48, 0⟩

/-- The register map of block NTS, part 1 of 2. -/
def rows1 : List Row :=
  [⟨0x1B0000, 0x0, 1, 0x0, 1, 0, 1, .hro, [0], .any, .whole, false⟩,
   ⟨0x1B0000, 0x0, 1, 0x0, 1, 1, 1, .hro, [0], .any, .whole, false⟩,
   ⟨0x1B0000, 0x0, 1, 0x0, 1, 2, 2, .hro, [0], .any, .whole, false⟩,
   ⟨0x1B0000, 0x0, 1, 0x0, 1, 4, 1, .hro, [0], .any, .whole, false⟩,
   ⟨0x1B0004, 0x0, 1, 0x0, 1, 0, 1, .rw, [1], .any, .whole, false⟩,
   ⟨0x1B0004, 0x0, 1, 0x0, 1, 1, 1, .rw, [1], .any, .whole, false⟩,
   ⟨0x1B0004, 0x0, 1, 0x0, 1, 2, 1, .rw, [1], .any, .whole, false⟩,
   ⟨0x1B0004, 0x0, 1, 0x0, 1, 3, 1, .rw, [0], .any, .whole, false⟩,
   ⟨0x1B0004, 0x0, 1, 0x0, 1, 4, 4, .rw, [8], (.range 1 8), .whole, false⟩,
   ⟨0x1B0004, 0x0, 1, 0x0, 1, 8, 3, .rw, [6], .any, .whole, false⟩,
   ⟨0x1B0004, 0x0, 1, 0x0, 1, 16, 6, .rw, [0], .any, .whole, false⟩,
   ⟨0x1B0004, 0x0, 1, 0x0, 1, 24, 8, .rw, [64], .any, .whole, false⟩,
   ⟨0x1B0008, 0x0, 1, 0x0, 1, 0, 8, .rw, [4], .any, .whole, false⟩,
   ⟨0x1B0008, 0x0, 1, 0x0, 1, 8, 8, .rw, [17], .any, .whole, false⟩,
   ⟨0x1B0008, 0x0, 1, 0x0, 1, 16, 8, .rw, [224], .any, .whole, false⟩,
   ⟨0x1B000C, 0x0, 1, 0x0, 1, 0, 16, .rw, [16], (.range 1 65535), .whole, false⟩,
   ⟨0x1B000C, 0x0, 1, 0x0, 1, 16, 16, .rw, [64], (.range 1 65535), .whole, false⟩,
   ⟨0x1B0010, 0x0, 1, 0x0, 1, 0, 8, .rw, [64], (.range 32 128), .whole, false⟩,
   ⟨0x1B0014, 0x0, 1, 0x0, 1, 0, 32, .rw, [86400], (.range 60 4294967295), .whole, false⟩,
   ⟨0x1B0020, 0x10, 4, 0x0, 1, 0, 2, .hro, [0], .any, .whole, false⟩,
   ⟨0x1B0020, 0x10, 4, 0x0, 1, 8, 8, .hro, [0], .any, .whole, false⟩,
   ⟨0x1B0024, 0x10, 4, 0x0, 1, 0, 32, .hro, [0], .any, .whole, false⟩,
   ⟨0x1B0028, 0x10, 4, 0x0, 1, 0, 32, .hro, [0], .any, .whole, false⟩,
   ⟨0x1B0080, 0x0, 1, 0x0, 1, 0, 32, .hro, [0], .any, (.lo 16), true⟩,
   ⟨0x1B0084, 0x0, 1, 0x0, 1, 0, 16, .hro, [0], .any, .hi, true⟩,
   ⟨0x1B0088, 0x0, 1, 0x0, 1, 0, 32, .hro, [0], .any, (.lo 16), true⟩,
   ⟨0x1B008C, 0x0, 1, 0x0, 1, 0, 16, .hro, [0], .any, .hi, true⟩,
   ⟨0x1B0090, 0x0, 1, 0x0, 1, 0, 32, .hro, [0], .any, (.lo 16), true⟩,
   ⟨0x1B0094, 0x0, 1, 0x0, 1, 0, 16, .hro, [0], .any, .hi, true⟩,
   ⟨0x1B0098, 0x0, 1, 0x0, 1, 0, 32, .hro, [0], .any, (.lo 16), true⟩]

/-- The register map of block NTS, part 2 of 2. -/
def rows2 : List Row :=
  [⟨0x1B009C, 0x0, 1, 0x0, 1, 0, 16, .hro, [0], .any, .hi, true⟩,
   ⟨0x1B00A0, 0x0, 1, 0x0, 1, 0, 32, .hro, [0], .any, (.lo 16), true⟩,
   ⟨0x1B00A4, 0x0, 1, 0x0, 1, 0, 16, .hro, [0], .any, .hi, true⟩,
   ⟨0x1B00A8, 0x0, 1, 0x0, 1, 0, 32, .hro, [0], .any, (.lo 16), true⟩,
   ⟨0x1B00AC, 0x0, 1, 0x0, 1, 0, 16, .hro, [0], .any, .hi, true⟩,
   ⟨0x1B00B0, 0x0, 1, 0x0, 1, 0, 32, .hro, [0], .any, (.lo 16), true⟩,
   ⟨0x1B00B4, 0x0, 1, 0x0, 1, 0, 16, .hro, [0], .any, .hi, true⟩,
   ⟨0x1B00B8, 0x0, 1, 0x0, 1, 0, 32, .hro, [0], .any, (.lo 16), true⟩,
   ⟨0x1B00BC, 0x0, 1, 0x0, 1, 0, 16, .hro, [0], .any, .hi, true⟩,
   ⟨0x1B00C0, 0x0, 1, 0x0, 1, 0, 32, .hro, [0], .any, (.lo 16), true⟩,
   ⟨0x1B00C4, 0x0, 1, 0x0, 1, 0, 16, .hro, [0], .any, .hi, true⟩,
   ⟨0x1B00C8, 0x0, 1, 0x0, 1, 0, 32, .hro, [0], .any, (.lo 16), true⟩,
   ⟨0x1B00CC, 0x0, 1, 0x0, 1, 0, 16, .hro, [0], .any, .hi, true⟩,
   ⟨0x1B00D0, 0x0, 1, 0x0, 1, 0, 32, .hro, [0], .any, (.lo 16), true⟩,
   ⟨0x1B00D4, 0x0, 1, 0x0, 1, 0, 16, .hro, [0], .any, .hi, true⟩,
   ⟨0x1B00D8, 0x0, 1, 0x0, 1, 0, 32, .hro, [0], .any, (.lo 16), true⟩,
   ⟨0x1B00DC, 0x0, 1, 0x0, 1, 0, 16, .hro, [0], .any, .hi, true⟩,
   ⟨0x1B00E0, 0x0, 1, 0x0, 1, 0, 32, .hro, [0], .any, (.lo 16), true⟩,
   ⟨0x1B00E4, 0x0, 1, 0x0, 1, 0, 16, .hro, [0], .any, .hi, true⟩,
   ⟨0x1B00E8, 0x0, 1, 0x0, 1, 0, 32, .hro, [0], .any, (.lo 16), true⟩,
   ⟨0x1B00EC, 0x0, 1, 0x0, 1, 0, 16, .hro, [0], .any, .hi, true⟩,
   ⟨0x1B00F0, 0x0, 1, 0x0, 1, 0, 32, .hro, [0], .any, (.lo 16), true⟩,
   ⟨0x1B00F4, 0x0, 1, 0x0, 1, 0, 16, .hro, [0], .any, .hi, true⟩,
   ⟨0x1B00F8, 0x0, 1, 0x0, 1, 0, 32, .hro, [0], .any, (.lo 16), true⟩,
   ⟨0x1B00FC, 0x0, 1, 0x0, 1, 0, 16, .hro, [0], .any, .hi, true⟩]

/-- The register map of block NTS. -/
def rows : List Row := rows1 ++ rows2

end Sys2Proof.Machine.NTS

namespace Sys2Proof.Machine.KEY

/-- Table 14-8, KEY_STATUS BUSY [0:0], HRO: A commit or derivation is being written -/
def KEY_STATUS_BUSY : Fld := ⟨32 * 0x1C0000, 1, 0⟩
/-- Table 14-8, KEY_STATUS TAMPER [1:1], HRO: Sticky; R330 -/
def KEY_STATUS_TAMPER : Fld := ⟨32 * 0x1C0000 + 1, 1, 0⟩
/-- Table 14-8, KEY_STATUS KEEP_LOST [2:2], HRO: Sticky; R323 -/
def KEY_STATUS_KEEP_LOST : Fld := ⟨32 * 0x1C0000 + 2, 1, 0⟩
/-- Table 14-8, KEY_STATUS COMMIT_RESULT [5:3], HRO: Table 14-4, last commit -/
def KEY_STATUS_COMMIT_RESULT : Fld := ⟨32 * 0x1C0000 + 3, 3, 0⟩
/-- Table 14-8, KEY_STATUS PENDING [6:6], HRO: A commit or derivation waits for its edge -/
def KEY_STATUS_PENDING : Fld := ⟨32 * 0x1C0000 + 6, 1, 0⟩
/-- Table 14-8, KEY_STATUS IN_FLIGHT [16:8], HRO: R333 -/
def KEY_STATUS_IN_FLIGHT : Fld := ⟨32 * 0x1C0000 + 8, 9, 0⟩
/-- Table 14-8, KEY_STATUS SPARES [19:17], HRO: Spare AES pipelines available -/
def KEY_STATUS_SPARES : Fld := ⟨32 * 0x1C0000 + 17, 3, 2⟩
/-- Table 14-8, KEY_CTRL WRITE_EN [0:0], RWT: Commits accepted -/
def KEY_CTRL_WRITE_EN : Fld := ⟨32 * 0x1C0004, 1, 1⟩
/-- Table 14-8, KEY_CTRL DERIVE_EN [1:1], RWT: KEY_DERIVE accepted -/
def KEY_CTRL_DERIVE_EN : Fld := ⟨32 * 0x1C0004 + 1, 1, 1⟩
/-- Table 14-8, KEY_CTRL LOCK [2:2], RWT: Freeze the two enables until reset -/
def KEY_CTRL_LOCK : Fld := ⟨32 * 0x1C0004 + 2, 1, 0⟩
/-- Table 14-8, TAMPER_CAUSE PINS [3:0], HRO: TAMP0–TAMP3, last zeroisation -/
def TAMPER_CAUSE_PINS : Fld := ⟨32 * 0x1C0008, 4, 0⟩
/-- Table 14-8, TAMPER_CAUSE VOLT [4:4], HRO: Voltage monitor -/
def TAMPER_CAUSE_VOLT : Fld := ⟨32 * 0x1C0008 + 4, 1, 0⟩
/-- Table 14-8, TAMPER_CAUSE CLOCK [5:5], HRO: Clock monitor -/
def TAMPER_CAUSE_CLOCK : Fld := ⟨32 * 0x1C0008 + 5, 1, 0⟩
/-- Table 14-8, TAMPER_CAUSE TEMP [6:6], HRO: Temperature monitor -/
def TAMPER_CAUSE_TEMP : Fld := ⟨32 * 0x1C0008 + 6, 1, 0⟩
/-- Table 14-8, KEY_STAGEi K [31:0], WO: K[4i] to K[4i + 3], i = 0 to 7 -/
def KEY_STAGE (i : Nat) : Fld := ⟨32 * (0x1C0010 + 0x4 * i), 32, 0⟩
/-- Table 14-8, KEY_STAGE_Dj D [31:0], WO: Descriptor bytes 4j to 4j + 3, j = 0 to 3 -/
def KEY_STAGE_D (j : Nat) : Fld := ⟨32 * (0x1C0030 + 0x4 * j), 32, 0⟩
/-- Table 14-8, KEY_STAGE_CRC CRC [31:0], WO: R319 -/
def KEY_STAGE_CRC : Fld := ⟨32 * 0x1C0040, 32, 0⟩
/-- Table 14-8, KEY_COMMIT WORD [31:0], RWL: R319; reads return 0 -/
def KEY_COMMIT : Fld := ⟨32 * 0x1C0044, 32, 0⟩
/-- Table 14-8, PIPE_MAP MAP [23:0], HRO: 4 bits per logical pipeline 0–5: physical pipeline 0–7 -/
def PIPE_MAP_MAP : Fld := ⟨32 * 0x1C0050, 24, 5517840⟩
/-- Table 14-8, PIPE_MAP RETIRED [31:24], HRO: Bit k: physical pipeline k retired -/
def PIPE_MAP_RETIRED : Fld := ⟨32 * 0x1C0050 + 24, 8, 0⟩
/-- Table 14-8, SHADOW_CFG EN [0:0], RW: R334 -/
def SHADOW_CFG : Fld := ⟨32 * 0x1C0054, 1, 1⟩
/-- Table 14-8, PIPE_STAT SUSPECT [7:0], HRO: Bit k: physical pipeline k outvoted -/
def PIPE_STAT_SUSPECT : Fld := ⟨32 * 0x1C0058, 8, 0⟩
/-- Table 14-8, PIPE_STAT SHADOWED [10:8], HRO: Logical pipeline shadowed this sheet -/
def PIPE_STAT_SHADOWED : Fld := ⟨32 * 0x1C0058 + 8, 3, 0⟩
/-- Table 14-8, PIPE_STAT VOTING [11:11], HRO: Two spares shadowing -/
def PIPE_STAT_VOTING : Fld := ⟨32 * 0x1C0058 + 11, 1, 0⟩
/-- Table 14-8, COMMIT_CNT COUNT [47:0] over its _LO and _HI, HRO: Commits accepted -/
def COMMIT_CNT : Fld := ⟨32 * 0x1C0060, 48, 0⟩
/-- Table 14-8, COMMIT_REFUSE_CNT COUNT [47:0] over its _LO and _HI, HRO: Commits refused -/
def COMMIT_REFUSE_CNT : Fld := ⟨32 * 0x1C0068, 48, 0⟩
/-- Table 14-8, DERIVE_CNT COUNT [47:0] over its _LO and _HI, HRO: Derivations applied -/
def DERIVE_CNT : Fld := ⟨32 * 0x1C0070, 48, 0⟩
/-- Table 14-8, INVALIDATE_CNT COUNT [47:0] over its _LO and _HI, HRO: Invalidations applied -/
def INVALIDATE_CNT : Fld := ⟨32 * 0x1C0078, 48, 0⟩
/-- Table 14-8, USE_DENIED_CNT COUNT [47:0] over its _LO and _HI, HRO: R329 -/
def USE_DENIED_CNT : Fld := ⟨32 * 0x1C0080, 48, 0⟩
/-- Table 14-8, ZEROISE_CNT COUNT [47:0] over its _LO and _HI, HRO: R330 -/
def ZEROISE_CNT : Fld := ⟨32 * 0x1C0088, 48, 0⟩
/-- Table 14-8, ABORT_CNT COUNT [47:0] over its _LO and _HI, HRO: R330 -/
def ABORT_CNT : Fld := ⟨32 * 0x1C0090, 48, 0⟩
/-- Table 14-8, MISMATCH_CNT COUNT [47:0] over its _LO and _HI, HRO: R334 -/
def MISMATCH_CNT : Fld := ⟨32 * 0x1C0098, 48, 0⟩
/-- Table 14-8, KEY_DENY_CNT COUNT [47:0] over its _LO and _HI, HRO: R318 -/
def KEY_DENY_CNT : Fld := ⟨32 * 0x1C00A0, 48, 0⟩
/-- Table 14-8, OPS_CNT COUNT [47:0] over its _LO and _HI, HRO: Operations completed -/
def OPS_CNT : Fld := ⟨32 * 0x1C00A8, 48, 0⟩
/-- Table 14-8, SLOT_DESCs_0 D0 [31:0], HRO: Bytes 0–3 of Table 14-1 -/
def SLOT_DESC_0 (s : Nat) : Fld := ⟨32 * (0x1C1000 + 0x10 * s), 32, 0⟩
/-- Table 14-8, SLOT_DESCs_1 KEY_ID [31:0], HRO: Bytes 4–7 -/
def SLOT_DESC_1 (s : Nat) : Fld := ⟨32 * (0x1C1004 + 0x10 * s), 32, 0⟩
/-- Table 14-8, SLOT_DESCs_2 USES [31:0], HRO: Bytes 8–11 -/
def SLOT_DESC_2 (s : Nat) : Fld := ⟨32 * (0x1C1008 + 0x10 * s), 32, 0⟩
/-- Table 14-8, SLOT_DESCs_3 USES [15:0], HRO: Bytes 12–13 -/
def SLOT_DESC_3_USES (s : Nat) : Fld := ⟨32 * (0x1C100C + 0x10 * s), 16, 0⟩
/-- Table 14-8, SLOT_DESCs_3 DEPTH [23:16], HRO: Byte 14 -/
def SLOT_DESC_3_DEPTH (s : Nat) : Fld := ⟨32 * (0x1C100C + 0x10 * s) + 16, 8, 0⟩
/-- Table 14-8, SLOT_DESCs_3 WGEN [31:24], HRO: Byte 15 -/
def SLOT_DESC_3_WGEN (s : Nat) : Fld := ⟨32 * (0x1C100C + 0x10 * s) + 24, 8, 0⟩

/-- The register map of block KEY, part 1 of 2. -/
def rows1 : List Row :=
  [⟨0x1C0000, 0x0, 1, 0x0, 1, 0, 1, .hro, [0], .any, .whole, false⟩,
   ⟨0x1C0000, 0x0, 1, 0x0, 1, 1, 1, .hro, [0], .any, .whole, false⟩,
   ⟨0x1C0000, 0x0, 1, 0x0, 1, 2, 1, .hro, [0], .any, .whole, false⟩,
   ⟨0x1C0000, 0x0, 1, 0x0, 1, 3, 3, .hro, [0], .any, .whole, false⟩,
   ⟨0x1C0000, 0x0, 1, 0x0, 1, 6, 1, .hro, [0], .any, .whole, false⟩,
   ⟨0x1C0000, 0x0, 1, 0x0, 1, 8, 9, .hro, [0], .any, .whole, false⟩,
   ⟨0x1C0000, 0x0, 1, 0x0, 1, 17, 3, .hro, [2], .any, .whole, false⟩,
   ⟨0x1C0004, 0x0, 1, 0x0, 1, 0, 1, .rwt, [1], .any, .whole, false⟩,
   ⟨0x1C0004, 0x0, 1, 0x0, 1, 1, 1, .rwt, [1], .any, .whole, false⟩,
   ⟨0x1C0004, 0x0, 1, 0x0, 1, 2, 1, .rwt, [0], .any, .whole, false⟩,
   ⟨0x1C0008, 0x0, 1, 0x0, 1, 0, 4, .hro, [0], .any, .whole, false⟩,
   ⟨0x1C0008, 0x0, 1, 0x0, 1, 4, 1, .hro, [0], .any, .whole, false⟩,
   ⟨0x1C0008, 0x0, 1, 0x0, 1, 5, 1, .hro, [0], .any, .whole, false⟩,
   ⟨0x1C0008, 0x0, 1, 0x0, 1, 6, 1, .hro, [0], .any, .whole, false⟩,
   ⟨0x1C0010, 0x4, 8, 0x0, 1, 0, 32, .wo, [0], .any, .whole, false⟩,
   ⟨0x1C0030, 0x4, 4, 0x0, 1, 0, 32, .wo, [0], .any, .whole, false⟩,
   ⟨0x1C0040, 0x0, 1, 0x0, 1, 0, 32, .wo, [0], .any, .whole, false⟩,
   ⟨0x1C0044, 0x0, 1, 0x0, 1, 0, 32, .rwl, [0], .any, .whole, false⟩,
   ⟨0x1C0050, 0x0, 1, 0x0, 1, 0, 24, .hro, [5517840], .any, .whole, false⟩,
   ⟨0x1C0050, 0x0, 1, 0x0, 1, 24, 8, .hro, [0], .any, .whole, false⟩,
   ⟨0x1C0054, 0x0, 1, 0x0, 1, 0, 1, .rw, [1], .any, .whole, false⟩,
   ⟨0x1C0058, 0x0, 1, 0x0, 1, 0, 8, .hro, [0], .any, .whole, false⟩,
   ⟨0x1C0058, 0x0, 1, 0x0, 1, 8, 3, .hro, [0], .any, .whole, false⟩,
   ⟨0x1C0058, 0x0, 1, 0x0, 1, 11, 1, .hro, [0], .any, .whole, false⟩,
   ⟨0x1C0060, 0x0, 1, 0x0, 1, 0, 32, .hro, [0], .any, (.lo 16), true⟩,
   ⟨0x1C0064, 0x0, 1, 0x0, 1, 0, 16, .hro, [0], .any, .hi, true⟩,
   ⟨0x1C0068, 0x0, 1, 0x0, 1, 0, 32, .hro, [0], .any, (.lo 16), true⟩,
   ⟨0x1C006C, 0x0, 1, 0x0, 1, 0, 16, .hro, [0], .any, .hi, true⟩,
   ⟨0x1C0070, 0x0, 1, 0x0, 1, 0, 32, .hro, [0], .any, (.lo 16), true⟩,
   ⟨0x1C0074, 0x0, 1, 0x0, 1, 0, 16, .hro, [0], .any, .hi, true⟩]

/-- The register map of block KEY, part 2 of 2. -/
def rows2 : List Row :=
  [⟨0x1C0078, 0x0, 1, 0x0, 1, 0, 32, .hro, [0], .any, (.lo 16), true⟩,
   ⟨0x1C007C, 0x0, 1, 0x0, 1, 0, 16, .hro, [0], .any, .hi, true⟩,
   ⟨0x1C0080, 0x0, 1, 0x0, 1, 0, 32, .hro, [0], .any, (.lo 16), true⟩,
   ⟨0x1C0084, 0x0, 1, 0x0, 1, 0, 16, .hro, [0], .any, .hi, true⟩,
   ⟨0x1C0088, 0x0, 1, 0x0, 1, 0, 32, .hro, [0], .any, (.lo 16), true⟩,
   ⟨0x1C008C, 0x0, 1, 0x0, 1, 0, 16, .hro, [0], .any, .hi, true⟩,
   ⟨0x1C0090, 0x0, 1, 0x0, 1, 0, 32, .hro, [0], .any, (.lo 16), true⟩,
   ⟨0x1C0094, 0x0, 1, 0x0, 1, 0, 16, .hro, [0], .any, .hi, true⟩,
   ⟨0x1C0098, 0x0, 1, 0x0, 1, 0, 32, .hro, [0], .any, (.lo 16), true⟩,
   ⟨0x1C009C, 0x0, 1, 0x0, 1, 0, 16, .hro, [0], .any, .hi, true⟩,
   ⟨0x1C00A0, 0x0, 1, 0x0, 1, 0, 32, .hro, [0], .any, (.lo 16), true⟩,
   ⟨0x1C00A4, 0x0, 1, 0x0, 1, 0, 16, .hro, [0], .any, .hi, true⟩,
   ⟨0x1C00A8, 0x0, 1, 0x0, 1, 0, 32, .hro, [0], .any, (.lo 16), true⟩,
   ⟨0x1C00AC, 0x0, 1, 0x0, 1, 0, 16, .hro, [0], .any, .hi, true⟩,
   ⟨0x1C1000, 0x10, 256, 0x0, 1, 0, 32, .hro, [0], .any, .whole, false⟩,
   ⟨0x1C1004, 0x10, 256, 0x0, 1, 0, 32, .hro, [0], .any, .whole, false⟩,
   ⟨0x1C1008, 0x10, 256, 0x0, 1, 0, 32, .hro, [0], .any, .whole, false⟩,
   ⟨0x1C100C, 0x10, 256, 0x0, 1, 0, 16, .hro, [0], .any, .whole, false⟩,
   ⟨0x1C100C, 0x10, 256, 0x0, 1, 16, 8, .hro, [0], .any, .whole, false⟩,
   ⟨0x1C100C, 0x10, 256, 0x0, 1, 24, 8, .hro, [0], .any, .whole, false⟩]

/-- The register map of block KEY. -/
def rows : List Row := rows1 ++ rows2

end Sys2Proof.Machine.KEY

namespace Sys2Proof.Machine.COUCH

/-- Table 15-10, PAIR_STATUS ROLE [1:0], HRO: 0 none, 1 active, 2 standby -/
def PAIR_STATUS_ROLE : Fld := ⟨32 * 0x1D0000, 2, 0⟩
/-- Table 15-10, PAIR_STATUS LINK [3:2], HRO: 0 down, 1 training, 2 hello, 3 up -/
def PAIR_STATUS_LINK : Fld := ⟨32 * 0x1D0000 + 2, 2, 0⟩
/-- Table 15-10, PAIR_STATUS STATE [6:4], HRO: Table 15-5 -/
def PAIR_STATUS_STATE : Fld := ⟨32 * 0x1D0000 + 4, 3, 0⟩
/-- Table 15-10, PAIR_STATUS PROMOTABLE [7:7], HRO: R358 -/
def PAIR_STATUS_PROMOTABLE : Fld := ⟨32 * 0x1D0000 + 7, 1, 0⟩
/-- Table 15-10, PAIR_STATUS HB_OK [8:8], HRO: R355 -/
def PAIR_STATUS_HB_OK : Fld := ⟨32 * 0x1D0000 + 8, 1, 0⟩
/-- Table 15-10, PAIR_STATUS HB_WIRE [9:9], HRO: R355 -/
def PAIR_STATUS_HB_WIRE : Fld := ⟨32 * 0x1D0000 + 9, 1, 0⟩
/-- Table 15-10, PAIR_STATUS ACT_I [10:10], HRO: PAIR_ACT_I level -/
def PAIR_STATUS_ACT_I : Fld := ⟨32 * 0x1D0000 + 10, 1, 0⟩
/-- Table 15-10, PAIR_STATUS ARB [11:11], HRO: ARB_IN level -/
def PAIR_STATUS_ARB : Fld := ⟨32 * 0x1D0000 + 11, 1, 0⟩
/-- Table 15-10, PAIR_STATUS CFG_DIFFER [12:12], HRO: R354 -/
def PAIR_STATUS_CFG_DIFFER : Fld := ⟨32 * 0x1D0000 + 12, 1, 0⟩
/-- Table 15-10, PAIR_STATUS KEY_DIFFER [13:13], HRO: R354 -/
def PAIR_STATUS_KEY_DIFFER : Fld := ⟨32 * 0x1D0000 + 13, 1, 0⟩
/-- Table 15-10, PAIR_STATUS LAG [14:14], HRO: R347 -/
def PAIR_STATUS_LAG : Fld := ⟨32 * 0x1D0000 + 14, 1, 0⟩
/-- Table 15-10, PAIR_STATUS HELD [15:15], HRO: R363 -/
def PAIR_STATUS_HELD : Fld := ⟨32 * 0x1D0000 + 15, 1, 0⟩
/-- Table 15-10, PAIR_STATUS HANDOVER_PENDING [16:16], HRO: R360 -/
def PAIR_STATUS_HANDOVER_PENDING : Fld := ⟨32 * 0x1D0000 + 16, 1, 0⟩
/-- Table 15-10, PAIR_STATUS CONFLICT [17:17], HRO: R365 -/
def PAIR_STATUS_CONFLICT : Fld := ⟨32 * 0x1D0000 + 17, 1, 0⟩
/-- Table 15-10, PAIR_STATUS REF_BAD [18:18], HRO: Couch lane reference unusable (R342) -/
def PAIR_STATUS_REF_BAD : Fld := ⟨32 * 0x1D0000 + 18, 1, 0⟩
/-- Table 15-10, PAIR_CFG EN [0:0], RW: Pair operation -/
def PAIR_CFG_EN : Fld := ⟨32 * 0x1D0004, 1, 0⟩
/-- Table 15-10, PAIR_CFG PRIO [1:1], RW: R365 -/
def PAIR_CFG_PRIO : Fld := ⟨32 * 0x1D0004 + 1, 1, 0⟩
/-- Table 15-10, PAIR_CFG FAULT_HANDOVER [2:2], RW: R360 -/
def PAIR_CFG_FAULT_HANDOVER : Fld := ⟨32 * 0x1D0004 + 2, 1, 1⟩
/-- Table 15-10, PAIR_CFG AUTO_PROMOTE [3:3], RW: Table 15-5 -/
def PAIR_CFG_AUTO_PROMOTE : Fld := ⟨32 * 0x1D0004 + 3, 1, 1⟩
/-- Table 15-10, PAIR_CFG REF_CAL [5:4], RW: R342 -/
def PAIR_CFG_REF_CAL : Fld := ⟨32 * 0x1D0004 + 4, 2, 0⟩
/-- Table 15-10, PAIR_CFG ACT_CONFLICT [15:8], RW: Sheets, 1 to 255 -/
def PAIR_CFG_ACT_CONFLICT : Fld := ⟨32 * 0x1D0004 + 8, 8, 2⟩
/-- Table 15-10, PAIR_CFG SEQ_SKIP [31:16], RW: R364 -/
def PAIR_CFG_SEQ_SKIP : Fld := ⟨32 * 0x1D0004 + 16, 16, 64⟩
/-- Table 15-10, COUCH_ASYM PS [31:0], RWL: Signed (R353) -/
def COUCH_ASYM : Fld := ⟨32 * 0x1D0008, 32, 0⟩
/-- Table 15-10, PEER_DELAY PS [31:0], HRO: R353 -/
def PEER_DELAY : Fld := ⟨32 * 0x1D000C, 32, 0⟩
/-- Table 15-10, PEER_THETA_LO PS [39:0] over its _LO and _HI, HRO: Latest signed θ -/
def PEER_THETA : Fld := ⟨32 * 0x1D0010, 40, 0⟩
/-- Table 15-10, PEER_ENGINE_ID_LO ID [63:0] over its _LO and _HI, HRO: From HELLO -/
def PEER_ENGINE_ID : Fld := ⟨32 * 0x1D0018, 64, 0⟩
/-- Table 15-10, FILL_KIB KIB [19:0], HRO: Fill received or sent -/
def FILL_KIB : Fld := ⟨32 * 0x1D0020, 20, 0⟩
/-- Table 15-10, LAG_N N [15:0], HRO: Entries carried -/
def LAG_N : Fld := ⟨32 * 0x1D0024, 16, 0⟩
/-- Table 15-10, CFG_DIGEST CRC [31:0], HRO: Own -/
def CFG_DIGEST : Fld := ⟨32 * 0x1D0028, 32, 0⟩
/-- Table 15-10, PEER_CFG_DIGEST CRC [31:0], HRO: Peer's -/
def PEER_CFG_DIGEST : Fld := ⟨32 * 0x1D002C, 32, 0⟩
/-- Table 15-10, KEY_DIGEST CRC [31:0], HRO: Own -/
def KEY_DIGEST : Fld := ⟨32 * 0x1D0030, 32, 0⟩
/-- Table 15-10, PEER_KEY_DIGEST CRC [31:0], HRO: Peer's -/
def PEER_KEY_DIGEST : Fld := ⟨32 * 0x1D0034, 32, 0⟩
/-- Table 15-10, HANDOVER_SHEET_LO SHEET [63:0] over its _LO and _HI, HRO: Own sheet number of H -/
def HANDOVER_SHEET : Fld := ⟨32 * 0x1D0038, 64, 0⟩
/-- Table 15-10, DRILL_LEFT S [15:0], HRO: R364 -/
def DRILL_LEFT : Fld := ⟨32 * 0x1D0040, 16, 0⟩
/-- Table 15-10, FRAME_TX_CNT COUNT [47:0] over its _LO and _HI, HRO: Frames sent -/
def FRAME_TX_CNT : Fld := ⟨32 * 0x1D0080, 48, 0⟩
/-- Table 15-10, FRAME_RX_CNT COUNT [47:0] over its _LO and _HI, HRO: Frames received -/
def FRAME_RX_CNT : Fld := ⟨32 * 0x1D0088, 48, 0⟩
/-- Table 15-10, SEG_BAD_CNT COUNT [47:0] over its _LO and _HI, HRO: R343 -/
def SEG_BAD_CNT : Fld := ⟨32 * 0x1D0090, 48, 0⟩
/-- Table 15-10, DUAL_LATE_CNT COUNT [47:0] over its _LO and _HI, HRO: R349 -/
def DUAL_LATE_CNT : Fld := ⟨32 * 0x1D0098, 48, 0⟩
/-- Table 15-10, DUAL_SUPPRESS_CNT COUNT [47:0] over its _LO and _HI, HRO: R349 -/
def DUAL_SUPPRESS_CNT : Fld := ⟨32 * 0x1D00A0, 48, 0⟩
/-- Table 15-10, FLOW_OVF_CNT COUNT [47:0] over its _LO and _HI, HRO: R350 -/
def FLOW_OVF_CNT : Fld := ⟨32 * 0x1D00A8, 48, 0⟩
/-- Table 15-10, HB_LOSS_CNT COUNT [47:0] over its _LO and _HI, HRO: R355 -/
def HB_LOSS_CNT : Fld := ⟨32 * 0x1D00B0, 48, 0⟩
/-- Table 15-10, LINK_LOSS_CNT COUNT [47:0] over its _LO and _HI, HRO: Table 15-5 -/
def LINK_LOSS_CNT : Fld := ⟨32 * 0x1D00B8, 48, 0⟩
/-- Table 15-10, HANDOVER_CNT COUNT [47:0] over its _LO and _HI, HRO: R360 -/
def HANDOVER_CNT : Fld := ⟨32 * 0x1D00C0, 48, 0⟩
/-- Table 15-10, PROMOTE_CNT COUNT [47:0] over its _LO and _HI, HRO: R362 -/
def PROMOTE_CNT : Fld := ⟨32 * 0x1D00C8, 48, 0⟩
/-- Table 15-10, CONFLICT_CNT COUNT [47:0] over its _LO and _HI, HRO: R365 -/
def CONFLICT_CNT : Fld := ⟨32 * 0x1D00D0, 48, 0⟩
/-- Table 15-10, RESYNC_CNT COUNT [47:0] over its _LO and _HI, HRO: Resyncs started -/
def RESYNC_CNT : Fld := ⟨32 * 0x1D00D8, 48, 0⟩
/-- Table 15-10, MIRROR_RX_CNT COUNT [47:0] over its _LO and _HI, HRO: R351 -/
def MIRROR_RX_CNT : Fld := ⟨32 * 0x1D00E0, 48, 0⟩

/-- The register map of block COUCH, part 1 of 3. -/
def rows1 : List Row :=
  [⟨0x1D0000, 0x0, 1, 0x0, 1, 0, 2, .hro, [0], .any, .whole, false⟩,
   ⟨0x1D0000, 0x0, 1, 0x0, 1, 2, 2, .hro, [0], .any, .whole, false⟩,
   ⟨0x1D0000, 0x0, 1, 0x0, 1, 4, 3, .hro, [0], .any, .whole, false⟩,
   ⟨0x1D0000, 0x0, 1, 0x0, 1, 7, 1, .hro, [0], .any, .whole, false⟩,
   ⟨0x1D0000, 0x0, 1, 0x0, 1, 8, 1, .hro, [0], .any, .whole, false⟩,
   ⟨0x1D0000, 0x0, 1, 0x0, 1, 9, 1, .hro, [0], .any, .whole, false⟩,
   ⟨0x1D0000, 0x0, 1, 0x0, 1, 10, 1, .hro, [0], .any, .whole, false⟩,
   ⟨0x1D0000, 0x0, 1, 0x0, 1, 11, 1, .hro, [0], .any, .whole, false⟩,
   ⟨0x1D0000, 0x0, 1, 0x0, 1, 12, 1, .hro, [0], .any, .whole, false⟩,
   ⟨0x1D0000, 0x0, 1, 0x0, 1, 13, 1, .hro, [0], .any, .whole, false⟩,
   ⟨0x1D0000, 0x0, 1, 0x0, 1, 14, 1, .hro, [0], .any, .whole, false⟩,
   ⟨0x1D0000, 0x0, 1, 0x0, 1, 15, 1, .hro, [0], .any, .whole, false⟩,
   ⟨0x1D0000, 0x0, 1, 0x0, 1, 16, 1, .hro, [0], .any, .whole, false⟩,
   ⟨0x1D0000, 0x0, 1, 0x0, 1, 17, 1, .hro, [0], .any, .whole, false⟩,
   ⟨0x1D0000, 0x0, 1, 0x0, 1, 18, 1, .hro, [0], .any, .whole, false⟩,
   ⟨0x1D0004, 0x0, 1, 0x0, 1, 0, 1, .rw, [0], .any, .whole, false⟩,
   ⟨0x1D0004, 0x0, 1, 0x0, 1, 1, 1, .rw, [0], .any, .whole, false⟩,
   ⟨0x1D0004, 0x0, 1, 0x0, 1, 2, 1, .rw, [1], .any, .whole, false⟩,
   ⟨0x1D0004, 0x0, 1, 0x0, 1, 3, 1, .rw, [1], .any, .whole, false⟩,
   ⟨0x1D0004, 0x0, 1, 0x0, 1, 4, 2, .rw, [0], .any, .whole, false⟩,
   ⟨0x1D0004, 0x0, 1, 0x0, 1, 8, 8, .rw, [2], (.range 1 255), .whole, false⟩,
   ⟨0x1D0004, 0x0, 1, 0x0, 1, 16, 16, .rw, [64], .any, .whole, false⟩,
   ⟨0x1D0008, 0x0, 1, 0x0, 1, 0, 32, .rwl, [0], .any, .whole, false⟩,
   ⟨0x1D000C, 0x0, 1, 0x0, 1, 0, 32, .hro, [0], .any, .whole, false⟩,
   ⟨0x1D0010, 0x0, 1, 0x0, 1, 0, 32, .hro, [0], .any, (.lo 8), false⟩,
   ⟨0x1D0014, 0x0, 1, 0x0, 1, 0, 8, .hro, [0], .any, .hi, false⟩,
   ⟨0x1D0018, 0x0, 1, 0x0, 1, 0, 32, .hro, [0], .any, (.lo 32), false⟩,
   ⟨0x1D001C, 0x0, 1, 0x0, 1, 0, 32, .hro, [0], .any, .hi, false⟩,
   ⟨0x1D0020, 0x0, 1, 0x0, 1, 0, 20, .hro, [0], .any, .whole, false⟩,
   ⟨0x1D0024, 0x0, 1, 0x0, 1, 0, 16, .hro, [0], .any, .whole, false⟩]

/-- The register map of block COUCH, part 2 of 3. -/
def rows2 : List Row :=
  [⟨0x1D0028, 0x0, 1, 0x0, 1, 0, 32, .hro, [0], .any, .whole, false⟩,
   ⟨0x1D002C, 0x0, 1, 0x0, 1, 0, 32, .hro, [0], .any, .whole, false⟩,
   ⟨0x1D0030, 0x0, 1, 0x0, 1, 0, 32, .hro, [0], .any, .whole, false⟩,
   ⟨0x1D0034, 0x0, 1, 0x0, 1, 0, 32, .hro, [0], .any, .whole, false⟩,
   ⟨0x1D0038, 0x0, 1, 0x0, 1, 0, 32, .hro, [0], .any, (.lo 32), false⟩,
   ⟨0x1D003C, 0x0, 1, 0x0, 1, 0, 32, .hro, [0], .any, .hi, false⟩,
   ⟨0x1D0040, 0x0, 1, 0x0, 1, 0, 16, .hro, [0], .any, .whole, false⟩,
   ⟨0x1D0080, 0x0, 1, 0x0, 1, 0, 32, .hro, [0], .any, (.lo 16), true⟩,
   ⟨0x1D0084, 0x0, 1, 0x0, 1, 0, 16, .hro, [0], .any, .hi, true⟩,
   ⟨0x1D0088, 0x0, 1, 0x0, 1, 0, 32, .hro, [0], .any, (.lo 16), true⟩,
   ⟨0x1D008C, 0x0, 1, 0x0, 1, 0, 16, .hro, [0], .any, .hi, true⟩,
   ⟨0x1D0090, 0x0, 1, 0x0, 1, 0, 32, .hro, [0], .any, (.lo 16), true⟩,
   ⟨0x1D0094, 0x0, 1, 0x0, 1, 0, 16, .hro, [0], .any, .hi, true⟩,
   ⟨0x1D0098, 0x0, 1, 0x0, 1, 0, 32, .hro, [0], .any, (.lo 16), true⟩,
   ⟨0x1D009C, 0x0, 1, 0x0, 1, 0, 16, .hro, [0], .any, .hi, true⟩,
   ⟨0x1D00A0, 0x0, 1, 0x0, 1, 0, 32, .hro, [0], .any, (.lo 16), true⟩,
   ⟨0x1D00A4, 0x0, 1, 0x0, 1, 0, 16, .hro, [0], .any, .hi, true⟩,
   ⟨0x1D00A8, 0x0, 1, 0x0, 1, 0, 32, .hro, [0], .any, (.lo 16), true⟩,
   ⟨0x1D00AC, 0x0, 1, 0x0, 1, 0, 16, .hro, [0], .any, .hi, true⟩,
   ⟨0x1D00B0, 0x0, 1, 0x0, 1, 0, 32, .hro, [0], .any, (.lo 16), true⟩,
   ⟨0x1D00B4, 0x0, 1, 0x0, 1, 0, 16, .hro, [0], .any, .hi, true⟩,
   ⟨0x1D00B8, 0x0, 1, 0x0, 1, 0, 32, .hro, [0], .any, (.lo 16), true⟩,
   ⟨0x1D00BC, 0x0, 1, 0x0, 1, 0, 16, .hro, [0], .any, .hi, true⟩,
   ⟨0x1D00C0, 0x0, 1, 0x0, 1, 0, 32, .hro, [0], .any, (.lo 16), true⟩,
   ⟨0x1D00C4, 0x0, 1, 0x0, 1, 0, 16, .hro, [0], .any, .hi, true⟩,
   ⟨0x1D00C8, 0x0, 1, 0x0, 1, 0, 32, .hro, [0], .any, (.lo 16), true⟩,
   ⟨0x1D00CC, 0x0, 1, 0x0, 1, 0, 16, .hro, [0], .any, .hi, true⟩,
   ⟨0x1D00D0, 0x0, 1, 0x0, 1, 0, 32, .hro, [0], .any, (.lo 16), true⟩,
   ⟨0x1D00D4, 0x0, 1, 0x0, 1, 0, 16, .hro, [0], .any, .hi, true⟩,
   ⟨0x1D00D8, 0x0, 1, 0x0, 1, 0, 32, .hro, [0], .any, (.lo 16), true⟩]

/-- The register map of block COUCH, part 3 of 3. -/
def rows3 : List Row :=
  [⟨0x1D00DC, 0x0, 1, 0x0, 1, 0, 16, .hro, [0], .any, .hi, true⟩,
   ⟨0x1D00E0, 0x0, 1, 0x0, 1, 0, 32, .hro, [0], .any, (.lo 16), true⟩,
   ⟨0x1D00E4, 0x0, 1, 0x0, 1, 0, 16, .hro, [0], .any, .hi, true⟩]

/-- The register map of block COUCH. -/
def rows : List Row := rows1 ++ rows2 ++ rows3

end Sys2Proof.Machine.COUCH

namespace Sys2Proof.Machine.HIF

/-- Table 16-7, HIF_STATUS LINK_UP [0:0], HRO: PCIe link up -/
def HIF_STATUS_LINK_UP : Fld := ⟨32 * 0x1E0000, 1, 0⟩
/-- Table 16-7, HIF_STATUS SPEED [3:1], HRO: 1 2.5, 2 5, 3 8, 4 16 GT/s -/
def HIF_STATUS_SPEED : Fld := ⟨32 * 0x1E0000 + 1, 3, 0⟩
/-- Table 16-7, HIF_STATUS WIDTH [7:4], HRO: Lanes -/
def HIF_STATUS_WIDTH : Fld := ⟨32 * 0x1E0000 + 4, 4, 0⟩
/-- Table 16-7, HIF_STATUS PF0_BME [8:8], HRO: Bus Master Enable of PF0 -/
def HIF_STATUS_PF0_BME : Fld := ⟨32 * 0x1E0000 + 8, 1, 0⟩
/-- Table 16-7, HIF_STATUS PF1_BME [9:9], HRO: Bus Master Enable of PF1 -/
def HIF_STATUS_PF1_BME : Fld := ⟨32 * 0x1E0000 + 9, 1, 0⟩
/-- Table 16-7, HIF_STATUS EXT_TAG [10:10], HRO: R372 -/
def HIF_STATUS_EXT_TAG : Fld := ⟨32 * 0x1E0000 + 10, 1, 0⟩
/-- Table 16-7, HIF_STATUS MB_BUSY [11:11], HRO: R393 -/
def HIF_STATUS_MB_BUSY : Fld := ⟨32 * 0x1E0000 + 11, 1, 0⟩
/-- Table 16-7, HIF_CFG RX_STALL_SHEETS [7:0], RW: 1 to 255; 0 is ignored -/
def HIF_CFG_RX_STALL_SHEETS : Fld := ⟨32 * 0x1E0004, 8, 8⟩
/-- Table 16-7, HIF_CFG MSPI_SHARE [8:8], RW: R393 -/
def HIF_CFG_MSPI_SHARE : Fld := ⟨32 * 0x1E0004 + 8, 1, 0⟩
/-- Table 16-7, HIF_INFLIGHT CMDS [8:0], HRO: Commands outstanding -/
def HIF_INFLIGHT_CMDS : Fld := ⟨32 * 0x1E0008, 9, 0⟩
/-- Table 16-7, HIF_INFLIGHT READS [24:16], HRO: Read requests outstanding -/
def HIF_INFLIGHT_READS : Fld := ⟨32 * 0x1E0008 + 16, 9, 0⟩
/-- Table 16-7, EVT_STAGE FILL [12:0], HRO: Events staged (R379) -/
def EVT_STAGE : Fld := ⟨32 * 0x1E000C, 13, 0⟩
/-- Table 16-7, CMD_CNT COUNT [47:0] over its _LO and _HI, HRO: Commands completed -/
def CMD_CNT : Fld := ⟨32 * 0x1E0040, 48, 0⟩
/-- Table 16-7, CMD_DENIED_CNT COUNT [47:0] over its _LO and _HI, HRO: R384 -/
def CMD_DENIED_CNT : Fld := ⟨32 * 0x1E0048, 48, 0⟩
/-- Table 16-7, DOORBELL_BAD_CNT COUNT [47:0] over its _LO and _HI, HRO: R371, R375 -/
def DOORBELL_BAD_CNT : Fld := ⟨32 * 0x1E0050, 48, 0⟩
/-- Table 16-7, PF1_WRITE_DENY_CNT COUNT [47:0] over its _LO and _HI, HRO: R371 -/
def PF1_WRITE_DENY_CNT : Fld := ⟨32 * 0x1E0058, 48, 0⟩
/-- Table 16-7, RX_DISCARD_CNT COUNT [47:0] over its _LO and _HI, HRO: R390 -/
def RX_DISCARD_CNT : Fld := ⟨32 * 0x1E0060, 48, 0⟩
/-- Table 16-7, RX_HOLD_FULL_CNT COUNT [47:0] over its _LO and _HI, HRO: R390 -/
def RX_HOLD_FULL_CNT : Fld := ⟨32 * 0x1E0068, 48, 0⟩
/-- Table 16-7, RX_NO_RING_CNT COUNT [47:0] over its _LO and _HI, HRO: R390 -/
def RX_NO_RING_CNT : Fld := ⟨32 * 0x1E0070, 48, 0⟩
/-- Table 16-7, EVENT_DROP_CNT COUNT [47:0] over its _LO and _HI, HRO: R379 -/
def EVENT_DROP_CNT : Fld := ⟨32 * 0x1E0078, 48, 0⟩
/-- Table 16-7, MSPI_BAD_CNT COUNT [47:0] over its _LO and _HI, HRO: R392 -/
def MSPI_BAD_CNT : Fld := ⟨32 * 0x1E0080, 48, 0⟩
/-- Table 16-7, DMA_ERR_CNT COUNT [47:0] over its _LO and _HI, HRO: DMA errors of every kind -/
def DMA_ERR_CNT : Fld := ⟨32 * 0x1E0088, 48, 0⟩
/-- Table 16-7, RING_BASE_LOn ADDR [63:0] over its _LO and _HI, RW: Bits [4:0] ignored -/
def RING_BASE (n : Nat) : Fld := ⟨32 * (0x1E0100 + 0x20 * n), 64, 0⟩
/-- Table 16-7, RING_CFGn TYPE [3:0], RW: Table 16-3; 0 none -/
def RING_CFG_TYPE (n : Nat) : Fld := ⟨32 * (0x1E0108 + 0x20 * n), 4, 0⟩
/-- Table 16-7, RING_CFGn SIZE_LOG2 [8:4], RW: 6 to 16; other writes ignored -/
def RING_CFG_SIZE_LOG2 (n : Nat) : Fld := ⟨32 * (0x1E0108 + 0x20 * n) + 4, 5, 6⟩
/-- Table 16-7, RING_CFGn FN [9:9], RW: Owner: 0 PF0, 1 PF1 -/
def RING_CFG_FN (n : Nat) : Fld := ⟨32 * (0x1E0108 + 0x20 * n) + 9, 1, 0⟩
/-- Table 16-7, RING_CFGn VECTOR [15:10], RW: MSI-X vector -/
def RING_CFG_VECTOR (n : Nat) : Fld := ⟨32 * (0x1E0108 + 0x20 * n) + 10, 6, 0⟩
/-- Table 16-7, RING_CFGn PAIR [21:16], RW: Paired ring slot -/
def RING_CFG_PAIR (n : Nat) : Fld := ⟨32 * (0x1E0108 + 0x20 * n) + 16, 6, 0⟩
/-- Table 16-7, RING_CFGn PORT_MASK [29:22], RW: Bit p: port Pp -/
def RING_CFG_PORT_MASK (n : Nat) : Fld := ⟨32 * (0x1E0108 + 0x20 * n) + 22, 8, 0⟩
/-- Table 16-7, RING_CFGn IRQ_EN [30:30], RW: R380 -/
def RING_CFG_IRQ_EN (n : Nat) : Fld := ⟨32 * (0x1E0108 + 0x20 * n) + 30, 1, 0⟩
/-- Table 16-7, RING_CFGn ENABLE [31:31], RW: Ring enabled -/
def RING_CFG_ENABLE (n : Nat) : Fld := ⟨32 * (0x1E0108 + 0x20 * n) + 31, 1, 0⟩
/-- Table 16-7, RING_PRODn COUNT [31:0], HRO: Descriptors written -/
def RING_PROD (n : Nat) : Fld := ⟨32 * (0x1E010C + 0x20 * n), 32, 0⟩
/-- Table 16-7, RING_CONSn COUNT [31:0], HRO: Descriptors consumed -/
def RING_CONS (n : Nat) : Fld := ⟨32 * (0x1E0110 + 0x20 * n), 32, 0⟩
/-- Table 16-7, RING_STATn RUNNING [0:0], HRO: Enabled and not halted -/
def RING_STAT_RUNNING (n : Nat) : Fld := ⟨32 * (0x1E0114 + 0x20 * n), 1, 0⟩
/-- Table 16-7, RING_STATn HALTED [1:1], HRO: R377 -/
def RING_STAT_HALTED (n : Nat) : Fld := ⟨32 * (0x1E0114 + 0x20 * n) + 1, 1, 0⟩
/-- Table 16-7, RING_STATn ERR [4:2], HRO: Table 16-2 -/
def RING_STAT_ERR (n : Nat) : Fld := ⟨32 * (0x1E0114 + 0x20 * n) + 2, 3, 0⟩
/-- Table 16-7, RING_STATn FULL [5:5], HRO: No room (R379) -/
def RING_STAT_FULL (n : Nat) : Fld := ⟨32 * (0x1E0114 + 0x20 * n) + 5, 1, 0⟩
/-- Table 16-7, RING_MODn COUNT [15:0], RW: R380 -/
def RING_MOD_COUNT (n : Nat) : Fld := ⟨32 * (0x1E0118 + 0x20 * n), 16, 1⟩
/-- Table 16-7, RING_MODn TIME_US [31:16], RW: R380 -/
def RING_MOD_TIME_US (n : Nat) : Fld := ⟨32 * (0x1E0118 + 0x20 * n) + 16, 16, 0⟩

/-- The register map of block HIF, part 1 of 2. -/
def rows1 : List Row :=
  [⟨0x1E0000, 0x0, 1, 0x0, 1, 0, 1, .hro, [0], .any, .whole, false⟩,
   ⟨0x1E0000, 0x0, 1, 0x0, 1, 1, 3, .hro, [0], .any, .whole, false⟩,
   ⟨0x1E0000, 0x0, 1, 0x0, 1, 4, 4, .hro, [0], .any, .whole, false⟩,
   ⟨0x1E0000, 0x0, 1, 0x0, 1, 8, 1, .hro, [0], .any, .whole, false⟩,
   ⟨0x1E0000, 0x0, 1, 0x0, 1, 9, 1, .hro, [0], .any, .whole, false⟩,
   ⟨0x1E0000, 0x0, 1, 0x0, 1, 10, 1, .hro, [0], .any, .whole, false⟩,
   ⟨0x1E0000, 0x0, 1, 0x0, 1, 11, 1, .hro, [0], .any, .whole, false⟩,
   ⟨0x1E0004, 0x0, 1, 0x0, 1, 0, 8, .rw, [8], (.range 1 255), .whole, false⟩,
   ⟨0x1E0004, 0x0, 1, 0x0, 1, 8, 1, .rw, [0], .any, .whole, false⟩,
   ⟨0x1E0008, 0x0, 1, 0x0, 1, 0, 9, .hro, [0], .any, .whole, false⟩,
   ⟨0x1E0008, 0x0, 1, 0x0, 1, 16, 9, .hro, [0], .any, .whole, false⟩,
   ⟨0x1E000C, 0x0, 1, 0x0, 1, 0, 13, .hro, [0], .any, .whole, false⟩,
   ⟨0x1E0040, 0x0, 1, 0x0, 1, 0, 32, .hro, [0], .any, (.lo 16), true⟩,
   ⟨0x1E0044, 0x0, 1, 0x0, 1, 0, 16, .hro, [0], .any, .hi, true⟩,
   ⟨0x1E0048, 0x0, 1, 0x0, 1, 0, 32, .hro, [0], .any, (.lo 16), true⟩,
   ⟨0x1E004C, 0x0, 1, 0x0, 1, 0, 16, .hro, [0], .any, .hi, true⟩,
   ⟨0x1E0050, 0x0, 1, 0x0, 1, 0, 32, .hro, [0], .any, (.lo 16), true⟩,
   ⟨0x1E0054, 0x0, 1, 0x0, 1, 0, 16, .hro, [0], .any, .hi, true⟩,
   ⟨0x1E0058, 0x0, 1, 0x0, 1, 0, 32, .hro, [0], .any, (.lo 16), true⟩,
   ⟨0x1E005C, 0x0, 1, 0x0, 1, 0, 16, .hro, [0], .any, .hi, true⟩,
   ⟨0x1E0060, 0x0, 1, 0x0, 1, 0, 32, .hro, [0], .any, (.lo 16), true⟩,
   ⟨0x1E0064, 0x0, 1, 0x0, 1, 0, 16, .hro, [0], .any, .hi, true⟩,
   ⟨0x1E0068, 0x0, 1, 0x0, 1, 0, 32, .hro, [0], .any, (.lo 16), true⟩,
   ⟨0x1E006C, 0x0, 1, 0x0, 1, 0, 16, .hro, [0], .any, .hi, true⟩,
   ⟨0x1E0070, 0x0, 1, 0x0, 1, 0, 32, .hro, [0], .any, (.lo 16), true⟩,
   ⟨0x1E0074, 0x0, 1, 0x0, 1, 0, 16, .hro, [0], .any, .hi, true⟩,
   ⟨0x1E0078, 0x0, 1, 0x0, 1, 0, 32, .hro, [0], .any, (.lo 16), true⟩,
   ⟨0x1E007C, 0x0, 1, 0x0, 1, 0, 16, .hro, [0], .any, .hi, true⟩,
   ⟨0x1E0080, 0x0, 1, 0x0, 1, 0, 32, .hro, [0], .any, (.lo 16), true⟩,
   ⟨0x1E0084, 0x0, 1, 0x0, 1, 0, 16, .hro, [0], .any, .hi, true⟩]

/-- The register map of block HIF, part 2 of 2. -/
def rows2 : List Row :=
  [⟨0x1E0088, 0x0, 1, 0x0, 1, 0, 32, .hro, [0], .any, (.lo 16), true⟩,
   ⟨0x1E008C, 0x0, 1, 0x0, 1, 0, 16, .hro, [0], .any, .hi, true⟩,
   ⟨0x1E0100, 0x20, 64, 0x0, 1, 0, 32, .rw, [0], .any, (.lo 32), false⟩,
   ⟨0x1E0104, 0x20, 64, 0x0, 1, 0, 32, .rw, [0], .any, .hi, false⟩,
   ⟨0x1E0108, 0x20, 64, 0x0, 1, 0, 4, .rw, [0], (.range 0 10), .whole, false⟩,
   ⟨0x1E0108, 0x20, 64, 0x0, 1, 4, 5, .rw, [6], (.range 6 16), .whole, false⟩,
   ⟨0x1E0108, 0x20, 64, 0x0, 1, 9, 1, .rw, [0], .any, .whole, false⟩,
   ⟨0x1E0108, 0x20, 64, 0x0, 1, 10, 6, .rw, [0], .any, .whole, false⟩,
   ⟨0x1E0108, 0x20, 64, 0x0, 1, 16, 6, .rw, [0], .any, .whole, false⟩,
   ⟨0x1E0108, 0x20, 64, 0x0, 1, 22, 8, .rw, [0], .any, .whole, false⟩,
   ⟨0x1E0108, 0x20, 64, 0x0, 1, 30, 1, .rw, [0], .any, .whole, false⟩,
   ⟨0x1E0108, 0x20, 64, 0x0, 1, 31, 1, .rw, [0], .any, .whole, false⟩,
   ⟨0x1E010C, 0x20, 64, 0x0, 1, 0, 32, .hro, [0], .any, .whole, false⟩,
   ⟨0x1E0110, 0x20, 64, 0x0, 1, 0, 32, .hro, [0], .any, .whole, false⟩,
   ⟨0x1E0114, 0x20, 64, 0x0, 1, 0, 1, .hro, [0], .any, .whole, false⟩,
   ⟨0x1E0114, 0x20, 64, 0x0, 1, 1, 1, .hro, [0], .any, .whole, false⟩,
   ⟨0x1E0114, 0x20, 64, 0x0, 1, 2, 3, .hro, [0], .any, .whole, false⟩,
   ⟨0x1E0114, 0x20, 64, 0x0, 1, 5, 1, .hro, [0], .any, .whole, false⟩,
   ⟨0x1E0118, 0x20, 64, 0x0, 1, 0, 16, .rw, [1], .any, .whole, false⟩,
   ⟨0x1E0118, 0x20, 64, 0x0, 1, 16, 16, .rw, [0], .any, .whole, false⟩]

/-- The register map of block HIF. -/
def rows : List Row := rows1 ++ rows2

end Sys2Proof.Machine.HIF

namespace Sys2Proof.Machine.VAT

/-- Table 17-6, VAT_STATUS INIT_DONE [0:0], HRO: Vat initialised -/
def VAT_STATUS_INIT_DONE : Fld := ⟨32 * 0x1F0000, 1, 0⟩
/-- Table 17-6, VAT_STATUS SCRUB_RUN [1:1], HRO: Scrubber active this sheet -/
def VAT_STATUS_SCRUB_RUN : Fld := ⟨32 * 0x1F0000 + 1, 1, 0⟩
/-- Table 17-6, VAT_STATUS REPAIR_RUN [2:2], HRO: A repair copy runs -/
def VAT_STATUS_REPAIR_RUN : Fld := ⟨32 * 0x1F0000 + 2, 1, 0⟩
/-- Table 17-6, VAT_STATUS FUSE_FULL [3:3], HRO: R412 -/
def VAT_STATUS_FUSE_FULL : Fld := ⟨32 * 0x1F0000 + 3, 1, 0⟩
/-- Table 17-6, VAT_STATUS UNCORR [4:4], HRO: Sticky; R403 -/
def VAT_STATUS_UNCORR : Fld := ⟨32 * 0x1F0000 + 4, 1, 0⟩
/-- Table 17-6, VAT_STATUS DENY [5:5], HRO: Sticky; R405 -/
def VAT_STATUS_DENY : Fld := ⟨32 * 0x1F0000 + 5, 1, 0⟩
/-- Table 17-6, SCRUB_CFG EN [0:0], RW: R408 -/
def SCRUB_CFG_EN : Fld := ⟨32 * 0x1F0004, 1, 1⟩
/-- Table 17-6, SCRUB_CFG PAGES [15:8], RW: Pages per sheet, 1 to 255; 0 is ignored -/
def SCRUB_CFG_PAGES : Fld := ⟨32 * 0x1F0004 + 8, 8, 16⟩
/-- Table 17-6, SCRUB_POS PAGE [14:0], HRO: Next page -/
def SCRUB_POS : Fld := ⟨32 * 0x1F0008, 15, 0⟩
/-- Table 17-6, SCRUB_PASS_CNT COUNT [47:0] over its _LO and _HI, HRO: R408 -/
def SCRUB_PASS_CNT : Fld := ⟨32 * 0x1F0010, 48, 0⟩
/-- Table 17-6, WORD_CORR_CNT COUNT [47:0] over its _LO and _HI, HRO: R400 -/
def WORD_CORR_CNT : Fld := ⟨32 * 0x1F0018, 48, 0⟩
/-- Table 17-6, PAGE_CORR_CNT COUNT [47:0] over its _LO and _HI, HRO: R402 -/
def PAGE_CORR_CNT : Fld := ⟨32 * 0x1F0020, 48, 0⟩
/-- Table 17-6, UNCORR_CNT COUNT [47:0] over its _LO and _HI, HRO: R403 -/
def UNCORR_CNT : Fld := ⟨32 * 0x1F0028, 48, 0⟩
/-- Table 17-6, REGION_DENY_CNT COUNT [47:0] over its _LO and _HI, HRO: R405 -/
def REGION_DENY_CNT : Fld := ⟨32 * 0x1F0030, 48, 0⟩
/-- Table 17-6, RMW_CNT COUNT [47:0] over its _LO and _HI, HRO: Narrow writes (R404) -/
def RMW_CNT : Fld := ⟨32 * 0x1F0038, 48, 0⟩
/-- Table 17-6, FUSE_BAD_CNT COUNT [47:0] over its _LO and _HI, HRO: R412 -/
def FUSE_BAD_CNT : Fld := ⟨32 * 0x1F0040, 48, 0⟩
/-- Table 17-6, UNCORR_ADDR ADDR [26:0], HRO: Last uncorrectable access -/
def UNCORR_ADDR : Fld := ⟨32 * 0x1F0060, 27, 0⟩
/-- Table 17-6, UNCORR_MASTER MASTER [3:0], HRO: Table 17-1 -/
def UNCORR_MASTER : Fld := ⟨32 * 0x1F0064, 4, 0⟩
/-- Table 17-6, UNCORR_SHEET_LO SHEET [63:0] over its _LO and _HI, HRO: Sheet of that access -/
def UNCORR_SHEET : Fld := ⟨32 * 0x1F0068, 64, 0⟩
/-- Table 17-6, DENY_ADDR ADDR [26:0], HRO: Last denied access -/
def DENY_ADDR : Fld := ⟨32 * 0x1F0070, 27, 0⟩
/-- Table 17-6, DENY_MASTER MASTER [3:0], HRO: Table 17-1 -/
def DENY_MASTER_MASTER : Fld := ⟨32 * 0x1F0074, 4, 0⟩
/-- Table 17-6, DENY_MASTER WRITE [4:4], HRO: 1 for a write -/
def DENY_MASTER_WRITE : Fld := ⟨32 * 0x1F0074 + 4, 1, 0⟩
/-- Table 17-6, FUSE_USED N [4:0], HRO: Field entries written, 0 to 16 -/
def FUSE_USED : Fld := ⟨32 * 0x1F0080, 5, 0⟩
/-- Table 17-6, REG_BASEr BASE [10:0], RW: First 64 KiB unit (R406) -/
def REG_BASE (r : Nat) : Fld := ⟨32 * (0x1F0100 + 0x10 * r), 11, (rstAt [0, 1024, 1280, 1312, 1536, 1600, 1632, 1648, 1792, 1920, 1936, 1952, 1968, 1664, 1984, 0] r)⟩
/-- Table 17-6, REG_LIMITr LIMIT [10:0], RW: Last 64 KiB unit -/
def REG_LIMIT_LIMIT (r : Nat) : Fld := ⟨32 * (0x1F0104 + 0x10 * r), 11, (rstAt [1023, 1279, 1311, 1535, 1599, 1631, 1647, 1663, 1919, 1935, 1951, 1967, 1983, 1791, 2047, 0] r)⟩
/-- Table 17-6, REG_LIMITr EN [31:31], RW: Region enabled -/
def REG_LIMIT_EN (r : Nat) : Fld := ⟨32 * (0x1F0104 + 0x10 * r) + 31, 1, (rstAt [1, 1, 1, 1, 1, 1, 1, 1, 1, 1, 1, 1, 1, 1, 1, 0] r)⟩
/-- Table 17-6, PERM_Rm READ [15:0], RW: Bit r: read right in region r -/
def PERM_R (m : Nat) : Fld := ⟨32 * (0x1F0200 + 0x8 * m), 16, (rstAt [2, 64, 32, 32, 32, 512, 12, 5389, 2060, 12, 1283, 767, 0, 16, 0, 0] m)⟩
/-- Table 17-6, PERM_Wm WRITE [15:0], RW: Bit r: write right in region r -/
def PERM_W (m : Nat) : Fld := ⟨32 * (0x1F0204 + 0x8 * m), 16, (rstAt [0, 64, 0, 32, 32, 512, 12, 5389, 2060, 12, 1283, 175, 0, 16, 0, 0] m)⟩
/-- Table 17-6, BANK_CORR_CNTb COUNT [47:0] over its _LO and _HI, HRO: R400 -/
def BANK_CORR_CNT (b : Nat) : Fld := ⟨32 * (0x1F0400 + 0x10 * b), 48, 0⟩
/-- Table 17-6, BANK_HARDb COUNT [15:0], HRO: Hard errors, saturating at 65,535 (R410) -/
def BANK_HARD_COUNT (b : Nat) : Fld := ⟨32 * (0x1F0408 + 0x10 * b), 16, 0⟩
/-- Table 17-6, BANK_HARDb BANK_LASTCOL [29:16], HRO: Column of the last hard error -/
def BANK_HARD_BANK_LASTCOL (b : Nat) : Fld := ⟨32 * (0x1F0408 + 0x10 * b) + 16, 14, 0⟩
/-- Table 17-6, BANK_SPAREb IN_USE [3:0], HRO: Bit k: spare k in use -/
def BANK_SPARE_IN_USE (b : Nat) : Fld := ⟨32 * (0x1F040C + 0x10 * b), 4, 0⟩
/-- Table 17-6, BANK_SPAREb FAILED [7:4], HRO: Bit k: spare k retired -/
def BANK_SPARE_FAILED (b : Nat) : Fld := ⟨32 * (0x1F040C + 0x10 * b) + 4, 4, 0⟩
/-- Table 17-6, SPARE_COLb_k COLUMN [13:0], HRO: Column replaced -/
def SPARE_COL_COLUMN (b k : Nat) : Fld := ⟨32 * (0x1F0800 + 0x10 * b + 0x4 * k), 14, 0⟩
/-- Table 17-6, SPARE_COLb_k VALID [14:14], HRO: Repair in force -/
def SPARE_COL_VALID (b k : Nat) : Fld := ⟨32 * (0x1F0800 + 0x10 * b + 0x4 * k) + 14, 1, 0⟩
/-- Table 17-6, SPARE_COLb_k SOURCE [15:15], HRO: 0 factory, 1 field -/
def SPARE_COL_SOURCE (b k : Nat) : Fld := ⟨32 * (0x1F0800 + 0x10 * b + 0x4 * k) + 15, 1, 0⟩

/-- The register map of block VAT, part 1 of 2. -/
def rows1 : List Row :=
  [⟨0x1F0000, 0x0, 1, 0x0, 1, 0, 1, .hro, [0], .any, .whole, false⟩,
   ⟨0x1F0000, 0x0, 1, 0x0, 1, 1, 1, .hro, [0], .any, .whole, false⟩,
   ⟨0x1F0000, 0x0, 1, 0x0, 1, 2, 1, .hro, [0], .any, .whole, false⟩,
   ⟨0x1F0000, 0x0, 1, 0x0, 1, 3, 1, .hro, [0], .any, .whole, false⟩,
   ⟨0x1F0000, 0x0, 1, 0x0, 1, 4, 1, .hro, [0], .any, .whole, false⟩,
   ⟨0x1F0000, 0x0, 1, 0x0, 1, 5, 1, .hro, [0], .any, .whole, false⟩,
   ⟨0x1F0004, 0x0, 1, 0x0, 1, 0, 1, .rw, [1], .any, .whole, false⟩,
   ⟨0x1F0004, 0x0, 1, 0x0, 1, 8, 8, .rw, [16], (.range 1 255), .whole, false⟩,
   ⟨0x1F0008, 0x0, 1, 0x0, 1, 0, 15, .hro, [0], .any, .whole, false⟩,
   ⟨0x1F0010, 0x0, 1, 0x0, 1, 0, 32, .hro, [0], .any, (.lo 16), true⟩,
   ⟨0x1F0014, 0x0, 1, 0x0, 1, 0, 16, .hro, [0], .any, .hi, true⟩,
   ⟨0x1F0018, 0x0, 1, 0x0, 1, 0, 32, .hro, [0], .any, (.lo 16), true⟩,
   ⟨0x1F001C, 0x0, 1, 0x0, 1, 0, 16, .hro, [0], .any, .hi, true⟩,
   ⟨0x1F0020, 0x0, 1, 0x0, 1, 0, 32, .hro, [0], .any, (.lo 16), true⟩,
   ⟨0x1F0024, 0x0, 1, 0x0, 1, 0, 16, .hro, [0], .any, .hi, true⟩,
   ⟨0x1F0028, 0x0, 1, 0x0, 1, 0, 32, .hro, [0], .any, (.lo 16), true⟩,
   ⟨0x1F002C, 0x0, 1, 0x0, 1, 0, 16, .hro, [0], .any, .hi, true⟩,
   ⟨0x1F0030, 0x0, 1, 0x0, 1, 0, 32, .hro, [0], .any, (.lo 16), true⟩,
   ⟨0x1F0034, 0x0, 1, 0x0, 1, 0, 16, .hro, [0], .any, .hi, true⟩,
   ⟨0x1F0038, 0x0, 1, 0x0, 1, 0, 32, .hro, [0], .any, (.lo 16), true⟩,
   ⟨0x1F003C, 0x0, 1, 0x0, 1, 0, 16, .hro, [0], .any, .hi, true⟩,
   ⟨0x1F0040, 0x0, 1, 0x0, 1, 0, 32, .hro, [0], .any, (.lo 16), true⟩,
   ⟨0x1F0044, 0x0, 1, 0x0, 1, 0, 16, .hro, [0], .any, .hi, true⟩,
   ⟨0x1F0060, 0x0, 1, 0x0, 1, 0, 27, .hro, [0], .any, .whole, false⟩,
   ⟨0x1F0064, 0x0, 1, 0x0, 1, 0, 4, .hro, [0], .any, .whole, false⟩,
   ⟨0x1F0068, 0x0, 1, 0x0, 1, 0, 32, .hro, [0], .any, (.lo 32), false⟩,
   ⟨0x1F006C, 0x0, 1, 0x0, 1, 0, 32, .hro, [0], .any, .hi, false⟩,
   ⟨0x1F0070, 0x0, 1, 0x0, 1, 0, 27, .hro, [0], .any, .whole, false⟩,
   ⟨0x1F0074, 0x0, 1, 0x0, 1, 0, 4, .hro, [0], .any, .whole, false⟩,
   ⟨0x1F0074, 0x0, 1, 0x0, 1, 4, 1, .hro, [0], .any, .whole, false⟩]

/-- The register map of block VAT, part 2 of 2. -/
def rows2 : List Row :=
  [⟨0x1F0080, 0x0, 1, 0x0, 1, 0, 5, .hro, [0], .any, .whole, false⟩,
   ⟨0x1F0100, 0x10, 16, 0x0, 1, 0, 11, .rw, [0, 1024, 1280, 1312, 1536, 1600, 1632, 1648, 1792, 1920, 1936, 1952, 1968, 1664, 1984, 0], .any, .whole, false⟩,
   ⟨0x1F0104, 0x10, 16, 0x0, 1, 0, 11, .rw, [1023, 1279, 1311, 1535, 1599, 1631, 1647, 1663, 1919, 1935, 1951, 1967, 1983, 1791, 2047, 0], .any, .whole, false⟩,
   ⟨0x1F0104, 0x10, 16, 0x0, 1, 31, 1, .rw, [1, 1, 1, 1, 1, 1, 1, 1, 1, 1, 1, 1, 1, 1, 1, 0], .any, .whole, false⟩,
   ⟨0x1F0200, 0x8, 16, 0x0, 1, 0, 16, .rw, [2, 64, 32, 32, 32, 512, 12, 5389, 2060, 12, 1283, 767, 0, 16, 0, 0], .any, .whole, false⟩,
   ⟨0x1F0204, 0x8, 16, 0x0, 1, 0, 16, .rw, [0, 64, 0, 32, 32, 512, 12, 5389, 2060, 12, 1283, 175, 0, 16, 0, 0], .any, .whole, false⟩,
   ⟨0x1F0400, 0x10, 64, 0x0, 1, 0, 32, .hro, [0], .any, (.lo 16), true⟩,
   ⟨0x1F0404, 0x10, 64, 0x0, 1, 0, 16, .hro, [0], .any, .hi, true⟩,
   ⟨0x1F0408, 0x10, 64, 0x0, 1, 0, 16, .hro, [0], .any, .whole, false⟩,
   ⟨0x1F0408, 0x10, 64, 0x0, 1, 16, 14, .hro, [0], .any, .whole, false⟩,
   ⟨0x1F040C, 0x10, 64, 0x0, 1, 0, 4, .hro, [0], .any, .whole, false⟩,
   ⟨0x1F040C, 0x10, 64, 0x0, 1, 4, 4, .hro, [0], .any, .whole, false⟩,
   ⟨0x1F0800, 0x10, 64, 0x4, 4, 0, 14, .hro, [0], .any, .whole, false⟩,
   ⟨0x1F0800, 0x10, 64, 0x4, 4, 14, 1, .hro, [0], .any, .whole, false⟩,
   ⟨0x1F0800, 0x10, 64, 0x4, 4, 15, 1, .hro, [0], .any, .whole, false⟩]

/-- The register map of block VAT. -/
def rows : List Row := rows1 ++ rows2

end Sys2Proof.Machine.VAT

namespace Sys2Proof.Machine.IRQ

/-- Table 18-6, IRQ_STATUS PENDING [9:0], HRO: Sources pending -/
def IRQ_STATUS_PENDING : Fld := ⟨32 * 0x200000, 10, 0⟩
/-- Table 18-6, IRQ_STATUS INT_N [16:16], HRO: INT_N driven low -/
def IRQ_STATUS_INT_N : Fld := ⟨32 * 0x200000 + 16, 1, 0⟩
/-- Table 18-6, SPURIOUS_CNT COUNT [47:0] over its _LO and _HI, HRO: R421 -/
def SPURIOUS_CNT : Fld := ⟨32 * 0x200040, 48, 0⟩
/-- Table 18-6, COMPLETE_BAD_CNT COUNT [47:0] over its _LO and _HI, HRO: R422 -/
def COMPLETE_BAD_CNT : Fld := ⟨32 * 0x200048, 48, 0⟩
/-- Table 18-6, CLAIM_CNT COUNT [47:0] over its _LO and _HI, HRO: Claims returning a source -/
def CLAIM_CNT : Fld := ⟨32 * 0x200050, 48, 0⟩
/-- Table 18-6, VEC_CFGv EN [0:0], RW: Vector enabled -/
def VEC_CFG_EN (v : Nat) : Fld := ⟨32 * (0x200100 + 0x10 * v), 1, 0⟩
/-- Table 18-6, VEC_CFGv FN [1:1], RW: 0 PF0, 1 PF1; ignored for v = 64 (R424) -/
def VEC_CFG_FN (v : Nat) : Fld := ⟨32 * (0x200100 + 0x10 * v) + 1, 1, 0⟩
/-- Table 18-6, VEC_CFGv AUTO [2:2], RW: R423 -/
def VEC_CFG_AUTO (v : Nat) : Fld := ⟨32 * (0x200100 + 0x10 * v) + 2, 1, 0⟩
/-- Table 18-6, VEC_CLAIMv SOURCE [8:0], HRO: A read claims (R421) -/
def VEC_CLAIM_SOURCE (v : Nat) : Fld := ⟨32 * (0x200104 + 0x10 * v), 9, 0⟩
/-- Table 18-6, VEC_CLAIMv VALID [31:31], HRO: A source was claimed -/
def VEC_CLAIM_VALID (v : Nat) : Fld := ⟨32 * (0x200104 + 0x10 * v) + 31, 1, 0⟩
/-- Table 18-6, VEC_COMPLETEv SOURCE [8:0], WO: R422 -/
def VEC_COMPLETE (v : Nat) : Fld := ⟨32 * (0x200108 + 0x10 * v), 9, 0⟩
/-- Table 18-6, VEC_STATv STATE [1:0], HRO: 0 idle, 1 eligible, 2 in service -/
def VEC_STAT_STATE (v : Nat) : Fld := ⟨32 * (0x20010C + 0x10 * v), 2, 0⟩
/-- Table 18-6, VEC_STATv LEVEL [7:4], HRO: Highest group in service -/
def VEC_STAT_LEVEL (v : Nat) : Fld := ⟨32 * (0x20010C + 0x10 * v) + 4, 4, 15⟩
/-- Table 18-6, VEC_STATv DEPTH [12:8], HRO: Claims outstanding -/
def VEC_STAT_DEPTH (v : Nat) : Fld := ⟨32 * (0x20010C + 0x10 * v) + 8, 5, 0⟩
/-- Table 18-6, VEC_STATv PBA [13:13], HRO: Message held by masking (R420) -/
def VEC_STAT_PBA (v : Nat) : Fld := ⟨32 * (0x20010C + 0x10 * v) + 13, 1, 0⟩
/-- Table 18-6, SRC_CFGs VECTOR [6:0], RW: R416; HRO for s = 0–63 and 304 -/
def SRC_CFG_VECTOR (s : Nat) : Fld := ⟨32 * (0x201000 + 0x4 * s), 7, 0⟩
/-- Table 18-6, SRC_CFGs GROUP [10:7], RW: 0 highest -/
def SRC_CFG_GROUP (s : Nat) : Fld := ⟨32 * (0x201000 + 0x4 * s) + 7, 4, 8⟩
/-- Table 18-6, SRC_CFGs SUB [14:11], RW: 0 highest -/
def SRC_CFG_SUB (s : Nat) : Fld := ⟨32 * (0x201000 + 0x4 * s) + 11, 4, 0⟩
/-- Table 18-6, SRC_CFGs EN [15:15], RW: R416 -/
def SRC_CFG_EN (s : Nat) : Fld := ⟨32 * (0x201000 + 0x4 * s) + 15, 1, 0⟩
/-- Table 18-6, SRC_CFGs TRIG [16:16], HRO: 0 edge, 1 level -/
def SRC_CFG_TRIG (s : Nat) : Fld := ⟨32 * (0x201000 + 0x4 * s) + 16, 1, (rstAt [0, 0, 0, 0, 0, 0, 0, 0, 0, 0, 0, 0, 0, 0, 0, 0, 0, 0, 0, 0, 0, 0, 0, 0, 0, 0, 0, 0, 0, 0, 0, 0, 0, 0, 0, 0, 0, 0, 0, 0, 0, 0, 0, 0, 0, 0, 0, 0, 0, 0, 0, 0, 0, 0, 0, 0, 0, 0, 0, 0, 0, 0, 0, 0, 1, 1, 1, 1, 1, 1, 1, 1, 1, 1, 1, 1, 1, 1, 1, 1, 1, 1, 1, 1, 1, 1, 1, 1, 1, 1, 1, 1, 1, 1, 1, 1, 1, 1, 1, 1, 1, 1, 1, 1, 1, 1, 1, 1, 1, 1, 1, 1, 1, 1, 1, 1, 1, 1, 1, 1, 1, 1, 1, 1, 1, 1, 1, 1, 1, 1, 1, 1, 1, 1, 1, 1, 1, 1, 1, 1, 1, 1, 1, 1, 1, 1, 1, 1, 1, 1, 1, 1, 1, 1, 1, 1, 1, 1, 1, 1, 1, 1, 1, 1, 1, 1, 1, 1, 1, 1, 1, 1, 1, 1, 1, 1, 1, 1, 1, 1, 1, 1, 1, 1, 1, 1, 1, 1, 1, 1, 1, 1, 1, 1, 1, 1, 1, 1, 1, 1, 1, 1, 1, 1, 1, 1, 1, 1, 1, 1, 1, 1, 1, 1, 1, 1, 1, 1, 0, 0, 0, 0, 0, 0, 0, 0, 0, 0, 0, 0, 0, 0, 0, 0, 0, 0, 0, 0, 0, 0, 0, 0, 0, 0, 0, 0, 0, 0, 0, 0, 0, 0, 0, 0, 0, 0, 0, 0, 0, 0, 0, 0, 0, 0, 0, 0, 0, 0, 0, 0, 0, 0, 0, 0, 0, 0, 0, 0, 0, 0, 0, 0, 0, 0, 0, 0, 0, 0, 0, 0, 0, 0, 0, 0, 0, 0, 0, 0, 0, 0, 0, 0, 0, 0, 0, 0, 0, 0, 0, 0, 0, 0, 0, 0, 0, 0, 0, 0, 0, 0, 0, 0, 0, 0, 0, 0, 0, 0, 0, 0, 0, 0, 0, 0, 0, 0, 0, 0, 0, 0, 0, 0, 0, 0, 0, 0, 0, 0, 0, 0, 0, 0, 0, 0, 0, 0, 0, 0, 0, 0, 0, 0, 0, 0, 0, 0, 0, 0, 0, 0, 0, 0, 0, 0, 0, 0, 0, 0, 0, 0, 0, 0, 0, 0, 0, 0, 0, 0, 0, 0, 0, 0, 0, 0, 0, 0, 0, 0, 0, 0, 0, 0, 0, 0, 0, 0, 0, 0, 0, 0, 0, 0, 0, 0, 0, 0, 0, 0, 0, 0, 0, 0, 0, 0, 0, 0, 0, 0, 0, 0, 0, 0, 0, 0, 0, 0, 0, 0, 0, 0, 0, 0, 0, 0, 0, 0, 0, 0, 0, 0, 0, 0, 0, 0, 0, 0, 0, 0, 0, 0, 0, 0, 0, 0, 0, 0, 0, 0, 0, 0, 0, 0, 0, 0, 0, 0, 0, 0, 0, 0, 0, 0, 0, 0, 0, 0, 0, 0, 0, 0, 0, 0, 0, 0, 0, 0, 0, 0, 0, 0, 0, 0, 0, 0, 0, 0, 0, 0, 0, 0, 0, 0] s)⟩
/-- Table 18-6, SRC_CFGs FORCE [17:17], RW: R417 -/
def SRC_CFG_FORCE (s : Nat) : Fld := ⟨32 * (0x201000 + 0x4 * s) + 17, 1, 0⟩
/-- Table 18-6, SRC_CFGs PENDING [18:18], HRO: R415 -/
def SRC_CFG_PENDING (s : Nat) : Fld := ⟨32 * (0x201000 + 0x4 * s) + 18, 1, 0⟩
/-- Table 18-6, SRC_CFGs CLAIMED [19:19], HRO: R421 -/
def SRC_CFG_CLAIMED (s : Nat) : Fld := ⟨32 * (0x201000 + 0x4 * s) + 19, 1, 0⟩
/-- Table 18-6, SRC_CFGs RAW [20:20], HRO: Condition of a level source -/
def SRC_CFG_RAW (s : Nat) : Fld := ⟨32 * (0x201000 + 0x4 * s) + 20, 1, 0⟩

/-- The register map of block IRQ, part 1 of 1. -/
def rows1 : List Row :=
  [⟨0x200000, 0x0, 1, 0x0, 1, 0, 10, .hro, [0], .any, .whole, false⟩,
   ⟨0x200000, 0x0, 1, 0x0, 1, 16, 1, .hro, [0], .any, .whole, false⟩,
   ⟨0x200040, 0x0, 1, 0x0, 1, 0, 32, .hro, [0], .any, (.lo 16), true⟩,
   ⟨0x200044, 0x0, 1, 0x0, 1, 0, 16, .hro, [0], .any, .hi, true⟩,
   ⟨0x200048, 0x0, 1, 0x0, 1, 0, 32, .hro, [0], .any, (.lo 16), true⟩,
   ⟨0x20004C, 0x0, 1, 0x0, 1, 0, 16, .hro, [0], .any, .hi, true⟩,
   ⟨0x200050, 0x0, 1, 0x0, 1, 0, 32, .hro, [0], .any, (.lo 16), true⟩,
   ⟨0x200054, 0x0, 1, 0x0, 1, 0, 16, .hro, [0], .any, .hi, true⟩,
   ⟨0x200100, 0x10, 65, 0x0, 1, 0, 1, .rw, [0], .any, .whole, false⟩,
   ⟨0x200100, 0x10, 65, 0x0, 1, 1, 1, .rw, [0], .any, .whole, false⟩,
   ⟨0x200100, 0x10, 65, 0x0, 1, 2, 1, .rw, [0], .any, .whole, false⟩,
   ⟨0x200104, 0x10, 65, 0x0, 1, 0, 9, .hro, [0], .any, .whole, false⟩,
   ⟨0x200104, 0x10, 65, 0x0, 1, 31, 1, .hro, [0], .any, .whole, false⟩,
   ⟨0x200108, 0x10, 65, 0x0, 1, 0, 9, .wo, [0], .any, .whole, false⟩,
   ⟨0x20010C, 0x10, 65, 0x0, 1, 0, 2, .hro, [0], .any, .whole, false⟩,
   ⟨0x20010C, 0x10, 65, 0x0, 1, 4, 4, .hro, [15], .any, .whole, false⟩,
   ⟨0x20010C, 0x10, 65, 0x0, 1, 8, 5, .hro, [0], .any, .whole, false⟩,
   ⟨0x20010C, 0x10, 65, 0x0, 1, 13, 1, .hro, [0], .any, .whole, false⟩,
   ⟨0x201000, 0x4, 512, 0x0, 1, 0, 7, .rw, [0], (.range 0 64), .whole, false⟩,
   ⟨0x201000, 0x4, 512, 0x0, 1, 7, 4, .rw, [8], .any, .whole, false⟩,
   ⟨0x201000, 0x4, 512, 0x0, 1, 11, 4, .rw, [0], .any, .whole, false⟩,
   ⟨0x201000, 0x4, 512, 0x0, 1, 15, 1, .rw, [0], .any, .whole, false⟩,
   ⟨0x201000, 0x4, 512, 0x0, 1, 16, 1, .hro, [0, 0, 0, 0, 0, 0, 0, 0, 0, 0, 0, 0, 0, 0, 0, 0, 0, 0, 0, 0, 0, 0, 0, 0, 0, 0, 0, 0, 0, 0, 0, 0, 0, 0, 0, 0, 0, 0, 0, 0, 0, 0, 0, 0, 0, 0, 0, 0, 0, 0, 0, 0, 0, 0, 0, 0, 0, 0, 0, 0, 0, 0, 0, 0, 1, 1, 1, 1, 1, 1, 1, 1, 1, 1, 1, 1, 1, 1, 1, 1, 1, 1, 1, 1, 1, 1, 1, 1, 1, 1, 1, 1, 1, 1, 1, 1, 1, 1, 1, 1, 1, 1, 1, 1, 1, 1, 1, 1, 1, 1, 1, 1, 1, 1, 1, 1, 1, 1, 1, 1, 1, 1, 1, 1, 1, 1, 1, 1, 1, 1, 1, 1, 1, 1, 1, 1, 1, 1, 1, 1, 1, 1, 1, 1, 1, 1, 1, 1, 1, 1, 1, 1, 1, 1, 1, 1, 1, 1, 1, 1, 1, 1, 1, 1, 1, 1, 1, 1, 1, 1, 1, 1, 1, 1, 1, 1, 1, 1, 1, 1, 1, 1, 1, 1, 1, 1, 1, 1, 1, 1, 1, 1, 1, 1, 1, 1, 1, 1, 1, 1, 1, 1, 1, 1, 1, 1, 1, 1, 1, 1, 1, 1, 1, 1, 1, 1, 1, 1, 0, 0, 0, 0, 0, 0, 0, 0, 0, 0, 0, 0, 0, 0, 0, 0, 0, 0, 0, 0, 0, 0, 0, 0, 0, 0, 0, 0, 0, 0, 0, 0, 0, 0, 0, 0, 0, 0, 0, 0, 0, 0, 0, 0, 0, 0, 0, 0, 0, 0, 0, 0, 0, 0, 0, 0, 0, 0, 0, 0, 0, 0, 0, 0, 0, 0, 0, 0, 0, 0, 0, 0, 0, 0, 0, 0, 0, 0, 0, 0, 0, 0, 0, 0, 0, 0, 0, 0, 0, 0, 0, 0, 0, 0, 0, 0, 0, 0, 0, 0, 0, 0, 0, 0, 0, 0, 0, 0, 0, 0, 0, 0, 0, 0, 0, 0, 0, 0, 0, 0, 0, 0, 0, 0, 0, 0, 0, 0, 0, 0, 0, 0, 0, 0, 0, 0, 0, 0, 0, 0, 0, 0, 0, 0, 0, 0, 0, 0, 0, 0, 0, 0, 0, 0, 0, 0, 0, 0, 0, 0, 0, 0, 0, 0, 0, 0, 0, 0, 0, 0, 0, 0, 0, 0, 0, 0, 0, 0, 0, 0, 0, 0, 0, 0, 0, 0, 0, 0, 0, 0, 0, 0, 0, 0, 0, 0, 0, 0, 0, 0, 0, 0, 0, 0, 0, 0, 0, 0, 0, 0, 0, 0, 0, 0, 0, 0, 0, 0, 0, 0, 0, 0, 0, 0, 0, 0, 0, 0, 0, 0, 0, 0, 0, 0, 0, 0, 0, 0, 0, 0, 0, 0, 0, 0, 0, 0, 0, 0, 0, 0, 0, 0, 0, 0, 0, 0, 0, 0, 0, 0, 0, 0, 0, 0, 0, 0, 0, 0, 0, 0, 0, 0, 0, 0, 0, 0, 0, 0, 0, 0, 0, 0, 0, 0, 0, 0, 0, 0, 0, 0, 0, 0, 0, 0], .any, .whole, false⟩,
   ⟨0x201000, 0x4, 512, 0x0, 1, 17, 1, .rw, [0], .any, .whole, false⟩,
   ⟨0x201000, 0x4, 512, 0x0, 1, 18, 1, .hro, [0], .any, .whole, false⟩,
   ⟨0x201000, 0x4, 512, 0x0, 1, 19, 1, .hro, [0], .any, .whole, false⟩,
   ⟨0x201000, 0x4, 512, 0x0, 1, 20, 1, .hro, [0], .any, .whole, false⟩]

/-- The register map of block IRQ. -/
def rows : List Row := rows1

end Sys2Proof.Machine.IRQ

namespace Sys2Proof.Machine.FLT

/-- Table 18-7, FLT_STATUS STAGE [1:0], HRO: Table 18-4 -/
def FLT_STATUS_STAGE : Fld := ⟨32 * 0x210000, 2, 0⟩
/-- Table 18-7, FLT_STATUS TIMER_RUN [2:2], HRO: R430 -/
def FLT_STATUS_TIMER_RUN : Fld := ⟨32 * 0x210000 + 2, 1, 0⟩
/-- Table 18-7, FLT_STATUS FAULT_N [3:3], HRO: FAULT_N driven low -/
def FLT_STATUS_FAULT_N : Fld := ⟨32 * 0x210000 + 3, 1, 0⟩
/-- Table 18-7, FLT_STATUS PULSE [4:4], HRO: Pulse in progress -/
def FLT_STATUS_PULSE : Fld := ⟨32 * 0x210000 + 4, 1, 0⟩
/-- Table 18-7, FLT_STATUS ACTIVE_N [15:8], HRO: Active faults -/
def FLT_STATUS_ACTIVE_N : Fld := ⟨32 * 0x210000 + 8, 8, 0⟩
/-- Table 18-7, REACT_US US [23:0], RW: 1 to 16,777,215 µs; 0 is ignored -/
def REACT_US : Fld := ⟨32 * 0x210004, 24, 100000⟩
/-- Table 18-7, STAGE_US US [23:0], RW: 1 to 16,777,215 µs; 0 is ignored -/
def STAGE_US : Fld := ⟨32 * 0x210008, 24, 100000⟩
/-- Table 18-7, FAULTN_CFG PULSE_US [9:0], RW: 10 to 1,000 µs (R432) -/
def FAULTN_CFG_PULSE_US : Fld := ⟨32 * 0x21000C, 10, 10⟩
/-- Table 18-7, FAULTN_CFG HOLD [16:16], RW: R432 -/
def FAULTN_CFG_HOLD : Fld := ⟨32 * 0x21000C + 16, 1, 0⟩
/-- Table 18-7, FLT_ESC_CLEAR CLEAR [0:0], RWL: A write of 1 clears (Table 18-4); reads return 0 -/
def FLT_ESC_CLEAR : Fld := ⟨32 * 0x210010, 1, 0⟩
/-- Table 18-7, ESC_LOCKOUT_PREV LOCKOUT [15:0], HRO: R430 -/
def ESC_LOCKOUT_PREV : Fld := ⟨32 * 0x210014, 16, 0⟩
/-- Table 18-7, FLT_ACTIVEw ACTIVE [31:0], HRO: Bit: fault active -/
def FLT_ACTIVE (w : Nat) : Fld := ⟨32 * (0x210020 + 0x4 * w), 32, 0⟩
/-- Table 18-7, FLT_ACKw ACK [31:0], WO: R429 -/
def FLT_ACK (w : Nat) : Fld := ⟨32 * (0x210030 + 0x4 * w), 32, 0⟩
/-- Table 18-7, FLT_ACKEDw ACKED [31:0], HRO: R429 -/
def FLT_ACKED (w : Nat) : Fld := ⟨32 * (0x210040 + 0x4 * w), 32, 0⟩
/-- Table 18-7, FLT_WIREw WIRE [31:0], HRO: R426 -/
def FLT_WIRE (w : Nat) : Fld := ⟨32 * (0x210050 + 0x4 * w), 32, 0⟩
/-- Table 18-7, FLT_FORCE_ACTw FORCE [31:0], RW: R428 -/
def FLT_FORCE_ACT (w : Nat) : Fld := ⟨32 * (0x210060 + 0x4 * w), 32, 0⟩
/-- Table 18-7, FLT_FORCE_WIREw FORCE [31:0], RW: R428 -/
def FLT_FORCE_WIRE (w : Nat) : Fld := ⟨32 * (0x210070 + 0x4 * w), 32, 0⟩
/-- Table 18-7, ESC_CNT COUNT [47:0] over its _LO and _HI, HRO: R430 -/
def ESC_CNT : Fld := ⟨32 * 0x210080, 48, 0⟩
/-- Table 18-7, WIRE_CNT COUNT [47:0] over its _LO and _HI, HRO: R426 -/
def WIRE_CNT : Fld := ⟨32 * 0x210088, 48, 0⟩
/-- Table 18-7, FAULTN_CNT COUNT [47:0] over its _LO and _HI, HRO: R432 -/
def FAULTN_CNT : Fld := ⟨32 * 0x210090, 48, 0⟩
/-- Table 18-7, ESC_CLEAR_REFUSE_CNT COUNT [47:0] over its _LO and _HI, HRO: Table 18-4 -/
def ESC_CLEAR_REFUSE_CNT : Fld := ⟨32 * 0x210098, 48, 0⟩
/-- Table 18-7, FLT_CFGf ESC [1:0], RW: 0 to 3 -/
def FLT_CFG (f : Nat) : Fld := ⟨32 * (0x210100 + 0x4 * f), 2, (rstAt [1, 0, 0, 1, 0, 2, 0, 0, 2, 0, 0, 0, 0, 2, 3, 2, 3, 1, 0, 0, 0, 0, 3, 0, 0, 0, 0, 0, 0, 0, 0, 0, 0, 0, 0, 0, 0, 0, 0, 0, 0, 0, 0, 0, 0, 0, 0, 0, 0, 0, 0, 0, 0, 0, 0, 0, 0, 0, 0, 0, 0, 0, 0, 0, 0, 0, 0, 0, 0, 0, 0, 0, 0, 0, 0, 0, 0, 0, 0, 0, 0, 0, 0, 0, 0, 0, 0, 0, 0, 0, 0, 0, 0, 0, 0, 0, 0, 0, 0, 0, 0, 0, 0, 0, 0, 0, 0, 0, 0, 0, 0, 0, 0, 0, 0, 0, 0, 0, 0, 0, 0, 0, 0, 0, 0, 0, 0, 0] f)⟩
/-- Table 18-7, FLT_RAISE_CNTf COUNT [47:0] over its _LO and _HI, HRO: R427 -/
def FLT_RAISE_CNT (f : Nat) : Fld := ⟨32 * (0x210400 + 0x8 * f), 48, 0⟩

/-- The register map of block FLT, part 1 of 1. -/
def rows1 : List Row :=
  [⟨0x210000, 0x0, 1, 0x0, 1, 0, 2, .hro, [0], .any, .whole, false⟩,
   ⟨0x210000, 0x0, 1, 0x0, 1, 2, 1, .hro, [0], .any, .whole, false⟩,
   ⟨0x210000, 0x0, 1, 0x0, 1, 3, 1, .hro, [0], .any, .whole, false⟩,
   ⟨0x210000, 0x0, 1, 0x0, 1, 4, 1, .hro, [0], .any, .whole, false⟩,
   ⟨0x210000, 0x0, 1, 0x0, 1, 8, 8, .hro, [0], .any, .whole, false⟩,
   ⟨0x210004, 0x0, 1, 0x0, 1, 0, 24, .rw, [100000], (.range 1 16777215), .whole, false⟩,
   ⟨0x210008, 0x0, 1, 0x0, 1, 0, 24, .rw, [100000], (.range 1 16777215), .whole, false⟩,
   ⟨0x21000C, 0x0, 1, 0x0, 1, 0, 10, .rw, [10], (.range 10 1000), .whole, false⟩,
   ⟨0x21000C, 0x0, 1, 0x0, 1, 16, 1, .rw, [0], .any, .whole, false⟩,
   ⟨0x210010, 0x0, 1, 0x0, 1, 0, 1, .rwl, [0], .any, .whole, false⟩,
   ⟨0x210014, 0x0, 1, 0x0, 1, 0, 16, .hro, [0], .any, .whole, false⟩,
   ⟨0x210020, 0x4, 4, 0x0, 1, 0, 32, .hro, [0], .any, .whole, false⟩,
   ⟨0x210030, 0x4, 4, 0x0, 1, 0, 32, .wo, [0], .any, .whole, false⟩,
   ⟨0x210040, 0x4, 4, 0x0, 1, 0, 32, .hro, [0], .any, .whole, false⟩,
   ⟨0x210050, 0x4, 4, 0x0, 1, 0, 32, .hro, [0], .any, .whole, false⟩,
   ⟨0x210060, 0x4, 4, 0x0, 1, 0, 32, .rw, [0], .any, .whole, false⟩,
   ⟨0x210070, 0x4, 4, 0x0, 1, 0, 32, .rw, [0], .any, .whole, false⟩,
   ⟨0x210080, 0x0, 1, 0x0, 1, 0, 32, .hro, [0], .any, (.lo 16), true⟩,
   ⟨0x210084, 0x0, 1, 0x0, 1, 0, 16, .hro, [0], .any, .hi, true⟩,
   ⟨0x210088, 0x0, 1, 0x0, 1, 0, 32, .hro, [0], .any, (.lo 16), true⟩,
   ⟨0x21008C, 0x0, 1, 0x0, 1, 0, 16, .hro, [0], .any, .hi, true⟩,
   ⟨0x210090, 0x0, 1, 0x0, 1, 0, 32, .hro, [0], .any, (.lo 16), true⟩,
   ⟨0x210094, 0x0, 1, 0x0, 1, 0, 16, .hro, [0], .any, .hi, true⟩,
   ⟨0x210098, 0x0, 1, 0x0, 1, 0, 32, .hro, [0], .any, (.lo 16), true⟩,
   ⟨0x21009C, 0x0, 1, 0x0, 1, 0, 16, .hro, [0], .any, .hi, true⟩,
   ⟨0x210100, 0x4, 128, 0x0, 1, 0, 2, .rw, [1, 0, 0, 1, 0, 2, 0, 0, 2, 0, 0, 0, 0, 2, 3, 2, 3, 1, 0, 0, 0, 0, 3, 0, 0, 0, 0, 0, 0, 0, 0, 0, 0, 0, 0, 0, 0, 0, 0, 0, 0, 0, 0, 0, 0, 0, 0, 0, 0, 0, 0, 0, 0, 0, 0, 0, 0, 0, 0, 0, 0, 0, 0, 0, 0, 0, 0, 0, 0, 0, 0, 0, 0, 0, 0, 0, 0, 0, 0, 0, 0, 0, 0, 0, 0, 0, 0, 0, 0, 0, 0, 0, 0, 0, 0, 0, 0, 0, 0, 0, 0, 0, 0, 0, 0, 0, 0, 0, 0, 0, 0, 0, 0, 0, 0, 0, 0, 0, 0, 0, 0, 0, 0, 0, 0, 0, 0, 0], .any, .whole, false⟩,
   ⟨0x210400, 0x8, 128, 0x0, 1, 0, 32, .hro, [0], .any, (.lo 16), true⟩,
   ⟨0x210404, 0x8, 128, 0x0, 1, 0, 16, .hro, [0], .any, .hi, true⟩]

/-- The register map of block FLT. -/
def rows : List Row := rows1

end Sys2Proof.Machine.FLT

namespace Sys2Proof.Machine.REAM

/-- Table 20-11, REAM_STATUS REAM_LOSS [0:0], HRO: Sticky; R459 -/
def REAM_STATUS_REAM_LOSS : Fld := ⟨32 * 0x220000, 1, 0⟩
/-- Table 20-11, REAM_STATUS GAP_OPEN [1:1], HRO: A GAP entry is open -/
def REAM_STATUS_GAP_OPEN : Fld := ⟨32 * 0x220000 + 1, 1, 0⟩
/-- Table 20-11, REAM_STATUS FULL [2:2], HRO: Fewer than two slots free -/
def REAM_STATUS_FULL : Fld := ⟨32 * 0x220000 + 2, 1, 0⟩
/-- Table 20-11, REAM_CFG DRAIN_SRC [0:0], RW: 0 ring, 1 window -/
def REAM_CFG : Fld := ⟨32 * 0x220004, 1, 0⟩
/-- Table 20-11, REAM_UNDRAINED N [16:0], HRO: Undrained entries -/
def REAM_UNDRAINED : Fld := ⟨32 * 0x220008, 17, 0⟩
/-- Table 20-11, REAM_SEQ_LO SEQ [63:0] over its _LO and _HI, HRO: Next SEQ -/
def REAM_SEQ : Fld := ⟨32 * 0x220010, 64, 0⟩
/-- Table 20-11, REAM_POP POP [0:0], WO: R458 -/
def REAM_POP : Fld := ⟨32 * 0x220018, 1, 0⟩
/-- Table 20-11, REAM_LOST_CNT COUNT [47:0] over its _LO and _HI, HRO: Records lost -/
def REAM_LOST_CNT : Fld := ⟨32 * 0x220020, 48, 0⟩
/-- Table 20-11, GAP_CNT COUNT [47:0] over its _LO and _HI, HRO: GAP entries written -/
def GAP_CNT : Fld := ⟨32 * 0x220028, 48, 0⟩
/-- Table 20-11, REAM_WIN ENTRY [31:0], HRO: Oldest undrained entry -/
def REAM_WIN (i : Nat) : Fld := ⟨32 * (0x220100 + 0x4 * i), 32, 0⟩

/-- The register map of block REAM, part 1 of 1. -/
def rows1 : List Row :=
  [⟨0x220000, 0x0, 1, 0x0, 1, 0, 1, .hro, [0], .any, .whole, false⟩,
   ⟨0x220000, 0x0, 1, 0x0, 1, 1, 1, .hro, [0], .any, .whole, false⟩,
   ⟨0x220000, 0x0, 1, 0x0, 1, 2, 1, .hro, [0], .any, .whole, false⟩,
   ⟨0x220004, 0x0, 1, 0x0, 1, 0, 1, .rw, [0], .any, .whole, false⟩,
   ⟨0x220008, 0x0, 1, 0x0, 1, 0, 17, .hro, [0], .any, .whole, false⟩,
   ⟨0x220010, 0x0, 1, 0x0, 1, 0, 32, .hro, [0], .any, (.lo 32), false⟩,
   ⟨0x220014, 0x0, 1, 0x0, 1, 0, 32, .hro, [0], .any, .hi, false⟩,
   ⟨0x220018, 0x0, 1, 0x0, 1, 0, 1, .wo, [0], .any, .whole, false⟩,
   ⟨0x220020, 0x0, 1, 0x0, 1, 0, 32, .hro, [0], .any, (.lo 16), true⟩,
   ⟨0x220024, 0x0, 1, 0x0, 1, 0, 16, .hro, [0], .any, .hi, true⟩,
   ⟨0x220028, 0x0, 1, 0x0, 1, 0, 32, .hro, [0], .any, (.lo 16), true⟩,
   ⟨0x22002C, 0x0, 1, 0x0, 1, 0, 16, .hro, [0], .any, .hi, true⟩,
   ⟨0x220100, 0x4, 16, 0x0, 1, 0, 32, .hro, [0], .any, .whole, false⟩]

/-- The register map of block REAM. -/
def rows : List Row := rows1

end Sys2Proof.Machine.REAM

namespace Sys2Proof.Machine.PMU

/-- Table 20-8, PMU_CFG USER_EN [0:0], RW: R462 -/
def PMU_CFG : Fld := ⟨32 * 0x230000, 1, 0⟩
/-- Table 20-8, PMU_SELk EVENT [7:0], RW: Table 20-5 -/
def PMU_SEL_EVENT (k : Nat) : Fld := ⟨32 * (0x230100 + 0x10 * k), 8, 0⟩
/-- Table 20-8, PMU_SELk QUAL [15:8], RW: R460 -/
def PMU_SEL_QUAL (k : Nat) : Fld := ⟨32 * (0x230100 + 0x10 * k) + 8, 8, 255⟩
/-- Table 20-8, PMU_SELk EN [16:16], RW: Counting -/
def PMU_SEL_EN (k : Nat) : Fld := ⟨32 * (0x230100 + 0x10 * k) + 16, 1, 0⟩
/-- Table 20-8, PMU_CNTk COUNT [47:0] over its _LO and _HI, RW: Counter k -/
def PMU_CNT (k : Nat) : Fld := ⟨32 * (0x230104 + 0x10 * k), 48, 0⟩

/-- The register map of block PMU, part 1 of 1. -/
def rows1 : List Row :=
  [⟨0x230000, 0x0, 1, 0x0, 1, 0, 1, .rw, [0], .any, .whole, false⟩,
   ⟨0x230100, 0x10, 32, 0x0, 1, 0, 8, .rw, [0], (.range 0 15), .whole, false⟩,
   ⟨0x230100, 0x10, 32, 0x0, 1, 8, 8, .rw, [255], .any, .whole, false⟩,
   ⟨0x230100, 0x10, 32, 0x0, 1, 16, 1, .rw, [0], .any, .whole, false⟩,
   ⟨0x230104, 0x10, 32, 0x0, 1, 0, 32, .rw, [0], .any, (.lo 16), false⟩,
   ⟨0x230108, 0x10, 32, 0x0, 1, 0, 16, .rw, [0], .any, .hi, false⟩]

/-- The register map of block PMU. -/
def rows : List Row := rows1

end Sys2Proof.Machine.PMU

namespace Sys2Proof.Machine.SIZING

/-- Table 20-9, SIZ_STATUS BUSY [0:0], HRO: A load or read is in progress -/
def SIZ_STATUS_BUSY : Fld := ⟨32 * 0x240000, 1, 0⟩
/-- Table 20-9, SIZ_STATUS RESULT [3:1], HRO: 0 OK, 1 CRC, 2 ITEM, 3 LEN, 4 MODE, 5 BUSY -/
def SIZ_STATUS_RESULT : Fld := ⟨32 * 0x240000 + 1, 3, 0⟩
/-- Table 20-9, SIZ_STATUS RUNNING [4:4], HRO: A sizing command runs -/
def SIZ_STATUS_RUNNING : Fld := ⟨32 * 0x240000 + 4, 1, 0⟩
/-- Table 20-9, SIZ_UGEN GEN [30:0], HRO: UGEN -/
def SIZ_UGEN : Fld := ⟨32 * 0x240004, 31, 0⟩
/-- Table 20-9, SIZ_FGEN GEN [30:0], HRO: FGEN -/
def SIZ_FGEN : Fld := ⟨32 * 0x240008, 31, Config.fuseFgen⟩
/-- Table 20-9, SIZ_VALID0 CH [31:0], HRO: Bit n: user item of channel n valid -/
def SIZ_VALID0 : Fld := ⟨32 * 0x24000C, 32, 0⟩
/-- Table 20-9, SIZ_VALID1 CH [15:0], HRO: Bit n: channel 32 + n -/
def SIZ_VALID1_CH : Fld := ⟨32 * 0x240010, 16, 0⟩
/-- Table 20-9, SIZ_VALID1 PORT [23:16], HRO: Bit p: port p -/
def SIZ_VALID1_PORT : Fld := ⟨32 * 0x240010 + 16, 8, 0⟩
/-- Table 20-9, SIZ_VALID1 GNSS [24:24], HRO: Item 0x200 -/
def SIZ_VALID1_GNSS : Fld := ⟨32 * 0x240010 + 24, 1, 0⟩
/-- Table 20-9, SIZ_VALID1 POS [25:25], HRO: Item 0x201 -/
def SIZ_VALID1_POS : Fld := ⟨32 * 0x240010 + 25, 1, 0⟩
/-- Table 20-9, SIZ_ITEM ITEM [11:0], RW: Item to read -/
def SIZ_ITEM_ITEM : Fld := ⟨32 * 0x240014, 12, 0⟩
/-- Table 20-9, SIZ_ITEM BANK [12:12], RW: 0 factory, 1 user -/
def SIZ_ITEM_BANK : Fld := ⟨32 * 0x240014 + 12, 1, 1⟩
/-- Table 20-9, SIZ_LOAD ITEM [11:0], RWL: R466 -/
def SIZ_LOAD : Fld := ⟨32 * 0x240018, 12, 0⟩
/-- Table 20-9, SIZ_READ GO [0:0], WO: R466 -/
def SIZ_READ : Fld := ⟨32 * 0x24001C, 1, 0⟩
/-- Table 20-9, SIZ_BUF DATA [31:0], RW: Item buffer -/
def SIZ_BUF (i : Nat) : Fld := ⟨32 * (0x241000 + 0x4 * i), 32, 0⟩

/-- The register map of block SIZING, part 1 of 1. -/
def rows1 : List Row :=
  [⟨0x240000, 0x0, 1, 0x0, 1, 0, 1, .hro, [0], .any, .whole, false⟩,
   ⟨0x240000, 0x0, 1, 0x0, 1, 1, 3, .hro, [0], .any, .whole, false⟩,
   ⟨0x240000, 0x0, 1, 0x0, 1, 4, 1, .hro, [0], .any, .whole, false⟩,
   ⟨0x240004, 0x0, 1, 0x0, 1, 0, 31, .hro, [0], .any, .whole, false⟩,
   ⟨0x240008, 0x0, 1, 0x0, 1, 0, 31, .hro, [Config.fuseFgen], .any, .whole, false⟩,
   ⟨0x24000C, 0x0, 1, 0x0, 1, 0, 32, .hro, [0], .any, .whole, false⟩,
   ⟨0x240010, 0x0, 1, 0x0, 1, 0, 16, .hro, [0], .any, .whole, false⟩,
   ⟨0x240010, 0x0, 1, 0x0, 1, 16, 8, .hro, [0], .any, .whole, false⟩,
   ⟨0x240010, 0x0, 1, 0x0, 1, 24, 1, .hro, [0], .any, .whole, false⟩,
   ⟨0x240010, 0x0, 1, 0x0, 1, 25, 1, .hro, [0], .any, .whole, false⟩,
   ⟨0x240014, 0x0, 1, 0x0, 1, 0, 12, .rw, [0], .any, .whole, false⟩,
   ⟨0x240014, 0x0, 1, 0x0, 1, 12, 1, .rw, [1], .any, .whole, false⟩,
   ⟨0x240018, 0x0, 1, 0x0, 1, 0, 12, .rwl, [0], .any, .whole, false⟩,
   ⟨0x24001C, 0x0, 1, 0x0, 1, 0, 1, .wo, [0], .any, .whole, false⟩,
   ⟨0x241000, 0x4, 256, 0x0, 1, 0, 32, .rw, [0], .any, .whole, false⟩]

/-- The register map of block SIZING. -/
def rows : List Row := rows1

end Sys2Proof.Machine.SIZING

namespace Sys2Proof.Machine.SPARE

/-- Table 20-10, SPARE_STATUS PASS_RUN [0:0], HRO: A promotion pass runs -/
def SPARE_STATUS_PASS_RUN : Fld := ⟨32 * 0x250000, 1, 0⟩
/-- Table 20-10, SPARE_STATUS BIST_RUN [1:1], HRO: BIST runs -/
def SPARE_STATUS_BIST_RUN : Fld := ⟨32 * 0x250000 + 1, 1, 0⟩
/-- Table 20-10, SPARE_CFG AUTO [0:0], RW: R472 -/
def SPARE_CFG_AUTO : Fld := ⟨32 * 0x250004, 1, 1⟩
/-- Table 20-10, SPARE_CFG WEAR_THRESH [31:16], RW: ppm -/
def SPARE_CFG_WEAR_THRESH : Fld := ⟨32 * 0x250004 + 16, 16, 40000⟩
/-- Table 20-10, SPARE_LEFT VAT [8:0], HRO: Vat spare columns free, 0 to 256 -/
def SPARE_LEFT_VAT : Fld := ⟨32 * 0x250008, 9, Config.fuseSpareCols⟩
/-- Table 20-10, SPARE_LEFT AES [11:9], HRO: AES spares free -/
def SPARE_LEFT_AES : Fld := ⟨32 * 0x250008 + 9, 3, 2⟩
/-- Table 20-10, SPARE_LEFT LANES [15:12], HRO: Lanes that can still be given up -/
def SPARE_LEFT_LANES : Fld := ⟨32 * 0x250008 + 12, 4, 8⟩
/-- Table 20-10, SPARE_LEFT LINES [17:16], HRO: Spare delay lines free -/
def SPARE_LEFT_LINES : Fld := ⟨32 * 0x250008 + 16, 2, 2⟩
/-- Table 20-10, CAND VAT [7:0], HRO: Vat candidates, saturating -/
def CAND_VAT : Fld := ⟨32 * 0x25000C, 8, 0⟩
/-- Table 20-10, CAND AES [11:8], HRO: AES candidates -/
def CAND_AES : Fld := ⟨32 * 0x25000C + 8, 4, 0⟩
/-- Table 20-10, CAND LANES [19:12], HRO: Lane candidates -/
def CAND_LANES : Fld := ⟨32 * 0x25000C + 12, 8, 0⟩
/-- Table 20-10, CAND LINES [27:20], HRO: Delay-line candidates -/
def CAND_LINES : Fld := ⟨32 * 0x25000C + 20, 8, 0⟩
/-- Table 20-10, PROMOTE_CNT COUNT [47:0] over its _LO and _HI, HRO: R472 -/
def PROMOTE_CNT : Fld := ⟨32 * 0x250040, 48, 0⟩
/-- Table 20-10, BIST_FAIL_CNT COUNT [47:0] over its _LO and _HI, HRO: Units failed -/
def BIST_FAIL_CNT : Fld := ⟨32 * 0x250048, 48, 0⟩
/-- Table 20-10, WEARm PPM [15:0], HRO: R469 -/
def WEAR_PPM (m : Nat) : Fld := ⟨32 * (0x250400 + 0x4 * m), 16, 0⟩
/-- Table 20-10, WEARm PAST [16:16], HRO: Threshold reached -/
def WEAR_PAST (m : Nat) : Fld := ⟨32 * (0x250400 + 0x4 * m) + 16, 1, 0⟩
/-- Table 20-10, WEARm DUE [17:17], HRO: Awaiting BIST -/
def WEAR_DUE (m : Nat) : Fld := ⟨32 * (0x250400 + 0x4 * m) + 17, 1, 0⟩

/-- The register map of block SPARE, part 1 of 1. -/
def rows1 : List Row :=
  [⟨0x250000, 0x0, 1, 0x0, 1, 0, 1, .hro, [0], .any, .whole, false⟩,
   ⟨0x250000, 0x0, 1, 0x0, 1, 1, 1, .hro, [0], .any, .whole, false⟩,
   ⟨0x250004, 0x0, 1, 0x0, 1, 0, 1, .rw, [1], .any, .whole, false⟩,
   ⟨0x250004, 0x0, 1, 0x0, 1, 16, 16, .rw, [40000], .any, .whole, false⟩,
   ⟨0x250008, 0x0, 1, 0x0, 1, 0, 9, .hro, [Config.fuseSpareCols], .any, .whole, false⟩,
   ⟨0x250008, 0x0, 1, 0x0, 1, 9, 3, .hro, [2], .any, .whole, false⟩,
   ⟨0x250008, 0x0, 1, 0x0, 1, 12, 4, .hro, [8], .any, .whole, false⟩,
   ⟨0x250008, 0x0, 1, 0x0, 1, 16, 2, .hro, [2], .any, .whole, false⟩,
   ⟨0x25000C, 0x0, 1, 0x0, 1, 0, 8, .hro, [0], .any, .whole, false⟩,
   ⟨0x25000C, 0x0, 1, 0x0, 1, 8, 4, .hro, [0], .any, .whole, false⟩,
   ⟨0x25000C, 0x0, 1, 0x0, 1, 12, 8, .hro, [0], .any, .whole, false⟩,
   ⟨0x25000C, 0x0, 1, 0x0, 1, 20, 8, .hro, [0], .any, .whole, false⟩,
   ⟨0x250040, 0x0, 1, 0x0, 1, 0, 32, .hro, [0], .any, (.lo 16), true⟩,
   ⟨0x250044, 0x0, 1, 0x0, 1, 0, 16, .hro, [0], .any, .hi, true⟩,
   ⟨0x250048, 0x0, 1, 0x0, 1, 0, 32, .hro, [0], .any, (.lo 16), true⟩,
   ⟨0x25004C, 0x0, 1, 0x0, 1, 0, 16, .hro, [0], .any, .hi, true⟩,
   ⟨0x250400, 0x4, 128, 0x0, 1, 0, 16, .hro, [0], .any, .whole, false⟩,
   ⟨0x250400, 0x4, 128, 0x0, 1, 16, 1, .hro, [0], .any, .whole, false⟩,
   ⟨0x250400, 0x4, 128, 0x0, 1, 17, 1, .hro, [0], .any, .whole, false⟩]

/-- The register map of block SPARE. -/
def rows : List Row := rows1

end Sys2Proof.Machine.SPARE

namespace Sys2Proof.Machine.KEEP

/-- Table 19-5, KEEP_STATUS BUSY [0:0], HRO: A posted write is in progress -/
def KEEP_STATUS_BUSY : Fld := ⟨32 * 0x260000, 1, 0⟩
/-- Table 19-5, KEEP_STATUS XTAL_OK [1:1], HRO: Crystal running -/
def KEEP_STATUS_XTAL_OK : Fld := ⟨32 * 0x260000 + 1, 1, 0⟩
/-- Table 19-5, KEEP_STATUS XTAL_UNBROKEN [2:2], HRO: R445 -/
def KEEP_STATUS_XTAL_UNBROKEN : Fld := ⟨32 * 0x260000 + 2, 1, 0⟩
/-- Table 19-5, KEEP_STATUS VKEEP_LOW [3:3], HRO: R444 -/
def KEEP_STATUS_VKEEP_LOW : Fld := ⟨32 * 0x260000 + 3, 1, 0⟩
/-- Table 19-5, KA_CNT_LO CNT [47:0] over its _LO and _HI, HRO: Keep-alive count -/
def KA_CNT : Fld := ⟨32 * 0x260004, 48, 0⟩
/-- Table 19-5, TAMP_CFG EN [3:0], RWL: Bit n: TAMPn enabled -/
def TAMP_CFG_EN : Fld := ⟨32 * 0x260010, 4, 0⟩
/-- Table 19-5, TAMP_CFG POL [7:4], RWL: Bit n: active level of TAMPn -/
def TAMP_CFG_POL : Fld := ⟨32 * 0x260010 + 4, 4, 0⟩
/-- Table 19-5, TAMP_CFG FILT [11:8], RWL: Keep-alive periods, 0 to 15 -/
def TAMP_CFG_FILT : Fld := ⟨32 * 0x260010 + 8, 4, 2⟩
/-- Table 19-5, TAMP_CFG MON_VOLT [16:16], RWL: Voltage trigger -/
def TAMP_CFG_MON_VOLT : Fld := ⟨32 * 0x260010 + 16, 1, 1⟩
/-- Table 19-5, TAMP_CFG MON_CLOCK [17:17], RWL: Clock trigger -/
def TAMP_CFG_MON_CLOCK : Fld := ⟨32 * 0x260010 + 17, 1, 1⟩
/-- Table 19-5, TAMP_CFG MON_TEMP [18:18], RWL: Temperature trigger -/
def TAMP_CFG_MON_TEMP : Fld := ⟨32 * 0x260010 + 18, 1, 1⟩
/-- Table 19-5, TAMP_CFG CORE_UV [19:19], RWL: R446 -/
def TAMP_CFG_CORE_UV : Fld := ⟨32 * 0x260010 + 19, 1, 0⟩
/-- Table 19-5, TAMP_PINS LEVEL [3:0], HRO: TAMP0–TAMP3 levels -/
def TAMP_PINS : Fld := ⟨32 * 0x260014, 4, 0⟩
/-- Table 19-5, TEMP_LIMITS TEMP_LOW [7:0], RWL: Signed °C; −55 -/
def TEMP_LIMITS_TEMP_LOW : Fld := ⟨32 * 0x260018, 8, 201⟩
/-- Table 19-5, TEMP_LIMITS TEMP_HIGH [15:8], RWL: Signed °C -/
def TEMP_LIMITS_TEMP_HIGH : Fld := ⟨32 * 0x260018 + 8, 8, 130⟩
/-- Table 19-5, VKEEP_MV MV [12:0], HRO: VKEEP, measured each second while the core runs -/
def VKEEP_MV : Fld := ⟨32 * 0x26001C, 13, 0⟩
/-- Table 19-5, LATCH_TIMEi CNT [47:0] over its _LO and _HI, HRO: Keep-alive count of the first edge -/
def LATCH_TIME (i : Nat) : Fld := ⟨32 * (0x260020 + 0x8 * i), 48, 0⟩
/-- Table 19-5, LATCH_STATi EDGES [23:16], HRO: Edges captured, saturating at 255 -/
def LATCH_STAT_EDGES (i : Nat) : Fld := ⟨32 * (0x260024 + 0x8 * i) + 16, 8, 0⟩
/-- Table 19-5, LATCH_STATi SET [24:24], HRO: The latch had captured an edge -/
def LATCH_STAT_SET (i : Nat) : Fld := ⟨32 * (0x260024 + 0x8 * i) + 24, 1, 0⟩

/-- The register map of block KEEP, part 1 of 1. -/
def rows1 : List Row :=
  [⟨0x260000, 0x0, 1, 0x0, 1, 0, 1, .hro, [0], .any, .whole, false⟩,
   ⟨0x260000, 0x0, 1, 0x0, 1, 1, 1, .hro, [0], .any, .whole, false⟩,
   ⟨0x260000, 0x0, 1, 0x0, 1, 2, 1, .hro, [0], .any, .whole, false⟩,
   ⟨0x260000, 0x0, 1, 0x0, 1, 3, 1, .hro, [0], .any, .whole, false⟩,
   ⟨0x260004, 0x0, 1, 0x0, 1, 0, 32, .hro, [0], .any, (.lo 16), false⟩,
   ⟨0x260008, 0x0, 1, 0x0, 1, 0, 16, .hro, [0], .any, .hi, false⟩,
   ⟨0x260010, 0x0, 1, 0x0, 1, 0, 4, .rwl, [0], .any, .whole, false⟩,
   ⟨0x260010, 0x0, 1, 0x0, 1, 4, 4, .rwl, [0], .any, .whole, false⟩,
   ⟨0x260010, 0x0, 1, 0x0, 1, 8, 4, .rwl, [2], .any, .whole, false⟩,
   ⟨0x260010, 0x0, 1, 0x0, 1, 16, 1, .rwl, [1], .any, .whole, false⟩,
   ⟨0x260010, 0x0, 1, 0x0, 1, 17, 1, .rwl, [1], .any, .whole, false⟩,
   ⟨0x260010, 0x0, 1, 0x0, 1, 18, 1, .rwl, [1], .any, .whole, false⟩,
   ⟨0x260010, 0x0, 1, 0x0, 1, 19, 1, .rwl, [0], .any, .whole, false⟩,
   ⟨0x260014, 0x0, 1, 0x0, 1, 0, 4, .hro, [0], .any, .whole, false⟩,
   ⟨0x260018, 0x0, 1, 0x0, 1, 0, 8, .rwl, [201], .any, .whole, false⟩,
   ⟨0x260018, 0x0, 1, 0x0, 1, 8, 8, .rwl, [130], .any, .whole, false⟩,
   ⟨0x26001C, 0x0, 1, 0x0, 1, 0, 13, .hro, [0], .any, .whole, false⟩,
   ⟨0x260020, 0x8, 16, 0x0, 1, 0, 32, .hro, [0], .any, (.lo 16), false⟩,
   ⟨0x260024, 0x8, 16, 0x0, 1, 0, 16, .hro, [0], .any, .hi, false⟩,
   ⟨0x260024, 0x8, 16, 0x0, 1, 16, 8, .hro, [0], .any, .whole, false⟩,
   ⟨0x260024, 0x8, 16, 0x0, 1, 24, 1, .hro, [0], .any, .whole, false⟩]

/-- The register map of block KEEP. -/
def rows : List Row := rows1

end Sys2Proof.Machine.KEEP

namespace Sys2Proof.Machine

/-- The blocks of Table 1-1 in its order: base of the BAR0 window and register map (R13). -/
def blocks : List (Nat × List Row) :=
  [(0x0, GLB.rows),
   (0x10000, LEDGER.rows),
   (0x20000, SHEET.rows),
   (0x30000, TIME.rows),
   (0x40000, TDC.rows),
   (0x80000, GNSSF.rows),
   (0xC0000, GNSSC.rows),
   (0x100000, GNSSN.rows),
   (0x110000, REFSEL.rows),
   (0x120000, HOLD.rows),
   (0x130000, SYN.rows),
   (0x140000, BOUND.rows),
   (0x180000, MAC.rows),
   (0x1A0000, PTP.rows),
   (0x1B0000, NTS.rows),
   (0x1C0000, KEY.rows),
   (0x1D0000, COUCH.rows),
   (0x1E0000, HIF.rows),
   (0x1F0000, VAT.rows),
   (0x200000, IRQ.rows),
   (0x210000, FLT.rows),
   (0x220000, REAM.rows),
   (0x230000, PMU.rows),
   (0x240000, SIZING.rows),
   (0x250000, SPARE.rows),
   (0x260000, KEEP.rows)]

end Sys2Proof.Machine
end

