-- ==== Sys2Proof/Machine/Types.lean ====
section
/-! DEFINITION. The state of each block beside its registers: what the rules name and no register map holds. -/

namespace Sys2Proof.Machine

/-- A completion (Table 16-4). -/
structure Completion where
  opcode : Nat
  tag : Nat
  status : Nat
  late : Bool
  origin : Origin
  ring : Nat
  result0 : Nat
  sheet : Nat
  index : Nat
  deriving DecidableEq, Repr

/-- An event descriptor (R391). -/
structure Event where
  code : Nat
  object : Nat
  time : Nat
  sheet : Nat
  value : Int
  gap : Bool
  deriving DecidableEq, Repr

/-- A ream entry (Table 20-4). -/
structure ReamEntry where
  seq : Nat
  kaTime : Bool
  time : Nat
  sheet : Nat
  origin : Origin
  kind : Nat
  addr : Nat
  old : Nat
  new : Nat
  code : Nat
  deriving DecidableEq, Repr

/-- Work of classes 1 to 4 that is held back, for want of stock or because the sheet overran (R41, R439, R441): the
command, its class, the stage it waits at, the sheets for which it has been carried, and the command ring whose later
commands wait behind it (R383), 64 for the mailbox. -/
structure Held where
  cmd : Instr
  cls : Nat
  stage : Nat
  age : Nat
  ring : Option Nat
  deriving DecidableEq, Repr

/-- Current ledger, beside its registers (R438 to R442): stock drawn by class this sheet, what is left of the floors,
the reserve left, whether class 0 drew beyond the reserve or beyond the budget this sheet, whether it drew beyond the budget
in the last sheet (fault 17), whether PWR_WARN_N stops classes 2 to 4 for the rest of the sheet, and whether EMERG is to
clear at the next edge (R442). -/
structure LedgerSt where
  drawn : List Nat := [0, 0, 0, 0, 0]
  floors : List Nat := [0, 0, 0, 0]
  reserve : Nat := 0
  beyondReserve : Bool := false
  overSeen : Bool := false
  beyondBudget : Bool := false
  overLast : Bool := false
  warnStop : Bool := false
  exitDue : Bool := false
  highAt : Int := 0
  deriving DecidableEq, Repr

/-- The ream, beside its registers (R455 to R459): the undrained entries oldest first (an open GAP entry is the last),
how many of them are posted to the ring, and entries that wait for sheet 0. -/
structure ReamSt where
  entries : List ReamEntry := []
  posted : Nat := 0
  early : List ReamEntry := []
  deriving DecidableEq, Repr

/-- A register field change that is due later, when a claim completes (R416): the register, the field, its value to be, and
the origin that the ream will name. -/
structure DueWrite where
  addr : Nat
  fld : Fld
  value : Nat
  origin : Origin
  deriving DecidableEq, Repr

/-- A register write in progress (R452), or one that takes effect at the next sheet edge (R406, R436): register, value, origin. -/
structure PostedWrite where
  addr : Nat
  value : Nat
  origin : Origin
  deriving DecidableEq, Repr

/-- A register write stored already and journaled when it takes effect (R269, R455): register, its value before and after, origin. -/
structure LateWrite where
  addr : Nat
  old : Nat
  new : Nat
  origin : Origin
  deriving DecidableEq, Repr

/-- A pending MODE_SET or engine mode change (R386): the mode, and the command that completes at the edge, if one does. -/
structure PendMode where
  mode : Nat
  cmd : Option Hdr
  origin : Origin
  deriving DecidableEq, Repr

/-- An armed unlock (R449): the origin and the sheet edges it has outlived. -/
structure Unlock where
  origin : Origin
  edges : Nat
  deriving DecidableEq, Repr

/-- GLB, beside its registers: the mode in force (R1, R451), _LO halves that wait for their _HI (R5), armed unlocks, the pending mode, RWT fields whose vote failed and wait for their safe value
(R451), blocks whose counters are to be cleared (R453), posted writes in progress (R452), writes due at the next edge, pool registers written and not yet in force (R269). -/
structure GlbSt where
  mode : Nat := 0
  stagedLo : List (Nat × Nat) := []
  unlocks : List Unlock := []
  pendMode : Option PendMode := none
  voteFailed : List Nat := []
  clearDue : List Nat := []
  posted : List PostedWrite := []
  edgeWrites : List PostedWrite := []
  poolWrites : List LateWrite := []
  deriving DecidableEq, Repr

/-- A claim outstanding on a vector (R421): the source and the group at which it was claimed. -/
structure Claim where
  source : Nat
  group : Nat
  deriving DecidableEq, Repr

/-- Interrupts, beside the registers: claims outstanding by vector, level sources that a claim under AUTO keeps from being
eligible until they deassert (R423), configuration writes of claimed sources that wait for completion (R416), vectors
whose message is held by masking with the masked MSI-X entries (R420), and vectors whose eligible set is not empty. -/
structure IrqSt where
  claims : List (List Claim) := List.replicate 65 []
  autoHeld : List Nat := []
  cfgDue : List DueWrite := []
  masked : List Nat := List.range 64
  ready : List Nat := []
  deriving DecidableEq, Repr

/-- Faults, beside the registers (R426 to R432): pairs whose rails stay equal, the value the reaction timer started from, when the FAULT_N pulse began,
the conditions of KEY_CRYPTO, SHEET_LATE, TEMP_HIGH and SUPPLY, the squelch of stage 2, whether it is to be lifted at the
next edge, and whether stage 2 asks for a handover. -/
structure FltSt where
  broken : Nat := 0
  timerUs : Nat := 0
  pulseAt : Int := 0
  keyMismatch : Bool := false
  sheetLate : Bool := false
  tempHigh : Bool := false
  supply : Bool := false
  squelch : Bool := false
  squelchLift : Bool := false
  handover : Bool := false
  deriving DecidableEq, Repr

/-- A mould load in progress (R34, Table 2-5): the command that started it and the LEN it names. -/
structure MouldRun where
  cmd : Hdr
  len : Nat
  deriving DecidableEq, Repr

/-- A pending mould activation (R36, R37), beside PEND_SHEET and PEND_BUF: who asked for it. -/
structure PendAct where
  origin : Origin
  deriving DecidableEq, Repr

/-- The sequencer, beside its registers: loads running in buffers A and B, the pending activation, whether the deckle of
this sheet has trapped (R39) and whether the fallback takes effect at the next edge, where the executor stands in the body of
the sheet's deckle with the GATE entries it has executed ahead of others of their TICK (R31), and SHEET_OVERRUN (R41). -/
structure SheetSt where
  loadA : Option MouldRun := none
  loadB : Option MouldRun := none
  act : Option PendAct := none
  trapped : Bool := false
  fallback : Bool := false
  cursor : Nat := 0
  ahead : List Nat := []
  overrun : Bool := false
  deriving DecidableEq, Repr

/-- What a step does to the counter (R54): sets it to a count of 2⁻¹⁶ ns units, or moves it by a signed offset. -/
inductive StepKind where
  | set (units : Nat)
  | by (offset : Int)
  deriving DecidableEq, Repr

/-- A TIME_STEP, TIME_SET or automatic step that waits for the next sheet edge (R54, R55): the command that completes at
the edge, if one does, the origin, and whether the step needs no QUIET at the edge. -/
structure PendStep where
  cmd : Option Hdr
  origin : Origin
  grant : Bool
  kind : StepKind
  deriving DecidableEq, Repr

/-- An armed leap second, beside its registers (R58): its late policy, the command, and its origin. -/
structure LeapSt where
  late : Bool
  pol : Bool
  origin : Origin
  deriving DecidableEq, Repr

/-- A decoded leap announcement more than 2⁴⁷ ns ahead, held until it comes within range (R58). -/
structure HeldLeap where
  units : Nat
  dir : Nat
  deriving DecidableEq, Repr

/-- A commanded pulse that waits for its target (R60): strobe, target in 2⁻¹⁶ ns units, width in timing cycles, late policy, whether it is
executed late (R44). -/
structure Pulse where
  strobe : Nat
  target : Nat
  width : Nat
  pol : Bool
  late : Bool
  deriving DecidableEq, Repr

/-- A periodic series on a strobe (R61): first target F, period T, width, count, and the next pulse number j. -/
structure Series where
  first : Nat
  period : Nat
  width : Nat
  count : Nat
  next : Nat
  deriving DecidableEq, Repr

/-- An alignment pair as the keep-alive domain keeps it (R65), with the whole count of 2⁻¹⁶ ns units of its time (R66). -/
structure KaPair where
  cnt : Nat
  time : Nat
  wide : Nat
  deriving DecidableEq, Repr

/-- The time base, beside its registers. `cnt` is the time counter in units of 2⁻⁴⁸ ns, its value in the present timing
cycle with the fractional remainder of R48, and `cyc` its place in the five-cycle pattern of Table 3-1; `edge` and `next`
are the boundaries of the present and the next sheet edge in 2⁻¹⁶ ns units (R51); `stepped` is 1 in a stepped sheet (R55); `shift` the sum of the
steps since reset, so that ages are measured without them (R488); `loops` are the leading edges of
strobes on their way to the loop-back (R63), oldest first, and `lead` the last leading edge of each strobe (R85). -/
structure TimeSt where
  cnt : Nat := 0
  cyc : Nat := 0
  edge : Nat := 0
  next : Nat := 0
  stepped : Bool := false
  shift : Int := 0
  diffs : List Int := []
  slewTerm : Int := 0
  slewFrac : Int := 0
  steps : List PendStep := []
  leap : Option LeapSt := none
  heldLeap : Option HeldLeap := none
  pulses : List Pulse := []
  series : List (Option Series) := List.replicate 16 none
  activeTill : List Nat := List.replicate 16 0
  loops : List (Nat × Nat) := []
  lead : List (Option Nat) := List.replicate 16 none
  kaCopy : Option KaPair := none
  kaFreqCopy : Nat := 0
  kaWinStart : Option KaPair := none
  kaMissed : Bool := false
  deriving DecidableEq, Repr

/-- A class B bin table (Table 4-3), without its CRC. -/
structure BinTable where
  gen : Nat
  hitsE : Nat
  hitsF : Nat
  npE : Nat
  npF : Nat
  tE : List Nat
  tF : List Nat
  deriving DecidableEq, Repr

/-- A class A INL table (Table 4-4), without its CRC. -/
structure InlTable where
  gen : Nat
  hits : Nat
  inl : List Int
  deriving DecidableEq, Repr

/-- One delay line (R76, R77): DLL state of Table 4-2, its two codes, the consecutive sheets out of LOCKED, and whether
TDC_DLL holds for it. -/
structure LineSt where
  dll : Nat := 0
  coarse : Nat := 512
  fine : Nat := 32
  outSheets : Nat := 0
  fault : Bool := false
  deriving DecidableEq, Repr

/-- A time-interval channel, beside its registers (R71 to R82): edges the prescaler still skips, the time of the last edge
measured, whether an edge has passed since reset, its lines, the histograms as (tap, count) lists, the table in force (none: that of factory sizing) with the sheet of the
edge at which it took effect, a new table due at the next edge, whether that in force was computed since reset, and whether it is being sized. -/
structure TdcCh where
  skip : Nat := 0
  lastPass : Option Nat := none
  passed : Bool := false
  lineE : LineSt := {}
  lineF : LineSt := {}
  histE : List (Nat × Nat) := []
  histF : List (Nat × Nat) := []
  bin : Option BinTable := none
  inl : Option InlTable := none
  tableSheet : Nat := 0
  due : Option BinTable := none
  fresh : Bool := false
  sizing : Bool := false
  deriving DecidableEq, Repr

/-- A stop taken by a window: the edge's time and channel (R83). -/
structure Stop where
  time : Nat
  ch : Nat
  deriving DecidableEq, Repr

/-- A stop item of a measurement record (R89). -/
structure StopItem where
  interval : Int
  ch : Nat
  order : Bool
  coincident : Bool
  deriving DecidableEq, Repr

/-- A measurement record (Table 4-5), with the window's OWNER and COPY_TO_RING. -/
structure MeasRec where
  startTime : Nat
  sheet : Nat
  window : Nat
  startCh : Nat
  items : List StopItem
  ovf : Nat
  gen : Nat
  flags : Nat
  owner : Nat
  copy : Bool
  deriving DecidableEq, Repr

/-- A measurement window (R83 to R87): whether it is open, its arm time and end, the settings it was armed with, what it
has taken, and a pending MEAS_ARM target. -/
structure WinSt where
  isOpen : Bool := false
  armAt : Nat := 0
  endAt : Nat := 0
  startCh : Nat := 0
  freq : Bool := false
  mask : Nat := 0
  closeCount : Nat := 0
  owner : Nat := 0
  copy : Bool := false
  start : Option Nat := none
  gen : Nat := 0
  stops : List Stop := []
  ovf : Nat := 0
  count : Nat := 0
  lastEdge : Nat := 0
  flags : Nat := 0
  pend : Option Nat := none
  pendLate : Bool := false
  pendPol : Bool := false
  deriving DecidableEq, Repr

/-- A TDC_SIZE in progress (R82): the command and the channels still being sized. -/
structure TdcSizing where
  cmd : Hdr
  left : List Nat
  deriving DecidableEq, Repr

/-- The time-interval block, beside its registers: channels, windows, records closed in this sheet, records delivered to
the blocks that own their windows, staged records (R90) with the entry of the staging area where the oldest
stands, whether the next record delivered carries GAP, and the sizing run. -/
structure TdcSt where
  chans : List TdcCh := List.replicate 48 {}
  wins : List WinSt := List.replicate 64 {}
  closed : List MeasRec := []
  inbox : List MeasRec := []
  staged : List MeasRec := []
  gap : Bool := false
  head : Nat := 0
  sizing : Option TdcSizing := none
  deriving DecidableEq, Repr

/-- An acquisition search that runs (R103): its arguments, whether SCLK_OK fell during it, and the sheets of samples it still takes. -/
structure Search where
  auto : Bool
  signal : Nat
  sv : Nat
  k : Int
  channel : Nat
  thresh : Nat
  tag : Nat
  doppler : Int
  span : Nat
  step : Nat
  fell : Bool
  left : Nat
  deriving DecidableEq, Repr

/-- An acquisition result entry (Table 5-3). -/
structure AcqRes where
  epoch : Nat
  codePhase : Nat
  pnr : Nat
  doppler : Int
  cn0 : Nat
  search : Nat
  status : Nat
  signal : Nat
  sv : Nat
  channel : Nat
  flags : Nat
  tag : Nat
  deriving DecidableEq, Repr

/-- A handoff to be made at the next TAI millisecond edge (R104). -/
structure Handoff where
  channel : Nat
  signal : Nat
  sv : Nat
  k : Int
  epoch : Nat
  codePhase : Nat
  doppler : Int
  auto : Bool
  deriving DecidableEq, Repr

/-- An observation (Table 5-7). -/
structure Obs where
  epoch : Nat
  codePhase : Nat
  cn0 : Nat
  carr : Int
  codeEpoch : Nat
  channel : Nat
  signal : Nat
  sv : Nat
  carrRate : Int
  flags : Nat
  corr : List (Int × Int)
  lockInd : Int
  state : Nat
  k : Int
  deriving DecidableEq, Repr

/-- A tracking channel, beside its registers (R106 to R120), at the last sample: `code` is the code position in chips × 2³² within the
primary code, whose low 32 bits are the accumulator of the code NCO, `periods` the primary periods since ENABLE, `phase` the carrier NCO,
`carr` the reported phase in 2⁻⁴⁸ cycles, `acc` the five correlators and `since` the primary periods since the last dump; then the chip of
the secondary code, the loop integrators, the previous prompt, the last 20 prompts, the run of small ef, the C/N0 sums, milliseconds below
CN0_DROP, whether a notch lay near in the interval in hand and in the one before, what the next observation carries, the steer entry that waits for the next sample, the physical lane, and the synchronised
channel of the other band it was handed off from. -/
structure Chan where
  code : Nat := 0
  periods : Nat := 0
  phaseDue : Bool := false
  phase : Nat := 0
  carr : Int := 0
  acc : List (Rat × Rat) := []
  since : Nat := 0
  sec : Option Nat := none
  x1 : Rat := 0
  x2 : Rat := 0
  prevI : Rat := 0
  prevQ : Rat := 0
  prompts : List (Rat × Rat) := []
  efRun : Nat := 0
  cnN : Nat := 0
  cnAbs : Rat := 0
  cnPow : Rat := 0
  cnValid : Bool := false
  belowMs : Nat := 0
  found : Bool := false
  slip : Bool := false
  notched : Bool := false
  wasNotched : Bool := false
  half : Bool := false
  invert : Bool := false
  corr : List (Rat × Rat) := []
  steer : Option SteerEntry := none
  steerGap : Nat := 0
  sparedMs : Nat := 0
  pullAt : Int := 0
  lane : Nat := 0
  lender : Option Nat := none
  deriving DecidableEq, Repr

/-- A notch stage (R100): its frequency in radians per sample, the value before the last, its input and output power over the millisecond,
and the milliseconds for which its depth has been below 3 dB. -/
structure NotchSt where
  w : Rat := 0
  v1 : Rat × Rat := (0, 0)
  inP : Rat := 0
  outP : Rat := 0
  lowMs : Nat := 0
  deriving DecidableEq, Repr

/-- A sample port and its interference defence (R96 to R102): clean sheets since a bad fit, time from the last sample to the sheet edge in
2⁻¹⁶ ns, the samples of the millisecond in hand, notches, bins above the threshold in the last millisecond, milliseconds of JAM at or above
and below the limits. -/
structure BandSt where
  goodSheets : Nat := 8
  carry : Rat := 0
  ms : List (Int × Int) := []
  notches : List NotchSt := List.replicate 4 {}
  above : List Int := []
  jamHi : Nat := 0
  jamLo : Nat := 0
  deriving DecidableEq, Repr

/-- A solution record (Table 6-5): OFFSET in 2⁻¹⁶ ns, SIGMA, TPL and offsets in ps, SSE and T × 256. -/
structure SolRec where
  epoch : Nat
  offset : Int
  sigma : Nat
  tpl : Nat
  nused : Nat
  nexcl : Nat
  status : Nat
  refSys : Nat
  iso : List Int
  sse : Nat
  t : Nat
  excl : List Nat
  deriving DecidableEq, Repr

/-- An entry of the observation ring: an observation or a solution record. -/
inductive ObsEntry where
  | obs (o : Obs)
  | sol (r : SolRec)
  deriving DecidableEq, Repr

/-- GNSS signal processing, beside its registers: bands, searches, handoffs due, channels, steer entries written by the host
and those read ahead, the last observation epoch in 2⁻¹⁶ ns and its observations, the staged entries of the observation ring with the slot
of the oldest, whether the next observation delivered carries GAP, and lanes to be moved. -/
structure GnssSt where
  bands : List BandSt := [{}, {}]
  searches : List (Option Search) := List.replicate 8 none
  handoffs : List Handoff := []
  chans : List Chan := (List.range 136).map (fun n => { lane := n })
  steerQ : List SteerEntry := []
  steerDue : List SteerEntry := []
  epoch : Nat := 0
  obs : List Obs := []
  staged : List ObsEntry := []
  head : Nat := 0
  gap : Bool := false
  retireDue : List Nat := []
  deriving DecidableEq, Repr

/-- UTC parameters of a system (R134): A0 and A1 in 2⁻⁵¹, the reference second, the leap-second count. -/
structure UtcPar where
  a0 : Int
  a1 : Int
  tot : Nat
  leap : Int
  deriving DecidableEq, Repr

/-- Carrier smoothing of a satellite (R131): its slot, n, the smoothed pseudorange, the last carrier in metres. -/
structure SmSat where
  slot : Nat
  n : Nat
  rho : Rat
  phase : Rat
  deriving DecidableEq, Repr

/-- A survey that runs (R139): duration, target, start second, the sums, and the running position in metres. -/
structure Survey where
  origin : Origin
  dur : Nat
  target : Nat
  start : Nat
  npp : List (List Rat)
  up : List Rat
  est : Option (List Rat)
  deriving DecidableEq, Repr

/-- A sizing of the antenna delay that runs (R142): channel, duration, start second, samples with their sum and sum of squares
in ps, the last 1PPS edge used. -/
structure DelaySize where
  origin : Origin
  ch : Nat
  dur : Nat
  start : Nat
  n : Nat
  sum : Rat
  sumSq : Rat
  last : Nat
  deriving DecidableEq, Repr

/-- What a solution gives reference selection and the bound (R135, R143): epoch in units, OFFSET in 2⁻¹⁶ ns, SIGMA, TPL and
uncertainty of the delay in ps, used satellites with NOTCHED or SPARED, status, and the sheet in which it was computed. -/
structure NavSol where
  epoch : Nat
  offset : Int
  sigma : Nat
  tpl : Nat
  u : Nat
  flagged : Nat
  status : Nat
  sheet : Nat
  deriving DecidableEq, Repr

/-- Navigation, beside its registers and what it holds in the vat: for each channel the alignment of its data bits and, once it has
message synchronisation, the same as (code period, its transmit time in TAI seconds), and its consecutive checks passed; smoothing,
channels whose observations carried SLIP since the last solution epoch, quarantine as (slot, TAI second of its end), the position in use in
mm, whether POS changes at the next epoch, the survey, the delay sizing, the last epoch solved, the solution on its way to REF0, and the one
the bound uses. -/
structure NavSt where
  align : List (Option (Nat × Rat)) := List.replicate 136 none
  sync : List (Option (Nat × Rat)) := List.replicate 136 none
  passes : List Nat := List.replicate 136 0
  smooth : List SmSat := []
  slips : List Nat := []
  quarantine : List (Nat × Nat) := []
  pos : List Int := [0, 0, 0]
  posDue : Bool := false
  survey : Option Survey := none
  sizing : Option DelaySize := none
  solved : Option Nat := none
  deliver : Option NavSol := none
  forBound : Option NavSol := none
  deriving DecidableEq, Repr

/-- A ToD message that waits for its 1PPS edge (R150): the seconds it names, and LEAP_SECOND. -/
structure TodMsg where
  sec : Nat
  leap : Bool
  deriving DecidableEq, Repr

/-- A reference slot, beside its registers (R149 to R152, R164). Times are counts of 2⁻¹⁶ ns units that no step of the counter
moves. `hist` holds (time, θ in ps), newest first; `base` is edge A of a FREQ slot; `arr` the last arrival, `first` the first
measurement since the slot last failed LOS; `msg` the ToD message for the next edge; `todOk` whether the last edge met R150;
`fitted` whether REF_FREQ stands for a fit; `chan` the channel of the window last validly named (R219); `fail` the mask of
criteria that failed at the last judgement. -/
structure RefSlot where
  hist : List (Int × Int) := []
  qualBefore : Bool := false
  base : Option Int := none
  arr : Option Int := none
  first : Option Int := none
  last : Option (Int × Int) := none
  jump : Bool := false
  msg : Option TodMsg := none
  todOk : Bool := false
  fitted : Bool := false
  chan : Option Nat := none
  qlOut : Bool := false
  qlAt : Option Int := none
  wtrClear : Bool := false
  fail : Nat := 0
  deriving DecidableEq, Repr

/-- What the upstream PTP port last delivered to REF13 (R219, R225): offsetFromMaster in ps, its event, the upstream bound if the
message carried one, grandmaster, steps removed, timeSource, timeTraceable, clockClass. -/
structure UpSample where
  theta : Int
  event : Nat
  bound : Option Nat
  gm : Nat
  steps : Nat
  tsrc : Nat
  traceable : Bool
  cls : Nat
  deriving DecidableEq, Repr

/-- What the peer last delivered to REF15 (R219, R225): phase in ps, its event, the peer's B_core, DEPTH and ORIGIN_ID. -/
structure PeerSample where
  theta : Int
  event : Nat
  bound : Nat
  depth : Nat
  origin : Nat
  deriving DecidableEq, Repr

/-- A pair in disagreement (R159): the selected slot, the other, and its share of DIS_WIDEN in ps. -/
structure DisPair where
  a : Nat
  b : Nat
  widen : Nat
  deriving DecidableEq, Repr

/-- Reference selection, beside its registers (R154 to R163). `integ` and `assist` are the terms of R161 in ppt; `pbo` the
build-out in ps; `lastUpd` the time of the last DPLL update; `newSel` and `newAst` tell of measurements since then; `astLast` is
the assist's measurement last used; `lockFrom` the first measurement of a run within LOCK_PHASE; `unlocks` the run beyond
UNLOCK_PHASE; `wanted` the slot of REF_SELECT or arbitration; `switchTo` the slot of a switch under way; `prevSel` the slot
selected before the last entry to HOLDOVER; `freeSince` the entry to FREE_RUN; `yHeld` holds the control value in the sheet of
that entry; `frozen` counts frozen sheets; `upUsed` and `peerUsed` are what REF13 and REF15 last took in (R219); `everSel` whether there has
been a time reference since reset (R54). -/
structure RefSt where
  slots : List RefSlot := List.replicate 16 {}
  up : Option UpSample := none
  upNew : Bool := false
  upUsed : Option UpSample := none
  peer : Option PeerSample := none
  peerNew : Bool := false
  peerUsed : Option PeerSample := none
  everSel : Bool := false
  pbo : Int := 0
  integ : Rat := 0
  assist : Rat := 0
  lastUpd : Int := 0
  newSel : Bool := false
  newAst : Bool := false
  astLast : Option (Int × Int) := none
  lockFrom : Option Int := none
  lockMet : Bool := false
  unlocks : Nat := 0
  wanted : Option Nat := none
  switchTo : Option Nat := none
  prevSel : Option Nat := none
  freeSince : Int := 0
  yHeld : Bool := false
  frozen : Nat := 0
  pairs : List DisPair := []
  deriving DecidableEq, Repr

/-- A history bin in being (R171, R172): START, COUNT, and the whole second at which its latest sample was taken; its record
stands in the vat. -/
structure HistBin where
  start : Nat
  count : Nat
  lastAt : Nat
  deriving DecidableEq, Repr

/-- The open bin's sums (Table 8-1): u in 2⁻¹⁰ ppt, temperature in 1/16 °C, and its flags. -/
structure BinSum where
  u : Rat := 0
  temp : Rat := 0
  tempValid : Bool := true
  assisted : Bool := false
  deriving DecidableEq, Repr

/-- The frozen model of R173: u(t) = c + a (t − tm) + k (temp − tempm), in 2⁻¹⁰ ppt, s and °C. -/
structure HoldModel where
  c : Rat
  a : Rat
  k : Rat
  tm : Rat
  tempm : Rat
  deriving DecidableEq, Repr

/-- A STEER that waits for its ACK (R186): SEQ, FREQ, attempts sent. -/
structure SteerOut where
  seq : Nat
  freq : Int
  tries : Nat
  sentAt : Int := 0
  deriving DecidableEq, Repr

/-- Holdover and the atomic port, beside their registers (R170 to R186): the sums of the second in progress, whether it may
give a sample, the previous sample, the last u, the bins with the sums of the open one, the model, what e_h starts from and
grows by (e0 in ps, f0 in ppt, g in ppt per s, the temperature part), the entry and whether it was assisted, an offload decided
for the next edge, temperatures with the time of their last fresh value, the clean seconds, whether this second saw a condition
of R178, the module's pull and what awaits the next edge, the STEER outstanding. -/
structure HoldSt where
  sumU : Int := 0
  sumT : Int := 0
  n : Nat := 0
  ok : Bool := false
  stale : Bool := false
  assisted : Bool := false
  prev : Option Rat := none
  lastU : Int := 0
  bins : List HistBin := []
  sums : BinSum := {}
  model : Option HoldModel := none
  e0 : Rat := 0
  f0 : Rat := 0
  g : Rat := 0
  acc : Rat := 0
  entry : Int := 0
  offload : Option Int := none
  dieTemp : Int := 0
  hostAt : Option Int := none
  atomAt : Option Int := none
  goodS : Nat := 0
  bad : Bool := false
  atomPull : Int := 0
  pullDue : Option Int := none
  statusPull : Int := 0
  steer : Option SteerOut := none
  seq : Nat := 0
  refused : Bool := false
  identTries : Nat := 0
  identAt : Int := 0
  statusAt : Int := 0
  deriving DecidableEq, Repr

/-- A calender's plan (R203): CREF − 1, N_INT, N_FRAC. -/
structure CalPlan where
  cref : Nat
  nint : Nat
  nfrac : Nat
  deriving DecidableEq, Repr

/-- What an output's pins carry: P low and N high, P high, high impedance, or a clock at a frequency in Hz with a delay in ps, P and N swapped or not,
in a format of OUT_CFG.FMT. -/
inductive PinDrive where
  | low
  | high
  | hiz
  | clock (hz : Rat) (delayPs : Int) (swapped : Bool) (fmt : Nat)
  deriving DecidableEq, Repr

/-- A clock output, beside its registers (R204): the divider in force, one that takes effect at the next edge, and, where the output
is held, the time in 2⁻¹⁶ ns before which it is not released. -/
structure OutSt where
  div : Nat := 32
  due : Option Nat := none
  since : Nat := 0
  deriving DecidableEq, Repr

/-- Synthesis, beside its registers (R191 to R214): plans in force, plans that take effect at the next edge, outputs, PPS outputs
held low by a step with the second of their release, the second named by the last frame of each ToD output and its bytes 4 to 19, the steering each calender follows, what the pins of the clock and PPS outputs carry,
the spread of the core, the frequency that the core ramps to in MHz with the time and frequency at which the ramp began, when the system PLL
was declared in lock, what is left of the coarse period at the edge at which fine counting resumes, measurements of OSC_IN over the last sheets
and clean ones since its loss, when OSC_IN activity was lost, and whether there has been a first activity and a first service of the system PLL. -/
structure SynSt where
  plans : List CalPlan := List.replicate 4 ⟨0, 125, 0⟩
  apply : List (Nat × CalPlan) := []
  outs : List OutSt := List.replicate 16 {}
  ppsHeld : List (Option Nat) := List.replicate 4 none
  todNamed : List Nat := List.replicate 4 0
  todFrames : List (List Byte) := List.replicate 4 (List.replicate 16 0)
  calY : List Int := List.replicate 4 0
  clkPins : List PinDrive := List.replicate 16 .low
  ppsPins : List PinDrive := List.replicate 4 .low
  ssc : Nat × Nat := (0, 0)
  coreMHz : Rat := 400
  rampFrom : Rat := 400
  rampAt : Int := 0
  spLockAt : Option Int := none
  fineRest : Option Int := none
  oscSeen : List Nat := []
  oscClean : Nat := 0
  lostAt : Option Int := none
  seenAct : Bool := false
  seenService : Bool := false
  deriving DecidableEq, Repr

/-- The chain fields of the watermark (Table 10-3), as latched: SOURCE's slot, VALID, REF_SYS, DEPTH, ORIGIN_ID, the UNPROTECTED
and SPARED flags, and the sizing bank and generation. -/
structure Chain where
  slot : Nat := 0
  valid : Bool := false
  refSys : Nat := 0xFF
  depth : Nat := 0
  origin : Nat := 0
  unprot : Bool := false
  spared : Bool := false
  sizing : Nat := 0
  deriving DecidableEq, Repr

/-- The state of the clock as a slice left it (R19, R218): registers of REFSEL and HOLD in the order of `clockFields`, the samples that REF13
and REF15 took in, the latest measurement of each slot, the solution last delivered to REF0, the entry to FREE_RUN. -/
structure ClockView where
  regs : List Nat
  up : Option UpSample
  upUsed : Option UpSample
  peerUsed : Option PeerSample
  lasts : List (Option (Int × Int))
  sol : Option NavSol
  freeSince : Int
  deriving DecidableEq, Repr

/-- The bound, beside its registers (R218 to R225): the watermark bodies of the sheet by port, the chain and B_src of the last
sheet, B_frozen and its chain in HOLDOVER, whether fine counting has resumed without SLEWING having been found at 0 since, the
values that a promoted unit repeats through its held sheets; `picked` is the clock as this sheet's selection slice left it, `latched` the
one that the last bound slice took. -/
structure BoundSt where
  marks : List (List Byte) := List.replicate 8 (List.replicate 40 0)
  chain : Chain := {}
  src : Nat := 0
  hadSel : Bool := false
  frozen : Nat := 0
  frozenChain : Chain := {}
  carry : Bool := false
  picked : Option ClockView := none
  latched : Option ClockView := none
  heldMark : Option (List (List Byte)) := none
  deriving DecidableEq, Repr

/-- A frame in the receive staging of a port (R236, R243): the headbox rule, its bytes without the FCS, its receive timestamp in
2⁻¹⁶ ns units, whether that is coarse (R240). -/
structure RxFrame where
  rule : Nat
  bytes : List Byte
  time : Nat
  coarse : Bool
  deriving DecidableEq, Repr

/-- What reports a transmitted host frame (R388): its ring, the index of its last descriptor, its COOKIE. -/
structure TxDone where
  ring : Nat
  index : Nat
  cookie : Nat
  deriving DecidableEq, Repr

/-- What an unscheduled frame is for: no more than itself, or a Delay_Req or Pdelay_Req of the upstream port (R286), with the
master and its sequenceId. -/
inductive UKind where
  | plain
  | delayReq (master seq : Nat)
  | pdelayReq (master seq : Nat)
  deriving DecidableEq, Repr

/-- A frame that waits for the unscheduled path of a port (R245): traffic class, whether the engine made it, its bytes without
the FCS, what it is for, and the TX_DONE that follows it, if it is the last of a host send. -/
structure UFrame where
  tc : Nat
  engine : Bool
  bytes : List Byte
  kind : UKind := .plain
  done : Option TxDone := none
  deriving DecidableEq, Repr

/-- Where a message goes and how it is wrapped: transport (0 Ethernet, 1 IPv4, 2 IPv6), destination MAC, addresses in packet
order, UDP ports, VLAN tag, DSCP, hop limit, the flow of its trailer (R290). -/
structure Dest where
  transport : Nat
  dmac : List Byte
  src : List Byte := []
  dst : List Byte := []
  sport : Nat := 0
  dport : Nat := 0
  tci : Option Nat := none
  dscp : Nat := 0
  hop : Nat := 0
  flow : Option Nat := none
  deriving DecidableEq, Repr

/-- A PTP message before it is finalised (R263, R264): messageType, the record and where it goes, its sequenceId (taken at
finalisation for an answer to Signaling), the correctionField and the time it starts from in 2⁻¹⁶ ns, the port identity it names,
logMessageInterval, unicastFlag, two-step form, its TLVs, and how many requests and cancels it answers (R275). -/
structure PtpMsg where
  type : Nat
  record : Option Nat
  dest : Dest
  seq : Nat
  corr : Int := 0
  time : Nat := 0
  peer : List Byte := []
  log : Nat := 0x7F
  unicast : Bool := true
  twoStep : Bool := false
  tlvs : List Byte := []
  neg : Nat := 0
  deriving DecidableEq, Repr

/-- An NTP response before it is finalised (R297 to R305): 0 plain, 1 NTS, 2 NTS NAK, 3 KoD RATE; the request's header; its
receive timestamp; the Unique Identifier field; whether the watermark goes in; for NTS the cookies, the key S2C and the nonce. -/
structure NtpMsg where
  kind : Nat
  dest : Dest
  req : List Byte
  time : Nat
  uid : List Byte := []
  mark : Bool := false
  cookies : List (List Byte) := []
  s2c : List Byte := []
  nonce : List Byte := []
  deriving DecidableEq, Repr

/-- What a reply will be. -/
inductive ReplyBody where
  | ptp (m : PtpMsg)
  | ntp (m : NtpMsg)
  deriving DecidableEq, Repr

/-- A reply in the reply queue of a port (R33, R265): class, when it was queued, for how many sheets it has been carried, the length
of its frame with the FCS, the time before which it may not be bound (a follow-up), and the entry that placed its first message in
the sheet, so that it is withdrawn with it. -/
structure Reply where
  cls : Nat
  since : Nat
  age : Nat := 0
  len : Nat
  after : Nat := 0
  first : Option Nat := none
  body : ReplyBody
  deriving DecidableEq, Repr

/-- A MOD_READ or MOD_WRITE in progress (R257): device address, offset, and the host address and length to be read or the bytes to be
written. -/
structure ModOp where
  cmd : Hdr
  dev : Nat
  off : Nat
  rd : Option (Nat × Nat)
  data : List Byte := []
  deriving DecidableEq, Repr

/-- A port, beside its registers (R231 to R256): receive staging, reply queue, unscheduled frames in order, when the wire is next
free, when the pause in force ends and since when the port has been paused without a break, the end of an idle reply slot (R33), the grid phase of the last
measurement, sheets that have agreed since a jump, when a wake from LPI is complete, failed module reads, the identity read, the
module transfers in progress, the PORT_SIZE in progress, the SSM and eSSM of the last ESMC PDU sent, the second in which PDUs were last
sent and how many (R166). -/
structure PortSt where
  rx : List RxFrame := []
  replies : List Reply := []
  unsched : List UFrame := []
  wireFree : Nat := 0
  slotEnd : Nat := 0
  pauseEnd : Option Nat := none
  pauseFrom : Nat := 0
  overrideEnd : Option Nat := none
  grid : Option Nat := none
  agree : Nat := 0
  wakeAt : Nat := 0
  reads : Nat := 0
  ident : List Byte := []
  mods : List ModOp := []
  sizing : Option Hdr := none
  qlWas : Nat × Nat := (0xF, 0xFF)
  qlDue : Bool := false
  esmcSec : Nat := 0
  esmcN : Nat := 0
  deriving DecidableEq, Repr

/-- A frame finalised for its launch in this sheet (R19, R22): the deckle entry, the launch instant in 2⁻¹⁶ ns units, its bytes without
the FCS, and the record whose engine CANCEL it carries, if it does. -/
structure SchedFrame where
  entry : Nat
  port : Nat
  launch : Nat
  bytes : List Byte
  cancels : Option Nat
  deriving DecidableEq, Repr

/-- The ports: frames finalised for this sheet, entries of the sheet that were skipped, entries that were refused stock (R32), and each port. -/
structure MacSt where
  sched : List SchedFrame := []
  skipped : List Nat := []
  refused : List Nat := []
  ports : List PortSt := List.replicate 8 {}
  deriving DecidableEq, Repr

/-- The timing block of a FORWARD frame (Table 15-2): the service values of a unit; beside it, whether they are the unit's own. -/
structure Timing where
  bCore : Nat := 0
  cls : Nat := 248
  source : Nat := 0
  refSys : Nat := 0xFF
  depth : Nat := 0
  traceable : Bool := false
  freqTrace : Bool := false
  utcValid : Bool := false
  leapArmed : Bool := false
  leapDir : Bool := false
  steps : Nat := 0
  tsrc : Nat := 0
  taiUtc : Nat := 0
  origin : Nat := 0
  gm : Nat := 0
  leapTarget : Nat := 0
  refid : Nat := 0
  cfg : Nat := 0
  refTime : Nat := 0
  key : Nat := 0
  wm : List (List Byte) := List.replicate 8 []
  tod : List (List Byte) := List.replicate 4 []
  own : Bool := false
  deriving DecidableEq, Repr

/-- A pool in force (R269). -/
structure Pool where
  first : Nat := 0
  last : Nat := 0
  port : Nat := 0
  stride : Nat := 1
  en : Bool := false
  msg : Nat := 0
  syncLog : Nat := 0xFC
  annLog : Nat := 0
  deriving DecidableEq, Repr

/-- A change of a client record that takes effect at the next edge (R274, R292): a grant of a type with its EXP and LOG, and whether
it renews a live one; the end of a grant; an image of CLIENT_SET; the CANCEL that CLIENT_DEL raises. -/
inductive ClientDue where
  | grant (record type exp log : Nat) (renew : Bool)
  | cancel (record type : Nat)
  | image (record : Nat) (bytes : List Byte)
  | del (record : Nat)
  deriving DecidableEq, Repr

/-- A dual-fed flow in a sheet (R350): its first placed number, placed numbers used, reply numbers used. -/
structure FlowUse where
  first : Nat := 0
  placed : Nat := 0
  replies : Nat := 0
  deriving DecidableEq, Repr

/-- The latest Announce of an upstream master (R286, R288): the dataset of its grandmaster, stepsRemoved, timeSource,
timeTraceable, the port identity of its sender. -/
structure UpAnn where
  prio1 : Nat
  cls : Nat
  acc : Nat
  var : Nat
  prio2 : Nat
  gm : Nat
  steps : Nat
  tsrc : Nat
  traceable : Bool
  sender : List Byte
  log : Int := 0
  deriving DecidableEq, Repr

/-- An upstream master: its latest Announce while it is a candidate, when it came, the source MAC of its latest frame, and when its grants for
Announce, Sync and Delay_Resp end. -/
structure UpMaster where
  ann : Option UpAnn := none
  annAt : Int := 0
  mac : List Byte := []
  grants : List (Option Int) := [none, none, none]
  deriving DecidableEq, Repr

/-- A Sync that waits for its Follow_Up: master, sequenceId, receive time in 2⁻¹⁶ ns units, correction in 2⁻¹⁶ ns, the bound of its
watermark. -/
structure UpSync where
  master : Nat
  seq : Nat
  t2 : Nat
  corr : Int
  mark : Option Nat
  deriving DecidableEq, Repr

/-- A Delay_Req or Pdelay_Req outstanding: master, sequenceId, the time it carried in 2⁻¹⁶ ns units, and of a two-step Pdelay_Resp its
time of receipt with the sum of the times and corrections it brought. -/
structure UpReq where
  master : Nat
  seq : Nat
  sent : Nat
  resp : Option (Nat × Int) := none
  deriving DecidableEq, Repr

/-- The upstream port (R286 to R289): the four masters, the values of d in ps, newest first, the latest Sync complete as
t2 − t1 − c_s in 2⁻¹⁶ ns, the Sync that waits for its Follow_Up, the request outstanding, and the sequence numbers of requests
and Signaling. -/
structure UpSt where
  masters : List UpMaster := [{}, {}, {}, {}]
  delays : List Rat := []
  fwd : Option Int := none
  wait : Option UpSync := none
  req : Option UpReq := none
  reqSeq : Nat := 0
  sigSeq : Nat := 0
  deriving DecidableEq, Repr

/-- The PTP block, beside its registers (R261 to R292): the pools in force, changes due at the next edge, engine CANCELs pending by record
with when they were raised, records written by CLIENT_SET, Pdelay_Req answered by port in a second, the flows, the upstream port,
records (false) and index buckets (true) changed since they were last couched, oldest first. -/
structure PtpSt where
  pools : List Pool := List.replicate 32 {}
  due : List ClientDue := []
  cancels : List (Nat × Int) := []
  byHost : List Nat := []
  pdelay : List (Nat × Nat) := List.replicate 8 (0, 0)
  flows : List FlowUse := List.replicate 256 {}
  up : UpSt := {}
  changed : List (Bool × Nat) := []
  deriving DecidableEq, Repr

/-- A generation of master keys, beside its registers (R302, R306, R326): the 128-bit nonce count, the nonce key while it has one,
when it became ACCEPT, and the write generation of its slot when it became CURRENT. -/
structure NtsGen where
  count : Nat := 0
  nonceKey : Option (List Byte) := none
  acceptAt : Int := 0
  wgen : Nat := 0
  deriving DecidableEq, Repr

/-- An accepted NTS_ROTATE or NTS_RETIRE that waits for its edge (R307). -/
inductive NtsChange where
  | rotate (origin : Origin) (entry slot keyId : Nat)
  | retire (origin : Origin) (entry : Nat)
  deriving DecidableEq, Repr

/-- A token bucket (R296) as its 8 bytes hold it: the tokens taken and not yet refilled, in 1/256; 0, or one more than the remainder
by 3 of the TAI second of a KoD, while its last request came in that second; when that request came, in 1/256 s of the counter
without its steps. -/
structure RateBucket where
  used : Nat := 0
  kod : Nat := 0
  at_ : Nat := 0
  deriving DecidableEq, Repr

/-- The NTS block, beside its registers: the generations, the change pending. -/
structure NtsSt where
  gens : List NtsGen := List.replicate 4 {}
  change : Option NtsChange := none
  deriving DecidableEq, Repr

/-- A key slot (Table 14-1): descriptor and material. -/
structure KeySlot where
  state : Nat := 0
  expire : Bool := false
  counted : Bool := false
  derived : Bool := false
  alg : Nat := 0
  spp : Nat := 0
  parent : Nat := 0
  keyId : Nat := 0
  uses : Nat := 0
  depth : Nat := 0
  wgen : Nat := 0
  mat : List Byte := []
  deriving DecidableEq, Repr

/-- A commit or derivation on its way (R320, R321, R325): slot, what it will hold, whether it is a derivation, origin, whether class 3
has paid for it, whether the half-select has switched. -/
structure KeyWork where
  slot : Nat
  new : KeySlot
  derive : Bool
  origin : Origin
  paid : Bool
  done : Bool
  deriving DecidableEq, Repr

/-- The key store, beside its registers (R314 to R339): the slots, the commit or derivation pending, invalidations due at the next edge,
slots zeroised since the last edge, whether a tamper trigger is active, the logical pipeline shadowed last, whether LOCK has been
1 since the reset (R339), and after how many AES operations of the sheet comes the one whose result the comparison discards (R334). -/
structure KeySt where
  slots : List KeySlot := List.replicate 256 {}
  work : Option KeyWork := none
  inval : List (Nat × Origin) := []
  zeroised : List Nat := []
  trigger : Bool := false
  shadow : Nat := 5
  locked : Bool := false
  fails : Option Nat := none
  deriving DecidableEq, Repr

/-- The MOULD entry of a FORWARD frame (Table 15-3). -/
structure MouldEntry where
  stateA : Nat
  stateB : Nat
  active : Nat
  pend : Nat
  pending : Bool
  empty : Bool
  tai : Nat
  idA : Nat
  idB : Nat
  deriving DecidableEq, Repr

/-- A generation in the NTS_GEN entry of a FORWARD frame (Table 15-3). -/
structure GenEntry where
  state : Nat
  slot : Nat
  keyId : Nat
  age : Nat
  count : Nat
  deriving DecidableEq, Repr

/-- What a standby applies at the edge after a FORWARD frame (R349): its SEQ, the timing block, first numbers by flow, the DUAL records, the
MOULD entry, the generations. -/
structure DualSection where
  seq : Nat
  block : Timing
  flows : List (Nat × Nat)
  recs : List (Nat × List Byte)
  mould : MouldEntry
  gens : List GenEntry
  deriving DecidableEq, Repr

/-- A planned handover on the active (R360): the command that completes with it, if one does, the origin, the sheet H, the drill dwell,
whether ACCEPT has arrived. -/
structure HandRun where
  cmd : Option Hdr
  origin : Origin
  sheet : Nat
  dwell : Nat
  accepted : Bool
  deriving DecidableEq, Repr

/-- A promotion that takes effect at the next edge (R361, R362): the mode entered and the origin. -/
structure PromoteRun where
  mode : Nat
  origin : Origin
  deriving DecidableEq, Repr

/-- The pair, beside its registers (R340 to R366). Link: the lanes are locked, SEQ of the next frame, the peer's latest frame as (SEQ, time
received), the last frames sent as (SEQ, T_TX), the latest FORWARD frame as (SEQ, T_TX, time received), whether FORWARD frames have begun and
whether one has come since the last check. Peer: ENGINE_ID and PRIO from its HELLO, its last MODE, whether a RETURN frame came first in this
sheet, whether a FORWARD frame came while serving. Standby: the section that waits for the edge, the timing block last applied, and
that of its own last FORWARD frame, whether
dual-fed messages of this sheet are suppressed (R349), SEQ last applied, RESYNC for the next RETURN frame, whether a fill is awaited
and has been seen, the handover offered and made final as (mode, TAI sheet count, dwell), the promotion due. Active: what is left of the fill as
(address, length), bytes filled, whether words were skipped, the handover run, whether this is the handover sheet, the mode before it. Both: the
sheet in which held values began, the sheet of the entry to MIRROR by handover, the end of a drill, QUIET due on a conflict, sheet edges
with PAIR_ACT_I high, good heartbeat checks and checks with equal rails in a row. -/
structure CouchSt where
  locked : Bool := false
  txSeq : Nat := 0
  rxLast : Option (Nat × Nat) := none
  sent : List (Nat × Nat) := []
  fwdLast : Option (Nat × Nat × Nat) := none
  flowing : Bool := false
  gotFwd : Bool := false
  peerId : Option Nat := none
  peerPrio : Bool := false
  peerMode : Nat := 0
  firstReturn : Option Bool := none
  foreign : Bool := false
  dual : Option DualSection := none
  block : Option Timing := none
  own : Option Timing := none
  suppress : Bool := false
  applied : Nat := 0
  resyncOut : Bool := false
  fillWait : Bool := false
  fillSeen : Bool := false
  offer : Option (Nat × Nat × Nat) := none
  final : Option (Nat × Nat × Nat) := none
  promote : Option PromoteRun := none
  fill : List (Nat × Nat) := []
  filled : Nat := 0
  skipped : Bool := false
  hand : Option HandRun := none
  handing : Bool := false
  former : Nat := 2
  heldFrom : Option Nat := none
  byHandover : Option Nat := none
  drillEnd : Option Int := none
  quiet : Bool := false
  actHigh : Nat := 0
  hbGood : Nat := 0
  hbEqual : Nat := 0
  clash : Bool := false
  deriving DecidableEq, Repr

/-- A column repair in progress (R411): bank, spare, column, words copied, and who asked. -/
structure Repair where
  bank : Nat
  spare : Nat
  column : Nat
  words : Nat
  origin : Origin
  deriving DecidableEq, Repr

/-- The vat, beside its registers (R396 to R412): poisoned words by word number, bit positions corrected on the last pass as
(word, bit), those of the present pass, whether a denial was already posted this sheet, the repair in progress, the field
fuse entries, and pages scrubbed this sheet. -/
structure VatSt where
  poison : List Nat := []
  lastPass : List (Nat × Nat) := []
  thisPass : List (Nat × Nat) := []
  denied : Bool := false
  repair : Option Repair := none
  fuses : List Nat := []
  scrubbed : Nat := 0
  deriving DecidableEq, Repr

/-- An edge latch of the keep-alive domain (R418): the keep-alive count of the first edge captured, and how many; set while there are any. -/
structure KaLatch where
  time : Nat := 0
  edges : Nat := 0
  deriving DecidableEq, Repr

/-- The keep-alive domain, beside its registers (R444): the sixteen latches, whether VKEEP was lost since the last start-up, whether it
is present. -/
structure KeepSt where
  latches : List KaLatch := List.replicate 16 {}
  lost : Bool := false
  present : Bool := true
  deriving DecidableEq, Repr

/-- A sizing item in a bank: its number, GEN, SIZED_AT and body (R465). -/
structure SizItem where
  item : Nat
  gen : Nat
  sizedAt : Nat
  body : List Byte
  deriving DecidableEq, Repr

/-- A change of the user bank that takes effect at the next edge (R464, R466, R467). -/
inductive SizDue where
  | load (origin : Origin) (item sizedAt : Nat) (body : List Byte)
  | restore (origin : Origin) (scope : Nat)
  deriving DecidableEq, Repr

/-- Sizing, beside its registers: the user bank, and changes due at the next edge. -/
structure SizSt where
  user : List SizItem := []
  due : List SizDue := []
  deriving DecidableEq, Repr

/-- A BIST run (R471): the command if one started it, the units under test as (target, unit), and how many had to be skipped. -/
structure BistRun where
  cmd : Option Hdr
  units : List (Nat × Nat)
  skipped : Nat
  deriving DecidableEq, Repr

/-- A promotion that waits for a sheet edge (R472): target (0 vat, 1 lane, 2 pipeline, 3 line), unit, vat column, origin. -/
structure Promo where
  target : Nat
  index : Nat
  column : Nat
  origin : Origin
  deriving DecidableEq, Repr

/-- Wear and spares, beside the registers (R469 to R473): candidates as (target, unit, column), units retired, the BIST
run, promotions due, whether a pass runs, kinds whose want of a spare was reported, the 1,024 s of TAI in which the monitors were
last measured, when the last pass of this stay in QUIET began. -/
structure SpareSt where
  cands : List (Nat × Nat × Nat) := []
  retired : List (Nat × Nat) := []
  bist : Option BistRun := none
  due : List Promo := []
  pass : Bool := false
  exhausted : List Nat := []
  wearAt : Option Nat := none
  passAt : Option Int := none
  deriving DecidableEq, Repr

/-- A receive completion descriptor (Table 16-9). -/
structure RxCompl where
  cookie : Nat
  len : Nat
  port : Nat
  flags : Nat
  time : Nat
  tci : Nat
  csum : Nat
  rule : Nat
  frameLen : Nat
  deriving DecidableEq, Repr

/-- A descriptor that the engine writes on a ring (Table 16-3). -/
inductive Desc where
  | completion (c : Completion)
  | event (e : Event)
  | acq (r : AcqRes)
  | measHead (r : MeasRec)
  | measCont (items : List StopItem)
  | obsHead (o : Obs)
  | obsCont (o : Obs)
  | solHead (r : SolRec)
  | solCont (r : SolRec)
  | ream (e : ReamEntry) (part : Nat)
  | rx (r : RxCompl)
  deriving DecidableEq, Repr

/-- What leaves the engine: the model's record of its pins and buses, newest first. It is no register; nothing reads it. -/
inductive Out where
  | ring (slot addr : Nat) (bytes : List Byte)
  | mailbox (c : Completion)
  | hostWrite (addr : Nat) (bytes : List Byte)
  | msix (fn vector : Nat)
  | strobe (strobe steps width : Nat) (pin loopback : Bool)
  | frame (port : Nat) (at_ : Nat) (bytes : List Byte)
  | pps (output : Nat) (at_ : Nat) (width : Nat) (high : Bool)
  | tod (output baud : Nat) (bytes : List Byte)
  | couch (lanes : Nat) (bytes : List Byte)
  | efc (code : Nat)
  | atom (baud : Nat) (bytes : List Byte)
  | module (port device offset : Nat) (bytes : List Byte)
  | spi (words : List Nat)
  deriving DecidableEq, Repr

/-- A ring, beside its registers (R374 to R380): entries posted since its vector last fired, and the time of the first. -/
structure RingSt where
  unsignalled : Nat := 0
  firstTime : Int := 0
  lastCount : Nat := 0
  deriving DecidableEq, Repr

/-- A receive buffer descriptor that the engine has read (R389). -/
structure RxBuf where
  addr : Nat
  len : Nat
  cookie : Nat
  deriving DecidableEq, Repr

/-- A host frame on its way to the host (R390): the receive completion ring, its bytes still to be written, the completions
of the buffers already used, what they will carry, and the sheet edges it has been stalled for. -/
structure RxHold where
  ring : Nat
  left : List Byte
  used : List (Nat × Nat)
  port : Nat
  flags : Nat
  time : Nat
  tci : Nat
  csum : Nat
  rule : Nat
  len : Nat
  stall : Nat
  deriving DecidableEq, Repr

/-- A marker event that waits for class 3 stock (R391, R441). -/
structure MarkHold where
  ev : Event
  age : Nat
  deriving DecidableEq, Repr

/-- Host interface, beside its registers: rings, events and completions that wait for ring room (R379) with the slot of the event
staging area where the oldest event stands, transmit descriptors of a frame not yet whole by ring (R388), events raised by
the reporting of others, marks that wait for stock, the mailbox window (Table 16-11), receive buffers by ring, frames in
the receive holding area, whether the next event carries GAP. -/
structure HifSt where
  rings : List RingSt := List.replicate 64 {}
  events : List Desc := []
  evHead : Nat := 0
  eventsDue : List Event := []
  eventGap : Bool := false
  compl : List Completion := []
  marks : List MarkHold := []
  mbDesc : List Byte := List.replicate 32 0
  mbCompl : List Byte := List.replicate 32 0
  mbIrqEn : Bool := false
  mbDone : Bool := false
  mbData : List Byte := List.replicate 3072 0
  rxBufs : List (List RxBuf) := List.replicate 64 []
  rxHeld : List RxHold := []
  txParts : List (List (List Byte × DmaIn)) := List.replicate 64 []
  deriving DecidableEq, Repr

end Sys2Proof.Machine
end

