-- ==== Sys2Proof/Machine/State.lean ====
section
/-! DEFINITION. The state of the block, the reasons a step can stop, and the state right after reset. -/

namespace Sys2Proof.Machine

/-- The vat: listed (address, byte) pairs, addresses strictly rising, no listed byte 0. -/
abbrev Memory := List Host.Cell

/-- Reasons to stop with a fault. No command of this block ends in one. -/
inductive Fault where
  /-- Raised by nothing: the manual lets every command complete. Safe. -/
  | none
  deriving DecidableEq, Repr

/-- Reasons to refuse a command. -/
inductive Refusal where
  /-- Raised by the dispatch for a command that has no meaning yet, with its mnemonic. Safe. -/
  | notModelled (mnemonic : String)
  deriving DecidableEq, Repr

/-- The state: the queue of commands that wait, the registers with the further copies of the triplicated fields, the vat,
what each block holds beside its registers, whether sheet 0 has begun, and whether the engine is held in reset.
`freeIdx` counts the free values used and `out` records what left the engine; both are the model's own. -/
structure State where
  /-- Commands that wait, first in, first out. -/
  pending : List Instr := []
  /-- Register fields by key; a field not listed is at its reset value. -/
  regs : RegFile := []
  /-- Second copies of the triplicated fields (R451). -/
  rwtB : RegFile := []
  /-- Third copies of the triplicated fields (R451). -/
  rwtC : RegFile := []
  /-- The vat (R15, R396). -/
  vat : Memory := []
  /-- Work held back (R41, R439, R441). -/
  held : List Held := []
  /-- Sheet 0 has begun (R484, R486). -/
  running : Bool := false
  /-- The engine is held in reset (R479). -/
  inReset : Bool := false
  /-- GLB, beside its registers. -/
  glb : GlbSt := {}
  /-- LEDGER, beside its registers. -/
  ledger : LedgerSt := {}
  /-- REAM, beside its registers. -/
  ream : ReamSt := {}
  /-- HIF, beside its registers. -/
  hif : HifSt := {}
  /-- IRQ, beside its registers. -/
  irq : IrqSt := {}
  /-- FLT, beside its registers. -/
  flt : FltSt := {}
  /-- VAT, beside its registers. -/
  vatc : VatSt := {}
  /-- SIZING, beside its registers. -/
  siz : SizSt := {}
  /-- SPARE, beside its registers. -/
  spare : SpareSt := {}
  /-- TIME, beside its registers. -/
  time : TimeSt := {}
  /-- SHEET, beside its registers. -/
  sheet : SheetSt := {}
  /-- TDC, beside its registers. -/
  tdc : TdcSt := {}
  /-- GNSSF and GNSSC, beside its registers. -/
  gnss : GnssSt := {}
  /-- GNSSN, beside its registers. -/
  nav : NavSt := {}
  /-- REFSEL, beside its registers. -/
  ref : RefSt := {}
  /-- HOLD, beside its registers. -/
  hold : HoldSt := {}
  /-- SYN, beside its registers. -/
  syn : SynSt := {}
  /-- BOUND, beside its registers. -/
  bound : BoundSt := {}
  /-- MAC, beside its registers. -/
  mac : MacSt := {}
  /-- PTP, beside its registers. -/
  ptp : PtpSt := {}
  /-- NTS, beside its registers. -/
  nts : NtsSt := {}
  /-- KEY, beside its registers. -/
  key : KeySt := {}
  /-- COUCH, beside its registers. -/
  couch : CouchSt := {}
  /-- KEEP, beside its registers. -/
  keep : KeepSt := {}
  /-- Free values used so far. -/
  freeIdx : Nat := 0
  /-- What left the engine, newest first. -/
  out : List Out := []
  deriving DecidableEq, Repr

/-- The machine right after a cold reset (R479, R483): every register at the reset value of its map, the vat not listed. -/
def State.reset : State := {}

end Sys2Proof.Machine
end

