-- ==== Sys2Proof/Machine/Ops.lean ====
section
/-! DEFINITION. The named operations over the state: the vat's bytes, registers, stock, interrupts, counters, work held
back, rings, the ream, events, completions, and what every command goes through. -/

namespace Sys2Proof.Machine

/-! ### The vat as bytes (R15, R396 to R405) -/

/-- The byte at a vat address: the listed one, else 0, which vat initialisation writes everywhere (R484). -/
def Memory.read : Memory → Nat → Byte
  | [], _ => 0
  | (k, v) :: t, a => if k = a then v else if a < k then 0 else Memory.read t a

/-- The vat with an address unlisted. -/
def Memory.drop : Memory → Nat → Memory
  | [], _ => []
  | (k, v) :: t, a => if k = a then t else if a < k then (k, v) :: t else (k, v) :: Memory.drop t a

/-- The vat with an address listed. -/
def Memory.list : Memory → Nat → Byte → Memory
  | [], a, b => [(a, b)]
  | (k, v) :: t, a, b =>
    if k = a then (a, b) :: t
    else if a < k then (a, b) :: (k, v) :: t else (k, v) :: Memory.list t a b

/-- The vat after one byte is written; a byte of 0 is unlisted, so that equal contents are equal lists. -/
def Memory.write (m : Memory) (a : Nat) (b : Byte) : Memory := if b = 0 then m.drop a else m.list a b

/-- The vat after a run of bytes is written from an address upwards. -/
def Memory.writes : Memory → Nat → List Byte → Memory
  | m, _, [] => m
  | m, a, b :: bs => Memory.writes (m.write a b) (a + 1) bs

/-- `n` bytes of the vat from an address upwards. -/
def Memory.reads (m : Memory) (a : Nat) : Nat → List Byte
  | 0 => []
  | n + 1 => m.read a :: Memory.reads m (a + 1) n

/-- The canonical form: addresses strictly rising, and no byte listed that an unlisted address reads as. -/
def Memory.wf : Memory → Bool
  | [] => true
  | [(_, v)] => v != 0
  | (k, v) :: (k', v') :: t => (v != 0) && decide (k < k') && Memory.wf ((k', v') :: t)

/-! ### Registers (R3 to R7) -/

/-- The value of a register field. -/
def State.get (s : State) (f : Fld) : Nat := s.regs.get f

/-- The state after a register field takes a value. -/
def State.put (s : State) (f : Fld) (v : Nat) : State := { s with regs := s.regs.put f v }

/-- A one-bit field as a truth value. -/
def State.flag (s : State) (f : Fld) : Bool := s.get f != 0

/-- The state after a one-bit field is set or cleared. -/
def State.putB (s : State) (f : Fld) (b : Bool) : State := s.put f (if b then 1 else 0)

/-- A field read as a signed number of its width. -/
def State.geti (s : State) (f : Fld) : Int := toS f.width (s.get f)

/-- The state after a field takes a signed number, narrowed to its width. -/
def State.puti (s : State) (f : Fld) (i : Int) : State := s.put f (ofS f.width i)

/-- Write of several fields, in order. -/
def State.puts (s : State) : List (Fld × Nat) → State
  | [] => s
  | (f, v) :: t => State.puts (s.put f v) t

/-- The state with one more output, newest first. -/
def State.emit (s : State) (o : Out) : State := { s with out := o :: s.out }

/-- The vote of three copies of an RWT field (R451): the value of two that agree, or the safe value. -/
def vote3 (a b c safe : Nat) : Nat := if a = b then a else if a = c then a else if b = c then b else safe

/-- Whether no two copies of an RWT field agree. -/
def voteFails (a b c : Nat) : Bool := a != b && a != c && b != c

/-- The RWT fields with their safe values (Table 20-1). -/
def rwtFields : List (Fld × Nat) :=
  [(GLB.GLB_MODE_MODE, 0), (SYN.OUT_EN_CLK, 0), (SYN.OUT_EN_PPS, 0), (SYN.OUT_EN_TOD, 0), (SYN.OUT_EN_SQ_LOST, 1),
   (SYN.OUT_EN_SQ_FREE, 0), (REFSEL.REF_OVERRIDE_FORCE_SLOT, 0), (REFSEL.REF_OVERRIDE_FORCE_EN, 0),
   (REFSEL.REF_OVERRIDE_LOCKOUT, 0xFFFF), (KEY.KEY_CTRL_WRITE_EN, 0), (KEY.KEY_CTRL_DERIVE_EN, 0),
   (KEY.KEY_CTRL_LOCK, 1), (LEDGER.CEILING, 60), (LEDGER.EMERG_CEILING, 60)]

/-- The safe value of an RWT field (Table 20-1). -/
def safeOf (f : Fld) : Nat := ((rwtFields.find? (fun p => p.1.key == f.key)).map (·.2)).getD 0

/-- An RWT field as every part of the engine samples it: the vote of its three copies (R451). -/
def State.getT (s : State) (f : Fld) : Nat :=
  if s.glb.voteFailed.contains f.key then safeOf f
  else vote3 (s.regs.get f) (s.rwtB.get f) (s.rwtC.get f) (safeOf f)

/-- A write of an RWT field updates all three copies (R451). -/
def State.putT (s : State) (f : Fld) (v : Nat) : State :=
  { s with regs := s.regs.put f v, rwtB := s.rwtB.put f v, rwtC := s.rwtC.put f v }

/-- The mode in force, encoded as in Table 15-1 (R1, R454): it changes only at a sheet edge, also when the vote of GLB_MODE has
failed (R451). -/
def State.mode (s : State) : Nat := s.glb.mode

/-- Modes that serve clients: GRANDMASTER, BOUNDARY and HOLDOVER_SERVICE (Table 0-2). -/
def servingMode (m : Nat) : Bool := m == 2 || m == 3 || m == 4

/-- The sheet number (R25). -/
def State.sheetNo (s : State) : Nat := s.get SHEET.SHEET_NUM

/-- The 64-bit short time of the counter (R9). -/
def State.now (s : State) : Nat := s.time.cnt / 2 ^ 32 % 2 ^ 64

/-- The count of 2⁻¹⁶ ns units since the epoch (R8). -/
def State.units (s : State) : Nat := s.time.cnt / 2 ^ 32

/-- The counter without the steps it has made since reset (R488), in 2⁻¹⁶ ns units: ages are measured on it. -/
def State.mono (s : State) : Int := (s.units : Int) - s.time.shift

/-- Whether an instant, on the counter without its steps, is reached within the present sheet: a timer that ends at it may be reported
to have ended. -/
def State.reaches (s : State) (t : Int) : Bool := !s.running || decide (t ≤ s.mono + ((s.time.next : Int) - (s.units : Int)))

/-- The wide time of a count of 2⁻¹⁶ ns units (R8): TAI seconds, nanoseconds, fraction. -/
def wideOf (u : Nat) : Nat :=
  (u / 65536 / 1000000000) * 2 ^ 48 + (u / 65536 % 1000000000) * 65536 + u % 65536

/-- The count of 2⁻¹⁶ ns units that a wide time spells (R8). -/
def unitsOfWide (w : Nat) : Nat :=
  ((w / 2 ^ 48) * 1000000000 + w / 65536 % 2 ^ 32) * 65536 + w % 65536

/-- Where the block of a BAR0 offset stands in the order of Table 1-1. -/
def blockOf (a : Nat) : Nat := (blocks.filter (fun b => decide (b.1 ≤ a))).length - 1

/-! ### The ledger (R436 to R441) -/

/-- Class 0 draws from the shared stock, then from the floors of classes 4, 3, 2, 1, then beyond the budget (R440). -/
def drawFloors (need : Nat) : List Nat → Nat × List Nat
  | [] => (need, [])
  | f :: fs =>
    let r := drawFloors need fs
    (r.1 - f, (f - r.1) :: r.2)

/-- Charge of a class 0 operation, which is never refused (R440). No stock is charged before sheet 0 (R484). -/
def State.charge0 (s : State) (cost : Nat) : State :=
  if s.running then
    let l := s.ledger
    let n1 := cost - l.reserve
    let sh := s.get LEDGER.SHARED_LEFT
    let n2 := n1 - sh
    let r := drawFloors n2 l.floors
    { (s.put LEDGER.SHARED_LEFT (sh - n1)) with
      ledger := { l with
        reserve := l.reserve - cost
        floors := r.2
        drawn := setNth l.drawn 0 (nth l.drawn 0 0 + cost)
        beyondReserve := l.beyondReserve || decide (0 < n1)
        beyondBudget := l.beyondBudget || decide (0 < r.1) } }
  else s

/-- Charge of an operation of classes 1 to 4 (R439): the floor first, then the shared stock within CAPc; none when the
class cannot pay, or when the power warning has stopped admission of classes 2 to 4 (R442). -/
def State.charge (s : State) (c cost : Nat) : Option State :=
  if !s.running then some s
  else if c == 0 then some (s.charge0 cost)
  else if s.ledger.warnStop && decide (2 ≤ c) then none
  else
    let l := s.ledger
    let fl := nth l.floors (c - 1) 0
    let rest := cost - fl
    let sh := s.get LEDGER.SHARED_LEFT
    if rest = 0 ∨ (rest ≤ sh ∧ nth l.drawn c 0 + cost ≤ s.get (LEDGER.CAP c)) then
      some { (s.put LEDGER.SHARED_LEFT (sh - rest)) with
        ledger := { l with
          floors := setNth l.floors (c - 1) (fl - cost)
          drawn := setNth l.drawn c (nth l.drawn c 0 + cost) } }
    else none

/-! ### Interrupts (R415 to R425) -/

/-- Whether a source is level triggered (Table 18-1). -/
def levelSource (x : Nat) : Bool := decide (64 ≤ x) && decide (x ≤ 217)

/-- Whether Table 18-1 marks a source as reserved. -/
def reservedSource (x : Nat) : Bool := (decide (218 ≤ x) && decide (x ≤ 255)) || decide (305 ≤ x)

/-- The vector of a source (R416). -/
def State.vecOf (s : State) (x : Nat) : Nat :=
  if x < 64 then s.get (HIF.RING_CFG_VECTOR x) else if x = 304 then 64 else s.get (IRQ.SRC_CFG_VECTOR x)

/-- The enable of a source (R416). -/
def State.srcEn (s : State) (x : Nat) : Bool :=
  if x = 304 then s.hif.mbIrqEn else s.flag (IRQ.SRC_CFG_EN x)

/-- The highest group claimed on a vector, 16 when none is (R419). -/
def State.claimGroup (s : State) (v : Nat) : Nat :=
  (nth s.irq.claims v []).foldl (fun g c => min g c.group) 16

/-- Whether a source is eligible on a vector (R419). -/
def State.eligibleOn (s : State) (v x : Nat) : Bool :=
  s.flag (IRQ.SRC_CFG_PENDING x) && !s.flag (IRQ.SRC_CFG_CLAIMED x) && !s.irq.autoHeld.contains x &&
    (s.vecOf x == v) && s.srcEn x && s.flag (IRQ.VEC_CFG_EN v) &&
    decide (s.get (IRQ.SRC_CFG_GROUP x) < s.claimGroup v)

/-- The eligible sources of a vector, lowest number first. -/
def State.eligible (s : State) (v : Nat) : List Nat := (List.range 512).filter (s.eligibleOn v)

/-- A vector sends its message, or holds it by masking (R419, R420). INT_N is vector 64 (R425). -/
def State.sendMsg (s : State) (v : Nat) : State :=
  if v = 64 then s
  else if s.irq.masked.contains v then s.putB (IRQ.VEC_STAT_PBA v) true
  else (s.charge0 20).emit (.msix (s.get (IRQ.VEC_CFG_FN v)) v)

/-- What VEC_STAT and INT_N show of a vector (R425, Table 18-6). -/
def State.showVec (s : State) (v : Nat) (nonEmpty : Bool) : State :=
  let n := (nth s.irq.claims v []).length
  let s := s.puts [(IRQ.VEC_STAT_STATE v, if n ≠ 0 then 2 else if nonEmpty then 1 else 0),
    (IRQ.VEC_STAT_LEVEL v, min 15 (s.claimGroup v)), (IRQ.VEC_STAT_DEPTH v, n)]
  if v = 64 then s.putB IRQ.IRQ_STATUS_INT_N (nonEmpty && s.flag (IRQ.VEC_CFG_EN 64)) else s

/-- The eligible set of a vector is judged again: one message when it turns from empty to not empty, and one after a
claim or completion that leaves it not empty (R419). -/
def State.vecRefresh (s : State) (v : Nat) (always : Bool) : State :=
  let ne := !(s.eligible v).isEmpty
  let was := s.irq.ready.contains v
  let s := { s with irq := { s.irq with ready := if ne then (if was then s.irq.ready else v :: s.irq.ready)
                                                 else s.irq.ready.filter (· != v) } }
  let s := s.showVec v ne
  if ne && (always || !was) then s.sendMsg v else s

/-- A source becomes pending or stops being pending (R415). -/
def State.setPending (s : State) (x : Nat) (p : Bool) : State :=
  let was := s.flag (IRQ.SRC_CFG_PENDING x)
  if was == p then s
  else
    let n := s.get IRQ.IRQ_STATUS_PENDING
    let s := (s.putB (IRQ.SRC_CFG_PENDING x) p).put IRQ.IRQ_STATUS_PENDING (if p then n + 1 else n - 1)
    s.vecRefresh (s.vecOf x) false

/-- An edge source has its event (R415). -/
def State.irqEdge (s : State) (x : Nat) : State := if reservedSource x then s else s.setPending x true

/-- The condition of a level source begins or ends (R415, R417, R423). -/
def State.irqLevel (s : State) (x : Nat) (b : Bool) : State :=
  let s := s.putB (IRQ.SRC_CFG_RAW x) b
  let p := b || s.flag (IRQ.SRC_CFG_FORCE x)
  let s := if p then s else { s with irq := { s.irq with autoHeld := s.irq.autoHeld.filter (· != x) } }
  s.setPending x p

/-! ### Event counters and performance counters (R453, R460, R461) -/

/-- Events of Table 20-5 that no QUAL restricts. -/
def plainEvent (ev : Nat) : Bool := [0x01, 0x02, 0x07, 0x0F].contains ev

/-- Performance counters count `n` of an event with a qualifier (R460); a wrap makes source 256 + k pending (R461). -/
def State.pmuOne (s : State) (ev qual n k : Nat) : State :=
  let q := s.get (PMU.PMU_SEL_QUAL k)
  if s.flag (PMU.PMU_SEL_EN k) && (s.get (PMU.PMU_SEL_EVENT k) == ev) && (q == 0xFF || q == qual || plainEvent ev) then
    let v := s.get (PMU.PMU_CNT k) + n
    let s := s.put (PMU.PMU_CNT k) (v % 2 ^ 48)
    if 2 ^ 48 ≤ v then s.irqEdge (256 + k) else s
  else s

/-- Every performance counter counts `n` of an event with a qualifier (R460). -/
def State.pmu (s : State) (ev qual n : Nat) : State :=
  (List.range 32).foldl (fun s k => s.pmuOne ev qual n k) s

/-- A 48-bit event counter counts `n`; it sticks at 2⁴⁸ − 1 and then raises its block's overflow bit (R453). -/
def State.incBy (s : State) (f : Fld) (n : Nat) : State :=
  let v := s.get f + n
  if s.get f = 2 ^ 48 - 1 then s
  else if v < 2 ^ 48 - 1 then s.put f v
  else
    let b := blockOf (f.key / 32)
    let s := (s.put f (2 ^ 48 - 1)).put GLB.GLB_CNT_OVF (putBit (s.get GLB.GLB_CNT_OVF) b true)
    s.irqLevel (192 + b) true

/-- A 48-bit event counter counts one (R453). -/
def State.inc (s : State) (f : Fld) : State := s.incBy f 1

/-! ### Stock refusals and work held back (R439, R441) -/

/-- Work waits at a stage; later commands of the named command ring wait behind it (R383, R441). -/
def State.waitAt (s : State) (i : Instr) (c stage : Nat) (ring : Option Nat) : State :=
  { s with held := s.held ++ [⟨i, c, stage, 0, ring⟩] }

/-- An operation that cannot be paid for is counted and held back at its stage (R439, R441). -/
def State.holdBack (s : State) (i : Instr) (c stage : Nat) (ring : Option Nat) : State :=
  ((s.inc (LEDGER.REFUSE_CNT c)).pmu 0x0D c 1).waitAt i c stage ring

/-- An operation admitted if its class can pay, else held back (R439, R441). -/
def State.tryPay (s : State) (c cost : Nat) (i : Instr) (stage : Nat) (f : State → State) (ring : Option Nat := none) : State :=
  match s.charge c cost with
  | some s' => f s'
  | none => s.holdBack i c stage ring

/-- An operation that is never held back: its class pays, and class 0 where the class cannot. -/
def State.pay (s : State) (c cost : Nat) : State :=
  match s.charge c cost with
  | some s' => s'
  | none => (s.inc (LEDGER.REFUSE_CNT c)).charge0 cost

/-- An operation that is paused where it stands when its class cannot pay (Table 19-1, class 4). -/
def State.orPause (s : State) (c cost : Nat) (f : State → State) : State :=
  match s.charge c cost with
  | some s' => f s'
  | none => (s.inc (LEDGER.REFUSE_CNT c)).pmu 0x0D c 1

/-- A free value, for what the manual leaves open: nothing is known of it, and the next one is another. -/
def State.free (s : State) : Nat × State := (Config.freeNat s.freeIdx, { s with freeIdx := s.freeIdx + 1 })

/-! ### Rings written by the engine (R374 to R380) -/

/-- Descriptors a ring holds (R374). -/
def State.ringSize (s : State) (n : Nat) : Nat := 2 ^ s.get (HIF.RING_CFG_SIZE_LOG2 n)

/-- Descriptors outstanding between the two counts of a ring, modulo 2³² (R375). -/
def State.ringFill (s : State) (n : Nat) : Nat :=
  (s.get (HIF.RING_PROD n) + 2 ^ 32 - s.get (HIF.RING_CONS n)) % 2 ^ 32

/-- Whether a ring runs: enabled and not halted (Table 16-7). -/
def State.ringRuns (s : State) (n : Nat) : Bool :=
  s.flag (HIF.RING_CFG_ENABLE n) && !s.flag (HIF.RING_STAT_HALTED n)

/-- Whether a running ring has room for `k` descriptors (R376, R379). -/
def State.ringRoom (s : State) (n k : Nat) : Bool := s.ringRuns n && decide (s.ringFill n + k ≤ s.ringSize n)

/-- The enabled ring of a type, if there is one (Table 16-3). -/
def State.ringOf (s : State) (ty : Nat) : Option Nat :=
  (List.range 64).find? (fun n => s.flag (HIF.RING_CFG_ENABLE n) && (s.get (HIF.RING_CFG_TYPE n) == ty))

/-- The short-time now and sheet of an event, with its code, object and value (R391). -/
def State.mkEvent (s : State) (code object : Nat) (value : Int) : Event :=
  ⟨code, object, s.now, s.sheetNo, toS 48 (ofS 48 value), false⟩

/-- The Bus Master Enable of the function that owns a ring (R377). -/
def State.ringBme (s : State) (n : Nat) : Bool :=
  if s.flag (HIF.RING_CFG_FN n) then s.flag HIF.HIF_STATUS_PF1_BME else s.flag HIF.HIF_STATUS_PF0_BME

/-- The bytes of the vat (R396). -/
def vatSize : Nat := 2 ^ 27

/-- Whether the regions permit a master an access (R405). The scrubber and SPARE are not subject to regions. -/
def State.vatMay (s : State) (m a n : Nat) (write : Bool) : Bool :=
  decide (a + n ≤ vatSize) && (m == 12 || m == 14 || (List.range 16).any (fun r =>
    s.flag (VAT.REG_LIMIT_EN r) && decide (s.get (VAT.REG_BASE r) * 65536 ≤ a) &&
      decide (a + n ≤ (s.get (VAT.REG_LIMIT_LIMIT r) + 1) * 65536) &&
      bitOf (if write then s.get (VAT.PERM_W m) else s.get (VAT.PERM_R m)) r))

/-- A denied access is counted and recorded, and VAT_STATUS.DENY raised (R405). -/
def State.denyMark (s : State) (m a : Nat) (write : Bool) : State :=
  (s.inc VAT.REGION_DENY_CNT).puts [(VAT.DENY_ADDR, a), (VAT.DENY_MASTER_MASTER, m),
    (VAT.DENY_MASTER_WRITE, if write then 1 else 0), (VAT.VAT_STATUS_DENY, 1)]

/-- A denied access of the writer of the ream or of a staging area: its event waits behind what is being staged. -/
def State.denyDue (s : State) (m a : Nat) (write : Bool) : State :=
  let s := s.denyMark m a write
  if s.vatc.denied then s
  else { s with
    vatc := { s.vatc with denied := true }
    hif := { s.hif with eventsDue := s.hif.eventsDue ++ [s.mkEvent 0x0D02 m a] } }

/-- Whole words written at vat addresses are no longer poisoned (R403). -/
def State.unpoison (s : State) (a n : Nat) : State :=
  { s with vatc := { s.vatc with poison := s.vatc.poison.filter (fun w => !(decide (a ≤ 8 * w) && decide (8 * w + 8 ≤ a + n))) } }

/-- One bank access per 64-byte line of an access is counted (R397, Table 20-5). -/
def State.vatCount (s : State) (a n : Nat) : State :=
  if n = 0 then s
  else (List.range ((a + n - 1) / 64 - a / 64 + 1)).foldl (fun s i => s.pmu 0x0A ((a / 64 + i) % 64) 1) s

/-- Where the ream stands in the vat (Table 1-2): entry SEQ at 64 × (SEQ mod 65,536). -/
def reamBase : Nat := 0x06000000

/-- The slot of the ream in which an entry stands. -/
def reamSlot (seq : Nat) : Nat := reamBase + 64 * (seq % 65536)

/-- The ream (R459): an entry is written while at least two slots are free, else it is lost into a GAP entry. An entry that the
regions deny is lost and counted (R405). -/
def State.reamWrite (s : State) (e : ReamEntry) : State :=
  let n := s.ream.entries.length
  let seq := s.get REAM.REAM_SEQ
  if !s.vatMay 13 (reamSlot seq) 64 true then ((s.denyDue 13 (reamSlot seq) true).charge0 60).inc REAM.REAM_LOST_CNT
  else if n + 2 ≤ 65536 then
    let s := (s.putB REAM.REAM_STATUS_GAP_OPEN false).put REAM.REAM_SEQ (seq + 1)
    let s := s.put REAM.REAM_UNDRAINED (n + 1)
    ({ s.putB REAM.REAM_STATUS_FULL (decide (65536 < n + 3)) with
      ream := { s.ream with entries := s.ream.entries ++ [{ e with seq := seq }] } }).unpoison (reamSlot seq) 64
  else if s.flag REAM.REAM_STATUS_GAP_OPEN then
    let l := s.ream.entries
    let upd := match l.getLast? with
      | some g => l.dropLast ++ [{ g with old := g.old + 1, new := s.sheetNo }]
      | none => l
    (({ s with ream := { s.ream with entries := upd } }).charge0 60).inc REAM.REAM_LOST_CNT
  else
    let g : ReamEntry := ⟨seq, false, wideOf s.units, s.sheetNo, .auto, 9, 0, 1, s.sheetNo, 0⟩
    let s := s.puts [(REAM.REAM_STATUS_GAP_OPEN, 1), (REAM.REAM_STATUS_REAM_LOSS, 1), (REAM.REAM_STATUS_FULL, 1),
      (REAM.REAM_SEQ, seq + 1), (REAM.REAM_UNDRAINED, n + 1)]
    let s := ({ s with ream := { s.ream with entries := s.ream.entries ++ [g] } }).unpoison (reamSlot seq) 64
    let s := ((s.charge0 60).inc REAM.REAM_LOST_CNT).inc REAM.GAP_CNT
    { s with hif := { s.hif with eventsDue := s.hif.eventsDue ++ [s.mkEvent 0x1003 0 0] } }

/-- A happening of Table 20-3 is journaled (R455). Before sheet 0 it waits, so that the RESET entry is first (R457). -/
def State.journal (s : State) (o : Origin) (kind addr old new code : Nat) : State :=
  let e : ReamEntry := ⟨0, false, wideOf s.units, s.sheetNo, o, kind, addr, old % 2 ^ 64, new % 2 ^ 64, code⟩
  if s.running then s.reamWrite e else { s with ream := { s.ream with early := s.ream.early ++ [e] } }

/-- A ring halts (R377): HALTED and ERR, a journal entry, the event RING_HALT. -/
def State.ringHalt (s : State) (n err : Nat) : State :=
  if s.flag (HIF.RING_STAT_HALTED n) then s
  else
    let s := (s.charge0 300).puts [(HIF.RING_STAT_HALTED n, 1), (HIF.RING_STAT_ERR n, err), (HIF.RING_STAT_RUNNING n, 0)]
    let s := s.journal .auto 3 n err 0 0x0C01
    { s with hif := { s.hif with eventsDue := s.hif.eventsDue ++ [s.mkEvent 0x0C01 n err] } }

/-- A ring raises its vector (R380). -/
def State.ringFire (s : State) (n : Nat) : State :=
  let s := { s with hif := { s.hif with rings := setNth s.hif.rings n { nth s.hif.rings n {} with unsignalled := 0 } } }
  if s.flag (HIF.RING_CFG_IRQ_EN n) then s.irqEdge n else s

/-- The number of an origin (Table 20-4). -/
def originNo : Origin → Nat
  | .pf0 => 0
  | .pf1 => 1
  | .mspi => 2
  | .peer => 3
  | .auto => 4
  | .tamper => 5

/-- The 64 bytes of a ream entry, as the window shows them with the phase bit 0 (Table 20-4). -/
def ReamEntry.bytes (e : ReamEntry) : List Byte :=
  leBytes 8 e.seq ++ (if e.kaTime then leBytes 6 e.time ++ leBytes 6 0 else leBytes 12 e.time) ++
    leBytes 8 (if e.kaTime then 2 ^ 64 - 1 else e.sheet) ++ leBytes 1 (originNo e.origin) ++ leBytes 1 e.kind ++ leBytes 1 0 ++ leBytes 1 0xF ++
    leBytes 4 e.addr ++ leBytes 8 e.old ++ leBytes 8 e.new ++ leBytes 2 e.code ++ leBytes 1 (if e.kaTime then 1 else 0) ++ leBytes 7 0 ++
    leBytes 1 1 ++ leBytes 1 0xF

/-- `n` bytes of a signed number, least significant first. -/
def leSigned (n : Nat) (i : Int) : List Byte := leBytes n (ofS (8 * n) i)

/-- The 8 bytes of a stop item (R89). -/
def StopItem.bytes (i : StopItem) : List Byte :=
  leSigned 7 i.interval ++ leBytes 1 (i.ch % 64 + (if i.order then 64 else 0) + (if i.coincident then 128 else 0))

/-- Bytes filled up with zeros. -/
def padTo (n : Nat) (b : List Byte) : List Byte := (b ++ List.replicate n 0).take n

/-- The TYPE code of a descriptor (Table 16-3). -/
def Desc.type : Desc → Nat
  | .completion _ => 0xA
  | .event _ => 0xB
  | .acq _ => 0x6
  | .measHead _ => 0x1
  | .measCont _ => 0x2
  | .obsHead _ => 0x3
  | .obsCont _ => 0x4
  | .solHead _ => 0x7
  | .solCont _ => 0x8
  | .ream _ _ => 0xF
  | .rx _ => 0xE

/-- Bytes 0 to 30 of a descriptor: a completion (Table 16-4), an event (R391), an acquisition result (Table 5-3), a measurement
record (Table 4-5), an observation (Table 5-7), a solution (Table 6-5), half a ream entry (Table 20-4), a receive completion (Table 16-9). -/
def Desc.body : Desc → List Byte
  | .completion c =>
    leBytes 2 c.opcode ++ leBytes 2 c.tag ++ leBytes 2 c.status ++
      leBytes 1 ((if c.late then 1 else 0) + (if c.origin = .pf1 then 2 else 0) + (if c.origin = .mspi then 4 else 0)) ++
      leBytes 1 c.ring ++ leBytes 8 c.result0 ++ leBytes 8 c.sheet ++ leBytes 4 c.index ++ leBytes 3 0
  | .event e =>
    leBytes 2 e.code ++ leBytes 2 0 ++ leBytes 4 e.object ++ leBytes 8 e.time ++ leBytes 8 e.sheet ++ leSigned 6 e.value ++
      leBytes 1 (if e.gap then 1 else 0)
  | .acq r =>
    leBytes 8 r.epoch ++ leBytes 6 r.codePhase ++ leBytes 2 r.pnr ++ leSigned 4 r.doppler ++ leBytes 2 r.cn0 ++ leBytes 1 r.search ++
      leBytes 1 r.status ++ leBytes 1 r.signal ++ leBytes 1 r.sv ++ leBytes 1 r.channel ++ leBytes 1 r.flags ++ leBytes 2 r.tag ++ leBytes 1 0
  | .measHead r =>
    leBytes 8 r.startTime ++ leBytes 8 r.sheet ++ leBytes 1 (r.window % 64) ++ leBytes 1 (r.startCh % 64) ++ leBytes 1 r.items.length ++
      leBytes 1 ((r.items.length + 2) / 3) ++ leBytes 2 r.ovf ++ leBytes 1 r.gen ++ leBytes 1 0 ++ leBytes 4 r.flags ++ leBytes 3 0
  | .measCont l => padTo 24 (l.flatMap StopItem.bytes) ++ leBytes 7 0
  | .obsHead o =>
    leBytes 8 o.epoch ++ leBytes 6 o.codePhase ++ leBytes 2 o.cn0 ++ leSigned 8 o.carr ++ leBytes 4 o.codeEpoch ++ leBytes 1 o.channel ++
      leBytes 1 o.signal ++ leBytes 1 o.sv
  | .obsCont o =>
    leSigned 6 o.carrRate ++ leBytes 2 o.flags ++ padTo 20 (o.corr.flatMap (fun (c : Int × Int) => leSigned 2 c.1 ++ leSigned 2 c.2)) ++
      leSigned 2 o.lockInd ++ leBytes 1 (o.state % 16 + 16 * ((o.k + 7).toNat % 16))
  | .solHead r =>
    leBytes 8 r.epoch ++ leSigned 8 r.offset ++ leBytes 4 r.sigma ++ leBytes 4 r.tpl ++ leBytes 1 r.nused ++ leBytes 1 r.nexcl ++
      leBytes 1 r.status ++ leBytes 1 r.refSys ++ leBytes 3 0
  | .solCont r =>
    padTo 20 (r.iso.flatMap (leSigned 4)) ++ leBytes 4 r.sse ++ leBytes 4 r.t ++ padTo 3 (r.excl.flatMap (leBytes 1))
  | .ream e part => (e.bytes.drop (32 * part)).take 31
  | .rx r =>
    leBytes 4 r.cookie ++ leBytes 2 r.len ++ leBytes 1 r.port ++ leBytes 1 r.flags ++ leBytes 8 r.time ++ leBytes 2 r.tci ++ leBytes 1 r.csum ++
      leBytes 1 r.rule ++ leBytes 4 r.frameLen ++ leBytes 7 0

/-- The 32 bytes of a descriptor: byte 31 holds TYPE in bits [3:0] and the phase bit in bit 7 (R374). -/
def Desc.bytes (d : Desc) (phase : Bool) : List Byte := d.body ++ leBytes 1 (d.type + if phase then 0x80 else 0)

/-- Whether the lap in which a descriptor stands has phase 1: its writer's phase is 1 when the ring is enabled and inverts at each
wrap of its index (R374). `k` is the number of descriptors written before it. -/
def State.ringPhase (s : State) (n k : Nat) : Bool := k / s.ringSize n % 2 == 0

/-- The host address of a ring's descriptor: RING_BASE, 32-byte aligned, and the index of the descriptor (R372, R374). -/
def State.ringAddr (s : State) (n k : Nat) : Nat := s.get (HIF.RING_BASE n) / 32 * 32 + 32 * (k % s.ringSize n)

/-- The engine writes one descriptor at the index of a ring, in the phase of its lap, in a single memory write (R374, R376). -/
def State.ringPut (s : State) (n : Nat) (d : Desc) : State :=
  let k := s.get (HIF.RING_PROD n)
  (s.emit (.ring n (s.ringAddr n k) (d.bytes (s.ringPhase n k)))).put (HIF.RING_PROD n) (k + 1)

/-- The engine writes descriptors of one record on a ring with room for them (R374, R376, R380); with the Bus Master
Enable of the owner 0 the ring halts instead (R377). -/
def State.ringWrite (s : State) (n : Nat) (ds : List Desc) : State :=
  if !s.ringBme n then (s.ringHalt n 3).inc HIF.DMA_ERR_CNT
  else
    let k := ds.length
    let r := nth s.hif.rings n {}
    let r := { r with unsignalled := r.unsignalled + k, firstTime := if r.unsignalled = 0 then s.mono else r.firstTime }
    let s := ds.foldl (fun s d => s.ringPut n d) s
    let s := { s with hif := { s.hif with rings := setNth s.hif.rings n r } }
    let s := (s.pmu 0x0E n k).putB (HIF.RING_STAT_FULL n) (!s.ringRoom n 1)
    let c : Nat := s.get (HIF.RING_MOD_COUNT n)
    if c ≠ 0 ∧ c ≤ r.unsignalled then s.ringFire n else s

/-! ### Staging areas in the vat (R90, R119, R379, Table 17-2) -/

/-- An uncorrectable access is recorded and counted, and VAT_STATUS.UNCORR raised (R403). -/
def State.uncorrMark (s : State) (m a : Nat) : State :=
  ((s.charge0 300).inc VAT.UNCORR_CNT).puts [(VAT.UNCORR_ADDR, a), (VAT.UNCORR_MASTER, m), (VAT.UNCORR_SHEET, s.sheetNo), (VAT.VAT_STATUS_UNCORR, 1)]

/-- An uncorrectable access of the reader of a staging area: its event waits behind what is being posted, its journal entry is made. -/
def State.uncorrDue (s : State) (m a : Nat) : State :=
  let s := s.uncorrMark m a
  ({ s with hif := { s.hif with eventsDue := s.hif.eventsDue ++ [s.mkEvent 0x0D01 m a] } }).journal .auto 3 m a m 0x0D01

/-- A denied access of a staging area: as `denyDue`, and the first of a sheet is journaled (R405). -/
def State.denyStage (s : State) (m a : Nat) (write : Bool) : State :=
  if s.vatc.denied then s.denyDue m a write else (s.denyDue m a write).journal .auto 3 m a m 0x0D02

/-- What an access of a staging area gives. -/
inductive Staged where
  | ok | denied | uncorr
  deriving DecidableEq, Repr

/-- An entry of 32 bytes is written into a staging area. -/
def State.stagePut (s : State) (m a : Nat) : Staged × State :=
  if s.vatMay m a 32 true then (.ok, (s.vatCount a 32).unpoison a 32) else (.denied, s.denyStage m a true)

/-- An entry of 32 bytes is read from a staging area. -/
def State.stageGet (s : State) (m a : Nat) : Staged × State :=
  if !s.vatMay m a 32 false then (.denied, s.denyStage m a false)
  else
    match s.vatc.poison.find? (fun w => decide (a ≤ 8 * w) && decide (8 * w < a + 32)) with
    | some w => (.uncorr, (s.vatCount a 32).uncorrDue m (8 * w))
    | none => (.ok, s.vatCount a 32)

/-- The slot of the event staging area at which an entry of the queue stands. -/
def State.evSlot (s : State) (i : Nat) : Nat := 0x06700000 + 32 * ((s.hif.evHead + i) % 4096)

/-- An entry of the event ring with the GAP flag that waits for it (R379). -/
def State.gapOn (s : State) (d : Desc) : Desc :=
  match d with
  | .event e => .event { e with gap := e.gap || s.hif.eventGap }
  | d => d

/-- The GAP flag has gone out with an event (R379). -/
def State.gapGone (s : State) (d : Desc) : State :=
  match d with
  | .event _ => { s with hif := { s.hif with eventGap := false } }
  | _ => s

/-- An entry of the event ring is staged (R379): discarded when the staging is full or the regions deny the write, and the next
event posted then carries GAP. -/
def State.stageDesc (s : State) (d : Desc) : State :=
  if 4096 ≤ s.hif.events.length then ({ s with hif := { s.hif with eventGap := true } }).inc HIF.EVENT_DROP_CNT
  else
    match s.stagePut 11 (s.evSlot s.hif.events.length) with
    | (.ok, s) =>
      let s := { s with hif := { s.hif with events := s.hif.events ++ [d] } }
      s.put HIF.EVT_STAGE s.hif.events.length
    | (_, s) => ({ s with hif := { s.hif with eventGap := true } }).inc HIF.EVENT_DROP_CNT

/-- The oldest staged entry goes out on the event ring if it has room (R379). A read of it that is denied halts the ring with ERR DMA, and
it stays; one found uncorrectable halts the ring with ERR UNCORR (R405, R407). -/
def State.drainEvent (s : State) : State :=
  match s.ringOf 3, s.hif.events with
  | some n, e :: es =>
    if s.ringRoom n 1 then
      let pop := fun (s : State) =>
        ({ s with hif := { s.hif with events := es, evHead := (s.hif.evHead + 1) % 4096 } }).put HIF.EVT_STAGE es.length
      match s.stageGet 11 (s.evSlot 0) with
      | (.ok, s) => ((pop s).gapGone e).ringWrite n [(pop s).gapOn e]
      | (.denied, s) => s.ringHalt n 3
      | (.uncorr, s) => (pop s).ringHalt n 4
    else s.putB (HIF.RING_STAT_FULL n) true
  | _, _ => s

/-- An entry goes to the event ring: at once while none waits and the ring has room, else into the staging area (R379). -/
def State.sendDesc (s : State) (d : Desc) : State :=
  match s.ringOf 3 with
  | some n => if s.hif.events.isEmpty && s.ringRoom n 1 then (s.gapGone d).ringWrite n [s.gapOn d] else (s.stageDesc d).drainEvent
  | none => s.stageDesc d

/-- Events raised by the reporting of other events (a ring halt, a ream gap, a denial) go out behind them. -/
def State.flushDue (s : State) : State :=
  let due := s.hif.eventsDue
  due.foldl (fun s e => s.sendDesc (.event e)) { s with hif := { s.hif with eventsDue := [] } }

/-- An event is posted (R379, R391): to the event ring, or into the event staging area while the ring has no room. -/
def State.postEvent (s : State) (e : Event) : State := s.flushDue.sendDesc (.event e)

/-- An event of the present time is posted, as part of the operation that raises it (R379, R391, R443). -/
def State.eventIn (s : State) (code object : Nat) (value : Int) : State := s.postEvent (s.mkEvent code object value)

/-- An event of the present time is posted; its descriptor is charged (Table 16-12). -/
def State.event (s : State) (code object : Nat) (value : Int) : State := (s.charge0 10).eventIn code object value

/-- A marker event goes out if class 3 can pay and none waits before it; else it waits (R391, R441). -/
def State.postMark (s : State) (e : Event) : State :=
  if s.hif.marks.isEmpty then
    match s.charge 3 40 with
    | some s' => s'.postEvent e
    | none =>
      let s := (s.inc (LEDGER.REFUSE_CNT 3)).pmu 0x0D 3 1
      { s with hif := { s.hif with marks := [MarkHold.mk e 0] } }
  else { s with hif := { s.hif with marks := s.hif.marks ++ [MarkHold.mk e 0] } }

/-- An event that is also journaled with KIND EVENT (Table 20-3): its quantities are OLD and NEW. -/
def State.eventJ (s : State) (o : Origin) (code object : Nat) (value : Int) (old new : Nat) : State :=
  (s.event code object value).journal o 3 object old new code

/-! ### Completions (R381 to R384) -/

/-- A completion is posted: to the mailbox for the maintenance SPI (R393), else to the completion ring that its command
ring names in PAIR, or it waits for room and its command stays outstanding (R379). -/
def State.postCompl (s : State) (c : Completion) : State :=
  if c.origin = .mspi then
    let s := { s with hif := { s.hif with mbCompl := (Desc.completion c).bytes true, mbDone := true } }
    let s := (s.inc HIF.CMD_CNT).puts [(HIF.HIF_INFLIGHT_CMDS, s.get HIF.HIF_INFLIGHT_CMDS - 1), (HIF.HIF_STATUS_MB_BUSY, 0)]
    let s := s.emit (.mailbox c)
    if s.hif.mbIrqEn then s.irqEdge 304 else s
  else
    let n := s.get (HIF.RING_CFG_PAIR c.ring)
    if s.ringRoom n 1 then
      let s := (s.inc HIF.CMD_CNT).put HIF.HIF_INFLIGHT_CMDS (s.get HIF.HIF_INFLIGHT_CMDS - 1)
      s.ringWrite n [.completion c]
    else { s with hif := { s.hif with compl := s.hif.compl ++ [c] } }

/-- A command completes with a status, a RESULT0 and the LATE flag (Table 16-4). -/
def State.complete (s : State) (h : Hdr) (op status result0 : Nat) (late : Bool := false) : State :=
  s.postCompl ⟨op, h.tag, status, late, h.origin, h.ring, result0 % 2 ^ 64, s.sheetNo, h.index⟩

/-- An accepted command that changes state is journaled with its origin (R384): KIND COMMAND, the argument bytes 8 to 15
as OLD and 0 to 7 as NEW (Table 20-3). -/
def State.journalCmd (s : State) (h : Hdr) (op a0 a1 : Nat) : State := s.journal h.origin 2 op a1 a0 0

/-- The command ring of a command, 64 for the mailbox. -/
def cmdSource (h : Hdr) : Nat := if h.origin = .mspi then 64 else h.ring

/-- A command is fetched and judged (R383 to R385): none from a halted ring (R377); in ring order, at most 256 outstanding, none before sheet 0 (R484);
admitted as class 3 work with the further stock its own work costs; refused to PF1 unless its row allows PF1, completed
INVALID or DMA_ERROR when its argument area is malformed or could not be read, and otherwise given its effect. -/
def State.command (s : State) (h : Hdr) (op : Nat) (pf1 : Bool) (self : Instr) (extra : Nat) (f : State → State) : State :=
  let r := cmdSource h
  if h.origin ≠ .mspi ∧ s.flag (HIF.RING_STAT_HALTED h.ring) then s
  else if !s.running || decide (256 ≤ s.get HIF.HIF_INFLIGHT_CMDS) || s.held.any (fun w => w.ring == some r) then
    s.waitAt self 3 0 (some r)
  else s.tryPay 3 ((if h.origin = .mspi then 200 else 110) + extra) self 0 (fun s =>
    let s := s.put HIF.HIF_INFLIGHT_CMDS (s.get HIF.HIF_INFLIGHT_CMDS + 1)
    let s := if h.origin = .mspi then s else s.put (HIF.RING_CONS h.ring) (s.get (HIF.RING_CONS h.ring) + 1)
    let s := if h.origin = .mspi then
        { s.putB HIF.HIF_STATUS_MB_BUSY true with hif := { s.hif with mbDone := false } } else s
    if h.origin = .mspi ∧ s.flag HIF.HIF_STATUS_PF0_BME ∧ s.flag HIF.HIF_CFG_MSPI_SHARE = false then
      (s.eventIn 0x0C02 0 0).complete h op 8 0
    else if h.origin = .pf1 ∧ pf1 = false then (s.inc HIF.CMD_DENIED_CNT).complete h op 8 0
    else match h.form with
      | .malformed => s.complete h op 5 0
      | .blockError => (s.inc HIF.DMA_ERR_CNT).complete h op 10 0
      | .good => f s) (some r)

/-- A command at a stage: its fetch at stage 0, and the rest of its work where it waited at a later one (R439). -/
def State.commandAt (s : State) (h : Hdr) (op : Nat) (pf1 : Bool) (self : Instr) (stage : Nat) (f : State → State) : State :=
  if stage = 0 then s.command h op pf1 self 0 f else f s

/-- The status codes of Table 16-5. -/
def stOK : Nat := 0
def stMODE : Nat := 1
def stRANGE : Nat := 2
def stBUSY : Nat := 3
def stNOTREADY : Nat := 4
def stINVALID : Nat := 5
def stLATE : Nat := 6
def stMOULD : Nat := 7
def stDENIED : Nat := 8
def stUNKNOWN : Nat := 9
def stDMA : Nat := 10
def stABORTED : Nat := 11
def stPOOR : Nat := 12
def stDISCARDED : Nat := 13

/-! ### Vat access (R396 to R407) -/

/-- What a vat read gives its master. -/
inductive VatRead where
  | ok (b : List Byte)
  | denied (b : List Byte)
  | uncorr
  deriving DecidableEq, Repr

/-- How a vat write ended. -/
inductive VatDone where
  | ok | denied | uncorr
  deriving DecidableEq, Repr

/-- A denied access is counted, recorded and raised; the first of a sheet is posted and journaled (R405). -/
def State.vatDeny (s : State) (m a : Nat) (write : Bool) : State :=
  let s := s.denyMark m a write
  if s.vatc.denied then s
  else
    let s := { s with vatc := { s.vatc with denied := true } }
    (s.eventIn 0x0D02 m a).journal .auto 3 m a m 0x0D02

/-- An uncorrectable access is recorded, counted, raised and journaled (R403). -/
def State.vatUncorr (s : State) (m a : Nat) : State :=
  ((s.uncorrMark m a).eventIn 0x0D01 m a).journal .auto 3 m a m 0x0D01

/-- A master reads `n` bytes (R397, R403, R405). -/
def State.vatRead (s : State) (m a n : Nat) : VatRead × State :=
  if !s.vatMay m a n false then (.denied (List.replicate n 0), s.vatDeny m a false)
  else
    match s.vatc.poison.find? (fun w => decide (a < 8 * w + 8) && decide (8 * w < a + n)) with
    | some w => (.uncorr, (s.vatCount a n).vatUncorr m (8 * w))
    | none => (.ok (s.vat.reads a n), s.vatCount a n)

/-- What a master sees of bytes it works from: zeros where the regions deny it (R405). -/
def State.vatSee (s : State) (m a n : Nat) : List Byte := if s.vatMay m a n false then s.vat.reads a n else List.replicate n 0

/-- A master writes bytes: whole words clear a poison, a narrow write to a poisoned word is not performed, and each narrow
word is counted as a read-modify-write (R403 to R405). -/
def State.vatWrite (s : State) (m a : Nat) (b : List Byte) : VatDone × State :=
  let n := b.length
  if n = 0 then (.ok, s)
  else if !s.vatMay m a n true then (.denied, s.vatDeny m a true)
  else
    let w0 := a / 8
    let w1 := (a + n - 1) / 8
    let narrow0 := a % 8 != 0 || (decide (n < 8) && w0 == w1)
    let narrow1 := (a + n) % 8 != 0 && w1 != w0
    let bad0 := narrow0 && s.vatc.poison.contains w0
    let bad1 := narrow1 && s.vatc.poison.contains w1
    let skip0 := if bad0 then min n (8 * w0 + 8 - a) else 0
    let skip1 := if bad1 then a + n - 8 * w1 else 0
    let keep := (b.drop skip0).take (n - skip0 - skip1)
    let s := s.vatCount a n
    let s := { s with
      vat := s.vat.writes (a + skip0) keep
      vatc := { s.vatc with poison := s.vatc.poison.filter (fun w =>
        !(decide (w0 ≤ w) && decide (w ≤ w1)) || (w == w0 && bad0) || (w == w1 && bad1)) } }
    let s := s.incBy VAT.RMW_CNT ((if narrow0 then 1 else 0) + (if narrow1 then 1 else 0))
    if bad0 then (.uncorr, s.vatUncorr m (8 * w0)) else if bad1 then (.uncorr, s.vatUncorr m (8 * w1)) else (.ok, s)

/-! ### Data of commands (R381, R393, R405, R407) -/

/-- Bytes in the data window of the mailbox (Table 16-11). -/
def mbWindow : Nat := 0xC00

/-- Whether a host address range of a command lies in the mailbox's data window, where the command came from there (R393). -/
def rangeOk (h : Hdr) (addr n : Nat) : Bool := h.origin != .mspi || decide (addr + n ≤ mbWindow)

/-- A command writes its data to the host, or to the data window, and completes (R381, R393). -/
def State.dataOut (s : State) (h : Hdr) (op addr : Nat) (b : List Byte) (result : Nat) : State :=
  if !rangeOk h addr b.length then s.complete h op 5 0
  else if h.origin = .mspi then
    let d := s.hif.mbData
    let s := { s with hif := { s.hif with mbData := d.take addr ++ b ++ d.drop (addr + b.length) } }
    s.complete h op 0 result
  else if h.dmaOk then (s.emit (.hostWrite addr b)).complete h op 0 result
  else (s.inc HIF.DMA_ERR_CNT).complete h op 10 0

/-- What a command reads from the host, or from the data window; none when the read failed (R381, R393). -/
def State.dataIn (s : State) (h : Hdr) (addr n : Nat) (d : DmaIn) : Option (List Byte) :=
  if h.origin = .mspi then some ((s.hif.mbData.drop addr).take n)
  else if d.ok && decide (n ≤ d.bytes.length) then some (d.bytes.take n) else none

/-- A command sends a part of the vat to the host through the HIF master: denied or uncorrectable data end it with
DMA_ERROR, and an uncorrectable error halts its ring (R405, R407). -/
def State.vatOut (s : State) (h : Hdr) (op addr a n result : Nat) : State :=
  let r := s.vatRead 11 a n
  match r.1 with
  | .ok b => r.2.dataOut h op addr b result
  | .denied _ => r.2.complete h op 10 0
  | .uncorr => (if h.origin = .mspi then r.2 else r.2.ringHalt h.ring 4).complete h op 10 0

/-- Stock of a DMA of `n` bytes (Table 16-12). -/
def dmaStock (n : Nat) : Nat := (n + 63) / 64 * 8

/-! ### Sizing items and candidates (R464 to R470) -/

/-- The copy of an item in the user bank, if it holds one. -/
def State.userItem (s : State) (item : Nat) : Option SizItem := s.siz.user.find? (fun i => i.item == item)

/-- TAI seconds of the counter (R8). -/
def State.taiSec (s : State) : Nat := s.units / 65536 / 1000000000

/-- A sizing command or load writes an item, to take effect at the next sheet edge (R466). -/
def State.sizeItem (s : State) (o : Origin) (item sizedAt : Nat) (body : List Byte) : State :=
  { s with siz := { s.siz with due := s.siz.due ++ [.load o item sizedAt body] } }

/-- The name of a unit among the retired ones: of the vat, a column of a bank. -/
def unitKey (target unit column : Nat) : Nat := if target = 0 then unit * 16384 + column else unit

/-- A unit becomes a candidate for promotion (R470), unless it is one or is retired; CAND saturates. -/
def State.addCandidate (s : State) (target unit column : Nat) : State :=
  if s.spare.cands.any (fun c => c.1 == target && c.2.1 == unit && c.2.2 == column) || s.spare.retired.contains (target, unitKey target unit column) then s
  else
    { s with spare := { s.spare with cands := s.spare.cands ++ [(target, unit, column)] } }

/-- What CAND shows of the candidates (Table 20-10). -/
def State.showCands (s : State) : State :=
  let n := fun t => (s.spare.cands.filter (fun c => c.1 == t)).length
  s.puts [(SPARE.CAND_VAT, min 255 (n 0)), (SPARE.CAND_AES, min 15 (n 2)), (SPARE.CAND_LANES, min 255 (n 1)),
    (SPARE.CAND_LINES, min 255 (n 3))]

/-! ### Registers as the bus sees them (R3 to R7, R13, R450) -/

/-- The rows of the block that answers at a BAR0 offset (R13). -/
def blockRows (a : Nat) : List Row := (blocks.getD (blockOf a) (0, [])).2

/-- The rows that make up the register at a BAR0 offset, with the instance that stands there. -/
def rowsAt (a : Nat) : List (Row × Nat) := (blockRows a).filterMap (fun r => (r.instAt a).map (fun i => (r, i)))

/-- Whether a field is triplicated (R451). -/
def isRwt (f : Fld) : Bool := rwtFields.any (fun p => p.1.key == f.key)

/-- A field's value as the bus reads it: voted where it is triplicated. -/
def State.busGet (s : State) (f : Fld) : Nat := if isRwt f then s.getT f else s.get f

/-- The part of a field that one of its registers shows. -/
def Row.part (r : Row) (v : Nat) : Nat :=
  match r.half with
  | .whole => v % 2 ^ r.w
  | .lo _ => v % 2 ^ 32
  | .hi => v / 2 ^ 32

/-- A register read whole, without the side effects some reads have; WO fields read 0, and so does what no map assigns. -/
def State.readReg (s : State) (a : Nat) : Nat :=
  (rowsAt a).foldl (fun v p => if p.1.acc = .wo then v else v + p.1.part (s.busGet (p.1.fld a p.2)) * 2 ^ p.1.lsb) 0

/-- Whether any field of the register at an offset is writable with a code. -/
def regHas (a : Nat) (c : Access) : Bool := (rowsAt a).any (fun p => p.1.acc == c)

/-- The fields of a register after a write: RW, RWL and RWT fields take their bits, unless the map allows no such value. -/
def State.storeFields (s : State) (a v : Nat) : State :=
  (rowsAt a).foldl (fun s p =>
    let r := p.1
    let f := r.fld a p.2
    let part := bits v r.lsb r.w
    let x := match r.half with
      | .whole => part
      | .lo _ => s.busGet f / 2 ^ 32 * 2 ^ 32 + part
      | .hi => part * 2 ^ 32 + (s.glb.stagedLo.find? (fun q => q.1 == a - 4)).elim (s.busGet f % 2 ^ 32) (·.2)
    if r.ok.ok x then
      match r.acc with
      | .rw | .rwl => s.put f x
      | .rwt => s.putT f x
      | _ => s
    else s) s

/-- The whole value a register stands for: of a pair, both halves. -/
def State.wholeReg (s : State) (a : Nat) : Nat :=
  match (rowsAt a).find? (fun p => p.1.half != .whole) with
  | some p => s.busGet (p.1.fld a p.2)
  | none => s.readReg a

/-- A write without an unlock, or refused by a mode condition or a failed vote, is counted and journaled (R450). -/
def State.refuseWrite (s : State) (o : Origin) (a v : Nat) : State :=
  ((s.charge0 60).inc GLB.RWL_DENY_CNT).journal o 1 a (s.readReg a) v 0

/-- The journal entry of a register write, made only when the stored value has changed (R455). -/
def State.journalWrite (s : State) (o : Origin) (a old new : Nat) : State :=
  if old = new then s else (s.charge0 60).journal o 0 a old new 0

/-- A change that the engine makes to a register on its own, journaled with origin AUTO. -/
def State.autoWrite (s : State) (a : Nat) (f : State → State) : State :=
  let old := s.wholeReg a
  let s := f s
  s.journalWrite .auto a old (s.wholeReg a)

/-- The unlock of an origin is used up (R449). -/
def State.useUnlock (s : State) (o : Origin) : Bool × State :=
  let had := s.glb.unlocks.any (fun u => u.origin == o && decide (u.edges < 2))
  let s := { s with glb := { s.glb with unlocks := s.glb.unlocks.filter (fun u => u.origin != o) } }
  (had, if o = .mspi then s.putB GLB.GLB_STATUS_UNLOCK_MSPI false
        else if o = .pf0 then s.putB GLB.GLB_STATUS_UNLOCK_PF0 false else s)

/-- A write reaches BAR0 (R371, R449, R450, R455): PF1's are ignored and counted; a write uses up its origin's unlock,
unless it stages the _LO half of an RWL pair; `modeOk` is the register's own mode condition, `ok` any other condition under
which the write is ignored, and `after` what the engine does when the write has been applied. -/
def State.busStore (s : State) (o : Origin) (a v : Nat) (modeOk ok : Bool) (after : State → State) : State :=
  if o = .pf1 then s.inc HIF.PF1_WRITE_DENY_CNT
  else
    let lo := (rowsAt a).any (fun p => match p.1.half with | .lo _ => p.1.acc != .hro && p.1.acc != .ro | _ => false)
    if (rowsAt a).isEmpty then (s.useUnlock o).2
    else if lo && regHas a .rwl then { s with glb := { s.glb with stagedLo := (a, v) :: s.glb.stagedLo.filter (fun q => q.1 != a) } }
    else
      let u := s.useUnlock o
      let s := u.2
      if lo then (if ok then { s with glb := { s.glb with stagedLo := (a, v) :: s.glb.stagedLo.filter (fun q => q.1 != a) } } else s)
      else
        let unstage := fun (s : State) => { s with glb := { s.glb with stagedLo := s.glb.stagedLo.filter (fun q => q.1 != a - 4) } }
        let failed := (rowsAt a).any (fun p => s.glb.voteFailed.contains (p.1.fld a p.2).key)
        if (regHas a .rwl && !u.1) || !modeOk || failed then unstage (s.refuseWrite o a v)
        else if !ok then unstage s
        else
          let old := s.wholeReg a
          let s := unstage (s.storeFields a v)
          after (s.journalWrite o a old (s.wholeReg a))

/-! ### Ages, and events that class 3 pays for with their journal entry -/

/-- 2⁻¹⁶ ns units in a second. -/
def secU : Nat := 65536000000000

/-- Whole seconds of the counter without its steps: durations in seconds are measured on it. -/
def State.monoSec (s : State) : Nat := (s.mono / (secU : Int)).toNat

/-- A length in 2⁻¹⁶ ns units in ps, to the nearest. -/
def psOfUnits (u : Int) : Int := roundDiv (u * 1000) 65536

/-- A length in ps in 2⁻¹⁶ ns units, to the nearest. -/
def unitsOfPs (p : Int) : Int := roundDiv (p * 65536) 1000

/-- An event with its journal entry as class 3 work of 150 stock (Tables 7-6 and 8-7). -/
def State.paidEvent (s : State) (code object : Nat) (value : Int) (old new : Nat) : State :=
  ((s.pay 3 150).eventIn code object value).journal .auto 3 object old new code

/-! ### Posted writes (R452) -/

/-- The BUSY field of the block of a posted register. -/
def busyFld (a : Nat) : Option Fld :=
  if 0x180000 ≤ a ∧ a < 0x1A0000 then some (MAC.PORT_STATUS_BUSY ((a - 0x180000) / 0x4000))
  else
    match blockOf a with
    | 4 => some TDC.TDC_STATUS_BUSY
    | 10 => some SYN.SYN_STATUS_BUSY
    | 25 => some KEEP.KEEP_STATUS_BUSY
    | _ => none

/-- A write of a posted register (R449, R450, R452): refused as any other write is; ignored, counted and journaled while the block
is BUSY; else in progress until it is applied. `now` is what the engine does at once. -/
def State.busPost (s : State) (o : Origin) (a v : Nat) (modeOk : Bool) (now : State → State) : State :=
  if o = .pf1 then s.inc HIF.PF1_WRITE_DENY_CNT
  else
    match busyFld a with
    | none => s
    | some busy =>
      let lo := (rowsAt a).any (fun p => match p.1.half with | .lo _ => true | _ => false)
      let u := s.useUnlock o
      let s := u.2
      if (rowsAt a).isEmpty then s
      else if s.flag busy then ((s.charge0 60).inc GLB.POSTED_DROP_CNT).journal o 1 a (s.readReg a) v 0
      else if lo then { s with glb := { s.glb with stagedLo := (a, v) :: s.glb.stagedLo.filter (fun q => q.1 != a) } }
      else if (regHas a .rwl && !u.1) || !modeOk then s.refuseWrite o a v
      else now (({ s with glb := { s.glb with posted := s.glb.posted ++ [PostedWrite.mk a v o] } }).putB busy true)

/-- A posted write is applied (R452): the fields take their bits, the write is journaled, BUSY falls. -/
def State.applyPosted (s : State) (w : PostedWrite) : State :=
  let s := { s with glb := { s.glb with posted := s.glb.posted.erase w } }
  let old := s.wholeReg w.addr
  let s := s.storeFields w.addr w.value
  let s := { s with glb := { s.glb with stagedLo := s.glb.stagedLo.filter (fun q => q.1 != w.addr - 4) } }
  let s := s.journalWrite w.origin w.addr old (s.wholeReg w.addr)
  match busyFld w.addr with
  | none => s
  | some busy => s.putB busy (s.glb.posted.any (fun x => busyFld x.addr == some busy))

/-- A write reaches a WO register (R371, R449): PF1's is ignored and counted; any other uses up its origin's unlock. -/
def State.busTouch (s : State) (o : Origin) (f : State → State) : State :=
  if o = .pf1 then s.inc HIF.PF1_WRITE_DENY_CNT else f (s.useUnlock o).2

end Sys2Proof.Machine
end

