-- ==== Sys2Proof/Machine/Operands.lean ====
section
/-! DEFINITION. The forms in which commands name a time, a policy and an argument (R9, R10, R44, Table 16-4). -/

namespace Sys2Proof.Machine

/-! ### Times within a sheet -/

/-- A sheet time in ns as units. -/
def nsU (ns : Nat) : Nat := ns * 65536

/-- One TICK is 1.6 ns: the counter time of a TICK from the edge, in 2⁻¹⁶ ns units, cut to a whole unit (R51). -/
def tickUnits (t : Nat) : Nat := t * 524288 / 5

/-! ### Targets (R9, R10, R44) -/

/-- 2⁴⁷ ns in 2⁻¹⁶ ns units (R10). -/
def halfWrap : Nat := 2 ^ 63

/-- The count of units that a target names: a short time is the count nearest the present one (R9), a larger number is
the count itself. -/
def State.targetUnits (s : State) (t : Nat) : Int :=
  if t < 2 ^ 64 then (s.units : Int) + sdiff t s.units else t

/-- Whether a target lies within ±2⁴⁷ ns of the present time (R10). -/
def State.targetOk (s : State) (u : Int) : Bool :=
  decide (absI (u - s.units) ≤ halfWrap)

/-- Whether a target lies before the start of the next sheet (R44). -/
def State.isLate (s : State) (u : Int) : Bool := decide (u < s.time.next)

/-- The late policy of a command: the one it gives, else the default (R44): true to discard. -/
def State.latePol (s : State) (h : Hdr) (f : Fld) : Bool := if h.polGiven then h.latePol else s.flag f

/-! ### Arguments of commands -/

/-- The argument area of a command descriptor (Table 16-4). -/
def descArg (d : List Byte) (off n : Nat) : Nat := leAt d (8 + off) n

end Sys2Proof.Machine
end

