-- ==== Sys2Proof/Machine/Reals.lean ====
section
/-! DEFINITION. Elementary functions over the rationals, and the chi-square distribution of R137. -/

namespace Sys2Proof.Machine

/-! ### Elementary functions

The manual gives formulas over the reals and states no precision for them. Here each function is a rational within 2⁻⁹⁰ or so of
the real value (DESIGN CHOICE, assumption log). -/

/-- A rational brought to a grid of 2⁻⁹⁶, so that what passes through a long recursion stays small. -/
def fine (x : Rat) : Rat := (roundQ (x * 2 ^ 96) : Int) / 2 ^ 96

/-- The sum of a power series whose term `k + 1` is term `k` times `x` times a factor of its number. -/
def seriesQ (x : Rat) (f : Nat → Rat) (t0 : Rat) (n : Nat) : Rat :=
  ((List.range n).foldl (fun (a : Rat × Rat) k => let t := fine (a.1 * x * f k); (t, a.2 + t)) (t0, t0)).2

/-- The part of a number of turns beyond the whole ones, from −1/2 to 1/2. -/
def wrapTurns (t : Rat) : Rat := t - (roundQ t : Int)

/-- Sine of an angle in turns. -/
def sinTurns (t : Rat) : Rat :=
  let x := 2 * piQ * wrapTurns t
  seriesQ (x * x) (fun k => -1 / (((2 * k + 2) * (2 * k + 3) : Nat) : Rat)) x 24

/-- Cosine of an angle in turns. -/
def cosTurns (t : Rat) : Rat :=
  let x := 2 * piQ * wrapTurns t
  seriesQ (x * x) (fun k => -1 / (((2 * k + 1) * (2 * k + 2) : Nat) : Rat)) 1 24

/-- Sine of an angle in radians. -/
def sinQ (x : Rat) : Rat := sinTurns (x / (2 * piQ))

/-- Cosine of an angle in radians. -/
def cosQ (x : Rat) : Rat := cosTurns (x / (2 * piQ))

/-- Arc tangent in radians: three halvings of the angle, then the power series. -/
def atanQ (x : Rat) : Rat :=
  let h := fun (y : Rat) => fine (y / (1 + sqrtQ (1 + y * y)))
  let core := fun (y : Rat) =>
    let z := h (h (h y))
    let s := (List.range 40).foldl (fun (a : Rat × Rat) k => let t := fine (-a.1 * z * z); (t, a.2 + t / ((2 * k + 3 : Nat) : Rat))) (z, z)
    8 * s.2
  if 1 < x then piQ / 2 - core (1 / x) else if x < -1 then -(piQ / 2) - core (1 / x) else core x

/-- The angle of the point (x, y) in radians; the origin has none. -/
def atan2Q (y x : Rat) : Option Rat :=
  if 0 < x then some (atanQ (y / x))
  else if x < 0 then some (if 0 ≤ y then atanQ (y / x) + piQ else atanQ (y / x) - piQ)
  else if 0 < y then some (piQ / 2)
  else if y < 0 then some (-(piQ / 2))
  else none

/-- The exponential function of a number that is not negative. -/
def expPos (x : Rat) : Rat :=
  (List.range 10).foldl (fun (a : Rat) _ => (roundQ (a * a * 2 ^ 160) : Int) / 2 ^ 160)
    (seriesQ (x / 1024) (fun k => 1 / ((k + 1 : Nat) : Rat)) 1 24)

/-- The exponential function. -/
def expQ (x : Rat) : Rat := if x < 0 then 1 / expPos (-x) else expPos x

/-- The natural logarithm of a positive number. -/
def lnQ (x : Rat) : Rat :=
  let k : Int := (Nat.log2 x.num.toNat : Int) - Nat.log2 x.den
  let m := if 0 ≤ k then x / 2 ^ k.toNat else x * 2 ^ (-k).toNat
  let at_ := fun (y : Rat) =>
    let z := (y - 1) / (y + 1)
    let s := (List.range 60).foldl (fun (a : Rat × Rat) j => let t := fine (a.1 * z * z); (t, a.2 + t / ((2 * j + 3 : Nat) : Rat))) (fine z, fine z)
    2 * s.2
  at_ m + (k : Rat) * at_ 2

/-- A positive number raised to a power. -/
def powQ (a b : Rat) : Rat := expQ (b * lnQ a)

/-- A power of ten. -/
def pow10 (b : Rat) : Rat := powQ 10 b

/-- Γ(n/2) of a count of halves from 1. -/
def gammaHalf : Nat → Rat
  | 0 => 1
  | 1 => sqrtQ piQ
  | 2 => 1
  | n + 2 => (n : Rat) / 2 * gammaHalf n

/-- The chi-square distribution function of `dof` degrees of freedom at `x`: the regularised lower incomplete gamma function. -/
def chiBelow (dof : Nat) (x : Rat) : Rat :=
  let s : Rat := (dof : Rat) / 2
  let h := x / 2
  let hs := h ^ (dof / 2) * (if dof % 2 = 1 then sqrtQ h else 1)
  hs * expQ (-h) * seriesQ h (fun k => 1 / (s + ((k + 1 : Nat) : Rat))) (1 / s) 400 / gammaHalf dof

/-- The point of a distribution function that rises from 0, by halving an interval `n` times. -/
def bisectQ (below : Rat → Bool) : Nat → Rat → Rat → Rat
  | 0, lo, _ => lo
  | n + 1, lo, hi => let m := (lo + hi) / 2; if below m then bisectQ below n m hi else bisectQ below n lo m

/-- The 1 − P_FA quantile of the chi-square distribution (R137), to within 2⁻³⁰ below. -/
def chiQuantile (sel dof : Nat) : Rat :=
  let p : Rat := 1 - (if sel = 0 then 1 / 10 ^ 3 else if sel = 1 then 1 / 10 ^ 5 else 1 / 10 ^ 7)
  if dof = 0 then 0 else bisectQ (fun x => decide (chiBelow dof x < p)) 40 0 1024

/-- The value of an IEEE 754 binary64 word; an infinity or a NaN has none. -/
def binary64 (w : Nat) : Option Rat :=
  let e := bits w 52 11
  let f : Rat := ((bits w 0 52 : Nat) : Rat) / 2 ^ 52
  let sg : Rat := if bitOf w 63 then -1 else 1
  if e = 2047 then none
  else if e = 0 then some (sg * f / 2 ^ 1022)
  else if 1023 ≤ e then some (sg * (1 + f) * 2 ^ (e - 1023))
  else some (sg * (1 + f) / 2 ^ (1023 - e))

end Sys2Proof.Machine
end

