-- ==== Sys2Proof/Machine/Crypto.lean ====
section
/-! DEFINITION. SHA-256, HMAC, AES, CMAC and SIV, the algorithms that chapters 13 and 14 name. -/

namespace Sys2Proof.Machine

/-! ### SHA-256 and HMAC (R317, R324) -/

/-- A 32-bit word rotated right by each of some amounts, and the results added bit by bit. -/
def turned (l : List Nat) (x : Nat) : Nat := l.foldl (fun acc n => acc ^^^ (x * 2 ^ 32 + x) / 2 ^ n % 2 ^ 32) 0

/-- The greatest number of `b` more bits, over `r`, whose power `k` is at most `n`. -/
def rootBits (k n : Nat) : Nat → Nat → Nat
  | 0, r => r
  | b + 1, r => rootBits k n b (if (r + 2 ^ b) ^ k ≤ n then r + 2 ^ b else r)

/-- The primes below 312: there are 64. -/
def smallPrimes : List Nat := (List.range 312).filter (fun n => decide (1 < n) && (List.range n).all (fun d => d < 2 || n % d != 0))

/-- The first 32 bits of the fraction of the root of order `k` of each of the first `n` primes. -/
def rootFractions (k n : Nat) : List Nat := (smallPrimes.take n).map (fun p => rootBits k (p * 2 ^ (32 * k)) 37 0 % 2 ^ 32)

/-- The words that the rounds of SHA-256 take in, newest first: the block's own sixteen, then `n` formed from those before. -/
def shaWords : Nat → List Nat → List Nat
  | 0, w => w
  | n + 1, w =>
    let old := nth w 14 0
    let late := nth w 1 0
    let mix := nth w 15 0 + nth w 6 0 + (turned [7, 18] old ^^^ old / 2 ^ 3) + (turned [17, 19] late ^^^ late / 2 ^ 10)
    shaWords n (mix % 2 ^ 32 :: w)

/-- The two sequences that SHA-256 computes, newest first: each round adds an element to both, from the last four of each. -/
def shaStep (q : List Nat × List Nat) (k w : Nat) : List Nat × List Nat :=
  let x := fun (i : Nat) => nth q.1 i 0
  let y := fun (i : Nat) => nth q.2 i 0
  let choice := y 2 ^^^ (y 0 &&& (y 1 ^^^ y 2))
  let most := (x 0 &&& x 1) ||| (x 2 &&& (x 0 ||| x 1))
  let t := y 3 + turned [6, 11, 25] (y 0) + choice + k + w
  ((t + turned [2, 13, 22] (x 0) + most) % 2 ^ 32 :: q.1.take 3, (x 3 + t) % 2 ^ 32 :: q.2.take 3)

/-- A list of bytes cut into pieces of `k`. -/
def piecesOf (k : Nat) : Nat → List Byte → List (List Byte)
  | 0, _ => []
  | _ + 1, [] => []
  | n + 1, b => b.take k :: piecesOf k n (b.drop k)

/-- One compression of SHA-256: 64 steps over a block, whose result is added to the state. -/
def shaBlock (h : List Nat) (block : List Byte) : List Nat :=
  let w := (shaWords 48 ((piecesOf 4 16 block).map beNat).reverse).reverse
  let q := ((rootFractions 3 64).zip w).foldl (fun q p => shaStep q p.1 p.2) (h.take 4, h.drop 4)
  (h.zip (q.1 ++ q.2)).map (fun p => (p.1 + p.2) % 2 ^ 32)

/-- SHA-256 of a message (the hash that Table 14-3 names). -/
def sha256 (m : List Byte) : List Byte :=
  let pad := (119 - m.length % 64) % 64
  let full := m ++ [(0x80 : Byte)] ++ List.replicate pad 0 ++ beBytes 8 (8 * m.length)
  ((piecesOf 64 (full.length / 64) full).foldl shaBlock (rootFractions 2 8)).flatMap (beBytes 4)

/-- HMAC-SHA-256 with a key of at most 64 bytes, padded with zero bytes (R317). -/
def hmacSha256 (key msg : List Byte) : List Byte :=
  let k := key ++ List.replicate (64 - key.length) 0
  sha256 (k.map (· ^^^ 0x5C) ++ sha256 (k.map (· ^^^ 0x36) ++ msg))

/-! ### AES and CMAC (R317) -/

/-- A byte doubled in the field of AES. -/
def aesX (a : Nat) : Nat := if a < 128 then 2 * a else (2 * a - 256) ^^^ 0x1B

/-- The product of two bytes in the field of AES, over the low `n` bits of the second. -/
def aesMul : Nat → Nat → Nat → Nat
  | 0, _, _ => 0
  | n + 1, a, b => (if b % 2 = 1 then a else 0) ^^^ aesMul n (aesX a) (b / 2)

/-- A byte to the power `n`. -/
def aesPow : Nat → Nat → Nat
  | 0, _ => 1
  | n + 1, a => aesMul 8 a (aesPow n a)

/-- A byte rotated left. -/
def rotl8 (x n : Nat) : Nat := x * 2 ^ n % 256 + x / 2 ^ (8 - n)

/-- The substitution of a byte: its inverse, then the affine map. -/
def aesSub (a : Nat) : Nat :=
  let b := aesPow 254 a
  b ^^^ rotl8 b 1 ^^^ rotl8 b 2 ^^^ rotl8 b 3 ^^^ rotl8 b 4 ^^^ 0x63

/-- The substitution as a table. -/
def aesSbox : List Nat := (List.range 256).map aesSub

/-- A byte substituted. -/
def aesS (a : Nat) : Nat := nth aesSbox a 0

/-- The key schedule grows by a word at a time; the newest word stands first. `nk` is the length of the key in words. -/
def aesExpand (nk : Nat) : Nat → Nat → Nat → List (List Nat) → List (List Nat)
  | 0, _, _, w => w
  | n + 1, i, rcon, w =>
    let t := nth w 0 []
    let prev := nth w (nk - 1) []
    let t' := if i % nk = 0 then
        match t with
        | [a, b, c, d] => [aesS b ^^^ rcon, aesS c, aesS d, aesS a]
        | t => t
      else if nk = 8 ∧ i % nk = 4 then t.map aesS else t
    aesExpand nk n (i + 1) (if i % nk = 0 then aesX rcon else rcon) (((prev.zip t').map (fun p => p.1 ^^^ p.2)) :: w)

/-- The round keys of a key of 16 or 32 bytes, of 16 bytes each. -/
def aesKeys (key : List Byte) : List (List Nat) :=
  let nk := key.length / 4
  let words := ((piecesOf 4 nk key).map (fun b => b.map (·.toNat))).reverse
  let w := (aesExpand nk (4 * (nk + 7) - nk) nk 1 words).reverse
  (List.range (nk + 7)).map (fun r => (w.drop (4 * r)).take 4 |>.flatten)

/-- The bytes of a state after its rows are shifted. -/
def aesShift (s : List Nat) : List Nat := (List.range 16).map (fun i => nth s ((i + 4 * (i % 4)) % 16) 0)

/-- The bytes of a state after its columns are mixed. -/
def aesMix (s : List Nat) : List Nat :=
  (List.range 16).map (fun i =>
    let c := i / 4 * 4
    let g := fun (k : Nat) => nth s (c + (i + k) % 4) 0
    aesX (g 0) ^^^ aesX (g 1) ^^^ g 1 ^^^ g 2 ^^^ g 3)

/-- A round key added to a state. -/
def aesAdd (s k : List Nat) : List Nat := (s.zip k).map (fun p => p.1 ^^^ p.2)

/-- AES of one block with its round keys. -/
def aesBlock (keys : List (List Nat)) (block : List Byte) : List Byte :=
  let s := aesAdd (block.map (·.toNat)) (nth keys 0 [])
  let mid := (keys.drop 1).dropLast.foldl (fun s k => aesAdd (aesMix (aesShift (s.map aesS))) k) s
  (aesAdd (aesShift (mid.map aesS)) (keys.getLastD [])).map (fun v => BitVec.ofNat 8 v)

/-- Two blocks added. -/
def xorB (a b : List Byte) : List Byte := (a.zip b).map (fun p => p.1 ^^^ p.2)

/-- A block doubled in the field of CMAC. -/
def cmacDbl (b : List Byte) : List Byte :=
  let v := beNat b
  beBytes 16 (if v < 2 ^ 127 then 2 * v else (2 * v - 2 ^ 128) ^^^ 0x87)

/-- A block of zero bytes. -/
def zero16 : List Byte := List.replicate 16 0

/-- AES-CMAC of a message (Table 14-3). -/
def aesCmac (key msg : List Byte) : List Byte :=
  let keys := aesKeys key
  let k1 := cmacDbl (aesBlock keys zero16)
  let n := (msg.length + 15) / 16
  let body := msg.take (16 * (n - 1))
  let last := msg.drop (16 * (n - 1))
  let fin := if last.length = 16 then xorB last k1
             else xorB (last ++ [(0x80 : Byte)] ++ List.replicate (15 - last.length) 0) (cmacDbl k1)
  aesBlock keys (xorB ((piecesOf 16 (n - 1) body).foldl (fun c b => aesBlock keys (xorB c b)) zero16) fin)

/-! ### AEAD_AES_SIV_CMAC_256 (R302, R304) -/

/-- The synthetic initialisation vector of associated data, a nonce and a plaintext. -/
def sivOf (mac ad nonce plain : List Byte) : List Byte :=
  let d := [ad, nonce].foldl (fun d s => xorB (cmacDbl d) (aesCmac mac s)) (aesCmac mac zero16)
  if 16 ≤ plain.length then
    let n := plain.length - 16
    aesCmac mac (plain.take n ++ xorB (plain.drop n) d)
  else aesCmac mac (xorB (plain ++ [(0x80 : Byte)] ++ List.replicate (15 - plain.length) 0) (cmacDbl d))

/-- The key stream of the counter mode of SIV. -/
def sivStream (enc iv : List Byte) (blocks : Nat) : List Byte :=
  let keys := aesKeys enc
  let v := beNat iv
  let q := v - v / 2 ^ 63 % 2 * 2 ^ 63
  let q := q - q / 2 ^ 31 % 2 * 2 ^ 31
  (List.range blocks).flatMap (fun i => aesBlock keys (beBytes 16 ((q + i) % 2 ^ 128)))

/-- A plaintext sealed: the vector, then the encrypted bytes. -/
def sivSeal (key ad nonce plain : List Byte) : List Byte :=
  let v := sivOf (key.take 16) ad nonce plain
  v ++ xorB plain (sivStream (key.drop 16) v ((plain.length + 15) / 16))

/-- A sealed text opened, or nothing when its check fails. -/
def sivOpen (key ad nonce sealed : List Byte) : Option (List Byte) :=
  let v := sealed.take 16
  let c := sealed.drop 16
  let p := xorB c (sivStream (key.drop 16) v ((c.length + 15) / 16))
  if sivOf (key.take 16) ad nonce p = v then some p else none

/-- The first 16 bytes of HMAC-SHA-256, or AES-CMAC with the first half of the material: the ICV of an algorithm (Table 14-3). -/
def icvOf (alg : Nat) (key msg : List Byte) : List Byte :=
  if alg = 1 then (hmacSha256 key msg).take 16 else aesCmac (key.take 16) msg

/-- The key derivation of R324. -/
def kdf (parent label context : List Byte) : List Byte :=
  hmacSha256 parent (beBytes 4 1 ++ label ++ [(0 : Byte)] ++ context ++ beBytes 4 0x100)

end Sys2Proof.Machine
end

