-- ==== Sys2Proof/Machine/Time.lean ====
section
/-! DEFINITION. The time counter, its steering, slewing and targets, strobes, leap seconds and the keep-alive alignment (chapter 3). -/

namespace Sys2Proof.Machine

/-! ### The counter (R48 to R53) -/

/-- 2⁻¹⁰ ppt units of frequency that make one whole: y ÷ `yOne` is the fraction (R11). -/
def yOne : Int := 1024 * 1000000000000

/-- The clamp of y, ±100 ppm in 2⁻¹⁰ ppt units (R49). -/
def yMax : Int := 102400000000

/-- The nominal increments of the five-cycle pattern, in 2⁻¹⁶ ns units (Table 3-1). -/
def finePattern : List Nat := [104858, 104857, 104858, 104857, 104858]

/-- A nominal increment in 2⁻¹⁶ ns units, multiplied by (1 + y), in 2⁻⁴⁸ ns units; what lies below is cut (R48). -/
def incOf (y : Int) (u : Nat) : Nat := (((u : Int) * 2 ^ 32 * (yOne + y)) / yOne).toNat

/-- A nominal increment in 2⁻⁴⁸ ns units, multiplied by (1 + y); what lies below is cut (R48). -/
def inc48 (y : Int) (u : Nat) : Nat := (((u : Int) * (yOne + y)) / yOne).toNat

/-- The increment of the fine cycle at a place of the pattern. -/
def fineInc (y : Int) (cyc : Nat) : Nat := incOf y (nth finePattern (cyc % 5) 104858)

/-- The gain of five fine cycles. -/
def fineGroup (y : Int) : Nat :=
  fineInc y 0 + fineInc y 1 + fineInc y 2 + fineInc y 3 + fineInc y 4

/-- `n` fine cycles, one at a time, for the rest of a pattern. -/
def fineSteps (y : Int) : Nat → Nat × Nat → Nat × Nat
  | 0, c => c
  | n + 1, (cnt, cyc) => fineSteps y n (cnt + fineInc y cyc, (cyc + 1) % 5)

/-- `n` fine cycles: whole patterns at once, then the rest. -/
def fineRun (y : Int) (n : Nat) (c : Nat × Nat) : Nat × Nat :=
  fineSteps y (n % 5) (c.1 + n / 5 * fineGroup y, c.2)

/-- Single fine cycles until the counter reaches a value, at most `k` of them; with the cycles taken. -/
def fineUntil (y : Int) (target : Nat) : Nat → Nat × Nat × Nat → Nat × Nat × Nat
  | 0, c => c
  | k + 1, (cnt, cyc, n) =>
    if target ≤ cnt then (cnt, cyc, n) else fineUntil y target k (cnt + fineInc y cyc, (cyc + 1) % 5, n + 1)

/-- The cycles until the counter first reaches or passes a value (R51), with the counter then. -/
def fineReach (y : Int) (target cnt cyc : Nat) : Nat × Nat × Nat :=
  let k := (target - cnt) / fineGroup y - 1
  fineUntil y target 11 (cnt + k * fineGroup y, cyc, 5 * k)

/-- The coarse increment of Table 3-1 for OSC_SEL, in 2⁻¹⁶ ns units. -/
def State.coarseStep (s : State) : Nat :=
  if s.get SYN.SYSPLL_CFG_OSC_SEL = 0 then 6553600 else if s.get SYN.SYSPLL_CFG_OSC_SEL = 1 then 3276800 else 2621440

/-- The nominal increment of the counting source in 2⁻⁴⁸ ns units: OSC_IN by OSC_SEL (Table 3-1), or OSC_RATIO times that on the
PCIe reference (R199). -/
def State.coarse48 (s : State) : Nat :=
  if s.get SYN.SYN_STATUS_CNT_SRC = 2 then s.get SYN.OSC_RATIO * s.coarseStep else s.coarseStep * 2 ^ 32

/-- The nominal increment of the counting source in 2⁻¹⁶ ns units, cut to a whole unit. -/
def State.coarseUnits (s : State) : Nat := s.coarse48 / 2 ^ 32

/-- y, the value by which the counter is steered (R48, R49). -/
def State.steer (s : State) : Int := s.geti TIME.STEER

/-- The counter runs on at y until it first reaches a value in 2⁻⁴⁸ ns units, or for at most `maxN` cycles; with the
cycles taken. -/
def State.cycles (s : State) (target maxN : Nat) : Nat × Nat × Nat :=
  if s.get SYN.SYN_STATUS_CNT_SRC = 0 then
    let r := fineReach s.steer target s.time.cnt s.time.cyc
    if r.2.2 ≤ maxN then r
    else
      let q := fineRun s.steer maxN (s.time.cnt, s.time.cyc)
      (q.1, q.2, maxN)
  else
    let i := inc48 s.steer s.coarse48
    let n := min maxN ((target - s.time.cnt + i - 1) / i)
    (s.time.cnt + n * i, s.time.cyc, n)

/-- The nominal length of a cycle of the counting source, in units of 2⁻⁴⁸ ns, five cycles together. -/
def State.fiveCycles (s : State) : Nat :=
  if s.get SYN.SYN_STATUS_CNT_SRC = 0 then 524288 * 2 ^ 32 else 5 * s.coarse48

/-- The slew residual in 2⁻⁴⁸ ns units (R56). -/
def State.residual (s : State) : Int := s.geti TIME.SLEW_RESID * 2 ^ 32 + s.time.slewFrac

/-- The state with a slew residual, in 2⁻⁴⁸ ns units: whole units in SLEW_RESID, the rest beside it. -/
def State.setResidual (s : State) (r : Int) : State :=
  let s := s.puti TIME.SLEW_RESID (r / 2 ^ 32)
  { s with time := { s.time with slewFrac := r % 2 ^ 32 } }

/-- y without its slew term: the DPLL control value within the clamp (R49). -/
def State.dropSlew (s : State) : State :=
  let s := { s with time := { s.time with slewTerm := 0 } }
  (s.puti TIME.STEER (clampI (-yMax) yMax (s.geti REFSEL.DPLL_CTRL))).putB TIME.TIME_STATUS_SLEWING false

/-- The slew term that the clamp of y leaves (R49): what the clamp cuts off the sum comes out of the slew term as far as the term points
the way of the cut, and out of the DPLL term beyond that. -/
def slewLeft (d want : Int) : Int :=
  let cutOff := d + want - clampI (-yMax) yMax (d + want)
  if 0 < cutOff then (if 0 < want then max 0 (want - cutOff) else want)
  else if cutOff < 0 then (if want < 0 then min 0 (want - cutOff) else want)
  else want

/-- The new y of a control slice (R49, R56): the DPLL control value plus the slew term, clamped. -/
def State.loadSteer (s : State) : State :=
  let d := s.geti REFSEL.DPLL_CTRL
  let lim : Int := s.get TIME.SLEW_LIMIT * 1024
  let r := s.residual
  let want : Int := if r = 0 then 0 else if 0 < r then -lim else lim
  let left := slewLeft d want
  let s := { s with time := { s.time with slewTerm := left } }
  (s.puti TIME.STEER (clampI (-yMax) yMax (d + want))).putB TIME.TIME_STATUS_SLEWING (left != 0)

/-- The counter runs on to a value without a change of y; the residual shrinks by the time gained through the slew term. -/
def State.runTo (s : State) (target maxN : Nat) : State :=
  let r := s.cycles target maxN
  let gain : Int := (r.2.2 * s.fiveCycles : Nat) * s.time.slewTerm / (5 * yOne)
  let res := s.residual + gain
  let s := { s with time := { s.time with cnt := r.1, cyc := r.2.1 } }
  if s.time.slewTerm = 0 then s else s.setResidual res

/-- The cycles after which the residual reaches or crosses zero at the present slew term (R56). -/
def State.cyclesToZero (s : State) : Nat :=
  let num : Nat := s.residual.natAbs * 5 * yOne.toNat
  let den : Nat := s.time.slewTerm.natAbs * s.fiveCycles
  (num + den - 1) / den

/-- The counter runs on until it first reaches a count of 2⁻¹⁶ ns units (R51); the slew term becomes 0 in the cycle in
which the residual reaches or crosses zero (R56). -/
def State.advanceTo (s : State) (units : Nat) : State :=
  let t := units * 2 ^ 32
  if t ≤ s.time.cnt then s
  else if s.time.slewTerm = 0 then s.runTo t (2 ^ 64)
  else
    let m := s.cyclesToZero
    if (s.cycles t (2 ^ 64)).2.2 < m then s.runTo t (2 ^ 64)
    else
      let s := ((s.runTo t m).setResidual 0).dropSlew
      if t ≤ s.time.cnt then s else s.runTo t (2 ^ 64)

/-- The counter at a sheet time, given in 2⁻¹⁶ ns units from the boundary of the sheet edge (R51). -/
def State.atSheetTime (s : State) (off : Nat) : State := s.advanceTo (s.time.edge + off)

/-- The residual takes on an offset in 2⁻¹⁶ ns units; a slew term that would no longer oppose it becomes 0 (R56), until the next control
slice loads the new one. -/
def State.addSlew (s : State) (u : Int) : State :=
  let r := satS 96 (s.residual + u * 2 ^ 32)
  let s := s.setResidual r
  if (0 < s.time.slewTerm ∧ 0 ≤ r) ∨ (s.time.slewTerm < 0 ∧ r ≤ 0) then s.dropSlew else s

/-! ### Strobe pulses (R60 to R63) -/

/-- The mode holds strobe pins inactive (R62, Table 1-6). -/
def strobePinHeld (m : Nat) : Bool := !servingMode m

/-- Where the running counter has or will have its first cycle at or after a count, in 2⁻¹⁶ ns units, while it counts a coarse source. -/
def State.coarseCycle (s : State) (u : Nat) : Nat :=
  let i := inc48 s.steer s.coarse48
  let t := u * 2 ^ 32
  (if t ≤ s.time.cnt then s.time.cnt - (s.time.cnt - t) / i * i else s.time.cnt + (t - s.time.cnt + i - 1) / i * i) / 2 ^ 32

/-- Where a leading edge falls, in 2⁻¹⁶ ns units: at its target, or while COARSE is 1 at the first OSC_IN cycle at or after it (R62). -/
def State.pulseAt (s : State) (u : Nat) : Nat := if s.flag TIME.TIME_STATUS_COARSE then s.coarseCycle u else u

/-- A leading edge placed to the nearest 25 ps (R60), counted in steps of 25 ps. -/
def State.placeAt (s : State) (u : Nat) : Nat := (roundDiv ((s.pulseAt u : Int) * 10) 16384).toNat

/-- A strobe pulse is placed: timed, counted, combined with a pulse still active, driven to its loop-back, and to its pin
unless the mode holds the pin (R60 to R63). -/
def State.placePulse (s : State) (n u width : Nat) : State :=
  let at_ := s.pulseAt u
  let till := at_ + tickUnits width
  let before := nth s.time.activeTill n 0
  let s := (s.charge0 16).inc (TIME.EVT_CNT n)
  let s := if at_ < before then s.inc TIME.STROBE_OVL_CNT else s
  let loop := s.flag (TIME.EVT_CFG_LOOPBACK n) || s.get (TDC.CH_CFG_SRC (32 + n)) == 1
  let s := { s with time := { s.time with
    activeTill := setNth s.time.activeTill n (max before till)
    loops := if loop ∧ before ≤ at_ then s.time.loops ++ [(n, at_)] else s.time.loops
    lead := setNth s.time.lead n (some at_) } }
  let held := strobePinHeld s.mode
  let pol := s.flag (TIME.EVT_CFG_POL n)
  let s := s.putB (TIME.EVT_STAT_LEVEL n) (if held then pol else !pol)
  s.emit (.strobe n (s.placeAt u) width (!held) loop)

/-- The strobe pins after their pulses have ended or the mode has changed (R62). -/
def State.showStrobes (s : State) : State :=
  let held := strobePinHeld s.mode
  (List.range 16).foldl (fun s n =>
    let active := decide (s.units < nth s.time.activeTill n 0) && !held
    (s.putB (TIME.EVT_STAT_SUPPRESSED n) held).putB (TIME.EVT_STAT_LEVEL n) (active != s.flag (TIME.EVT_CFG_POL n))) s

/-- The first pulse of a series that lies at or after a count (R61). -/
def Series.firstFrom (p : Series) (u : Nat) : Nat := if u ≤ p.first then 0 else (u - p.first + p.period - 1) / p.period

/-- A series resumes at the first pulse at or after a count; the pulses skipped are counted in LATE_DISCARD_CNT (R61). -/
def State.resumeSeries (s : State) (n u : Nat) : State :=
  match nth s.time.series n none with
  | none => s
  | some p =>
    let j := p.firstFrom u
    let j := if p.count = 0 then j else min j p.count
    let s := s.incBy TIME.LATE_DISCARD_CNT (j - p.next)
    if p.count ≠ 0 ∧ p.count ≤ j then
      ({ s with time := { s.time with series := setNth s.time.series n none } }).putB (TIME.EVT_STAT_PERIODIC n) false
    else { s with time := { s.time with series := setNth s.time.series n (some { p with next := j }) } }

/-! ### Commands -/

/-- TIME_SET (R54, R67): in QUIET, a step to the wide time at the next edge; RANGE for nanoseconds of 10⁹ or more (R8). -/
def runTimeSet (h : Hdr) (wide : Nat) (s : State) : State :=
  s.command h 0x20 false (.timeSet h wide) 0 (fun s =>
    if s.mode ≠ 0 then s.complete h 0x20 stMODE 0
    else if 1000000000 ≤ wide / 65536 % 2 ^ 32 ∨ 2 ^ 96 ≤ wide then s.complete h 0x20 stRANGE 0
    else
      let s := { s with time := { s.time with steps := s.time.steps ++ [PendStep.mk none h.origin true (.set (unitsOfWide wide))] } }
      ((s.putB TIME.TIME_STATUS_STEP_PENDING true).journalCmd h 0x20 (wide % 2 ^ 64) (wide / 2 ^ 64)).complete h 0x20 stOK 0)

/-- TIME_STEP (R54): accepted in QUIET or with GRANT; it completes at the edge at which it takes effect. -/
def runTimeStep (h : Hdr) (offset : Int) (grant : Bool) (s : State) : State :=
  s.command h 0x21 false (.timeStep h offset grant) 0 (fun s =>
    if halfWrap < offset.natAbs then s.complete h 0x21 stRANGE 0
    else if !grant && s.mode != 0 then s.complete h 0x21 stMODE 0
    else
      let s := { s with time := { s.time with steps := s.time.steps ++ [PendStep.mk (some h) h.origin grant (.by offset)] } }
      (s.putB TIME.TIME_STATUS_STEP_PENDING true).journalCmd h 0x21 (ofS 64 offset) (if grant then 1 else 0))

/-- TIME_SLEW (R56, R67): adds an offset to the residual, in clock state FREE_RUN or HOLDOVER. -/
def runTimeSlew (h : Hdr) (offset : Int) (s : State) : State :=
  s.command h 0x22 false (.timeSlew h offset) 0 (fun s =>
    let cs := s.get REFSEL.REFSEL_STATUS_CLOCK_STATE
    if cs ≠ 0 ∧ cs ≠ 3 then s.complete h 0x22 stMODE 0
    else if halfWrap < offset.natAbs then s.complete h 0x22 stRANGE 0
    else ((s.addSlew offset).journalCmd h 0x22 (ofS 64 offset) 0).complete h 0x22 stOK 0)

/-- LEAP_WARNING follows the armed target (R59). -/
def State.leapWarn (s : State) : State :=
  let t := (s.targetUnits (s.get TIME.LEAP_TARGET))
  s.putB TIME.TIME_STATUS_LEAP_WARNING (s.flag TIME.TIME_STATUS_LEAP_ARMED &&
    decide (t - (s.get TIME.LEAP_WARN : Int) * 65536000000000 ≤ s.units) && decide ((s.units : Int) < t))

/-- A leap second is armed (R58): target, direction, late policy. -/
def State.armLeap (s : State) (u : Int) (dir : Nat) (pol late : Bool) (o : Origin) : State :=
  let s := s.puts [(TIME.LEAP_TARGET, ofS 64 u), (TIME.TIME_STATUS_LEAP_ARMED, 1), (TIME.TIME_STATUS_LEAP_DIR, dir)]
  ({ s with time := { s.time with leap := some ⟨late, pol, o⟩ } }).leapWarn

/-- A leap second is disarmed (R58). -/
def State.disarmLeap (s : State) : State :=
  let s := s.puts [(TIME.TIME_STATUS_LEAP_ARMED, 0), (TIME.TIME_STATUS_LEAP_WARNING, 0)]
  { s with time := { s.time with leap := none } }

/-- LEAP_SCHEDULE (R44, R58): the target is a whole TAI second within range; a late one follows its policy. -/
def runLeapSchedule (h : Hdr) (target dir : Nat) (s : State) : State :=
  s.command h 0x23 false (.leapSchedule h target dir) 0 (fun s =>
    let u := s.targetUnits target
    if 1 < dir then s.complete h 0x23 stINVALID 0
    else if !s.targetOk u || u % 65536000000000 != 0 then s.complete h 0x23 stRANGE 0
    else
      let pol := s.latePol h SHEET.SHEET_CFG_LEAP_LATE_POL
      let late := s.isLate u
      if late && pol then (s.inc SHEET.LATE_DISCARD_CNT).complete h 0x23 stLATE 0
      else
        let s := if late then s.inc SHEET.LATE_CNT else s
        ((s.armLeap u dir pol late h.origin).journalCmd h 0x23 (target % 2 ^ 64) dir).complete h 0x23 stOK 0 late)

/-- LEAP_CANCEL (R58): disarms the leap. -/
def runLeapCancel (h : Hdr) (s : State) : State :=
  s.command h 0x24 false (.leapCancel h) 0 (fun s =>
    let s := if s.flag TIME.TIME_STATUS_LEAP_ARMED then s.journalCmd h 0x24 0 0 else s
    s.disarmLeap.complete h 0x24 stOK 0)

/-- The short-time count at which a late strobe or hop is executed: sheet time 10.000 µs of the next sheet (R44). -/
def State.lateSlot (s : State) : Nat := s.time.next + nsU 10000

/-- STROBE_AT (R44, R60): one pulse at a target; a strobe command accepted costs 120 of class 3 (R68). -/
def runStrobeAt (h : Hdr) (strobe target width stage : Nat) (s : State) : State :=
  s.commandAt h 0x25 false (.strobeAt h strobe target width) stage (fun s =>
    let u := s.targetUnits target
    let pol := s.latePol h SHEET.SHEET_CFG_STROBE_LATE_POL
    if 15 < strobe ∨ width = 0 ∨ 2 ^ 24 ≤ width ∨ s.targetOk u = false then s.complete h 0x25 stRANGE 0
    else if s.isLate u && pol then (s.inc SHEET.LATE_DISCARD_CNT).complete h 0x25 stLATE 0
    else s.tryPay 3 120 (.strobeAt h strobe target width) 1 (ring := some (cmdSource h)) (fun s =>
      let late := s.isLate u
      let s := if late then s.inc SHEET.LATE_CNT else s
      let at_ := if late then s.lateSlot else u.toNat
      let s := { s with time := { s.time with pulses := s.time.pulses ++ [Pulse.mk strobe at_ width pol late] } }
      (s.journalCmd h 0x25 strobe (target % 2 ^ 64)).complete h 0x25 stOK 0 late))

/-- STROBE_PERIODIC (R61): a series of pulses; BUSY while one runs on the strobe. Pulses named before the counter's zero are late like any other
that has passed. -/
def runStrobePeriodic (h : Hdr) (strobe width count first period stage : Nat) (s : State) : State :=
  s.commandAt h 0x26 false (.strobePeriodic h strobe width count first period) stage (fun s =>
    let u := s.targetUnits first
    if 15 < strobe ∨ width = 0 ∨ 2 ^ 24 ≤ width ∨ period < 6553600 ∨ 2 ^ 48 ≤ period ∨ 5 * period ≤ width * 524288 ∨
        s.targetOk u = false then s.complete h 0x26 stRANGE 0
    else if (nth s.time.series strobe none).isSome then s.complete h 0x26 stBUSY 0
    else s.tryPay 3 120 (.strobePeriodic h strobe width count first period) 1 (ring := some (cmdSource h)) (fun s =>
      let k := if u < 0 then ((-u).toNat + period - 1) / period else 0
      let s := s.incBy TIME.LATE_DISCARD_CNT (if count = 0 then k else min k count)
      let p : Series := ⟨(u + k * period).toNat, period, width, if count = 0 then 0 else count - k, 0⟩
      let s := if count ≠ 0 ∧ count ≤ k then s
        else (({ s with time := { s.time with series := setNth s.time.series strobe (some p) } }).putB
          (TIME.EVT_STAT_PERIODIC strobe) true).resumeSeries strobe s.time.next
      (s.journalCmd h 0x26 (strobe + 256 * width + 2 ^ 32 * count) (first % 2 ^ 64)).complete h 0x26 stOK 0))

/-- STROBE_STOP (R61): stops a strobe's series. -/
def runStrobeStop (h : Hdr) (strobe : Nat) (stage : Nat) (s : State) : State :=
  s.commandAt h 0x27 false (.strobeStop h strobe) stage (fun s =>
    if 15 < strobe then s.complete h 0x27 stRANGE 0
    else s.tryPay 3 120 (.strobeStop h strobe) 1 (ring := some (cmdSource h)) (fun s =>
      let s := if (nth s.time.series strobe none).isSome then s.journalCmd h 0x27 strobe 0 else s
      let s := { s with time := { s.time with series := setNth s.time.series strobe none } }
      (s.putB (TIME.EVT_STAT_PERIODIC strobe) false).complete h 0x27 stOK 0))

/-- The next pulse due on a strobe: the earliest commanded one, if it comes before the next of the series. -/
def State.nextPulse (s : State) (n : Nat) : Option (Nat × Nat × Bool) :=
  let c := (s.time.pulses.filter (fun p => p.strobe == n)).foldl (fun (b : Option Pulse) p =>
    match b with
    | none => some p
    | some q => if p.target < q.target then some p else some q) none
  match c, nth s.time.series n none with
  | none, none => none
  | some p, none => some (p.target, p.width, true)
  | none, some r => some (r.first + r.next * r.period, r.width, false)
  | some p, some r =>
    if p.target ≤ r.first + r.next * r.period then some (p.target, p.width, true)
    else some (r.first + r.next * r.period, r.width, false)

/-- STROBE_TARGET (R60, R61): the next pulse of the strobe reaches its target and is placed. -/
def runStrobeTarget (n : Nat) (s : State) : State :=
  match s.nextPulse n with
  | none => s
  | some (u, w, commanded) =>
    let s := (s.advanceTo u).placePulse n u w
    let gone := (s.time.pulses.find? (fun p => p.strobe == n && p.target == u)).getD ⟨16, 0, 0, false, false⟩
    if commanded then { s with time := { s.time with pulses := s.time.pulses.erase gone } }
    else
      match nth s.time.series n none with
      | none => s
      | some p =>
        if p.count ≠ 0 ∧ p.count ≤ p.next + 1 then
          ({ s with time := { s.time with series := setNth s.time.series n none } }).putB (TIME.EVT_STAT_PERIODIC n) false
        else { s with time := { s.time with series := setNth s.time.series n (some { p with next := p.next + 1 }) } }

/-- TIME_SNAP (R50): latches the counter, the sheet number and the COARSE and SET flags. -/
def snapNow (s : State) : State :=
  let u := s.units
  s.puts [(TIME.SNAP_SEC, u / 65536 / 1000000000), (TIME.SNAP_NS, u / 65536 % 1000000000), (TIME.SNAP_FRAC_FRAC, u % 65536),
    (TIME.SNAP_FRAC_COARSE, s.get TIME.TIME_STATUS_COARSE), (TIME.SNAP_FRAC_SET, s.get TIME.TIME_STATUS_SET),
    (TIME.SNAP_SHEET, s.sheetNo)]

/-- LEAP_WARNING_START (R59): LEAP_WARN seconds before the target of an armed leap, in the sheet where that instant lies, or later. -/
def runLeapWarningStart (s : State) : State :=
  let u := s.targetUnits (s.get TIME.LEAP_TARGET) - (s.get TIME.LEAP_WARN : Int) * 65536000000000
  if s.flag TIME.TIME_STATUS_LEAP_ARMED ∧ u ≤ s.time.next then (s.advanceTo u.toNat).leapWarn else s

/-- KA_ALIGN (R65): while SET is 1 and COARSE is 0, the pair is latched once per whole TAI second and copied into the keep-alive domain;
otherwise the alignment is missed. -/
def runKaAlign (kaCount edgeTime : Nat) (s : State) : State :=
  if s.time.kaCopy.any (fun (p : KaPair) => (p.wide / 65536000000000 : Int) == s.targetUnits (edgeTime % 2 ^ 64) / 65536000000000) then s
  else if s.flag TIME.TIME_STATUS_SET && !s.flag TIME.TIME_STATUS_COARSE then
    let p : KaPair := ⟨kaCount % 2 ^ 48, edgeTime % 2 ^ 64, (s.targetUnits (edgeTime % 2 ^ 64)).toNat⟩
    let s := (s.charge0 30).puts [(TIME.KA_ALIGN_CNT, p.cnt), (TIME.KA_ALIGN_TIME, p.time), (KEEP.KEEP_STATUS_XTAL_UNBROKEN, 1),
      (KEEP.KA_CNT, p.cnt)]
    { s with time := { s.time with
      kaCopy := some p, kaWinStart := if s.time.kaWinStart.isNone then some p else s.time.kaWinStart } }
  else { s with time := { s.time with kaMissed := true } }

/-- KA_FREQ_UPDATE (R65): the crystal's offset over the 1,024 s just ended, in ppt; a window with a missed alignment gives
no update. -/
def runKaFreqUpdate (s : State) : State :=
  let now : Option KaPair := s.time.kaCopy
  let s := match s.time.kaWinStart, now with
    | some a, some b =>
      let dt := sdiff b.time a.time
      if s.time.kaMissed || dt ≤ 0 then s
      else
        let f := roundQ ((((b.cnt : Int) - a.cnt : Int) * 2000000000 : Int) / (dt : Rat) * 1000000000000 - 1000000000000)
        let v := ofS 32 (satS 32 f)
        ({ s with time := { s.time with kaFreqCopy := v } }).put TIME.KA_FREQ v
    | _, _ => s
  { s with time := { s.time with kaWinStart := now, kaMissed := false } }

end Sys2Proof.Machine
end

