-- ==== Sys2Proof/Machine/Sheet.lean ====
section
/-! DEFINITION. Moulds and the deckle executor (chapter 2). -/

namespace Sys2Proof.Machine

/-! ### The mould image (R27 to R31) -/

/-- A deckle entry (Table 2-2). -/
structure Entry where
  tick : Nat
  op : Nat
  port : Nat
  tc : Nat
  latePol : Bool
  abs : Bool
  dual : Bool
  rsv : Bool
  opa : Nat
  opb : Nat
  deriving DecidableEq, Repr

/-- A deckle entry read from its 16 bytes (Table 2-2). -/
def Entry.ofBytes (b : List Byte) : Entry :=
  let w := leAt b 0 4
  ⟨bits w 0 17, bits w 17 4, bits w 21 3, bits w 24 3, bitOf w 27, bitOf w 28, bitOf w 29,
    bits w 30 2 != 0 || leAt b 12 4 != 0, leAt b 4 4, leAt b 8 4⟩

/-- The header of a mould image (Table 2-1). -/
structure MouldHdr where
  magic : Nat
  format : Nat
  hdrLen : Nat
  imageLen : Nat
  crc : Nat
  mouldId : Nat
  period : Nat
  indexOff : Nat
  bodyOff : Nat
  bodyLen : Nat
  loopOff : Nat
  loopCount : Nat
  deriving DecidableEq, Repr

/-- The header of a mould image, from its first bytes (Table 2-1). -/
def MouldHdr.ofBytes (b : List Byte) : MouldHdr :=
  ⟨leAt b 0 4, leAt b 4 2, leAt b 6 2, leAt b 8 4, leAt b 0xC 4, leAt b 0x10 8, leAt b 0x18 4, leAt b 0x1C 4,
    leAt b 0x20 4, leAt b 0x24 4, leAt b 0x28 4, leAt b 0x2C 4⟩

/-- Offset and entry count of a port's gate list (Table 2-1, GATE_DIR). -/
def gateDir (b : List Byte) (p : Nat) : Nat × Nat := (leAt b (0x30 + 8 * p) 4, leAt b (0x34 + 8 * p) 4)

/-- An index record: the body's offset in units of 16 bytes, and CLIENT_BASE (R28). -/
def indexRec (b : List Byte) (h : MouldHdr) (k : Nat) : Nat × Nat :=
  (leAt b (h.indexOff + 8 * k) 4, bits (leAt b (h.indexOff + 8 * k + 4) 4) 0 20)

/-- ENTRY_COUNT of a body (R28). -/
def bodyCount (b : List Byte) (h : MouldHdr) (body : Nat) : Nat := bits (leAt b (h.bodyOff + 16 * body) 4) 0 13

/-- The entries of a body, in body order (R28, R31). -/
def bodyEntries (b : List Byte) (h : MouldHdr) (body : Nat) : List Entry :=
  (List.range (bodyCount b h body)).map (fun i => Entry.ofBytes ((b.drop (h.bodyOff + 16 * body + 16 + 16 * i)).take 16))

/-- KIND and VALUE of a loop-table record (R29). -/
def loopRec (b : List Byte) (h : MouldHdr) (r : Nat) : Nat × Int :=
  (leAt b (h.loopOff + 16 * r) 1, toS 64 (leAt b (h.loopOff + 16 * r + 8) 8))

/-- Whether a loop-table VALUE lies in the range of its target (R29). -/
def loopValueOk (kind : Nat) (v : Int) : Bool :=
  if kind = 0 then decide (0 ≤ v) && decide (v ≤ 2 ^ 32 - 1)
  else if kind = 1 then decide (-(2 ^ 47) ≤ v) && decide (v ≤ 2 ^ 47 - 1)
  else if kind = 2 then decide (-(2 ^ 31 - 1) ≤ v) && decide (v ≤ 2 ^ 31 - 1)
  else true

/-! ### The checks of a mould (R34, Table 2-4) -/

/-- The wire time of a byte on a port in units of 0.08 ns, by RATE (Table 11-1): 0.32 ns, 0.8 ns, 8 ns. -/
def byteTime (rate : Nat) : Nat := if rate = 0 then 4 else if rate = 1 then 10 else 100

/-- The wire bytes of a send or slot (check 0x09): 192 for a SEND_PTP, MAXLEN + 20 for a REPLY_SLOT. -/
def Entry.wireBytes (e : Entry) : Nat := if e.op = 1 then 192 else bits e.opa 0 11 + 20

/-- Whether an entry is a SEND_PTP or REPLY_SLOT of a port. -/
def Entry.sends (e : Entry) (p : Nat) : Bool := (e.op == 1 || e.op == 2) && e.port == p

/-- Check 0x01: MAGIC, FORMAT, HDR_LEN, LEN and IMAGE_LEN. -/
def chkHeader (h : MouldHdr) (len : Nat) : Bool :=
  h.magic == 0xA7D09648 && h.format == 1 && h.hdrLen == 256 && decide (512 ≤ len) && decide (len ≤ 8388608) &&
    h.imageLen == len

/-- Check 0x02: the CRC over the whole image with its own field 0. -/
def chkCrc (b : List Byte) (h : MouldHdr) : Bool :=
  crc32 (b.take 0xC ++ [0, 0, 0, 0] ++ b.drop 0x10) == h.crc

/-- Check 0x03: every offset 16-byte aligned, every section and every named body inside the image. -/
def chkBounds (b : List Byte) (h : MouldHdr) (len : Nat) : Bool :=
  h.indexOff % 16 == 0 && h.bodyOff % 16 == 0 && h.loopOff % 16 == 0 &&
    decide (h.indexOff + 8 * h.period ≤ len) && decide (h.bodyOff + h.bodyLen ≤ len) &&
    decide (h.loopOff + 16 * h.loopCount ≤ len) &&
    (List.range 8).all (fun p =>
      let g := gateDir b p
      g.2 == 0 || (g.1 % 16 == 0 && decide (g.1 + 4 * g.2 ≤ len))) &&
    (List.range h.period).all (fun k =>
      let r := indexRec b h k
      decide (16 * r.1 + 16 + 16 * bodyCount b h r.1 ≤ h.bodyLen))

/-- Check 0x04. -/
def chkPeriod (h : MouldHdr) : Bool := decide (1 ≤ h.period) && decide (h.period ≤ 65536)

/-- Check 0x05: no count beyond its limit. -/
def chkCount (b : List Byte) (h : MouldHdr) : Bool :=
  (List.range h.period).all (fun k => decide (bodyCount b h (indexRec b h k).1 ≤ 4096)) && decide (h.loopCount ≤ 65536) &&
    (List.range 8).all (fun p => decide ((gateDir b p).2 ≤ 1024))

/-- Check 0x06 on one entry (R30): no reserved OP, no set reserved bit, no operand value outside its set. -/
def Entry.operandsOk (e : Entry) : Bool :=
  !e.rsv &&
    (if e.op = 0 then e.opa == 0 && e.opb == 0
     else if e.op = 1 then
       decide (e.opa < 2 ^ 25) && [0x0, 0xB, 0xC].contains (bits e.opa 20 4) &&
         (if e.dual then decide (e.opb < 256) else e.opb == 0)
     else if e.op = 2 then decide (64 ≤ e.opa) && decide (e.opa ≤ 1522) && e.opb == 0
     else if e.op = 3 then decide (e.opa < 1024) && e.opb == 0
     else if e.op = 4 then decide (e.opa < 16) && decide (1 ≤ e.opb) && decide (e.opb < 2 ^ 24)
     else if e.op = 5 then decide (e.opa < 2 ^ 24) && e.opb == 0
     else if e.op = 6 then e.opb == 0
     else false)

/-- Check 0x07 on a body: TICK within 6,250 to 73,749 and non-decreasing. -/
def ticksOk : List Entry → Bool
  | [] => true
  | [e] => decide (6250 ≤ e.tick) && decide (e.tick ≤ 73749)
  | e :: f :: t => decide (6250 ≤ e.tick) && decide (e.tick ≤ 73749) && decide (e.tick ≤ f.tick) && ticksOk (f :: t)

/-- Check 0x08 on one entry of a deckle with a CLIENT_BASE: what its operands name exists. -/
def Entry.indexOk (b : List Byte) (h : MouldHdr) (base : Nat) (e : Entry) : Bool :=
  if e.op = 1 then decide (bits e.opa 0 20 + (if e.abs then 0 else base) < 1048576)
  else if e.op = 3 then decide (e.opa < (gateDir b e.port).2)
  else if e.op = 5 then
    let r := bits e.opa 0 16
    let k := (loopRec b h r).1
    decide (r < h.loopCount) &&
      (if k ≤ 1 then decide (bits e.opa 16 8 ≤ 135) else k == 2 && decide (bits e.opa 16 8 ≤ 3))
  else true

/-- Check 0x09 on the sends and slots of one port in a body: none starts before the wire time of the one before it. -/
def spacingOk (rate : Nat) : List Entry → Bool
  | [] => true
  | [_] => true
  | e :: f :: t => decide (e.wireBytes * byteTime rate * 8 ≤ (f.tick - e.tick) * 160) && spacingOk rate (f :: t)

/-- The gate states of a gate-list entry (R29). -/
def gateStates (b : List Byte) (p i : Nat) : Nat := leAt b ((gateDir b p).1 + 4 * i) 1

/-- The gate state a body leaves on a port, from the state before it. -/
def gateAfter (b : List Byte) (p : Nat) (es : List Entry) (g : Nat) : Nat :=
  es.foldl (fun g e => if e.op = 3 ∧ e.port = p then gateStates b p e.opa else g) g

/-- Check 0x0A on a body of one port: each send or slot finds its gate open at TICK (GATE entries of the same TICK first,
R31) and, unless the port has RATE 3, still open for its wire time. -/
def gatesOk (b : List Byte) (p rate g : Nat) (es : List Entry) : Bool :=
  es.all (fun e =>
    if e.sends p then
      let at_ := gateAfter b p (es.filter (fun f => decide (f.tick ≤ e.tick))) g
      bitOf at_ e.tc &&
        (rate == 3 || es.all (fun f =>
          if f.op = 3 ∧ f.port = p ∧ e.tick < f.tick ∧ (f.tick - e.tick) * 160 < e.wireBytes * byteTime rate * 8
          then bitOf (gateStates b p f.opa) e.tc else true))
    else true)

/-- Check 0x0A on a port over the cycle of P deckles, from the state left by the last GATE entry of the cycle (R34). -/
def cycleGatesOk (b : List Byte) (p rate : Nat) (bodies : List (List Entry)) : Bool :=
  let anyGate := bodies.any (fun es => es.any (fun e => e.op == 3 && e.port == p))
  let g0 := if anyGate then bodies.foldl (fun g es => gateAfter b p es g) 0xFF else 0xFF
  (bodies.foldl (fun (r : Bool × Nat) es => (r.1 && gatesOk b p rate r.2 es, gateAfter b p es r.2)) (true, g0)).1

/-- The first failing reason code of a mould image in the order of Table 2-4, or none (R34). -/
def mouldReason (rates : List Nat) (b : List Byte) (len : Nat) : Option Nat :=
  let h := MouldHdr.ofBytes b
  if !chkHeader h len then some 0x01
  else if !chkCrc b h then some 0x02
  else if !chkBounds b h len then some 0x03
  else if !chkPeriod h then some 0x04
  else if !chkCount b h then some 0x05
  else
    let recs := (List.range h.period).map (indexRec b h)
    let named := (recs.map (·.1)).dedup
    let bodies := named.map (fun n => (n, bodyEntries b h n))
    let bodyOf := fun n => ((bodies.find? (fun q => q.1 == n)).map (·.2)).getD []
    if !(bodies.all (fun q => q.2.all Entry.operandsOk)) then some 0x06
    else if !(bodies.all (fun q => ticksOk q.2)) then some 0x07
    else if !(recs.all (fun r => (bodyOf r.1).all (Entry.indexOk b h r.2)) &&
        (List.range h.loopCount).all (fun r => loopValueOk (loopRec b h r).1 (loopRec b h r).2)) then some 0x08
    else if !((List.range 8).all (fun p => nth rates p 3 == 3 ||
        bodies.all (fun q => spacingOk (nth rates p 3) (q.2.filter (fun e => e.sends p))))) then some 0x09
    else if !((List.range 8).all (fun p => cycleGatesOk b p (nth rates p 3) (recs.map (fun r => bodyOf r.1)))) then some 0x0A
    else none

/-! ### Mould buffers (R34 to R37) -/

/-- The state register of a buffer (Table 2-5): 0 for A, 1 for B. -/
def stateFld (buf : Nat) : Fld := if buf = 0 then SHEET.SHEET_STATUS_STATE_A else SHEET.SHEET_STATUS_STATE_B

/-- The MOULD_ID register of a buffer. -/
def mouldIdFld (buf : Nat) : Fld := if buf = 0 then SHEET.MOULD_ID_A else SHEET.MOULD_ID_B

/-- The vat address of a buffer (Table 1-2). -/
def bufAddr (buf : Nat) : Nat := if buf = 0 then 0x04000000 else 0x04800000

/-- The load running in a buffer. -/
def State.loadOf (s : State) (buf : Nat) : Option MouldRun := if buf = 0 then s.sheet.loadA else s.sheet.loadB

/-- The state with the load running in a buffer replaced. -/
def State.setLoad (s : State) (buf : Nat) (r : Option MouldRun) : State :=
  if buf = 0 then { s with sheet := { s.sheet with loadA := r } } else { s with sheet := { s.sheet with loadB := r } }

/-- MOULD_LOAD (R34, R35, R37): starts the DMA of an image into a buffer; it completes after the checks. -/
def runMouldLoad (h : Hdr) (buf addr len : Nat) (s : State) : State :=
  s.command h 0x10 false (.mouldLoad h buf addr len) 0 (fun s =>
    if 1 < buf then s.complete h 0x10 stINVALID 0
    else if h.origin = .mspi ∧ 0xC00 < addr + len then s.complete h 0x10 stINVALID 0
    else if s.mode = 5 then s.complete h 0x10 stMODE 0
    else
      let st := s.get (stateFld buf)
      if st = 1 ∨ st = 3 ∨ (s.flag SHEET.SHEET_STATUS_PENDING ∧ s.get SHEET.SHEET_STATUS_PEND_BUF = buf) then
        s.complete h 0x10 stBUSY 0
      else
        ((s.put (stateFld buf) 1).setLoad buf (some ⟨h, len⟩)).journalCmd h 0x10 buf addr)

/-- A load ends badly: the buffer becomes EMPTY and the command completes (Table 2-5). -/
def State.loadFails (s : State) (buf : Nat) (h : Hdr) (status reason : Nat) : State :=
  let s := ((s.put (stateFld buf) 0).setLoad buf none).put SHEET.LOAD_REASON reason
  s.complete h 0x10 status reason

/-- The bytes that the DMA of an image has read (R34): no more than the header where LEN is out of its range. -/
def MouldRun.bytes (r : MouldRun) (dma : DmaIn) : List Byte := dma.bytes.take (if r.len < 512 ∨ 8388608 < r.len then min 256 r.len else r.len)

/-- MOULD_LOAD_DONE (R34, R46, Table 2-5): the DMA has ended; the checks make the buffer READY, or EMPTY with MOULD_INVALID and
the first failing reason, a DMA failure as 0x0B in place of any failure it causes. An uncorrectable error on the way into the buffer
also halts the ring of the command (R407). -/
def runMouldLoadDone (buf : Nat) (dma : DmaIn) (s : State) : State :=
  match s.loadOf buf with
  | none => s
  | some r =>
    s.tryPay 3 ((((r.bytes dma).length + 63) / 64) * 14) (.mouldLoadDone buf dma) 0 (fun s =>
      if r.len < 512 ∨ 8388608 < r.len then s.loadFails buf r.cmd stMOULD 0x01
      else if dma.ok = false ∨ dma.bytes.length < r.len then
        (s.inc HIF.DMA_ERR_CNT).loadFails buf r.cmd stMOULD 0x0B
      else
        let img := r.bytes dma
        let w := s.vatWrite 11 (bufAddr buf) img
        match w.1 with
        | .ok =>
          let s := w.2
          match mouldReason ((List.range 8).map (fun p => s.get (MAC.PORT_CFG_RATE p))) img r.len with
          | some c => s.loadFails buf r.cmd stMOULD c
          | none =>
            let s := (s.puts [(stateFld buf, 2), (mouldIdFld buf, (MouldHdr.ofBytes img).mouldId)]).setLoad buf none
            s.complete r.cmd 0x10 stOK 0
        | .denied => (w.2.inc HIF.DMA_ERR_CNT).loadFails buf r.cmd stMOULD 0x0B
        | .uncorr =>
          let s := w.2.inc HIF.DMA_ERR_CNT
          (if r.cmd.origin = .mspi then s else s.ringHalt r.cmd.ring 4).loadFails buf r.cmd stMOULD 0x0B)

/-- MOULD_ACTIVATE (R36, R37, R44, R45): schedules a READY buffer at a named sheet. -/
def runMouldActivate (h : Hdr) (buf sheet : Nat) (s : State) : State :=
  s.command h 0x11 false (.mouldActivate h buf sheet) 0 (fun s =>
    if 1 < buf then s.complete h 0x11 stINVALID 0
    else if s.mode = 5 then s.complete h 0x11 stMODE 0
    else if s.flag SHEET.SHEET_STATUS_PENDING then s.complete h 0x11 stBUSY 0
    else if s.get (stateFld buf) ≠ 2 then s.complete h 0x11 stNOTREADY 0
    else if s.sheetNo + 1125899906 < sheet then s.complete h 0x11 stRANGE 0
    else
      let late := decide (sheet ≤ s.sheetNo)
      if late && s.latePol h SHEET.SHEET_CFG_MOULD_LATE_POL then (s.inc SHEET.LATE_DISCARD_CNT).complete h 0x11 stLATE 0
      else
        let s := if late then s.inc SHEET.LATE_CNT else s
        let s := s.puts [(SHEET.SHEET_STATUS_PENDING, 1), (SHEET.SHEET_STATUS_PEND_BUF, buf),
          (SHEET.PEND_SHEET, if late then s.sheetNo + 1 else sheet)]
        let s := { s with sheet := { s.sheet with act := some ⟨h.origin⟩ } }
        (s.journalCmd h 0x11 buf sheet).complete h 0x11 stOK 0 late)

/-- MOULD_CANCEL (R37): withdraws a pending activation; NOT_READY when none is pending. -/
def runMouldCancel (h : Hdr) (s : State) : State :=
  s.command h 0x12 false (.mouldCancel h) 0 (fun s =>
    if s.mode = 5 then s.complete h 0x12 stMODE 0
    else if !s.flag SHEET.SHEET_STATUS_PENDING then s.complete h 0x12 stNOTREADY 0
    else
      let s := s.puts [(SHEET.SHEET_STATUS_PENDING, 0), (SHEET.SHEET_STATUS_PEND_BUF, 0), (SHEET.PEND_SHEET, 0)]
      let s := { s with sheet := { s.sheet with act := none } }
      (s.journalCmd h 0x12 0 0).complete h 0x12 stOK 0)

/-! ### The deckle of the sheet (R26, R30, R31, R39) -/

/-- The active buffer, unless the empty schedule runs (R40). -/
def State.activeBuf (s : State) : Option Nat :=
  if s.flag SHEET.SHEET_STATUS_EMPTY_SCHED then none else some (s.get SHEET.SHEET_STATUS_ACTIVE_BUF)

/-- The schedule traps (R39): the deckle stops, the trap is recorded, counted and journaled, the buffer is FAULTED. -/
def State.schedTrap (s : State) (buf addr : Nat) : State :=
  let s := (s.charge0 2500).puts [(SHEET.TRAP_ADDR, addr), (SHEET.TRAP_SHEET, s.sheetNo), (SHEET.SHEET_STATUS_TRAP, 1),
    (stateFld buf, 5)]
  let s := { (s.inc SHEET.TRAP_CNT) with sheet := { s.sheet with trapped := true, fallback := true } }
  s.eventJ .auto 0x0103 buf addr addr s.sheetNo

/-- What a schedule fetch gives: the bytes, or a trap at the word in error (R39). -/
def State.schedFetch (s : State) (buf off n : Nat) : Option (List Byte) × State :=
  let a := bufAddr buf + off
  let r := s.vatRead 0 a n
  match r.1 with
  | .ok b => (some b, r.2)
  | .denied b => (some b, r.2)
  | .uncorr => (none, r.2.schedTrap buf (r.2.get VAT.UNCORR_ADDR))

/-- What the executor knows of the entry it fetches: the buffer, the header, CLIENT_BASE of the deckle, and the entry. -/
structure Fetched where
  buf : Nat
  hdr : MouldHdr
  base : Nat
  entry : Entry
  deriving DecidableEq, Repr

/-- The executor fetches entry `i` of the sheet's deckle (R26, R30, R31): none in the empty schedule, after a trap, beyond the
body, where the executor has passed it in body order, or when the fetch traps. -/
def State.fetchEntry (s : State) (i : Nat) : Option Fetched × State :=
  match s.activeBuf with
  | none => (none, s)
  | some buf =>
    if s.sheet.trapped || decide (i < s.sheet.cursor) || s.sheet.ahead.contains i then (none, s)
    else
      match s.schedFetch buf 0 256 with
      | (none, s) => (none, s)
      | (some hb, s) =>
        let h := MouldHdr.ofBytes hb
        match s.schedFetch buf (h.indexOff + 8 * s.get SHEET.SHEET_PHASE) 8 with
        | (none, s) => (none, s)
        | (some ib, s) =>
          let body := leAt ib 0 4
          match s.schedFetch buf (h.bodyOff + 16 * body) 16 with
          | (none, s) => (none, s)
          | (some bb, s) =>
            if bits (leAt bb 0 4) 0 13 ≤ i then (none, s)
            else
              match s.schedFetch buf (h.bodyOff + 16 * body + 16 + 16 * i) 16 with
              | (none, s) => (none, s)
              | (some eb, s) => (some ⟨buf, h, bits (leAt ib 4 4) 0 20, Entry.ofBytes eb⟩, s)

/-- Whether the executor still executes a TICK in this sheet: in a stepped sheet nothing later than the sheet length less
7.000 µs (R55). -/
def State.tickRuns (s : State) (tick : Nat) : Bool :=
  !s.time.stepped || decide (tickUnits tick + nsU 7000 ≤ s.time.next - s.time.edge)

/-- The gate states of the gate-list entry that a GATE names are applied (R29, R246). -/
def State.applyGate (s : State) (e : Fetched) : State :=
  let s := s.charge0 12
  match s.schedFetch e.buf (0x30 + 8 * e.entry.port) 8 with
  | (none, s) => s
  | (some db, s) =>
    match s.schedFetch e.buf (leAt db 0 4 + 4 * bits e.entry.opa 0 10) 4 with
    | (none, s) => s
    | (some gb, s) => s.put (MAC.GATE_STATE e.entry.port) (leAt gb 0 1)

/-- GATE entries that follow in the body with the same TICK take effect before an entry of another class (R31). -/
def State.gatesAhead (s : State) (tick : Nat) : Nat → Nat → State
  | _, 0 => s
  | j, k + 1 =>
    match s.fetchEntry j with
    | (none, s) => if s.sheet.ahead.contains j then State.gatesAhead s tick (j + 1) k else s
    | (some e, s) =>
      if e.entry.tick ≠ tick then s
      else if e.entry.op = 3 then
        State.gatesAhead ({ s with sheet := { s.sheet with ahead := j :: s.sheet.ahead } }.applyGate e) tick (j + 1) k
      else State.gatesAhead s tick (j + 1) k

/-- An entry of operation `op` reaches its TICK and does `f`, in body order, class 0 first at a shared TICK (R31); an entry of another
operation, or one that does not run in this sheet, leaves the engine as the fetch left it. -/
def State.withEntry (s : State) (i op : Nat) (f : Fetched → State → State) : State :=
  match s.fetchEntry i with
  | (some e, s) =>
    if e.entry.op = op ∧ s.tickRuns e.entry.tick then
      let s := { s with sheet := { s.sheet with cursor := i + 1 } }
      let s := s.atSheetTime (tickUnits e.entry.tick)
      f e (if op = 1 ∨ op = 2 ∨ op = 6 then s.gatesAhead e.entry.tick (i + 1) 4096 else s)
    else s
  | (none, s) => s

/-- DECKLE_NOP (R30): the entry does nothing. -/
def runDeckleNop (i : Nat) (s : State) : State := s.withEntry i 0 (fun _ s => s)

/-- DECKLE_STROBE (R60, R62): the pulse is placed at TICK. -/
def runDeckleStrobe (i : Nat) (s : State) : State :=
  s.withEntry i 4 (fun e s => s.placePulse (e.entry.opa % 16) (s.time.edge + tickUnits e.entry.tick) (bits e.entry.opb 0 24))

/-- DECKLE_GATE (R246): the gate states of the named gate-list entry are applied. -/
def runDeckleGate (i : Nat) (s : State) : State := s.withEntry i 3 (fun e s => s.applyGate e)

/-- The marker event of a MARK entry (R391): its TICK, its OPA, its sheet and the short time of the TICK in that sheet. -/
def runDeckleMark (i : Nat) (s : State) : State :=
  s.withEntry i 6 (fun e s =>
    let ev : Event := ⟨0x0104, e.entry.tick, (s.time.edge + tickUnits e.entry.tick) % 2 ^ 64, s.sheetNo, e.entry.opa, false⟩
    s.postMark ev)

end Sys2Proof.Machine
end

