-- ==== Sys2Proof/Machine/Tdc.lean ====
section
/-! DEFINITION. Time-interval measurement (chapter 4). -/

namespace Sys2Proof.Machine

/-! ### Channels -/

/-- A channel. -/
def State.ch (s : State) (n : Nat) : TdcCh := nth s.tdc.chans n {}

/-- The state with a channel replaced. -/
def State.setCh (s : State) (n : Nat) (c : TdcCh) : State :=
  { s with tdc := { s.tdc with chans := setNth s.tdc.chans n c } }

/-- A window. -/
def State.win (s : State) (m : Nat) : WinSt := nth s.tdc.wins m {}

/-- What WIN_STAT shows of a window. -/
def State.setWin (s : State) (m : Nat) (w : WinSt) : State :=
  let s := { s with tdc := { s.tdc with wins := setNth s.tdc.wins m w } }
  s.puts [(TDC.WIN_STAT_OPEN m, if w.isOpen then 1 else 0), (TDC.WIN_STAT_PENDING m, if w.pend.isSome then 1 else 0),
    (TDC.WIN_STAT_STOPS m, min 16 w.stops.length)]

/-- Class A channels are TIN0 to TIN31 (Table 4-1). -/
def classA (n : Nat) : Bool := decide (n < 32)

/-- The path delay D of a channel in force: from user sizing, else from factory sizing (R82). -/
def State.chDelay (s : State) (n : Nat) : Int :=
  match s.userItem n with
  | some i => toS 32 (leAt i.body 0 4)
  | none => Config.factoryDelay n

/-- The factory-sized offset of the spares that stand in a channel's lines (R91). -/
def State.spareOff (s : State) (n : Nat) : Int :=
  let at_ := fun (k v : Nat) => if v / 2 = n then Config.spareOffset k v else 0
  at_ 0 (s.get TDC.SPARE_MAP_SPARE0) + at_ 1 (s.get TDC.SPARE_MAP_SPARE1)

/-- Picoseconds as 2⁻¹⁶ ns units. -/
def psU (ps : Rat) : Rat := ps * 8192 / 125

/-- INL[FINE] of the table in force (R73, R82). -/
def State.inlAt (s : State) (n fine : Nat) : Int :=
  match (s.ch n).inl with
  | some t => nth t.inl fine 0
  | none => Config.factoryInl n fine

/-- Entry of the bin table in force: line 0 is E, line 1 is F (R74, R82). -/
def State.tapAt (s : State) (n line tap : Nat) : Nat :=
  match (s.ch n).bin with
  | some t => nth (if line = 0 then t.tE else t.tF) tap 0
  | none => Config.factoryTap n line tap

/-- τ of an edge in 2⁻¹⁶ ns (R73, R74): from both lines or one. -/
def State.tau (s : State) (n : Nat) (tE tF : Option Nat) (after : Bool) : Rat :=
  if classA n then
    match tE, tF with
    | some e, some f =>
      let fine : Int := (e : Int) + (if after then (f : Int) - 80 else (f : Int) + 80)
      psU ((fine : Rat) * 5 / 2 + 5 / 4) + (s.inlAt n fine.toNat : Int)
    | some e, none => Config.halfTau n 0 e after
    | none, some f => Config.halfTau n 1 f after
    | none, none => 0
  else
    let fEst := fun (f : Nat) => (s.tapAt n 1 f : Rat) + (if after then -psU 400 else psU 400)
    match tE, tF with
    | some e, some f => roundQ (((s.tapAt n 0 e : Rat) + fEst f) / 2)
    | some e, none => (s.tapAt n 0 e : Rat)
    | none, some f => roundQ (fEst f)
    | none, none => 0

/-- The edge time (R64, R75): Tc + s − τ − D, rounded to the nearest 2⁻¹⁶ ns; with COARSE 1 the interval is taken as 0. -/
def State.edgeTime (s : State) (n tc : Nat) (second : Bool) (tE tF : Option Nat) (after : Bool) : Nat :=
  let i : Rat := if s.flag TIME.TIME_STATUS_COARSE then 0 else (if second then psU 800 else 0) - s.tau n tE tF after
  (roundQ ((tc : Rat) + i - (s.chDelay n + s.spareOff n : Int))).toNat

/-- Record flags (Table 4-5). -/
def flStartMissing : Nat := 0
def flStopOvf : Nat := 1
def flInvalid : Nat := 2
def flCalStale : Nat := 3
def flHalf : Nat := 4
def flDead : Nat := 5
def flLate : Nat := 6
def flTrunc : Nat := 7
def flAborted : Nat := 8
def flGap : Nat := 9
def flFreq : Nat := 10
def flSpared : Nat := 11

/-- Whether the table in force of a class B channel is older than CAL_MAX_AGE × 1,024 sheets (R80). -/
def State.tableStale (s : State) (n : Nat) : Bool :=
  decide (s.get TDC.TDC_CFG_CAL_MAX_AGE * 1024 < s.sheetNo - (s.ch n).tableSheet)

/-- The flags an edge carries (R74 to R76, R80, R91). -/
def State.edgeFlags (s : State) (n : Nat) (half : Bool) : Nat :=
  maskOf ((if s.flag TIME.TIME_STATUS_COARSE then [flInvalid] else []) ++
    (if (if classA n then !s.flag (TDC.CH_STAT_CAL_OK n) else s.tableStale n) then [flCalStale] else []) ++
    (if half then [flHalf] else []) ++ (if s.flag (TDC.CH_STAT_SPARED n) then [flSpared] else []))

/-! ### Windows -/

/-- The record of a window that closes in this sheet (R84, R87, R89). -/
def WinSt.record (w : WinSt) (m sheet extra : Nat) : MeasRec :=
  let base := w.start.getD w.armAt
  let item := fun (p : Stop) =>
    let d : Int := (p.time : Int) - base
    if absI d < 164 then (⟨0, p.ch, false, true⟩ : StopItem) else ⟨d, p.ch, decide (d < 0), false⟩
  let items := if w.freq then
      [⟨(w.lastEdge : Int) - base, w.startCh, false, false⟩, ⟨w.count, 63, false, false⟩]
    else w.stops.map item
  let fl := w.flags ||| extra ||| maskOf ((if w.start.isNone then [flStartMissing] else []) ++
    (if w.ovf ≠ 0 then [flStopOvf] else []) ++ (if w.freq then [flFreq] else []))
  ⟨base % 2 ^ 64, sheet, m, w.startCh, items, satN 16 w.ovf, w.gen % 256, fl, w.owner, w.copy⟩

/-- An open window closes and yields its record, with flags of the closing (R84 to R86). -/
def State.closeWin (s : State) (m extra : Nat) : State :=
  let w := s.win m
  if w.isOpen then
    let r := w.record m s.sheetNo extra
    let s := s.setWin m { w with isOpen := false, stops := [], start := none, ovf := 0, count := 0, flags := 0 }
    { s with tdc := { s.tdc with closed := s.tdc.closed ++ [r] } }
  else s

/-- A window arms at a time with the settings its registers hold (R83, R85, R86); one still open closes with TRUNC. -/
def State.armWin (s : State) (m t : Nat) (late : Bool) : State :=
  let s := s.closeWin m (2 ^ flTrunc)
  s.setWin m
    { isOpen := true, armAt := t, endAt := t + tickUnits (s.get (TDC.WIN_LEN m)), startCh := s.get (TDC.WIN_CFG_START_CH m),
      freq := s.flag (TDC.WIN_CFG_MODE m), mask := s.get (TDC.WIN_STOPA m) + 2 ^ 32 * s.get (TDC.WIN_STOPB m),
      closeCount := s.get (TDC.WIN_CFG_CLOSE_COUNT m), owner := s.get (TDC.WIN_CFG_OWNER m),
      copy := s.flag (TDC.WIN_CFG_COPY_TO_RING m), gen := s.get (TDC.CH_STAT_GEN (s.get (TDC.WIN_CFG_START_CH m))),
      flags := if late then 2 ^ flLate else 0 }

/-- A window closes; in ARM mode 3 the next one arms at that time (R85). -/
def State.endWin (s : State) (m t extra : Nat) : State :=
  let s := s.closeWin m extra
  if s.get (TDC.WIN_CFG_ARM m) = 3 then s.armWin m t false else s

/-- Whether a window names a channel as start or stop. -/
def WinSt.names (w : WinSt) (n : Nat) : Bool := w.startCh == n || bitOf w.mask n

/-- Every open window that names a channel closes with ABORTED (R82, R86). -/
def State.abortWindows (s : State) (n : Nat) : State :=
  (List.range 64).foldl (fun s m => if (s.win m).isOpen && (s.win m).names n then s.closeWin m (2 ^ flAborted) else s) s

/-- Stops in order of edge time, ties by lower channel (R83). -/
def insertStop (p : Stop) : List Stop → List Stop
  | [] => [p]
  | q :: t => if p.time < q.time ∨ (p.time = q.time ∧ p.ch < q.ch) then p :: q :: t else q :: insertStop p t

/-- Whether an edge of a channel is one that a window counts or takes, as start or stop (R83, R87). -/
def WinSt.wants (w : WinSt) (n t : Nat) : Bool :=
  (n == w.startCh && (w.freq || w.start.all (fun u => decide (t < u)))) || (!w.freq && bitOf w.mask n)

/-- A stop joins the sixteen earliest; the one beyond them is not reported (R83, R84). -/
def WinSt.stop (w : WinSt) (p : Stop) : WinSt × Bool :=
  let l := insertStop p w.stops
  if l.length ≤ 16 then ({ w with stops := l }, false) else ({ w with stops := l.take 16, ovf := w.ovf + 1 }, true)

/-- An edge falls in an open window (R83, R84, R87): whether the window is then at its CLOSE_COUNT-th stop, and whether a stop overflowed.
The start is the earliest edge on START_CH, so one that arrives after a later one takes its place, and that one is a stop where START_CH is
a stop channel. -/
def WinSt.take (w : WinSt) (n t fl gen : Nat) : WinSt × Bool × Bool :=
  let w := { w with flags := w.flags ||| fl }
  let closes := fun (w : WinSt) => w.closeCount != 0 && decide (w.closeCount ≤ w.stops.length)
  if w.freq then
    match w.start with
    | none => ({ w with start := some t, gen := gen, lastEdge := t }, false, false)
    | some u => ({ w with start := some (min t u), count := w.count + 1, lastEdge := max t w.lastEdge }, false, false)
  else if n = w.startCh ∧ w.start.all (fun u => decide (t < u)) = true then
    match w.start with
    | some u =>
      let w := { w with start := some t, gen := gen }
      if bitOf w.mask n then
        let r := w.stop ⟨u, n⟩
        (r.1, closes r.1, r.2)
      else (w, false, false)
    | none => ({ w with start := some t, gen := gen }, false, false)
  else
    let r := w.stop ⟨t, n⟩
    (r.1, !r.2 && closes r.1, r.2)

/-- Whether a window is open over a time and takes an edge of a channel (R83). -/
def WinSt.holds (w : WinSt) (n t : Nat) : Bool :=
  w.isOpen && decide (w.armAt ≤ t) && decide (t < w.endAt) && w.wants n t

/-- An edge is placed into every open window that holds it; a window at its CLOSE_COUNT-th stop closes (R83, R85). -/
def State.placeEdge (s : State) (n t fl : Nat) : State :=
  let gen := s.get (TDC.CH_STAT_GEN n)
  (List.range 64).foldl (fun s m =>
    let w := s.win m
    if w.holds n t then
      let r := w.take n t fl gen
      let s := s.setWin m r.1
      let s := if r.2.2 then s.inc TDC.STOP_OVF_CNT else s
      if r.2.1 then s.endWin m t 0 else s
    else s) s

/-- The source that a channel takes its edges from (R70, Table 4-1): the pin or what SRC and SRC_SEL name; with LOOPBACK the strobe drives
TIN(32 + n) in place of the pin (R63). -/
def State.chSource (s : State) (n : Nat) : EdgeSrc :=
  let sel := s.get (TDC.CH_CFG_SRC_SEL n)
  match s.get (TDC.CH_CFG_SRC n), classA n with
  | 0, true => .pin
  | 1, true => .syncE (sel % 8)
  | 2, true => .atomClk
  | _, true => .atomPps
  | 0, false => if s.flag (TIME.EVT_CFG_LOOPBACK (n - 32)) then .strobe (n - 32) else .pin
  | 1, false => .strobe (n - 32)
  | 2, false => .output sel
  | _, false => .pps (sel % 4)

/-- Whether an edge of a source reaches a channel: the channel is enabled and takes edges of that source and direction (R70, R71, R82), and a
leading edge of a strobe or PPS output is one that the engine has driven and no channel has taken; a port whose link is down, or whose receiver
is in LPI, recovers no clock (R253). -/
def State.edgeReaches (s : State) (n : Nat) (src : EdgeSrc) (falling : Bool) : Bool :=
  s.flag (TDC.CH_CFG_ENABLE n) && !(s.ch n).sizing && s.flag (TDC.CH_CFG_EDGE n) == falling && s.chSource n == src &&
    (match src with
     | .strobe k => falling != s.flag (TIME.EVT_CFG_POL k) || s.time.loops.any (fun l => l.1 == k)
     | .syncE p => s.get (MAC.PORT_STATUS_LINK p) == 2 && !s.flag (MAC.PORT_STATUS_LPI_RX p)
     | _ => true)

/-- The oldest leading edge of a strobe on its way to the loop-back has been taken (R63). -/
def State.tookLoop (s : State) (src : EdgeSrc) : State :=
  match src with
  | .strobe k => { s with time := { s.time with loops := s.time.loops.eraseP (fun l => l.1 == k) } }
  | _ => s

/-- An edge is interpolated and placed into the windows that hold it, at the class of their owners (R74, R75, R83, R93). -/
def State.interpolate (s : State) (n t : Nat) (half : Bool) (self : Instr) : State :=
  let go := fun (s : State) =>
    let s := s.setCh n { s.ch n with lastPass := some t }
    (if half then s.inc TDC.HALF_CNT else s).placeEdge n t (s.edgeFlags n half)
  let open_ := s.tdc.wins.filter (fun w => w.holds n t)
  if open_.isEmpty then go s
  else if open_.any (fun w => w.owner != 0) then go (s.charge0 6)
  else s.tryPay 3 6 self 1 go

/-- TDC_EDGE (R64, R70 to R75, R83): an edge of a source reaches the channels' lines. The prescaler passes every Nth edge; a passed edge less
than 3.2 ns after the passed edge before it is not measured; the others are interpolated and placed into open windows. `gap` is the time in
ps since the passed edge before it. -/
def runTdcEdge (n : Nat) (src : EdgeSrc) (falling : Bool) (gap tc : Nat) (second : Bool) (tE tF : Option Nat) (after : Bool) (stage : Nat)
    (s : State) : State :=
  let self : Instr := .tdcEdge n src falling gap tc second tE tF after
  let half := tE.isNone || tF.isNone
  if stage ≠ 0 then s.interpolate n (s.edgeTime n tc second tE tF after) half self
  else if !s.edgeReaches n src falling then s
  else
    let s := s.tookLoop src
    let c := s.ch n
    if c.skip ≠ 0 then s.setCh n { c with skip := c.skip - 1 }
    else
      let s := (s.setCh n { c with skip := s.get (TDC.CH_PRESC n), passed := true }).inc (TDC.CH_CNT n)
      let t := s.edgeTime n tc second tE tF after
      if c.passed && decide (gap < 3200) then
        (List.range 64).foldl (fun s m =>
          let w := s.win m
          if w.holds n t then s.setWin m { w with flags := w.flags ||| 2 ^ flDead } else s) (s.inc TDC.DEAD_CNT)
      else if tE.isNone && tF.isNone then s
      else s.interpolate n t half self

/-- WINDOW_ARM (R85): a window arms at its command's target, at its offset from the sheet edge, continuously from the present, or at the
last leading edge of its strobe; once for each of them. -/
def runWindowArm (m : Nat) (s : State) : State :=
  let w := s.win m
  match s.get (TDC.WIN_CFG_ARM m) with
  | 1 =>
    match w.pend with
    | some u => if u ≤ s.time.next then (s.setWin m { w with pend := none }).armWin m u w.pendLate else s
    | none => s
  | 2 =>
    let u := s.time.edge + tickUnits (s.get (TDC.WIN_OFF m))
    if w.armAt = u then s else s.armWin m u false
  | 3 => if w.isOpen then s else s.armWin m s.units false
  | 4 =>
    match nth s.time.lead (s.get (TDC.WIN_CFG_STROBE m)) none with
    | some u => if w.armAt = u then s else s.armWin m u false
    | none => s
  | _ => s

/-- WINDOW_CLOSE (R85): the window's length ends. -/
def runWindowClose (m : Nat) (s : State) : State :=
  if (s.win m).isOpen ∧ (s.win m).endAt ≤ s.time.next then s.endWin m (s.win m).endAt 0 else s

/-! ### Delivery (R88 to R90) -/

/-- Entries of a record on the measurement ring: a head and ⌈NSTOPS ÷ 3⌉ continuations (R89). -/
def MeasRec.entries (r : MeasRec) : Nat := 1 + (r.items.length + 2) / 3

/-- The descriptors of a record (Table 4-5). -/
def MeasRec.descs (r : MeasRec) : List Desc :=
  .measHead r :: (List.range ((r.items.length + 2) / 3)).map (fun i => .measCont ((r.items.drop (3 * i)).take 3))

/-- The entries the measurement staging area holds. -/
def State.stagedEntries (s : State) : Nat := (s.tdc.staged.map MeasRec.entries).foldl (· + ·) 0

/-- Where an entry of the measurement staging area stands, counted from its oldest. -/
def State.measSlot (s : State) (i : Nat) : Nat := 0x06600000 + 32 * ((s.tdc.head + i) % 16384)

/-- The entries of a record are written into the staging area; whether the regions permitted each of them (R405). -/
def State.putMeas (s : State) : Nat → Nat → Bool × State
  | _, 0 => (true, s)
  | i, k + 1 =>
    match s.stagePut 1 (s.measSlot i) with
    | (.ok, s) => State.putMeas s (i + 1) k
    | (_, s) => (false, s)

/-- The entries of a staged record are read back: the worst of what they gave (R405, R407). -/
def State.getMeas (s : State) : Nat → Nat → Staged × State
  | _, 0 => (.ok, s)
  | i, k + 1 =>
    match s.stageGet 1 (s.measSlot i) with
    | (.ok, s) => State.getMeas s (i + 1) k
    | r => r

/-- A record waits in the staging area, or is discarded whole when that is full or denied, and the next one delivered carries GAP (R90). -/
def State.stageMeas (s : State) (r : MeasRec) : State :=
  let lost := fun (s : State) => ({ s with tdc := { s.tdc with gap := true } }).inc TDC.MEAS_DROP_CNT
  if s.stagedEntries + r.entries ≤ 16384 then
    match s.putMeas s.stagedEntries r.entries with
    | (true, s) => { s with tdc := { s.tdc with staged := s.tdc.staged ++ [r] } }
    | (false, s) => lost s
  else lost s

/-- The stock of posting a record to the ring (Table 4-7). -/
def MeasRec.stock (r : MeasRec) : Nat := 40 + 10 * (r.entries - 1)

/-- A record goes out on the measurement ring, with GAP if one before it was lost (R89, R90). -/
def State.sendMeas (s : State) (n : Nat) (r : MeasRec) : State :=
  let r := if s.tdc.gap then { r with flags := r.flags ||| 2 ^ flGap } else r
  ({ s with tdc := { s.tdc with gap := false } }).ringWrite n r.descs

/-- Staged records go out on the measurement ring in order, while it has room and class 3 can pay (R90, R93). One found uncorrectable is
discarded (R407); a read of one that is denied halts the ring with ERR DMA (R405). -/
def State.drainMeas (s : State) : Nat → State
  | 0 => s
  | k + 1 =>
    match s.ringOf 4, s.tdc.staged with
    | some n, r :: rs =>
      if s.ringRoom n r.entries then
        match s.charge 3 r.stock with
        | some s' =>
          let q := s'.getMeas 0 r.entries
          let s := { q.2 with tdc := { q.2.tdc with staged := rs, head := (q.2.tdc.head + r.entries) % 16384 } }
          match q.1 with
          | .ok => State.drainMeas (s.sendMeas n r) k
          | .denied => q.2.ringHalt n 3
          | .uncorr => State.drainMeas { s with tdc := { s.tdc with gap := true } } k
        | none => s
      else s.putB (HIF.RING_STAT_FULL n) true
    | _, _ => s

/-- A record for the host goes to the ring at once while none waits before it, or into the staging area (R90). -/
def State.postMeas (s : State) (r : MeasRec) : State :=
  match s.ringOf 4 with
  | some n =>
    if s.tdc.staged.isEmpty && s.ringRoom n r.entries then
      match s.charge 3 r.stock with
      | some s => s.sendMeas n r
      | none => s.stageMeas r
    else s.stageMeas r
  | none => s.stageMeas r

/-- MEAS_DELIVERY_SLICE (R88): windows closed in the sheets before this one go to their owning blocks or to the ring. -/
def runMeasDeliverySlice (s : State) : State :=
  let rs := s.tdc.closed.filter (fun r => decide (r.sheet < s.sheetNo))
  let own := rs.filter (fun r => r.owner != 0)
  let s := { s with tdc := { s.tdc with closed := s.tdc.closed.filter (fun r => !decide (r.sheet < s.sheetNo)), inbox := own } }
  let s := (s.atSheetTime (nsU 250)).charge0 (20 * own.length)
  let s := s.drainMeas s.tdc.staged.length
  (rs.filter (fun r => r.owner == 0 || r.copy)).foldl (fun s r => s.postMeas r) s

/-! ### Commands (R92) -/

/-- MEAS_ARM (R85, R92): arms at a target, at once for 0; the default late policy is to execute late. -/
def runMeasArm (h : Hdr) (m target : Nat) (s : State) : State :=
  s.command h 0x30 false (.measArm h m target) 0 (fun s =>
    if 63 < m then s.complete h 0x30 stRANGE 0
    else if s.get (TDC.WIN_CFG_ARM m) ≠ 1 then s.complete h 0x30 stINVALID 0
    else if (s.win m).isOpen then s.complete h 0x30 stBUSY 0
    else if target = 0 then ((s.armWin m s.units false).journalCmd h 0x30 m 0).complete h 0x30 stOK 0
    else
      let u := s.targetUnits target
      let pol := h.polGiven && h.latePol
      if s.targetOk u = false then s.complete h 0x30 stRANGE 0
      else
        let late := s.isLate u
        if late && pol then (s.inc SHEET.LATE_DISCARD_CNT).complete h 0x30 stLATE 0
        else
          let s := if late then s.inc SHEET.LATE_CNT else s
          let s := s.setWin m { s.win m with pend := some (if late then s.time.next else u.toNat), pendLate := late, pendPol := pol }
          (s.journalCmd h 0x30 m (target % 2 ^ 64)).complete h 0x30 stOK 0 late)

/-- A window is disarmed: no target is pending, and an open one closes with ABORTED (R86). -/
def State.disarmWin (s : State) (m : Nat) : State :=
  let s := s.closeWin m (2 ^ flAborted)
  s.setWin m { s.win m with pend := none }

/-- MEAS_DISARM (R86, R92): as a write of ARM 0. -/
def runMeasDisarm (h : Hdr) (m : Nat) (s : State) : State :=
  s.command h 0x31 false (.measDisarm h m) 0 (fun s =>
    if 63 < m then s.complete h 0x31 stRANGE 0
    else (((s.put (TDC.WIN_CFG_ARM m) 0).disarmWin m).journalCmd h 0x31 m 0).complete h 0x31 stOK 0)

/-- TDC_SIZE (R2, R82): starts sizing of the named channels, in SIZING only. -/
def runTdcSize (h : Hdr) (mask : Nat) (s : State) : State :=
  s.command h 0x32 false (.tdcSize h mask) 0 (fun s =>
    if s.mode ≠ 1 then s.complete h 0x32 stMODE 0
    else if s.tdc.sizing.isSome then s.complete h 0x32 stBUSY 0
    else
      let chs := bitsOf 48 mask
      let s := chs.foldl (fun s n =>
        let s := s.abortWindows n
        s.setCh n { s.ch n with sizing := true, histE := [], histF := [] }) s
      let s := s.journalCmd h 0x32 (mask % 2 ^ 64) 0
      if chs.isEmpty then s.complete h 0x32 stOK 0
      else
        let s := { s with tdc := { s.tdc with sizing := some ⟨h, chs⟩ } }
        s.puts [(TDC.TDC_STATUS_SIZING_RUN, 1), (SIZING.SIZ_STATUS_RUNNING, 1)])

/-- The count of a tap in a histogram. -/
def histAt (h : List (Nat × Nat)) (t : Nat) : Nat := ((h.find? (fun p => p.1 == t)).map (·.2)).getD 0

/-- A histogram as 192 counts. -/
def histList (h : List (Nat × Nat)) : List Nat := (List.range 192).map (histAt h)

/-- One more count, or several, in a tap (R78). -/
def histAdd (h : List (Nat × Nat)) (t n : Nat) : List (Nat × Nat) :=
  if h.any (fun p => p.1 == t) then h.map (fun p => if p.1 == t then (p.1, p.2 + n) else p) else h ++ [(t, n)]

/-- The counts a histogram holds. -/
def histTotal (h : List (Nat × Nat)) : Nat := (h.map (·.2)).foldl (· + ·) 0

/-- The T entries of a line from its counts (R79): widths of the taps below plus half its own, in 2⁻¹⁶ ns. -/
def tapEntries (h : List Nat) : List Nat :=
  let total := h.foldl (· + ·) 0
  let step := fun (acc : Nat × List Nat) (x : Nat) =>
    (acc.1 + x, (roundDiv (((2 * acc.1 + x) * 262144 : Nat) : Int) (10 * total)).toNat :: acc.2)
  (h.foldl step (0, [])).2.reverse

/-- The taps of a line with a count. -/
def tapsUsed (h : List Nat) : Nat := (h.filter (· != 0)).length

/-- The bytes of a bin table (Table 4-3). -/
def binBytes (n : Nat) (t : BinTable) : List Byte :=
  let body := leBytes 4 t.gen ++ leBytes 4 t.hitsE ++ leBytes 4 t.hitsF ++ leBytes 2 t.npE ++ leBytes 2 t.npF ++
    leBytes 1 n ++ leBytes 15 0 ++ (t.tE.map (leBytes 2)).flatten ++ (t.tF.map (leBytes 2)).flatten
  body ++ leBytes 4 (crc32 body) ++ leBytes 28 0

/-- The bytes of an INL table (Table 4-4). -/
def inlBytes (n : Nat) (t : InlTable) : List Byte :=
  let body := leBytes 4 t.gen ++ leBytes 4 t.hits ++ leBytes 1 n ++ leBytes 23 0 ++
    (t.inl.map (fun i => leBytes 2 (ofS 16 i))).flatten
  body ++ leBytes 4 (crc32 body) ++ leBytes 28 0

/-- The table in force of a channel as bytes (R81). -/
def State.tableBytes (s : State) (n : Nat) : List Byte :=
  if classA n then
    inlBytes n ((s.ch n).inl.getD ⟨0, 0, (List.range 320).map (Config.factoryInl n)⟩)
  else
    binBytes n ((s.ch n).bin.getD ⟨0, 0, 0, 0, 0, (List.range 192).map (Config.factoryTap n 0),
      (List.range 192).map (Config.factoryTap n 1)⟩)

/-- A bin table read from its bytes (Table 4-3). -/
def binOfBytes (b : List Byte) : BinTable :=
  ⟨leAt b 0 4, leAt b 4 4, leAt b 8 4, leAt b 0xC 2, leAt b 0xE 2, (List.range 192).map (fun i => leAt b (0x20 + 2 * i) 2),
    (List.range 192).map (fun i => leAt b (0x1A0 + 2 * i) 2)⟩

/-- An INL table read from its bytes (Table 4-4). -/
def inlOfBytes (b : List Byte) : InlTable :=
  ⟨leAt b 0 4, leAt b 4 4, (List.range 320).map (fun i => toS 16 (leAt b (0x20 + 2 * i) 2))⟩

/-- The uncertainty U of a channel in force, in ps: from user sizing, else from factory sizing (R82, Table 20-6). -/
def State.chU (s : State) (n : Nat) : Nat :=
  match s.userItem n with
  | some i => leAt i.body 4 4
  | none => Config.factoryU n

/-- The sizing item of a channel (Table 20-6). -/
def chItem (n : Nat) : Nat := n

/-- The counts that each line of a channel gathers in a TDC_SIZE (R82). -/
def sizeCounts : Nat := 2 ^ 24

/-- TDC_SIZE_DONE (R82): both lines of a channel hold 2²⁴ counts; its table is computed and written to user sizing, and the channel
measures again; the command completes with its last channel. -/
def runTdcSizeDone (n : Nat) (s : State) : State :=
  match s.tdc.sizing with
  | none => s
  | some z =>
    if !z.left.contains n || histTotal (s.ch n).histE != sizeCounts || histTotal (s.ch n).histF != sizeCounts then s
    else s.tryPay 4 3000 (.tdcSizeDone n) 0 (fun s =>
      let e := histList (s.ch n).histE
      let f := histList (s.ch n).histF
      let gen := s.get (TDC.CH_STAT_GEN n) + 1
      let table := if classA n then inlBytes n ⟨gen, sizeCounts, (List.range 320).map (Config.inlOf n e f)⟩
        else binBytes n ⟨gen, sizeCounts, sizeCounts, tapsUsed e, tapsUsed f, tapEntries e, tapEntries f⟩
      let body := leBytes 4 (ofS 32 (s.chDelay n)) ++ leBytes 4 (s.chU n) ++ table
      let s := s.sizeItem z.cmd.origin (chItem n) s.taiSec body
      let s := s.setCh n { s.ch n with sizing := false, histE := [], histF := [], skip := 0 }
      let s := s.putB (TDC.CH_STAT_SPARED n) false
      let left := z.left.filter (· != n)
      if left.isEmpty then
        let s := ({ s with tdc := { s.tdc with sizing := none } }).putB TDC.TDC_STATUS_SIZING_RUN false
        s.complete z.cmd 0x32 stOK 0
      else { s with tdc := { s.tdc with sizing := some { z with left := left } } })

/-- TDC_TABLE_READ (R81, R92): writes a channel's table to host memory. -/
def runTdcTableRead (h : Hdr) (n addr : Nat) (s : State) : State :=
  s.command h 0x33 true (.tdcTableRead h n addr) (if classA n then 88 else 104) (fun s =>
    if 47 < n ∨ s.flag (TDC.CH_CFG_ENABLE n) = false then s.complete h 0x33 stINVALID 0
    else s.dataOut h 0x33 addr (s.tableBytes n) (if classA n then 704 else 832))

/-- TDC_CDC_RESTART (R92): discards a class B channel's histograms and keeps the table in force. -/
def runTdcCdcRestart (h : Hdr) (n : Nat) (s : State) : State :=
  s.command h 0x34 false (.tdcCdcRestart h n) 0 (fun s =>
    if n < 32 ∨ 47 < n then s.complete h 0x34 stINVALID 0
    else ((s.setCh n { s.ch n with histE := [], histF := [] }).journalCmd h 0x34 n 0).complete h 0x34 stOK 0)

/-! ### Calibration -/

/-- What CH_STAT, CH_DLL and CAL_OK_A show of a class A channel (R76). -/
def State.showDll (s : State) (n : Nat) : State :=
  let c := s.ch n
  let ok := c.lineE.dll == 3 && c.lineF.dll == 3
  let s := s.puts [(TDC.CH_STAT_CAL_STATE n, min c.lineE.dll c.lineF.dll), (TDC.CH_STAT_CAL_OK n, if ok then 1 else 0),
    (TDC.CH_DLL_COARSE n, c.lineE.coarse), (TDC.CH_DLL_FINE n, c.lineE.fine), (TDC.CH_DLL_COARSE_F n, c.lineF.coarse)]
  s.put TDC.CAL_OK_A (putBit (s.get TDC.CAL_OK_A) n ok)

/-- The state with one line of a class A channel replaced. -/
def State.setLine (s : State) (n : Nat) (line : Bool) (l : LineSt) : State :=
  let c := s.ch n
  (s.setCh n (if line then { c with lineF := l } else { c with lineE := l })).showDll n

/-- One line of a channel. -/
def State.line (s : State) (n : Nat) (line : Bool) : LineSt := if line then (s.ch n).lineF else (s.ch n).lineE

/-- A class A channel's DLLs go OFF or start to SEARCH (Table 4-2). -/
def State.dllPower (s : State) (n : Nat) (on : Bool) : State :=
  if classA n then
    let f := fun (l : LineSt) =>
      if on then (if l.dll = 0 then { l with dll := 1, coarse := 512, fine := 32 } else l)
      else { l with dll := 0, outSheets := 0, fault := false }
    let c := s.ch n
    (s.setCh n { c with lineE := f c.lineE, lineF := f c.lineF }).showDll n
  else
    let st := if !s.flag (TDC.CH_CFG_ENABLE n) then 0 else if (s.ch n).fresh then 2 else 1
    let s := s.puts [(TDC.CH_STAT_CAL_STATE n, st), (TDC.CH_STAT_CAL_OK n, if st = 0 then 0 else 1)]
    s.put TDC.CAL_OK_B (putBit (s.get TDC.CAL_OK_B) (n - 32) (st != 0))

/-- DLL_SEARCH_DONE (Table 4-2): the coarse code is fixed and the line tracks. -/
def runDllSearchDone (n : Nat) (line : Bool) (coarse : Nat) (s : State) : State :=
  let l := s.line n line
  if classA n && l.dll == 1 then s.setLine n line { l with dll := 2, coarse := coarse % 1024 } else s

/-- DLL_LOCK (Table 4-2): the line is LOCKED. -/
def runDllLock (n : Nat) (line : Bool) (fine : Nat) (s : State) : State :=
  let l := s.line n line
  if classA n && l.dll == 2 then
    (s.setLine n line { l with dll := 3, fine := fine % 64, outSheets := 0, fault := false }).event 0x0301 n 3
  else s

/-- DLL_UNLOCK (Table 4-2): the line returns to TRACK, counted. -/
def runDllUnlock (n : Nat) (line : Bool) (s : State) : State :=
  let l := s.line n line
  if classA n && l.dll == 3 then ((s.setLine n line { l with dll := 2 }).inc TDC.DLL_UNLOCK_CNT).event 0x0302 n 2 else s

/-- DLL_TRACK_TIMEOUT (Table 4-2): the line searches again; only the timeout is counted. -/
def runDllTrackTimeout (n : Nat) (line fineEnd : Bool) (s : State) : State :=
  let l := s.line n line
  if classA n && l.dll == 2 then
    let s := s.setLine n line { l with dll := 1 }
    if fineEnd then s else s.inc TDC.DLL_FAIL_CNT
  else s

/-- TDC_DLL_FAULT (R77, R470): a line out of LOCKED for more than 8 sheets raises TDC_DLL and becomes a candidate. -/
def runTdcDllFault (n : Nat) (line : Bool) (s : State) : State :=
  let l := s.line n line
  if classA n && decide (8 < l.outSheets) then
    (s.setLine n line { l with fault := true }).addCandidate 3 (2 * n + (if line then 1 else 0)) 0
  else s

/-- CDC_TABLE_COMPUTE (R79): full histograms yield a table that takes effect at the next edge, or CDC_BAD. -/
def runCdcTableCompute (n : Nat) (s : State) : State :=
  let c := s.ch n
  let full := 2 ^ s.get TDC.TDC_CFG_CAL_TARGET_LOG2
  if classA n || decide (47 < n) || decide (histTotal c.histE < full) || decide (histTotal c.histF < full) then s
  else s.tryPay 4 3000 (.cdcTableCompute n) 0 (fun s =>
    let e := histList c.histE
    let f := histList c.histF
    let okNp := fun (x : Nat) => decide (150 ≤ x) && decide (x ≤ 190)
    let s := s.setCh n { c with histE := [], histF := [] }
    if okNp (tapsUsed e) && okNp (tapsUsed f) then
      let g := (c.bin.map (·.gen)).getD 0 + 1
      s.setCh n { s.ch n with due := some ⟨g, histTotal c.histE, histTotal c.histF, tapsUsed e, tapsUsed f,
        tapEntries e, tapEntries f⟩ }
    else s.event 0x0303 n 0)

/-- New bin tables replace the old ones at a sheet edge (R79), and injections of the sheet that ended are counted (R78). -/
def State.applyTables (s : State) : State :=
  (List.range 16).foldl (fun s i =>
    let n := 32 + i
    match (s.ch n).due with
    | some t =>
      let s := s.setCh n { s.ch n with bin := some t, due := none, tableSheet := s.sheetNo, fresh := true }
      s.puts [(TDC.CH_STAT_GEN n, t.gen % 256), (TDC.CH_STAT_CAL_STATE n, if s.flag (TDC.CH_CFG_ENABLE n) then 2 else 0)]
    | none => s) s

/-- The random edges that a line of a channel gets in a sheet: INJECT_RATE into each line of an enabled class B channel (R78), 1,023 into
each line of one being sized, until it holds its counts (R82). -/
def State.injectMost (s : State) (n : Nat) (line : Bool) : Nat :=
  let c := s.ch n
  if c.sizing then min 1023 (sizeCounts - histTotal (if line then c.histF else c.histE))
  else if s.flag (TDC.CH_CFG_ENABLE n) && !classA n then s.get TDC.TDC_CFG_INJECT_RATE else 0

/-- Random edges of the sheet fill the histograms, as many of them as each line gets (R78, R82); `got` counts what each has had. -/
def State.injects (s : State) : List Injection → List (Nat × Bool × Nat) → State
  | [], _ => s
  | j :: l, got =>
    let had := ((got.filter (fun g => g.1 == j.ch && g.2.1 == j.line)).map (·.2.2)).foldl (· + ·) 0
    let k := min j.n (s.injectMost j.ch j.line - (if (s.ch j.ch).sizing then 0 else had))
    let c := s.ch j.ch
    let s := if k = 0 then s
      else s.setCh j.ch (if j.line then { c with histF := histAdd c.histF j.tap k } else { c with histE := histAdd c.histE j.tap k })
    State.injects s l ((j.ch, j.line, k) :: got)

/-- The stock of the calibration of a sheet (R93): the DLLs of enabled class A channels in class 0, injections and sizing in class 4. The
histograms fill whether or not class 4 can pay. -/
def State.chargeTdc (s : State) : State :=
  let on := (List.range 48).filter (fun n => s.flag (TDC.CH_CFG_ENABLE n))
  let b := (on.filter (fun n => !classA n)).length * ((25 * s.get TDC.TDC_CFG_INJECT_RATE + 255) / 256)
  let z := 100 * (s.tdc.sizing.map (fun (z : TdcSizing) => z.left.length)).getD 0
  let s := s.charge0 (4 * (on.filter classA).length)
  (s.charge 4 (b + z)).getD s

/-- The random edges of the sheet that ended are counted; they are discarded while the system PLL is out of lock (R78). -/
def State.inject (s : State) (l : List Injection) : State :=
  let s := s.chargeTdc
  if s.flag SYN.SYN_STATUS_SP_LOCK then s.injects l [] else s

/-- At a sheet edge each class A line out of LOCKED while the system PLL is in lock is one sheet longer out (R77). -/
def State.countDll (s : State) : State :=
  let on := s.flag SYN.SYN_STATUS_SP_LOCK
  let f := fun (l : LineSt) => if on && l.dll != 0 && l.dll != 3 then { l with outSheets := l.outSheets + 1 } else l
  { s with tdc := { s.tdc with chans := s.tdc.chans.map (fun c => { c with lineE := f c.lineE, lineF := f c.lineF }) } }

/-- A step judges every pending window target again (R55): a late one follows its policy, one out of range is discarded. -/
def State.rejudgeWindows (s : State) : State :=
  (List.range 64).foldl (fun s m =>
    match (s.win m).pend with
    | none => s
    | some u =>
      if (s.win m).pendLate then s.setWin m { s.win m with pend := some s.time.edge }
      else if s.isLate u then
        if (s.win m).pendPol then
          ((s.inc SHEET.LATE_DISCARD_CNT).setWin m { s.win m with pend := none }).eventJ .auto 0x0206 0x30 stLATE stLATE 0
        else (s.inc SHEET.LATE_CNT).setWin m { s.win m with pend := some s.time.next, pendLate := true }
      else if !s.targetOk u then (s.setWin m { s.win m with pend := none }).eventJ .auto 0x0206 0x30 stRANGE stRANGE 0
      else s) s

end Sys2Proof.Machine
end

