-- ==== Sys2Proof/Machine/Orbit.lean ====
section
/-! DEFINITION. The ephemeris store, visibility and the linear algebra of the time solution (chapter 6). -/

namespace Sys2Proof.Machine

/-! ### The ephemeris store (R126) -/

/-- Slot of a satellite (R126), none for an SV number the system does not have. -/
def ephSlot (sys sv : Nat) : Option Nat :=
  if sys = 0 then (if 1 ≤ sv ∧ sv ≤ 32 then some (sv - 1) else none)
  else if sys = 1 then (if 1 ≤ sv ∧ sv ≤ 36 then some (31 + sv) else none)
  else if sys = 2 then (if 1 ≤ sv ∧ sv ≤ 63 then some (67 + sv) else none)
  else if sys = 3 then (if 1 ≤ sv ∧ sv ≤ 24 then some (130 + sv) else none)
  else if sys = 4 then (if 193 ≤ sv ∧ sv ≤ 202 then some (sv - 38) else none)
  else none

/-- The system that a slot belongs to. -/
def slotSystem (slot : Nat) : Nat :=
  if slot < 32 then 0 else if slot < 68 then 1 else if slot < 131 then 2 else if slot < 155 then 3 else 4

/-- The SV number of a slot. -/
def slotSv (slot : Nat) : Nat :=
  if slot < 32 then slot + 1 else if slot < 68 then slot - 31 else if slot < 131 then slot - 67
  else if slot < 155 then slot - 130 else slot + 38

/-- Vat address of the current record of a slot. -/
def ephAddr (slot : Nat) : Nat := 0x06400000 + 512 * slot

/-- Vat address of an almanac record. -/
def almAddr (slot : Nat) : Nat := 0x06420000 + 64 * slot

/-- Whether a record's CRC holds (Table 6-3); an erased record's does not. -/
def ephCrcOk (r : List Byte) : Bool := r.length == 256 && crc32 (r.take 0xFC) == leAt r 0xFC 4

/-- TOE of a record. -/
def ephToe (r : List Byte) : Nat := leAt r 8 8

/-- Whether the present time lies in the record's fit interval, centred on TOE (R127, Table 6-3). -/
def ephFits (r : List Byte) (t : Rat) : Bool :=
  decide (2 * absQ (t - (ephToe r : Nat)) ≤ ((leAt r 0xC8 4 : Nat) : Rat))

/-- Whether a record can be used at a time: it holds, its satellite is healthy, its fit interval has not ended. -/
def ephUsable (r : List Byte) (t : Rat) : Bool := ephCrcOk r && leAt r 3 1 == 0 && ephFits r t

/-- A navigation master's read of the store; an uncorrectable record is discarded (R407). -/
def State.navRead (s : State) (a n : Nat) : List Byte × State :=
  let r := s.vatRead 4 a n
  match r.1 with
  | .ok b => (b, r.2)
  | .denied b => (b, r.2)
  | .uncorr => (List.replicate n 0, (r.2.vatWrite 4 a (List.replicate n 0)).2)

/-- The counter's time in TAI seconds. -/
def State.taiQ (s : State) : Rat := (s.units : Rat) / 65536000000000

/-- Bytes of the vat as navigation reads them for what it shows, zeros where it may not (R405). -/
def State.navSee (s : State) (a n : Nat) : List Byte := s.vatSee 4 a n

/-- A write by navigation. -/
def State.navWrite (s : State) (a : Nat) (b : List Byte) : State := (s.vatWrite 4 a b).2

/-- The position in use in metres: the running estimate of a survey, else the held one. -/
def State.antenna (s : State) : Option (List Rat) :=
  (s.nav.survey.bind (fun (v : Survey) => v.est)).or
    (if s.flag GNSSN.NAV_STATUS_POS_VALID then some (s.nav.pos.map (fun (i : Int) => (i : Rat) / 1000)) else none)

/-! ### Vectors -/

/-- Sum of products of two lists. -/
def dotQ (a b : List Rat) : Rat := (List.zipWith (· * ·) a b).foldl (· + ·) 0

/-- Difference of two lists. -/
def subQ (a b : List Rat) : List Rat := List.zipWith (· - ·) a b

/-- Sum of two lists. -/
def addQ (a b : List Rat) : List Rat := List.zipWith (· + ·) a b

/-- A list scaled. -/
def scaleQ (k : Rat) (a : List Rat) : List Rat := a.map (k * ·)

/-- Length of a vector. -/
def normQ (a : List Rat) : Rat := sqrtQ (dotQ a a)

/-- Speed of light in m/s. -/
def lightQ : Rat := 299792458

/-- The geodetic latitude in radians and height in metres of a position that is not on the polar axis, on the WGS 84 ellipsoid (PRESUMED:
the manual says height and latitude, and names no ellipsoid), by eight iterations; and its distance from the axis. -/
def geodetic (pos : List Rat) : Rat × Rat × Rat :=
  let a : Rat := 6378137
  let f : Rat := 1000000000 / 298257223563
  let e2 := f * (2 - f)
  let x := nth pos 0 0
  let y := nth pos 1 0
  let z := nth pos 2 0
  let p := fine (sqrtQ (x * x + y * y))
  let n := fun (lat : Rat) => fine (a / sqrtQ (1 - e2 * sinQ lat * sinQ lat))
  let lat := (List.range 8).foldl (fun (lat : Rat) _ => atanQ (fine ((z + e2 * n lat * sinQ lat) / p))) (atanQ (fine (z / (p * (1 - e2)))))
  (lat, fine (p / cosQ lat) - n lat, p)

/-- The upward direction at a position. -/
def upVec (pos : List Rat) : List Rat :=
  let g := geodetic pos
  if g.2.2 = 0 then Config.centreUp
  else [cosQ g.1 * nth pos 0 0 / g.2.2, cosQ g.1 * nth pos 1 0 / g.2.2, sinQ g.1]

/-- sin E of a satellite seen from a position. -/
def sinElev (pos sat : List Rat) : Rat := let d := subQ sat pos; dotQ (upVec pos) d / normQ d

/-! ### Orbits (R129) -/

/-- A parameter of a record of Table 6-3. -/
def ephParam (r : List Byte) (i : Nat) : Rat := let w := leAt r (0x18 + 8 * i) 8; (binary64 w).getD (Config.notANumber w)

/-- One Runge-Kutta step of fourth order of position and velocity, with a constant acceleration beside that of the field. -/
def rkStep (acc : List Rat) (h : Rat) (q : List Rat × List Rat) : List Rat × List Rat :=
  let f := fun (x : List Rat × List Rat) => (x.2, addQ (Config.gloField x.1 x.2) acc)
  let move := fun (k : Rat) (d : List Rat × List Rat) => (addQ q.1 (scaleQ k d.1), addQ q.2 (scaleQ k d.2))
  let k1 := f q
  let k2 := f (move (h / 2) k1)
  let k3 := f (move (h / 2) k2)
  let k4 := f (move h k3)
  let mix := fun (a b c d : List Rat) => scaleQ (h / 6) (addQ (addQ a d) (scaleQ 2 (addQ b c)))
  ((addQ q.1 (mix k1.1 k2.1 k3.1 k4.1)).map fine, (addQ q.2 (mix k1.2 k2.2 k3.2 k4.2)).map fine)

/-- Position from a record of KIND 1 (R129): from TOE in steps of 30 s, and a last step for what remains. -/
def rkPos (r : List Byte) (t : Rat) : List Rat :=
  let dt := t - (ephToe r : Nat)
  let n := (absQ dt / 30).floor.toNat
  let h : Rat := if dt < 0 then -30 else 30
  let p := fun (i : Nat) => ephParam r i
  let q := (List.range n).foldl (fun x _ => rkStep [p 6, p 7, p 8] h x) ([p 0, p 1, p 2], [p 3, p 4, p 5])
  (rkStep [p 6, p 7, p 8] (dt - n * h) q).1

/-- Satellite position in metres from a record at a time in TAI seconds (R129). -/
def satPos (r : List Byte) (t : Rat) : List Rat := if leAt r 7 1 = 1 then rkPos r t else Config.keplerPos r t

/-! ### Visibility (R128) -/

/-- Whether a system has a record in the almanac or in the ephemeris store. -/
def State.sysHas (s : State) (sys : Nat) (alm : Bool) : Bool :=
  (List.range 165).any (fun i => slotSystem i == sys &&
    (if alm then (s.navSee (almAddr i) 64).any (· != 0) else ephCrcOk (s.navSee (ephAddr i) 256)))

/-- Whether a satellite is visible in the sense of automatic allocation (R128): by almanac or ephemeris above
ELEV_MASK − 5° with health 0; every satellite of a system with no almanac, no ephemeris or no position. -/
def State.visible (s : State) (sys sv : Nat) : Bool :=
  match ephSlot sys sv, s.antenna with
  | none, _ => false
  | some _, none => true
  | some i, some pos =>
    if !s.sysHas sys true || !s.sysHas sys false then true
    else
      let deg : Int := (s.get GNSSN.MASK_CFG_ELEV_MASK : Int) - 5
      let alm := s.navSee (almAddr i) 64
      let eph := s.navSee (ephAddr i) 256
      (alm.any (· != 0) && Config.almVisible alm i s.taiQ pos deg) ||
        (ephUsable eph s.taiQ && decide (sinTurns ((deg : Rat) / 360) < sinElev pos (satPos eph s.taiQ)))

/-! ### Matrices -/

/-- The state of an elimination: rows of a matrix with the identity beside it, none when a pivot is wanting. -/
def elimStep (m : List (List Rat)) (k : Nat) : Option (List (List Rat)) :=
  match ((m.drop k).zipIdx.find? (fun p => nth p.1 k 0 != 0)) with
  | none => none
  | some (row, j) =>
    let piv := scaleQ (1 / nth row k 0) row
    let swapped := (m.set (k + j) (nth m k [])).set k piv
    some (swapped.zipIdx.map (fun p => if p.2 = k then p.1 else subQ p.1 (scaleQ (nth p.1 k 0) piv)))

/-- The inverse of a square matrix, none when it has none. -/
def matInv (m : List (List Rat)) : Option (List (List Rat)) :=
  let n := m.length
  let aug := m.zipIdx.map (fun p => p.1 ++ (List.range n).map (fun j => if j = p.2 then 1 else 0))
  ((List.range n).foldl (fun (a : Option (List (List Rat))) k => a.bind (fun x => elimStep x k)) (some aug)).map
    (fun x => x.map (fun r => r.drop n))

/-- A matrix times a vector. -/
def mulVec (m : List (List Rat)) (v : List Rat) : List Rat := m.map (fun r => dotQ r v)

/-- The sum of k · h hᵀ over rows (h, k). -/
def gram (n : Nat) (rows : List (List Rat × Rat)) : List (List Rat) :=
  (List.range n).map (fun i => (List.range n).map (fun j =>
    (rows.map (fun r => r.2 * nth r.1 i 0 * nth r.1 j 0)).foldl (· + ·) 0))

/-- A block of a matrix: the rows and columns from an index, so many of each. -/
def block (m : List (List Rat)) (r nr c nc : Nat) : List (List Rat) := ((m.drop r).take nr).map (fun x => (x.drop c).take nc)

/-- The transpose of a matrix with `n` columns. -/
def transposeQ (n : Nat) (m : List (List Rat)) : List (List Rat) := (List.range n).map (fun j => m.map (fun r => nth r j 0))

/-- The product of two matrices, the second with `n` columns. -/
def mulMat (n : Nat) (a b : List (List Rat)) : List (List Rat) := let t := transposeQ n b; a.map (fun r => t.map (fun c => dotQ r c))

end Sys2Proof.Machine
end

