-- ==== Sys2Proof/Machine/Gnss.lean ====
section
/-! DEFINITION. GNSS signal processing: sample ports, interference defence, acquisition, tracking channels, observations (chapter 5). -/

namespace Sys2Proof.Machine

/-! ### Signals (Table 5-1) -/

/-- Band of a signal: 0 for A, 1 for B. -/
def sigBand (c : Nat) : Nat := if c < 8 then 0 else 1

/-- Carrier offset of a signal in Hz; k is the GLONASS channel. -/
def sigOffset (c : Nat) (k : Int) : Int := if c = 3 then -14322000 else if c = 5 then 26580000 + k * 562500 else 0

/-- Chipping rate of a signal in Hz. -/
def sigChips (c : Nat) : Nat :=
  if c = 3 then 2046000 else if c = 5 then 511000 else if c < 8 then 1023000 else 10230000

/-- Chips of the primary code. -/
def sigLen (c : Nat) : Nat :=
  if c = 0 ∨ c = 6 then 1023 else if c = 2 then 4092 else if c = 3 then 2046 else if c = 5 then 511 else 10230

/-- Primary code period in ms. -/
def sigPeriod (c : Nat) : Nat := if c = 1 ∨ c = 4 ∨ c = 7 then 10 else if c = 2 then 4 else 1

/-- Carrier frequency divided by chipping rate. -/
def sigRatio (c : Nat) (k : Int) : Rat :=
  if c = 3 then 763 else if c = 5 then ((1602000000 + k * 562500 : Int) : Rat) / 511000 else if c < 8 then 1540 else 115

/-- Whether the replica is BOC(1,1). -/
def sigBoc (c : Nat) : Bool := c == 1 || c == 2 || c == 4 || c == 7

/-- Whether the signal has a pilot, on which it is tracked. -/
def sigPilot (c : Nat) : Bool := sigBoc c || decide (8 ≤ c)

/-- Whether a code names a signal of Table 5-1; the engine receives no other (R95). -/
def sigKnown (c : Nat) : Bool := decide (c < 12)

/-- Navigation system of a signal (Table 6-3): 0 GPS, 1 Galileo, 2 BeiDou, 3 GLONASS, 4 QZSS. -/
def sigSystem (c : Nat) : Nat :=
  if c = 2 ∨ c = 9 then 1 else if c = 3 ∨ c = 4 ∨ c = 10 then 2 else if c = 5 then 3
  else if c = 6 ∨ c = 7 ∨ c = 11 then 4 else 0

/-- The Doppler in Hz that a carrier word implies (R108). -/
def dopplerOf (c : Nat) (k word : Int) : Rat := (word : Rat) * 64000000 / 2 ^ 48 - (sigOffset c k : Int)

/-- The carrier offset word, rounded to the nearest unit (R108). -/
def offsetWord (c : Nat) (k : Int) : Int := roundQ ((sigOffset c k : Rat) * 2 ^ 48 / 64000000)

/-! ### Channels and their registers -/

/-- A tracking channel. -/
def State.chan (s : State) (n : Nat) : Chan := nth s.gnss.chans n {}

/-- The state with a tracking channel replaced. -/
def State.setChan (s : State) (n : Nat) (c : Chan) : State :=
  { s with gnss := { s.gnss with chans := setNth s.gnss.chans n c } }

/-- The signal of a channel. -/
def State.chSig (s : State) (n : Nat) : Nat := s.get (GNSSC.CH_SIG_SIGNAL n)

/-- The GLONASS k of a channel. -/
def State.chK (s : State) (n : Nat) : Int := (s.get (GNSSC.CH_SIG_GLO_K n) : Int) - 7

/-- The channel state (Table 5-4). -/
def State.chState (s : State) (n : Nat) : Nat := s.get (GNSSC.CH_STAT_STATE n)

/-- Whether a band's port is enabled. -/
def State.bandEn (s : State) (b : Nat) : Bool :=
  if b = 0 then s.flag GNSSF.PORT_CFG_A_EN else s.flag GNSSF.PORT_CFG_B_EN

/-- Enabled channels. -/
def State.enabledChans (s : State) : Nat := ((List.range 136).filter (fun n => s.flag (GNSSC.CH_CTRL_ENABLE n))).length

/-- Whether a channel can be enabled: IDLE, not RETIRED, promised to no handoff (R104, R105). -/
def State.chanFree (s : State) (n : Nat) : Bool :=
  decide (n < 136) && !s.flag (GNSSC.CH_CTRL_ENABLE n) && !s.flag (GNSSC.CH_STAT_RETIRED n) &&
    !(s.gnss.handoffs.any (fun h => h.channel == n))

/-- AUTO-owned channels enabled, and AUTO handoffs and searches on their way (R105). -/
def State.autoChans (s : State) : Nat :=
  ((List.range 136).filter (fun n => s.flag (GNSSC.CH_CTRL_ENABLE n) && s.flag (GNSSC.CH_CTRL_OWNER n))).length +
    (s.gnss.handoffs.filter (fun h => h.auto)).length

/-- The channel's integrators seeded so that its Doppler is that of its carrier word (R111). -/
def State.seedLoop (s : State) (n : Nat) : State :=
  let d := dopplerOf (s.chSig n) (s.chK n) (s.geti (GNSSC.CARR_RATE n))
  let c := s.chan n
  s.setChan n (if s.get (GNSSC.CH_LOOP_PLL_ORDER n) = 3 then { c with x1 := 0, x2 := d } else { c with x1 := d, x2 := 0 })

/-- A channel has no message synchronisation: its message checks start again (R125). -/
def State.dropSync (s : State) (n : Nat) : State :=
  { s with nav := { s.nav with align := setNth s.nav.align n none, sync := setNth s.nav.sync n none, passes := setNth s.nav.passes n 0 } }

/-- A channel enters PULL_IN with given rates (Table 5-4). -/
def State.pullIn (s : State) (n codeRate : Nat) (carrRate : Int) (code : Nat) (phaseDue : Bool) : State :=
  let s := s.puts [(GNSSC.CH_CTRL_ENABLE n, 1), (GNSSC.CH_STAT_STATE n, 1), (GNSSC.CODE_RATE n, codeRate),
    (GNSSC.CARR_RATE n, ofS 48 carrRate), (GNSSC.CH_STAT_PLL_LOCK n, 0), (GNSSC.CH_STAT_BIT_SYNC n, 0),
    (GNSSC.CH_STAT_SEC_SYNC n, 0), (GNSSC.CH_STAT_STEER_HOLD n, 0)]
  let s := s.setChan n
    { lane := (s.chan n).lane, sparedMs := (s.chan n).sparedMs, code := code, phaseDue := phaseDue, acc := List.replicate 5 (0, 0)
      pullAt := s.mono }
  (s.dropSync n).seedLoop n

/-- A channel goes IDLE: correlation stops (Table 5-4). -/
def State.chanIdle (s : State) (n : Nat) : State :=
  let s := s.puts [(GNSSC.CH_CTRL_ENABLE n, 0), (GNSSC.CH_CTRL_OWNER n, 0), (GNSSC.CH_STAT_STATE n, 0),
    (GNSSC.CH_STAT_PLL_LOCK n, 0), (GNSSC.CH_STAT_BIT_SYNC n, 0), (GNSSC.CH_STAT_SEC_SYNC n, 0),
    (GNSSC.CH_STAT_STEER_HOLD n, 0), (GNSSC.CH_STAT_NOTCHED n, 0)]
  (s.dropSync n).setChan n { lane := (s.chan n).lane, sparedMs := (s.chan n).sparedMs }

/-- SV_FOUND or SV_LOST is posted and journaled: channel, signal, SV (R113). -/
def State.svEvent (s : State) (code n : Nat) : State :=
  ((s.pay 3 150).eventIn code n (s.get (GNSSC.CH_SIG_SV n))).journal .auto 3 n (s.chSig n) (s.get (GNSSC.CH_SIG_SV n)) code

/-- A channel is lost (Table 5-4): an AUTO-owned one is disabled and freed. -/
def State.chanLost (s : State) (n : Nat) : State :=
  let auto := s.flag (GNSSC.CH_CTRL_OWNER n)
  let s := ((s.put (GNSSC.CH_STAT_STATE n) 4).putB (GNSSC.CH_STAT_PLL_LOCK n) false).inc (GNSSC.LOSS_CNT n)
  let s := s.svEvent 0x0405 n
  if auto then s.chanIdle n else s

/-- A channel enters LOCKING; the reported carrier phase starts at 0 (R108), and a data-bearing component's half cycle is open again. -/
def State.locking (s : State) (n : Nat) : State :=
  (s.put (GNSSC.CH_STAT_STATE n) 2).setChan n { s.chan n with carr := 0, efRun := 0, half := !sigPilot (s.chSig n) }

/-! ### Samples (R96, R100, R106 to R108) -/

/-- The level of a 4-bit sample code (R96): an odd number from −15 to +15. -/
def levelOf (fmt code : Nat) : Int :=
  if fmt = 0 then 2 * toS 4 code + 1
  else if fmt = 1 then 2 * ((code : Int) - 8) + 1
  else if fmt = 2 then (if code < 8 then 1 else -1) * (2 * ((code % 8 : Nat) : Int) + 1)
  else Config.levelOpen code

/-- The complex sample of eight pin levels (R96): I[3], I[1], Q[3], Q[1] on D0 to D3 at the rising edge, I[2], I[0], Q[2], Q[0] at the
falling edge; INV negates Q. -/
def sampleOf (fmt : Nat) (inv : Bool) (w : Nat) : Int × Int :=
  let q := levelOf fmt (8 * bits w 2 1 + 4 * bits w 6 1 + 2 * bits w 3 1 + bits w 7 1)
  (levelOf fmt (8 * bits w 0 1 + 4 * bits w 4 1 + 2 * bits w 1 1 + bits w 5 1), if inv then -q else q)

/-- The format of a port. -/
def State.portFmt (s : State) (b : Nat) : Nat := if b = 0 then s.get GNSSF.PORT_CFG_A_FMT else s.get GNSSF.PORT_CFG_B_FMT

/-- Whether a port negates Q. -/
def State.portInv (s : State) (b : Nat) : Bool := if b = 0 then s.flag GNSSF.PORT_CFG_A_INV else s.flag GNSSF.PORT_CFG_B_INV

/-- A band. -/
def State.band (s : State) (b : Nat) : BandSt := nth s.gnss.bands b {}

/-- The state with a band replaced. -/
def State.setBand (s : State) (b : Nat) (x : BandSt) : State :=
  { s with gnss := { s.gnss with bands := setNth s.gnss.bands b x } }

/-- Whether a notch is active. -/
def State.notchOn (s : State) (b k : Nat) : Bool := s.flag (GNSSF.NOTCH_FREQ_ACTIVE b k)

/-- The product of two complex numbers. -/
def mulC (a b : Rat × Rat) : Rat × Rat := (fine (a.1 * b.1 - a.2 * b.2), fine (a.1 * b.2 + a.2 * b.1))

/-- The power of a complex number. -/
def powerC (a : Rat × Rat) : Rat := fine (a.1 * a.1 + a.2 * a.2)

/-- One sample through an active notch stage (R100), with ρ and μ. -/
def notchStep (rho mu : Rat) (n : NotchSt) (x : Rat × Rat) : (Rat × Rat) × NotchSt :=
  let cv := mulC (cosQ n.w, sinQ n.w) n.v1
  let v := (x.1 + rho * cv.1, x.2 + rho * cv.2)
  let y := (v.1 - cv.1, v.2 - cv.2)
  let w := fine (n.w + mu * (y.2 * cv.1 - y.1 * cv.2) / (powerC n.v1 + 1 / 2 ^ 8))
  (y, { n with w := w, v1 := v, inP := n.inP + powerC x, outP := n.outP + powerC y })

/-- One sample through the active notches of a band, in the order of their numbers. -/
def notchAll (rho mu : Rat) (active : List Nat) (ns : List NotchSt) (x : Rat × Rat) : (Rat × Rat) × List NotchSt :=
  active.foldl (fun a k =>
    let r := notchStep rho mu (nth a.2 k {}) a.1
    (r.1, setNth a.2 k r.2)) (x, ns)

/-- What a channel's replica depends on between two dumps (R106 to R108). -/
structure ChanRun where
  sig : Nat
  sv : Nat
  codeRate : Nat
  carrRate : Int
  offset : Int
  el : Nat
  vevl : Nat
  deriving DecidableEq, Repr

/-- The replica of a component at a code position in chips × 2³² (R107): the primary chip, the half chip of a BOC replica from the top bit
of the accumulator, and the chip of the secondary code once that is aligned. -/
def replicaAt (r : ChanRun) (data : Bool) (sec : Option Nat) (code : Int) : Int :=
  let c := (code % ((sigLen r.sig * 2 ^ 32 : Nat) : Int)).toNat
  let a : Int := if Config.primaryChip r.sig r.sv data (c / 2 ^ 32) then -1 else 1
  let a := if sigBoc r.sig && decide (2 ^ 31 ≤ c % 2 ^ 32) then -a else a
  match sec with
  | some k => if Config.secondaryChip r.sig r.sv data k then -a else a
  | none => a

/-- The five replicas at a code position, VE, E, P, L and VL at their offsets (R106); for a pilot signal VL is the data prompt. -/
def replicas (r : ChanRun) (sec : Option Nat) (code : Nat) : List Int :=
  let at_ := fun (o : Int) => replicaAt r false sec ((code : Int) - o * 2 ^ 26)
  [at_ (-(r.vevl : Int)), at_ (-(r.el : Int)), at_ 0, at_ r.el,
    if sigPilot r.sig then replicaAt r true sec code else at_ r.vevl]

/-- A channel takes one sample (R106 to R108): both NCOs add their words, the sample is mixed down by the carrier phase and correlated. -/
def Chan.take (r : ChanRun) (c : Chan) (y : Rat × Rat) : Chan :=
  let len := sigLen r.sig * 2 ^ 32
  let code := c.code + r.codeRate
  let phase := ofS 48 ((c.phase : Int) + r.carrRate)
  let turn : Rat := (phase : Rat) / 2 ^ 48
  let z := mulC y (cosTurns turn, -sinTurns turn)
  let k := code / len
  let sec := if k = 0 then c.sec else c.sec.map (· + 1)
  { c with
    code := code % len
    periods := (c.periods + k) % 2 ^ 32
    since := c.since + k
    sec := sec
    phase := phase
    carr := c.carr + r.carrRate - r.offset
    acc := List.zipWith (fun (a : Rat × Rat) (p : Int) => (a.1 + p * z.1, a.2 + p * z.2)) c.acc (replicas r sec (code % len)) }

/-- Whether an active notch lies within one chipping rate of a channel's carrier offset (R101). -/
def State.notched (s : State) (n : Nat) : Bool :=
  let c := s.chSig n
  let b := sigBand c
  (List.range 4).any (fun k => s.notchOn b k &&
    decide (absQ ((s.geti (GNSSF.NOTCH_FREQ_W b k) : Rat) * 64000000 / 2 ^ 24 - (sigOffset c (s.chK n) : Int)) ≤ (sigChips c : Rat)))

/-- What a channel's replica depends on, as its registers stand. -/
def State.chanRun (s : State) (n : Nat) : ChanRun :=
  ⟨s.chSig n, s.get (GNSSC.CH_SIG_SV n), s.get (GNSSC.CODE_RATE n), s.geti (GNSSC.CARR_RATE n), offsetWord (s.chSig n) (s.chK n),
    s.get (GNSSC.CH_CORR_EL_SPACING n), s.get (GNSSC.CH_CORR_VEVL_SPACING n)⟩

/-- A steer entry is applied (R115): rates first, then the phase adjustments. -/
def State.applySteer (s : State) (e : SteerEntry) : State :=
  let n := e.channel
  let s := match e.code with
    | some r => s.put (GNSSC.CODE_RATE n) r
    | none => s
  let s := match e.carr with
    | some r => s.put (GNSSC.CARR_RATE n) (ofS 48 r)
    | none => s
  let c := s.chan n
  let len : Int := sigLen (s.chSig n) * 2 ^ 32
  let c := match e.codeAdj with
    | some a => { c with code := (((c.code : Int) + a * 2 ^ 16) % len).toNat }
    | none => c
  let c := match e.carrAdj with
    | some a => { c with carr := c.carr + a * 2 ^ 32, phase := ofS 48 ((c.phase : Int) + a * 2 ^ 32), slip := true }
    | none => c
  s.setChan n { c with steer := none }

/-- A channel takes samples: a steer entry that waits is applied at the first (R115). Correlation runs in every state but IDLE and LOST, and
for the signals of Table 5-1. -/
def State.chanFeed (s : State) (n : Nat) (ys : List (Rat × Rat)) : State :=
  if s.chState n = 0 ∨ s.chState n = 4 ∨ sigKnown (s.chSig n) = false ∨ ys.isEmpty = true then s
  else
    let s := match (s.chan n).steer with
      | some e => s.applySteer e
      | none => s
    let c := s.chan n
    s.setChan n (ys.foldl (Chan.take (s.chanRun n)) { c with notched := c.notched || s.notched n })

/-- Samples of an enabled port reach the monitor, pass the notches and reach the channels of the band (R96, R99, R100, R106). -/
def State.feed (s : State) (b : Nat) (raw : List Nat) : State :=
  if !s.bandEn b || raw.isEmpty then s
  else
    let xs := raw.map (sampleOf (s.portFmt b) (s.portInv b))
    let rho : Rat := 1 - 1 / 2 ^ (4 + s.get GNSSF.NOTCH_CFG_RHO_SEL)
    let mu : Rat := 1 / 2 ^ s.get GNSSF.NOTCH_CFG_MU_LOG2
    let active := (List.range 4).filter (s.notchOn b)
    let w := s.band b
    let r := xs.foldl (fun (a : List (Rat × Rat) × List NotchSt) x =>
      let q := notchAll rho mu active a.2 (((x.1 : Int) : Rat), ((x.2 : Int) : Rat))
      (a.1 ++ [q.1], q.2)) ([], w.notches)
    let s := s.setBand b { w with ms := w.ms ++ xs, notches := r.2 }
    let s := active.foldl (fun s k =>
      s.put (GNSSF.NOTCH_FREQ_W b k) (ofS 24 (roundQ ((nth r.2 k {}).w * 2 ^ 23 / piQ)))) s
    (List.range 136).foldl (fun s n => if sigBand (s.chSig n) = b then s.chanFeed n r.1 else s) s

/-! ### Acquisition (R103 to R105) -/

/-- Searches that automatic allocation may use, numbered from 7 downwards. -/
def State.autoSearches (s : State) : Nat := if s.flag GNSSF.ALLOC_CFG_AUTO then min 8 (s.get GNSSF.ACQ_CFG) else 0

/-- What ACQ_BUSY shows of the searches. -/
def State.showSearches (s : State) : State :=
  s.put GNSSF.GNSSF_STATUS_ACQ_BUSY (maskOf ((List.range 8).filter (fun i => (nth s.gnss.searches i none).isSome)))

/-- The state with a search replaced. -/
def State.setSearch (s : State) (i : Nat) (r : Option Search) : State :=
  ({ s with gnss := { s.gnss with searches := setNth s.gnss.searches i r } }).showSearches

/-- Whether the arguments of a search are well formed (Table 5-2). -/
def State.acqArgsOk (s : State) (a : AcqArgs) : Bool :=
  decide (a.signal < 12) && s.bandEn (sigBand a.signal) && (a.signal != 5 || (decide (-7 ≤ a.k) && decide (a.k ≤ 6))) &&
    decide (a.span ≤ 50000) && decide (25 ≤ a.step) && decide (a.step ≤ 2000) && decide (1 ≤ a.coh) && decide (a.coh ≤ 20) &&
    a.coh % sigPeriod a.signal == 0 && decide (1 ≤ a.noncoh) && decide (a.noncoh ≤ 255) &&
    (decide (a.channel < 136) || a.channel == 254 || a.channel == 255)

/-- The sheets of samples a search takes (R103): COH_MS × NONCOH × ⌈B ÷ 64⌉ ms and 1 ms more, of 8 sheets each. -/
def searchSheets (a : AcqArgs) : Nat :=
  let bins := 2 * (a.span / a.step) + 1
  8 * (a.coh * a.noncoh * ((bins + 63) / 64) + 1)

/-- A search starts. -/
def State.startSearch (s : State) (i : Nat) (a : AcqArgs) (auto : Bool) : State :=
  s.setSearch i (some
    { auto := auto, signal := a.signal, sv := a.sv, k := a.k, channel := a.channel, thresh := a.thresh, tag := a.tag
      doppler := a.doppler, span := a.span, step := a.step, left := searchSheets a
      fell := !s.flag (GNSSF.BAND_STAT_SCLK_OK (sigBand a.signal)) })

/-- ACQ_START (R103): BUSY when every search not reserved for allocation runs; completes with the search number. -/
def runAcqStart (h : Hdr) (a : AcqArgs) (s : State) : State :=
  s.command h 0x40 false (.acqStart h a) 0 (fun s =>
    if !s.acqArgsOk a then s.complete h 0x40 stINVALID 0
    else
      match (List.range (8 - s.autoSearches)).find? (fun i => (nth s.gnss.searches i none).isNone) with
      | none => s.complete h 0x40 stBUSY 0
      | some i =>
        ((s.startSearch i a false).journalCmd h 0x40 (a.signal + 256 * a.sv) a.tag).complete h 0x40 stOK i)

/-- The result entry of a search that ends (Table 5-3) goes to the event ring. -/
def State.postAcq (s : State) (r : AcqRes) : State := (s.charge0 10).flushDue.sendDesc (.acq r)

/-- ACQ_ABORT (R103): the search ends with an ABORTED result. -/
def runAcqAbort (h : Hdr) (i : Nat) (s : State) : State :=
  s.command h 0x41 false (.acqAbort h i) 0 (fun s =>
    match nth s.gnss.searches i none with
    | none => s.complete h 0x41 stINVALID 0
    | some r =>
      let s := (s.setSearch i none).postAcq
        ⟨s.now, 0, 0, 0, 0, i, 2, r.signal, r.sv, 255, if r.auto then 4 else 0, r.tag⟩
      ((s.inc GNSSF.ACQ_CNT).journalCmd h 0x41 i 0).complete h 0x41 stOK 0)

/-- The channel a FOUND search is handed to, if one can take it (R104, R105). -/
def State.handTo (s : State) (r : Search) : Option Nat :=
  if 128 ≤ s.enabledChans + s.gnss.handoffs.length then none
  else if r.auto ∧ s.get GNSSF.ALLOC_CFG_ALLOC_MAX ≤ s.autoChans then none
  else if r.channel = 255 then (List.range 136).find? s.chanFree
  else if s.chanFree r.channel then some r.channel else none

/-- ACQ_RESULT (R103, R104): a search that has taken its samples ends; the Doppler is the peak refined to STEP ÷ 8. The result is posted, and a FOUND signal's handoff is arranged for the next millisecond edge. -/
def runAcqResult (i : Nat) (a : AcqIn) (s : State) : State :=
  match nth s.gnss.searches i none with
  | none => s
  | some r =>
    let m : Int := 8 * (r.span / r.step : Nat)
    if r.left ≠ 0 ∨ a.eighths < -m ∨ m < a.eighths then s
    else
    let s := (s.setSearch i none).inc GNSSF.ACQ_CNT
    let doppler := r.doppler + a.eighths * (32 * (r.step : Int))
    let status := if r.fell then 3 else if r.thresh < a.pnr then 0 else 1
    let auto := if r.auto then 4 else 0
    let post := fun (s : State) ch fl =>
      s.postAcq ⟨a.epoch % 2 ^ 64, a.codePhase, a.pnr, doppler, a.cn0, i, status, r.signal, r.sv, ch, fl + auto, r.tag⟩
    if status ≠ 0 ∨ r.channel = 254 then post s 255 0
    else
      match s.handTo r with
      | none => post (s.inc GNSSF.SV_NO_CHANNEL_CNT) 255 2
      | some ch =>
        let hs := s.gnss.handoffs ++ [Handoff.mk ch r.signal r.sv r.k (a.epoch % 2 ^ 64) a.codePhase doppler r.auto]
        post { s with gnss := { s.gnss with handoffs := hs } } ch 1

/-- A synchronised channel that tracks the same satellite on the other band (R125). -/
def State.lenderOf (s : State) (signal sv : Nat) : Option Nat :=
  (List.range 136).find? (fun n => s.flag (GNSSC.CH_CTRL_ENABLE n) && (nth s.nav.sync n none).isSome &&
    sigBand (s.chSig n) != sigBand signal && ephSlot (sigSystem (s.chSig n)) (s.get (GNSSC.CH_SIG_SV n)) == ephSlot (sigSystem signal) sv)

/-- A handoff is made (R104): the code phase is carried forward to the edge, rates follow the Doppler. A channel that has been enabled or
retired since the result is not touched, and the result counts as one without a channel. -/
def State.handoff (s : State) (h : Handoff) : State :=
  let n := h.channel
  if s.flag (GNSSC.CH_CTRL_ENABLE n) || s.flag (GNSSC.CH_STAT_RETIRED n) then s.inc GNSSF.SV_NO_CHANNEL_CNT
  else
    let dop : Rat := (h.doppler : Rat) / 256
    let codeRate := (roundQ (((sigChips h.signal : Rat) + dop / sigRatio h.signal h.k) * 2 ^ 32 / 64000000)).toNat
    let carr := roundQ ((((sigOffset h.signal h.k : Int) : Rat) + dop) * 2 ^ 48 / 64000000)
    let dt := sdiff s.now h.epoch
    let code := ((h.codePhase : Int) + (codeRate : Int) * dt / 1024000) % (sigLen h.signal * 2 ^ 32 : Nat)
    let lender := s.lenderOf h.signal h.sv
    let s := s.puts [(GNSSC.CH_SIG_SIGNAL n, h.signal), (GNSSC.CH_SIG_SV n, h.sv), (GNSSC.CH_SIG_GLO_K n, (h.k + 7).toNat),
      (GNSSC.CH_CTRL_OWNER n, if h.auto then 1 else 0)]
    let s := s.pullIn n codeRate carr code.toNat false
    s.setChan n { s.chan n with lender := lender }

/-- Whether a satellite is tracked, searched for or promised to a channel. -/
def State.satTaken (s : State) (signal sv : Nat) : Bool :=
  (List.range 136).any (fun n => s.flag (GNSSC.CH_CTRL_ENABLE n) && s.chSig n == signal && s.get (GNSSC.CH_SIG_SV n) == sv) ||
    s.gnss.searches.any (fun r => r.any (fun q => q.signal == signal && q.sv == sv)) ||
    s.gnss.handoffs.any (fun h => h.signal == signal && h.sv == sv)

/-- AUTO_ALLOCATION (R105): a search on a free AUTO search for a satellite reported visible and not tracked, TAG 0. -/
def runAutoAllocation (a : AcqArgs) (s : State) : State :=
  let a := { a with channel := 255, tag := 0 }
  if s.flag GNSSF.ALLOC_CFG_AUTO && bitOf (s.get GNSSF.ALLOC_CFG_SIG_MASK) a.signal && s.acqArgsOk a &&
      s.visible (sigSystem a.signal) a.sv && !s.satTaken a.signal a.sv &&
      decide (s.autoChans < s.get GNSSF.ALLOC_CFG_ALLOC_MAX) then
    let k := s.autoSearches
    match ((List.range 8).drop (8 - k)).find? (fun i => (nth s.gnss.searches i none).isNone) with
    | some i => s.startSearch i a true
    | none => s
  else s

/-! ### CH_CTRL (R105, R111) -/

/-- BAR0 offset of CH_CTRL of a channel. -/
def chCtrl (n : Nat) : Nat := 0xC0000 + 0x400 * n

/-- GNSS_CH_ENABLE (R105, R111): a write with ENABLE 1 starts an IDLE channel, or is ignored and counted for a retired
channel or a 129th one. -/
def runGnssChEnable (o : Origin) (n v : Nat) (s : State) : State :=
  if 135 < n then s
  else
    let was := s.flag (GNSSC.CH_CTRL_ENABLE n)
    let v := if v % 2 = 0 then v + 1 else v
    if o != .pf1 && !was && (s.flag (GNSSC.CH_STAT_RETIRED n) || decide (128 ≤ s.enabledChans + s.gnss.handoffs.length)) then
      (s.busStore o (chCtrl n) v true false id).inc GNSSF.SV_NO_CHANNEL_CNT
    else
      s.busStore o (chCtrl n) v true true (fun s =>
        if was then s
        else (s.put (GNSSC.CH_CTRL_OWNER n) 0).pullIn n (s.get (GNSSC.CODE_RATE_INIT n)) (s.geti (GNSSC.CARR_RATE_INIT n))
          (s.get (GNSSC.CODE_PHASE_INIT n) * 2 ^ 16 % (sigLen (s.chSig n) * 2 ^ 32)) true)

/-- GNSS_CH_DISABLE (R105, R111): a write with ENABLE 0 stops a channel and frees an AUTO-owned one. -/
def runGnssChDisable (o : Origin) (n v : Nat) (s : State) : State :=
  if 135 < n then s
  else s.busStore o (chCtrl n) (v / 2 * 2) true true (fun s => s.chanIdle n)

/-- PULL_IN_TIMEOUT (Table 5-4): not LOCKING within 2 s of PULL_IN. -/
def runPullInTimeout (n : Nat) (s : State) : State :=
  if n < 136 ∧ s.chState n = 1 ∧ s.reaches ((s.chan n).pullAt + (2 * secU : Nat)) = true then s.chanLost n else s

/-! ### Loops (R109 to R112) -/

/-- The loop settings and discriminators of a dump. -/
structure LoopIn where
  ep : Rat
  ef : Rat
  ed : Rat
  t : Rat
  deriving DecidableEq, Repr

/-- The coherent interval in seconds (R106): one primary code period before synchronisation. -/
def State.interval (s : State) (n : Nat) : Rat :=
  let ms := if s.flag (GNSSC.CH_STAT_BIT_SYNC n) || s.flag (GNSSC.CH_STAT_SEC_SYNC n) then s.get (GNSSC.CH_TINT n)
    else sigPeriod (s.chSig n)
  (ms : Rat) / 1000

/-- Phase of a point in turns (R109): atan2(y, x) ÷ 2π for a pilot, atan(y ÷ x) ÷ 2π for a data-bearing component. -/
def phaseTurns (pilot : Bool) (y x : Rat) : Rat :=
  if x = 0 ∧ (pilot = false ∨ y = 0) then Config.phaseOpen pilot y x
  else if pilot then ((atan2Q y x).getD 0) / (2 * piQ)
  else atanQ (y / x) / (2 * piQ)

/-- (|L| − |E|) ÷ (|E| + |L|) of the early and late correlators (R109). -/
def earlyLate (e l : Rat × Rat) : Rat :=
  let a := sqrtQ (powerC e)
  let b := sqrtQ (powerC l)
  if a + b = 0 then Config.envelopeOpen else (b - a) / (a + b)

/-- The discriminators (R109). -/
def State.discriminators (s : State) (n : Nat) (corr : List (Rat × Rat)) : LoopIn :=
  let c := s.chan n
  let sig := s.chSig n
  let p := nth corr 2 (0, 0)
  let t := s.interval n
  let x := c.prevI * p.2 - p.1 * c.prevQ
  let q := c.prevI * p.1 + c.prevQ * p.2
  let dd : Rat := (s.get (GNSSC.CH_CORR_EL_SPACING n) : Rat) / 32
  let el := earlyLate (nth corr 1 (0, 0)) (nth corr 3 (0, 0))
  ⟨phaseTurns (sigPilot sig) p.2 p.1, phaseTurns (sigPilot sig) x q / t,
    (if sigBoc sig then (2 - 3 * dd) / 6 else (2 - dd) / 2) * el, t⟩

/-- The loop update (R110), with ep and ef as the channel's state lets them take part (Table 5-5). -/
def State.loopUpdate (s : State) (n : Nat) (l : LoopIn) : State :=
  let st := s.chState n
  let ep := if st = 1 then 0 else l.ep
  let ef := if st = 3 ∧ s.get (GNSSC.CH_LOOP_FLL_ASSIST n) = 0 then 0 else l.ef
  let bnP : Rat := (s.get (GNSSC.CH_LOOP_BN_PLL n) : Rat) / 4
  let bnF : Rat := (s.get (GNSSC.CH_LOOP_BN_FLL n) : Rat) / 4
  let w0d : Rat := 4 * ((s.get (GNSSC.CH_LOOP_BN_DLL n) : Rat) / 100)
  let c := s.chan n
  let r : Rat × Rat × Rat :=
    if s.get (GNSSC.CH_LOOP_PLL_ORDER n) = 3 then
      let w := bnP * 10000 / 7845
      let f := bnF * 100 / 53
      let x1 := c.x1 + l.t * (w * w * w * ep + f * f * ef)
      let x2 := c.x2 + l.t * (x1 + 11 / 10 * (w * w) * ep + 1414 / 1000 * f * ef)
      (x1, x2, x2 + 24 / 10 * w * ep)
    else
      let w := bnP * 100 / 53
      let x1 := c.x1 + l.t * (w * w * ep + 4 * bnF * ef)
      (x1, c.x2, x1 + 1414 / 1000 * w * ep)
  let sig := s.chSig n
  let k := s.chK n
  let aid : Rat := if s.flag (GNSSC.CH_CTRL_AID n) then r.2.2 / sigRatio sig k else 0
  let code := (sigChips sig : Rat) + aid - w0d * l.ed
  (s.setChan n { c with x1 := r.1, x2 := r.2.1 }).puts
    [(GNSSC.CARR_RATE n, ofS 48 (roundQ ((((sigOffset sig k : Int) : Rat) + r.2.2) * 2 ^ 48 / 64000000))),
     (GNSSC.CODE_RATE n, ofS 32 (roundQ (code * 2 ^ 32 / 64000000)))]

/-- The lock indicator: the mean over the last 20 prompts (R112). -/
def lockInd (l : List (Rat × Rat)) : Rat :=
  let vs := l.filterMap (fun p =>
    let a := p.1 * p.1 + p.2 * p.2
    if a = 0 then none else some ((p.1 * p.1 - p.2 * p.2) / a))
  if vs.isEmpty then Config.zeroPrompt else vs.foldl (fun (x y : Rat) => x + y) 0 / (vs.length : Rat)

/-- C/N0 in 0.01 dB-Hz from 100 dumps (R112). -/
def cn0Of (absI pow : Rat) (t : Rat) : Nat :=
  let ps : Rat := (absI / 100) * (absI / 100)
  let pn : Rat := pow / 100 - ps
  if pn ≤ 0 ∨ absI = 0 then Config.cn0Open absI pow
  else
    let r := ps / (pn * t)
    logRound 1000 r.num.toNat r.den

/-- The prompt joins the lock indicator and the C/N0 sums (R112). -/
def State.detectors (s : State) (n : Nat) (p : Rat × Rat) (t : Rat) : State :=
  let c := s.chan n
  let c := { c with
    prevI := p.1
    prevQ := p.2
    prompts := (p :: c.prompts).take 20
    cnN := c.cnN + 1
    cnAbs := c.cnAbs + absQ p.1
    cnPow := c.cnPow + (p.1 * p.1 + p.2 * p.2) }
  let ind := lockInd c.prompts
  let s := (s.puti (GNSSC.CH_LOCKIND n) (satS 16 (roundQ (ind * 32768)))).putB (GNSSC.CH_STAT_PLL_LOCK n)
    (decide (8 / 10 ≤ ind))
  if c.cnN = 100 then
    (s.setChan n { c with cnN := 0, cnAbs := 0, cnPow := 0, cnValid := true }).put (GNSSC.CH_CN0 n) (cn0Of c.cnAbs c.cnPow t)
  else s.setChan n c

/-- The channel state after a dump (Table 5-4). -/
def State.chanStep (s : State) (n : Nat) (ef : Rat) : State :=
  let st := s.chState n
  let c := s.chan n
  let ind := lockInd c.prompts
  if st = 1 then
    let run := if absQ ef < 5 then c.efRun + 1 else 0
    if 20 ≤ run then s.locking n else s.setChan n { c with efRun := run }
  else if st = 2 ∧ 8 / 10 ≤ ind then
    let s := s.put (GNSSC.CH_STAT_STATE n) 3
    if c.found then s else (s.setChan n { c with found := true }).svEvent 0x0404 n
  else if st = 3 ∧ ind < 5 / 10 then
    let s := (s.locking n).inc (GNSSC.SLIP_CNT n)
    s.setChan n { s.chan n with slip := true }
  else s

/-- The primary periods of a channel's coherent interval (R106). -/
def State.dumpPeriods (s : State) (n : Nat) : Nat :=
  if s.flag (GNSSC.CH_STAT_BIT_SYNC n) || s.flag (GNSSC.CH_STAT_SEC_SYNC n) then s.get (GNSSC.CH_TINT n) / sigPeriod (s.chSig n) else 1

/-- The five correlators of the interval that ends are taken, and the next one begins. -/
def State.dumpCorr (s : State) (n : Nat) : State :=
  let c := s.chan n
  s.setChan n { c with corr := c.acc, acc := List.replicate 5 (0, 0), since := 0, wasNotched := c.notched, notched := false }

/-- CORRELATOR_DUMP (R106 to R112): the samples up to the end of the coherent interval are taken; at its end the discriminators and loops
update the channel, and its state moves. -/
def runCorrelatorDump (n : Nat) (d : DumpIn) (s : State) : State :=
  let s := s.feed (sigBand (s.chSig n)) d.samples
  let st := s.chState n
  if 135 < n ∨ st = 0 ∨ st = 4 ∨ sigKnown (s.chSig n) = false ∨ (s.chan n).since < s.dumpPeriods n then s
  else
    let s := (s.charge0 30).dumpCorr n
    let corr := (s.chan n).corr
    let l := s.discriminators n corr
    let s := if st = 5 then s else s.loopUpdate n l
    let s := s.detectors n (nth corr 2 (0, 0)) l.t
    let s := if st = 3 ∨ st = 5 then
        let s := (s.putB (GNSSC.CH_STAT_BIT_SYNC n) d.bitSync).putB (GNSSC.CH_STAT_SEC_SYNC n) d.sec.isSome
        s.setChan n { s.chan n with sec := d.sec }
      else s
    s.chanStep n l.ef

/-! ### Interference defence (R99 to R102) -/

/-- Whether the notches of a band are enabled. -/
def State.notchEn (s : State) (b : Nat) : Bool :=
  if b = 0 then s.flag GNSSF.NOTCH_CFG_A_ENABLE else s.flag GNSSF.NOTCH_CFG_B_ENABLE

/-- Twice the median of the bin powers: of an even number of bins, the sum of the middle two. -/
def median2 (l : List Rat) : Rat :=
  let m := l.mergeSort (fun a b => decide (a ≤ b))
  nth m (m.length / 2 - 1) 0 + nth m (m.length / 2) 0

/-- Power of bin j of the FFT of a block of 256 samples (R99). -/
def binPower (x : List (Int × Int)) (j : Nat) : Rat :=
  powerC (x.zipIdx.foldl (fun (a : Rat × Rat) p =>
    let t : Rat := ((j * p.2 % 256 : Nat) : Rat) / 256
    let z := mulC (((p.1.1 : Int) : Rat), ((p.1.2 : Int) : Rat)) (cosTurns t, -sinTurns t)
    (a.1 + z.1, a.2 + z.2)) (0, 0))

/-- The non-overlapping blocks of 256 samples of a millisecond, 250 at most (R99). -/
def fftBlocks (x : List (Int × Int)) : List (List (Int × Int)) :=
  (List.range (min 250 (x.length / 256))).map (fun i => (x.drop (256 * i)).take 256)

/-- The averaged bin powers of a millisecond from bin −128 to bin +127 (R99). -/
def binPowers (x : List (Int × Int)) : List Rat :=
  let bs := fftBlocks x
  if bs.isEmpty then []
  else (List.range 256).map (fun i => (bs.map (fun b => binPower b ((i + 128) % 256))).foldl (· + ·) 0 / (bs.length : Nat))

/-- The sum of I² + Q² over samples. -/
def powerSum (x : List (Int × Int)) : Nat := x.foldl (fun a p => a + (p.1 * p.1 + p.2 * p.2).toNat) 0

/-- Bin powers with their bin numbers, from −128. -/
def withBins (l : List Rat) : List (Int × Rat) := l.zipIdx.map (fun p => ((p.2 : Int) - 128, p.1))

/-- Bins whose power exceeds the median by THRESH (R100). -/
def binsAbove (thresh : Nat) (l : List Rat) : List Int :=
  let m := median2 l
  ((withBins l).filter (fun p => decide ((10 ^ thresh : Nat) * m ^ 40 < (2 * p.2) ^ 40))).map (·.1)

/-- Active notches show the frequency they have adapted to and their depth; one that has been shallow for RELEASE_MS is
released, and so is one whose band's notches are disabled (R100). -/
def State.trackNotches (s : State) (b : Nat) : State :=
  (List.range 4).foldl (fun s k =>
    if s.notchOn b k then
      let w := s.band b
      let st := nth w.notches k {}
      let low := if st.inP ^ 10 < 1000 * st.outP ^ 10 then st.lowMs + 1 else 0
      let r := st.inP / st.outP
      let s := s.put (GNSSF.NOTCH_DEPTH b k) (if st.outP = 0 then Config.depthOpen else min 255 (logRound 40 r.num.toNat r.den))
      let off := decide (s.get GNSSF.NOTCH_CFG_RELEASE_MS ≤ low) || !s.notchEn b
      let s := s.setBand b { w with notches := setNth w.notches k (if off then {} else { st with inP := 0, outP := 0, lowMs := low }) }
      s.putB (GNSSF.NOTCH_FREQ_ACTIVE b k) (!off)
    else s) s

/-- Whether a bin lies more than one bin from every active notch of its band. -/
def State.clearOfNotches (s : State) (b : Nat) (j : Int) : Bool :=
  (List.range 4).all (fun k => !s.notchOn b k || decide (65536 < absI (s.geti (GNSSF.NOTCH_FREQ_W b k) - j * 65536)))

/-- The strongest candidate takes a free notch of the band (R100). -/
def State.engageNotch (s : State) (b : Nat) (l : List Rat) : State :=
  let above := binsAbove (s.get GNSSF.NOTCH_CFG_THRESH) l
  let was := (s.band b).above
  let s := s.setBand b { s.band b with above := above }
  let cands := (withBins l).filter (fun p => above.contains p.1 && was.contains p.1 && s.clearOfNotches b p.1)
  let best := cands.foldl (fun (m : Option (Int × Rat)) p =>
    match m with
    | none => some p
    | some q => if q.2 < p.2 then some p else some q) none
  match best, (List.range 4).find? (fun k => !s.notchOn b k) with
  | some p, some k =>
    if s.notchEn b then
      let s := s.puts [(GNSSF.NOTCH_FREQ_W b k, ofS 24 (p.1 * 65536)), (GNSSF.NOTCH_FREQ_ACTIVE b k, 1), (GNSSF.NOTCH_DEPTH b k, 0)]
      s.setBand b { s.band b with notches := setNth (s.band b).notches k { w := piQ * (p.1 : Rat) / 128 } }
    else s
  | _, _ => s

/-- JAM of a band in 0.25 dB (R102): ten times the logarithm of mean over median, and of P_in over JAM_REF. -/
def State.jamOf (s : State) (b : Nat) (x : List (Int × Int)) (l : List Rat) : Nat :=
  let ref := s.get (GNSSF.JAM_CFG_JAM_REF b)
  let pin : Rat := 16 * (powerSum x : Rat) / (x.length : Nat)
  let a : Rat := if ref ≠ 0 ∧ (ref : Rat) < pin then pin / ref else 1
  let med := median2 l
  let r := 2 * l.foldl (· + ·) 0 / (l.length : Nat) / med * a
  if l.isEmpty then 0 else if med = 0 then 255 else min 255 (logRound 40 r.num.toNat r.den)

/-- JAM and JAMMING of a band at a millisecond (R102), and P_in (R99). -/
def State.judgeJam (s : State) (b : Nat) (x : List (Int × Int)) (l : List Rat) : State :=
  let jam := s.jamOf b x l
  let th := s.get (GNSSF.JAM_CFG_JAM_THRESH b)
  let w := s.band b
  let hi := if th ≤ jam then w.jamHi + 1 else 0
  let lo := if jam + 8 < th then w.jamLo + 1 else 0
  let s := (s.setBand b { w with jamHi := min hi 8, jamLo := min lo 64 }).puts
    [(GNSSF.BAND_STAT_JAM b, jam), (GNSSF.P_IN b, min 65535 (roundDiv (16 * powerSum x : Nat) x.length).toNat)]
  if 8 ≤ hi ∧ s.flag (GNSSF.BAND_STAT_JAMMING b) = false then (s.putB (GNSSF.BAND_STAT_JAMMING b) true).event 0x0402 b jam
  else if 64 ≤ lo ∧ s.flag (GNSSF.BAND_STAT_JAMMING b) = true then
    (s.putB (GNSSF.BAND_STAT_JAMMING b) false).event 0x0403 b jam
  else s

/-- What NOTCH_ACT shows. -/
def State.showNotches (s : State) (b : Nat) : State :=
  s.put (GNSSF.BAND_STAT_NOTCH_ACT b) (maskOf ((List.range 4).filter (s.notchOn b)))

/-- The spectrum monitor at a millisecond edge (R99 to R102): notches, JAM, and the next millisecond begins. -/
def State.monitorMs (s : State) (b : Nat) : State :=
  if s.bandEn b then
    let x := (s.band b).ms
    let l := binPowers x
    let s := (((s.trackNotches b).engageNotch b l).judgeJam b x l).showNotches b
    s.setBand b { s.band b with ms := [] }
  else s

/-! ### Observations (R117 to R119) -/

/-- The observation of a channel at an epoch: its NCO state carried forward at its rates, for a time in 2⁻¹⁶ ns (R117, R118). -/
def State.observe (s : State) (n epoch : Nat) (carry : Rat) : Obs :=
  let c := s.chan n
  let sig := s.chSig n
  let len := sigLen sig * 2 ^ 32
  let k := carry / 1024000
  let code := c.code + (roundQ (s.get (GNSSC.CODE_RATE n) * k)).toNat
  let word := s.geti (GNSSC.CARR_RATE n)
  let carr := c.carr + roundQ ((word - offsetWord sig (s.chK n) : Int) * k)
  let st := s.chState n
  let invalid := s.flag TIME.TIME_STATUS_COARSE || decide ((s.band (sigBand sig)).goodSheets < 8)
  let fl := maskOf ((if s.flag (GNSSC.CH_STAT_PLL_LOCK n) then [0] else []) ++ (if s.flag (GNSSC.CH_STAT_BIT_SYNC n) then [1] else []) ++
    (if s.flag (GNSSC.CH_STAT_SEC_SYNC n) then [2] else []) ++ (if c.slip then [3] else []) ++
    (if s.flag (GNSSC.CH_STAT_NOTCHED n) then [4] else []) ++ (if invalid then [5] else []) ++ (if st = 5 then [6] else []) ++
    (if s.flag (GNSSC.CH_STAT_STEER_HOLD n) then [7] else []) ++ (if c.sparedMs ≠ 0 then [8] else []) ++ (if c.half then [10] else []))
  ⟨epoch % 2 ^ 64, code % len, s.get (GNSSC.CH_CN0 n), carr / 2 ^ 32, (c.periods + code / len) % 2 ^ 32, n, sig,
    s.get (GNSSC.CH_SIG_SV n), word, fl, c.corr.map (fun p => (Config.corrWord p.1, Config.corrWord p.2)), s.geti (GNSSC.CH_LOCKIND n), st, s.chK n⟩

/-- The descriptors of an entry of the observation ring (Tables 5-7, 6-5). -/
def ObsEntry.descs : ObsEntry → List Desc
  | .obs o => [.obsHead o, .obsCont o]
  | .sol r => [.solHead r, .solCont r]

/-- The slot of the observation staging area at which an entry stands, counted from the oldest (Table 6-2). -/
def State.obsSlot (s : State) (i : Nat) : Nat := 0x06480000 + 32 * ((s.gnss.head + i) % 16384)

/-- An observation or solution record waits in the staging area, or is discarded whole when that is full or denied, and the next observation
delivered carries GAP (R119). -/
def State.stageObs (s : State) (e : ObsEntry) : State :=
  let lost := fun (s : State) => ({ s with gnss := { s.gnss with gap := true } }).inc GNSSF.OBS_DROP_CNT
  let n := 2 * s.gnss.staged.length
  if n + 2 ≤ 16384 then
    match s.stagePut 3 (s.obsSlot n) with
    | (.ok, s) =>
      match s.stagePut 3 (s.obsSlot (n + 1)) with
      | (.ok, s) => { s with gnss := { s.gnss with staged := s.gnss.staged ++ [e] } }
      | (_, s) => lost s
    | (_, s) => lost s
  else lost s

/-- An entry goes out on the observation ring; an observation carries GAP if one before it was lost (R118, R119). -/
def State.sendObs (s : State) (r : Nat) (e : ObsEntry) : State :=
  match e with
  | .obs o =>
    ({ s with gnss := { s.gnss with gap := false } }).ringWrite r
      (ObsEntry.obs (if s.gnss.gap then { o with flags := o.flags ||| 512 } else o)).descs
  | e => s.ringWrite r e.descs

/-- The oldest entry leaves the staging area. -/
def State.popObs (s : State) : State :=
  { s with gnss := { s.gnss with staged := s.gnss.staged.drop 1, head := (s.gnss.head + 2) % 16384 } }

/-- Staged entries go out on the observation ring in order, while it has room and class 3 can pay 60 each (R119, R121). One found
uncorrectable is discarded (R407); a read of one that is denied halts the ring with ERR DMA (R405). -/
def State.drainObs (s : State) : Nat → State
  | 0 => s
  | k + 1 =>
    match s.ringOf 5, s.gnss.staged with
    | some r, e :: _ =>
      if s.ringRoom r 2 then
        match s.charge 3 60 with
        | some s' =>
          let a := s'.stageGet 3 (s.obsSlot 0)
          let b := a.2.stageGet 3 (s.obsSlot 1)
          let s := b.2.popObs
          match a.1, b.1 with
          | .ok, .ok => State.drainObs (s.sendObs r e) k
          | .uncorr, _ => State.drainObs { s with gnss := { s.gnss with gap := true } } k
          | _, .uncorr => State.drainObs { s with gnss := { s.gnss with gap := true } } k
          | _, _ => b.2.ringHalt r 3
        | none => s
      else s.putB (HIF.RING_STAT_FULL r) true
    | _, _ => s

/-- An entry goes to the observation ring at once while none waits before it, or into the staging area (R119). -/
def State.postObs (s : State) (e : ObsEntry) : State :=
  match s.ringOf 5 with
  | some r =>
    if s.gnss.staged.isEmpty && s.ringRoom r 2 then
      match s.charge 3 60 with
      | some s => s.sendObs r e
      | none => s.stageObs e
    else s.stageObs e
  | none => s.stageObs e

/-- C/N0 below CN0_DROP for 500 consecutive milliseconds loses a channel (Table 5-4). -/
def State.judgeCn0 (s : State) (n : Nat) : State :=
  let c := s.chan n
  let st := s.chState n
  if st = 2 ∨ st = 3 ∨ st = 5 then
    let below := c.cnValid && decide (s.get (GNSSC.CH_CN0 n) < s.get GNSSF.TRACK_CFG)
    let k := if below then c.belowMs + 1 else 0
    let s := s.setChan n { c with belowMs := k }
    if 500 ≤ k then s.chanLost n else s
  else s

/-- What a channel's observation of the millisecond that ends carries of the notches (R101). -/
def State.chanNotched (s : State) (n : Nat) : State :=
  s.putB (GNSSC.CH_STAT_NOTCHED n) (s.chState n != 0 && ((s.chan n).notched || (s.chan n).wasNotched))

/-- A channel after the epoch latch of a millisecond edge: a code phase that waits for the edge, and the time SPARED lasts (R120). -/
def State.chanMs (s : State) (n : Nat) : State :=
  let c := s.chan n
  let c := if c.phaseDue then
      { c with
        phaseDue := false
        code := s.get (GNSSC.CODE_PHASE_INIT n) * 2 ^ 16 % (sigLen (s.chSig n) * 2 ^ 32)
        periods := 0
        since := 0
        acc := List.replicate 5 (0, 0) }
    else c
  (s.setChan n { c with sparedMs := c.sparedMs - 1, slip := false }).putB (GNSSC.CH_STAT_SPARED n) (c.sparedMs - 1 != 0)

/-- The channels whose observations carried SLIP since the last solution epoch (R131). -/
def State.noteSlips (s : State) (obs : List Obs) : State :=
  { s with nav := { s.nav with slips := s.nav.slips ++ (obs.filter (fun o => bitOf o.flags 3)).map (·.channel) } }

/-- TAI_MS_EDGE (R99 to R104, R117 to R119): observations are latched with the notches of the interval that ends, then
notches, JAM and handoffs change; observations go to the navigation block and to the ring. -/
def runTaiMsEdge (s : State) : State :=
  let epoch := s.units / 65536000000 * 65536000000
  let s := (List.range 136).foldl State.chanNotched s
  let live := (List.range 136).filter (fun n => s.chState n == 2 || s.chState n == 3 || s.chState n == 5)
  let obs := live.map (fun n => s.observe n epoch (s.band (sigBand (s.chSig n))).carry)
  let s := s.charge0 (20 * live.length)
  let s := ({ s with gnss := { s.gnss with obs := obs, epoch := epoch } }).noteSlips obs
  let s := (List.range 136).foldl State.chanMs s
  let s := s.drainObs s.gnss.staged.length
  let s := obs.foldl (fun s o => if s.flag (GNSSC.CH_CTRL_OBS_TO_RING o.channel) then s.postObs (.obs o) else s) s
  let s := (List.range 136).foldl State.judgeCn0 s
  let s := (s.monitorMs 0).monitorMs 1
  let hs := s.gnss.handoffs
  hs.foldl State.handoff { s with gnss := { s.gnss with handoffs := [] } }

/-! ### Host steering and the sheet edge (R98, R115, R116, R120) -/

/-- STEER_TIMEOUT (R116): STEER is cleared, the change is journaled, and the channel returns to LOCKING at the next edge. -/
def runSteerTimeout (n : Nat) (s : State) : State :=
  if n < 136 ∧ s.chState n = 5 ∧ s.get GNSSF.STEER_CFG ≤ (s.chan n).steerGap then
    let s := s.autoWrite (chCtrl n) (fun s => s.putB (GNSSC.CH_CTRL_STEER n) false)
    (s.inc GNSSF.STEER_TIMEOUT_CNT).event 0x0406 n 2
  else s

/-- The engine reads steer entries in ring order (R116): the ring waits at an entry more than 8 sheets ahead; an entry whose
sheet has begun before is discarded; of two for one channel and sheet the later wins. -/
def State.readSteer (s : State) : Nat → State
  | 0 => s
  | k + 1 =>
    match s.gnss.steerQ with
    | [] => s
    | e :: es =>
      if s.sheetNo + 8 < e.sheet then s
      else
        let s := { s with gnss := { s.gnss with steerQ := es } }
        let s := match s.ringOf 7 with
          | some r => s.put (HIF.RING_CONS r) (s.get (HIF.RING_CONS r) + 1)
          | none => s
        let s := if e.sheet < s.sheetNo then s.inc GNSSF.STEER_LATE_CNT
          else
            let rest := s.gnss.steerDue.filter (fun f => !(f.sheet == e.sheet && f.channel == e.channel))
            { s with gnss := { s.gnss with steerDue := rest ++ [e] } }
        State.readSteer s k

/-- Steer entries for the sheet that begins are applied to STEERED channels; the others hold (R116). -/
def State.steerEdge (s : State) : State :=
  let s := s.readSteer s.gnss.steerQ.length
  let mine := s.gnss.steerDue.filter (fun e => e.sheet == s.sheetNo)
  let s := { s with gnss := { s.gnss with steerDue := s.gnss.steerDue.filter (fun e => e.sheet != s.sheetNo) } }
  let s := (List.range 136).foldl (fun s n =>
    if s.chState n = 5 && !mine.any (fun e => e.channel == n) then
      (s.setChan n { s.chan n with steerGap := (s.chan n).steerGap + 1 }).putB (GNSSC.CH_STAT_STEER_HOLD n) true
    else s) s
  mine.foldl (fun s e =>
    if s.chState e.channel ≠ 5 then s.inc GNSSF.STEER_REJECT_CNT
    else
      match s.charge 3 25 with
      | some s' =>
        (s'.setChan e.channel { s'.chan e.channel with steer := some e, steerGap := 0 }).putB (GNSSC.CH_STAT_STEER_HOLD e.channel) false
      | none => (s.inc (LEDGER.REFUSE_CNT 3)).inc GNSSF.STEER_LATE_CNT) s

/-- STEER takes effect at the edge (Table 5-4): into STEERED, or back to LOCKING with the integrators seeded. -/
def State.steerStates (s : State) : State :=
  (List.range 136).foldl (fun s n =>
    let st := s.chState n
    let on := s.flag (GNSSC.CH_CTRL_STEER n)
    if on && (st == 2 || st == 3) then (s.put (GNSSC.CH_STAT_STATE n) 5).setChan n { s.chan n with steerGap := 0 }
    else if !on && st == 5 then
      ((s.locking n).putB (GNSSC.CH_STAT_STEER_HOLD n) false).seedLoop n
    else s) s

/-- The straight line through the times of a sheet's SCLK edges by least squares (R98): the time at the first edge, the time from one to the
next, and the mean square of the residuals. -/
def lineFit (l : List Int) : Rat × Rat × Rat :=
  let n : Rat := ((l.length : Nat) : Rat)
  let p := l.zipIdx.map (fun q => (((q.2 : Nat) : Rat), ((q.1 : Int) : Rat)))
  let sum := fun (f : Rat × Rat → Rat) => (p.map f).foldl (· + ·) 0
  let b := (n * sum (fun q => q.1 * q.2) - sum (·.1) * sum (·.2)) / (n * sum (fun q => q.1 * q.1) - sum (·.1) * sum (·.1))
  let a := (sum (·.2) - b * sum (·.1)) / n
  let r := sum (fun q => (q.2 - a - b * q.1) * (q.2 - a - b * q.1))
  (a, b, r / n)

/-- The fit of a band's SCLK edges over the sheet that ended (R98): 7,999 to 8,001 edges with an rms residual below 0.8 ns. -/
def State.sclkFit (s : State) (b : Nat) (edges : List Int) : State :=
  if !s.bandEn b then s.putB (GNSSF.BAND_STAT_SCLK_OK b) false
  else
    let n := edges.length
    let f := lineFit edges
    let good := decide (7999 ≤ n) && decide (n ≤ 8001) && decide (100 * f.2.2 < 524288 * 524288)
    let w := s.band b
    let s := if n = 0 then s else s.puti (GNSSF.SCLK_OFF b) (satS 32 (roundQ f.1))
    let w := { w with carry := if n = 0 then w.carry else max 0 (8192000000 - (f.1 + f.2.1 * ((n - 1 : Nat) : Rat))) }
    if good then (s.setBand b { w with goodSheets := min 8 (w.goodSheets + 1) }).putB (GNSSF.BAND_STAT_SCLK_OK b) true
    else
      let s := ((s.setBand b { w with goodSheets := 0 }).putB (GNSSF.BAND_STAT_SCLK_OK b) false).inc (GNSSF.SCLK_BAD_CNT b)
      let s := { s with gnss := { s.gnss with searches := s.gnss.searches.map (fun r =>
        Option.map (fun (q : Search) => if sigBand q.signal = b then { q with fell := true } else q) r) } }
      s.event 0x0401 b 0

/-- Stock of the GNSS signal work of a sheet (Table 5-8). A search whose sheet cannot be paid for stops for it (R121). -/
def State.gnssStock (s : State) : State :=
  let s := [0, 1].foldl (fun s b =>
    if s.bandEn b then s.charge0 (800 + 80 * ((List.range 4).filter (s.notchOn b)).length) else s) s
  let s := s.charge0 (1600 * s.enabledChans)
  (List.range 8).foldl (fun s i =>
    match nth s.gnss.searches i none with
    | none => s
    | some r =>
      match s.charge 3 625 with
      | some s' => { s' with gnss := { s'.gnss with searches := setNth s'.gnss.searches i (some { r with left := r.left - 1 }) } }
      | none => s.inc (LEDGER.REFUSE_CNT 3)) s

/-- A retired lane's channel moves to the lane of the highest-numbered IDLE channel, which becomes RETIRED (R120). -/
def State.moveLane (s : State) (lane : Nat) : State :=
  match (List.range 136).find? (fun n => (s.chan n).lane == lane && !s.flag (GNSSC.CH_STAT_RETIRED n)),
      (List.range 136).reverse.find? (fun n => s.chState n == 0 && !s.flag (GNSSC.CH_STAT_RETIRED n)) with
  | some n, some d =>
    let give := (s.chan d).lane
    let s := s.setChan d { s.chan d with lane := lane }
    let s := s.putB (GNSSC.CH_STAT_RETIRED d) true
    if n = d then s
    else (s.setChan n { s.chan n with lane := give, sparedMs := 1000 }).putB (GNSSC.CH_STAT_SPARED n) true
  | _, _ => s

/-- What A_OK and B_OK show (Table 5-9): the port enabled and its SCLK good. -/
def State.showPorts (s : State) : State :=
  (s.putB GNSSF.GNSSF_STATUS_A_OK (s.bandEn 0 && s.flag (GNSSF.BAND_STAT_SCLK_OK 0))).putB GNSSF.GNSSF_STATUS_B_OK
    (s.bandEn 1 && s.flag (GNSSF.BAND_STAT_SCLK_OK 1))

/-- What the GNSS front end does at a sheet edge: the samples before the edge are taken, the SCLK edges fitted, the sheet's work charged,
with 40 for each channel that decodes messages (R146), and STEER and steer entries take effect. -/
def State.gnssEdge (s : State) (l : List SclkIn) : State :=
  let s := (s.feed 0 (nth l 0 {}).samples).feed 1 (nth l 1 {}).samples
  let s := (s.sclkFit 0 (nth l 0 {}).edges).sclkFit 1 (nth l 1 {}).edges
  let s := s.gnssStock.charge0 (40 * (s.nav.sync.filter (·.isSome)).length)
  s.steerStates.steerEdge

/-- A hop loads a value into a channel's code NCO or carrier NCO (R114): none if the channel is IDLE or retired. -/
def State.hopChan (s : State) (n : Nat) (carrier : Bool) (v : Int) : State :=
  if 135 < n ∨ s.chState n = 0 ∨ s.flag (GNSSC.CH_STAT_RETIRED n) = true then s
  else
    if carrier then
      let s := s.put (GNSSC.CARR_RATE n) (ofS 48 v)
      if s.chState n = 5 then s
      else
        let d := dopplerOf (s.chSig n) (s.chK n) v
        let c := s.chan n
        s.setChan n (if s.get (GNSSC.CH_LOOP_PLL_ORDER n) = 3 then { c with x2 := d } else { c with x1 := d })
    else s.put (GNSSC.CODE_RATE n) (ofS 32 v)

end Sys2Proof.Machine
end

