-- ==== Sys2Proof/Machine/Nav.lean ====
section
/-! DEFINITION. Navigation decode, the time solution, survey and delay sizing (chapter 6). -/

namespace Sys2Proof.Machine

/-! ### Sizing of the GNSS delays (R132, Table 20-6) -/

/-- A field of the GNSS item in force: 0 D_A, 1 D_B, 2 U_A, 3 U_B, 4 to 15 D_sig by signal code, 16 to 29 D_k by k + 7. -/
def State.gnssField (s : State) (i : Nat) : Int :=
  match s.userItem 0x200 with
  | some it =>
    if i < 2 then toS 32 (leAt it.body (4 * i) 4)
    else if i < 4 then (leAt it.body (8 + 2 * (i - 2)) 2 : Nat)
    else toS 32 (leAt it.body (12 + 4 * (i - 4)) 4)
  | none => Config.factoryGnss i

/-- The body of the GNSS item from its fields (Table 20-6). -/
def gnssBody (f : Nat → Int) : List Byte :=
  leBytes 4 (ofS 32 (f 0)) ++ leBytes 4 (ofS 32 (f 1)) ++ leBytes 2 (f 2).toNat ++ leBytes 2 (f 3).toNat ++
    ((List.range 26).map (fun i => leBytes 4 (ofS 32 (f (4 + i))))).flatten

/-! ### Satellites of an epoch (R125, R129 to R133) -/

/-- A satellite of an epoch with what was measured of it, in metres: its slot and system, channel, pseudorange, whether it is
dual-frequency, C/N0, flags, receiver delay in ps, band of the delay's uncertainty, carrier, signal with its k, and whether an observation of
it since the last epoch carried SLIP. -/
structure SatMeas where
  slot : Nat
  sys : Nat
  ch : Nat
  rho : Rat
  dual : Bool
  cn0 : Nat
  flags : Nat
  delay : Rat
  band : Nat
  phase : Rat
  signal : Nat
  k : Int
  slipped : Bool
  deriving DecidableEq, Repr

/-- γ_A and γ_B of the ionosphere-free combination (R130): f² ÷ (f_A² − f_B²) with f in units of 10 kHz. -/
def gammaA : Rat := (157542 * 157542 : Int) / (157542 * 157542 - 117645 * 117645 : Int)
/-- γ_B of the ionosphere-free combination (R130). -/
def gammaB : Rat := (117645 * 117645 : Int) / (157542 * 157542 - 117645 * 117645 : Int)

/-- The transmit time that a synchronised channel gives a code position (R125): the decoded time, whole primary periods and the code phase. -/
def txAt (a : Nat × Rat) (o : Obs) : Rat :=
  a.2 + (toS 32 (o.codeEpoch + 2 ^ 32 - a.1) : Rat) * (sigPeriod o.signal : Nat) / 1000 + (o.codePhase : Rat) / 2 ^ 32 / (sigChips o.signal : Nat)

/-- The transmit time of an observation, from its channel's message synchronisation, or from that of the synchronised channel of the other band
that it was handed off from (R125): the transmit time of that one, with this one's code phase beyond the whole period. -/
def State.txTime (s : State) (o : Obs) : Option Rat :=
  match nth s.nav.sync o.channel none with
  | some a => some (txAt a o)
  | none =>
    ((s.chan o.channel).lender.bind (fun l => s.gnss.obs.find? (fun q => q.channel == l))).bind (fun q =>
      (nth s.nav.sync q.channel none).map (fun a =>
        let period : Rat := (sigPeriod o.signal : Nat) / 1000
        let phase : Rat := (o.codePhase : Rat) / 2 ^ 32 / (sigChips o.signal : Nat)
        phase + (roundQ ((txAt a q - phase) / period) : Int) * period))

/-- Whether an observation can take part: TRACK or STEERED, and not INVALID. -/
def obsGood (o : Obs) : Bool := (o.state == 3 || o.state == 5) && !bitOf o.flags 5

/-- Wavelength in metres of a signal's carrier. -/
def wavelength (c : Nat) (k : Int) : Rat :=
  lightQ / ((if c < 8 then 1575420000 else 1176450000) + (sigOffset c k : Int))

/-- The satellites of the last observation epoch, each with its band A and band B observations. -/
def satPairs (l : List Obs) : List (Nat × Option Obs × Option Obs) :=
  let slots := (l.filterMap (fun o => ephSlot (sigSystem o.signal) o.sv)).dedup
  slots.map (fun i =>
    let mine := l.filter (fun o => ephSlot (sigSystem o.signal) o.sv == some i && obsGood o)
    let pref := fun (c : Nat) => mine.find? (fun o => o.signal == c)
    let first := fun (cs : List Nat) => cs.findSome? pref
    (i, first [0, 1, 2, 4, 6, 7, 3, 5], first [8, 9, 10, 11]))

/-- D of a band and signal in ps (R132). -/
def State.sigDelay (s : State) (o : Obs) : Rat :=
  ((s.gnssField (sigBand o.signal) + s.gnssField (4 + o.signal) + (if o.signal = 5 then s.gnssField (16 + (o.k + 7).toNat) else 0) : Int) : Rat)

/-- The pseudorange of an observation in metres at its epoch. -/
def State.pseudorange (s : State) (o : Obs) (tx : Rat) : Rat :=
  lightQ * ((s.targetUnits o.epoch : Rat) / 65536000000000 - tx)

/-- What is measured of a satellite: the combination, or one band if single-frequency satellites are used (R130, R132). -/
def State.measSat (s : State) (i : Nat) (a b : Option Obs) : Option SatMeas :=
  let single := fun (o : Obs) =>
    if s.flag GNSSN.SOL_CFG_SINGLE_FREQ then
      (s.txTime o).map (fun t => (⟨i, slotSystem i, o.channel, s.pseudorange o t, false, o.cn0, o.flags, s.sigDelay o,
        sigBand o.signal, wavelength o.signal o.k * (o.carr : Rat) / 65536, o.signal, o.k,
        s.nav.slips.contains o.channel⟩ : SatMeas))
    else none
  match a, b with
  | some p, some q =>
    if p.signal = 3 ∨ p.signal = 5 then single p
    else
      match s.txTime p, s.txTime q with
      | some t, some u =>
        some ⟨i, slotSystem i, p.channel, gammaA * s.pseudorange p t - gammaB * s.pseudorange q u, true, min p.cn0 q.cn0,
          p.flags ||| q.flags, gammaA * s.sigDelay p - gammaB * s.sigDelay q, 2,
          gammaA * (wavelength p.signal p.k * (p.carr : Rat) / 65536) - gammaB * (wavelength q.signal q.k * (q.carr : Rat) / 65536),
          p.signal, p.k, s.nav.slips.contains p.channel || s.nav.slips.contains q.channel⟩
      | some _, none => single p
      | _, _ => single q
  | some p, none => single p
  | none, some q => single q
  | none, none => none

/-- Carrier smoothing of a satellite's pseudorange (R131). -/
def State.smoothSat (s : State) (m : SatMeas) : SatMeas × State :=
  if !s.flag GNSSN.SOL_CFG_SMOOTH then (m, s)
  else
    let cap := max 1 (s.get GNSSN.SOL_CFG_SMOOTH_S * 1000 / s.get GNSSN.SOL_CFG_SOL_PERIOD_MS)
    let old := (s.nav.smooth.find? (fun q => q.slot == m.slot)).getD ⟨m.slot, 0, 0, m.phase⟩
    let n0 := if m.slipped then 0 else old.n
    let n := min (n0 + 1) cap
    let rho := m.rho / (n : Nat) + ((n : Nat) - 1 : Rat) / (n : Nat) * (old.rho + (m.phase - old.phase))
    ({ m with rho := rho }, { s with nav := { s.nav with
      smooth := ⟨m.slot, n, rho, m.phase⟩ :: s.nav.smooth.filter (fun q => q.slot != m.slot) } })

/-- The Earth's rotation in rad/s (R129). -/
def omegaE : Rat := 72921151467 / 10 ^ 15

/-- Troposphere delay in metres (R129). -/
def tropoDelay (pos : List Rat) (sinE : Rat) : Rat :=
  let g := geodetic pos
  let h := g.2.1
  let p := 101325 / 100 * powQ (1 - 22557 / 10 ^ 9 * h) (52568 / 10000)
  let z := 22768 / 10 ^ 7 * p / (1 - 266 / 10 ^ 5 * cosQ (2 * g.1) - 28 / 10 ^ 5 * (h / 1000))
  1001 / 1000 / sqrtQ (2001 / 10 ^ 6 + sinE * sinE) * (z + 1 / 10)

/-- A satellite's geometry at a receive time (R129): the light time iterated twice from 0.075 s, its position then and its
distance. -/
def satAt (rec : List Byte) (pos : List Rat) (t : Rat) : List Rat × Rat × Rat :=
  let d0 := normQ (subQ (satPos rec (t - 75 / 1000)) pos)
  let t1 := t - d0 / lightQ
  let p := satPos rec t1
  (p, normQ (subQ p pos), t1)

/-- The time of the last observation epoch in TAI seconds. -/
def State.epochQ (s : State) : Rat := (s.gnss.epoch : Rat) / 65536000000000

/-- Vat address of the global parameters of a system (Table 6-2). -/
def globAddr (sys : Nat) : Nat := 0x06430000 + 128 * sys

/-- The global parameters of a system as they lie in the vat. Byte 0 says which are held, bit 0 UTC, bit 1 ionosphere, bit 2 the offset; then
at 8 A0, at 16 A1, at 24 the reference second, at 32 the leap-second count, at 40 the offset in ps, at 48 the eight ionosphere parameters
(DESIGN CHOICE: the manual gives the area and no layout). -/
def State.globOf (s : State) (sys : Nat) : List Byte := s.navSee (globAddr sys) 80

/-- A global parameter is stored and marked as held. -/
def State.globPut (s : State) (sys bit off : Nat) (b : List Byte) : State :=
  if 4 < sys then s
  else
    let f := leAt (s.globOf sys) 0 1
    (s.navWrite (globAddr sys + off) b).navWrite (globAddr sys) (leBytes 1 (putBit f bit true))

/-- The UTC parameters of a system. -/
def State.utcPar (s : State) (sys : Nat) : Option UtcPar :=
  let g := s.globOf sys
  if bitOf (leAt g 0 1) 0 then some ⟨toS 64 (leAt g 8 8), toS 64 (leAt g 16 8), leAt g 24 8, toS 32 (leAt g 32 4)⟩ else none

/-- The ionosphere parameters of a system. -/
def State.ionoPar (s : State) (sys : Nat) : Option (List Int) :=
  let g := s.globOf sys
  if bitOf (leAt g 0 1) 1 then some ((List.range 8).map (fun i => toS 32 (leAt g (48 + 4 * i) 4))) else none

/-- The broadcast offset of a system in ps, 0 until one is received. -/
def State.isoPar (s : State) (sys : Nat) : Int := toS 64 (leAt (s.globOf sys) 40 8)

/-- The Klobuchar delay of a single-frequency satellite in metres at its own carrier (R130). -/
def State.ionoDelay (s : State) (m : SatMeas) (pos sat : List Rat) (t : Rat) : Rat :=
  let fq : Rat := 1575420000 * wavelength m.signal m.k / lightQ
  let d := match s.ionoPar 0, s.ionoPar 2 with
    | some q, _ => Config.klobuchar 0 q pos sat t
    | none, some q => Config.klobuchar 2 q pos sat t
    | none, none => Config.klobucharNone t
  if m.dual then 0 else d * fq * fq

/-- A row of the solution: coefficients, residual input y, variance, and whose it is. -/
structure SolRow where
  los : List Rat
  y : Rat
  var : Rat
  sat : SatMeas
  deriving DecidableEq, Repr

/-- The broadcast or estimated treatment of a system (ISO_CFG): 0 estimate, 1 broadcast, 2 exclude; ignored for REF_SYS. -/
def State.isoMode (s : State) (sys : Nat) : Nat :=
  if sys = s.get GNSSN.SOL_CFG_REF_SYS then 1 else bits (s.get GNSSN.ISO_CFG) (2 * sys) 2

/-- The row of a satellite seen from a position, if it is used (R129, R130, R133). -/
def State.solRow (s : State) (pos : Option (List Rat)) (m : SatMeas) : Option SolRow × State :=
  let t := s.epochQ
  let r := s.navRead (ephAddr m.slot) 256
  let s := r.2
  let p0 := pos.getD [0, 0, 0]
  if !ephUsable r.1 t || s.isoMode m.sys == 2 || s.nav.quarantine.any (fun q => q.1 == m.slot && decide (s.monoSec < q.2)) ||
      decide (m.cn0 < 100 * s.get GNSSN.MASK_CFG_CN0_MIN) then (none, s)
  else
    let g := satAt r.1 p0 t
    let sinE := sinElev p0 g.1
    if pos.isSome && decide (sinE < sinTurns ((s.get GNSSN.MASK_CFG_ELEV_MASK : Rat) / 360)) then (none, s)
    else
      let dt := Config.satClock r.1 m.signal g.2.2
      let sagnac := omegaE * (nth g.1 0 0 * nth p0 1 0 - nth g.1 1 0 * nth p0 0 0) / lightQ
      let iono := s.ionoDelay m p0 g.1 t
      let iso : Rat := if m.sys ≠ s.get GNSSN.SOL_CFG_REF_SYS ∧ s.isoMode m.sys = 1 then ((s.isoPar m.sys : Int) : Rat) / 10 ^ 12 else 0
      let y := m.rho - iono - g.2.1 - sagnac + lightQ * dt - tropoDelay p0 sinE - lightQ * m.delay / 10 ^ 12 - lightQ * iso
      let s0 : Rat := (s.get GNSSN.WEIGHT_CFG_SIGMA0 : Nat) / 1000
      let s1 : Rat := (s.get GNSSN.WEIGHT_CFG_SIGMA1 : Nat) / 1000
      let base := (s0 * s0 + s1 * s1 * pow10 ((45 - ((m.cn0 : Nat) : Rat) / 100) / 10)) / (sinE * sinE)
      let sf : Rat := (s.get GNSSN.SF_CFG : Nat) / 1000
      let var := if m.dual then base * 669945 / 100000 else base + sf * sf
      (some ⟨scaleQ (-1 / g.2.1) (subQ g.1 p0), y, var, m⟩, s)

/-! ### The solution and T-RAIM (R133, R136 to R138) -/

/-- Systems with a column of their own: estimated, with a used satellite. -/
def State.columns (s : State) (rows : List SolRow) : List Nat :=
  (List.range 5).filter (fun y => y != s.get GNSSN.SOL_CFG_REF_SYS && s.isoMode y == 0 && rows.any (fun r => r.sat.sys == y))

/-- The coefficients of a row: position where it is unknown, the common offset, a column for each estimated system. -/
def coeffs (cols : List Nat) (withPos : Bool) (r : SolRow) : List Rat :=
  (if withPos then r.los else []) ++ [1] ++ cols.map (fun y => if r.sat.sys = y then 1 else 0)

/-- How a solution came out: its status, unknowns, inverse, values, rows with residual and redundancy, statistics. -/
structure Solved where
  status : Nat
  cols : List Nat
  x : List Rat
  inv : List (List Rat)
  rows : List (SolRow × Rat × Rat)
  sse : Rat
  t : Rat
  excl : List SatMeas
  detects : Nat
  deriving DecidableEq, Repr

/-- One weighted least-squares solution over rows. -/
def State.solveOnce (s : State) (withPos : Bool) (rows : List SolRow) (excl : List SatMeas) (detects : Nat) : Option Solved :=
  let cols := s.columns rows
  let m := (if withPos then 3 else 0) + 1 + cols.length
  let hs := rows.map (fun r => (coeffs cols withPos r, 1 / r.var))
  (matInv (gram m hs)).map (fun inv =>
    let g := (List.range m).map (fun i =>
      (List.zipWith (fun (h : List Rat × Rat) (r : SolRow) => h.2 * nth h.1 i 0 * r.y) hs rows).foldl (· + ·) 0)
    let x := mulVec inv g
    let out := List.zipWith (fun (h : List Rat × Rat) (r : SolRow) =>
      (r, r.y - dotQ h.1 x, 1 - h.2 * dotQ h.1 (mulVec inv h.1))) hs rows
    let sse := (out.map (fun p => p.2.1 * p.2.1 / p.1.var)).foldl (· + ·) 0
    ⟨0, cols, x, inv, out, sse, chiQuantile (s.get GNSSN.TRAIM_CFG_PFA_SEL) (rows.length - m), excl, detects⟩)

/-- The used satellite with the largest normalised residual (R137). -/
def worstRow (l : List (SolRow × Rat × Rat)) : Option SolRow :=
  (l.foldl (fun (b : Option (SolRow × Rat)) p =>
    let q := p.2.1 * p.2.1 / (p.1.var * p.2.2)
    match b with
    | none => some (p.1, q)
    | some c => if c.2 < q then some (p.1, q) else some c) none).map (·.1)

/-- The solution with T-RAIM (R136, R137): test, exclude, solve again. -/
def State.traim (s : State) (withPos : Bool) : Nat → List SolRow → List SatMeas → Nat → Solved
  | 0, rows, excl, d => ⟨3, [], [], [], rows.map (fun r => (r, 0, 0)), 0, 0, excl, d⟩
  | k + 1, rows, excl, d =>
    let m := (if withPos then 3 else 0) + 1 + (s.columns rows).length
    let n := rows.length
    if n < m then ⟨4, [], [], [], rows.map (fun r => (r, 0, 0)), 0, 0, excl, d⟩
    else
      match s.solveOnce withPos rows excl d with
      | none => ⟨4, [], [], [], rows.map (fun r => (r, 0, 0)), 0, 0, excl, d⟩
      | some r =>
        if n = m then { r with status := 1 }
        else if r.sse ≤ r.t then { r with status := if excl.isEmpty then 0 else 2 }
        else
          let d := d + 1
          match worstRow r.rows with
          | none => { r with status := 3, detects := d }
          | some w =>
            if n - m < 2 ∨ s.get GNSSN.TRAIM_CFG_MAX_EXCL ≤ excl.length then { r with status := 3, detects := d }
            else State.traim s withPos k (rows.filter (fun q => q.sat.slot != w.sat.slot)) (excl ++ [w.sat]) d

/-- Detections and exclusions are counted, posted and quarantined (R137). -/
def State.noteTraim (s : State) (r : Solved) : State :=
  let s := (s.charge0 (1500 * r.excl.length)).incBy GNSSN.TRAIM_DETECT_CNT r.detects
  r.excl.foldl (fun s m =>
    let until_ := s.monoSec + s.get GNSSN.TRAIM_CFG_QUARANTINE_S
    let s := { s with nav := { s.nav with quarantine := (m.slot, until_) :: s.nav.quarantine.filter (fun q => q.1 != m.slot) } }
    (s.event 0x0504 m.ch (slotSv m.slot)).inc GNSSN.TRAIM_EXCL_CNT) s

/-- The rows of the present epoch from a position, and the smoothing they carry on. -/
def State.epochRows (s : State) (pos : Option (List Rat)) (smooth : Bool) : List SolRow × State :=
  (satPairs s.gnss.obs).foldl (fun acc p =>
    match acc.2.measSat p.1 p.2.1 p.2.2 with
    | none => acc
    | some m =>
      let r := if smooth then acc.2.smoothSat m else (m, acc.2)
      let q := r.2.solRow pos r.1
      (match q.1 with
       | some row => acc.1 ++ [row]
       | none => acc.1, q.2)) ([], s)

/-- A time in seconds as a count of ps, rounded and held within an unsigned width. -/
def psOf (w : Nat) (t : Rat) : Nat := satN w (roundQ (t * 10 ^ 12)).toNat

/-- The time protection level in seconds (R138). A satellite with no part in the time, as the only one of its system, has none in S_max; none
when a satellite with a part in it has no redundancy. -/
def tplOf (r : Solved) : Option Rat :=
  let row0 := nth r.inv 0 []
  let rows := (r.rows.map (fun p => (dotQ row0 (coeffs r.cols false p.1) / p.1.var, p.1.var, p.2.2))).filter (fun p => p.1 != 0)
  if rows.any (fun p => decide (p.2.2 ≤ 0)) then none
  else
    let smax2 := (rows.map (fun p => p.1 * p.1 * p.2.1 / p.2.2)).foldl max 0
    some ((sqrtQ (smax2 * r.t) + 533 / 100 * sqrtQ (nth row0 0 0)) / lightQ)

/-- The uncertainty of the receiver delay that a solution carries, in ps (R132, R143). -/
def State.solU (s : State) (r : Solved) : Nat :=
  let ua : Rat := ((s.gnssField 2 : Int) : Rat)
  let ub : Rat := ((s.gnssField 3 : Int) : Rat)
  if r.rows.any (fun p => p.1.sat.dual) then
    (roundQ (sqrtQ ((gammaA * ua) * (gammaA * ua) + (gammaB * ub) * (gammaB * ub)))).toNat
  else if r.rows.all (fun p => p.1.sat.band == 1) then (s.gnssField 3).toNat
  else if r.rows.all (fun p => p.1.sat.band == 0) then (s.gnssField 2).toNat
  else max (s.gnssField 2).toNat (s.gnssField 3).toNat

/-- The broadcast UTC correction of the reference system in seconds (R134). -/
def State.utcCorrection (s : State) : Rat :=
  let sys := s.get GNSSN.SOL_CFG_REF_SYS
  match s.utcPar sys with
  | some p => ((p.a0 : Int) : Rat) / 2 ^ 51 + ((p.a1 : Int) : Rat) / 2 ^ 51 * (s.epochQ - (p.tot : Nat))
  | none => Config.utcNone sys s.epochQ

/-- What NAV_STATUS shows of the mode of the solution. -/
def State.showNav (s : State) : State :=
  s.puts [(GNSSN.NAV_STATUS_SOL_MODE, if s.nav.survey.isSome then 1 else if s.flag GNSSN.NAV_STATUS_POS_VALID then 2 else 0),
    (GNSSN.NAV_STATUS_SURVEY_RUN, if s.nav.survey.isSome then 1 else 0),
    (GNSSN.NAV_STATUS_NEPH, ((List.range 165).filter (fun i => ephUsable (s.navSee (ephAddr i) 256) s.taiQ)).length)]

/-- A new position is taken into use at a solution epoch; smoothing starts again (R141). -/
def State.takePos (s : State) : State :=
  if s.nav.posDue then
    { s with nav := { s.nav with
      posDue := false, smooth := [], pos := [s.geti GNSSN.POS_X, s.geti GNSSN.POS_Y, s.geti GNSSN.POS_Z] } }
  else s

/-- Why an epoch has no solution at all (Table 6-4). -/
def State.solBar (s : State) : Option Nat :=
  if !s.flag GNSSN.NAV_STATUS_POS_VALID && s.nav.survey.isNone then some 5
  else if s.flag TIME.TIME_STATUS_COARSE then some 6
  else
    let on := [0, 1].filter s.bandEn
    if !on.isEmpty && on.all (fun b => !s.flag (GNSSF.BAND_STAT_SCLK_OK b)) then some 6 else none

/-- A solution record goes to the observation ring (R144). -/
def State.postSol (s : State) (r : SolRec) : State :=
  if s.flag GNSSN.SOL_CFG_TO_RING then (s.drainObs s.gnss.staged.length).postObs (.sol r) else s

/-- The delay sizing takes a sample: OFFSET less the measured offset of the 1PPS, in ps (R142). -/
def State.sampleDelay (s : State) (offset : Int) : State :=
  match s.nav.sizing with
  | none => s
  | some z =>
    match (s.ch z.ch).lastPass with
    | none => s
    | some e =>
      if e = z.last then s
      else
        let pps := (e : Int) - roundDiv e 65536000000000 * 65536000000000
        let v : Rat := ((offset - pps : Int) : Rat) * 125 / 8192
        { s with nav := { s.nav with sizing := some { z with n := z.n + 1, sum := z.sum + v, sumSq := z.sumSq + v * v, last := e } } }

/-- The status and used satellites of an epoch are shown, and an epoch without a fix is counted (R147). -/
def State.showSol (s : State) (r : Solved) : State :=
  let s := s.puts [(GNSSN.NAV_STATUS_STATUS, r.status), (GNSSN.NAV_STATUS_NUSED, r.rows.length)]
  if r.status = 3 ∨ r.status = 4 then s.inc GNSSN.NO_FIX_CNT else s

/-- A solution is delivered (R134, R135, R138, R143, R144). -/
def State.giveSol (s : State) (r : Solved) : State :=
  let n := r.rows.length
  let st := r.status
  let ok := decide (st ≤ 3) && !r.inv.isEmpty
  let off := roundQ ((nth r.x 0 0 / lightQ - s.utcCorrection) * 65536000000000)
  let sig := psOf 32 (sqrtQ (nth (nth r.inv 0 []) 0 0) / lightQ)
  let tpl := if st = 1 then 2 ^ 40 - 1 else (tplOf r).elim (2 ^ 40 - 1) (psOf 40)
  let isoOf := fun (y : Nat) =>
    match r.cols.idxOf? y with
    | some j => roundQ (nth r.x (1 + j) 0 / lightQ * 10 ^ 12)
    | none => 0
  let s := s.showSol r
  let s := if ok then
      (List.range 5).foldl (fun s y => s.puti (GNSSN.ISO y) (satS 32 (isoOf y)))
        (((s.puti GNSSN.OFFSET (satS 64 off)).put GNSSN.SIGMA sig).put GNSSN.TPL (min tpl (2 ^ 32 - 1)))
    else s
  let rec_ : SolRec := ⟨s.gnss.epoch % 2 ^ 64, if ok then off else 0, if ok then sig else 0, if ok then min tpl (2 ^ 32 - 1) else 2 ^ 32 - 1, n, r.excl.length,
    st, s.get GNSSN.SOL_CFG_REF_SYS, (List.range 5).map (fun y => if ok then satS 32 (isoOf y) else 0), satN 32 (roundQ (r.sse * 256)).toNat,
    satN 32 (roundQ (r.t * 256)).toNat, ((r.excl.map (fun (m : SatMeas) => m.ch)) ++ [255, 255, 255]).take 3⟩
  let s := s.postSol rec_
  let sol : NavSol := ⟨s.gnss.epoch, off, sig, tpl, s.solU r, (r.rows.filter (fun p => bitOf p.1.sat.flags 4 || bitOf p.1.sat.flags 8)).length, st, s.sheetNo⟩
  let s := if st = 0 ∨ st = 2 then s.sampleDelay off else s
  if s.mode = 4 then s
  else if st = 0 ∨ st = 2 ∨ (st = 1 ∧ s.flag GNSSN.TRAIM_CFG_ALLOW_UNPROTECTED = true) then
    { s with nav := { s.nav with deliver := some sol } }
  else s

/-- Whether an observation epoch is one to be solved that has not been solved yet: a whole multiple of a period in ms of TAI (R133, R139). -/
def State.epochDue (s : State) (period : Nat) : Bool :=
  s.nav.solved != some s.gnss.epoch && s.gnss.epoch / 65536000000 % max 1 period == 0

/-- The epoch in hand has been solved: what its observations carried has been used. -/
def State.epochDone (s : State) : State := { s with nav := { s.nav with solved := some s.gnss.epoch, slips := [] } }

/-- SOLUTION_EPOCH (R133 to R138): the epoch at the edge of the present sheet is solved at a held position; while a survey runs its own epochs
solve. -/
def runSolutionEpoch (s : State) : State :=
  if s.nav.survey.isSome ∨ s.epochDue (s.get GNSSN.SOL_CFG_SOL_PERIOD_MS) = false then s
  else
    let s := s.takePos.showNav
    match s.solBar with
    | some st =>
      let s := s.epochDone.puts [(GNSSN.NAV_STATUS_STATUS, st), (GNSSN.NAV_STATUS_NUSED, 0)]
      s.postSol ⟨s.gnss.epoch % 2 ^ 64, 0, 0, 2 ^ 32 - 1, 0, 0, st, s.get GNSSN.SOL_CFG_REF_SYS, [0, 0, 0, 0, 0], 0, 0, [255, 255, 255]⟩
    | none =>
      let q := (s.charge0 3000).epochRows s.antenna true
      let r := (q.2.charge0 (220 * q.1.length)).traim false 4 q.1 [] 0
      (((q.2.charge0 (220 * q.1.length)).noteTraim r).giveSol r).epochDone

/-! ### Survey (R139, R140) -/

/-- One epoch solved for position: the linearisation is repeated from the position it gives, without a test, and the last one is tested. -/
def State.surveySolve (s : State) : Nat → Option (List Rat) → Option (List Rat) × Solved × State
  | 0, pos =>
    let q := s.epochRows pos false
    (pos, q.2.traim true 4 q.1 [] 0, q.2)
  | k + 1, pos =>
    let q := s.epochRows pos false
    match q.2.solveOnce true q.1 [] 0 with
    | some r => State.surveySolve q.2 k (some (addQ (pos.getD [0, 0, 0]) (r.x.take 3)))
    | none => (pos, q.2.traim true 4 q.1 [] 0, q.2)

/-- The square root of the largest eigenvalue of the inverse of a symmetric 3 × 3 matrix, in mm (R139): the least λ up to the trace for which λI
less the inverse has no negative principal minor. The largest value the register holds where there is no inverse. -/
def surveySigma (npp : List (List Rat)) : Nat :=
  match matInv npp with
  | none => 2 ^ 32 - 1
  | some m =>
    let e := fun (i j : Nat) => nth (nth m i []) j 0
    let short := fun (l : Rat) =>
      let d := fun (i : Nat) => l - e i i
      let p2 := fun (i j : Nat) => d i * d j - e i j * e j i
      let det := d 0 * p2 1 2 - e 0 1 * (e 1 0 * d 2 + e 1 2 * e 2 0) - e 0 2 * (e 2 0 * d 1 + e 1 0 * e 2 1)
      decide (d 0 < 0) || decide (d 1 < 0) || decide (d 2 < 0) || decide (p2 0 1 < 0) || decide (p2 0 2 < 0) || decide (p2 1 2 < 0) ||
        decide (det < 0)
    satN 32 (roundQ (1000 * sqrtQ (bisectQ short 80 0 (e 0 0 + e 1 1 + e 2 2)))).toNat

/-- An epoch's normal equations with the clock and offset unknowns removed (R139): the block of the position, and its right side. -/
def surveyPart (p0 : List Rat) (r : Solved) : Option (List (List Rat) × List Rat) :=
  let rows := r.rows.map (fun p => p.1)
  let hs := rows.map (fun w => (coeffs r.cols true w, 1 / w.var))
  let m := 4 + r.cols.length
  let a := gram m hs
  let y := (List.range m).map (fun i =>
    (List.zipWith (fun (h : List Rat × Rat) (w : SolRow) => h.2 * nth h.1 i 0 * (w.y + dotQ w.los p0)) hs rows).foldl (· + ·) 0)
  (matInv (block a 3 (m - 3) 3 (m - 3))).map (fun ic =>
    let k := mulMat (m - 3) (block a 0 3 3 (m - 3)) ic
    (List.zipWith subQ (block a 0 3 0 3) (mulMat 3 k (block a 3 (m - 3) 0 3)), subQ (y.take 3) (mulVec k (y.drop 3))))

/-- SURVEY_EPOCH (R139): at each 1 s epoch the position and the clock unknowns are solved; one that ends OK or EXCLUDED is added to the sums,
with the clock unknowns removed. -/
def runSurveyEpoch (s : State) : State :=
  match s.nav.survey with
  | none => s
  | some v =>
    if s.epochDue 1000 = false then s
    else
    let s := (s.put GNSSN.SURVEY_STAT_ELAPSED (s.monoSec - v.start)).takePos
    match s.solBar with
    | some st => s.epochDone.puts [(GNSSN.NAV_STATUS_STATUS, st), (GNSSN.NAV_STATUS_NUSED, 0)]
    | none => s.orPause 4 2000 (fun s =>
      let s := s.charge0 3000
      let q := s.surveySolve (if s.antenna.isSome then 2 else 6) s.antenna
      let r := q.2.1
      let s := ((q.2.2.charge0 (220 * (r.rows.length + r.excl.length))).noteTraim r).epochDone.showSol r
      if r.status ≠ 0 ∧ r.status ≠ 2 then s
      else
        match surveyPart (q.1.getD [0, 0, 0]) r with
        | none => s
        | some (n, u) =>
          let npp := List.zipWith addQ v.npp n
          let up := addQ v.up u
          let est := ((matInv npp).map (fun i => mulVec i up)).or v.est
          let s := { s with nav := { s.nav with survey := some { v with npp := npp, up := up, est := est } } }
          s.put GNSSN.SURVEY_SIGMA (surveySigma npp))

/-- A survey ends with a result and a status in its event (R140). -/
def State.endSurvey (s : State) (result status : Nat) : State :=
  let s := { s with nav := { s.nav with survey := none, smooth := [] } }
  ((s.put GNSSN.SURVEY_STAT_RESULT result).event 0x0505 0 status).showNav

/-- SURVEY_DONE (R140): the duration has passed; the position is stored, or SURVEY_POOR is reported. -/
def runSurveyDone (s : State) : State :=
  match s.nav.survey with
  | none => s
  | some v =>
    if s.monoSec < v.start + v.dur then s
    else
      match v.est with
      | some p =>
        if s.get GNSSN.SURVEY_SIGMA ≤ v.target then
          let mm := p.map (fun q => roundQ (q * 1000))
          let sg := s.get GNSSN.SURVEY_SIGMA
          let s := (((s.puti GNSSN.POS_X (nth mm 0 0)).puti GNSSN.POS_Y (nth mm 1 0)).puti GNSSN.POS_Z (nth mm 2 0)).put GNSSN.POS_SIGMA sg
          let s := (s.putB GNSSN.NAV_STATUS_POS_VALID true).sizeItem v.origin 0x201 s.taiSec
            ((mm.map (fun i => leBytes 8 (ofS 64 i))).flatten ++ leBytes 4 sg ++ leBytes 4 0)
          let s := { s with nav := { s.nav with posDue := true } }
          s.endSurvey 1 stOK
        else s.endSurvey 2 stPOOR
      | none => s.endSurvey 2 stPOOR

/-- SURVEY_START (R139, Table 6-6). -/
def runSurveyStart (h : Hdr) (dur target : Nat) (s : State) : State :=
  s.command h 0x54 false (.surveyStart h dur target) 0 (fun s =>
    if 1 < s.mode then s.complete h 0x54 stMODE 0
    else if s.nav.survey.isSome then s.complete h 0x54 stBUSY 0
    else if dur < 600 ∨ 604800 < dur then s.complete h 0x54 stRANGE 0
    else
      let z := List.replicate 3 (List.replicate 3 (0 : Rat))
      let s := { s with nav := { s.nav with survey := some ⟨h.origin, dur, target, s.monoSec, z, [0, 0, 0], none⟩ } }
      let s := s.puts [(GNSSN.SURVEY_STAT_ELAPSED, 0), (GNSSN.SURVEY_STAT_RESULT, 0)]
      (s.showNav.journalCmd h 0x54 (dur + 2 ^ 32 * target) 0).complete h 0x54 stOK 0)

/-- SURVEY_STOP (R140): a survey ends with ABORTED. -/
def runSurveyStop (h : Hdr) (s : State) : State :=
  s.command h 0x55 false (.surveyStop h) 0 (fun s =>
    let s := if s.nav.survey.isSome then (s.journalCmd h 0x55 0 0).endSurvey 3 stABORTED else s
    s.complete h 0x55 stOK 0)

/-! ### Position (R141) -/

/-- POS_SET (R141, Table 6-6): RANGE beyond 10⁸ mm from the Earth's centre. -/
def runPosSet (h : Hdr) (x y z : Int) (sigma : Nat) (s : State) : State :=
  s.command h 0x56 false (.posSet h x y z sigma) (dmaStock 28) (fun s =>
    if 1 < s.mode then s.complete h 0x56 stMODE 0
    else if 10 ^ 16 < x * x + y * y + z * z then s.complete h 0x56 stRANGE 0
    else
      let s := (((s.puti GNSSN.POS_X x).puti GNSSN.POS_Y y).puti GNSSN.POS_Z z).puts
        [(GNSSN.POS_SIGMA, sigma), (GNSSN.NAV_STATUS_POS_VALID, 1)]
      let s := { s with nav := { s.nav with posDue := true } }
      (s.journalCmd h 0x56 (ofS 64 x) (ofS 64 y)).complete h 0x56 stOK 0)

/-- POS_WRITE (R5, R141, R450): a write to a POS register, refused outside QUIET and SIZING. -/
def runPosWrite (o : Origin) (a v : Nat) (s : State) : State :=
  if a < 0x100020 ∨ 0x100038 < a then s
  else s.busStore o a v (decide (s.mode ≤ 1)) true (fun s =>
    let s := { s with nav := { s.nav with posDue := true } }
    s.putB GNSSN.NAV_STATUS_POS_VALID true)

/-! ### Sizing the antenna delay (R142) -/

/-- GNSS_DELAY_SIZE (R2, R142): in SIZING, a class A channel and 600 s to 86,400 s. -/
def runGnssDelaySize (h : Hdr) (n dur : Nat) (s : State) : State :=
  s.command h 0x57 false (.gnssDelaySize h n dur) 0 (fun s =>
    if s.mode ≠ 1 then s.complete h 0x57 stMODE 0
    else if 31 < n ∨ dur < 600 ∨ 86400 < dur then s.complete h 0x57 stINVALID 0
    else if s.nav.sizing.isSome then s.complete h 0x57 stBUSY 0
    else
      let s := { s with nav := { s.nav with sizing := some ⟨h.origin, n, dur, s.monoSec, 0, 0, 0, ((s.ch n).lastPass).getD 0⟩ } }
      (s.journalCmd h 0x57 (n + 2 ^ 32 * dur) 0).complete h 0x57 stOK 0)

/-- The delay sizing ends without a result. -/
def State.abortDelay (s : State) : State :=
  if s.nav.sizing.isSome then ({ s with nav := { s.nav with sizing := none } }).event 0x0506 0 stABORTED else s

/-- DELAY_SIZED (R142): the duration ends; the average is added to D_A and D_B and written to user sizing. -/
def runDelaySized (s : State) : State :=
  match s.nav.sizing with
  | none => s
  | some z =>
    if s.monoSec < z.start + z.dur then s
    else if z.n = 0 then s.abortDelay
    else
      let n : Rat := ((z.n : Nat) : Rat)
      let mean := z.sum / n
      let var := (z.sumSq / n - mean * mean) / n
      let add := roundQ mean
      let u := fun (i : Nat) =>
        let p : Rat := ((s.gnssField i : Int) : Rat)
        clampI 0 65535 (roundQ (sqrtQ (var + p * p)))
      let f := fun (i : Nat) => if i < 2 then s.gnssField i + add else if i < 4 then u i else s.gnssField i
      let s := s.sizeItem z.origin 0x200 s.taiSec (gnssBody f)
      ({ s with nav := { s.nav with sizing := none } }).event 0x0506 z.ch stOK

/-! ### Navigation data (R124 to R128) -/

/-- The remainder of a list of bits by a polynomial of degree `w` whose leading term is left out. -/
def bitRem (w poly : Nat) (l : List Bool) : Nat :=
  l.foldl (fun r b =>
    let r2 := 2 * r + (if b then 1 else 0)
    if bitOf r2 w then (r2 % 2 ^ w) ^^^ poly else r2) 0

/-- The parity of the bits of a list at given places, the first being 1. -/
def parityAt (l : List Bool) (ps : List Nat) : Bool := (ps.map (fun p => nth l (p - 1) false)).foldl Bool.xor false

/-- The parity (32,26) of a word of the LNAV message, with the last two bits of the word before in front (PRESUMED, as the GPS interface control
document has it). -/
def lnavWordOk (last : List Bool) (w : List Bool) : Bool :=
  let d29 := nth last 0 false
  let d30 := nth last 1 false
  let d := (w.take 24).map (fun b => Bool.xor b d30)
  let eq := fun (i : Nat) (x : Bool) (ps : List Nat) => nth w i false == Bool.xor x (parityAt d ps)
  eq 24 d29 [1, 2, 3, 5, 6, 10, 11, 12, 13, 14, 17, 18, 20, 23] && eq 25 d30 [2, 3, 4, 6, 7, 11, 12, 13, 14, 15, 18, 19, 21, 24] &&
    eq 26 d29 [1, 3, 4, 5, 7, 8, 12, 13, 14, 15, 16, 19, 20, 22] && eq 27 d30 [2, 4, 5, 6, 8, 9, 13, 14, 15, 16, 17, 20, 21, 23] &&
    eq 28 d30 [1, 3, 5, 6, 7, 9, 10, 14, 15, 16, 17, 18, 21, 22, 24] && eq 29 d29 [3, 5, 6, 8, 9, 10, 11, 13, 15, 19, 22, 23, 24]

/-- The words of 30 bits of an LNAV unit, each behind the last two bits of the one before. -/
def lnavOk (l : List Bool) : Bool :=
  let n := (l.length - 2) / 30
  l.length == 30 * n + 2 && decide (0 < n) &&
    (List.range n).all (fun i => lnavWordOk ((l.drop (30 * i)).take 2) ((l.drop (30 * i + 2)).take 30))

/-- The Hamming code (85,77) of a GLONASS string, check bits β1 to β8 first (PRESUMED, as its interface control document has it): no error, or one
that the code corrects. -/
def hammingOk (l : List Bool) : Bool :=
  let data := (l.drop 8).zip ((List.range 86).filter (fun i => decide (2 < i) && !([4, 8, 16, 32, 64].contains i)))
  let c := (List.range 7).map (fun j => Bool.xor (nth l j false) ((data.filter (fun p => bitOf p.2 j)).foldl (fun a p => Bool.xor a p.1) false))
  let sum := l.foldl Bool.xor false
  l.length == 85 && (if c.any id then sum else !sum)

/-- Whether a unit's check passes (Table 6-1): LNAV parity, the BCH(15,11) syndrome of the words of D1 and D2, the Hamming code of GLONASS strings,
and CRC-24Q for the others (the polynomials PRESUMED, as the interface control documents have them). -/
def unitOk (sig : Nat) (l : List Bool) : Bool :=
  if sig = 0 ∨ sig = 6 then lnavOk l
  else if sig = 3 then decide (0 < l.length) && l.length % 15 == 0 && (List.range (l.length / 15)).all (fun i => bitRem 4 3 ((l.drop (15 * i)).take 15) == 0)
  else if sig = 5 then hammingOk l
  else decide (24 < l.length) && bitRem 24 0x864CFB l == 0

/-- Whether a unit is of those the engine decodes from a signal (Table 6-1): subframe, word, page, type or string by number. D2 comes from the
GEO satellites of BeiDou, whose numbers are PRESUMED. -/
def unitKnown (sig sv ty : Nat) : Bool :=
  if sig = 0 ∨ sig = 6 then decide (1 ≤ ty ∧ ty ≤ 5)
  else if sig = 1 ∨ sig = 7 ∨ sig = 4 then decide (1 ≤ ty ∧ ty ≤ 3)
  else if sig = 8 ∨ sig = 11 then [10, 11, 30, 33, 35, 37].contains ty
  else if sig = 2 then [1, 2, 3, 4, 5, 6, 10].contains ty
  else if sig = 9 then decide (1 ≤ ty ∧ ty ≤ 6)
  else if sig = 3 then decide (1 ≤ ty) && (if sv ≤ 5 ∨ 59 ≤ sv then decide (ty ≤ 10) else decide (ty ≤ 5))
  else if sig = 10 then [10, 11, 30, 32, 33, 34].contains ty
  else if sig = 5 then decide (1 ≤ ty ∧ ty ≤ 15)
  else false

/-- The two records of a slot with a new current one: the old current one becomes the previous (R127). -/
def State.ephReplace (s : State) (slot : Nat) (cur new : List Byte) (m : Nat) : State :=
  let s := if ephCrcOk cur then (s.vatWrite m (ephAddr slot + 256) cur).2 else s
  (s.vatWrite m (ephAddr slot) new).2

/-- Vat address of the message decode buffer of a slot (Table 6-2). Its first two bytes hold the IOD, the next the count of parts, from byte 4
a bit for each part held, from 16 the record as it fills; byte 512 is 1 while a SUSPECT record stands at 528 (DESIGN CHOICE: the manual gives
the area and no layout). -/
def navBuf (slot : Nat) : Nat := 0x06440000 + 1024 * slot

/-- A decoded ephemeris is compared and accepted, or marked SUSPECT (R127, R128). -/
def State.ephNew (s : State) (slot : Nat) (new : List Byte) : State :=
  let s := s.charge0 900
  let q := s.navRead (ephAddr slot) 256
  let cur := q.1
  let w := q.2.navRead (navBuf slot + 512) 272
  let s := w.2
  let suspect := leAt w.1 0 1 == 1 && w.1.drop 16 == new
  let t := s.taiQ
  let accept := fun (s : State) =>
    (((s.navWrite (navBuf slot + 512) [0]).ephReplace slot cur new 4).event 0x0501 slot (leAt new 4 2)).inc GNSSN.EPH_NEW_CNT
  let same := fun (r : List Byte) => (r.take 2 ++ r.drop 3).take 0xFB == (new.take 2 ++ new.drop 3).take 0xFB
  if ephCrcOk cur && leAt cur 2 1 == 1 && ephToe cur == ephToe new && !same cur then (accept s).event 0x0503 slot (leAt new 4 2)
  else if suspect then accept s
  else if ephCrcOk cur && ephFits cur t then
    let d := subQ (satPos new t) (satPos cur t)
    if 100 < dotQ d d then
      let s := s.navWrite (navBuf slot + 512) (leBytes 16 1 ++ new)
      (s.event 0x0502 slot (leAt new 4 2)).inc GNSSN.EPH_JUMP_CNT
    else accept s
  else accept s

/-- A part of an ephemeris joins those of the same satellite and IOD; the last one completes it (R127). -/
def State.ephPart (s : State) (slot iod part of_ off : Nat) (b : List Byte) : State :=
  let q := s.navRead (navBuf slot) 272
  let s := q.2
  let going := leAt q.1 0 2 == iod % 65536 && leAt q.1 4 4 != 0
  let rec0 := if going then q.1.drop 16
    else leBytes 1 (slotSystem slot) ++ leBytes 1 (slotSv slot) ++ leBytes 2 0 ++ leBytes 2 iod ++ List.replicate 250 0
  let rec1 := (rec0.take off ++ b ++ rec0.drop (off + b.length)).take 256
  let mask := putBit (if going then leAt q.1 4 4 else 0) (part % 32) true
  let done := of_ ≤ (bitsOf 32 mask).length
  let s := s.navWrite (navBuf slot) (leBytes 2 iod ++ leBytes 2 of_ ++ leBytes 12 (if done then 0 else mask) ++ rec1)
  if done then
    let body := rec1.take 0xFC
    s.ephNew slot (body ++ leBytes 4 (crc32 body))
  else s

/-- A decoded leap announcement arms a leap, or is held until its target is within range (R58). -/
def State.announceLeap (s : State) (sec dir : Nat) : State :=
  let u := sec * 65536000000000
  if s.flag TIME.TIME_STATUS_LEAP_ARMED ∧ s.targetUnits (s.get TIME.LEAP_TARGET) = u then s
  else if u ≤ s.units then s
  else if s.units + halfWrap < u then { s with time := { s.time with heldLeap := some ⟨u, dir⟩ } }
  else s.armLeap u dir (s.flag SHEET.SHEET_CFG_LEAP_LATE_POL) (s.isLate u) .auto

/-- The leap-second count of the reference system reaches TAI_UTC when LEAP_AUTO is 1, unless a host value stands, of which one that differs is
reported (R57, R134). -/
def State.takeUtc (s : State) (leap : Int) : State :=
  if s.flag TIME.TIME_STATUS_UTC_VALID && s.flag TIME.TIME_STATUS_UTC_SRC then
    if s.geti TIME.TAI_UTC = leap then s else s.event 0x0203 0 leap
  else if s.flag TIME.TIME_CFG_LEAP_AUTO then
    (s.puti TIME.TAI_UTC leap).puts [(TIME.TIME_STATUS_UTC_VALID, 1), (TIME.TIME_STATUS_UTC_SRC, 0)]
  else s

/-- What a checked unit brings is used (Table 6-1). -/
def State.navUse (s : State) (n : Nat) (item : NavItem) : State :=
  let sys := sigSystem (s.chSig n)
  match item with
  | .align e tx => { s with nav := { s.nav with align := setNth s.nav.align n (some (e, tx)) } }
  | .polarity inv => s.setChan n { s.chan n with half := false, invert := inv }
  | .eph sv iod part of_ off b =>
    match ephSlot sys sv with
    | some slot => s.ephPart slot iod part of_ off b
    | none => s
  | .almanac slot b => if slot < 165 ∧ b.length = 64 then s.navWrite (almAddr slot) b else s
  | .utc a0 a1 tot leap ann =>
    let s := s.globPut sys 0 8 (leSigned 8 a0 ++ leSigned 8 a1 ++ leBytes 8 tot ++ leSigned 4 leap)
    if sys = s.get GNSSN.SOL_CFG_REF_SYS then
      let s := s.takeUtc leap
      match ann with
      | some (sec, dir) => if s.flag TIME.TIME_CFG_LEAP_AUTO then s.announceLeap sec dir else s
      | none => s
    else s
  | .iono p => s.globPut sys 1 48 ((List.range 8).map (fun i => leSigned 4 (nth p i 0))).flatten
  | .offset y ps => s.globPut y 2 40 (leSigned 8 ps)
  | .other => s

/-- NAV_UNIT_DECODED (R57, R58, R124 to R128): a unit of a message of Table 6-1, after the decoding of that table, is checked; one that fails is
discarded and counted, and after two in a row that pass the channel is synchronised. -/
def runNavUnitDecoded (n ty : Nat) (raw : List Bool) (item : NavItem) (s : State) : State :=
  if 135 < n ∨ s.flag (GNSSC.CH_CTRL_ENABLE n) = false ∨ unitKnown (s.chSig n) (s.get (GNSSC.CH_SIG_SV n)) ty = false then s
  else
    let unit := if (s.chan n).invert then raw.map (!·) else raw
    if !unitOk (s.chSig n) unit then
      ({ s with nav := { s.nav with passes := setNth s.nav.passes n 0 } }).inc GNSSN.PARITY_FAIL_CNT
    else
      let k := nth s.nav.passes n 0 + 1
      let s := ({ s with nav := { s.nav with passes := setNth s.nav.passes n k } }).navUse n item
      let a := nth s.nav.align n none
      if a.isSome ∧ (2 ≤ k ∨ (nth s.nav.sync n none).isSome = true) then { s with nav := { s.nav with sync := setNth s.nav.sync n a } } else s

/-- EPH_LOAD (R128): records whose CRC holds are stored with SOURCE 1; a bad one ends the command with INVALID. -/
def runEphLoad (h : Hdr) (count addr : Nat) (d : DmaIn) (s : State) : State :=
  s.command h 0x50 false (.ephLoad h count addr d) (count * 120 + dmaStock (256 * count)) (fun s =>
    if !rangeOk h addr (256 * count) then s.complete h 0x50 stINVALID 0
    else
      match s.dataIn h addr (256 * count) d with
      | none => (s.inc HIF.DMA_ERR_CNT).complete h 0x50 stDMA 0
      | some b =>
        let r := (List.range count).foldl (fun (acc : Nat × Bool × State) i =>
          let rec_ := (b.drop (256 * i)).take 256
          match ephSlot (leAt rec_ 0 1) (leAt rec_ 1 1) with
          | some slot =>
            if ephCrcOk rec_ then
              let q := acc.2.2.navRead (ephAddr slot) 256
              let body := rec_.take 2 ++ leBytes 1 1 ++ (rec_.drop 3).take 0xF9
              let s := q.2.ephReplace slot q.1 (body ++ leBytes 4 (crc32 body)) 11
              (acc.1 + 1, acc.2.1, (s.event 0x0501 slot (leAt rec_ 4 2)).inc GNSSN.EPH_NEW_CNT)
            else (acc.1, true, acc.2.2)
          | none => (acc.1, true, acc.2.2)) (0, false, s)
        let s := r.2.2.journalCmd h 0x50 count addr
        s.complete h 0x50 (if r.2.1 then stINVALID else stOK) r.1)

/-- ALM_LOAD (R126, R145): records in slot order from slot 0. -/
def runAlmLoad (h : Hdr) (count addr : Nat) (d : DmaIn) (s : State) : State :=
  s.command h 0x51 false (.almLoad h count addr d) (count * 120 + dmaStock (64 * count)) (fun s =>
    if 165 < count ∨ rangeOk h addr (64 * count) = false then s.complete h 0x51 stINVALID 0
    else
      match s.dataIn h addr (64 * count) d with
      | none => (s.inc HIF.DMA_ERR_CNT).complete h 0x51 stDMA 0
      | some b =>
        match s.vatWrite 11 (almAddr 0) b with
        | (.ok, s) => (s.journalCmd h 0x51 count addr).complete h 0x51 stOK count
        | (_, s) => s.complete h 0x51 stDMA 0)

/-- EPH_READ (R126, R145): the current and the previous record of a slot, 512 bytes. -/
def runEphRead (h : Hdr) (slot addr : Nat) (s : State) : State :=
  s.command h 0x52 true (.ephRead h slot addr) (dmaStock 512) (fun s =>
    if 164 < slot then s.complete h 0x52 stINVALID 0 else s.vatOut h 0x52 addr (ephAddr slot) 512 0)

/-- NAV_RESET (R145): ephemerides, almanac, parameters and synchronisation of the systems in the mask are discarded. -/
def runNavReset (h : Hdr) (mask : Nat) (s : State) : State :=
  s.command h 0x53 false (.navReset h mask) 0 (fun s =>
    if 1 < s.mode then s.complete h 0x53 stMODE 0
    else
      let s := (List.range 165).foldl (fun s i =>
        if bitOf mask (slotSystem i) then
          ((s.navWrite (ephAddr i) (List.replicate 512 0)).navWrite (almAddr i) (List.replicate 64 0)).navWrite (navBuf i) (List.replicate 1024 0)
        else s) s
      let s := (List.range 5).foldl (fun s i => if bitOf mask i then s.navWrite (globAddr i) (List.replicate 128 0) else s) s
      let keep := fun (n : Nat) => !bitOf mask (sigSystem (s.chSig n))
      let s := { s with nav := { s.nav with
        smooth := s.nav.smooth.filter (fun p => !bitOf mask (slotSystem p.slot))
        align := (List.range 136).map (fun i => if keep i then nth s.nav.align i none else none)
        sync := (List.range 136).map (fun i => if keep i then nth s.nav.sync i none else none)
        passes := (List.range 136).map (fun i => if keep i then nth s.nav.passes i 0 else 0) } }
      (s.showNav.journalCmd h 0x53 mask 0).complete h 0x53 stOK 0)

end Sys2Proof.Machine
end

