-- ==== Sys2Proof/Machine/Refs.lean ====
section
/-! DEFINITION. Reference slots: qualification, quality levels, slopes and disagreement (chapter 7). -/

namespace Sys2Proof.Machine

/-! ### Slots (R148, R149) -/

/-- TIME slots (Table 7-1). -/
def timeSlot (n : Nat) : Bool := [0, 1, 2, 13, 15].contains n

/-- Slots measured on edges (Table 7-1). -/
def edgeSlot (n : Nat) : Bool := (decide (1 ≤ n) && decide (n ≤ 12)) || n == 14

/-- A slot's store. -/
def State.slot (s : State) (n : Nat) : RefSlot := nth s.ref.slots n {}

/-- The state with a slot's store replaced. -/
def State.setSlot (s : State) (n : Nat) (r : RefSlot) : State := { s with ref := { s.ref with slots := setNth s.ref.slots n r } }

/-- The latest θ of a slot in ps (R158). -/
def State.slotTheta (s : State) (n : Nat) : Int := ((s.slot n).last.map (·.2)).getD 0

/-- The state of a slot (Table 7-2). -/
def State.slotState (s : State) (n : Nat) : Nat := s.get (REFSEL.REF_STAT_STATE n)

/-- Whether a slot is QUALIFIED. -/
def State.qualified (s : State) (n : Nat) : Bool := s.slotState n == 4

/-- Whether a slot is locked out (R154). -/
def State.lockedOut (s : State) (n : Nat) : Bool := bitOf (s.getT REFSEL.REF_OVERRIDE_LOCKOUT) n

/-- Whether REFSEL is frozen (R163, R194). -/
def State.refFrozen (s : State) : Bool := !s.flag SYN.SYN_STATUS_SP_IN_SERVICE

/-! ### Quality levels (R164, R165) -/

/-- Rank of a quality level, best first; 8 is DNU or DUS (Table 7-5). -/
def qlRank (option2 : Bool) (ssm essm : Nat) : Nat :=
  if option2 then ([1, 0, 7, 4, 0xD, 0xA, 0xC, 0xE].idxOf? ssm).getD 8
  else if ssm = 2 then (if essm = 0x21 then 0 else if essm = 0x20 then 1 else if essm = 0x23 then 2 else 3)
  else if ssm = 4 then 4 else if ssm = 8 then 5
  else if ssm = 0xB then (if essm = 0x22 then 6 else 7) else 8

/-- Whether a slot is a SyncE slot. -/
def synceSlot (n : Nat) : Bool := decide (5 ≤ n) && decide (n ≤ 12)

/-- Rank of a slot's quality level; a timed-out one ranks as DNU (R164). -/
def State.slotQl (s : State) (n : Nat) : Nat :=
  if synceSlot n then
    if (s.slot n).qlOut then 8
    else qlRank (s.flag REFSEL.REFSEL_CFG_QL_OPTION) (s.get (REFSEL.REF_STAT_RX_SSM n)) (s.get (REFSEL.REF_STAT_RX_ESSM n))
  else qlRank (s.flag REFSEL.REFSEL_CFG_QL_OPTION) (s.get (REFSEL.REF_CFG_QL_ASSIGN n)) 0xFF

/-! ### Slopes (R151, R159) -/

/-- Least-squares slope in ps per s over measurements at or after a time, none where it is not defined. -/
def slopeOf (l : List (Int × Int)) (since : Int) : Option Rat :=
  let l := l.filter (fun p => decide (since ≤ p.1))
  let n : Rat := l.length
  let t0 : Int := since
  let ts := l.map (fun p => (((p.1 - t0 : Int) : Rat) / (secU : Rat), ((p.2 : Int) : Rat)))
  let st := (ts.map (·.1)).foldl (· + ·) 0
  let sy := (ts.map (·.2)).foldl (· + ·) 0
  let stt := (ts.map (fun p => p.1 * p.1)).foldl (· + ·) 0
  let sty := (ts.map (fun p => p.1 * p.2)).foldl (· + ·) 0
  let den := n * stt - st * st
  if den = 0 then none else some ((n * sty - st * sy) / den)

/-- Slope of a slot over the last so many seconds. -/
def State.slotSlope (s : State) (n secs : Nat) : Option Rat := slopeOf (s.slot n).hist (s.mono - (secs * secU : Nat))

/-! ### Criteria (R151) -/

/-- Whether no measurement has arrived within LOS_MS. -/
def State.slotLos (s : State) (n : Nat) : Bool :=
  match (s.slot n).arr with
  | none => true
  | some t => decide ((s.get (REFSEL.REF_CFG_LOS_MS n) * 65536000000 : Nat) < s.mono - t)

/-- The further condition of Table 7-1, other than ToD and QL. -/
def State.slotSource (s : State) (n : Nat) : Bool :=
  if synceSlot n then s.get (MAC.PORT_STATUS_LINK (n - 5)) == 2
  else if n = 13 then
    match s.ref.up with
    | some u => decide (u.cls ≤ s.get REFSEL.PTP_CFG)
    | none => false
  else if n = 14 then s.get HOLD.ATOM_STATUS_STATE == 3 && !s.flag HOLD.HOLD_CFG_OSC_SRC
  else if n = 15 then decide (2 ≤ s.get COUCH.PAIR_STATUS_STATE) && decide (s.get COUCH.PAIR_STATUS_STATE ≤ 4)
  else true

/-- The mask of criteria that a slot fails: bit 0 LOS to bit 7 CONFIG. -/
def State.slotFails (s : State) (n : Nat) : Nat :=
  let r := s.slot n
  let c := fun (b : Bool) (i : Nat) => if b then 2 ^ i else 0
  let win := s.get REFSEL.QUAL_CFG_FREQ_WIN_S * secU
  let short := match r.first with
    | none => true
    | some t => decide (s.mono - t < win)
  c (s.slotLos n) 0 +
  c (short || !r.fitted || decide ((s.get REFSEL.FREQ_LIMIT : Int) < absI (s.geti (REFSEL.REF_FREQ n)))) 1 +
  c (timeSlot n && r.jump) 2 +
  c (!s.slotSource n) 3 +
  c ((n == 1 || n == 2) && (!r.todOk || (s.flag (REFSEL.TOD_CFG_UTC (n - 1)) && !s.flag TIME.TIME_STATUS_UTC_VALID))) 4 +
  c (s.flag REFSEL.REFSEL_CFG_QL_ENABLE && s.slotQl n == 8) 5 +
  c ((n == 13 && s.mode != 3) || (n == 15 && s.mode != 5)) 6 +
  c (edgeSlot n && (s.get (TDC.WIN_CFG_OWNER (s.get (REFSEL.REF_CFG_WIN n))) != 1 || s.get (REFSEL.REF_PERIOD n) == 0)) 7

/-- A slot that fails LOS starts its FREQ window again. -/
def State.restartWindow (s : State) (n : Nat) : State :=
  s.setSlot n { s.slot n with first := none, hist := [], fitted := false }

/-! ### States of a slot (R152, R153) -/

/-- The journal entry and event of a change to or from QUALIFIED (R153). -/
def State.slotEvent (s : State) (n code state : Nat) : State :=
  s.paidEvent code n state (s.get (REFSEL.REF_STAT_CAUSE n)) (ofS 64 (s.geti (REFSEL.REF_PHASE n)))

/-- A slot moves to a state, with its timer. -/
def State.slotGo (s : State) (n state timer : Nat) : State :=
  let s := if s.slotState n = 1 ∧ state ≠ 1 then s.setSlot n { s.slot n with base := none } else s
  s.puts [(REFSEL.REF_STAT_STATE n, state), (REFSEL.REF_TIMER n, timer)]

/-- A slot becomes QUALIFIED. -/
def State.slotQualify (s : State) (n : Nat) : State :=
  ((s.slotGo n 4 0).putB (REFSEL.REF_STAT_ARBITRATED n) false).slotEvent n 0x0601 4

/-- A criterion of a slot fails, or arbitration rejects it. -/
def State.slotFail (s : State) (n : Nat) : State :=
  let was := s.slotState n
  if was = 4 then
    ((s.setSlot n { s.slot n with qualBefore := true }).slotGo n 1 0).slotEvent n 0x0602 1
  else s.slotGo n 1 0

/-- The criteria of a slot are judged (R151): CAUSE shows those that fail, and a slot past UNQUALIFIED fails with them. -/
def State.slotJudge (s : State) (n : Nat) : State :=
  if s.slotState n = 0 then s
  else
    let s := if s.slotLos n then s.restartWindow n else s
    let m := s.slotFails n
    let s := (s.put (REFSEL.REF_STAT_CAUSE n) m).setSlot n { s.slot n with fail := m }
    let s := if edgeSlot n && !bitOf m 7 then
        s.setSlot n { s.slot n with chan := some (s.get (TDC.WIN_CFG_START_CH (s.get (REFSEL.REF_CFG_WIN n)))) }
      else s
    if m ≠ 0 ∧ 2 ≤ s.slotState n then s.slotFail n else s

/-- A slot leaves DISABLED (Table 7-2): never qualified, its window empty. -/
def State.slotEnable (s : State) (n : Nat) : State :=
  if s.slotState n = 0 then (s.setSlot n { msg := (s.slot n).msg, qlOut := (s.slot n).qlOut, qlAt := (s.slot n).qlAt }).slotGo n 1 0 else s

/-- A slot returns to DISABLED and leaves selection and assist (Table 7-2). -/
def State.slotDisable (s : State) (n : Nat) : State :=
  (s.setSlot n { s.slot n with wtrClear := false }).puts
    [(REFSEL.REF_STAT_STATE n, 0), (REFSEL.REF_TIMER n, 0), (REFSEL.REF_STAT_CAUSE n, 0), (REFSEL.REF_STAT_ARBITRATED n, 0)]

/-- What a write of REF_CFGn does beside storing its fields. -/
def State.afterRefCfg (s : State) (n : Nat) : State :=
  let s := if synceSlot n then s else s.put (REFSEL.REF_STAT_RX_SSM n) (s.get (REFSEL.REF_CFG_QL_ASSIGN n))
  if s.flag (REFSEL.REF_CFG_ENABLE n) then s.slotEnable n else s.slotDisable n

/-- A write of REF_CFGn. -/
def State.refCfgWrite (s : State) (o : Origin) (n v : Nat) : State :=
  s.busStore o (0x110100 + 0x20 * n) v true true (fun s => s.afterRefCfg n)

/-- REF_ENABLE (R152): a write of REF_CFGn with ENABLE 1. -/
def runRefEnable (o : Origin) (slot v : Nat) (s : State) : State :=
  if 16 ≤ slot then s else s.refCfgWrite o slot (if v % 2 = 1 then v else v + 1)

/-- REF_DISABLE (R152): a write of REF_CFGn with ENABLE 0. -/
def runRefDisable (o : Origin) (slot v : Nat) (s : State) : State :=
  if 16 ≤ slot then s else s.refCfgWrite o slot (if v % 2 = 1 then v - 1 else v)

/-! ### Measurements (R149, R150) -/

/-- The count of units nearest the present one that a short time names. -/
def State.longTime (s : State) (t : Nat) : Int := (s.units : Int) + sdiff t s.units

/-- A measurement of a slot is taken in (R149, R151): θ in ps at an event time, both on the counter. -/
def State.takeTheta (s : State) (n : Nat) (event theta : Int) : State :=
  let r := s.slot n
  let t := event - s.time.shift
  let far : Bool := match r.last with
    | none => false
    | some (t0, th0) =>
      let pred : Rat := (th0 : Rat) + (s.geti (REFSEL.REF_FREQ n) : Rat) * (((t - t0 : Int) : Rat) / (secU : Rat))
      decide ((s.get REFSEL.JUMP_LIMIT : Rat) < absQ ((theta : Rat) - pred))
  let keep := s.mono - ((max (s.get REFSEL.QUAL_CFG_FREQ_WIN_S) (s.get REFSEL.DIS_CFG_DIS_WIN_S) + 1) * secU : Nat)
  let s := s.setSlot n { r with
    hist := (t, theta) :: r.hist.filter (fun p => decide (keep ≤ p.1))
    first := some (r.first.getD t)
    arr := some s.mono
    last := some (t, theta)
    jump := far }
  let s := (s.charge0 15).puti (REFSEL.REF_PHASE n) (satS 40 theta)
  let sel := s.flag REFSEL.REFSEL_STATUS_SEL_VALID && s.get REFSEL.REFSEL_STATUS_SELECTED == n
  let ast := s.flag REFSEL.REFSEL_STATUS_ASSIST_VALID && s.get REFSEL.REFSEL_STATUS_ASSIST == n
  let s := if ast then { s with ref := { s.ref with newAst := true } } else s
  if !sel then s
  else
    let e := absI (theta - s.ref.pbo)
    let near := decide (e ≤ (s.get REFSEL.LOCK_CFG_LOCK_PHASE * 1000 : Nat))
    let beyond := decide ((s.get REFSEL.UNLOCK_CFG * 1000 : Nat) < e)
    let lf := if near then some (s.ref.lockFrom.getD t) else none
    let met := match lf with
      | some t0 => decide ((s.get REFSEL.LOCK_CFG_LOCK_S * secU : Nat) ≤ t - t0)
      | none => false
    { s with ref := { s.ref with newSel := true, lockFrom := lf, lockMet := met, unlocks := if beyond then s.ref.unlocks + 1 else 0 } }

/-- An edge of a slot's source arrives without a θ: it has arrived, and no ToD message names its second (R150). -/
def State.noTheta (s : State) (n : Nat) : State :=
  (s.charge0 15).setSlot n { s.slot n with arr := some s.mono, todOk := false }

/-- The oldest record of the window that a slot names, among those delivered to REFSEL in this sheet (R88). -/
def State.slotRecord (s : State) (n : Nat) : Option MeasRec :=
  s.tdc.inbox.find? (fun r => r.owner == 1 && r.window == s.get (REFSEL.REF_CFG_WIN n) && !bitOf r.flags flStartMissing)

/-- An edge of a slot's source is measured (R149): the record's start. -/
def State.edgeMeasured (s : State) (n : Nat) (r : MeasRec) : State :=
  let s := { s with tdc := { s.tdc with inbox := s.tdc.inbox.erase r } }
  let e := s.longTime r.startTime
  let p : Nat := s.get (REFSEL.REF_PERIOD n)
  if timeSlot n then
    let i := n - 1
    match (s.slot n).msg with
    | none => s.noTheta n
    | some m =>
      let off := if s.flag (REFSEL.TOD_CFG_UTC i) then s.geti TIME.TAI_UTC + (if m.leap then 1 else 0) else 0
      let theta := psOfUnits (e - ((m.sec : Int) + off) * secU)
      let s := s.takeTheta n e theta
      s.setSlot n { s.slot n with msg := none, todOk := decide (absI theta < 500000000000) }
  else if p = 0 then s
  else
    let a := (s.slot n).base.getD e
    let s := s.setSlot n { s.slot n with base := some a }
    s.takeTheta n e (psOfUnits (e - (a + roundDiv (e - a) p * p)))

/-- SLOT_MEASUREMENT (R149 to R151, R163): the measurement that waits for a slot is taken in and the criteria are judged; a disabled
slot and a frozen REFSEL discard it. -/
def runSlotMeasurement (slot : Nat) (s : State) : State :=
  let drop := s.refFrozen || s.slotState slot == 0
  if slot = 0 then
    match s.nav.deliver with
    | none => s
    | some sol =>
      if sol.sheet = s.sheetNo then s
      else
        let s := { s with nav := { s.nav with deliver := none } }
        if drop then s
        else (({ s with nav := { s.nav with forBound := some sol } }).takeTheta 0 sol.epoch (psOfUnits sol.offset)).slotJudge 0
  else if slot = 13 then
    match s.ref.up with
    | some u =>
      if !s.ref.upNew then s
      else
        let s := { s with ref := { s.ref with upNew := false } }
        if drop then s
        else (({ s with ref := { s.ref with upUsed := some u } }).takeTheta 13 (s.longTime u.event) u.theta).slotJudge 13
    | none => s
  else if slot = 15 then
    match s.ref.peer with
    | some u =>
      if !s.ref.peerNew then s
      else
        let s := { s with ref := { s.ref with peerNew := false } }
        if drop then s
        else (({ s with ref := { s.ref with peerUsed := some u } }).takeTheta 15 (s.longTime u.event) u.theta).slotJudge 15
    | none => s
  else if 15 < slot then s
  else
    match s.slotRecord slot with
    | none => s
    | some r =>
      if drop then
        ({ s with tdc := { s.tdc with inbox := s.tdc.inbox.erase r } }).setSlot slot { s.slot slot with msg := none }
      else (s.edgeMeasured slot r).slotJudge slot

/-- A ToD frame's seconds and LEAP_SECOND, if the frame holds (Table 9-4). -/
def todParse (f : List Byte) : Option TodMsg :=
  if f.length == 22 && beNat (f.take 2) == 0xC53A && leAt f 2 1 == 1 && leAt f 3 1 == 16 &&
      beNat ((f.drop 20).take 2) == crc16 ((f.drop 2).take 18) then
    some ⟨beNat ((f.drop 4).take 6), bitOf (leAt f 12 1) 4⟩
  else none

/-- TOD_IN_MESSAGE (R150): a valid message, sent at the rate in TOD_CFG, applies to the next 1PPS edge. `baud` is in units of 100 baud. -/
def runTodInMessage (input baud : Nat) (frame : List Byte) (s : State) : State :=
  if 2 ≤ input ∨ baud ≠ s.get (REFSEL.TOD_CFG_BAUD input) then s
  else if !s.flag (REFSEL.TOD_CFG_ENABLE input) then s
  else
    match todParse frame with
    | none => s
    | some m => s.setSlot (input + 1) { s.slot (input + 1) with msg := some m }

/-! ### Whole seconds (R151, R152) -/

/-- A slot at a whole second: its slope, its criteria, and its timer. -/
def State.slotSecond (s : State) (n : Nat) : State :=
  if s.slotState n = 0 then s
  else
    let r := s.slot n
    let since := max (s.mono - (s.get REFSEL.QUAL_CFG_FREQ_WIN_S * secU : Nat)) (r.first.getD s.mono)
    let s := match slopeOf r.hist since with
      | some f => (s.puti (REFSEL.REF_FREQ n) (satS 32 (roundQ f))).setSlot n { r with fitted := true }
      | none => s
    let s := s.slotJudge n
    let st := s.slotState n
    if st = 1 ∧ (s.slot n).fail = 0 then s.slotGo n 2 (s.get REFSEL.QUAL_CFG_QUAL_S)
    else if st = 2 ∨ st = 3 then s.put (REFSEL.REF_TIMER n) (s.get (REFSEL.REF_TIMER n) - 1)
    else s

/-- The arbiter of a pair (R159): QUALIFIED, outside the pair, not SUSPECT, lowest RANK and then lowest number. -/
def State.arbiter (s : State) (a b : Nat) : Option Nat :=
  ((List.range 16).filter (fun n => n != a && n != b && s.qualified n && !s.flag (REFSEL.REF_STAT_SUSPECT n))).foldl
    (fun (o : Option Nat) n =>
      match o with
      | none => some n
      | some m => if s.get (REFSEL.REF_CFG_RANK n) < s.get (REFSEL.REF_CFG_RANK m) then some n else some m) none

/-- What SUSPECT, DISAGREE and DIS_WIDEN show of the pairs in disagreement. -/
def State.showPairs (s : State) (l : List DisPair) : State :=
  let s := { s with ref := { s.ref with pairs := l } }
  let s := (List.range 16).foldl (fun s n => s.putB (REFSEL.REF_STAT_SUSPECT n) (l.any (fun p => p.a == n || p.b == n))) s
  s.puts [(REFSEL.REFSEL_STATUS_DISAGREE, if l.isEmpty then 0 else 1),
    (REFSEL.DIS_WIDEN, satN 40 ((l.map (fun (p : DisPair) => p.widen)).foldl max 0))]

/-- A pair of the selected slot and another of its rank is judged (R159). -/
def State.judgePair (s : State) (a q : Nat) : State :=
  let win : Nat := s.get REFSEL.DIS_CFG_DIS_WIN_S
  let lim : Rat := (s.get REFSEL.DIS_CFG_DIS_LIMIT : Rat)
  let gone := s.ref.pairs.filter (fun p => !(p.a == a && p.b == q))
  match s.slotSlope a win, s.slotSlope q win with
  | some fa, some fq =>
    let df := absQ (fa - fq)
    if df ≤ lim then s.showPairs gone
    else
      let judged : Option Nat := match s.arbiter a q with
        | none => none
        | some m =>
          match s.slotSlope m win with
          | none => none
          | some fm =>
            let da := absQ (fa - fm)
            let dq := absQ (fq - fm)
            if da = dq ∨ (lim < da ∧ lim < dq) then none else if dq < da then some a else some q
      match judged with
      | some loser =>
        let s := (s.putB (REFSEL.REF_STAT_ARBITRATED loser) true).slotFail loser
        let s := if loser = a then { s with ref := { s.ref with wanted := some q } } else s
        s.showPairs gone
      | none =>
        let w := (roundQ (df * (win : Rat) / 2)).toNat
        let s := s.showPairs (gone ++ [DisPair.mk a q w])
        (s.inc REFSEL.DISAGREE_CNT).paidEvent 0x0604 q (w : Int) (ofS 64 (roundQ df)) w
  | _, _ => s.showPairs gone

/-- Pairs that hold a slot no longer QUALIFIED end (R159). -/
def State.prunePairs (s : State) : State :=
  let l := s.ref.pairs.filter (fun p => s.qualified p.a && s.qualified p.b)
  if l.length = s.ref.pairs.length then s else s.showPairs l

/-- Pairs whose slopes have come back within DIS_LIMIT of each other end (R159). -/
def State.agreedPairs (s : State) : State :=
  let win : Nat := s.get REFSEL.DIS_CFG_DIS_WIN_S
  let apart := fun (p : DisPair) =>
    match s.slotSlope p.a win, s.slotSlope p.b win with
    | some x, some y => decide ((s.get REFSEL.DIS_CFG_DIS_LIMIT : Rat) < absQ (x - y))
    | _, _ => true
  let l := s.ref.pairs.filter apart
  if l.length = s.ref.pairs.length then s else s.showPairs l

/-- REF_WHOLE_SECOND (R151, R152, R159, R163): slopes, criteria, timers and disagreements of every slot; nothing while frozen. -/
def runRefWholeSecond (s : State) : State :=
  if s.refFrozen then s
  else
    let s := (List.range 16).foldl State.slotSecond s
    let s := s.prunePairs.agreedPairs
    if !s.flag REFSEL.REFSEL_STATUS_SEL_VALID then s
    else
      let a : Nat := s.get REFSEL.REFSEL_STATUS_SELECTED
      (List.range 16).foldl (fun s q =>
        if q != a && s.qualified a && s.qualified q && s.get (REFSEL.REF_CFG_RANK q) == s.get (REFSEL.REF_CFG_RANK a)
        then s.judgePair a q else s) s

/-- SLOT_TIMER_EXPIRE (R152): a slot whose timer has run out moves on. -/
def runSlotTimerExpire (slot : Nat) (s : State) : State :=
  if s.refFrozen ∨ 15 < slot ∨ s.get (REFSEL.REF_TIMER slot) ≠ 0 then s
  else if s.slotState slot = 2 then
    if (s.slot slot).qualBefore ∧ s.get REFSEL.QUAL_CFG_WTR_S ≠ 0 then s.slotGo slot 3 (s.get REFSEL.QUAL_CFG_WTR_S)
    else s.slotQualify slot
  else if s.slotState slot = 3 then s.slotQualify slot
  else s

/-- ESMC_QL_TIMEOUT (R164): the QL of a SyncE slot is failed; its criteria are judged at the next measurement or whole second (R151). -/
def runEsmcQlTimeout (slot : Nat) (s : State) : State :=
  if synceSlot slot && (s.slot slot).qlAt.all (fun t => s.reaches (t + (5 * secU : Nat))) then s.setSlot slot { s.slot slot with qlOut := true } else s

/-! ### Commands (R155, R169) -/

/-- REF_SELECT (R155): the slot named is taken by the next selection slice. -/
def runRefSelect (h : Hdr) (slot : Nat) (s : State) : State :=
  s.command h 0x60 false (.refSelect h slot) 0 (fun s =>
    if 15 < slot then s.complete h 0x60 stINVALID 0
    else if s.mode = 5 ∨ s.mode = 4 then s.complete h 0x60 stMODE 0
    else if !timeSlot slot || !s.qualified slot || s.lockedOut slot ||
        (s.getT REFSEL.REF_OVERRIDE_FORCE_EN == 1 && s.getT REFSEL.REF_OVERRIDE_FORCE_SLOT != slot) then
      s.complete h 0x60 stNOTREADY 0
    else
      let s := { s with ref := { s.ref with wanted := some slot } }
      (s.journalCmd h 0x60 slot 0).complete h 0x60 stOK 0)

/-- WTR_CLEAR (R169): a slot in WAIT_RESTORE goes to QUALIFIED at the next selection slice. -/
def runWtrClear (h : Hdr) (slot : Nat) (s : State) : State :=
  s.command h 0x61 false (.wtrClear h slot) 0 (fun s =>
    if 15 < slot then s.complete h 0x61 stINVALID 0
    else if s.slotState slot ≠ 3 then s.complete h 0x61 stNOTREADY 0
    else
      let s := s.setSlot slot { s.slot slot with wtrClear := true }
      (s.journalCmd h 0x61 slot 0).complete h 0x61 stOK 0)

end Sys2Proof.Machine
end

