-- ==== Sys2Proof/Machine/Hold.lean ====
section
/-! DEFINITION. Holdover and the atomic port: history, model, holdover error, oscillator health, steering, the module (chapter 8). -/

namespace Sys2Proof.Machine

/-! ### Temperature (R175) -/

/-- The die temperature that the sheet brings. -/
def State.dieTempIs (s : State) (t : Int) : State := { s with hold := { s.hold with dieTemp := t } }

/-- The temperature in 1/16 °C from the source in TEMP_SRC, none for source 0. -/
def State.temp16 (s : State) : Option Int :=
  let src := s.get HOLD.HOLD_CFG_TEMP_SRC
  if src = 0 then none
  else if src = 1 then some s.hold.dieTemp
  else if src = 2 then some (s.geti HOLD.HOLD_TEMP)
  else some (s.geti HOLD.ATOM_TEMP)

/-- Whether the temperature is stale: a host or module temperature older than 10 s, or never given. -/
def State.tempStale (s : State) : Bool :=
  let old := fun (t : Option Int) => match t with
    | none => true
    | some t => decide ((10 * secU : Nat) < s.mono - t)
  let src := s.get HOLD.HOLD_CFG_TEMP_SRC
  if src = 2 then old s.hold.hostAt else if src = 3 then old s.hold.atomAt else false

/-- TEMP_STALE shows staleness. -/
def State.showStale (s : State) : State := s.putB HOLD.HOLD_STATUS_TEMP_STALE s.tempStale

/-! ### The pull (R180, R181) -/

/-- The level of EFC_OUT in volts: 0.100 V at code 0 and 3.000 V at the highest code. No squelch and no mode changes it (R500). -/
def State.efcVolts (s : State) : Rat := 1 / 10 + (s.get HOLD.EFC_CODE : Rat) * (29 / 10) / (2 ^ 24 - 1)

/-- The steer mode that acts: mode 2 only while OSC_SRC is 1. -/
def State.steerMode (s : State) : Nat :=
  let m := s.get HOLD.HOLD_CFG_STEER_MODE
  if m = 2 then (if s.flag HOLD.HOLD_CFG_OSC_SRC then 2 else 0) else if m = 1 then 1 else 0

/-- p (R181, R186). -/
def State.pullNow (s : State) : Int :=
  let m := s.steerMode
  if m = 1 then ((s.get HOLD.EFC_CODE : Int) - s.get HOLD.EFC_BASE) * s.geti HOLD.EFC_SENS
  else if m = 2 then s.hold.atomPull else 0

/-- PULL and STEER_CFG_BAD show the pull in force. -/
def State.showPull (s : State) : State :=
  (s.puti HOLD.PULL (satS 40 s.pullNow)).putB HOLD.HOLD_STATUS_STEER_CFG_BAD
    (s.get HOLD.HOLD_CFG_STEER_MODE == 2 && !s.flag HOLD.HOLD_CFG_OSC_SRC)

/-- The DPLL term of y is lowered by part of the correction: through the assist with an assist in use, else through integ
(R180). -/
def State.lowerDpll (s : State) (d : Int) : State :=
  let q : Rat := (d : Rat) / 1024
  let s := if s.flag REFSEL.REFSEL_STATUS_ASSIST_VALID then { s with ref := { s.ref with assist := s.ref.assist - q } }
           else { s with ref := { s.ref with integ := s.ref.integ + q } }
  s.puti REFSEL.DPLL_CTRL (satS 40 (s.geti REFSEL.DPLL_CTRL - d))

/-! ### The history (R170 to R172) -/

/-- Seconds in a bin: L. -/
def State.binLen (s : State) : Nat := 2 ^ (s.get HOLD.HOLD_CFG_HIST_LOG2 - 12)

/-- Vat address of the record of a bin, by its START: a ring of W ÷ L records. -/
def State.binAddr (s : State) (start : Nat) : Nat :=
  0x07800000 + 16 * ((start / s.binLen) % (2 ^ s.get HOLD.HOLD_CFG_HIST_LOG2 / s.binLen))

/-- The 16 bytes of a bin record (Table 8-1). -/
def binBytes16 (start count : Nat) (u temp : Int) (flags : Nat) : List Byte :=
  leBytes 6 start ++ leBytes 2 count ++ leBytes 5 (ofS 40 u) ++ leBytes 2 (ofS 16 temp) ++ leBytes 1 flags

/-- Whole TAI seconds at the present edge. -/
def State.edgeSec (s : State) : Nat := s.time.edge / secU

/-- Usable samples with a skip window in seconds (R172). -/
def State.usable (s : State) (skip : Nat) : Nat :=
  ((s.hold.bins.filter (fun b => decide ((skip + b.lastAt) * secU < s.time.edge))).map (fun (b : HistBin) => b.count)).foldl (· + ·) 0

/-- HIST_USABLE_S and HIST_VALID show the history (R172). -/
def State.showHist (s : State) : State :=
  let n := s.usable (s.get HOLD.SKIP_CFG_SKIP_S)
  (s.put HOLD.HIST_USABLE_S (satN 23 n)).putB HOLD.HOLD_STATUS_HIST_VALID (decide (s.get HOLD.SKIP_CFG_HIST_MIN_S ≤ n))

/-- The history is emptied, and the emptying is journaled (R171). -/
def State.emptyHist (s : State) : State :=
  let n := s.hold.bins.length
  let s := { s with hold := { s.hold with bins := [], sums := {}, prev := none } }
  (s.journal .auto 3 0 n 0 0).showHist

/-- A sample joins the bin of the second it averages, and the bin's record is written (R171, R172, Table 8-1). -/
def State.storeSample (s : State) (sec : Nat) (u temp : Rat) (valid asst : Bool) : State :=
  let start := (sec - 1) / s.binLen * s.binLen
  let opened := s.hold.bins.getLast?.any (fun b => b.start == start)
  let old : BinSum := if opened then s.hold.sums else {}
  let sums : BinSum := ⟨old.u + u, old.temp + temp, old.tempValid && valid, old.assisted || asst⟩
  let n := if opened then (s.hold.bins.getLast?.map (fun (b : HistBin) => b.count)).getD 0 + 1 else 1
  let bins := (if opened then s.hold.bins.dropLast else s.hold.bins) ++ [HistBin.mk start n sec]
  let src := s.get HOLD.HOLD_CFG_TEMP_SRC
  let rec_ := binBytes16 start n (roundQ (sums.u / (n : Rat))) (if src = 0 then 0 else roundQ (sums.temp / (n : Rat)))
    ((if src ≠ 0 ∧ sums.tempValid then 1 else 0) + (if sums.assisted then 2 else 0))
  let s := { s with hold := { s.hold with bins := bins, sums := sums } }
  (s.vatWrite 5 (s.binAddr start) rec_).2

/-- Bins older than W are dropped: with the bin of the second that ended, at most W ÷ L are held (R171). -/
def State.ageBins (s : State) (sec : Nat) : State :=
  let w := 2 ^ s.get HOLD.HOLD_CFG_HIST_LOG2
  let l := s.binLen
  { s with hold := { s.hold with bins := s.hold.bins.filter (fun b => decide ((sec - 1) / l * l < b.start + w)) } }

/-! ### Failure of the oscillator (R178) -/

/-- The oscillator is declared failed: OSC_FAIL, its count and event, the history emptied; the second in progress gives no sample (R170). -/
def State.oscFail (s : State) : State :=
  let s := { s with hold := { s.hold with bad := true, goodS := 0, ok := false } }
  if s.flag HOLD.HOLD_STATUS_OSC_FAIL then s
  else
    let s := (s.putB HOLD.HOLD_STATUS_OSC_FAIL true).inc HOLD.OSC_FAIL_CNT
    (s.paidEvent 0x0702 0 1 0 1).emptyHist

/-- Conditions 1, 3 and 4 of R178 that hold now. -/
def State.oscBad (s : State) : Bool :=
  (s.running && !s.flag SYN.SYN_STATUS_OSC_ACT) ||
    decide ((s.get HOLD.OSC_LIMIT * 1024 : Nat) < absI (s.geti HOLD.HOLD_VALUE)) ||
    (s.flag HOLD.HOLD_CFG_OSC_SRC && (s.get HOLD.ATOM_STATUS_STATE == 0 || s.get HOLD.ATOM_STATUS_STATE == 4))

/-! ### The model (R173, R174) -/

/-- The rows (time, weight, u, temperature in °C) of bins, read from the vat; one that cannot be read is rewritten with COUNT 0
(R407). -/
def State.binRows (s : State) : List HistBin → List (Rat × Rat × Rat × Rat) × State
  | [] => ([], s)
  | b :: bs =>
    let r := s.vatRead 5 (s.binAddr b.start) 16
    match r.1 with
    | .ok x =>
      let q := State.binRows r.2 bs
      let n := leAt x 6 2
      if n = 0 then q
      else
        let row : Rat × Rat × Rat × Rat := (((leAt x 0 6 : Nat) : Rat) + (s.binLen : Rat) / 2, (n : Rat), ((toS 40 (leAt x 8 5) : Int) : Rat),
          ((toS 16 (leAt x 13 2) : Int) : Rat) / 16)
        (row :: q.1, q.2)
    | .denied _ => State.binRows r.2 bs
    | .uncorr =>
      let s1 := (r.2.vatWrite 5 (s.binAddr b.start) (binBytes16 b.start 0 0 0 0)).2
      let s1 := { s1 with hold := { s1.hold with bins := s1.hold.bins.map (fun x => if x.start = b.start then { x with count := 0 } else x) } }
      State.binRows s1 bs

/-- The weighted least-squares fit of R173 with s_c: the columns 1, t − tm and temp − tempm that are fitted. -/
def holdFit (rows : List (Rat × Rat × Rat × Rat)) (ageing learn : Bool) (kFixed : Rat) : HoldModel × Rat :=
  let sum := fun (f : Rat × Rat × Rat × Rat → Rat) => (rows.map f).foldl (fun (x y : Rat) => x + y) 0
  let w := sum (fun r => r.2.1)
  let tm := sum (fun r => r.2.1 * r.1) / w
  let tempm := sum (fun r => r.2.1 * r.2.2.2) / w
  let col := fun (r : Rat × Rat × Rat × Rat) =>
    [(1 : Rat)] ++ (if ageing then [r.1 - tm] else []) ++ (if learn then [r.2.2.2 - tempm] else [])
  let y := fun (r : Rat × Rat × Rat × Rat) => r.2.2.1 - kFixed * (r.2.2.2 - tempm)
  let np := 1 + (if ageing then 1 else 0) + (if learn then 1 else 0)
  match matInv (gram np (rows.map (fun r => (col r, r.2.1)))) with
  | none =>
    let o := Config.holdFitOpen rows
    (⟨o.1, if ageing then o.2.1 else 0, if learn then o.2.2 else kFixed, tm, tempm⟩, 0)
  | some inv =>
    let b := (List.range np).map (fun i => sum (fun r => r.2.1 * nth (col r) i 0 * y r))
    let x := mulVec inv b
    let rss := sum (fun r => let e := y r - dotQ (col r) x; r.2.1 * (e * e))
    let sc := if rows.length ≤ np then 0
              else sqrtQ (rss / ((rows.length - np : Nat) : Rat) * nth (nth inv 0 []) 0 0)
    (⟨nth x 0 0, if ageing then nth x 1 0 else 0, if learn then nth x (if ageing then 2 else 1) 0 else kFixed, tm, tempm⟩, sc)

/-! ### The holdover category (R177) -/

/-- The category of an e_h (Table 8-2, with T1 and T2). -/
def State.catOf (s : State) (e : Nat) : Nat :=
  let sp : Nat := s.get HOLD.SPEC_NS
  let t1 := max sp (s.get HOLD.CAT1_NS)
  let t2 := max t1 (s.get HOLD.CAT2_NS)
  if s.flag HOLD.HOLD_STATUS_DEGRADED then 3
  else if e ≤ sp * 1000 then 0 else if e ≤ t1 * 1000 then 1 else if e ≤ t2 * 1000 then 2 else 3

/-- The category changes: posted and journaled (R177). -/
def State.setCat (s : State) (c : Nat) : State :=
  let old : Nat := s.get HOLD.HOLD_STATUS_CATEGORY
  if c = old then s else (s.put HOLD.HOLD_STATUS_CATEGORY c).paidEvent 0x0701 0 c old c

/-- HOLD's model is fitted and frozen at an entry to HOLDOVER (R173, R176); `forced` by the edge that enters HOLDOVER_SERVICE from
LOCKED, `e0` the phase error in ps. -/
def State.enterHold (s : State) (forced : Bool) (e0 : Nat) : State :=
  let skip := if forced then 0 else s.get HOLD.SKIP_CFG_SKIP_S
  let valid := decide (s.get HOLD.SKIP_CFG_HIST_MIN_S ≤ s.usable skip)
  let bins := if valid then s.hold.bins.filter (fun b => decide ((skip + b.lastAt) * secU < s.time.edge)) else s.hold.bins
  let s := s.charge0 (6000 * ((s.hold.bins.length + 1023) / 1024))
  let q := s.binRows bins
  let s := q.2
  let src := s.get HOLD.HOLD_CFG_TEMP_SRC
  let ageing := valid && s.flag HOLD.HOLD_CFG_AGEING_EN
  let learn := valid && src != 0 && s.flag HOLD.HOLD_CFG_TEMP_LEARN
  let kf : Rat := if valid && src != 0 && !learn then (s.geti HOLD.TEMP_COEF : Rat) else 0
  let now : Rat := (s.time.edge : Rat) / (secU : Rat)
  let t0 : Rat := ((s.temp16.getD 0 : Int) : Rat) / 16
  let f : HoldModel × Rat := if q.1.isEmpty then (⟨(s.hold.lastU : Rat), 0, 0, now, t0⟩, 0) else holdFit q.1 ageing learn kf
  let m := f.1
  let assisted := s.flag REFSEL.REFSEL_STATUS_ASSIST_VALID
  let f0 : Rat := if assisted then (s.get HOLD.ASSIST_ALLOW : Rat) / 1024
                  else max ((s.get HOLD.FREQ_FLOOR : Rat) / 1024) (3 * (f.2 / 1024))
  let g : Rat := if assisted then 0 else (s.get HOLD.AGE_ALLOW : Rat) / 1024 / 86400
  let s := { s with hold := { s.hold with model := some m, e0 := (e0 : Rat), f0 := f0, g := g, acc := 0, entry := s.mono } }
  let s := ((s.puti HOLD.HOLD_MEAN (satS 40 (roundQ m.c))).puti HOLD.HOLD_AGEING (satS 32 (roundQ (m.a * 86400)))).puti HOLD.TEMP_COEF_FIT
    (satS 32 (roundQ m.k))
  let s := (s.putB HOLD.HOLD_STATUS_DEGRADED (!valid)).inc HOLD.HOLD_ENTRY_CNT
  (s.put HOLD.HOLD_EH (satN 40 e0)).setCat (s.catOf (satN 40 e0))

/-- u(t) of the model at the present edge, or the last u where none is frozen (R174, R178). -/
def State.modelU (s : State) : Rat :=
  match s.hold.model with
  | none => (s.hold.lastU : Rat)
  | some m =>
    let t : Rat := (s.time.edge : Rat) / (secU : Rat)
    let k := match s.temp16 with
      | none => 0
      | some x => m.k * ((x : Rat) / 16 - m.tempm)
    m.c + m.a * (t - m.tm) + k

/-! ### The holdover error (R176) -/

/-- e_h in a sheet of HOLDOVER (R176): rates in ppt, one ppt held for a second is a ps; a part of a ps counts as one (R218). -/
def State.stepEh (s : State) : State :=
  let m := s.hold.model.getD ⟨0, 0, 0, 0, 0⟩
  let h1 : Rat := match s.temp16 with
    | none => 0
    | some x => (s.get HOLD.TEMP_ALLOW : Rat) / 1024 * absQ ((x : Rat) / 16 - m.tempm)
  let h : Rat := h1 + (if s.tempStale then (s.get HOLD.STALE_RATE : Rat) / 1024 else 0)
  let acc := s.hold.acc + h * 125 / 1000000
  let t : Rat := ((s.mono - s.hold.entry : Int) : Rat) / (secU : Rat)
  let e := satN 40 (ceilQ (s.hold.e0 + s.hold.f0 * t + s.hold.g * t * t / 2 + acc)).toNat
  let s := { s with hold := { s.hold with acc := acc } }
  (s.put HOLD.HOLD_EH e).setCat (max (s.catOf e) (s.get HOLD.HOLD_STATUS_CATEGORY))

/-- HOLD leaves HOLDOVER (R176, R177): e_h 0, category 0; the model is discarded when the clock selects again (R179). -/
def State.leaveHold (s : State) (discard : Bool) : State :=
  let s := (s.put HOLD.HOLD_EH 0).setCat 0
  if discard then (s.putB HOLD.HOLD_STATUS_DEGRADED false).putB HOLD.HOLD_STATUS_IN_HOLD false |> fun s =>
    { s with hold := { s.hold with model := none } }
  else s

/-! ### What HOLD does in every sheet (R170, R178) -/

/-- The sums of a second, emptied. -/
def State.newSecond (s : State) : State :=
  { s with hold := { s.hold with sumU := 0, sumT := 0, n := 0, ok := true, stale := false, assisted := false } }

/-- The sheet's u joins the second's sums, and the oscillator is checked (R170, R178). -/
def State.holdSheet (s : State) : State :=
  let s := (s.charge0 25).showStale.showPull
  let u := s.geti REFSEL.DPLL_CTRL + s.pullNow
  let s := s.puti HOLD.HOLD_VALUE (satS 40 u)
  let cs := s.get REFSEL.REFSEL_STATUS_CLOCK_STATE
  let ok := s.hold.ok && cs == 2 && !s.flag REFSEL.REFSEL_STATUS_FROZEN && !s.flag REFSEL.REFSEL_STATUS_SWITCHING &&
    !s.flag HOLD.HOLD_STATUS_OSC_FAIL
  let s := { s with hold := { s.hold with
    sumU := s.hold.sumU + u
    sumT := s.hold.sumT + s.temp16.getD 0
    n := s.hold.n + 1
    ok := ok
    stale := s.hold.stale || s.tempStale
    assisted := s.hold.assisted || s.flag REFSEL.REFSEL_STATUS_ASSIST_VALID
    lastU := if cs ≤ 2 then u else s.hold.lastU } }
  let inHold := cs == 4 || (cs == 3 && !s.flag REFSEL.REFSEL_STATUS_ASSIST_VALID)
  let s := if inHold then s.charge0 30 else s
  let s := (s.putB HOLD.HOLD_STATUS_IN_HOLD (inHold && s.hold.model.isSome)).putB HOLD.HOLD_STATUS_ASSISTED
    (cs == 3 && s.flag REFSEL.REFSEL_STATUS_ASSIST_VALID)
  if cs = 3 then s.stepEh else s.put HOLD.HOLD_EH 0

/-- TEMP_STALE (R175). -/
def runTempStale (s : State) : State := s.showStale

/-! ### Offload to the oscillator (R180) -/

/-- The decision of the selection slice of the sheet that begins at a whole second. -/
def State.decideOffload (s : State) : State :=
  let y := s.geti REFSEL.DPLL_CTRL
  let m := s.steerMode
  let can := (m == 1 && s.get HOLD.EFC_SENS != 0) ||
    (m == 2 && s.get HOLD.ATOM_STATUS_STATE == 3 && s.hold.steer.isNone && !s.hold.refused && s.get HOLD.ATOM_FW_STEER_RES != 0)
  let on := decide (s.time.edge % secU = 0) && s.get REFSEL.REFSEL_STATUS_CLOCK_STATE == 2 &&
    decide ((s.get HOLD.OFFLOAD_MIN : Int) ≤ absI y) && can
  let mx : Int := s.get HOLD.OFFLOAD_MAX
  { s with hold := { s.hold with offload := if on then some (clampI (-mx) mx y) else none } }

/-- The bytes of a frame to the module (R182). -/
def atomBytes (type : Nat) (payload : List Byte) : List Byte :=
  let body := leBytes 1 type ++ leBytes 1 payload.length ++ payload
  leBytes 1 0xAD ++ body ++ beBytes 2 (crc16 body)

/-- A frame goes out on the atomic port at its rate (R182), while the port is in use. -/
def State.atomSend (s : State) (type : Nat) (payload : List Byte) : State :=
  if s.flag HOLD.ATOM_CFG_ENABLE then (s.charge0 40).emit (.atom (s.get HOLD.ATOM_CFG_BAUD * 100) (atomBytes type payload)) else s

/-- A STEER goes out (R180, R186). -/
def State.sendSteer (s : State) (r : SteerOut) : State :=
  { s with hold := { s.hold with steer := some { r with sentAt := s.mono } } }.atomSend 0x02 (leBytes 1 r.seq ++ beBytes 5 (ofS 40 r.freq))

/-- What HOLD does at a sheet edge: a decided offload is applied while the clock is still LOCKED and the edge does not enter
HOLDOVER_SERVICE; a pull that changed since the last edge lowers the DPLL term (R180, R186). -/
def State.holdEdge (s : State) (entersService : Bool) : State :=
  let d := s.hold.offload
  let s := { s with hold := { s.hold with offload := none } }
  let s := match d with
    | none => s
    | some d =>
      if s.get REFSEL.REFSEL_STATUS_CLOCK_STATE ≠ 2 ∨ entersService = true then s
      else if s.steerMode = 1 then
        let sens := s.geti HOLD.EFC_SENS
        let old : Int := s.get HOLD.EFC_CODE
        let new := clampI 0 (2 ^ 24 - 1) (old + roundQ ((d : Rat) / (sens : Rat)))
        if new = old ∨ sens = 0 then s
        else ((((s.charge0 150).put HOLD.EFC_CODE new.toNat).emit (.efc new.toNat)).inc HOLD.OFFLOAD_CNT).lowerDpll ((new - old) * sens)
      else if s.steerMode = 2 then
        let res : Nat := s.get HOLD.ATOM_FW_STEER_RES
        let range : Int := (s.get HOLD.ATOM_RANGE * 1024 : Nat)
        let f := clampI (-range) range (roundDiv (s.pullNow + d) res * res)
        let s := { s with hold := { s.hold with seq := (s.hold.seq + 1) % 256 } }
        (s.charge0 150).sendSteer ⟨s.hold.seq, f, 1, 0⟩
      else s
  let s := match s.hold.pullDue with
    | none => s
    | some p =>
      let dp := p - s.hold.atomPull
      let s := { s with hold := { s.hold with atomPull := p, pullDue := none } }
      let cs := s.get REFSEL.REFSEL_STATUS_CLOCK_STATE
      if s.steerMode ≠ 2 ∨ cs = 4 ∨ (cs = 3 ∧ s.flag REFSEL.REFSEL_STATUS_ASSIST_VALID = false) then s
      else s.lowerDpll dp
  s.showPull

end Sys2Proof.Machine
end

