-- ==== Sys2Proof/Machine/Bound.lean ====
section
/-! DEFINITION. The error bound and the watermark (chapter 10). -/

namespace Sys2Proof.Machine

/-! ### Sums that saturate (R11, R218) -/

/-- The largest bound: 2⁴⁰ − 1 ps. -/
def boundMax : Nat := 2 ^ 40 - 1

/-- A sum of bounds (R11). -/
def satAdd (a b : Nat) : Nat := min (a + b) boundMax

/-- A part of a ps counts as one (R218). -/
def ceilNat (q : Rat) : Nat := (ceilQ q).toNat

/-- A rate in ppt over a time in 2⁻¹⁶ ns units: 1 ppt held for 1 s is a ps. -/
def ratePs (ppt : Nat) (t : Int) : Nat := ceilNat ((ppt : Rat) * (t : Rat) / (secU : Rat))

/-! ### Clock class (R1) -/

/-- The clockClass that R1 requires. -/
def State.clockClass (s : State) : Nat :=
  let m := s.mode
  if m = 5 then 255
  else if m ≤ 1 then 248
  else
    let cs := s.get REFSEL.REFSEL_STATUS_CLOCK_STATE
    if cs = 2 then 6
    else if cs = 3 then
      let c := s.get HOLD.HOLD_STATUS_CATEGORY
      if c = 0 then 7 else if c = 1 then 140 else if c = 2 then 150 else 160
    else 248

/-- Whether held values are served (R363). -/
def State.isHeld (s : State) : Bool := s.bound.heldMark.isSome && s.couch.block.isSome

/-- The clockClass that is advertised: that of the peer through the held sheets of a promotion (R1, R363). -/
def State.givenClass (s : State) : Nat :=
  if s.isHeld then (s.couch.block.map (fun (b : Timing) => b.cls)).getD s.clockClass else s.clockClass

/-! ### The source (R219) -/

/-- The class A channel of a slot. -/
def State.slotChan (s : State) (n : Nat) : Option Nat := if edgeSlot n then (s.slot n).chan else none

/-- B_src of a slot (Table 10-1). -/
def State.srcBound (s : State) (n : Nat) : Nat :=
  let unc := s.get (BOUND.REF_UNC n)
  if n = 0 then
    match s.nav.forBound with
    | none => unc
    | some v =>
      let base := if v.status = 1 then satN 40 (s.get BOUND.BOUND_CFG * v.sigma) else min v.tpl boundMax
      satAdd (satAdd (satAdd base v.u) (s.get BOUND.FLAG_ALLOW * v.flagged)) unc
  else if n = 13 then satAdd ((s.ref.upUsed.bind (fun (u : UpSample) => u.bound)).getD 0) unc
  else if n = 15 then satAdd ((s.ref.peerUsed.map (fun (u : PeerSample) => u.bound)).getD 0) unc
  else
    match s.slotChan n with
    | some c => satAdd (s.chU c) unc
    | none => unc

/-- The age of a slot's latest measurement at the present edge, in 2⁻¹⁶ ns units. -/
def State.slotAge (s : State) (n : Nat) : Int :=
  match (s.slot n).last with
  | some (t, _) => max 0 ((s.time.edge : Int) - s.time.shift - t)
  | none => 0

/-- The LOCKED and ACQUIRING row of Table 10-2. -/
def State.lockedTime (s : State) (n phase : Nat) : Nat :=
  satAdd (satAdd (s.srcBound n) phase) (ratePs (s.get BOUND.DRIFT_ALLOW) (s.slotAge n))

/-- The FREE_RUN row of Table 10-2, since a time. -/
def State.freeTime (s : State) (since : Int) : Nat :=
  min (s.get BOUND.FREE_BASE + ratePs (s.get BOUND.FREE_RATE) (max 0 ((s.time.edge : Int) - s.time.shift - since))) (boundMax - 1)

/-! ### The engine's own terms (R221) -/

/-- B_coarse. -/
def State.coarseTerm (s : State) : Nat :=
  let base := if s.flag TIME.TIME_STATUS_COARSE || s.bound.carry then s.get BOUND.COARSE_ALLOW else 0
  if s.get SYN.SYN_STATUS_CNT_SRC = 2 then
    match s.syn.lostAt with
    | some t => satAdd base (ratePs (s.get BOUND.PCIE_RATE) (max 0 ((s.time.edge : Int) - s.time.shift - t)))
    | none => base
  else base

/-- B_dis of a selected slot. -/
def State.disTerm (s : State) (n : Option Nat) : Nat :=
  match n with
  | some n => if s.flag (REFSEL.REF_STAT_SUSPECT n) then s.get REFSEL.DIS_WIDEN else 0
  | none => 0

/-- B_spare of a selected slot. -/
def State.spareTerm (s : State) (n : Option Nat) : Nat :=
  match n.bind s.slotChan with
  | some c => if s.flag (TDC.CH_STAT_SPARED c) then s.get BOUND.SPARE_ALLOW else 0
  | none => 0

/-- B_core from B_time and the selected slot. -/
def State.coreOf (s : State) (bTime : Nat) (n : Option Nat) (coarse : Nat) : Nat :=
  satAdd (satAdd (satAdd (satAdd bTime (s.get BOUND.INT_ALLOW)) coarse) (s.disTerm n)) (s.spareTerm n)

/-- B_core that leaving LOST would give (R223): with a candidate, its ACQUIRING row; else the FREE_RUN row. -/
def State.exitCore (s : State) (cand : Option Nat) : Nat :=
  match cand with
  | some n => s.coreOf (s.lockedTime n (s.slotTheta n).natAbs) (some n) s.coarseTerm
  | none => s.coreOf (s.freeTime s.mono) none s.coarseTerm

/-! ### The watermark (R224, R225) -/

/-- The selected slot, if one is. -/
def State.selSlot (s : State) : Option Nat :=
  if s.flag REFSEL.REFSEL_STATUS_SEL_VALID then some (s.get REFSEL.REFSEL_STATUS_SELECTED) else none

/-- SIZING_ID for an item (R464): the bank in force with its generation. -/
def State.sizingId (s : State) (item : Nat) : Nat :=
  if (s.userItem item).isSome then 2 ^ 31 + s.get SIZING.SIZ_UGEN else s.get SIZING.SIZ_FGEN

/-- The chain fields for a selected slot (Table 10-3). -/
def State.chainOf (s : State) (n : Nat) : Chain :=
  let nav0 := n == 0
  { slot := n, valid := true
    refSys := if nav0 then s.get GNSSN.SOL_CFG_REF_SYS else 0xFF
    depth := if n = 13 then (s.ref.upUsed.map (fun (u : UpSample) => u.steps + 1)).getD 0
             else if n = 15 then (s.ref.peerUsed.map (fun (u : PeerSample) => u.depth)).getD 0 else 0
    origin := if n = 1 then s.get BOUND.REF_ID1 else if n = 2 then s.get BOUND.REF_ID2
              else if n = 13 then (s.ref.upUsed.map (fun (u : UpSample) => u.gm)).getD 0
              else if n = 15 then (s.ref.peerUsed.map (fun (u : PeerSample) => u.origin)).getD 0 else 0
    unprot := nav0 && (s.nav.forBound.map (fun (v : NavSol) => v.status == 1)).getD false
    spared := s.spareTerm (some n) != 0 || (nav0 && (s.nav.forBound.map (fun (v : NavSol) => v.flagged != 0)).getD false)
    sizing := if nav0 then s.sizingId 0x200
              else if n = 13 then s.sizingId (0x100 + s.get PTP.UP_CFG_PORT)
              else match s.slotChan n with
                | some c => s.sizingId (chItem c)
                | none => Config.peerSizing }

/-- The 40 bytes of a watermark body (Table 10-3). -/
def State.markBytes (s : State) (flags bp : Nat) (c : Chain) : List Byte :=
  leBytes 1 1 ++ leBytes 1 flags ++ leBytes 1 s.clockClass ++ leBytes 1 (s.get REFSEL.REFSEL_STATUS_CLOCK_STATE) ++
    beBytes 8 s.sheetNo ++ beBytes 5 bp ++ leBytes 1 (c.slot + (if c.valid then 16 else 0)) ++ leBytes 1 c.refSys ++
    leBytes 1 (min 255 c.depth) ++ beBytes 8 c.origin ++ beBytes 8 (s.get BOUND.WM_ENGINE_ID) ++ beBytes 4 c.sizing

/-- B_p of a port (R222, R239). -/
def State.portBound (s : State) (core p : Nat) : Nat :=
  satAdd (satAdd core (s.get (BOUND.PORT_ALLOW p))) (s.get (MAC.TS_UNC p) + s.get (MAC.U_EXT p))

/-! ### The clock as a slice left it (R19, R218) -/

/-- The registers of a view of the clock. -/
def clockFields : List Fld := [REFSEL.REFSEL_STATUS_CLOCK_STATE, REFSEL.REFSEL_STATUS_SEL_VALID, REFSEL.REFSEL_STATUS_SELECTED,
  REFSEL.REFSEL_STATUS_SWITCHING, REFSEL.REFSEL_STATUS_ASSIST_VALID, REFSEL.REFSEL_STATUS_ASSIST, REFSEL.PHASE_ERR,
  HOLD.HOLD_STATUS_CATEGORY, HOLD.HOLD_EH, PTP.PTP_STATUS_UP_MASTER]

/-- The clock as it stands. -/
def State.clockView (s : State) : ClockView where
  regs := clockFields.map s.get
  up := s.ref.up
  upUsed := s.ref.upUsed
  peerUsed := s.ref.peerUsed
  lasts := s.ref.slots.map (fun (r : RefSlot) => r.last)
  sol := s.nav.forBound
  freeSince := s.ref.freeSince

/-- The state with the clock of a view. -/
def State.withView (s : State) (v : ClockView) : State :=
  let slots : List RefSlot := List.zipWith (fun (r : RefSlot) l => { r with last := l }) s.ref.slots v.lasts
  { s.puts (clockFields.zip v.regs) with
    ref := { s.ref with up := v.up, upUsed := v.upUsed, peerUsed := v.peerUsed, slots := slots, freeSince := v.freeSince }
    nav := { s.nav with forBound := v.sol } }

/-- The state with the clock that the bound slice latched, which every message of the sheet carries (R19). -/
def State.asLatched (s : State) : State :=
  match s.bound.latched with
  | some v => s.withView v
  | none => s

/-- The selection slice ends: the bound of the sheet is computed from what it leaves in force (R218). -/
def State.pickClock (s : State) : State := { s with bound := { s.bound with picked := some s.clockView } }

/-! ### The bound slice (R218 to R225) -/

/-- What the bound slice forms from the clock of its sheet: B_src or B_frozen, B_time, B_core, B_dis, the FLAGS but SATURATED, the chain. -/
structure BoundVals where
  src : Nat
  time : Nat
  core : Nat
  dis : Nat
  flags : Nat
  chain : Chain

/-- The layers of the bound (R219 to R221, Table 10-3). -/
def State.boundVals (s : State) : BoundVals :=
  let cs := s.get REFSEL.REFSEL_STATUS_CLOCK_STATE
  let sel := s.selSlot
  let src := if cs = 3 then s.bound.frozen else (sel.map s.srcBound).getD 0
  let bTime := if cs = 4 then boundMax
               else if cs = 3 then satAdd s.bound.frozen (s.get HOLD.HOLD_EH)
               else if cs = 0 then s.freeTime s.ref.freeSince
               else match sel with
                 | some n => s.lockedTime n (s.geti REFSEL.PHASE_ERR).natAbs
                 | none => boundMax
  let coarse := if cs = 4 then 0 else s.coarseTerm
  let chain : Chain := if cs = 3 then s.bound.frozenChain else if cs = 1 ∨ cs = 2 then (sel.map s.chainOf).getD {} else {}
  let f := fun (b : Bool) (i : Nat) => if b then 2 ^ i else 0
  { src := src, time := bTime, core := s.coreOf bTime sel coarse, dis := s.disTerm sel, chain := chain
    flags := f (s.flag REFSEL.REFSEL_STATUS_SWITCHING) 0 + f (sel.any (fun n => s.flag (REFSEL.REF_STAT_SUSPECT n))) 1 +
      f (coarse != 0) 2 + f chain.unprot 3 + f chain.spared 4 + f (!s.flag TIME.TIME_STATUS_SET) 5 }

/-- The watermark body of a port (R222, R224, R225). -/
def State.bodyOf (s : State) (b : BoundVals) (p : Nat) : List Byte :=
  let bp := if s.flag TIME.TIME_STATUS_SET then s.portBound b.core p else boundMax
  s.markBytes (b.flags + (if bp = boundMax then 64 else 0)) bp b.chain

/-- B_core, B_p and the flags show in the registers, unless held values do (R230, R363). -/
def State.showBound (s : State) (b : BoundVals) : State :=
  if s.bound.heldMark.isSome then s
  else
    let sat := b.core == boundMax || !s.flag TIME.TIME_STATUS_SET
    (List.range 8).foldl (fun s p => s.put (BOUND.PORT_BOUND p) (satN 32 (s.portBound b.core p)))
      (s.puts [(BOUND.BOUND_STATUS, b.flags + (if sat then 64 else 0)), (BOUND.BOUND_CORE, b.core)])

/-- BOUND_SLICE (R18, R218 to R225, R229): the bound is computed from the clock that the selection slice left, and latched with the
watermark bodies of the ports; a promoted unit shows the values it holds through its held sheets (R363). -/
def boundNow (s : State) : State :=
  let ports := (List.range 8).filter (fun p => s.get (MAC.PORT_CFG_RATE p) != 3)
  let s := s.charge0 (300 + 20 * ports.length)
  let s := if s.bound.carry && !s.flag TIME.TIME_STATUS_SLEWING then { s with bound := { s.bound with carry := false } } else s
  let v := s.bound.picked.getD s.clockView
  let w := s.withView v
  let b := w.boundVals
  let bodies := s.bound.heldMark.getD ((List.range 8).map (w.bodyOf b))
  let s := (s.puts [(BOUND.BOUND_SRC, b.src), (BOUND.BOUND_TIME, b.time)]).showBound b
  let s := if b.core = boundMax then s.inc BOUND.SAT_CNT else s
  let s := if b.dis ≠ 0 then s.inc BOUND.DIS_SHEET_CNT else s
  { s with bound := { s.bound with
    marks := bodies, chain := b.chain, src := b.src, hadSel := w.selSlot.isSome, picked := none, latched := some v } }

/-- BOUND_SLICE (R18, Table 1-4). -/
def runBoundSlice (s : State) : State := boundNow (s.atSheetTime (nsU 7000))

end Sys2Proof.Machine
end

