-- ==== Sys2Proof/Machine/Select.lean ====
section
/-! DEFINITION. Selection, switching, clock states and the DPLL (chapter 7). -/

namespace Sys2Proof.Machine

/-! ### What REFSEL shows -/

/-- SELECTED, ASSIST and LOCKED_OUT of the slots, and FROZEN. -/
def State.showSel (s : State) : State :=
  let sel := s.selSlot
  let ast : Option Nat := if s.flag REFSEL.REFSEL_STATUS_ASSIST_VALID then some (s.get REFSEL.REFSEL_STATUS_ASSIST) else none
  let s := s.putB REFSEL.REFSEL_STATUS_FROZEN s.refFrozen
  (List.range 16).foldl (fun s n => s.puts [(REFSEL.REF_STAT_SELECTED n, if sel = some n then 1 else 0),
    (REFSEL.REF_STAT_ASSIST n, if ast = some n then 1 else 0), (REFSEL.REF_STAT_LOCKED_OUT n, if s.lockedOut n then 1 else 0)]) s

/-- REFSEL_STATUS.FROZEN (R163). -/
def State.showFrozen (s : State) : State := s.putB REFSEL.REFSEL_STATUS_FROZEN s.refFrozen

/-- A slot becomes the selected one, or none is; a run of measurements within or beyond a limit starts again. -/
def State.setSel (s : State) (n : Option Nat) : State :=
  let s := s.puts [(REFSEL.REFSEL_STATUS_SEL_VALID, if n.isSome then 1 else 0), (REFSEL.REFSEL_STATUS_SELECTED, n.getD 0),
    (REFSEL.REFSEL_STATUS_SWITCHING, 0)]
  { s with ref := { s.ref with switchTo := none, lockFrom := none, lockMet := false, unlocks := 0 } }

/-- PHASE_ERR (R160): θ − PBO of the selected slot. -/
def State.phaseErr (s : State) : Int :=
  match s.selSlot with
  | none => 0
  | some n => s.slotTheta n - s.ref.pbo

/-! ### Clock states (R160) -/

/-- The clock state changes (Table 7-4): what the new state starts from, HOLD's part, the event and its journal entry. `forced` is
an entry to HOLDOVER by the edge that enters HOLDOVER_SERVICE from LOCKED (R173). -/
def State.toClock (s : State) (new : Nat) (forced : Bool) : State :=
  let old := s.get REFSEL.REFSEL_STATUS_CLOCK_STATE
  if old = new then s
  else
    let sel := s.selSlot
    let s := if old = 3 then s.leaveHold (new == 1 || new == 0)
             else if old = 4 then s.leaveHold true else s
    let s := if new = 3 then
        let e0 := if sel.isSome then s.phaseErr.natAbs else 0
        let s := { s with
          ref := { s.ref with prevSel := sel }
          bound := { s.bound with
            frozen := if sel.isSome && s.bound.hadSel then s.bound.src else s.get BOUND.BOUND_TIME
            frozenChain := { s.bound.chain with valid := true } } }
        (s.enterHold forced e0).setSel none
      else if new = 0 then
        { s with ref := { s.ref with freeSince := s.mono, yHeld := old == 1 } }.setSel none
      else if new = 4 then s.setSel none
      else { s with ref := { s.ref with lockFrom := none, lockMet := false, unlocks := 0 } }
    (s.put REFSEL.REFSEL_STATUS_CLOCK_STATE new).paidEvent 0x0605 0 new old new

/-! ### The oscillator is judged (R178) -/

/-- A clock whose oscillator has failed is LOST (R178, Table 7-4). -/
def State.lostNow (s : State) : State :=
  if s.flag HOLD.HOLD_STATUS_OSC_FAIL && s.get REFSEL.REFSEL_STATUS_CLOCK_STATE != 4 then (s.toClock 4 false).showSel else s

/-- A condition of R178 that holds now fails the oscillator, and the clock goes to LOST (Table 7-4). -/
def State.oscJudge (s : State) : State := if s.running && s.oscBad then s.oscFail.lostNow else s

/-! ### Selection (R154 to R158) -/

/-- A slot that may be the time reference. -/
def State.eligibleRef (s : State) (n : Nat) : Bool := timeSlot n && s.qualified n && !s.lockedOut n

/-- The candidate (R154). -/
def State.candidate (s : State) : Option Nat :=
  if s.mode = 4 then none
  else if s.mode = 5 then (if s.qualified 15 then some 15 else none)
  else if s.getT REFSEL.REF_OVERRIDE_FORCE_EN = 1 then
    let f := s.getT REFSEL.REF_OVERRIDE_FORCE_SLOT
    if s.eligibleRef f then some f else none
  else
    ((List.range 16).filter s.eligibleRef).foldl (fun (o : Option Nat) n =>
      match o with
      | none => some n
      | some m =>
        let rn := s.get (REFSEL.REF_CFG_RANK n)
        let rm := s.get (REFSEL.REF_CFG_RANK m)
        if rn < rm ∨ (rn = rm ∧ s.selSlot = some n) then some n else some m) none

/-- A request of REF_SELECT or arbitration that still stands; else it lapses (R155). -/
def State.takeWanted (s : State) : Option Nat × State :=
  let w := s.ref.wanted.filter s.eligibleRef
  (w, { s with ref := { s.ref with wanted := none } })

/-- The first selection after FREE_RUN, HOLDOVER or LOST (R158, R179): PBO 0, the slot's θ owed to the slew or to an automatic step,
and the integrator seeded after a model. -/
def State.firstSelect (s : State) (n : Nat) : State :=
  let theta := s.slotTheta n
  let cs := s.get REFSEL.REFSEL_STATUS_CLOCK_STATE
  let seed : Rat := -(s.modelU - (s.pullNow : Rat)) / 1024
  let s := if cs = 3 ∨ cs = 4 then { s with ref := { s.ref with integ := seed } } else s
  let limit : Int := (s.get TIME.TIME_CFG_AUTO_STEP_US : Int) * 1000000
  let step := s.mode == 0 && !s.ref.everSel && limit != 0 && decide (limit < absI theta)
  let s := if step then
      let s := s.putB TIME.TIME_STATUS_STEP_PENDING true
      { s with time := { s.time with steps := s.time.steps ++ [PendStep.mk none .auto true (.by (-unitsOfPs theta))] } }
    else s.addSlew (unitsOfPs theta)
  let s := { s with ref := { s.ref with pbo := 0, newSel := true, lastUpd := s.mono, everSel := true } }
  (s.setSel (some n)).toClock 1 false

/-- A switch completes (R158, Table 7-3): θ of the new slot less θ of the old one is owed to the slew. -/
def State.endSwitch (s : State) (b : Nat) : State :=
  let a := s.selSlot.getD 0
  let d := s.slotTheta b - s.slotTheta a
  let s := ((s.charge0 800).addSlew (unitsOfPs d)).setSel (some b)
  let s := { s with ref := { s.ref with newSel := true } }
  (s.inc REFSEL.SWITCH_CNT).paidEvent 0x0603 b b a b

/-- The rows of Table 7-4 that enter and leave LOST (R223). -/
def State.lostRows (s : State) : State :=
  let cs := s.get REFSEL.REFSEL_STATUS_CLOCK_STATE
  let fail := s.flag HOLD.HOLD_STATUS_OSC_FAIL
  if cs ≠ 4 then
    if fail || (cs != 0 && s.get BOUND.BOUND_CORE == boundMax) then s.toClock 4 false else s
  else if fail || s.refFrozen then s
  else
    let w := s.takeWanted
    let cand := if s.mode = 4 then none else if w.1.isSome then w.1 else s.candidate
    if boundMax ≤ s.exitCore cand then s
    else
      match cand with
      | some n => w.2.firstSelect n
      | none => s.toClock 0 false

/-- Selection is evaluated (R154, R155, R157, Table 7-4). -/
def State.evaluate (s : State) : State :=
  let cs := s.get REFSEL.REFSEL_STATUS_CLOCK_STATE
  if cs = 4 ∨ s.mode = 4 then s
  else
    let w := s.takeWanted
    let s := w.2
    let cand := s.candidate
    if cs = 0 ∨ cs = 3 then
      match (if w.1.isSome then w.1 else cand) with
      | some n => s.firstSelect n
      | none => s
    else
      match cand with
      | none => s.toClock (if cs = 2 ∨ s.flag HOLD.HOLD_STATUS_HIST_VALID then 3 else 0) false
      | some c =>
        let a := s.selSlot.getD 16
        let mirror := s.mode == 5
        let gone := !s.qualified a || (!mirror && s.lockedOut a)
        let forced := mirror || s.getT REFSEL.REF_OVERRIDE_FORCE_EN == 1
        let better := s.flag REFSEL.REFSEL_CFG_REVERTIVE &&
          decide (s.get (REFSEL.REF_CFG_RANK c) < s.get (REFSEL.REF_CFG_RANK a))
        let target : Option Nat := if w.1.isSome then w.1 else if gone || forced || better then some c else none
        match target with
        | some b =>
          if b = a then s
          else
            let s := s.putB REFSEL.REFSEL_STATUS_SWITCHING true
            { s with ref := { s.ref with switchTo := some b } }
        | none => s

/-- ACQUIRING reaches LOCKED, and LOCKED falls back (Table 7-4). -/
def State.lockRows (s : State) : State :=
  let cs := s.get REFSEL.REFSEL_STATUS_CLOCK_STATE
  if cs = 1 ∧ s.ref.lockMet = true then s.toClock 2 false
  else if cs = 2 ∧ 4 ≤ s.ref.unlocks then s.toClock 1 false
  else s

/-- The assist (R156): QUALIFIED FREQ slot with the best QL, lowest RANK, the one in use, the lower number; a change sets its
build-out and keeps y continuous (R158, R162). -/
def State.pickAssist (s : State) : State :=
  let cur : Option Nat := if s.flag REFSEL.REFSEL_STATUS_ASSIST_VALID then some (s.get REFSEL.REFSEL_STATUS_ASSIST) else none
  let ql := fun (n : Nat) => if s.flag REFSEL.REFSEL_CFG_QL_ENABLE then s.slotQl n else 0
  let key := fun (n : Nat) => (ql n * 16 + s.get (REFSEL.REF_CFG_RANK n)) * 2 + (if cur = some n then 0 else 1)
  let best : Option Nat := if !s.flag REFSEL.REFSEL_CFG_HYBRID then none
    else ((List.range 16).filter (fun n => !timeSlot n && s.qualified n && !s.lockedOut n)).foldl (fun (o : Option Nat) n =>
      match o with
      | none => some n
      | some m => if key n < key m then some n else some m) none
  if best = cur then s
  else
    let s := if cur.isNone then { s with ref := { s.ref with assist := -s.ref.integ } }
             else if best.isNone then { s with ref := { s.ref with integ := -s.ref.assist } } else s
    let s := s.puts [(REFSEL.REFSEL_STATUS_ASSIST_VALID, if best.isSome then 1 else 0), (REFSEL.REFSEL_STATUS_ASSIST, best.getD 0)]
    { s with ref := { s.ref with newAst := false, astLast := best.bind (fun n => (s.slot n).last) } }

/-! ### The DPLL (R161, R162) -/

/-- kp and ki of the loop. -/
def State.loopGains (s : State) : Rat × Rat :=
  let bw : Rat := (s.get REFSEL.DPLL_BW : Rat) / 10000
  let z : Rat := (s.get REFSEL.DPLL_DAMP : Rat) / 256
  let c := 1 + 2 * (z * z)
  let wn := 2 * piQ * bw / sqrtQ (c + sqrtQ (c * c + 1))
  (2 * z * wn, wn * wn)

/-- What a pending automatic step owes the selected slot, in ps: it stands in the place of a slew residual (R158). -/
def State.stepOwed (s : State) : Int :=
  (s.time.steps.map (fun p => match p.origin, p.kind with
    | .auto, .by d => -psOfUnits d
    | _, _ => 0)).foldl (· + ·) 0

/-- The DPLL updates where the selected slot or the assist has delivered a measurement since the last update (R161). -/
def State.dpll (s : State) : State :=
  let ast := s.flag REFSEL.REFSEL_STATUS_ASSIST_VALID
  let doAst := ast && s.ref.newAst
  let s := if doAst then
      let last := (s.slot (s.get REFSEL.REFSEL_STATUS_ASSIST)).last
      let d : Rat := match s.ref.astLast, last with
        | some (_, a), some (_, b) => ((b - a : Int) : Rat)
        | _, _ => 0
      let ka := 2 * piQ * ((s.get REFSEL.ASSIST_BW : Rat) / 10000)
      { s with ref := { s.ref with assist := s.ref.assist - ka * d, astLast := last, newAst := false } }
    else s
  let s := if doAst ∨ s.ref.newSel = true then s.charge0 120 else s
  let cs := s.get REFSEL.REFSEL_STATUS_CLOCK_STATE
  match s.selSlot with
  | none => s
  | some n =>
    if (cs ≠ 1 ∧ cs ≠ 2) ∨ (s.ref.newSel = false ∧ doAst = false) then s
    else
      let e : Rat := ((s.slotTheta n - s.ref.pbo - psOfUnits (s.geti TIME.SLEW_RESID) - s.stepOwed : Int) : Rat)
      let t : Rat := ((s.mono - s.ref.lastUpd : Int) : Rat) / (secU : Rat)
      let g := s.loopGains
      let integ := if ast then s.ref.integ else s.ref.integ + g.2 * e * t
      let y := if ast then 1024 * (s.ref.assist - g.1 * e) else -1024 * (g.1 * e + integ)
      let s := { s with ref := { s.ref with integ := integ, lastUpd := s.mono, newSel := false } }
      s.puti REFSEL.DPLL_CTRL (satS 40 (roundQ y))

/-- The control value of the states in which the loop does not make it (R162, R163, R174). -/
def State.steerRows (s : State) : State :=
  let cs := s.get REFSEL.REFSEL_STATUS_CLOCK_STATE
  let ast := s.flag REFSEL.REFSEL_STATUS_ASSIST_VALID
  if cs = 4 ∨ (cs = 3 ∧ ast = false) then s.puti REFSEL.DPLL_CTRL (satS 40 (roundQ (s.modelU - (s.pullNow : Rat))))
  else if s.refFrozen ∨ cs = 1 ∨ cs = 2 then s
  else if cs = 0 ∧ s.ref.yHeld = true then { s with ref := { s.ref with yHeld := false } }
  else s.puti REFSEL.DPLL_CTRL (if ast then satS 40 (roundQ (1024 * s.ref.assist)) else 0)

/-- Slots that WTR_CLEAR named become QUALIFIED (R169). -/
def State.clearWtr (s : State) : State :=
  (List.range 16).foldl (fun s n =>
    if (s.slot n).wtrClear then
      let s := s.setSlot n { s.slot n with wtrClear := false }
      if s.slotState n = 3 then s.slotQualify n else s
    else s) s

/-- The selection slice (R154 to R163, R167, R170): candidate, switch or clock state, assist, DPLL, control value, history. -/
def State.selectNow (s : State) (dieTemp : Int) : State :=
  let on := ((List.range 16).filter (fun n => s.slotState n != 0)).length
  let s := s.charge0 (60 + 20 * on)
  let s := { s with ref := { s.ref with frozen := if s.refFrozen then s.ref.frozen + 1 else 0 } }
  let s := (s.puti REFSEL.PHASE_ERR (satS 40 s.phaseErr)).prunePairs
  let s := (s.dieTempIs dieTemp).showHist.lostRows
  let s := if s.refFrozen then s
    else
      let s := s.clearWtr.pickAssist
      let s := match s.ref.switchTo with
        | some b => s.endSwitch b
        | none => s.evaluate
      if s.flag REFSEL.REFSEL_STATUS_SWITCHING then s else s.lockRows.dpll
  let s := s.steerRows
  let s := (s.puti REFSEL.PHASE_ERR (satS 40 s.phaseErr)).showSel
  s.holdSheet.oscJudge.decideOffload.pickClock

/-- SELECTION_SLICE (R18, Table 1-4). -/
def runSelectionSlice (dieTemp : Int) (s : State) : State := (s.atSheetTime (nsU 4000)).selectNow dieTemp

/-- FREEZE_COUNT_EXPIRE (R163, Table 7-4): a clock frozen for more than FREEZE_SHEETS sheets enters HOLDOVER or FREE_RUN. -/
def runFreezeCountExpire (s : State) : State :=
  let cs := s.get REFSEL.REFSEL_STATUS_CLOCK_STATE
  if s.refFrozen = false ∨ s.ref.frozen ≤ s.get REFSEL.REFSEL_CFG_FREEZE_SHEETS then s
  else if cs = 2 then (s.toClock 3 false).showSel
  else if cs = 1 then (s.toClock (if s.flag HOLD.HOLD_STATUS_HIST_VALID then 3 else 0) false).showSel
  else s

/-- The edge that enters HOLDOVER_SERVICE (R157, R160, R173). -/
def State.enterService (s : State) : State :=
  let cs := s.get REFSEL.REFSEL_STATUS_CLOCK_STATE
  let s := { s with ref := { s.ref with wanted := none } }
  if cs ≤ 2 then (s.toClock 3 (cs == 2)).showSel else s

/-- The freeze ends (R163): the LOS time of every slot counts from now. -/
def State.unfreeze (s : State) : State :=
  let slots : List RefSlot := s.ref.slots.map (fun (r : RefSlot) => { r with arr := r.arr.map (fun _ => s.mono) })
  let s := { s with ref := { s.ref with frozen := 0, slots := slots } }
  s.showSel

end Sys2Proof.Machine
end

