-- ==== Sys2Proof/Machine/Module.lean ====
section
/-! DEFINITION. The samples of holdover, the module on the atomic port, and the commands of HOLD (chapter 8). -/

namespace Sys2Proof.Machine

/-! ### The sample of a second (R170, R178) -/

/-- HOLD_SECOND_SAMPLE (R170, R172, R178): the sample of the second just ended, the age of the bins, and the clean seconds. -/
def runHoldSecondSample (s : State) : State :=
  let sec := s.edgeSec
  let s := if s.hold.ok = true ∧ s.hold.n = 8000 ∧ s.flag HOLD.HOLD_STATUS_OSC_FAIL = false then
      let u : Rat := (s.hold.sumU : Rat) / (s.hold.n : Rat)
      let t : Rat := (s.hold.sumT : Rat) / (s.hold.n : Rat)
      let jumped := match s.hold.prev with
        | none => false
        | some p => decide (((s.get HOLD.OSC_JUMP * 1024 : Nat) : Rat) < absQ (u - p))
      if jumped || decide (((s.get HOLD.OSC_LIMIT * 1024 : Nat) : Rat) < absQ u) then s.oscFail.lostNow
      else
        let s := { s with hold := { s.hold with prev := some u } }
        s.storeSample sec u t (!s.hold.stale) s.hold.assisted
    else s
  let s := s.oscJudge
  let s := { s with hold := { s.hold with goodS := if s.hold.bad then 0 else s.hold.goodS + 1, bad := false } }
  ((s.ageBins sec).newSecond).showHist

/-- OSC_GOOD_EXPIRE (R178): OSC_FAIL clears after OSC_GOOD_S consecutive clean seconds. -/
def runOscGoodExpire (s : State) : State :=
  if s.get HOLD.OSC_GOOD_S ≤ s.hold.goodS then s.putB HOLD.HOLD_STATUS_OSC_FAIL false else s

/-! ### Registers with behaviour of their own (R175, R181, R190) -/

/-- EFC_BASE is latched from the code then driven (R181). -/
def State.latchBase (s : State) : State := (s.put HOLD.EFC_BASE (s.get HOLD.EFC_CODE)).showPull

/-- A write of HOLD_CFG or EFC_SENS (R171, R181, R190): HIST_LOG2 and OSC_SRC keep their value outside QUIET, a value the map does
not allow is ignored, a change of either empties the history, and a change of STEER_MODE to 1 or of EFC_SENS latches EFC_BASE. -/
def State.holdCfgWrite (s : State) (o : Origin) (addr v : Nat) : State :=
  let log0 := s.get HOLD.HOLD_CFG_HIST_LOG2
  let osc0 := s.get HOLD.HOLD_CFG_OSC_SRC
  let mode0 := s.get HOLD.HOLD_CFG_STEER_MODE
  let sens0 := s.get HOLD.EFC_SENS
  let v := if addr = 0x120004 ∧ s.mode ≠ 0 then putBits (putBits v 0 5 log0) 11 1 osc0 else v
  s.busStore o addr v true true (fun s =>
    let s := if s.get HOLD.HOLD_CFG_HIST_LOG2 ≠ log0 ∨ s.get HOLD.HOLD_CFG_OSC_SRC ≠ osc0 then s.emptyHist else s
    let s := if (s.get HOLD.HOLD_CFG_STEER_MODE = 1 ∧ mode0 ≠ 1) ∨ s.get HOLD.EFC_SENS ≠ sens0 then s.latchBase else s
    s.showPull.oscJudge)

/-- HOLD_STEER_CFG_WRITE (R181): a write of HOLD_CFG or of EFC_SENS. -/
def runHoldSteerCfgWrite (o : Origin) (addr v : Nat) (s : State) : State :=
  if addr = 0x120004 ∨ addr = 0x12004C then s.holdCfgWrite o addr v else s

/-- A write of HOLD_TEMP: each is fresh, changed or not (R175, Table 8-8). -/
def State.holdTempWrite (s : State) (o : Origin) (v : Nat) : State :=
  s.busStore o 0x12007C v true true (fun s => { s with hold := { s.hold with hostAt := some s.mono } }.showStale)

/-- HOLD_TEMP_WRITE (R175). -/
def runHoldTempWrite (o : Origin) (v : Nat) (s : State) : State := s.holdTempWrite o v

/-! ### The atomic module (R182 to R186) -/

/-- TYPE and payload of a frame from the module, if it holds (R182, Table 8-3). -/
def atomParse (f : List Byte) : Option (Nat × List Byte) :=
  let n := leAt f 2 1
  let t := leAt f 1 1
  let want := if t = 0x81 then 19 else if t = 0x82 then 11 else 7
  if decide (5 ≤ f.length) && leAt f 0 1 == 0xAD && f.length == n + 5 && [0x81, 0x82, 0x83].contains t && n == want &&
      beNat ((f.drop (3 + n)).take 2) == crc16 ((f.drop 1).take (2 + n)) then
    some (t, (f.drop 3).take n)
  else none

/-- The state of the module changes (Table 8-4); a STEER outstanding is abandoned when it leaves READY, and the pull then
reported is taken at the next edge (R186). -/
def State.atomGo (s : State) (st : Nat) : State :=
  let was := s.get HOLD.ATOM_STATUS_STATE
  let s := s.put HOLD.ATOM_STATUS_STATE st
  if was = 3 ∧ st ≠ 3 then { s with hold := { s.hold with steer := none, pullDue := some s.hold.statusPull } }
  else if st = 3 ∧ was ≠ 3 then { s with hold := { s.hold with refused := false } }
  else s

/-- The module is lost (Table 8-4). -/
def State.atomAbsent (s : State) : State :=
  if s.get HOLD.ATOM_STATUS_STATE = 0 then s else (s.atomGo 0).paidEvent 0x0704 0 0 (s.get HOLD.ATOM_STATUS_STATE) 0

/-- Identification starts (Table 8-4). -/
def State.atomIdentStart (s : State) : State :=
  { (s.atomGo 1) with hold := { (s.atomGo 1).hold with identTries := 1, identAt := s.mono, statusAt := s.mono } }.atomSend 0x01 []

/-- IDENT is taken in (Table 8-4): identity, ATOM_FOUND, WARMUP. -/
def State.atomIdentRx (s : State) (p : List Byte) : State :=
  if s.get HOLD.ATOM_STATUS_STATE ≠ 1 then s
  else
    let v := beNat (p.take 2)
    let m := beNat ((p.drop 2).take 2)
    let n := beNat ((p.drop 4).take 4)
    let s := s.puts [(HOLD.ATOM_ID_VENDOR, v), (HOLD.ATOM_ID_MODEL, m), (HOLD.ATOM_SERIAL, n),
      (HOLD.ATOM_FW_FW, beNat ((p.drop 8).take 2)), (HOLD.ATOM_STATUS_CAPS, leAt p 10 1),
      (HOLD.ATOM_RANGE, beNat ((p.drop 11).take 4)), (HOLD.ATOM_FW_STEER_RES, beNat ((p.drop 15).take 2))]
    (s.atomGo 2).paidEvent 0x0703 0 2 (v * 2 ^ 16 + m) n

/-- STATUS is taken in (Table 8-3, Table 8-4). -/
def State.atomStatusRx (s : State) (p : List Byte) : State :=
  let lock := leAt p 0 1
  let s := (s.puts [(HOLD.ATOM_STATUS_LOCK, lock % 8), (HOLD.ATOM_STATUS_ALARMS, beNat ((p.drop 1).take 2)),
    (HOLD.ATOM_TEMP, beNat ((p.drop 3).take 2))])
  let s := { s with hold := { s.hold with atomAt := some s.mono, statusAt := s.mono, statusPull := toS 40 (beNat ((p.drop 5).take 5)) } }
  let st := s.get HOLD.ATOM_STATUS_STATE
  let s :=
    if (st = 2 ∨ st = 4) ∧ lock = 2 then (s.atomGo 3).event 0x0706 0 3
    else if st = 3 ∧ (lock = 0 ∨ lock = 1 ∨ lock = 3) then (s.atomGo 2).event 0x0707 0 2
    else if (st = 2 ∨ st = 3) ∧ lock = 4 then (s.atomGo 4).paidEvent 0x0708 0 4 st 4
    else s
  s.showStale

/-- STEER_ACK is taken in (R186). -/
def State.atomAckRx (s : State) (p : List Byte) : State :=
  match s.hold.steer with
  | none => s
  | some r =>
    if r.seq ≠ leAt p 0 1 then s
    else
      let s := { s with hold := { s.hold with steer := none } }
      if leAt p 6 1 ≤ 1 then
        { s with hold := { s.hold with pullDue := some (toS 40 (beNat ((p.drop 1).take 5))) } }.inc HOLD.OFFLOAD_CNT
      else { s with hold := { s.hold with refused := true } }

/-- A frame arrives from the module while the port is in use (R182): a bad one is counted. -/
def State.atomRx (s : State) (f : List Byte) : State :=
  if s.flag HOLD.ATOM_CFG_ENABLE = false then s
  else
    let s := s.charge0 40
    match atomParse f with
    | none => s.inc HOLD.ATOM_BAD_CNT
    | some (t, p) => (if t = 0x81 then s.atomIdentRx p else if t = 0x82 then s.atomStatusRx p else s.atomAckRx p).oscJudge

/-- ATOM_IDENT (R183, R184). -/
def runAtomIdent (frame : List Byte) (s : State) : State := s.atomRx frame

/-- ATOM_STATUS (R183, R184). -/
def runAtomStatus (frame : List Byte) (s : State) : State := s.atomRx frame

/-- STEER_ACK (R186). -/
def runSteerAck (frame : List Byte) (s : State) : State := s.atomRx frame

/-- ATOM_BAD_FRAME (R182). -/
def runAtomBadFrame (frame : List Byte) (s : State) : State := s.atomRx frame

/-- ATOM_PRESENT_CHANGE (R184): the pin has held a level for 100 ms. -/
def runAtomPresentChange (present : Bool) (s : State) : State :=
  if !present then s.atomAbsent.oscJudge
  else if s.get HOLD.ATOM_STATUS_STATE = 0 ∧ s.flag HOLD.ATOM_CFG_ENABLE = true then s.atomIdentStart
  else s

/-- ATOM_IDENT_RETRY (R184): the request is repeated, and after five the module is NO_ID. -/
def runAtomIdentRetry (s : State) : State :=
  if s.get HOLD.ATOM_STATUS_STATE ≠ 1 ∨ s.reaches (s.hold.identAt + (secU : Nat)) = false then s
  else if 5 ≤ s.hold.identTries then (s.atomGo 5).event 0x0705 0 5
  else { s with hold := { s.hold with identTries := s.hold.identTries + 1, identAt := s.mono } }.atomSend 0x01 []

/-- ATOM_STATUS_TIMEOUT (R184): no valid STATUS for 3 s. -/
def runAtomStatusTimeout (s : State) : State :=
  if s.reaches (s.hold.statusAt + (3 * secU : Nat)) then s.atomAbsent.oscJudge else s

/-- ATOM_STEER_TIMEOUT (R186): the frame is sent once more, then the failure is counted. -/
def runAtomSteerTimeout (s : State) : State :=
  match s.hold.steer with
  | none => s
  | some r =>
    if s.reaches (r.sentAt + (secU / 2 : Nat)) = false then s
    else if r.tries < 2 then s.sendSteer { r with tries := r.tries + 1 }
    else { s with hold := { s.hold with steer := none } }.inc HOLD.ATOM_STEER_FAIL_CNT

/-! ### Commands (R188) -/

/-- HOLD_HISTORY_CLEAR (R171, R188). -/
def runHoldHistoryClear (h : Hdr) (s : State) : State :=
  s.command h 0x70 false (.holdHistoryClear h) 0 (fun s =>
    if s.mode ≠ 0 then s.complete h 0x70 stMODE 0
    else ((s.journalCmd h 0x70 0 0).emptyHist).complete h 0x70 stOK 0)

/-- The records of bins, oldest first, as the HIF master reads them; none when one cannot be read (R407). -/
def State.binData (s : State) : List HistBin → Option (List Byte) × State
  | [] => (some [], s)
  | b :: bs =>
    let r := s.vatRead 11 (s.binAddr b.start) 16
    let q := State.binData r.2 bs
    match r.1, q.1 with
    | .ok x, some y => (some (x ++ y), q.2)
    | _, _ => (none, q.2)

/-- HOLD_HISTORY_READ (R188): the bins of Table 8-1, oldest first. -/
def runHoldHistoryRead (h : Hdr) (addr : Nat) (s : State) : State :=
  s.command h 0x71 true (.holdHistoryRead h addr) (4 * s.hold.bins.length + dmaStock (16 * s.hold.bins.length)) (fun s =>
    let n := s.hold.bins.length
    let q := s.binData s.hold.bins
    match q.1 with
    | some b => q.2.dataOut h 0x71 addr b n
    | none => q.2.complete h 0x71 stDMA 0)

/-- ATOM_RESCAN (R188). -/
def runAtomRescan (h : Hdr) (s : State) : State :=
  s.command h 0x72 false (.atomRescan h) 0 (fun s =>
    if s.get HOLD.ATOM_STATUS_STATE ≠ 5 then s.complete h 0x72 stNOTREADY 0
    else ((s.atomIdentStart).journalCmd h 0x72 0 0).complete h 0x72 stOK 0)

end Sys2Proof.Machine
end

