-- ==== Sys2Proof/Machine/Frames.lean ====
section
/-! DEFINITION. Frames, addresses and the wire of the ports (chapter 11). -/

namespace Sys2Proof.Machine

/-! ### Frames as they arrive -/

/-- An Ethernet frame without its FCS, taken apart. -/
structure EthIn where
  dst : List Byte
  src : List Byte
  tci : Option Nat
  etype : Nat
  payload : List Byte
  deriving DecidableEq, Repr

/-- Bytes `off` to `off + n - 1` of a packet as a number, network order. -/
def beAt (b : List Byte) (off n : Nat) : Nat := beNat ((b.drop off).take n)

/-- Bytes `off` to `off + n - 1`. -/
def cut (b : List Byte) (off n : Nat) : List Byte := (b.drop off).take n

/-- A frame taken apart, with one VLAN tag where it carries one. -/
def ethParse (b : List Byte) : EthIn :=
  if beAt b 12 2 = 0x8100 then ⟨b.take 6, cut b 6 6, some (beAt b 14 2), beAt b 16 2, b.drop 18⟩
  else ⟨b.take 6, cut b 6 6, none, beAt b 12 2, b.drop 14⟩

/-- A UDP datagram with its addresses (4 or 16 bytes). -/
structure UdpIn where
  v6 : Bool
  src : List Byte
  dst : List Byte
  sport : Nat
  dport : Nat
  payload : List Byte
  deriving DecidableEq, Repr

/-- The datagram after a UDP header. -/
def udpOf (v6 : Bool) (src dst b : List Byte) : UdpIn := ⟨v6, src, dst, beAt b 0 2, beAt b 2 2, cut b 8 (beAt b 4 2 - 8)⟩

/-- Whether an IPv4 packet has no options and is no fragment. -/
def plainV4 (b : List Byte) : Bool := beAt b 0 1 == 0x45 && beAt b 6 2 % 0x4000 == 0

/-- The UDP datagram of a frame without IP options, extension headers or fragments (R241). -/
def udpParse (e : EthIn) : Option UdpIn :=
  let b := e.payload
  if e.etype = 0x0800 then
    if plainV4 b && beAt b 9 1 == 17 then some (udpOf false (cut b 12 4) (cut b 16 4) (cut b 20 (beAt b 2 2 - 20))) else none
  else if e.etype = 0x86DD then
    if beAt b 0 1 / 16 == 6 && beAt b 6 1 == 17 then some (udpOf true (cut b 8 16) (cut b 24 16) (cut b 40 (beAt b 4 2))) else none
  else none

/-- An ICMPv6 message of a frame: hop limit, source, the message. -/
def icmpParse (e : EthIn) : Option (Nat × List Byte × List Byte) :=
  let b := e.payload
  if e.etype == 0x86DD && beAt b 0 1 / 16 == 6 && beAt b 6 1 == 58 then some (beAt b 7 1, cut b 8 16, cut b 40 (beAt b 4 2)) else none

/-! ### Addresses of a port (R241) -/

/-- The MAC address of a port, in packet order. -/
def State.portMac (s : State) (p : Nat) : List Byte := beBytes 6 (s.get (MAC.MAC_ADDR p))

/-- The enabled IPv4 timing addresses of a port. -/
def State.ta4 (s : State) (p : Nat) : List (List Byte) :=
  (bitsOf 4 (s.get (MAC.TA_EN_V4 p))).map (fun i => beBytes 4 (s.get (MAC.TA_V4 p i)))

/-- The enabled IPv6 timing addresses of a port. -/
def State.ta6 (s : State) (p : Nat) : List (List Byte) :=
  (bitsOf 4 (s.get (MAC.TA_EN_V6 p))).map (fun i => (List.range 4).flatMap (fun j => beBytes 4 (s.get (MAC.TA_V6 p i j))))

/-- Whether an address is an enabled timing address of a port. -/
def State.isTa (s : State) (p : Nat) (v6 : Bool) (a : List Byte) : Bool := (if v6 then s.ta6 p else s.ta4 p).contains a

/-- A tag with the VLAN of the port, where HB_CFG gives it one (R241). -/
def State.ownTag (s : State) (p tc : Nat) : Option Nat :=
  if s.flag (MAC.HB_CFG_VLAN_EN p) then some (Config.vlanPcp tc % 16 * 4096 + s.get (MAC.HB_CFG_VLAN_ID p)) else none

/-! ### Frames as they leave -/

/-- The ones' complement checksum of bytes. -/
def csum16 (b : List Byte) : Nat :=
  let t := ((piecesOf 2 (b.length / 2 + 1) b).map (fun w => if w.length = 1 then beNat w * 256 else beNat w)).foldl (· + ·) 0
  65535 - (if t = 0 then 0 else (t - 1) % 65535 + 1)

/-- A checksum that computes as 0 is sent as 0xFFFF (R255). -/
def csumOut (v : Nat) : Nat := if v = 0 then 0xFFFF else v

/-- An IPv4 header without options. -/
def ipv4Head (dscp hop proto n : Nat) (src dst : List Byte) : List Byte :=
  let h := fun (c : Nat) => beBytes 1 0x45 ++ beBytes 1 (dscp % 64 * 4) ++ beBytes 2 (20 + n) ++ beBytes 4 (Config.ipv4Id % 2 ^ 32) ++
    beBytes 1 hop ++ beBytes 1 proto ++ beBytes 2 c ++ src ++ dst
  h (csum16 (h 0))

/-- An IPv6 header. -/
def ipv6Head (dscp hop next n : Nat) (src dst : List Byte) : List Byte :=
  beBytes 4 (6 * 2 ^ 28 + dscp % 64 * 4 * 2 ^ 20 + Config.ipv6Flow % 2 ^ 20) ++ beBytes 2 n ++ beBytes 1 next ++ beBytes 1 hop ++ src ++ dst

/-- A datagram of a transport protocol with its checksum over the pseudo-header, at offset `at_` of the datagram. -/
def l4Sum (proto at_ : Nat) (src dst b : List Byte) : List Byte :=
  let c := csum16 (src ++ dst ++ beBytes 4 b.length ++ beBytes 4 proto ++ b)
  b.take at_ ++ beBytes 2 (if proto = 17 then csumOut c else c) ++ b.drop (at_ + 2)

/-- A UDP datagram with its checksum. -/
def udpOut (d : Dest) (b : List Byte) : List Byte :=
  l4Sum 17 6 d.src d.dst (beBytes 2 d.sport ++ beBytes 2 d.dport ++ beBytes 2 (b.length + 8) ++ beBytes 2 0 ++ b)

/-- An Ethernet frame, padded to its least length. -/
def ethOut (dst src : List Byte) (tci : Option Nat) (etype : Nat) (b : List Byte) : List Byte :=
  let f := dst ++ src ++ (match tci with | some t => beBytes 2 0x8100 ++ beBytes 2 t | none => []) ++ beBytes 2 etype ++ b
  f ++ List.replicate (60 - f.length) 0

/-- The redundancy trailer with a sequence number of a message of a dual-fed flow after a payload of `n` bytes (R290). -/
def State.prpTrailer (s : State) (q n : Nat) : List Byte :=
  beBytes 2 q ++ beBytes 2 (s.get PTP.PRP_CFG * 4096 + (n + 6) % 4096) ++ beBytes 2 0x88FB

/-- What stands between the Ethernet header and the end of a message's frame. -/
def wrapOf (d : Dest) (b : List Byte) : List Byte :=
  if d.transport = 0 then b
  else
    let u := udpOut d b
    (if d.transport = 1 then ipv4Head d.dscp d.hop 17 u.length d.src d.dst else ipv6Head d.dscp d.hop 17 u.length d.src d.dst) ++ u

/-- The Ethertype of a transport. -/
def etypeOf (t : Nat) : Nat := if t = 0 then 0x88F7 else if t = 1 then 0x0800 else 0x86DD

/-- The frame of a message from a port; with a flow, its trailer with the flow's number `q` follows the payload (R290). -/
def State.wrap (s : State) (p : Nat) (d : Dest) (b : List Byte) (q : Nat) : List Byte :=
  let w := wrapOf d b
  match d.flow with
  | none => ethOut d.dmac (s.portMac p) d.tci (etypeOf d.transport) w
  | some _ =>
    let w := w ++ List.replicate (40 - w.length) 0
    ethOut d.dmac (s.portMac p) d.tci (etypeOf d.transport) (w ++ s.prpTrailer q w.length)

/-- The length, with the FCS, of the frame of a message of `n` bytes. -/
def frameLen (d : Dest) (n : Nat) : Nat :=
  max 64 (18 + (if d.tci.isSome then 4 else 0) + (if d.transport = 0 then 0 else if d.transport = 1 then 28 else 48) + n +
    (if d.flow.isSome then 6 else 0))

/-! ### The wire (Table 11-1) -/

/-- A length in 2⁻¹⁶ ns units of `n` bytes at a rate, rounded up: 0.32, 0.8 and 8 ns a byte. -/
def wireUnits (rate n : Nat) : Nat := (n * byteTime rate * 131072 + 24) / 25

/-- The time a frame of a length with its FCS holds the wire, with preamble and gap (R244). -/
def holdUnits (rate len : Nat) : Nat := wireUnits rate (len + 20)

/-- The launch grid G in units of 2⁻¹⁶ ÷ 25 ns. -/
def gridStep (rate : Nat) : Nat := if rate = 0 then 4194304 else if rate = 1 then 5242880 else 26214400

/-- A port. -/
def State.port (s : State) (p : Nat) : PortSt := nth s.mac.ports p {}

/-- The state with a port changed. -/
def State.setPort (s : State) (p : Nat) (q : PortSt) : State := { s with mac := { s.mac with ports := setNth s.mac.ports p q } }

/-- Field `f` of the port item in force, at offset 4f: TX_INT, RX_INT, TX_EXT, RX_EXT signed in 2⁻¹⁶ ns, then U_INT, U_EXT in ps
(Table 20-6). -/
def State.portSize (s : State) (p f : Nat) : Int :=
  match s.userItem (0x100 + p) with
  | some i => if f < 4 then toS 32 (leAt i.body (4 * f) 4) else (leAt i.body (4 * f) 4 : Nat)
  | none => if f = 0 then Config.factoryPort p 0 else if f = 1 then Config.factoryPort p 1
            else if f = 4 then Config.factoryPort p 2 else 0

/-- The launch instant of a TICK in a sheet that begins at a time (R234): the first grid instant at or after it, plus the port's fixed
internal path. -/
def State.launchFrom (s : State) (p edge tick : Nat) : Nat :=
  let g := gridStep (s.get (MAC.PORT_CFG_RATE p))
  let ph := s.get (MAC.GRID_PHASE p) * 25
  let t := tick * 2621440
  let k := (t - ph + g - 1) / g
  ((edge : Int) + roundDiv ((ph + k * g : Nat) : Int) 25 + s.portSize p 0).toNat

/-- The launch instant of a TICK in the present sheet. -/
def State.launchAt (s : State) (p tick : Nat) : Nat := s.launchFrom p s.time.edge tick

/-- The transmit timestamp of a launch instant (R237). -/
def State.txStamp (s : State) (p l : Nat) : Nat := ((l : Int) + s.portSize p 2).toNat

/-- A frame leaves a port; `len` is its length with the FCS. -/
def State.sendFrame (s : State) (p at_ : Nat) (b : List Byte) : State :=
  let q := s.port p
  let s := s.setPort p { q with wireFree := at_ + holdUnits (s.get (MAC.PORT_CFG_RATE p)) (b.length + 4) }
  s.emit (.frame p at_ b)

/-- A frame joins the unscheduled frames of a port (R245); none on a port whose link is down. -/
def State.queueTx (s : State) (p : Nat) (f : UFrame) : State :=
  let q := s.port p
  s.setPort p { q with unsched := q.unsched ++ [f] }

/-! ### Answers and announcements of addresses (R309 to R311) -/

/-- The multicast MAC of an IPv6 group. -/
def groupMac (a : List Byte) : List Byte := beBytes 2 0x3333 ++ a.drop 12

/-- All nodes, FF02::1. -/
def allNodes : List Byte := beBytes 16 (0xFF02 * 2 ^ 112 + 1)

/-- An ARP message from a port. -/
def State.arpOut (s : State) (p op : Nat) (dmac : List Byte) (tci : Option Nat) (sip tmac tip : List Byte) : List Byte :=
  ethOut dmac (s.portMac p) tci 0x0806
    (beBytes 8 (0x0001080006040000 + op) ++ s.portMac p ++ sip ++ tmac ++ tip)

/-- A Neighbour Advertisement from a port, with S and O as given, R clear and the target link-layer address option. -/
def State.naOut (s : State) (p : Nat) (dmac : List Byte) (tci : Option Nat) (target dst : List Byte) (sol : Bool) : List Byte :=
  let m := beBytes 4 (136 * 2 ^ 24) ++ beBytes 4 ((if sol then 2 ^ 30 else 0) + 2 ^ 29) ++ target ++ beBytes 2 0x0201 ++ s.portMac p
  ethOut dmac (s.portMac p) tci 0x86DD (ipv6Head 0 255 58 m.length target dst ++ l4Sum 58 2 target dst m)

/-- A frame of R309 to R311 joins the unscheduled frames. -/
def State.answer (s : State) (p : Nat) (cnt : Fld) (b : List Byte) : State :=
  (s.inc cnt).queueTx p { tc := Config.answerTc % 8, engine := true, bytes := b }

/-- Announcement of timing addresses (R311). -/
def State.announce (s : State) (p : Nat) (v4 v6 : List (List Byte)) : State :=
  let tag := s.ownTag p (Config.answerTc % 8)
  let s := v4.foldl (fun s a => (s.pay 2 250).answer p NTS.ARP_ANS_CNT
    (s.arpOut p 1 (List.replicate 6 0xFF) tag a (List.replicate 6 0) a)) s
  v6.foldl (fun s a => (s.pay 2 250).answer p NTS.ND_ANS_CNT (s.naOut p (groupMac allNodes) tag a allNodes false)) s

end Sys2Proof.Machine
end

