-- ==== Sys2Proof/Machine/Link.lean ====
section
/-! DEFINITION. Modules, links, grid phases and sizing of the ports (chapter 11). -/

namespace Sys2Proof.Machine

/-! ### The reference of a port (R233, R203) -/

/-- f_OSC in Hz (Table 9-1). -/
def State.oscHz (s : State) : Nat :=
  if s.get SYN.SYSPLL_CFG_OSC_SEL = 0 then 10000000 else if s.get SYN.SYSPLL_CFG_OSC_SEL = 1 then 20000000 else 25000000

/-- f_VCO of a plan in Hz without y (R203). -/
def State.planHz (s : State) (c : CalPlan) : Rat :=
  2 * (s.oscHz : Rat) / ((c.cref + 1 : Nat) : Rat) * ((c.nint : Rat) + (c.nfrac : Rat) / 2 ^ 40)

/-- The plan in force on a calender. -/
def State.plan (s : State) (k : Nat) : CalPlan := nth s.syn.plans k ⟨0, 125, 0⟩

/-- Whether a calender is locked. -/
def State.calLocked (s : State) (k : Nat) : Bool := s.get (SYN.CAL_STAT_STATE k) == 2

/-- Whether a calender serves as reference: locked, at exactly 5.000 GHz (R233). -/
def State.calFive (s : State) (k : Nat) : Bool := s.calLocked k && s.planHz (s.plan k) == 5000000000

/-! ### Frames discarded with a link (R232) -/

/-- NEG_PENDING shows the requests and cancels whose answers wait (R275). -/
def State.showNeg (s : State) : State :=
  let n := fun (r : Reply) => match r.body with
    | .ptp m => m.neg
    | .ntp _ => 0
  s.put PTP.NEG_PENDING (satN 13 ((s.mac.ports.flatMap (fun (q : PortSt) => q.replies.map n)).foldl (· + ·) 0))

/-- A TX_DONE is posted to the PAIR of its ring, or waits for room (R379, R388). -/
def State.txDone (s : State) (d : TxDone) (status : Nat) : State :=
  let o := if s.flag (HIF.RING_CFG_FN d.ring) then Origin.pf1 else Origin.pf0
  let c : Completion := ⟨0x0FFF, 0, status, false, o, d.ring, d.cookie, s.sheetNo, d.index⟩
  let n := s.get (HIF.RING_CFG_PAIR d.ring)
  let s := s.pay 3 10
  if s.ringRoom n 1 then s.ringWrite n [.completion c] else { s with hif := { s.hif with compl := s.hif.compl ++ [c] } }

/-- Queued replies and unscheduled frames of a port are discarded with its link (R232, R388). -/
def State.dropTx (s : State) (p : Nat) : State :=
  let q := s.port p
  let s := (s.setPort p { q with replies := [], unsched := [] }).showNeg
  q.unsched.foldl (fun s f => match f.done with
    | some d => s.txDone d stDISCARDED
    | none => s) s

/-! ### Module and link states (Table 11-4) -/

/-- A link event with its journal entry, class 3 work of 2,000 stock (Table 11-5). -/
def State.linkEvent (s : State) (code p old new : Nat) : State :=
  ((s.pay 3 2000).eventIn code p new).journal .auto 3 p old new code

/-- The link leaves LINKING or UP; every exit from UP raises LINK_DOWN and counts it (R256). -/
def State.linkDrop (s : State) (p dest : Nat) : State :=
  let lk := s.get (MAC.PORT_STATUS_LINK p)
  let s := s.puts [(MAC.PORT_STATUS_LINK p, dest), (MAC.PORT_STATUS_FEC_LOCK p, 0), (MAC.PORT_STATUS_LPI_TX p, 0),
    (MAC.PORT_STATUS_LPI_RX p, 0)]
  if lk = 2 then ((s.dropTx p).inc (MAC.LINK_DOWN_CNT p)).linkEvent 0x0805 p 2 dest else s

/-- Whether a port may leave PRESENT: RATE not 3, REF_BAD 0, TXDIS 0, and no sizing holds the link down (R258). -/
def State.portAble (s : State) (p : Nat) : Bool :=
  s.get (MAC.PORT_CFG_RATE p) != 3 && !s.flag (MAC.PORT_STATUS_REF_BAD p) && !s.flag (MAC.MOD_CTRL_TXDIS p) && (s.port p).sizing.isNone

/-- Whether RS-FEC is in use on a port: only at 25GBASE-R (R231). -/
def State.fecOn (s : State) (p : Nat) : Bool := s.flag (MAC.PORT_CFG_FEC p) && s.get (MAC.PORT_CFG_RATE p) == 0

/-- MOD_TXDISp: asserted but while the port is LINKING or UP (Table 11-4). -/
def State.modTxDis (s : State) (p : Nat) : Bool := s.get (MAC.PORT_STATUS_LINK p) == 0

/-- REF_BAD of a port is judged again, and the rows of Table 11-4 between PRESENT and LINKING apply. -/
def State.portEval (s : State) (p : Nat) : State :=
  let s := s.putB (MAC.PORT_STATUS_REF_BAD p) (s.get (MAC.PORT_CFG_RATE p) != 3 && !s.calFive (s.get (MAC.PORT_CFG_REF_CAL p)))
  let lk := s.get (MAC.PORT_STATUS_LINK p)
  if s.get (MAC.PORT_STATUS_MOD_STATE p) ≠ 2 then s
  else if lk = 0 then (if s.portAble p then s.put (MAC.PORT_STATUS_LINK p) 1 else s)
  else if s.portAble p then s else s.linkDrop p 0

/-- REF_BAD of the couch lanes (R342). -/
def State.pairRef (s : State) : State :=
  s.putB COUCH.PAIR_STATUS_REF_BAD (s.flag COUCH.PAIR_CFG_EN && !s.calFive (s.get COUCH.PAIR_CFG_REF_CAL))

/-- Every port and the couch lanes after a calender has changed. -/
def State.refsEval (s : State) : State := ((List.range 8).foldl State.portEval s).pairRef

/-- What the sizing in force and RATE show of a port (R237, R239). -/
def State.showPort (s : State) (p : Nat) : State :=
  let r := s.get (MAC.PORT_CFG_RATE p)
  ((s.puti (MAC.TX_EXT p) (s.portSize p 2)).puti (MAC.RX_EXT p) (s.portSize p 3)).puts
    [(MAC.U_EXT p, (s.portSize p 5).toNat), (MAC.TS_UNC p, if r = 0 then 30 else if r = 1 then 40 else if r = 2 then 150 else 0)]

/-- How far apart two grid phases are, in units of 2⁻¹⁶ ÷ 25 ns: a phase is the place of the grid within its step. -/
def gridApart (rate a b : Nat) : Nat :=
  let g := gridStep rate
  let d := (25 * a - 25 * b + (25 * b - 25 * a)) % g
  min d (g - d)

/-- A port at a sheet edge: the grid phase measured in the sheet that ended is in use from now (R234, R240), a jump beyond 100 ps
stops scheduled launches until 8 sheets agree; what its circuits report; sizing; the reference. -/
def State.portEdge (s : State) (p : Nat) (e : PortEdge) : State :=
  if s.get (MAC.PORT_CFG_RATE p) = 3 then ((s.setPort p { s.port p with grid := none, agree := 0 }).showPort p).portEval p
  else
    let q := s.port p
    let s := if s.flag TIME.TIME_STATUS_COARSE then s
      else
        let s := s.charge0 20
        let jump := q.grid.any (fun g => decide (163840 < gridApart (s.get (MAC.PORT_CFG_RATE p)) e.grid g))
        let agree := if jump then 0 else min 8 (q.agree + 1)
        let s := s.setPort p { q with grid := some e.grid, agree := agree }
        let s := s.put (MAC.GRID_PHASE p) e.grid
        if jump then s.putB (MAC.PORT_STATUS_GRID_JUMP p) true
        else if agree = 8 then s.putB (MAC.PORT_STATUS_GRID_JUMP p) false else s
    let up := s.get (MAC.PORT_STATUS_LINK p) == 2
    let s := (s.incBy (MAC.FEC_CORR p) e.fecCorr).incBy (MAC.FEC_UNCORR p) e.fecUncorr
    let s := (s.putB (MAC.PORT_STATUS_FEC_LOCK p) (up && s.fecOn p && e.fecLock)).putB (MAC.PORT_STATUS_LPI_RX p) (up && e.lpiRx)
    (s.showPort p).portEval p

/-- MOD_PRS_CHANGE (Table 11-4): the module is gone, or a new one is read. A transfer in progress ends with it. -/
def runModPrsChange (p : Nat) (high : Bool) (s : State) : State :=
  let st := s.get (MAC.PORT_STATUS_MOD_STATE p)
  if high then
    if st = 0 then s
    else
      let s := (s.linkDrop p 0).put (MAC.PORT_STATUS_MOD_STATE p) 0
      let ops := (s.port p).mods
      let q := s.port p
      let s := s.setPort p { q with mods := [], ident := [] }
      let s := ops.foldl (fun s (m : ModOp) => s.complete m.cmd (if m.rd.isSome then 0x92 else 0x93) stABORTED 0) s
      s.linkEvent 0x0802 p st 0
  else if st = 0 then
    let q := s.port p
    (s.setPort p { q with reads := 0 }).put (MAC.PORT_STATUS_MOD_STATE p) 1
  else s

/-- The checksums of the identity (bytes 63 and 95) hold. -/
def identOk (b : List Byte) : Bool :=
  let sum := fun (l : List Byte) => (l.map (·.toNat)).foldl (· + ·) 0 % 256
  b.length == 96 && sum (b.take 63) == leAt b 63 1 && sum (cut b 64 31) == leAt b 95 1

/-- MODULE_READ_DONE (Table 11-4): a read that completes with a good checksum makes the module PRESENT; the third failure leaves it
UNREADABLE, or PRESENT on a port with a fixed link (R256). -/
def runModuleReadDone (p : Nat) (ok : Bool) (b : List Byte) (s : State) : State :=
  if s.get (MAC.PORT_STATUS_MOD_STATE p) ≠ 1 then s
  else
    let q := s.port p
    if ok && identOk b then
      let s := (s.setPort p { q with ident := b, reads := 0 }).puts [(MAC.PORT_STATUS_MOD_STATE p, 2), (MAC.MOD_INFO_IDENT p, leAt b 0 1),
        (MAC.MOD_INFO_EXT_IDENT p, leAt b 1 1), (MAC.MOD_INFO_CONNECTOR p, leAt b 2 1)]
      (s.linkEvent 0x0801 p 1 2).portEval p
    else if q.reads + 1 < 3 then s.setPort p { q with reads := q.reads + 1 }
    else
      let s := s.setPort p { q with reads := 0 }
      if s.flag (MAC.MOD_CTRL_FIXED p) then (s.put (MAC.PORT_STATUS_MOD_STATE p) 2).portEval p
      else ((s.put (MAC.PORT_STATUS_MOD_STATE p) 3).pay 3 2000).eventIn 0x0803 p 3

/-- PORT_LINK_UP (Table 11-4, R311): a LINKING port is UP, and announces its timing addresses. -/
def runPortLinkUp (p : Nat) (s : State) : State :=
  if s.get (MAC.PORT_STATUS_LINK p) = 1 ∧ s.get (MAC.PORT_STATUS_MOD_STATE p) = 2 then
    let s := (s.put (MAC.PORT_STATUS_LINK p) 2).putB (MAC.PORT_STATUS_FEC_LOCK p) (s.fecOn p)
    let s := s.linkEvent 0x0804 p 1 2
    s.announce p (s.ta4 p) (s.ta6 p)
  else s

/-- PORT_LINK_DOWN (Table 11-4): an UP port is LINKING. -/
def runPortLinkDown (p : Nat) (s : State) : State := if s.get (MAC.PORT_STATUS_LINK p) = 2 then s.linkDrop p 1 else s

/-- PORT_CFG_WRITE (R232, Table 11-4): a posted write; at once, the link goes down and frames in staging are discarded. -/
def runPortCfgWrite (o : Origin) (p v : Nat) (s : State) : State :=
  s.busPost o (0x180004 + 0x4000 * p) v true (fun s =>
    let s := if s.get (MAC.PORT_STATUS_LINK p) = 0 then s
      else if v % 4 = 3 then s.linkDrop p 0
      else if s.get (MAC.PORT_STATUS_LINK p) = 2 then s.linkDrop p 1 else s
    let q := s.port p
    (s.setPort p { q with rx := [] }).dropTx p)

/-- MOD_TXDIS_WRITE (Table 11-4): a posted write; TXDIS 1 takes the link down at once. -/
def runModTxdisWrite (o : Origin) (p v : Nat) (s : State) : State :=
  s.busPost o (0x1800D0 + 0x4000 * p) v true (fun s =>
    if v % 2 = 1 ∧ s.get (MAC.PORT_STATUS_LINK p) ≠ 0 then s.linkDrop p 0 else s)

/-- What follows when a posted write of a port has been applied (R233, R256). -/
def State.portApplied (s : State) (p : Nat) : State :=
  let s := if s.get (MAC.PORT_STATUS_MOD_STATE p) = 3 ∧ s.flag (MAC.MOD_CTRL_FIXED p) = true then s.put (MAC.PORT_STATUS_MOD_STATE p) 2 else s
  (s.showPort p).portEval p

/-! ### Module commands (R257) -/

/-- Whether the module of a port can be reached. -/
def State.modReady (s : State) (p : Nat) : Bool := s.get (MAC.PORT_STATUS_MOD_STATE p) == 2

/-- MOD_READ (R257): completes when the bytes have been read. -/
def runModRead (h : Hdr) (p dev off len addr : Nat) (s : State) : State :=
  s.command h 0x92 true (.modRead h p dev off len addr) (dmaStock len) (fun s =>
    if 7 < p ∨ len = 0 ∨ 256 < len then s.complete h 0x92 stINVALID 0
    else if !s.modReady p then s.complete h 0x92 stNOTREADY 0
    else
      let q := s.port p
      s.setPort p { q with mods := q.mods ++ [ModOp.mk h dev off (some (addr, len)) []] })

/-- MOD_WRITE (R257): completes when the bytes have been written. -/
def runModWrite (h : Hdr) (p dev off : Nat) (data : List Byte) (s : State) : State :=
  s.command h 0x93 false (.modWrite h p dev off data) 0 (fun s =>
    if 7 < p ∨ data.length = 0 ∨ 8 < data.length then s.complete h 0x93 stINVALID 0
    else if !s.modReady p then s.complete h 0x93 stNOTREADY 0
    else
      let q := s.port p
      let s := s.setPort p { q with mods := q.mods ++ [ModOp.mk h dev off none data] }
      s.journalCmd h 0x93 (p + 256 * dev + 65536 * off + 2 ^ 24 * data.length) (leNat data))

/-- MOD_TRANSFER_DONE (R257): the oldest transfer of a port ends; a transfer that the module does not acknowledge is ABORTED. -/
def runModTransferDone (p : Nat) (ok : Bool) (b : List Byte) (s : State) : State :=
  match (s.port p).mods with
  | [] => s
  | m :: ms =>
    let q := s.port p
    let s := s.setPort p { q with mods := ms }
    match m.rd with
    | some (addr, len) =>
      if ok && b.length == len then s.dataOut m.cmd 0x92 addr b 0 else s.complete m.cmd 0x92 stABORTED 0
    | none =>
      if ok then (s.emit (.module p m.dev m.off m.data)).complete m.cmd 0x93 stOK 0 else s.complete m.cmd 0x93 stABORTED 0

/-- MOD_RESCAN (Table 11-4): an UNREADABLE module is read again. -/
def runModRescan (h : Hdr) (p : Nat) (s : State) : State :=
  s.command h 0x94 false (.modRescan h p) 0 (fun s =>
    if 7 < p then s.complete h 0x94 stINVALID 0
    else if s.get (MAC.PORT_STATUS_MOD_STATE p) ≠ 3 then s.complete h 0x94 stNOTREADY 0
    else
      let q := s.port p
      ((((s.setPort p { q with reads := 0 }).put (MAC.PORT_STATUS_MOD_STATE p) 1)).journalCmd h 0x94 p 0).complete h 0x94 stOK 0)

/-! ### Sizing of the port delays (R258) -/

/-- PORT_SIZE (R258): in SIZING, the link goes down and the round trip is measured; completes when sizing ends. -/
def runPortSize (h : Hdr) (p : Nat) (s : State) : State :=
  s.command h 0x90 false (.portSize h p) 0 (fun s =>
    if s.mode ≠ 1 then s.complete h 0x90 stMODE 0
    else if 7 < p then s.complete h 0x90 stINVALID 0
    else if (s.port p).sizing.isSome then s.complete h 0x90 stBUSY 0
    else
      let s := if s.get (MAC.PORT_STATUS_LINK p) = 0 then s else s.linkDrop p 0
      let q := s.port p
      (s.setPort p { q with sizing := some h }).journalCmd h 0x90 p 0)

/-- The body of a port's item (Table 20-6). -/
def portBody (l : List Int) (u : List Nat) : List Byte := l.flatMap (fun i => leBytes 4 (ofS 32 i)) ++ u.flatMap (leBytes 4)

/-- PORT_SIZE_DONE (R258): the round trip in ps is divided by the factory ratio and written to user sizing; the link is restored. -/
def runPortSizeDone (p trip : Nat) (s : State) : State :=
  match (s.port p).sizing with
  | none => s
  | some h =>
    let q := s.port p
    let s := s.setPort p { q with sizing := none }
    let a := Config.factoryPort p 0
    let b := Config.factoryPort p 1
    let share : Rat := if a + b = 0 then Config.factoryShare p else (a : Rat) / ((a + b : Int) : Rat)
    let tx := roundQ (psU ((trip : Rat) * share))
    let rx := roundQ (psU (trip : Rat)) - tx
    let s := s.sizeItem h.origin (0x100 + p) s.taiSec
      (portBody [tx, rx, s.portSize p 2, s.portSize p 3] [Config.sizedUInt p trip, (s.portSize p 5).toNat])
    (s.portEval p).complete h 0x90 stOK trip

/-- The mode leaves SIZING with a port's sizing in progress: it ends before completion. -/
def State.abortPortSize (s : State) : State :=
  (List.range 8).foldl (fun s p =>
    match (s.port p).sizing with
    | none => s
    | some h =>
      let q := s.port p
      ((s.setPort p { q with sizing := none }).portEval p).complete h 0x90 stABORTED 0) s

/-- PORT_EXT_SET (R258): in SIZING, the external delays are written to user sizing. -/
def runPortExtSet (h : Hdr) (p : Nat) (tx rx : Int) (u : Nat) (s : State) : State :=
  s.command h 0x91 false (.portExtSet h p tx rx u) 0 (fun s =>
    if s.mode ≠ 1 then s.complete h 0x91 stMODE 0
    else if 7 < p then s.complete h 0x91 stINVALID 0
    else
      let s := s.sizeItem h.origin (0x100 + p) s.taiSec
        (portBody [s.portSize p 0, s.portSize p 1, tx, rx] [(s.portSize p 4).toNat, u])
      (s.journalCmd h 0x91 (p + 2 ^ 32 * ofS 32 tx) (ofS 32 rx + 2 ^ 32 * u)).complete h 0x91 stOK 0)

end Sys2Proof.Machine
end

