-- ==== Sys2Proof/Machine/Syn.lean ====
section
/-! DEFINITION. Synthesis, clean-up and outputs (chapter 9). -/

namespace Sys2Proof.Machine

/-! ### Squelch (R212, Table 9-5) -/

/-- Whether a condition squelches every output (R212). -/
def State.squelchAll (s : State) : Bool :=
  let cs := s.get REFSEL.REFSEL_STATUS_CLOCK_STATE
  !servingMode s.mode || !s.flag SYN.SYN_STATUS_OSC_ACT || (cs == 4 && s.getT SYN.OUT_EN_SQ_LOST == 1) ||
    (cs == 0 && s.getT SYN.OUT_EN_SQ_FREE == 1) || s.flt.squelch

/-- Whether f_VCO of a calender is a whole number of hertz (R209). -/
def State.wholeHz (s : State) (k : Nat) : Bool := (s.planHz (s.plan k)).den == 1

/-- f_VCO of a calender as it follows y (R203). -/
def State.vcoHz (s : State) (k : Nat) : Rat := s.planHz (s.plan k) * (1 + ((nth s.syn.calY k 0 : Int) : Rat) / 2 ^ 10 / 10 ^ 12)

/-- What a clock output's pins carry (R204, R206, R212): its clock, delayed by its skew and by the phase its calender has moved; low; or nothing.
A squelched output is low on P and high on N, or at high impedance. -/
def State.clockPin (s : State) (n : Nat) (squelched : Bool) : PinDrive :=
  let k := s.get (SYN.OUT_CFG_SRC n)
  if squelched then (if s.flag (SYN.OUT_CFG_SQ_HIZ n) then .hiz else .low)
  else if s.flag (SYN.OUT_STAT_HELD_LOW n) || !s.calLocked k then .low
  else .clock (s.vcoHz k / ((nth s.syn.outs n {}).div : Rat)) ((s.get (SYN.OUT_SKEW n) : Int) + s.geti (SYN.CAL_PHASE k)) (s.flag (SYN.OUT_CFG_INV n))
    (s.get (SYN.OUT_CFG_FMT n))

/-- What a PPS output's pin carries between pulses (R209, R212): its inactive level, or nothing where a squelched one is at high impedance. -/
def State.ppsPin (s : State) (k : Nat) (squelched : Bool) : PinDrive :=
  if squelched && s.flag (SYN.PPS_CFG_SQ_HIZ k) then .hiz else if s.flag (SYN.PPS_CFG_POL k) then .high else .low

/-- What the outputs show and carry (R209, R212). -/
def State.showOuts (s : State) : State :=
  let sq := s.squelchAll
  let s := (List.range 16).foldl (fun s n =>
    let q := sq || !bitOf (s.getT SYN.OUT_EN_CLK) n
    let s := s.puts [(SYN.OUT_STAT_SQUELCHED n, if q then 1 else 0),
      (SYN.OUT_STAT_DRIVEN n, if !q && !s.flag (SYN.OUT_STAT_HELD_LOW n) && s.calLocked (s.get (SYN.OUT_CFG_SRC n)) then 1 else 0)]
    { s with syn := { s.syn with clkPins := setNth s.syn.clkPins n (s.clockPin n q) } }) s
  (List.range 4).foldl (fun s k =>
    let q := sq || !bitOf (s.getT SYN.OUT_EN_PPS) k
    let s := s.puts [(SYN.PPS_STAT_SQUELCHED k, if q then 1 else 0),
      (SYN.PPS_STAT_NO_SRC k, if s.wholeHz (s.get (SYN.PPS_CFG_SRC k)) then 0 else 1)]
    { s with syn := { s.syn with ppsPins := setNth s.syn.ppsPins k (s.ppsPin k q) } }) s

/-! ### Outputs held low (R207, R208) -/

/-- An output is held low until its release, which does not come before the present time. -/
def State.holdOut (s : State) (n : Nat) : State :=
  let s := s.puts [(SYN.OUT_STAT_HELD_LOW n, 1), (SYN.OUT_STAT_ALIGNED n, 0)]
  { s with syn := { s.syn with outs := setNth s.syn.outs n { nth s.syn.outs n {} with since := s.units } } }

/-- Every output of a calender is held low. -/
def State.holdOuts (s : State) (k : Nat) : State :=
  (List.range 16).foldl (fun s n => if s.get (SYN.OUT_CFG_SRC n) = k then s.holdOut n else s) s

/-- f_out of an output in Hz. -/
def State.outHz (s : State) (n : Nat) : Rat := s.planHz (s.plan (s.get (SYN.OUT_CFG_SRC n))) / ((nth s.syn.outs n {}).div : Rat)

/-- Whether an output is released on a whole second (R207). -/
def State.outAligned (s : State) (n : Nat) : Bool := s.flag (SYN.OUT_CFG_ALIGN n) && (s.outHz n).den == 1

/-- The first whole second at or after a time, in 2⁻¹⁶ ns units. -/
def secAfter (u : Nat) : Nat := (u + secU - 1) / secU * secU

/-- A step of the counter holds every aligned output and every PPS output low (R208). -/
def State.stepOuts (s : State) : State :=
  let s := (List.range 16).foldl (fun s n => if s.outAligned n then s.holdOut n else s) s
  { s with syn := { s.syn with ppsHeld := List.replicate 4 (some (secAfter s.units)), todNamed := List.replicate 4 0 } }

/-- Held outputs wait for a whole second at which COARSE is 0: none before the present time (R207, R208). -/
def State.holdLonger (s : State) : State :=
  { s with syn := { s.syn with
    outs := s.syn.outs.map (fun (o : OutSt) => { o with since := s.units })
    ppsHeld := s.syn.ppsHeld.map (Option.map (fun (_ : Nat) => secAfter s.units)) } }

/-- OUTPUT_RELEASE (R207, R208): a held output whose calender is locked is released; an aligned one on a whole second at or after the end of what
held it, and never while COARSE is 1. -/
def runOutputRelease (n : Nat) (s : State) : State :=
  let k := s.get (SYN.OUT_CFG_SRC n)
  if 15 < n ∨ s.flag (SYN.OUT_STAT_HELD_LOW n) = false ∨ s.calLocked k = false then s
  else if !s.outAligned n then s.puts [(SYN.OUT_STAT_HELD_LOW n, 0), (SYN.OUT_STAT_ALIGNED n, 0)]
  else
    let t := (s.units + secU / 2) / secU * secU
    if s.flag TIME.TIME_STATUS_COARSE || decide (t < (nth s.syn.outs n {}).since) then s
    else (s.advanceTo t).puts [(SYN.OUT_STAT_HELD_LOW n, 0), (SYN.OUT_STAT_ALIGNED n, 1)]

/-! ### Calenders (R203 to R207) -/

/-- A calender's state, in its register and in CAL_LOCK. -/
def State.setCal (s : State) (k st : Nat) : State :=
  (s.put (SYN.CAL_STAT_STATE k) st).put SYN.SYN_STATUS_CAL_LOCK (putBit (s.get SYN.SYN_STATUS_CAL_LOCK) k (st == 2))

/-- A calender begins to lock: its outputs are held low. -/
def State.calRelock (s : State) (k : Nat) : State := ((s.charge0 500).setCal k 1).holdOuts k

/-- A calender loses lock: counted, outputs held low (R207). -/
def State.calLose (s : State) (k : Nat) : State :=
  if s.calLocked k then ((s.inc SYN.CAL_UNLOCK_CNT).setCal k 1).holdOuts k else s

/-- CALENDER_UNLOCK (R207): the calender begins its relock. -/
def runCalenderUnlock (k : Nat) (s : State) : State :=
  if s.calLocked k then ((s.calLose k).charge0 500).refsEval else s

/-- CALENDER_LOCK (R207): a calender that is on and locking is locked; REF_BAD of what it serves is judged again. -/
def runCalenderLock (k : Nat) (s : State) : State :=
  if s.get (SYN.CAL_STAT_STATE k) = 1 ∧ s.flag SYN.SYN_STATUS_OSC_ACT = true then
    let outs : List OutSt := s.syn.outs.zipIdx.map (fun (o : OutSt × Nat) =>
      if s.get (SYN.OUT_CFG_SRC o.2) = k then { o.1 with since := s.units } else o.1)
    (({ s with syn := { s.syn with outs := outs } }).setCal k 2).refsEval
  else s

/-- The staged plan of a calender (R205). -/
def State.stagedPlan (s : State) (k : Nat) : CalPlan := ⟨s.get (SYN.CAL_CFG k), s.get (SYN.CAL_NINT k), s.get (SYN.CAL_NFRAC k)⟩

/-- Whether an output of a calender could run faster than OUT_FMAX ÷ 1.0002 at an f_VCO in Hz: an enabled one, or one whose
divider change is pending (R205). -/
def State.outTooFast (s : State) (n k : Nat) (hz : Rat) : Bool :=
  let o := nth s.syn.outs n {}
  let fast := fun (d : Nat) => decide ((s.get (SYN.OUT_FMAX n) : Rat) * 1000 * 10000 / 10002 < hz / (d : Rat))
  s.get (SYN.OUT_CFG_SRC n) == k &&
    ((bitOf (s.getT SYN.OUT_EN_CLK) n && fast o.div) || (match o.due with | some d => fast d | none => false))

/-- Whether a calender serves an enabled port or the couch link as reference (R233, R342). -/
def State.calServes (s : State) (k : Nat) : Bool :=
  (List.range 8).any (fun p => s.get (MAC.PORT_CFG_RATE p) != 3 && s.get (MAC.PORT_CFG_REF_CAL p) == k) ||
    (s.flag COUCH.PAIR_CFG_EN && s.get COUCH.PAIR_CFG_REF_CAL == k)

/-- Whether the application of a plan is refused (R205, R233). -/
def State.planRefused (s : State) (k : Nat) (c : CalPlan) : Bool :=
  let hz := s.planHz c
  decide (hz < 4800000000) || decide (6000000000 < hz) || (List.range 16).any (fun n => s.outTooFast n k hz) ||
    (s.calServes k && hz != s.planHz (s.plan k))

/-- A plan that takes effect at the next edge takes the place of another for its calender. -/
def State.planDue (s : State) (k : Nat) (c : CalPlan) : State :=
  { s with syn := { s.syn with apply := s.syn.apply.filter (fun q => q.1 != k) ++ [(k, c)] } }

/-- CAL_APPLY (R205): a posted write of CAL_CTRL; with APPLY, the staged plan is due at the next edge, or refused and counted. -/
def runCalApply (o : Origin) (k v : Nat) (s : State) : State :=
  s.busPost o (0x130110 + 0x40 * k) v true (fun s =>
    if v / 2 % 2 = 0 then s
    else
      let c := s.stagedPlan k
      if s.planRefused k c then (s.put (SYN.CAL_STAT_REFUSED k) 1).inc SYN.PLAN_REFUSE_CNT
      else (s.put (SYN.CAL_STAT_REFUSED k) 0).planDue k c)

/-- What follows when CAL_CTRL has been applied: the calender is off, or begins to lock. -/
def State.calCtrlApplied (s : State) (k : Nat) : State :=
  if !s.flag (SYN.CAL_CTRL_ENABLE k) then ((s.setCal k 0).holdOuts k).refsEval
  else if s.get (SYN.CAL_STAT_STATE k) = 0 then s.calRelock k else s

/-- OUT_DIV_HI_WRITE (R204): a posted write; the divider takes effect at the next edge. A divider below 4 is ignored. -/
def runOutDivHiWrite (o : Origin) (n v : Nat) (s : State) : State :=
  let a := 0x130408 + 0x20 * n
  let lo := (s.glb.stagedLo.find? (fun q => q.1 == a - 4)).elim (s.get (SYN.OUT_DIV n) % 2 ^ 32) (·.2)
  let d := v % 4 * 2 ^ 32 + lo
  s.busPost o a v true (fun s =>
    if d < 4 then s else { s with syn := { s.syn with outs := setNth s.syn.outs n { nth s.syn.outs n {} with due := some d } } })

/-- The start-up plan of the calenders (Table 9-1). -/
def startPlan (sel : Nat) : CalPlan := ⟨0, if sel = 0 then 250 else if sel = 1 then 125 else 100, 0⟩

/-- N_SP of Table 9-1. -/
def nspOf (sel : Nat) : Nat := if sel = 0 then 500 else if sel = 1 then 250 else 200

/-- A change of OSC_SEL: N_SP follows, and every calender is loaded with the plan of Table 9-1, applied at the next edge (R191). -/
def State.loadOscSel (s : State) : State :=
  let sel := s.get SYN.SYSPLL_CFG_OSC_SEL
  let c := startPlan sel
  (List.range 4).foldl (fun s k =>
    (s.puts [(SYN.CAL_CFG k, c.cref), (SYN.CAL_NINT k, c.nint), (SYN.CAL_NFRAC k, c.nfrac)]).planDue k c)
    (s.put SYN.SYSPLL_CFG_N_SP (nspOf sel))

/-- Calenders, dividers and the spread of the core that take effect at a sheet edge (R202, R204, R205). -/
def State.synEdge (s : State) : State :=
  let due := s.syn.apply
  let s := due.foldl (fun s q =>
    let s := { s with syn := { s.syn with plans := setNth s.syn.plans q.1 q.2 } }
    if s.flag (SYN.CAL_CTRL_ENABLE q.1) then s.calRelock q.1 else s) { s with syn := { s.syn with apply := [] } }
  let s := (List.range 16).foldl (fun s n =>
    let o := nth s.syn.outs n {}
    match o.due with
    | some d =>
      let t := { s with syn := { s.syn with outs := setNth s.syn.outs n { o with div := d, due := none } } }
      if d = o.div then t else t.holdOut n
    | none => s) s
  let s := { s with syn := { s.syn with ssc := (s.get SYN.CORE_CFG_SSC_MODE, s.get SYN.CORE_CFG_SSC_DEPTH) } }
  if due.isEmpty then s else s.refsEval

/-! ### Phase steps and the control slice (R203, R206) -/

/-- A phase step is added to the pending phase of a calender, which saturates (R206). -/
def State.addPhase (s : State) (k : Nat) (ps : Int) : State :=
  s.puti (SYN.CAL_PHASE_PEND k) (satS 32 (s.geti (SYN.CAL_PHASE_PEND k) + ps))

/-- A calender works off what it may in a sheet (R206). -/
def State.workPhase (s : State) (k : Nat) : State :=
  let p := s.geti (SYN.CAL_PHASE_PEND k)
  if p = 0 then s
  else
    let r : Int := s.get (SYN.CAL_PSTEP_RATE k)
    let m := clampI (-r) r p
    ((s.charge0 20).puti (SYN.CAL_PHASE_PEND k) (p - m)).puti (SYN.CAL_PHASE k) (s.geti (SYN.CAL_PHASE k) + m)

/-- CONTROL_SLICE (R18, R49, R203, R206): y is loaded, the calenders follow it, phase steps are worked off. -/
def runControlSlice (s : State) : State :=
  let s := (s.atSheetTime (nsU 6000)).loadSteer
  let y := s.geti TIME.STEER
  (List.range 4).foldl (fun s k =>
    let s := { s with syn := { s.syn with calY := setNth s.syn.calY k (if s.flag (SYN.CAL_CTRL_STEER k) then y else 0) } }
    if s.flag (SYN.CAL_CTRL_ENABLE k) then (s.charge0 40).workPhase k else s) s

/-- CAL_PHASE_STEP (R206, R215). -/
def runCalPhaseStep (h : Hdr) (cal : Nat) (step : Int) (stage : Nat) (s : State) : State :=
  s.commandAt h 0x80 false (.calPhaseStep h cal step) stage (fun s =>
    if 3 < cal then s.complete h 0x80 stINVALID 0
    else if 2 ^ 31 - 1 < step.natAbs then s.complete h 0x80 stRANGE 0
    else s.tryPay 3 120 (.calPhaseStep h cal step) 1 (ring := some (cmdSource h)) (fun s =>
      ((s.addPhase cal step).journalCmd h 0x80 cal (ofS 64 step)).complete h 0x80 stOK 0))

/-! ### The system PLL and OSC_IN (R193 to R200) -/

/-- Class A delay lines after the system PLL has changed its lock (Table 4-2). -/
def State.dllsFollow (s : State) (on : Bool) : State :=
  (List.range 32).foldl (fun s n => if on && !s.flag (TDC.CH_CFG_ENABLE n) then s else s.dllPower n on) s

/-- The core clock in MHz (R195, R196, R201): it moves to its target by 10 MHz in each µs of the time since the ramp began. -/
def State.coreNow (s : State) : Rat :=
  let d : Rat := 10 * ((s.mono - s.syn.rampAt : Int) : Rat) / 65536000
  if s.syn.rampFrom < s.syn.coreMHz then min s.syn.coreMHz (s.syn.rampFrom + d) else max s.syn.coreMHz (s.syn.rampFrom - d)

/-- The core clock begins a ramp to a target from the frequency reached (R196). -/
def State.rampTo (s : State) (mhz : Rat) : State :=
  { s with syn := { s.syn with rampFrom := s.coreNow, rampAt := s.mono, coreMHz := mhz } }

/-- RAMPING: a core ramp is in progress. -/
def State.showRamp (s : State) : State := s.putB SYN.SYN_STATUS_RAMPING (s.coreNow != s.syn.coreMHz)

/-- Core cycles in a sheet at the present frequency, with the spread in force, which is suspended in bypass (R202). -/
def State.coreCycles (s : State) : Nat :=
  let down : Rat := if s.syn.ssc.1 = 1 ∧ s.flag SYN.SYN_STATUS_BYPASS = false then (s.syn.ssc.2 : Rat) * 25 / 100000 else 0
  (s.coreNow * 125 * (1 - down)).floor.toNat

/-- Loss of system PLL lock (R195, R52): coarse counting begins, with an offset in 2⁻¹⁶ ns units left to the slew. -/
def State.spLose (s : State) (offset : Int) : State :=
  let was := s.flag SYN.SYN_STATUS_SP_IN_SERVICE
  let s := s.puts [(SYN.SYN_STATUS_SP_LOCK, 0), (SYN.SYN_STATUS_SP_IN_SERVICE, 0)]
  let s := { s with syn := { s.syn with spLockAt := none, fineRest := none } }
  let s := (s.inc SYN.SP_UNLOCK_CNT).dllsFollow false
  if was then
    let s := (s.charge0 2500).puts [(SYN.SYN_STATUS_BYPASS, 1), (SYN.SYN_STATUS_CNT_SRC, 1),
      (TIME.TIME_STATUS_COARSE, 1), (TDC.TDC_STATUS_CLK_VALID, 0)]
    (((s.rampTo 400).inc TIME.COARSE_CNT).event 0x0204 0 1).addSlew offset
  else s

/-- SP_LOCK_LOSS (R195): `diff` is the fine counter less the shadow counter at the declaration, in 2⁻¹⁶ ns units; the counter carries
on from what was recorded two edges before (R52). -/
def runSpLockLoss (diff : Int) (s : State) : State :=
  if s.flag SYN.SYN_STATUS_SP_LOCK then s.spLose (diff - nth s.time.diffs 1 (nth s.time.diffs 0 diff)) else s

/-- SP_LOCK_DECLARED (R196): the class A lines begin their search, and the wait of R53 begins. -/
def runSpLockDeclared (s : State) : State :=
  if s.flag SYN.SYN_STATUS_SP_LOCK || !s.flag SYN.SYN_STATUS_OSC_ACT then s
  else (({ s with syn := { s.syn with spLockAt := some s.mono } }).put SYN.SYN_STATUS_SP_LOCK 1).dllsFollow true

/-- Whether the system PLL will have been in lock without a break for RELOCK_SHEETS × 125 µs at a time from now, in 2⁻¹⁶ ns units (R53, R486). -/
def State.lockHeld (s : State) (ahead : Int) : Bool :=
  match s.syn.spLockAt with
  | some t => decide (((s.get TIME.TIME_CFG_RELOCK_SHEETS * nsU 125000 : Nat) : Int) ≤ s.mono + ahead - t)
  | none => false

/-- Fine counting begins at a sheet edge (R53, R196): the fine counter takes the coarse value, the core returns from bypass. -/
def State.fineBegins (s : State) : State :=
  let s := s.puts [(SYN.SYN_STATUS_SP_IN_SERVICE, 1), (SYN.SYN_STATUS_BYPASS, 0),
    (SYN.SYN_STATUS_CNT_SRC, 0), (TIME.TIME_STATUS_COARSE, 0), (TDC.TDC_STATUS_CLK_VALID, 1)]
  let s := { s with
    syn := { s.syn with seenService := true, fineRest := none }
    time := { s.time with cyc := 0, diffs := [] } }
  (s.rampTo 1000).holdLonger

/-- FINE_COUNT_RESUME (R53): the wait ends by the next sheet edge, at which fine counting will resume; `rest` is what is left of the coarse period
there, in 2⁻¹⁶ ns units. -/
def runFineCountResume (rest : Int) (s : State) : State :=
  if s.running && s.flag SYN.SYN_STATUS_SP_LOCK && !s.flag SYN.SYN_STATUS_SP_IN_SERVICE && s.lockHeld ((s.time.next : Int) - s.units) then
    { s with syn := { s.syn with fineRest := some rest } }
  else s

/-- Fine counting resumes at the edge (R53, R194, R196): what is left of the coarse period is slewed out, REFSEL is no longer frozen (R163). -/
def State.fineEdge (s : State) : State :=
  match s.syn.fineRest with
  | none => s
  | some rest =>
    let s := (s.fineBegins.addSlew rest).event 0x0205 0 0
    ({ s with bound := { s.bound with carry := true } }).unfreeze

/-- The ratio of a measurement of OSC_IN that is nominal for a row of Table 9-1, OSC_IN over the PCIe reference × 2³². -/
def ratioOf (sel : Nat) : Rat := ((nth [10, 20, 25] sel 20 : Nat) : Rat) * 2 ^ 32 / 100

/-- The nominal ratio of the OSC_SEL value. -/
def State.nominalRatio (s : State) : Rat := ratioOf (s.get SYN.SYSPLL_CFG_OSC_SEL)

/-- Whether OSC_IN departs from a nominal ratio by more than PPM_LIMIT (R198, R485). -/
def State.ratioOff (s : State) (nominal : Rat) (ratio : Nat) : Bool :=
  decide (nominal * s.get SYN.OSC_MON < 1000000 * absQ ((ratio : Rat) - nominal))

/-- Whether OSC_IN over a sheet departs from the OSC_SEL value by more than PPM_LIMIT (R198). -/
def State.oscOff (s : State) (ratio : Nat) : Bool := s.ratioOff s.nominalRatio ratio

/-- The measurement of OSC_IN over the sheet that ended, if edges came throughout it (R198, R199): the last eight before a loss give OSC_RATIO, and
clean ones after a loss are counted. -/
def State.oscSheet (s : State) (ratio : Option Nat) : State :=
  if s.flag SYN.SYN_STATUS_OSC_ACT then
    match ratio with
    | some r => { s with syn := { s.syn with oscSeen := (r :: s.syn.oscSeen).take 8 } }
    | none => s
  else
    let ok := match ratio with
      | some r => !s.oscOff r
      | none => false
    { s with syn := { s.syn with oscClean := if ok then s.syn.oscClean + 1 else 0 } }

/-- OSC_RATIO: the mean of the measurements of the last sheets, the nominal ratio where there are none (R199). -/
def State.oscRatio (s : State) : Nat :=
  let l := s.syn.oscSeen
  if l.isEmpty then (roundQ s.nominalRatio).toNat else (roundDiv (l.foldl (· + ·) 0 : Nat) l.length).toNat

/-- OSC_ACTIVITY_LOSS (R198, R199, R200): no rising edge for 1 µs, or the ratio measured over the sheet, in units of 2⁻³², off by more than
PPM_LIMIT. The counter goes on from the PCIe reference at OSC_RATIO; the system PLL and the calenders lose their reference. -/
def runOscActivityLoss (ratio : Option Nat) (s : State) : State :=
  if s.flag SYN.SYN_STATUS_OSC_ACT = false ∨ ratio.any (fun r => !s.oscOff r) = true then s
  else
    let s := (s.puts [(SYN.SYN_STATUS_OSC_ACT, 0), (SYN.OSC_RATIO, s.oscRatio)]).inc SYN.OSC_LOSS_CNT
    let s := if s.flag SYN.SYN_STATUS_SP_LOCK then s.spLose 0 else s
    let s := s.put SYN.SYN_STATUS_CNT_SRC 2
    let s := { s with syn := { s.syn with lostAt := some s.mono, oscSeen := [], oscClean := 0 } }
    let s := (List.range 4).foldl (fun s k => s.calLose k) s
    s.refsEval.oscFail.lostNow

/-- OSC_ACTIVITY_RETURN (R198, R199): after 8,000 clean sheets coarse counting on OSC_IN resumes, the offset between the two counts is slewed out;
the calenders relock, and outputs are held low (R207). -/
def runOscActivityReturn (offset : Int) (s : State) : State :=
  if s.flag SYN.SYN_STATUS_OSC_ACT || !s.syn.seenAct || decide (s.syn.oscClean < 8000) then s
  else
    let s := (s.puts [(SYN.SYN_STATUS_OSC_ACT, 1), (SYN.SYN_STATUS_CNT_SRC, 1)]).addSlew offset
    let s := { s with syn := { s.syn with lostAt := none, oscClean := 0 } }
    (List.range 4).foldl (fun s k => if s.flag (SYN.CAL_CTRL_ENABLE k) then s.calRelock k else s) s

/-! ### PPS and ToD (R209 to R214) -/

/-- The whole second nearest to the present time less an offset in 2⁻¹⁶ ns units. -/
def State.nearSec (s : State) (off : Int) : Nat := (((s.units : Int) - off + (secU / 2 : Nat)) / (secU : Int)).toNat

/-- PPS_PULSE (R206, R208, R209): the pulse at a whole second plus PPS_OFF, delayed by the phase its calender has moved, active high or low. A PPS
held by a step is released at the first whole second of the new time, with COARSE 0. -/
def runPpsPulse (k : Nat) (s : State) : State :=
  let off := unitsOfPs (s.geti (SYN.PPS_OFF k))
  let t := ((s.nearSec off * secU : Nat) : Int) + off
  let s := s.advanceTo t.toNat
  let held := match nth s.syn.ppsHeld k none with
    | some r => s.flag TIME.TIME_STATUS_COARSE || decide (t < (r : Int))
    | none => false
  let s := if held then s else { s with syn := { s.syn with ppsHeld := setNth s.syn.ppsHeld k none } }
  if held || !s.wholeHz (s.get (SYN.PPS_CFG_SRC k)) || !s.calLocked (s.get (SYN.PPS_CFG_SRC k)) ||
      s.squelchAll || !bitOf (s.getT SYN.OUT_EN_PPS) k then s
  else
    let delay := unitsOfPs (s.geti (SYN.CAL_PHASE (s.get (SYN.PPS_CFG_SRC k))))
    (s.charge0 16).emit (.pps k (t + delay).toNat (s.get (SYN.PPS_WIDTH k)) (!s.flag (SYN.PPS_CFG_POL k)))

/-- OFFSET in force at a TAI second, with an armed leap second taken into account, and whether that second repeats one (R211). -/
def State.offsetAt (s : State) (sec : Nat) : Int × Bool :=
  let o := s.geti TIME.TAI_UTC
  if s.flag TIME.TIME_STATUS_LEAP_ARMED then
    let t := s.targetUnits (s.get TIME.LEAP_TARGET) / (secU : Int)
    let ins := !s.flag TIME.TIME_STATUS_LEAP_DIR
    if t ≤ (sec : Int) then (if ins then o + 1 else o - 1, false) else (o, ins && decide (t = (sec : Int) + 1))
  else (o, false)

/-- The bytes of a ToD frame (Table 9-4). -/
def State.todBytes (s : State) (k sec : Nat) (held : Bool) : List Byte :=
  let o := s.offsetAt sec
  let utc := s.flag (SYN.TOD_CFG_UTC k)
  let secs : Int := if utc then (sec : Int) - o.1 - (if o.2 then 1 else 0) else sec
  let f := fun (b : Bool) (i : Nat) => if b then 2 ^ i else 0
  let flags := f utc 0 + f (s.flag TIME.TIME_STATUS_UTC_VALID) 1 + f (s.flag TIME.TIME_STATUS_LEAP_WARNING) 2 +
    f (s.flag TIME.TIME_STATUS_LEAP_DIR) 3 + f o.2 4 + f held 5 + f (s.flag TIME.TIME_STATUS_SET) 6
  let bound := if s.flag TIME.TIME_STATUS_SET then satN 32 ((s.get BOUND.BOUND_CORE + 999) / 1000) else 2 ^ 32 - 1
  let b := [(1 : Byte), 16] ++ beBytes 6 (ofS 48 secs) ++ beBytes 2 (ofS 16 o.1) ++ leBytes 1 flags ++ leBytes 1 s.givenClass ++
    leBytes 1 (s.get REFSEL.REFSEL_STATUS_CLOCK_STATE) ++ [(0 : Byte)] ++ beBytes 4 bound
  [(0xC5 : Byte), 0x3A] ++ b ++ beBytes 2 (crc16 b)

/-- Whether the PPS output that a ToD output follows will send the edge it would name (R211). -/
def State.ppsSends (s : State) (n : Nat) : Bool :=
  !s.squelchAll && bitOf (s.getT SYN.OUT_EN_PPS) n && s.wholeHz (s.get (SYN.PPS_CFG_SRC n)) && s.calLocked (s.get (SYN.PPS_CFG_SRC n)) &&
    !((nth s.syn.ppsHeld n none).isSome && s.flag TIME.TIME_STATUS_COARSE)

/-- A ToD output sends its frame for the edge of a second, once (R211). -/
def State.todSend (s : State) (k sec : Nat) (held : Bool) : State :=
  if s.squelchAll || !bitOf (s.getT SYN.OUT_EN_TOD) k || !s.ppsSends (s.get (SYN.TOD_CFG_PPS k)) || nth s.syn.todNamed k 0 == sec then s
  else
    let b := s.todBytes k sec held
    let s := { s with syn := { s.syn with todNamed := setNth s.syn.todNamed k sec, todFrames := setNth s.syn.todFrames k (cut b 4 16) } }
    (s.charge0 200).emit (.tod k (s.get (SYN.TOD_CFG_TOD_BAUD k)) b)

/-- TOD_FRAME_START (R211): TOD_DELAY after the edge of a second, the frame for the edge of the next one. -/
def runTodFrameStart (k : Nat) (s : State) : State :=
  let off := unitsOfPs (s.geti (SYN.PPS_OFF (s.get (SYN.TOD_CFG_PPS k)))) + nsU (s.get (SYN.TOD_DELAY k) * 1000000)
  s.todSend k (s.nearSec off + 1) s.bound.heldMark.isSome

end Sys2Proof.Machine
end

