-- ==== Sys2Proof/Machine/Key.lean ====
section
/-! DEFINITION. The key store and the authentication engine (chapter 14). -/

namespace Sys2Proof.Machine

/-! ### Slots (R314 to R317) -/

/-- A slot. -/
def State.keySlot (s : State) (n : Nat) : KeySlot := nth s.key.slots n {}

/-- Word 0 of a descriptor (Table 14-1). -/
def KeySlot.word0 (k : KeySlot) : Nat :=
  k.state + (if k.expire then 8 else 0) + (if k.counted then 16 else 0) + (if k.derived then 32 else 0) + 256 * k.alg + 65536 * k.spp +
    2 ^ 24 * k.parent

/-- The 16 bytes of a descriptor. -/
def KeySlot.bytes (k : KeySlot) : List Byte := leBytes 4 k.word0 ++ leBytes 4 k.keyId ++ leBytes 6 k.uses ++ leBytes 1 k.depth ++ leBytes 1 k.wgen

/-- A slot takes a value, which SLOT_DESC shows. -/
def State.setSlotKey (s : State) (n : Nat) (k : KeySlot) : State :=
  let s := { s with key := { s.key with slots := setNth s.key.slots n k } }
  s.puts [(KEY.SLOT_DESC_0 n, k.word0), (KEY.SLOT_DESC_1 n, k.keyId), (KEY.SLOT_DESC_2 n, k.uses), (KEY.SLOT_DESC_3_USES n, k.uses / 2 ^ 32),
    (KEY.SLOT_DESC_3_DEPTH n, k.depth), (KEY.SLOT_DESC_3_WGEN n, k.wgen)]

/-- Whether a slot is usable (R316). -/
def KeySlot.usable (k : KeySlot) : Bool := k.state == 1 && (!k.counted || k.uses != 0)

/-- A change of a slot with its journal entry (R336). -/
def State.changeKey (s : State) (o : Origin) (n : Nat) (k : KeySlot) : State :=
  let old := s.keySlot n
  (s.setSlotKey n k).journal o 4 (0x1C1000 + 0x10 * n) (old.word0 + 2 ^ 32 * old.keyId) (k.word0 + 2 ^ 32 * k.keyId) 0

/-! ### Use of keys (R322, R329, R332, R333) -/

/-- A use of a slot is counted down (R322). -/
def State.useKey (s : State) (n : Nat) : State :=
  let k := s.keySlot n
  if k.counted then s.setSlotKey n { k with uses := k.uses - 1 } else s

/-- An operation has completed: OPS_CNT, and blocks on a pipeline or compressions on a core; which one took it is open. -/
def State.opDone (s : State) (sha : Bool) (n : Nat) : State :=
  let r := s.free
  let s := r.2.inc KEY.OPS_CNT
  if sha then s.pmu 0x09 (r.1 % 2) n else s.pmu 0x08 (bits (s.get KEY.PIPE_MAP_MAP) (4 * (r.1 % 6)) 4) n

/-- Blocks pass a pipeline without being an operation of R333; which one took them is open. -/
def State.blocksDone (s : State) (n : Nat) : State :=
  let r := s.free
  r.2.pmu 0x08 (bits (r.2.get KEY.PIPE_MAP_MAP) (4 * (r.1 % 6)) 4) n

/-- The comparison with the shadowing spares found no majority: KEY_CRYPTO, MISMATCH_CNT (R334). -/
def State.mismatch (s : State) : State := { s.inc KEY.MISMATCH_CNT with flt := { s.flt with keyMismatch := true } }

/-- The result of an AES operation, released after the comparison of R334; one that it discards is empty. -/
def State.released (s : State) (b : List Byte) : List Byte × State :=
  match s.key.fails with
  | none => (b, s)
  | some 0 => ([], { s.mismatch with key := { s.key with fails := none } })
  | some (k + 1) => (b, { s with key := { s.key with fails := some k } })

/-- Stock of an ICV (Table 14-7). -/
def icvStock (alg : Nat) : Nat := if alg = 1 then 520 else 260

/-- An ICV over a message with a slot that is usable (R317, R322, R332); empty where its result is discarded. -/
def State.icv (s : State) (n : Nat) (m : List Byte) : List Byte × State :=
  let k := s.keySlot n
  let s := s.useKey n
  if k.alg = 1 then (icvOf k.alg k.mat m, s.opDone true ((m.length + 72) / 64 + 1))
  else (s.opDone false ((m.length + 15) / 16)).released (icvOf k.alg k.mat m)

/-- The slot that an SPP and a KEY_ID name for PTP, if one that is not EMPTY does (R329). -/
def State.findKey (s : State) (spp keyId : Nat) : Option Nat :=
  (List.range 256).find? (fun n =>
    let k := s.keySlot n
    k.state != 0 && (k.alg == 1 || k.alg == 2) && k.spp == spp && k.keyId == keyId)

/-! ### Staging and commit (R318 to R320, R339) -/

/-- KEY_STAGE_WRITE (R318, R339): only PF0 stages key and descriptor bytes, and not while BUSY; no key byte reaches the ream. -/
def runKeyStageWrite (o : Origin) (a v : Nat) (s : State) : State :=
  if o ≠ .pf0 then
    let s := if o = .pf1 then s.inc HIF.PF1_WRITE_DENY_CNT else (s.useUnlock o).2
    ((s.charge0 60).inc KEY.KEY_DENY_CNT).journal o 1 a 0 0 0
  else
    let s := (s.useUnlock o).2
    if s.flag KEY.KEY_STATUS_BUSY then ((s.charge0 60).inc GLB.POSTED_DROP_CNT).journal o 1 a 0 0 0
    else if a < 0x1C0010 ∨ 0x1C0040 < a then s
    else s.put ⟨32 * a, 32, 0⟩ v

/-- The staged key bytes. -/
def State.stagedMat (s : State) : List Byte := (List.range 8).flatMap (fun i => leBytes 4 (s.get (KEY.KEY_STAGE i)))

/-- The staged descriptor bytes. -/
def State.stagedDesc (s : State) : List Byte := (List.range 4).flatMap (fun j => leBytes 4 (s.get (KEY.KEY_STAGE_D j)))

/-- Whether another slot that is not EMPTY holds the same SPP and KEY_ID for PTP (check 7 of Table 14-4). -/
def State.keyDup (s : State) (n alg spp keyId : Nat) : Bool :=
  (alg == 1 || alg == 2) && (List.range 256).any (fun m =>
    let k := s.keySlot m
    m != n && k.state != 0 && (k.alg == 1 || k.alg == 2) && k.spp == spp && k.keyId == keyId)

/-- The result of a commit word (Table 14-4). -/
def State.commitResult (s : State) (v : Nat) : Nat :=
  let n := v % 256
  let d := s.stagedDesc
  let alg := leAt d 1 1
  if bits v 8 8 ≠ 255 - n ∨ v / 65536 ≠ 0xA5C3 then 1
  else if s.key.work.isSome then 2
  else if s.getT KEY.KEY_CTRL_WRITE_EN = 0 then 3
  else if s.flag KEY.KEY_STATUS_TAMPER then 4
  else if s.get KEY.KEY_STAGE_CRC ≠ crc32 (s.stagedMat ++ d) then 5
  else if alg = 0 ∨ 4 < alg ∨ bits (leAt d 0 1) 6 2 ≠ 0 ∨ (bitOf (leAt d 0 1) 4 = true ∧ leAt d 8 6 = 0) then 6
  else if s.keyDup n alg (leAt d 2 1) (leAt d 4 4) then 7 else 0

/-- An accepted commit or derivation that class 3 has paid for is being written (R320). -/
def State.keyPaid (s : State) : State :=
  { s with key := { s.key with work := s.key.work.map (fun (w : KeyWork) => { w with paid := true }) } }

/-- KEY_COMMIT (R319, R320): the checks of Table 14-4; an accepted one is written once class 3 has paid, with BUSY at 1. At stage 1 it
has been accepted and waits for stock. -/
def runKeyCommit (o : Origin) (v : Nat) (stage : Nat) (s : State) : State :=
  if stage = 1 then
    if s.key.work.any (fun (w : KeyWork) => !w.paid) then s.tryPay 3 2000 (.keyCommit o v) 1 State.keyPaid else s
  else if o = .pf1 then s.inc HIF.PF1_WRITE_DENY_CNT
  else
    let a := 0x1C0044
    let u := s.useUnlock o
    let s := u.2
    if s.flag KEY.KEY_STATUS_BUSY then ((s.charge0 60).inc GLB.POSTED_DROP_CNT).journal o 1 a 0 v 0
    else if !u.1 then s.refuseWrite o a v
    else
      let r := s.commitResult v
      let s := s.put KEY.KEY_STATUS_COMMIT_RESULT r
      if r ≠ 0 then s.inc KEY.COMMIT_REFUSE_CNT
      else
        let n := v % 256
        let d := s.stagedDesc
        let k : KeySlot := {
          state := 1, expire := bitOf (leAt d 0 1) 3, counted := bitOf (leAt d 0 1) 4, alg := leAt d 1 1,
          spp := leAt d 2 1, keyId := leAt d 4 4, uses := leAt d 8 6, mat := s.stagedMat }
        let s := (s.inc KEY.COMMIT_CNT).puts [(KEY.KEY_STATUS_BUSY, 1)]
        let s := { s with key := { s.key with work := some ⟨n, k, false, o, false, false⟩ } }
        s.tryPay 3 2000 (.keyCommit o v) 1 State.keyPaid

/-- KEY_COMMIT_SWITCH (R320): the half-select switches, BUSY falls, and the change waits for its edge. -/
def runKeyCommitSwitch (s : State) : State :=
  match s.key.work with
  | some w =>
    if w.paid && !w.done then
      let s := s.puts [(KEY.KEY_STATUS_BUSY, 0), (KEY.KEY_STATUS_PENDING, 1)]
      { s with key := { s.key with work := some { w with done := true } } }
    else s
  | none => s

/-! ### Commands (R324 to R327, R337) -/

/-- Whether a slot is an ancestor of another, followed through slots in every state. -/
def State.keyAbove (s : State) (roots : List Nat) : Nat → Nat → Bool
  | 0, _ => false
  | f + 1, n =>
    let k := s.keySlot n
    k.derived && (roots.contains k.parent || State.keyAbove s roots f k.parent)

/-- Whether the arguments of a derivation meet R325, beyond its origin, the enables and the parent's use. -/
def State.deriveOk (s : State) (a : DeriveArgs) : Bool :=
  let p := s.keySlot a.parent
  p.alg == 4 && decide (p.depth ≤ 2) && a.child != a.parent && !s.keyAbove [a.child] 256 a.parent && decide (a.child < 256) &&
    decide (1 ≤ a.alg) && decide (a.alg ≤ 4) && !(a.counted && a.uses == 0) && !s.keyDup a.child a.alg a.spp a.keyId &&
    decide (1 ≤ a.label.length) && decide (a.label.length ≤ 16) && decide (a.context.length ≤ 16)

/-- KEY_DERIVE (R324, R325). -/
def runKeyDerive (h : Hdr) (a : DeriveArgs) (stage : Nat) (s : State) : State :=
  let self : Instr := .keyDerive h a
  let f := fun (s : State) =>
    if h.origin ≠ .pf0 ∨ s.getT KEY.KEY_CTRL_DERIVE_EN = 0 ∨ s.flag KEY.KEY_STATUS_TAMPER = true then s.complete h 0xC0 stDENIED 0
    else if s.key.work.isSome then s.complete h 0xC0 stBUSY 0
    else if !(s.keySlot a.parent).usable then s.complete h 0xC0 stNOTREADY 0
    else if !s.deriveOk a then s.complete h 0xC0 stINVALID 0
    else s.tryPay 3 1500 self 1 (ring := some (cmdSource h)) (fun s =>
      let p := s.keySlot a.parent
      let k : KeySlot := {
        state := 1, expire := a.expire || p.expire, counted := a.counted, derived := true, alg := a.alg, spp := a.spp,
        parent := a.parent, keyId := a.keyId, uses := a.uses, depth := p.depth + 1, mat := kdf p.mat a.label a.context }
      let s := ((s.useKey a.parent).opDone true 2).put KEY.KEY_STATUS_BUSY 1
      let s := { s with key := { s.key with work := some ⟨a.child, k, true, h.origin, true, false⟩ } }
      (s.journalCmd h 0xC0 (a.parent + 256 * a.child + 65536 * a.alg + 2 ^ 24 * a.spp + 2 ^ 32 * a.keyId)
        (a.uses + 2 ^ 48 * ((if a.counted then 1 else 0) + (if a.expire then 2 else 0)) + 2 ^ 56 * a.label.length)).complete h 0xC0 stOK 0)
  if stage = 0 then s.command h 0xC0 false self (dmaStock 64) f else f s

/-- KEY_INVALIDATE (R327): the slot becomes INVALID at the next edge. -/
def runKeyInvalidate (h : Hdr) (slot stage : Nat) (s : State) : State :=
  s.commandAt h 0xC1 false (.keyInvalidate h slot) stage (fun s =>
    if 255 < slot then s.complete h 0xC1 stINVALID 0
    else if (s.keySlot slot).state = 0 then s.complete h 0xC1 stNOTREADY 0
    else s.tryPay 3 150 (.keyInvalidate h slot) 1 (ring := some (cmdSource h)) (fun s =>
      let s := { s with key := { s.key with inval := s.key.inval ++ [(slot, h.origin)] } }
      (s.journalCmd h 0xC1 slot 0).complete h 0xC1 stOK 0))

/-- KEY_INFO (R337): the descriptors of a range of slots. -/
def runKeyInfo (h : Hdr) (first count addr stage : Nat) (s : State) : State :=
  s.commandAt h 0xC2 true (.keyInfo h first count addr) stage (fun s =>
    if count = 0 ∨ 256 < first + count then s.complete h 0xC2 stINVALID 0
    else s.tryPay 3 (150 + dmaStock (16 * count)) (.keyInfo h first count addr) 1 (ring := some (cmdSource h)) (fun s =>
      s.dataOut h 0xC2 addr ((List.range count).flatMap (fun i => (s.keySlot (first + i)).bytes)) 0))

/-- KEY_TAMPER_CLEAR (R331). -/
def runKeyTamperClear (h : Hdr) (s : State) : State :=
  s.command h 0xC3 false (.keyTamperClear h) 0 (fun s =>
    if s.mode ≠ 0 then s.complete h 0xC3 stMODE 0
    else if s.key.trigger then s.complete h 0xC3 stNOTREADY 0
    else ((s.put KEY.KEY_STATUS_TAMPER 0).journalCmd h 0xC3 0 0).complete h 0xC3 stOK 0)

/-! ### Changes at a sheet edge (R321, R322, R327, R328) -/

/-- The commit or derivation whose write has completed takes effect. -/
def State.keyTake (s : State) (w : KeyWork) : State :=
  let s := (s.charge0 50).changeKey w.origin w.slot { w.new with wgen := ((s.keySlot w.slot).wgen + 1) % 256 }
  let s := if w.derive then s.inc KEY.DERIVE_CNT else s
  ({ s with key := { s.key with work := none } }).put KEY.KEY_STATUS_PENDING 0

/-- VALID descendants of slots that were invalidated, rewritten or zeroised become STALE (R327). -/
def State.keyStale (s : State) (roots : List Nat) : State :=
  if roots.isEmpty then s
  else
    ((List.range 256).filter (fun n => (s.keySlot n).state == 1 && s.keyAbove roots 256 n)).foldl (fun s n =>
      (s.charge0 50).changeKey .auto n { s.keySlot n with state := 2 }) s

/-- Steps 1 to 4 of R328. -/
def State.keyEdge (s : State) : State :=
  let inval := s.key.inval
  let zero := s.key.zeroised
  let s := { s with key := { s.key with inval := [], zeroised := [] } }
  let s := inval.foldl (fun s (q : Nat × Origin) =>
    if (s.keySlot q.1).state = 0 then s
    else ((s.charge0 50).changeKey q.2 q.1 { s.keySlot q.1 with state := 4, mat := [] }).inc KEY.INVALIDATE_CNT) s
  let w := s.key.work.filter (fun (w : KeyWork) => w.done)
  let s := match w with
    | some w => s.keyTake w
    | none => s
  let s := (List.range 256).foldl (fun s n =>
    let k := s.keySlot n
    if k.state = 1 ∧ k.counted = true ∧ k.uses = 0 then (s.charge0 50).changeKey .auto n { k with state := 3 } else s) s
  s.keyStale (inval.map (·.1) ++ zero ++ (match w with | some w => [w.slot] | none => []))

/-! ### Zeroisation (R330) -/

/-- The whole store is zeroised, with no stock: slots, staging registers, the pending change. -/
def State.zeroise (s : State) : State :=
  let live := (List.range 256).filter (fun n => (s.keySlot n).state != 0)
  let s := live.foldl (fun s n => s.changeKey .tamper n { s.keySlot n with state := 5, mat := [] }) s
  let s := (List.range 8).foldl (fun s i => s.put (KEY.KEY_STAGE i) 0) s
  let s := ((List.range 4).foldl (fun s j => s.put (KEY.KEY_STAGE_D j) 0) s).puts [(KEY.KEY_STAGE_CRC, 0), (KEY.KEY_STATUS_BUSY, 0),
    (KEY.KEY_STATUS_PENDING, 0), (KEY.KEY_STATUS_TAMPER, 1)]
  ({ s with key := { s.key with work := none, zeroised := s.key.zeroised ++ live } }).inc KEY.ZEROISE_CNT

/-! ### Shadowing (R334) -/

/-- What the shadowing of the last sheet found outvoted; then the spares shadow the next pipeline, if class 4 can pay, and the
comparison of the sheet that begins may discard one result. -/
def State.shadowEdge (s : State) (r : ShadowIn) : State :=
  let on := s.flag KEY.SHADOW_CFG && s.get KEY.KEY_STATUS_SPARES != 0
  let s := match r with
    | .agree => s
    | .outvoted p =>
      let s := s.put KEY.PIPE_STAT_SUSPECT (putBit (s.get KEY.PIPE_STAT_SUSPECT) (p % 8) true)
      s.mismatch.addCandidate 2 (p % 8) 0
    | .discarded _ => s
  let s := { s with key := { s.key with fails := none } }
  if !on then s.put KEY.PIPE_STAT_VOTING 0
  else s.orPause 4 200 (fun s =>
    let n := (s.key.shadow + 1) % 6
    let s := s.puts [(KEY.PIPE_STAT_SHADOWED, n), (KEY.PIPE_STAT_VOTING, if 2 ≤ s.get KEY.KEY_STATUS_SPARES then 1 else 0)]
    { s with key := { s.key with shadow := n, fails := match r with
      | .discarded k => some k
      | _ => none } })

end Sys2Proof.Machine
end

