-- ==== Sys2Proof/Machine/Served.lean ====
section
/-! DEFINITION. The service values of the unit, the watermark and PTP messages (chapters 10, 12, 13). -/

namespace Sys2Proof.Machine

/-! ### NTP time (R299) -/

/-- An NTP timestamp, 64 bits, from wide time T in 2⁻¹⁶ ns units: the fraction rounded to the nearest unit and carried. -/
def ntpOf (sec : Int) (frac : Nat) : Nat :=
  let f := (roundDiv (frac * 2 ^ 32 : Nat) secU).toNat
  ofS 32 (sec + 2208988800 + (f / 2 ^ 32 : Nat)) * 2 ^ 32 + f % 2 ^ 32

/-- The NTP timestamp of a time of the counter (R299), with the OFFSET in force at it; the second that ends at an armed insertion
repeats the one before it. -/
def State.ntpStamp (s : State) (t : Nat) : Nat :=
  let sec := t / secU
  let o := s.offsetAt sec
  ntpOf ((sec : Int) - o.1 - (if o.2 then 1 else 0)) (t % secU)

/-! ### Service values (R263, R266, R297, R298, R345) -/

/-- The slot at the head of the chain: the selected one, or in HOLDOVER the one selected before entry. -/
def State.chainSlot (s : State) : Option Nat := if s.bound.chain.valid then some s.bound.chain.slot else none

/-- timeTraceable (R263). -/
def State.timeTraceable (s : State) : Bool :=
  let cs := s.get REFSEL.REFSEL_STATUS_CLOCK_STATE
  s.flag TIME.TIME_STATUS_SET && s.flag TIME.TIME_STATUS_UTC_VALID &&
    (cs == 2 || (cs == 3 && s.get HOLD.HOLD_STATUS_CATEGORY == 0)) &&
    (s.chainSlot != some 13 || s.ref.up.any (fun (u : UpSample) => u.traceable))

/-- frequencyTraceable: also with an assist whose QL is PRC or better (R263); PRS is that level under option 2. -/
def State.freqTraceable (s : State) : Bool :=
  s.timeTraceable || (s.flag REFSEL.REFSEL_STATUS_ASSIST_VALID &&
    decide (s.slotQl (s.get REFSEL.REFSEL_STATUS_ASSIST) ≤ (if s.flag REFSEL.REFSEL_CFG_QL_OPTION then 0 else 3)))

/-- stepsRemoved, grandmasterIdentity and timeSource by the selected slot (R266). -/
def State.gmSet (s : State) : Nat × Nat × Nat :=
  let own := s.get PTP.CLOCK_ID
  let free := (0, own, if s.get HOLD.HOLD_CFG_OSC_SRC = 1 then 0x10 else 0xA0)
  let cs := s.get REFSEL.REFSEL_STATUS_CLOCK_STATE
  if cs = 0 ∨ cs = 3 ∨ cs = 4 then free
  else
    match s.selSlot with
    | some 0 => (0, own, 0x20)
    | some 1 => (0, own, s.get PTP.EXT_TSRC_REF1)
    | some 2 => (0, own, s.get PTP.EXT_TSRC_REF2)
    | some 13 => match s.ref.up with
      | some u => (u.steps + 1, u.gm, u.tsrc)
      | none => free
    | some 15 => match s.couch.block with
      | some b => (b.steps, b.gm, b.tsrc)
      | none => free
    | _ => free

/-- Four characters as a Reference ID. -/
def refChars (a b c d : Nat) : Nat := ((a * 256 + b) * 256 + c) * 256 + d

/-- Whether NTP is unsynchronised on a port (R298). -/
def State.ntpUnsync (s : State) (p : Nat) : Bool :=
  let cs := s.get REFSEL.REFSEL_STATUS_CLOCK_STATE
  !s.flag TIME.TIME_STATUS_SET || !s.flag TIME.TIME_STATUS_UTC_VALID || cs == 0 || cs == 4 ||
    s.portBound (s.get BOUND.BOUND_CORE) p == boundMax

/-- The Reference ID of the slot selected, or in HOLDOVER selected before entry (R298). -/
def State.ntpRefId (s : State) : Nat :=
  match s.chainSlot with
  | some 0 =>
    let r := s.bound.chain.refSys
    if r = 0 then refChars 0x47 0x50 0x53 0 else if r = 1 then refChars 0x47 0x41 0x4C 0 else if r = 2 then refChars 0x42 0x44 0x53 0
    else if r = 3 then refChars 0x47 0x4C 0x4F 0 else refChars 0x51 0x5A 0x53 0x53
  | some 13 =>
    if s.get PTP.UP_CFG_TRANSPORT = 1 then s.get (PTP.UP_ADDR (s.get PTP.PTP_STATUS_UP_MASTER) 0)
    else (s.ref.up.map (fun (u : UpSample) => u.gm / 2 ^ 32)).getD 0
  | some 15 => (s.couch.block.map (fun (b : Timing) => b.refid)).getD 0
  | _ => refChars 0x50 0x50 0x53 0

/-- The Reference Timestamp (R297): the event of the latest measurement of the selected slot, in HOLDOVER the time of entry. -/
def State.ntpRefTime (s : State) : Nat :=
  let cs := s.get REFSEL.REFSEL_STATUS_CLOCK_STATE
  let t : Option Int := if cs = 3 then some s.hold.entry
    else s.selSlot.bind (fun n => (s.slot n).last.map (fun (q : Int × Int) => q.1))
  match t with
  | some t => s.ntpStamp (t + s.time.shift).toNat
  | none => 0

/-- The service values of the unit itself, as a FORWARD frame carries them (Table 15-2). -/
def State.ownTiming (s : State) : Timing :=
  let g := s.gmSet
  let unsync := s.ntpUnsync 0
  { bCore := if s.flag TIME.TIME_STATUS_SET then s.get BOUND.BOUND_CORE else boundMax
    cls := s.givenClass
    source := s.bound.chain.slot + (if s.bound.chain.valid then 16 else 0)
    refSys := s.bound.chain.refSys, depth := min 255 s.bound.chain.depth
    traceable := s.timeTraceable, freqTrace := s.freqTraceable, utcValid := s.flag TIME.TIME_STATUS_UTC_VALID
    leapArmed := s.flag TIME.TIME_STATUS_LEAP_ARMED, leapDir := s.flag TIME.TIME_STATUS_LEAP_DIR
    steps := g.1, tsrc := g.2.2, taiUtc := s.get TIME.TAI_UTC, origin := s.bound.chain.origin, gm := g.2.1
    leapTarget := s.get TIME.LEAP_TARGET
    refid := if unsync then refChars 0x49 0x4E 0x49 0x54 else s.ntpRefId
    cfg := s.get COUCH.CFG_DIGEST
    refTime := if unsync then 0 else s.ntpRefTime
    key := s.get COUCH.KEY_DIGEST
    wm := s.bound.marks
    tod := s.syn.todFrames, own := true }

/-- The values served with a message, latched with the bound of the sheet (R19): the peer's while they are held, and in MIRROR with a dual-fed message (R352, R363). -/
def State.served (s : State) (dual : Bool) : Timing :=
  if s.isHeld || (dual && s.mode == 5) then s.couch.block.getD s.asLatched.ownTiming else s.asLatched.ownTiming

/-- The watermark body of a message on a port (R19, R225, R352). -/
def State.markOf (s : State) (p : Nat) (dual : Bool) : List Byte :=
  let own := nth s.bound.marks p []
  if s.mode == 5 && dual then
    match s.couch.block with
    | none => own
    | some b =>
      let w := nth b.wm p []
      own.take 1 ++ cut w 1 3 ++ cut own 4 13 ++ cut w 17 11 ++ own.drop 28
  else own

/-- The bound in a watermark body. -/
def markBound (m : List Byte) : Nat := beAt m 12 5

/-- Limits of the codes of Table 10-4 in ps with half steps, from 0x17: each code to the limit it names. -/
def accTable : List (Nat × Rat) :=
  [(0x17, 1), (0x18, 5 / 2), (0x19, 10), (0x1A, 25), (0x1B, 100), (0x1C, 250), (0x1D, 1000), (0x1E, 2500), (0x1F, 10000), (0x20, 25000),
   (0x21, 100000), (0x22, 250000), (0x23, 1000000), (0x24, 2500000), (0x25, 10000000), (0x26, 25000000), (0x27, 100000000),
   (0x28, 250000000), (0x29, 1000000000), (0x2A, 2500000000), (0x2B, 10000000000), (0x2C, 25000000000), (0x2D, 100000000000),
   (0x2E, 250000000000), (0x2F, 1000000000000), (0x30, 10000000000000)]

/-- clockAccuracy of an Announce whose watermark body would be this one (R228). -/
def State.accuracy (s : State) (m : List Byte) : Nat :=
  let b := markBound m
  if b = boundMax ∨ bitOf (leAt m 1 1) 5 = true then 0xFE
  else if s.flag BOUND.WM_CFG_ACC_MODE then s.get BOUND.ACC_CFG_ACC_FIXED
  else ((accTable.find? (fun q => decide ((b : Rat) ≤ q.2))).map (·.1)).getD 0xFE

/-! ### PTP messages (R263, R264, R266) -/

/-- Whether the leap second of service values is in its warning period: TIME_STATUS.LEAP_WARNING for the unit's own (R263, R298), LEAP_WARN
seconds before the target for the peer's. -/
def State.warns (s : State) (t : Timing) : Bool :=
  if t.own then s.flag TIME.TIME_STATUS_LEAP_ARMED && s.flag TIME.TIME_STATUS_LEAP_WARNING
  else
  let u := s.targetUnits t.leapTarget
  t.leapArmed && decide (u - (s.get TIME.LEAP_WARN : Int) * secU ≤ s.units) && decide ((s.units : Int) < u)

/-- flagField (R263), as a 16-bit number, its first octet high. -/
def State.ptpFlags (s : State) (t : Timing) (mark : List Byte) (twoStep unicast : Bool) : Nat :=
  let f := fun (b : Bool) (i : Nat) => if b then 2 ^ i else 0
  let warn := s.warns t
  let uncertain := if s.isHeld then leAt mark 3 1 % 8 == 1
    else s.get REFSEL.REFSEL_STATUS_CLOCK_STATE == 1 || s.flag TIME.TIME_STATUS_SLEWING
  f twoStep 9 + f unicast 10 + f (warn && !t.leapDir) 0 + f (warn && t.leapDir) 1 + f t.utcValid 2 + 8 + f t.traceable 4 + f t.freqTrace 5 +
    f uncertain 6

/-- controlField (R263). -/
def ptpControl (type : Nat) : Nat := if type = 0 then 0 else if type = 1 then 1 else if type = 8 then 2 else if type = 9 then 3 else 5

/-- portIdentity of a port (R263). -/
def State.portId (s : State) (p : Nat) : List Byte := beBytes 8 (s.get PTP.CLOCK_ID) ++ beBytes 2 (p + 1)

/-- The header of a PTP message of `n` bytes. -/
def State.ptpHead (s : State) (p type n flags seq log : Nat) (corr : Int) : List Byte :=
  beBytes 1 type ++ beBytes 1 0x12 ++ beBytes 2 n ++ beBytes 1 (s.get PTP.PTP_DOMAIN) ++ beBytes 1 0 ++ beBytes 2 flags ++
    beBytes 8 (ofS 64 corr) ++ beBytes 4 0 ++ s.portId p ++ beBytes 2 seq ++ beBytes 1 (ptpControl type) ++ beBytes 1 log

/-- The seconds and nanoseconds of a timestamp (R264). -/
def stamp10 (t : Nat) : List Byte := beBytes 6 (t / secU) ++ beBytes 4 (t % secU / 65536)

/-- The fraction of a timestamp, which the correctionField carries (R264). -/
def fracOf (t : Nat) : Int := (t % 65536 : Nat)

/-- The watermark as a TLV (R226). -/
def State.markTlv (s : State) (m : List Byte) : List Byte := beBytes 2 (s.get BOUND.WM_CFG_PTP_TYPE) ++ beBytes 2 40 ++ m

/-- The bit of WM_CFG.PTP_MSG for a message; a two-step Sync carries none (R226). -/
def markBit (type : Nat) (twoStep : Bool) : Option Nat :=
  if type = 0 then (if twoStep then none else some 0) else if type = 8 then some 0 else if type = 9 then some 1
  else if type = 0xB then some 2 else if type = 0xC then some 3 else none

/-- correctionField and body of a message that leaves with transmit timestamp `tx` (R264). -/
def State.ptpBody (s : State) (m : PtpMsg) (tx : Nat) (t : Timing) (mark : List Byte) : Int × List Byte :=
  if m.type = 0 then (if m.twoStep then 0 else m.corr + fracOf tx, stamp10 tx)
  else if m.type = 1 then (fracOf tx, stamp10 tx)
  else if m.type = 2 then (fracOf tx, stamp10 tx ++ List.replicate 10 0)
  else if m.type = 8 then (fracOf m.time, stamp10 m.time)
  else if m.type = 9 then (m.corr - fracOf m.time, stamp10 m.time ++ m.peer)
  else if m.type = 3 then
    (if m.twoStep then (-fracOf m.time, stamp10 m.time ++ m.peer)
     else (m.corr + (tx : Int) - (m.time : Int), List.replicate 10 0 ++ m.peer))
  else if m.type = 0xA then (m.corr + fracOf m.time, stamp10 m.time ++ m.peer)
  else if m.type = 0xB then
    (0, beBytes 10 Config.announceOrigin ++ beBytes 2 t.taiUtc ++ beBytes 1 0 ++ beBytes 1 (s.get PTP.GM_PRIO_PRIORITY1) ++ beBytes 1 t.cls ++
      beBytes 1 (s.accuracy mark) ++
      beBytes 2 (if s.get REFSEL.REFSEL_STATUS_CLOCK_STATE = 2 then s.get BOUND.ACC_CFG_OSLV_LOCKED else s.get BOUND.ACC_CFG2) ++
      beBytes 1 (s.get PTP.GM_PRIO_PRIORITY2) ++ beBytes 8 t.gm ++ beBytes 2 t.steps ++ beBytes 1 t.tsrc)
  else (0, m.peer)

/-- Length of a message before its TLVs. -/
def ptpLen (type : Nat) : Nat :=
  if type = 2 ∨ type = 3 ∨ type = 9 ∨ type = 0xA then 54 else if type = 0xB then 64 else if type = 0xD then 48 else 44

/-- An AUTHENTICATION TLV up to its ICV (R283). -/
def authTlv (spp keyId : Nat) : List Byte := beBytes 2 0x8009 ++ beBytes 2 22 ++ beBytes 1 spp ++ beBytes 1 0 ++ beBytes 4 keyId

/-- A message with its correctionField taken as 0, where CF_ZERO says so (R283). -/
def State.icvInput (s : State) (b : List Byte) : List Byte :=
  if s.flag PTP.AUTH_CFG_CF_ZERO then b.take 8 ++ List.replicate 8 0 ++ b.drop 16 else b

/-- A message that leaves a port with transmit timestamp `tx`; `auth` gives the SPP and slot of its AUTHENTICATION TLV. Empty where its ICV
is discarded: it is not sent (R334). -/
def State.ptpBytes (s : State) (m : PtpMsg) (p tx : Nat) (dual : Bool) (auth : Option (Nat × Nat)) : List Byte × State :=
  let t := s.served dual
  let mark := s.markOf p dual
  let v := s.asLatched
  let cb := v.ptpBody m tx t mark
  let wm := match markBit m.type m.twoStep with
    | some i => if bitOf (s.get BOUND.WM_CFG_PTP_MSG) i then s.markTlv mark else []
    | none => []
  let n := 34 + cb.2.length + m.tlvs.length + wm.length + (if auth.isSome then 26 else 0)
  let b := s.ptpHead p m.type n (v.ptpFlags t mark m.twoStep m.unicast) m.seq m.log cb.1 ++ cb.2 ++ m.tlvs ++ wm
  match auth with
  | none => (b, s)
  | some q =>
    let b := b ++ authTlv q.1 (s.keySlot q.2).keyId
    let r := s.icv q.2 (s.icvInput b)
    (if r.1.isEmpty then [] else b ++ r.1, r.2)

end Sys2Proof.Machine
end

