-- ==== Sys2Proof/Machine/Clients.lean ====
section
/-! DEFINITION. Client records, pools and the client index (chapter 12). -/

namespace Sys2Proof.Machine

/-! ### Client records (R267, Table 12-3) -/

/-- A grant field: EXP, LOG as a byte, CNT. -/
structure Grant where
  exp : Nat := 0
  log : Nat := 0x7F
  cnt : Nat := 0
  deriving DecidableEq, Repr

/-- A client record. -/
structure Client where
  valid : Bool := false
  transport : Nat := 0
  multicast : Bool := false
  auth : Bool := false
  dual : Bool := false
  stale : Bool := false
  pinned : Bool := false
  port : Nat := 0
  pool : Nat := 0
  spp : Nat := 0
  slot : Nat := 0
  mac : List Byte := List.replicate 6 0
  flow : Nat := 0
  faults : Nat := 0
  ip : List Byte := List.replicate 16 0
  portId : List Byte := List.replicate 10 0
  seen : Nat := 0
  sync : Grant := {}
  ann : Grant := {}
  dresp : Grant := {}
  syncSeq : Nat := 0
  annSeq : Nat := 0
  sigSeq : Nat := 0
  deriving DecidableEq, Repr

/-- A grant from its 6 bytes. -/
def Grant.ofBytes (b : List Byte) : Grant := ⟨leAt b 0 4, leAt b 4 1, leAt b 5 1⟩

/-- The 6 bytes of a grant. -/
def Grant.bytes (g : Grant) : List Byte := leBytes 4 g.exp ++ leBytes 1 g.log ++ leBytes 1 g.cnt

/-- A record from its 64 bytes (Table 12-3). -/
def Client.ofBytes (b : List Byte) : Client :=
  let st := leAt b 0 1
  { valid := bitOf st 0, transport := bits st 1 2, multicast := bitOf st 3, auth := bitOf st 4, dual := bitOf st 5, stale := bitOf st 6,
    pinned := bitOf st 7, port := bits (leAt b 1 1) 0 3, pool := bits (leAt b 1 1) 3 5, spp := leAt b 2 1, slot := leAt b 3 1,
    mac := cut b 4 6, flow := leAt b 0xA 1, faults := leAt b 0xB 1, ip := cut b 0xC 16, portId := cut b 0x1C 10, seen := leAt b 0x26 2,
    sync := Grant.ofBytes (cut b 0x28 6), ann := Grant.ofBytes (cut b 0x2E 6), dresp := Grant.ofBytes (cut b 0x34 6),
    syncSeq := leAt b 0x3A 2, annSeq := leAt b 0x3C 2, sigSeq := leAt b 0x3E 2 }

/-- STATE of a record. -/
def Client.state (c : Client) : Nat :=
  let f := fun (b : Bool) (i : Nat) => if b then 2 ^ i else 0
  f c.valid 0 + c.transport * 2 + f c.multicast 3 + f c.auth 4 + f c.dual 5 + f c.stale 6 + f c.pinned 7

/-- The 64 bytes of a record (Table 12-3). -/
def Client.bytes (c : Client) : List Byte :=
  leBytes 1 c.state ++ leBytes 1 (c.port + 8 * c.pool) ++ leBytes 1 c.spp ++ leBytes 1 c.slot ++ c.mac ++ leBytes 1 c.flow ++
    leBytes 1 c.faults ++ c.ip ++ c.portId ++ leBytes 2 c.seen ++ c.sync.bytes ++ c.ann.bytes ++ c.dresp.bytes ++ leBytes 2 c.syncSeq ++
    leBytes 2 c.annSeq ++ leBytes 2 c.sigSeq

/-- The grant of a record for a messageType. -/
def Client.grant (c : Client) (type : Nat) : Grant := if type = 0 then c.sync else if type = 0xB then c.ann else c.dresp

/-- A record with the grant for a messageType replaced. -/
def Client.setGrant (c : Client) (type : Nat) (g : Grant) : Client :=
  if type = 0 then { c with sync := g } else if type = 0xB then { c with ann := g } else { c with dresp := g }

/-- TAI seconds of the edge of the sheet. -/
def State.taiEdge (s : State) : Nat := s.time.edge / secU

/-- Whether a grant of a record is live in the sheet (R267). -/
def State.live (s : State) (c : Client) (type : Nat) : Bool :=
  let g := c.grant type
  g.log != 0x7F && (c.multicast || decide (0 < toS 32 (ofS 32 ((g.exp : Int) - s.taiEdge))))

/-- Whether a record has a live grant. -/
def State.anyLive (s : State) (c : Client) : Bool := s.live c 0 || s.live c 0xB || s.live c 9

/-! ### The pools (R269, R270) -/

/-- Whether a record lies in a pool's sequence while it is enabled. -/
def Pool.holds (p : Pool) (c : Nat) : Bool := p.en && decide (p.first ≤ c) && decide (c ≤ p.last) && (c - p.first) % p.stride == 0

/-- A pool in force. -/
def State.pool (s : State) (i : Nat) : Pool := nth s.ptp.pools i {}

/-- The pool to which a record belongs: the lowest-numbered that holds it (R270). -/
def State.poolOf (s : State) (c : Nat) : Option Nat := (List.range 32).find? (fun i => (s.pool i).holds c)

/-- The members of a pool, lowest first. -/
def State.members (s : State) (i : Nat) : List Nat :=
  let p := s.pool i
  if p.en && decide (p.first ≤ p.last) then
    ((List.range ((p.last - p.first) / p.stride + 1)).map (fun k => p.first + k * p.stride)).filter (fun c => s.poolOf c == some i)
  else []

/-! ### The free bitmap (R269); a bit is 1 while its record is VALID -/

/-- The vat address of the bitmap. -/
def mapAddr : Nat := 0x07900000

/-- The bit of a record. -/
def State.recUsed (s : State) (c : Nat) : Bool := bitOf (leNat (s.vatSee 7 (mapAddr + c / 8) 1)) (c % 8)

/-- A poisoned word of the bitmap is rewritten from the VALID bits of the records it covers (Table 17-3). -/
def State.mendMap (s : State) : State :=
  (s.vatc.poison.filter (fun w => decide (mapAddr / 8 ≤ w) && decide (w < mapAddr / 8 + 16384))).foldl (fun s w =>
    let s := s.vatUncorr 7 (8 * w)
    let c0 := (8 * w - mapAddr) * 8
    let v := ((List.range 64).map (fun i => if bitOf (leNat (s.vatSee 7 (64 * (c0 + i)) 1)) 0 then 2 ^ i else 0)).foldl (· + ·) 0
    (s.vatWrite 7 (8 * w) (leBytes 8 v)).2) s

/-- The bitmap as the PTP block reads it: zeros where the regions deny it. -/
def State.mapRead (s : State) : State × Bool :=
  let s := s.mendMap
  if s.vatMay 7 mapAddr 131072 false then (s, true) else (s.vatDeny 7 mapAddr false, false)

/-- The bit of a record is set or cleared. -/
def State.mapSet (s : State) (c : Nat) (b : Bool) : State :=
  let s := s.mendMap
  (s.vatWrite 7 (mapAddr + c / 8) (leBytes 1 (putBit (leNat (s.vatSee 7 (mapAddr + c / 8) 1)) (c % 8) b))).2

/-- The VALID records, from the bitmap. -/
def State.liveRecs (s : State) : List Nat :=
  (s.vat.filter (fun (q : Nat × Byte) => decide (mapAddr ≤ q.1) && decide (q.1 < mapAddr + 131072) && s.vatMay 7 q.1 1 false)).flatMap (fun q =>
    (bitsOf 8 q.2.toNat).map (fun i => 8 * (q.1 - mapAddr) + i))

/-- FREE of the pools, TABLE_FULL and CLIENTS_LIVE (R269, R276). -/
def State.showPools (s : State) : State :=
  let frees := (List.range 32).map (fun i => ((s.members i).filter (fun c => !s.recUsed c)).length)
  let s := (List.range 32).foldl (fun s i => s.put (PTP.POOL_LOG_FREE i) (satN 16 (nth frees i 0))) s
  let sync := (List.range 32).filter (fun i => (s.pool i).en && bitOf (s.pool i).msg 0)
  let s := s.putB PTP.PTP_STATUS_TABLE_FULL (!sync.isEmpty && sync.all (fun i => nth frees i 0 == 0))
  s.put PTP.CLIENTS_LIVE s.liveRecs.length

/-! ### The index (R268) -/

/-- Records and buckets that changed are couched while a standby listens (R346). -/
def State.noteChange (s : State) (bucket : Bool) (n : Nat) : State :=
  if s.mode == 5 || s.get COUCH.PAIR_STATUS_LINK != 3 then s
  else if s.ptp.changed.contains (bucket, n) then s else { s with ptp := { s.ptp with changed := s.ptp.changed ++ [(bucket, n)] } }

/-- The address part of a client's key: PEER_IP, or PEER_MAC followed by zeros. -/
def Client.addr (c : Client) : List Byte := if c.transport = 0 then c.mac ++ List.replicate 10 0 else c.ip

/-- A client's key. -/
def clientKey (port transport : Nat) (addr portId : List Byte) : List Byte :=
  leBytes 1 port ++ leBytes 1 transport ++ addr ++ portId

/-- The buckets a key probes. -/
def probes (h : Nat) : List Nat := (List.range 16).map (fun j => (h % 2 ^ 21 + j) % 2 ^ 21)

/-- The vat address of a bucket. -/
def bucketAddr (b : Nat) : Nat := 0x07000000 + 4 * b

/-- A bucket as the PTP block reads it; a poisoned one is rewritten as free (Table 17-3). -/
def State.bucket (s : State) (b : Nat) : Nat × State :=
  let r := s.vatRead 7 (bucketAddr b) 4
  match r.1 with
  | .ok d => (leNat d, r.2)
  | .denied d => (leNat d, r.2)
  | .uncorr =>
    let s := (r.2.vatWrite 7 (bucketAddr (b / 2 * 2)) (leBytes 8 0)).2
    (0, (s.noteChange true (b / 2 * 2)).noteChange true (b / 2 * 2 + 1))

/-- A bucket is written. -/
def State.setBucket (s : State) (b v : Nat) : State := ((s.vatWrite 7 (bucketAddr b) (leBytes 4 v)).2).noteChange true b

/-- The bucket among those of a key, up to `n` of them, for which a property of its content holds. -/
def State.seekBucket (s : State) (p : Nat → Bool) : List Nat → Option Nat × State
  | [] => (none, s)
  | b :: bs =>
    let r := s.bucket b
    if p r.1 then (some b, r.2) else State.seekBucket r.2 p bs

/-- A record leaves the index. -/
def State.unindex (s : State) (n : Nat) (c : Client) : State :=
  let h := crc32 (clientKey c.port c.transport c.addr c.portId)
  match s.seekBucket (fun v => bitOf v 31 && bits v 0 20 == n) (probes h) with
  | (some b, s) => s.setBucket b 0
  | (none, s) => s

/-- Every bucket that names a record is freed: for a record whose key cannot be read. -/
def State.unindexAll (s : State) (n : Nat) : State :=
  let bs := ((s.vat.filter (fun (q : Nat × Byte) => decide (0x07000000 ≤ q.1) && decide (q.1 < 0x07800000) && s.vatMay 7 q.1 1 false)).map
    (fun q => (q.1 - 0x07000000) / 4)).dedup
  bs.foldl (fun s b =>
    let v := leNat (s.vatSee 7 (bucketAddr b) 4)
    if bitOf v 31 && bits v 0 20 == n then s.setBucket b 0 else s) s

/-! ### Reading, writing and freeing a record -/

/-- A record is written. -/
def State.setRec (s : State) (n : Nat) (c : Client) : State := ((s.vatWrite 7 (64 * n) c.bytes).2).noteChange false n

/-- What is common to the end of a record: the bitmap, what the block keeps of it, its event (R281, Table 12-5). -/
def State.recGone (s : State) (n port : Nat) : State :=
  let s := s.mapSet n false
  let s := { s with ptp := { s.ptp with
    cancels := s.ptp.cancels.filter (fun q => q.1 != n)
    byHost := s.ptp.byHost.filter (· != n)
    due := s.ptp.due.filter (fun (d : ClientDue) => match d with
      | .grant r _ _ _ _ => r != n
      | .cancel r _ => r != n
      | .del r => r != n
      | .image _ _ => true) } }
  (((s.pay 1 1500).eventIn 0x0902 n port).journal .auto 3 n port 0 0x0902).showPools

/-- A record is freed: VALID cleared, out of the index, back to its pool (R281). -/
def State.freeRec (s : State) (n : Nat) (c : Client) : State :=
  ((s.unindex n c).setRec n { c with valid := false }).recGone n c.port

/-- A record as the PTP block reads it; an uncorrectable one is freed (Table 17-3). -/
def State.getRec (s : State) (n : Nat) : Client × State :=
  let r := s.vatRead 7 (64 * n) 64
  match r.1 with
  | .ok b => (Client.ofBytes b, r.2)
  | .denied b => (Client.ofBytes b, r.2)
  | .uncorr =>
    let s := ((r.2.vatWrite 7 (64 * n) (List.replicate 64 0)).2).noteChange false n
    ({}, ((s.unindexAll n).recGone n 0).inc PTP.CLIENT_AGED_CNT)

/-- The record with a key among the buckets it probes. -/
def State.seekRec (s : State) (key : List Byte) (h : Nat) : List Nat → Option (Nat × Client) × State
  | [] => (none, s)
  | b :: bs =>
    let r := s.bucket b
    let n := bits r.1 0 20
    if bitOf r.1 31 && bits r.1 20 11 == h / 2 ^ 21 then
      let q := r.2.getRec n
      if q.1.valid && clientKey q.1.port q.1.transport q.1.addr q.1.portId == key then (some (n, q.1), q.2)
      else State.seekRec q.2 key h bs
    else State.seekRec r.2 key h bs

/-- The client with a port, transport, address and port identity, if there is one (R268). -/
def State.findRec (s : State) (port transport : Nat) (addr portId : List Byte) : Option (Nat × Client) × State :=
  let key := clientKey port transport addr portId
  let h := crc32 key
  s.seekRec key h (probes h)

/-- A record enters the index; false when its 16 probes meet no free bucket. -/
def State.index (s : State) (n : Nat) (c : Client) : Bool × State :=
  let h := crc32 (clientKey c.port c.transport c.addr c.portId)
  match s.seekBucket (fun v => !bitOf v 31) (probes h) with
  | (some b, s) => (true, s.setBucket b (n + h / 2 ^ 21 * 2 ^ 20 + 2 ^ 31))
  | (none, s) => (false, s)

/-! ### Fit and allocation (R271, R273, R276) -/

/-- The bit of MSG for a messageType. -/
def msgBit (type : Nat) : Nat := if type = 0 then 0 else if type = 0xB then 1 else 2

/-- A byte as a signed number. -/
def s8 (v : Nat) : Int := toS 8 v

/-- Whether LOG_LIMITS allows a period for a messageType. -/
def State.logOk (s : State) (type : Nat) (l : Int) : Bool :=
  let lo := if type = 0 then s.geti PTP.LOG_LIMITS_SYNC_LOG_MIN else if type = 0xB then s.geti PTP.LOG_LIMITS_ANN_LOG_MIN
            else s.geti PTP.LOG_LIMITS_DRESP_LOG_MIN
  decide (lo ≤ l) && decide (l ≤ s.geti PTP.LOG_LIMITS_LOG_MAX)

/-- Whether a grant fits a pool (R271). -/
def State.fits (s : State) (i port type : Nat) (l : Int) : Bool :=
  let p := s.pool i
  p.en && p.port == port && bitOf p.msg (msgBit type) &&
    (if type = 9 then decide (s.geti PTP.LOG_LIMITS_DRESP_LOG_MIN ≤ l) && decide (l ≤ s.geti PTP.LOG_LIMITS_LOG_MAX)
     else
       let b := s8 (if type = 0 then p.syncLog else p.annLog)
       decide (0 ≤ l - b) && decide (l - b ≤ 7))

/-- The pool whose terms bind a record: that from which it was allocated, while the record is its member and it is on the record's port. -/
def State.boundPool (s : State) (n : Nat) (c : Client) : Option Nat :=
  if s.poolOf n == some c.pool && (s.pool c.pool).port == c.port then some c.pool else none

/-- DIV of a record's grant (R271): 1 where no pool binds it. -/
def State.divOf (s : State) (n : Nat) (c : Client) (type : Nat) : Nat :=
  match s.boundPool n c with
  | some i =>
    let d := s8 (c.grant type).log - s8 (if type = 0 then (s.pool i).syncLog else (s.pool i).annLog)
    if 0 ≤ d ∧ d ≤ 7 then 2 ^ d.toNat else 1
  | none => 1

/-- A record for a new client whose request fits a pool (R271, R273), or the counter of the reason for none (R276). -/
def State.allocate (s : State) (port type : Nat) (l : Int) (c : Client) : (Nat ⊕ Fld) × State :=
  let fit := (List.range 32).filter (fun i => s.fits i port type l)
  if fit.isEmpty then (.inr PTP.NO_POOL_CNT, s)
  else
    let r := s.mapRead
    let s := r.1
    match fit.findSome? (fun i => ((s.members i).find? (fun n => !r.2 || !s.recUsed n)).map (fun n => (i, n))) with
    | none => (.inr PTP.TABLE_FULL_CNT, s)
    | some (i, n) =>
      let c := { c with valid := true, port := port, pool := i, syncSeq := 0, annSeq := 0, sigSeq := 0 }
      match s.index n c with
      | (false, s) => (.inr PTP.INDEX_FULL_CNT, s)
      | (true, s) =>
        let s := ((s.setRec n c).mapSet n true).inc PTP.CLIENT_NEW_CNT
        (.inl n, (((s.pay 1 1500).eventIn 0x0901 n port).journal .auto 3 n port (beNat (c.addr.take 8)) 0x0901).showPools)

/-! ### Changes at an edge (R274, R292) -/

/-- A change of a record takes effect. -/
def State.clientDue (s : State) (d : ClientDue) : State :=
  match d with
  | .grant n type exp log renew =>
    let r := s.getRec n
    if !r.1.valid then r.2
    else
      let g := r.1.grant type
      let g' : Grant := if renew && g.log == log then { g with exp := exp } else ⟨exp, log, 0⟩
      r.2.setRec n (r.1.setGrant type g')
  | .cancel n type =>
    let r := s.getRec n
    if r.1.valid then r.2.setRec n (r.1.setGrant type { (r.1.grant type) with log := 0x7F }) else r.2
  | .image n b =>
    let r := s.getRec n
    let c := Client.ofBytes b
    let s := if r.1.valid then r.2.unindex n r.1 else r.2
    let s := (s.setRec n c).mapSet n c.valid
    let s := { s with ptp := { s.ptp with
      byHost := if c.valid then n :: s.ptp.byHost.filter (· != n) else s.ptp.byHost.filter (· != n) } }
    let s := if c.valid then
        match s.index n c with
        | (true, s) => s
        | (false, s) => s.inc PTP.INDEX_FULL_CNT
      else s
    s.showPools
  | .del n => { s with ptp := { s.ptp with cancels := s.ptp.cancels.filter (fun q => q.1 != n) ++ [(n, s.mono)] } }

/-- The changes of client records due at an edge (R274, R292). -/
def State.clientEdge (s : State) : State :=
  let l := s.ptp.due
  l.foldl State.clientDue { s with ptp := { s.ptp with due := [] } }

/-- The staged pools take effect (R269). -/
def State.loadPools (s : State) : State :=
  let p : List Pool := (List.range 32).map (fun i =>
    { first := s.get (PTP.POOL_FIRST i), last := s.get (PTP.POOL_LAST i), port := s.get (PTP.POOL_CFG_PORT i),
      stride := s.get (PTP.POOL_CFG_STRIDE i), en := s.flag (PTP.POOL_CFG_EN i), msg := s.get (PTP.POOL_CFG_MSG i),
      syncLog := s.get (PTP.POOL_LOG_SYNC_LOG i), annLog := s.get (PTP.POOL_LOG_ANN_LOG i) : Pool })
  let l := s.glb.poolWrites
  let s : State := l.foldl (fun (s : State) (w : LateWrite) => s.journalWrite w.origin w.addr w.old w.new) { s with glb := { s.glb with poolWrites := [] } }
  if p = s.ptp.pools then s else ({ s with ptp := { s.ptp with pools := p } }).showPools

/-- Authenticated records whose key is no longer usable become STALE (R284, R328). -/
def State.staleRecs (s : State) : State :=
  s.liveRecs.foldl (fun s n =>
    let r := s.getRec n
    if r.1.valid && r.1.auth && !r.1.stale && !(r.2.keySlot r.1.slot).usable then r.2.setRec n { r.1 with stale := true } else r.2) s

/-- The flows take their numbers for the sheet (R350). -/
def State.flowEdge (s : State) : State :=
  (List.range 256).foldl (fun s f =>
    if !s.flag (PTP.FLOW_CFG_EN f) then s
    else
      let n := ((nth s.ptp.flows f {}).first + 16) % 65536
      ({ s with ptp := { s.ptp with flows := setNth s.ptp.flows f ⟨n, 0, 0⟩ } }).put (PTP.FLOW_CFG_SEQ f) n) s

/-! ### Commands and ageing (R281, R292) -/

/-- CLIENT_SET (R291, R292): the image is written at the next edge. -/
def runClientSet (h : Hdr) (record addr : Nat) (dma : DmaIn) (s : State) : State :=
  s.command h 0xA0 false (.clientSet h record addr dma) (dmaStock 64) (fun s =>
    if s.mode = 5 then s.complete h 0xA0 stMODE 0
    else if 1048576 ≤ record then s.complete h 0xA0 stINVALID 0
    else if h.origin = .mspi ∧ mbWindow < addr + 64 then s.complete h 0xA0 stINVALID 0
    else
      match s.dataIn h addr 64 dma with
      | none => (s.inc HIF.DMA_ERR_CNT).complete h 0xA0 stDMA 0
      | some b =>
        let c := Client.ofBytes b
        if c.transport = 3 ∨ (c.dual = true ∧ s.flag (PTP.FLOW_CFG_EN c.flow) = false) then s.complete h 0xA0 stINVALID 0
        else
          let r := if c.valid then s.findRec c.port c.transport c.addr c.portId else (none, s)
          let s := r.2
          if r.1.any (fun q => q.1 != record) then s.complete h 0xA0 stBUSY 0
          else
            let s := { s with ptp := { s.ptp with due := s.ptp.due ++ [ClientDue.image record b] } }
            (s.journalCmd h 0xA0 record addr).complete h 0xA0 stOK 0)

/-- CLIENT_READ (R292). -/
def runClientRead (h : Hdr) (record addr : Nat) (s : State) : State :=
  s.command h 0xA1 true (.clientRead h record addr) (dmaStock 64) (fun s =>
    if 1048576 ≤ record then s.complete h 0xA1 stINVALID 0 else s.vatOut h 0xA1 addr (64 * record) 64 0)

/-- CLIENT_DEL (R292): raises an engine CANCEL at the next edge. -/
def runClientDel (h : Hdr) (record : Nat) (s : State) : State :=
  s.command h 0xA2 false (.clientDel h record) 0 (fun s =>
    if s.mode = 5 then s.complete h 0xA2 stMODE 0
    else
      let r := if record < 1048576 then s.getRec record else ({}, s)
      if !r.1.valid then r.2.complete h 0xA2 stNOTREADY 0
      else
        let s := { r.2 with ptp := { r.2.ptp with due := r.2.ptp.due ++ [ClientDue.del record] } }
        (s.journalCmd h 0xA2 record 0).complete h 0xA2 stOK 0)

/-- CLIENT_DEL_TIMEOUT (R292): a deleted record whose CANCEL has not been sent is freed. -/
def runClientDelTimeout (record : Nat) (s : State) : State :=
  if s.ptp.cancels.any (fun q => q.1 == record && s.reaches (q.2 + (2 * secU : Nat))) then
    let r := s.getRec record
    if r.1.valid then r.2.freeRec record r.1 else r.2
  else s

/-- AGEING_VISIT (R281): a VALID record that is not PINNED, holds no live grant and has not been seen for AGE_S is freed. Not in MIRROR
(R341), nor in the handover sheet (R360). -/
def runAgeingVisit (record : Nat) (s : State) : State :=
  if s.mode = 5 ∨ s.couch.handing = true ∨ 1048576 ≤ record then s
  else s.orPause 4 10 (fun s =>
    let r := s.getRec record
    let s := r.2
    if r.1.valid && !r.1.pinned && !s.anyLive r.1 &&
        decide (s.get PTP.GRANT_CFG_AGE_S ≤ (s.taiSec + 65536 - r.1.seen) % 65536) then
      (s.freeRec record r.1).inc PTP.CLIENT_AGED_CNT
    else s)

end Sys2Proof.Machine
end

