-- ==== Sys2Proof/Machine/Mac.lean ====
section
/-! DEFINITION. The headbox, PAUSE, the lookahead and low-power idle (chapter 11). -/

namespace Sys2Proof.Machine

/-! ### The headbox (R241, Table 11-2) -/

/-- The mode by whose row of Table 1-6 clients are served: MIRROR in the handover sheet (R360). -/
def State.execMode (s : State) : Nat := if s.couch.handing then 5 else s.mode

/-- 01-1B-19-00-00-00 and 01-80-C2-00-00-0E. -/
def ptpMac (peer : Bool) : List Byte := if peer then beBytes 6 0x0180C200000E else beBytes 6 0x011B19000000

/-- 224.0.1.129 or FF0X::181. -/
def ptpGroup (v6 : Bool) (a : List Byte) : Bool :=
  if v6 then beAt a 0 1 == 0xFF && decide (beAt a 1 1 < 16) && beAt a 2 14 == 0x181 else beNat a == 0xE0000181

/-- The headbox rule of a frame on a port (Table 11-2). -/
def State.headRule (s : State) (p : Nat) (b : List Byte) : Nat :=
  let e := ethParse b
  let mac := s.portMac p
  let tagOk := if s.flag (MAC.HB_CFG_VLAN_EN p) then e.tci.any (fun t => t % 4096 == s.get (MAC.HB_CFG_VLAN_ID p)) else e.tci.isNone
  let ptp2 := e.etype == 0x88F7 && (((e.dst == mac || e.dst == ptpMac false) && s.flag (MAC.HB_CFG_PTP_L2 p)) ||
    (e.dst == ptpMac true && s.flag (MAC.HB_CFG_PTP_P2P p)))
  let udp := udpParse e
  let ptpU := s.flag (MAC.HB_CFG_PTP_UDP p) && udp.any (fun u =>
    (u.dport == 319 || u.dport == 320) && (s.isTa p u.v6 u.dst || ptpGroup u.v6 u.dst))
  let ntp := s.flag (MAC.HB_CFG_NTP p)
  let ntpU := ntp && udp.any (fun u => u.dport == 123 && s.isTa p u.v6 u.dst)
  let arp := ntp && e.etype == 0x0806 && ((s.ta4 p).contains (cut e.payload 14 4) || (s.ta4 p).contains (cut e.payload 24 4))
  let nd := ntp && (icmpParse e).any (fun m => (beAt m.2.2 0 1 == 135 || beAt m.2.2 0 1 == 136) && (s.ta6 p).contains (cut m.2.2 8 16))
  if e.etype = 0x8808 then (if beAt e.payload 0 2 = 1 then 1 else 2)
  else if e.etype = 0x8809 ∧ beAt e.payload 0 1 = 0x0A then 3
  else if tagOk && ptp2 then 4
  else if tagOk && ptpU then 5
  else if tagOk && ntpU then 6
  else if tagOk && (arp || nd) then 7
  else if e.etype = 0x88CC then 8
  else if e.dst == mac || e.dst == List.replicate 6 0xFF ||
      (bitsOf 8 (s.get (MAC.HB_MCAST p))).any (fun i => e.dst == beBytes 6 (Config.mcast i)) then 9
  else 10

/-! ### PTP messages as they arrive -/

/-- A PTP message with where it came from: transport, source address as a key has it, source MAC, source and destination address,
whether it went to a group, VLAN tag, receive timestamp, the message, and what a trailer may follow. -/
structure PtpIn where
  transport : Nat
  addr : List Byte
  smac : List Byte
  src : List Byte
  dst : List Byte
  group : Bool
  tci : Option Nat
  time : Nat
  coarse : Bool
  msg : List Byte
  deriving DecidableEq, Repr

/-- The PTP message of a frame of rule 4 or 5. Bytes after messageLength are padding, or a trailer, and no part of it (R290). -/
def ptpParse (r : RxFrame) : PtpIn :=
  let e := ethParse r.bytes
  match (if r.rule = 5 then udpParse e else none) with
  | some u =>
    ⟨if u.v6 then 2 else 1, u.src ++ List.replicate (16 - u.src.length) 0, e.src, u.src, u.dst, ptpGroup u.v6 u.dst, e.tci, r.time, r.coarse,
      u.payload.take (beAt u.payload 2 2)⟩
  | none =>
    ⟨0, e.src ++ List.replicate 10 0, e.src, e.src, e.dst, e.dst == ptpMac false || e.dst == ptpMac true, e.tci, r.time, r.coarse,
      e.payload.take (beAt e.payload 2 2)⟩

/-- messageType. -/
def PtpIn.type (m : PtpIn) : Nat := beAt m.msg 0 1 % 16

/-- sourcePortIdentity. -/
def PtpIn.portId (m : PtpIn) : List Byte := cut m.msg 20 10

/-- Whether a frame's client has a record with DUAL set (R242). -/
def State.dualFrame (s : State) (p : Nat) (r : RxFrame) : Bool × State :=
  if r.rule = 4 ∨ r.rule = 5 then
    let m := ptpParse r
    let q := s.findRec p m.transport m.addr m.portId
    (q.1.any (fun c => c.2.dual), q.2)
  else (false, s)

/-! ### Receiving (R236, R237, R242, R243) -/

/-- Staging that a frame takes: its length with the FCS, rounded up to 64 bytes. -/
def rxRoom (b : List Byte) : Nat := (b.length + 4 + 63) / 64 * 64

/-- A frame goes into the receive staging of its port. -/
def State.stageRx (s : State) (p : Nat) (r : RxFrame) : State :=
  let q := s.port p
  s.setPort p { q with rx := q.rx ++ [r] }

/-- A timing frame that the mode lets pass is staged within the limits of R243. -/
def State.stageTiming (s : State) (p : Nat) (r : RxFrame) : State :=
  let l := (s.port p).rx.filter (fun (x : RxFrame) => decide (4 ≤ x.rule) && decide (x.rule ≤ 7))
  if 2048 ≤ l.length ∨ 131072 < (l.map (fun (x : RxFrame) => rxRoom x.bytes)).foldl (· + ·) (rxRoom r.bytes) then s.inc (MAC.RX_HOLD_DROP p)
  else s.stageRx p r

/-- The block for a kind of frame takes the oldest one that waits, if its class can pay for it (Table 11-5). -/
def State.takeRx (s : State) (p : Nat) (ok : RxFrame → Bool) (cls cost : Nat) (self : Instr) (f : RxFrame → State → State) : State :=
  match (s.port p).rx.find? ok with
  | none => s
  | some r => s.tryPay cls cost self 0 (fun s =>
      let q := s.port p
      f r (s.setPort p { q with rx := q.rx.erase r }))

/-- The oldest frame of a kind is dropped after it has been carried too long (R42). -/
def State.dropRx (s : State) (p : Nat) (ok : RxFrame → Bool) : State :=
  match (s.port p).rx.find? ok with
  | none => s
  | some r =>
    let q := s.port p
    s.setPort p { q with rx := q.rx.erase r }

/-- A PTP frame with a messageType among some. -/
def isPtp (types : List Nat) (r : RxFrame) : Bool := (r.rule == 4 || r.rule == 5) && types.contains (ptpParse r).type

/-- A frame of a rule. -/
def isRule (n : Nat) (r : RxFrame) : Bool := r.rule == n

/-- A frame of rule 7 that is ARP, or that is not. -/
def isArp (arp : Bool) (r : RxFrame) : Bool := r.rule == 7 && ((ethParse r.bytes).etype == 0x0806) == arp

/-! ### PAUSE (R248, R249) -/

/-- Whether a port is paused at a time. -/
def State.paused (s : State) (p t : Nat) : Bool := (s.port p).pauseEnd.any (fun e => decide (t < e))

/-- The pause of a port ends. -/
def State.unpause (s : State) (p : Nat) : State :=
  let q := s.port p
  (s.setPort p { q with pauseEnd := none }).putB (MAC.PORT_STATUS_PAUSED p) false

/-- PAUSE_RX (R248): a PAUSE frame is counted; obeyed, it stops new frames for its pause_time from its end. -/
def runPauseRx (p : Nat) (s : State) : State :=
  s.takeRx p (isRule 1) 1 30 (.pauseRx p) (fun r s =>
    let s := s.inc (MAC.PAUSE_RX p)
    if !s.flag (MAC.PAUSE_CFG_RX_EN p) || s.flag (MAC.PORT_STATUS_PAUSE_OVERRIDE p) then s
    else
      let n := beAt (ethParse r.bytes).payload 2 2
      if n = 0 then s.unpause p
      else
        let rate := s.get (MAC.PORT_CFG_RATE p)
        let fin := ((r.time : Int) + s.portSize p 3).toNat + wireUnits rate (r.bytes.length + 4)
        let q := s.port p
        let from_ := if s.flag (MAC.PORT_STATUS_PAUSED p) then q.pauseFrom else fin
        (s.setPort p { q with pauseEnd := some (fin + wireUnits rate (64 * n)), pauseFrom := from_ }).putB (MAC.PORT_STATUS_PAUSED p) true)

/-- PAUSE_EXPIRE (R248): the pause time passes within the sheet. -/
def runPauseExpire (p : Nat) (s : State) : State :=
  match (s.port p).pauseEnd with
  | some e => if e ≤ s.time.next then (s.advanceTo e).unpause p else s
  | none => s

/-- PAUSE_STORM (R249): the watchdog trips on a port that stays paused beyond WD_US within the sheet; for PAUSE_HOLDOFF ms PAUSE is ignored,
the one in force with it. -/
def runPauseStorm (p : Nat) (s : State) : State :=
  let trip := (s.port p).pauseFrom + nsU (1000 * s.get (MAC.PAUSE_CFG_WD_US p))
  if s.flag (MAC.PORT_STATUS_PAUSED p) && decide (trip < s.time.next) && (s.port p).pauseEnd.any (fun e => decide (trip < e)) then
    let s := s.advanceTo (trip + 1)
    let s := s.setPort p { s.port p with overrideEnd := some (s.units + nsU (1000000 * s.get (MAC.PAUSE_HOLDOFF p))) }
    ((((s.unpause p).putB (MAC.PORT_STATUS_PAUSE_OVERRIDE p) true).inc (MAC.PAUSE_WD_TRIP p)).eventJ .auto 0x0806 p 1 0 1)
  else s

/-- PAUSE_HOLDOFF_END (R249). -/
def runPauseHoldoffEnd (p : Nat) (s : State) : State :=
  match (s.port p).overrideEnd with
  | some e =>
    if e ≤ s.time.next then
      let s := s.advanceTo e
      (s.setPort p { s.port p with overrideEnd := none }).putB (MAC.PORT_STATUS_PAUSE_OVERRIDE p) false
    else s
  | none => s

/-! ### The lookahead (R38) -/

/-- What the lookahead shows of an entry: when it acts, and its gate states, or the traffic class and wire length of a send or slot. -/
structure Look where
  at_ : Nat
  gate : Option Nat
  tc : Nat
  bytes : Nat
  deriving DecidableEq, Repr

/-- The edge of the `k`-th sheet from the present one. -/
def State.edgeOf (s : State) (k : Nat) : Nat := if k = 0 then s.time.edge else s.time.next + (k - 1) * nsU 125000

/-- The buffer that will be active in the `k`-th sheet from the present one. -/
def State.bufOf (s : State) (k : Nat) : Option Nat :=
  if s.flag SHEET.SHEET_STATUS_PENDING ∧ s.get SHEET.PEND_SHEET ≤ s.sheetNo + k then some (s.get SHEET.SHEET_STATUS_PEND_BUF)
  else if s.sheet.fallback then
    (if k = 0 then none else if s.get SHEET.SHEET_STATUS_STATE_A = 4 then some 0
     else if s.get SHEET.SHEET_STATUS_STATE_B = 4 then some 1 else none)
  else s.activeBuf

/-- The lookahead of a port over the present sheet and the next four. -/
def State.look (s : State) (p : Nat) : List Look :=
  (List.range 5).flatMap (fun k =>
    match s.bufOf k with
    | none => []
    | some buf =>
      let rd := fun (off n : Nat) => s.vatSee 0 (bufAddr buf + off) n
      let h := MouldHdr.ofBytes (rd 0 256)
      let edge := s.edgeOf k
      let ph := edge / nsU 125000 % h.period
      let body := leNat (rd (h.indexOff + 8 * ph) 4)
      let at0 := h.bodyOff + 16 * body
      let es := (List.range (bits (leNat (rd at0 4)) 0 13)).map (fun i => Entry.ofBytes (rd (at0 + 16 + 16 * i) 16))
      es.filterMap (fun e =>
        if e.sends p then some ⟨s.launchFrom p edge e.tick, none, e.tc, e.wireBytes⟩
        else if e.op = 3 ∧ e.port = p then
          some ⟨edge + tickUnits e.tick, some (leNat (rd (leNat (rd (0x30 + 8 * p) 4) + 4 * bits e.opa 0 10) 1)), 0, 0⟩
        else none))

/-- The next scheduled launch instant after a time, if the lookahead shows one. -/
def nextLaunch (l : List Look) (t : Nat) : Option Nat :=
  (l.filter (fun e => e.gate.isNone && decide (t < e.at_))).foldl (fun m e => match m with
    | none => some e.at_
    | some x => some (min x e.at_)) none

/-- Whether a traffic class's gate is open from a time to another: the states in force with the GATE entries to come (R245, R246). -/
def State.gateOpen (s : State) (l : List Look) (p tc t0 t1 : Nat) : Bool :=
  let g := l.filter (fun e => e.gate.isSome && decide (s.units < e.at_))
  let start := (g.filter (fun e => decide (e.at_ ≤ t0))).foldl (fun m e => e.gate.getD m) (s.get (MAC.GATE_STATE p))
  bitOf start tc && (g.filter (fun e => decide (t0 < e.at_) && decide (e.at_ < t1))).all (fun e => e.gate.any (fun v => bitOf v tc))

/-! ### Low-power idle (R250, R252) -/

/-- Tw of a port in 2⁻¹⁶ ns units (R250). -/
def State.wakeTime (s : State) (p : Nat) : Nat :=
  let least := if s.get (MAC.PORT_CFG_RATE p) = 2 then 16500 else 4500
  nsU (max (1000 * max (s.get (MAC.EEE_CFG_TW_TX p)) (s.get (MAC.EEE_PARTNER_RX_TW p))) least)

/-- LPI_ENTER (R250, R252). -/
def runLpiEnter (p : Nat) (s : State) : State :=
  let kind := s.get (MAC.EEE_CFG_LINK_KIND p)
  let ts := nsU (if s.get (MAC.PORT_CFG_RATE p) = 2 then 20000 else 1000)
  let until_ := s.units + ts + s.wakeTime p + nsU 1000
  let soon := s.flag SHEET.SHEET_STATUS_PENDING && decide (s.get SHEET.PEND_SHEET ≤ s.sheetNo + 4)
  if s.flag (MAC.EEE_CFG_EN p) && (kind == 1 || kind == 2) && s.get (MAC.PORT_STATUS_LINK p) == 2 && !s.flag (MAC.PORT_STATUS_LPI_TX p) &&
      (s.port p).unsched.isEmpty && !soon && (nextLaunch (s.look p) s.units).all (fun t => decide (until_ ≤ t)) &&
      decide ((s.port p).wireFree ≤ s.units) then
    ((s.charge0 40).putB (MAC.PORT_STATUS_LPI_TX p) true).inc (MAC.LPI_ENTRY p)
  else s

/-- When a port in LPI begins to wake: for the next launch in time, or at once for an unscheduled frame. -/
def State.wakeFrom (s : State) (p : Nat) : Nat :=
  match nextLaunch (s.look p) s.units with
  | some l => if (s.port p).unsched.isEmpty then l - s.wakeTime p - nsU 160 else s.units
  | none => s.units

/-- LPI_WAKE (R252): at once when an unscheduled frame waits, else Tw + 160 ns before the next scheduled launch; the port is ready again
after Tw. -/
def runLpiWake (p : Nat) (s : State) : State :=
  if s.flag (MAC.PORT_STATUS_LPI_TX p) then
    let s := s.advanceTo (min (s.wakeFrom p) s.time.next)
    let q := s.port p
    ((s.charge0 40).setPort p { q with wakeAt := s.units + s.wakeTime p }).putB (MAC.PORT_STATUS_LPI_TX p) false
  else s

/-! ### Starting frames (R21, R232, R234, R244, R248) -/

/-- Whether a scheduled frame of a length with its FCS may launch at its instant. -/
def State.mayLaunch (s : State) (p tc l len : Nat) : Bool :=
  let q := s.port p
  let k := s.look p
  let fin := l + holdUnits (s.get (MAC.PORT_CFG_RATE p)) len
  !s.flag (MAC.PORT_STATUS_GRID_JUMP p) && !s.paused p l && !s.flag (MAC.PORT_STATUS_LPI_TX p) && decide (q.wakeAt ≤ l) &&
    decide (q.wireFree ≤ l) && s.gateOpen k p tc l fin && (nextLaunch k l).all (fun t => decide (fin ≤ t))

/-- A scheduled frame launches at its instant, or is discarded and counted (R21, R232); whether it launched. -/
def State.launch (s : State) (p tc l : Nat) (b : List Byte) : Bool × State :=
  if s.get (MAC.PORT_CFG_RATE p) = 3 then (false, s)
  else if s.get (MAC.PORT_STATUS_LINK p) ≠ 2 then (false, (s.inc (MAC.TX_LINK_DOWN p)).dropTx p)
  else if !s.mayLaunch p tc l (b.length + 4) then (false, s.inc (MAC.LAUNCH_MISSED p))
  else (true, (s.inc (MAC.TX_SCHED p)).sendFrame p l b)

end Sys2Proof.Machine
end

