-- ==== Sys2Proof/Machine/Ptp.lean ====
section
/-! DEFINITION. PTP messages received and sent (chapter 12). -/

namespace Sys2Proof.Machine

/-! ### TLVs and authentication of received messages (R282, R284) -/

/-- The TLVs of a message from an offset: type, offset, value. -/
def tlvWalk (b : List Byte) : Nat → Nat → List (Nat × Nat × List Byte)
  | 0, _ => []
  | f + 1, off =>
    if off + 4 ≤ b.length ∧ off + 4 + beAt b (off + 2) 2 ≤ b.length then
      (beAt b off 2, off, cut b (off + 4) (beAt b (off + 2) 2)) :: tlvWalk b f (off + 4 + beAt b (off + 2) 2)
    else []

/-- The TLVs of a message. -/
def PtpIn.tlvs (m : PtpIn) : List (Nat × Nat × List Byte) := tlvWalk m.msg m.msg.length (ptpLen m.type)

/-- What the check of R282 gives: no TLV and none needed, a slot whose key verified, or the message discarded. -/
inductive AuthRes where
  | absent
  | good (slot : Nat)
  | bad
  deriving DecidableEq, Repr

/-- A client with its record. -/
abbrev Found := Option (Nat × Client)

/-- A failed check is counted against the message and its record. -/
def State.authFail (s : State) (c : Found) : State :=
  let s := s.inc PTP.AUTH_FAIL_CNT
  match c with
  | some q => s.setRec q.1 { q.2 with faults := min 255 (q.2.faults + 1) }
  | none => s

/-- The check of R282, before any other processing. -/
def State.ptpAuth (s : State) (p : Nat) (m : PtpIn) (c : Found) : AuthRes × State :=
  match m.tlvs.find? (fun t => t.1 == 0x8009) with
  | none =>
    let excused := (m.type == 2 && !bitOf (s.get PTP.AUTH_CFG_P2P_AUTH) p) || (m.type == 0xD && !s.flag PTP.AUTH_CFG_MGMT_AUTH)
    if !excused && (s.flag PTP.AUTH_CFG_AUTH_REQ || c.any (fun q => q.2.auth)) then (.bad, s.inc PTP.AUTH_MISSING_CNT) else (.absent, s)
  | some t =>
    let v := t.2.2
    if 2 ≤ v.length ∧ leAt v 1 1 ≠ 0 then (.bad, s.inc PTP.AUTH_UNSUP_CNT)
    else if v.length ≠ 22 ∨ m.tlvs.getLast? ≠ some t then (.bad, s.authFail c)
    else
      match s.findKey (leAt v 0 1) (beAt v 2 4) with
      | none => (.bad, s.authFail c)
      | some n =>
        if !(s.keySlot n).usable then (.bad, s.inc PTP.AUTH_STALE_CNT)
        else
          let r := (s.pay 1 (icvStock (s.keySlot n).alg)).icv n (s.icvInput (m.msg.take (t.2.1 + 10)))
          if r.1 = cut v 6 16 then (.good n, r.2) else (.bad, r.2.authFail c)

/-- Whether a message is accepted (R262): version, domain, sdoId; one shorter than its type, or on a transport that the profile does not
use (Table 12-1), is ignored. -/
def State.ptpAccept (s : State) (m : PtpIn) : Bool × State :=
  let prof := s.get PTP.PTP_CFG_PROFILE
  if beAt m.msg 1 1 % 16 ≠ 2 ∨ beAt m.msg 4 1 ≠ s.get PTP.PTP_DOMAIN ∨ beAt m.msg 0 1 / 16 ≠ 0 ∨ beAt m.msg 5 1 ≠ 0 then
    (false, s.inc PTP.DOMAIN_DROP_CNT)
  else if m.msg.length < ptpLen m.type ∨ (prof = 1 ∧ m.transport ≠ 0) ∨ (prof = 2 ∧ m.transport = 0) then
    (false, s.inc PTP.RX_IGNORED_CNT)
  else (true, s)

/-- The messageTypes that some block takes (Table 12-2). -/
def ptpTypes : List Nat := [0, 1, 2, 3, 8, 9, 0xA, 0xB, 0xC, 0xD]

/-- A message of the record's client has been accepted (R267, R279, R284): LAST_SEEN, the Delay_Resp count of a new second, PEER_MAC over
UDP, and STALE ended by a request under a key that is not stale. -/
def State.touch (s : State) (q : Nat × Client) (m : PtpIn) (a : AuthRes) : (Nat × Client) × State :=
  let sec := s.taiSec % 65536
  let c := q.2
  let c := if c.seen = sec then c else { c with seen := sec, dresp := { c.dresp with cnt := 0 } }
  let c := if m.transport = 0 then c else { c with mac := m.smac }
  let c := match a with
    | .good n => if c.stale && (m.type == 1 || m.type == 0xC) then { c with stale := false, spp := (s.keySlot n).spp, slot := n } else c
    | _ => c
  ((q.1, c), s.setRec q.1 c)

/-- A received message after its checks goes to `f` with its client and its authentication; a mode that serves no clients discards it. -/
def State.ptpChecked (s : State) (p : Nat) (m : PtpIn) (f : Found → AuthRes → State → State) : State :=
  if !servingMode s.mode then s.inc (MAC.RX_NOT_SERVING p)
  else
    let q := s.findRec p m.transport m.addr m.portId
    let a := q.2.ptpAuth p m q.1
    match a.1 with
    | .bad => a.2
    | r =>
      let k := a.2.ptpAccept m
      if k.1 then f q.1 r k.2 else k.2

/-- The oldest PTP message of some types is taken and checked. -/
def State.ptpTake (s : State) (p : Nat) (types : List Nat) (self : Instr) (f : PtpIn → Found → AuthRes → State → State) : State :=
  s.takeRx p (isPtp types) 1 300 self (fun r s => s.ptpChecked p (ptpParse r) (f (ptpParse r)))

/-- A message of a type that no block takes (R262). -/
def State.ptpOther (s : State) (p : Nat) (m : PtpIn) : State := s.ptpChecked p m (fun _ _ s => s.inc PTP.RX_IGNORED_CNT)

/-! ### Where messages go -/

/-- The source address of PTP over UDP from a port: the lowest timing address enabled there. -/
def State.ptpSrc (s : State) (p transport : Nat) : List Byte :=
  if transport = 1 then (s.ta4 p).headD (List.replicate 4 0) else if transport = 2 then (s.ta6 p).headD (List.replicate 16 0) else []

/-- The UDP port of a messageType: event or general. -/
def udpPort (type : Nat) : Nat := if type ≤ 3 then 319 else 320

/-- The MAC of a group address. -/
def mcMac (a : List Byte) : List Byte := if a.length = 4 then beBytes 6 (0x01005E000000 + beNat a % 2 ^ 23) else groupMac a

/-- Where a message to a record goes. -/
def State.recDest (s : State) (p tc type : Nat) (c : Client) : Dest :=
  { transport := c.transport, dmac := c.mac, src := s.ptpSrc p c.transport, dst := c.ip.take (if c.transport = 1 then 4 else 16)
    sport := udpPort type, dport := udpPort type, tci := s.ownTag p tc, dscp := Config.ptpDscp, hop := Config.ptpHop % 256
    flow := if c.dual then some c.flow else none }

/-- Where an answer to a message goes: back to its sender, or to the group that it was sent to. -/
def State.replyDest (s : State) (p type : Nat) (m : PtpIn) (flow : Option Nat) (toGroup : Bool) : Dest :=
  let g := toGroup && m.group
  { transport := m.transport
    dmac := if g then (if m.transport = 0 then m.dst else mcMac m.dst) else m.smac
    src := if m.group then s.ptpSrc p m.transport else m.dst
    dst := if g then m.dst else m.src
    sport := udpPort type, dport := udpPort type, tci := m.tci, dscp := Config.ptpDscp, hop := Config.ptpHop % 256, flow := flow }

/-! ### Replies (R33, R265, R283, R291) -/

/-- The length of a message with its watermark and AUTHENTICATION TLVs. -/
def State.ptpSize (s : State) (m : PtpMsg) (auth : Bool) : Nat :=
  ptpLen m.type + m.tlvs.length + (match markBit m.type m.twoStep with
    | some i => if bitOf (s.get BOUND.WM_CFG_PTP_MSG) i then 44 else 0
    | none => 0) + (if auth then 26 else 0)

/-- A reply is built and joins the reply queue of a port. A record that is STALE gets none; nor does one with DUAL while its flow is not
enabled, which is counted (R284, R291). -/
def State.queuePtp (s : State) (p : Nat) (m : PtpMsg) (c : Option Client) (after : Nat) (first : Option Nat) : State :=
  if c.any (fun c => c.stale) then s
  else if c.any (fun c => c.dual && !s.flag (PTP.FLOW_CFG_EN c.flow)) then s.inc PTP.DUAL_MISMATCH_CNT
  else
    let s := s.pay 1 250
    let r : Reply := {
      cls := 1, since := s.units, len := frameLen m.dest (s.ptpSize m (c.any (fun c => c.auth))), after := after, first := first, body := .ptp m }
    let q := s.port p
    (s.setPort p { q with replies := q.replies ++ [r] }).showNeg

/-! ### Delay requests (R264, R279, R280) -/

/-- How many Delay_Req a second a grant allows. -/
def drespLimit (log : Nat) : Nat := let l := s8 log; if l ≤ 0 then max 2 (2 ^ (1 - l).toNat) else 2

/-- A Delay_Req under the Delay_Resp grant of a record. -/
def State.delayAnswer (s : State) (p : Nat) (m : PtpIn) (q : Nat × Client) : State :=
  let c := q.2
  if !c.valid || !s.live c 9 then s.inc PTP.NO_GRANT_CNT
  else if drespLimit c.dresp.log ≤ c.dresp.cnt then s.inc PTP.DREQ_POLICE_CNT
  else
    let s := s.setRec q.1 { c with dresp := { c.dresp with cnt := min 255 (c.dresp.cnt + 1) } }
    let r : PtpMsg := {
      type := 9, record := some q.1, dest := s.replyDest p 9 m (if c.dual then some c.flow else none) true, seq := beAt m.msg 30 2
      corr := toS 64 (beAt m.msg 8 8), time := m.time, peer := m.portId, log := c.dresp.log, unicast := !c.multicast }
    s.queuePtp p r (some c) 0 none

/-- DELAY_REQ_RX (R279): policed and answered; to a group address, under the port's multicast record. -/
def runDelayReqRx (p : Nat) (s : State) : State :=
  s.ptpTake p [1] (.delayReqRx p) (fun m c a s =>
    let t := match c with
      | some q => let r := s.touch q m a; (some r.1, r.2)
      | none => (none, s)
    let s := t.2
    if m.group then
      if !s.flag (PTP.MC_REC_EN p) then s.inc PTP.NO_GRANT_CNT
      else
        let n := s.get (PTP.MC_REC_RECORD p)
        let r := s.getRec n
        if !r.1.valid then r.2.inc PTP.NO_GRANT_CNT
        else
          let sec := r.2.taiSec % 65536
          let c := if r.1.seen = sec then r.1 else { r.1 with seen := sec, dresp := { r.1.dresp with cnt := 0 } }
          r.2.delayAnswer p m (n, c)
    else
      match t.1 with
      | some q => s.delayAnswer p m q
      | none => s.inc PTP.NO_GRANT_CNT)

/-- PDELAY_REQ_RX (R280): over Ethernet on a port set in P2P_MASK, up to PDELAY_MAX a second. -/
def runPdelayReqRx (p : Nat) (s : State) : State :=
  s.ptpTake p [2] (.pdelayReqRx p) (fun m _ _ s =>
    if m.transport ≠ 0 ∨ s.get PTP.PTP_CFG_PROFILE ≠ 0 ∨ bitOf (s.get PTP.PTP_CFG_P2P_MASK) p = false then s.inc PTP.RX_IGNORED_CNT
    else
      let u := nth s.ptp.pdelay p (0, 0)
      let n := if u.1 = s.taiSec then u.2 else 0
      if s.get PTP.PDELAY_CFG ≤ n then s.inc PTP.PDELAY_DROP_CNT
      else
        let s := { s with ptp := { s.ptp with pdelay := setNth s.ptp.pdelay p (s.taiSec, n + 1) } }
        let r : PtpMsg := {
          type := 3, record := none, dest := s.replyDest p 3 m none true, seq := beAt m.msg 30 2, corr := toS 64 (beAt m.msg 8 8), time := m.time
          peer := m.portId, unicast := false, twoStep := bitOf (s.get PTP.PTP_CFG_P2P_TWO_STEP) p }
        s.queuePtp p r none 0 none)

/-! ### Upstream masters and their grants (R286) -/

/-- Whether the upstream port runs: in BOUNDARY with UP_CFG.EN 1. -/
def State.upRuns (s : State) : Bool := s.mode == 3 && s.flag PTP.UP_CFG_EN

/-- The address of an upstream master: its words, most significant first, as long as UP_CFG.TRANSPORT calls for. -/
def State.upAddr (s : State) (k : Nat) : List Byte :=
  let t := s.get PTP.UP_CFG_TRANSPORT
  ((List.range 4).flatMap (fun j => beBytes 4 (s.get (PTP.UP_ADDR k j)))).take (if t = 0 then 6 else if t = 1 then 4 else 16)

/-- The enabled upstream master that sent a message to the upstream port. -/
def State.upFrom (s : State) (p : Nat) (m : PtpIn) : Option Nat :=
  if s.upRuns && p == s.get PTP.UP_CFG_PORT && m.transport == s.get PTP.UP_CFG_TRANSPORT then
    (List.range 4).find? (fun k => s.flag (PTP.UP_MCFG_EN k) && (let a := s.upAddr k; m.addr == a ++ List.replicate (16 - a.length) 0))
  else none

/-- An upstream master. -/
def State.upM (s : State) (k : Nat) : UpMaster := nth s.ptp.up.masters k {}

/-- The state with an upstream master changed; UP_MSTAT shows it. -/
def State.setUpM (s : State) (k : Nat) (x : UpMaster) : State :=
  let s := { s with ptp := { s.ptp with up := { s.ptp.up with masters := setNth s.ptp.up.masters k x } } }
  let g := fun (i : Nat) => if (nth x.grants i none).isSome then 2 ^ i else 0
  s.puts [(PTP.UP_MSTAT_CANDIDATE k, if x.ann.isSome then 1 else 0), (PTP.UP_MSTAT_GRANTED k, g 0 + g 1 + g 2)]

/-- Which grant of a master a messageType names: Announce, Sync, Delay_Resp. -/
def upGrantOf (type : Nat) : Option Nat := if type = 0xB then some 0 else if type = 0 then some 1 else if type = 9 then some 2 else none

/-- A GRANT from an upstream master: it lasts for its duration, and a duration of 0 is none (R286). -/
def State.upGrant (s : State) (k : Option Nat) (type dur : Nat) : State :=
  match k, upGrantOf type with
  | some k, some i =>
    let x := s.upM k
    s.setUpM k { x with grants := setNth x.grants i (if dur = 0 then none else some (s.mono + (dur * secU : Nat))) }
  | _, _ => s

/-! ### Unicast negotiation (R272 to R276) -/

/-- A GRANT TLV; a duration of 0 denies. -/
def grantTlv (type log dur : Nat) : List Byte :=
  beBytes 2 5 ++ beBytes 2 8 ++ beBytes 1 (type * 16) ++ beBytes 1 log ++ beBytes 4 dur ++ beBytes 1 0 ++ beBytes 1 1

/-- A CANCEL or ACKNOWLEDGE_CANCEL TLV. -/
def cancelTlv (ack : Bool) (type : Nat) : List Byte := beBytes 2 (if ack then 7 else 6) ++ beBytes 2 2 ++ beBytes 1 (type * 16) ++ beBytes 1 0

/-- A new record for the sender of a message. -/
def State.newClient (s : State) (p : Nat) (m : PtpIn) (a : AuthRes) : Client :=
  let c : Client := {
    valid := true, transport := m.transport, port := p, mac := m.smac, ip := if m.transport = 0 then List.replicate 16 0 else m.addr
    portId := m.portId, seen := s.taiSec % 65536 }
  match a with
  | .good n => { c with auth := true, spp := (s.keySlot n).spp, slot := n }
  | _ => c

/-- A request is granted at the next edge (R274). -/
def State.grantRec (s : State) (q : Nat × Client) (type log dur : Nat) : List Byte × State :=
  let d := min dur (s.get PTP.GRANT_CFG_DUR_MAX)
  let e := (s.taiEdge + d + 1) % 2 ^ 32
  (grantTlv type log d, { s.inc PTP.GRANT_CNT with ptp := { s.ptp with due := s.ptp.due ++ [ClientDue.grant q.1 type e log (s.live q.2 type)] } })

/-- One REQUEST_UNICAST_TRANSMISSION (R272, R273, R276): the client as it then stands, and the answer. -/
def State.request (s : State) (p : Nat) (m : PtpIn) (a : AuthRes) (c : Found) (v : List Byte) : (Found × List Byte) × State :=
  let type := beAt v 0 1 / 16
  let log := beAt v 1 1
  let dur := beAt v 2 4
  let no := grantTlv type log 0
  let l := s8 log
  let fresh := fun (s : State) =>
    match s.allocate p type l (s.newClient p m a) with
    | (.inl n, s) =>
      let s := match c with
        | some q => s.unindex q.1 q.2
        | none => s
      let r := s.getRec n
      let g := r.2.grantRec (n, r.1) type log dur
      ((some (n, r.1), g.1), g.2)
    | (.inr f, s) => ((c, no), s.inc f)
  if v.length < 6 ∨ (type ≠ 0 ∧ type ≠ 0xB ∧ type ≠ 9) ∨ s.logOk type l = false then ((c, no), s.inc PTP.DENY_CNT)
  else
    match c with
    | none => fresh s
    | some q =>
      match s.boundPool q.1 q.2 with
      | some i =>
        if s.fits i p type l then
          let g := s.grantRec q type log dur
          ((c, g.1), g.2)
        else ((c, no), s.inc PTP.DENY_CNT)
      | none =>
        if s.ptp.byHost.contains q.1 then
          let g := s.grantRec q type log dur
          ((c, g.1), g.2)
        else fresh s

/-- The TLVs of a Signaling message in their order: the client, the answer, and how many requests and cancels. -/
def State.negotiate (p : Nat) (m : PtpIn) (a : AuthRes) : List (Nat × Nat × List Byte) → (Found × List Byte × Nat) → State →
    (Found × List Byte × Nat) × State
  | [], r, s => (r, s)
  | t :: ts, r, s =>
    let s := s.pay 1 400
    if t.1 = 4 then
      let q := s.request p m a r.1 t.2.2
      State.negotiate p m a ts (q.1.1, r.2.1 ++ q.1.2, r.2.2 + 1) q.2
    else if t.1 = 6 then
      let type := beAt t.2.2 0 1 / 16
      let s := (s.inc PTP.CANCEL_CNT).upGrant (s.upFrom p m) type 0
      let s := match r.1 with
        | some q => if type = 0 ∨ type = 0xB ∨ type = 9 then
            { s with ptp := { s.ptp with due := s.ptp.due ++ [ClientDue.cancel q.1 type] } } else s
        | none => s
      State.negotiate p m a ts (r.1, r.2.1 ++ cancelTlv true type, r.2.2 + 1) s
    else if t.1 = 5 then State.negotiate p m a ts r (s.upGrant (s.upFrom p m) (beAt t.2.2 0 1 / 16) (beAt t.2.2 2 4))
    else State.negotiate p m a ts r s

/-- SIGNALING_RX (R272 to R276): negotiation, answered in one Signaling message. That of a DUAL record that comes after sheet time
118.000 µs waits for the next sheet (R351). -/
def runSignalingRx (p : Nat) (s : State) : State :=
  let late := match (s.port p).rx.find? (isPtp [0xC]) with
    | some r => (s.dualFrame p r).1 && decide (s.time.edge + nsU 118000 ≤ s.units)
    | none => false
  if late then s.waitAt (.signalingRx p) 1 0 none
  else s.ptpTake p [0xC] (.signalingRx p) (fun m c a s =>
    let target := cut m.msg 34 10
    if s.get PTP.PTP_CFG_PROFILE = 1 ∨ (target ≠ List.replicate 10 0xFF ∧ target ≠ s.portId p) then s.inc PTP.RX_IGNORED_CNT
    else if 4096 ≤ s.get PTP.NEG_PENDING then s.inc PTP.NEG_PEND_DROP
    else
      let t := match c with
        | some q => let r := s.touch q m a; (some r.1, r.2)
        | none => (none, s)
      let n := State.negotiate p m a m.tlvs (t.1, [], 0) t.2
      let s := n.2
      if n.1.2.1.isEmpty then s
      else
        let r : PtpMsg := {
          type := 0xC, record := n.1.1.map (·.1)
          dest := s.replyDest p 0xC m (n.1.1.bind (fun q => if q.2.dual then some q.2.flow else none)) false
          seq := 0, peer := m.portId, tlvs := n.1.2.1, neg := n.1.2.2, unicast := n.1.1.all (fun q => !q.2.multicast) }
        s.queuePtp p r (n.1.1.map (·.2)) 0 none)

/-! ### Frames as they come in (R236 to R243) -/

/-- FRAME_RX (R236, R237, R241 to R243): a frame whose FCS and length are good is stamped and classified; `at_` is A, when its
timestamp point crossed the receive balls. -/
def runFrameRx (p : Nat) (b : List Byte) (fcsOk : Bool) (at_ : Nat) (s : State) : State :=
  if 7 < p ∨ s.get (MAC.PORT_CFG_RATE p) = 3 ∨ s.get (MAC.PORT_STATUS_LINK p) ≠ 2 then s
  else
    let s := s.advanceTo (min (at_ + wireUnits (s.get (MAC.PORT_CFG_RATE p)) (b.length + 4)) s.time.next)
    let n := b.length + 4
    if !fcsOk then s.inc (MAC.RX_FCS_ERR p)
    else if n < 64 ∨ s.get (MAC.PORT_CFG_MAX_FRAME p) < n then s.inc (MAC.RX_OVERSIZE p)
    else
      let s := s.inc (MAC.RX_FRAMES p)
      let rule := s.headRule p b
      let r : RxFrame := ⟨rule, b, ((s.pulseAt at_ : Int) - s.portSize p 3).toNat, s.flag TIME.TIME_STATUS_COARSE⟩
      if rule = 1 then s.stageRx p r
      else if rule = 2 then (if beAt (ethParse b).payload 0 2 = 0x0101 then s.inc (MAC.PFC_RX p) else s.inc (MAC.RX_UNMATCHED p))
      else if rule = 10 then s.inc (MAC.RX_UNMATCHED p)
      else if 8 ≤ rule then (s.inc (MAC.RX_HOST p)).stageRx p r
      else
        let s := (s.inc (MAC.RX_TIMING p)).pmu 6 p 1
        if rule = 3 then s.stageRx p r
        else if s.mode ≤ 1 then s.inc (MAC.RX_NOT_SERVING p)
        else if s.execMode = 5 then
          let d := s.dualFrame p r
          if !d.1 then d.2.inc (MAC.RX_NOT_SERVING p)
          else if d.2.mode = 5 then d.2.inc COUCH.MIRROR_RX_CNT
          else d.2.stageTiming p r
        else if (rule = 4 ∨ rule = 5) ∧ ptpTypes.contains (ptpParse r).type = false then (s.pay 1 300).ptpOther p (ptpParse r)
        else s.stageTiming p r

/-! ### Placed sends (R19, R32, R277, R278, R283, R290, R291, R350) -/

/-- A placed send is skipped (R32). -/
def State.skipSend (s : State) (i p : Nat) : State :=
  let s := (s.pay 1 60).pmu 4 p 1
  { s with mac := { s.mac with skipped := i :: s.mac.skipped } }

/-- The engine CANCEL of a record: CANCEL_UNICAST_TRANSMISSION for every live grant (R277). -/
def State.cancelTlvs (s : State) (c : Client) : List Byte :=
  ([0, 0xB, 9].filter (fun t => s.live c t)).flatMap (fun t => cancelTlv false t)

/-- A flow's next placed number is taken (R350). -/
def State.takePlaced (s : State) (c : Client) : Nat × State :=
  if !c.dual then (0, s)
  else
    let u := nth s.ptp.flows c.flow {}
    let s := { s with ptp := { s.ptp with flows := setNth s.ptp.flows c.flow { u with placed := u.placed + 1 } } }
    ((u.first + u.placed) % 65536, s.put (PTP.FLOW_CFG_SEQ c.flow) ((u.first + u.placed + 1) % 65536))

/-- A send that is called for is finalised for its launch (R19, R263 to R266, R278, R283): number, watermark, integrity check. Without
stock it is not finalised, and it is dropped at its TICK (R32). -/
def State.finaliseSend (s : State) (i : Nat) (e : Entry) (n : Nat) (c : Client) (type : Nat) : State :=
  let cost := 180 + 320 + 440 + (if c.auth then icvStock (s.keySlot c.slot).alg else 0)
  match s.charge 1 cost with
  | none => { (s.inc (LEDGER.REFUSE_CNT 1)).pmu 0x0D 1 1 with mac := { s.mac with refused := i :: s.mac.refused } }
  | some s =>
    let p := e.port
    let l := s.launchAt p e.tick
    let tx := s.txStamp p l
    let two := type == 0 && bitOf e.opa 24
    let q := s.takePlaced c
    let s := q.2
    let g := c.grant type
    let seq := if type = 0 then c.syncSeq else if type = 0xB then c.annSeq else c.sigSeq
    let c' := if type = 0 then { c with syncSeq := (seq + 1) % 65536, sync := { g with cnt := s.divOf n c 0 - 1 } }
      else if type = 0xB then { c with annSeq := (seq + 1) % 65536, ann := { g with cnt := s.divOf n c 0xB - 1 } }
      else { c with sigSeq := (seq + 1) % 65536 }
    let s := s.setRec n c'
    let m : PtpMsg := {
      type := type, record := some n, dest := s.recDest p e.tc type c, seq := seq, log := if c.multicast then g.log else 0x7F
      peer := c.portId, unicast := !c.multicast, twoStep := two, tlvs := if type = 0xC then s.cancelTlvs c else [] }
    let b := s.ptpBytes m p tx c.dual (if c.auth then some (c.spp, c.slot) else none)
    let s := b.2
    if b.1.isEmpty then s
    else
    let f := s.wrap p m.dest b.1 q.1
    let s := { s with mac := { s.mac with sched := s.mac.sched ++ [⟨i, p, l, f, if type = 0xC then some n else none⟩] } }
    if two then
      let u : PtpMsg := { m with type := 8, time := tx, twoStep := false, dest := s.recDest p e.tc 8 c }
      s.queuePtp p u (some c') (l + holdUnits (s.get (MAC.PORT_CFG_RATE p)) (f.length + 4)) (some i)
    else s

/-- One SEND_PTP entry is judged (R20, R55, R277, R291, R329, R349 to R351): those of a stepped sheet are skipped. -/
def State.judgeSend (s : State) (i : Nat) (f : Fetched) : State :=
  let e := f.entry
  let mode := s.execMode
  let type := bits e.opa 20 4
  if e.op ≠ 1 ∨ s.tickRuns e.tick = false ∨ (servingMode mode = false ∧ mode ≠ 5) then s
  else
    let n := bits e.opa 0 20 + (if e.abs then 0 else f.base)
    let r := s.getRec n
    let s := r.2
    let c := r.1
    if mode = 5 ∧ (c.valid = false ∨ c.dual = false ∨ (s.mode = 5 ∧ type = 0xC)) then s
    else if s.time.stepped then s.skipSend i e.port
    else if s.mode = 5 ∧ s.couch.suppress = true then s.inc COUCH.DUAL_SUPPRESS_CNT
    else
      let called := c.valid && !c.stale && c.port == e.port &&
        (if type = 0xC then s.ptp.cancels.any (fun q => q.1 == n) else s.live c type)
      if !called then s.skipSend i e.port
      else if e.dual != c.dual || (c.dual && (e.opb % 256 != c.flow || !s.flag (PTP.FLOW_CFG_EN c.flow))) then
        (s.inc PTP.DUAL_MISMATCH_CNT).skipSend i e.port
      else if type ≠ 0xC ∧ (c.grant type).cnt ≠ 0 then
        (s.setRec n (c.setGrant type { (c.grant type) with cnt := (c.grant type).cnt - 1 })).skipSend i e.port
      else if c.dual && decide (12 ≤ (nth s.ptp.flows c.flow {}).placed) then (s.inc COUCH.FLOW_OVF_CNT).skipSend i e.port
      else if c.auth && !(s.keySlot c.slot).usable then (s.inc KEY.USE_DENIED_CNT).skipSend i e.port
      else s.finaliseSend i e n c type

/-- The SEND_PTP entries of the sheet are judged in body order; an entry that cannot be fetched ends them (R31, R39). -/
def State.judgeSends (s : State) (i : Nat) : Nat → State
  | 0 => s
  | k + 1 =>
    match s.fetchEntry i with
    | (some f, s) => State.judgeSends (s.judgeSend i f) (i + 1) k
    | (none, s) => s

/-- FINALISE_SLICE (R18, R19). -/
def runFinaliseSlice (s : State) : State :=
  let s := s.atSheetTime (nsU 8000)
  let ports := s.mac.ports.map (fun (q : PortSt) => { q with replies := q.replies.map (fun (r : Reply) => { r with first := none }) })
  let s := { s with mac := { s.mac with ports := ports, sched := [], skipped := [], refused := [] } }
  s.judgeSends 0 4096

/-- Follow-ups of an entry's message are withdrawn with it (R265). -/
def State.withdraw (s : State) (p i : Nat) : State :=
  let q := s.port p
  (s.setPort p { q with replies := q.replies.filter (fun (r : Reply) => r.first != some i) }).showNeg

/-- DECKLE_SEND_PTP (R21, R32, R277): a finalised send launches at its instant; one that was not finalised is dropped. -/
def runDeckleSendPtp (i : Nat) (s : State) : State :=
  s.withEntry i 1 (fun f s =>
    let e := f.entry
    let mode := s.execMode
    if s.mac.skipped.contains i then s
    else
      match s.mac.sched.find? (fun (x : SchedFrame) => x.entry == i) with
      | some x =>
        let s := { s with mac := { s.mac with sched := s.mac.sched.erase x } }
        let r := s.launch x.port e.tc x.launch x.bytes
        if r.1 then
          let s := r.2.pmu 3 x.port 1
          match x.cancels with
          | some n =>
            let q := s.getRec n
            if q.1.valid then q.2.freeRec n q.1 else q.2
          | none => s
        else (r.2.pmu 4 x.port 1).withdraw x.port i
      | none => if servingMode mode || s.mac.refused.contains i then (s.inc SHEET.SEND_DROP_CNT).pmu 4 e.port 1 else s)

end Sys2Proof.Machine
end

