-- ==== Sys2Proof/Machine/Upstream.lean ====
section
/-! DEFINITION. The upstream port of BOUNDARY (R286 to R289). -/

namespace Sys2Proof.Machine

/-! ### The chosen master (R286, R289) -/

/-- Whether the peer delay mechanism is in use: P2P takes effect only over Ethernet. -/
def State.upP2p (s : State) : Bool := s.flag PTP.UP_CFG_P2P && s.get PTP.UP_CFG_TRANSPORT == 0

/-- The first of two lists of keys that differ decides; none where they are equal. -/
def keyLess : List Nat → List Nat → Option Bool
  | a :: as, b :: bs => if a < b then some true else if b < a then some false else keyLess as bs
  | _, _ => none

/-- Part 2 of the comparison: fewer steps, then the lower sender. -/
def topoBetter (a b : UpAnn) : Bool := (keyLess [a.steps, beNat a.sender] [b.steps, beNat b.sender]).getD false

/-- The dataset comparison of clause 9.3, for profile 0 (PRESUMED layout of the comparison, from IEEE 1588-2019). -/
def bmcaBetter (a b : UpAnn) : Bool :=
  if a.gm = b.gm then topoBetter a b
  else (keyLess [a.prio1, a.cls, a.acc, a.var, a.prio2, a.gm] [b.prio1, b.cls, b.acc, b.var, b.prio2, b.gm]).getD false

/-- The alternate comparison of G.8275 with the local priorities, for profiles 1 and 2 (PRESUMED, from G.8275.1). -/
def altBetter (la lb : Nat) (a b : UpAnn) : Bool :=
  match keyLess [a.cls, a.acc, a.var, a.prio2, la] [b.cls, b.acc, b.var, b.prio2, lb] with
  | some r => r
  | none => if a.cls ≤ 127 ∨ a.gm = b.gm then topoBetter a b else decide (a.gm < b.gm)

/-- The announce interval of a master in 2⁻¹⁶ ns units: logMessageInterval of its Announces. -/
def UpAnn.interval (a : UpAnn) : Int := ((secU : Rat) * (if 0 ≤ a.log then 2 ^ a.log.toNat else 1 / 2 ^ (-a.log).toNat)).floor

/-- The best candidate. -/
def State.upBest (s : State) : Option Nat :=
  (List.range 4).foldl (fun best k =>
    match (s.upM k).ann with
    | none => best
    | some a =>
      match best.bind (fun j => (s.upM j).ann.map (fun (x : UpAnn) => (j, x))) with
      | none => some k
      | some (j, x) =>
        let better := if s.get PTP.PTP_CFG_PROFILE = 0 then bmcaBetter a x
          else altBetter (s.get (PTP.UP_MCFG_LOCAL_PRIORITY k)) (s.get (PTP.UP_MCFG_LOCAL_PRIORITY j)) a x
        if better then some k else best) none

/-- The chosen master. -/
def State.upChosen (s : State) : Option Nat :=
  if s.flag PTP.PTP_STATUS_UP_MASTER_VALID then some (s.get PTP.PTP_STATUS_UP_MASTER) else none

/-- REF13 is judged, unless a freeze stops that (R163). -/
def State.upRefJudge (s : State) : State := if s.refFrozen then s else s.slotJudge 13

/-- A master is chosen among the candidates; a change empties the delay window and makes REF13 fail with SOURCE (R286, R289). -/
def State.upChoose (s : State) : State :=
  let c := if s.upRuns then s.upBest else none
  if c = s.upChosen then s
  else
    let s := s.puts [(PTP.PTP_STATUS_UP_MASTER, c.getD 0), (PTP.PTP_STATUS_UP_MASTER_VALID, if c.isSome then 1 else 0)]
    let s := { s with
      ptp := { s.ptp with up := { s.ptp.up with delays := [], fwd := none, wait := none, req := none } }
      ref := { s.ref with up := none, upNew := false } }
    s.upRefJudge

/-- The upstream port is judged again after a change of mode or of its registers, and at each sheet edge: a master no longer enabled
is no candidate, grants whose time has passed end, and nothing is left of a port that does not run. -/
def State.upJudge (s : State) : State :=
  let run := s.upRuns
  let s := (List.range 4).foldl (fun s k =>
    let x := s.upM k
    if run && s.flag (PTP.UP_MCFG_EN k) then
      s.setUpM k { x with grants := x.grants.map (fun (g : Option Int) => g.filter (fun e => decide (s.mono < e))) }
    else s.setUpM k {}) s
  (s.putB PTP.PTP_STATUS_UP_ACTIVE run).upChoose

/-! ### Messages from upstream (R262, R286 to R288) -/

/-- The oldest upstream message of some types is taken: from an upstream master, or a peer delay response from the neighbour. -/
def State.upTake (s : State) (p : Nat) (types : List Nat) (self : Instr) (f : PtpIn → Option Nat → AuthRes → State → State) : State :=
  s.ptpTake p types self (fun m c a s =>
    let s := match c with
      | some q => (s.touch q m a).2
      | none => s
    let k := s.upFrom p m
    let peer := m.type == 3 || m.type == 0xA
    let ok := if peer then s.upRuns && p == s.get PTP.UP_CFG_PORT && s.upP2p && m.transport == 0 else k.isSome
    if !ok then s.inc PTP.RX_IGNORED_CNT
    else
      let s := s.charge0 200
      let s := match k with
        | some k => s.setUpM k { s.upM k with mac := m.smac }
        | none => s
      f m k a s)

/-- The wide time of a message's timestamp field in 2⁻¹⁶ ns units. -/
def msgTime (m : PtpIn) : Nat := beAt m.msg 34 6 * secU + beAt m.msg 40 4 * 65536

/-- correctionField, in 2⁻¹⁶ ns units. -/
def msgCorr (m : PtpIn) : Int := toS 64 (beAt m.msg 8 8)

/-- twoStepFlag. -/
def msgTwoStep (m : PtpIn) : Bool := bitOf (beAt m.msg 6 2) 9

/-- The Announce of a master, as the rules use it (R288). -/
def upAnnOf (m : PtpIn) : UpAnn :=
  { prio1 := beAt m.msg 47 1, cls := beAt m.msg 48 1, acc := beAt m.msg 49 1, var := beAt m.msg 50 2, prio2 := beAt m.msg 52 1
    gm := beAt m.msg 53 8, steps := beAt m.msg 61 2, tsrc := beAt m.msg 63 1, traceable := bitOf (beAt m.msg 6 2) 4
    sender := m.portId, log := toS 8 (beAt m.msg 33 1) }

/-- UPSTREAM_ANNOUNCE_RX (R286, R288, R289): candidacy and dataset of a master; what REF13 takes from the chosen one follows. -/
def runUpstreamAnnounceRx (p : Nat) (s : State) : State :=
  s.upTake p [0xB] (.upstreamAnnounceRx p) (fun m k _ s =>
    match k with
    | none => s
    | some k =>
      let a := upAnnOf m
      let s := (s.setUpM k { s.upM k with ann := some a, annAt := s.mono }).put (PTP.UP_MSTAT_CLOCK_CLASS k) a.cls
      let s := s.upChoose
      match (if s.upChosen = some k then s.ref.up else none) with
      | some u =>
        ({ s with ref := { s.ref with up := some { u with gm := a.gm, steps := a.steps, tsrc := a.tsrc, traceable := a.traceable
                                                          cls := a.cls } } }).upRefJudge
      | none => s)

/-- The bound of the watermark in a Sync or Follow_Up, if one with VERSION 1 is there and, with UP_CFG.AUTH, authenticated (R288). -/
def State.upMark (s : State) (m : PtpIn) (a : AuthRes) : Option Nat :=
  let good := match a with
    | .good _ => true
    | _ => false
  if s.flag PTP.UP_CFG2_AUTH && !good then none
  else (m.tlvs.find? (fun t => t.1 == s.get BOUND.WM_CFG_PTP_TYPE && t.2.2.length == 40 && beAt t.2.2 0 1 == 1)).map (fun t => markBound t.2.2)

/-- offsetFromMaster with its bound goes to REF13 (R287, R288); none is formed while the delay window is empty. -/
def State.upMeasure (s : State) (k t2 : Nat) (fwd : Int) (mark : Option Nat) : State :=
  let s := { s with ptp := { s.ptp with up := { s.ptp.up with fwd := some fwd, wait := none } } }
  match s.ptp.up.delays.take (s.get PTP.UP_CFG2_PD_WIN), (s.upM k).ann with
  | d :: ds, some a =>
    let lo := ds.foldl min d
    let hi := ds.foldl max d
    let th := roundQ ((fwd : Rat) * 1000 / 65536 - lo - (s.geti PTP.UP_ASYM : Rat))
    let p := s.get PTP.UP_CFG_PORT
    let bound := mark.map (fun b => satAdd (satAdd b (s.get (MAC.TS_UNC p) + s.get (MAC.U_EXT p))) (ceilNat ((hi - lo) / 2)))
    let s := s.puti PTP.UP_OFFSET (satS 40 th)
    let s := match bound with
      | some b => s.put PTP.UP_BOUND b
      | none => s
    { s with ref := { s.ref with
        up := some { theta := th, event := t2 % 2 ^ 64, bound := bound, gm := a.gm, steps := a.steps, tsrc := a.tsrc
                     traceable := a.traceable, cls := a.cls }
        upNew := true } }
  | _, _ => s

/-- UPSTREAM_SYNC_RX (R287, R288): a Sync of the chosen master, with its Follow_Up where it is two-step. -/
def runUpstreamSyncRx (p : Nat) (s : State) : State :=
  s.upTake p [0, 8] (.upstreamSyncRx p) (fun m k a s =>
    match k with
    | none => s
    | some k =>
      if s.upChosen ≠ some k then s
      else
        let seq := beAt m.msg 30 2
        if m.type = 0 then
          if msgTwoStep m then
            { s with ptp := { s.ptp with up := { s.ptp.up with wait := some ⟨k, seq, m.time, msgCorr m, s.upMark m a⟩ } } }
          else s.upMeasure k m.time ((m.time : Int) - msgTime m - msgCorr m) (s.upMark m a)
        else
          match s.ptp.up.wait with
          | some w =>
            if w.master = k ∧ w.seq = seq then
              s.upMeasure k w.t2 ((w.t2 : Int) - msgTime m - (w.corr + msgCorr m)) ((s.upMark m a).or w.mark)
            else s
          | none => s)

/-- A value of d in 2⁻¹⁶ ns units joins the window (R287), and its exchange is over. -/
def State.upDelay (s : State) (d : Rat) : State :=
  let w := (d * 1000 / 65536 :: s.ptp.up.delays).take (s.get PTP.UP_CFG2_PD_WIN)
  let s := { s with ptp := { s.ptp with up := { s.ptp.up with delays := w, req := none } } }
  s.put PTP.UP_DELAY (ofS 32 (roundQ (w.foldl min (d * 1000 / 65536))))

/-- UPSTREAM_DELAY_RESP_RX (R287): a Delay_Resp of the chosen master, or the Pdelay responses of the neighbour, complete an exchange. -/
def runUpstreamDelayRespRx (p : Nat) (s : State) : State :=
  s.upTake p [9, 3, 0xA] (.upstreamDelayRespRx p) (fun m k _ s =>
    match s.ptp.up.req with
    | none => s
    | some q =>
      if beAt m.msg 30 2 ≠ q.seq ∨ cut m.msg 44 10 ≠ s.portId p then s
      else if m.type = 9 then
        if s.upP2p ∨ k ≠ some q.master then s
        else
          match s.ptp.up.fwd with
          | some f => s.upDelay (((f + ((msgTime m : Int) - q.sent - msgCorr m) : Int) : Rat) / 2)
          | none => { s with ptp := { s.ptp with up := { s.ptp.up with req := none } } }
      else if m.type = 3 then
        if msgTwoStep m then
          { s with ptp := { s.ptp with up := { s.ptp.up with req := some { q with resp := some (m.time, (msgTime m : Int) - msgCorr m) } } } }
        else s.upDelay ((((m.time : Int) - q.sent - msgCorr m : Int) : Rat) / 2)
      else
        match q.resp with
        | some r => s.upDelay ((((r.1 : Int) - q.sent - msgTime m + r.2 - msgCorr m : Int) : Rat) / 2)
        | none => s)

/-! ### Messages upstream (R286) -/

/-- Where an upstream message goes: to its master, or to the group addresses of profile 1 and of peer delay. -/
def State.upDest (s : State) (p type : Nat) (k : Nat) : Dest :=
  let t := s.get PTP.UP_CFG_TRANSPORT
  let x := s.upM k
  { transport := t
    dmac := if type = 2 then ptpMac true else if s.get PTP.PTP_CFG_PROFILE = 1 then ptpMac Config.upGroup
            else if t = 0 then s.upAddr k else if x.mac.isEmpty then beBytes 6 (Config.upMac k) else x.mac
    src := s.ptpSrc p t, dst := s.upAddr k, sport := udpPort type, dport := udpPort type
    tci := s.ownTag p (s.get PTP.UP_CFG_UP_TC), dscp := Config.ptpDscp, hop := Config.ptpHop % 256 }

/-- The frame of an upstream message that starts with transmit timestamp `tx`. -/
def State.upFrame (s : State) (p type k seq tx : Nat) (peer tlvs : List Byte) : List Byte :=
  let uni := type != 2 && s.get PTP.PTP_CFG_PROFILE != 1
  let d := s.upDest p type k
  let m : PtpMsg := { type := type, record := none, dest := d, seq := seq, peer := peer, unicast := uni, tlvs := tlvs }
  s.wrap p d (s.ptpBytes m p tx false none).1 0

/-- UPSTREAM_DELAY_REQ_TX (R286): a Delay_Req to the chosen master, or a Pdelay_Req to the neighbour, joins the unscheduled frames. -/
def runUpstreamDelayReqTx (k : Nat) (s : State) : State :=
  let p := s.get PTP.UP_CFG_PORT
  if !s.upRuns || s.get (MAC.PORT_STATUS_LINK p) != 2 || (!s.upP2p && s.upChosen != some k) then s
  else
    let seq := s.ptp.up.reqSeq
    let s := { s with ptp := { s.ptp with up := { s.ptp.up with reqSeq := (seq + 1) % 65536 } } }
    let type := if s.upP2p then 2 else 1
    let kind := if s.upP2p then UKind.pdelayReq k seq else UKind.delayReq k seq
    (s.charge0 200).queueTx p { tc := s.get PTP.UP_CFG_UP_TC, engine := true, bytes := s.upFrame p type k seq 0 [] [], kind := kind }

/-- UPSTREAM_GRANT_RENEW (R286): a grant is requested of an enabled master, one that it holds not before half its duration. -/
def runUpstreamGrantRenew (k type : Nat) (s : State) : State :=
  let p := s.get PTP.UP_CFG_PORT
  if !s.upRuns || !s.flag PTP.UP_CFG_NEGOTIATE || decide (3 < k) || !s.flag (PTP.UP_MCFG_EN k) || (upGrantOf type).isNone ||
      ((upGrantOf type).bind (fun i => nth (s.upM k).grants i none)).any (fun e =>
        !s.reaches (e - ((s.get PTP.UP_CFG2_UP_DURATION * secU / 2 : Nat) : Int))) ||
      s.get (MAC.PORT_STATUS_LINK p) != 2 then s
  else
    let seq := s.ptp.up.sigSeq
    let s := { s with ptp := { s.ptp with up := { s.ptp.up with sigSeq := (seq + 1) % 65536 } } }
    let log := if type = 0 then s.get PTP.UP_CFG_SYNC_LOG else if type = 9 then s.get PTP.UP_CFG_DREQ_LOG else Config.upAnnounceLog % 256
    let tlv := beBytes 2 4 ++ beBytes 2 6 ++ beBytes 1 (type * 16) ++ beBytes 1 log ++ beBytes 4 (s.get PTP.UP_CFG2_UP_DURATION)
    (s.charge0 200).queueTx p { tc := s.get PTP.UP_CFG_UP_TC, engine := true
                                bytes := s.upFrame p 0xC k seq 0 (beBytes 10 (Config.upTarget k)) tlv }

/-- UPSTREAM_CANDIDATE_TIMEOUT (R286, R289): a master without Announces for three intervals is no candidate. -/
def runUpstreamCandidateTimeout (k : Nat) (s : State) : State :=
  if decide (k < 4) && (s.upM k).ann.any (fun (a : UpAnn) => a.log == 127 || s.reaches ((s.upM k).annAt + 3 * a.interval)) then
    (s.setUpM k { s.upM k with ann := none }).upChoose
  else s

end Sys2Proof.Machine
end

