-- ==== Sys2Proof/Machine/Ntp.lean ====
section
/-! DEFINITION. NTP and NTS service, address answers, master key generations and minting (chapter 13). -/

namespace Sys2Proof.Machine

/-! ### Requests (R295, Table 13-1) -/

/-- The extension fields of a request from an offset: type, offset, body; none where the bytes do not parse. -/
def extWalk (b : List Byte) : Nat → Nat → Option (List (Nat × Nat × List Byte))
  | 0, _ => none
  | f + 1, off =>
    if off = b.length then some []
    else
      let n := beAt b (off + 2) 2
      if off + 4 ≤ b.length ∧ 16 ≤ n ∧ n % 4 = 0 ∧ off + n ≤ b.length then
        (extWalk b f (off + n)).map (fun t => (beAt b off 2, off, cut b (off + 4) (n - 4)) :: t)
      else none

/-- The parts of an NTS request that the engine uses: its Unique Identifier field whole, the cookie, the placeholders that count, the
authenticator with its offset, nonce and ciphertext. -/
structure NtsForm where
  uid : List Byte
  cookie : List Byte
  places : Nat
  off : Nat
  nonce : List Byte
  ct : List Byte
  deriving DecidableEq, Repr

/-- Check 5: the form of an NTS request. -/
def ntsForm (b : List Byte) (x : List (Nat × Nat × List Byte)) : Option NtsForm :=
  let of_ := fun (t : Nat) => x.filter (fun f => f.1 == t)
  match of_ 0x0104, of_ 0x0204, of_ 0x0404 with
  | [u], [c], [a] =>
    let v := a.2.2
    let n := beAt v 2 2
    if 32 ≤ u.2.2.length ∧ u.2.2.length ≤ 64 ∧ c.2.2.length = 104 ∧ x.getLast? = some a ∧ beAt v 0 2 = 16 ∧ 16 ≤ n ∧
        20 + (n + 3) / 4 * 4 ≤ v.length then
      some ⟨cut b u.2.1 (u.2.2.length + 4), c.2.2, ((of_ 0x0304).filter (fun f => f.2.2.length == 104)).length, a.2.1, cut v 4 16, cut v 20 n⟩
    else none
  | _, _, _ => none

/-! ### The rate limit (R296) -/

/-- The number of the bucket of a source. -/
def State.bucketOf (s : State) (v6 : Bool) (a : List Byte) : Nat :=
  if v6 then
    let n := s.get NTS.RL_CFG2
    let k := (n + 7) / 8
    let top := beNat (a.take k)
    crc32 (beBytes k (top / 2 ^ (8 * k - n) * 2 ^ (8 * k - n))) % 65536
  else crc32 a % 65536

/-- The vat address of a bucket. -/
def rateAddr (k : Nat) : Nat := 0x07A00000 + 8 * k

/-- A bucket from its bytes: bits 23:0 the tokens taken, bits 25:24 the KoD, bits 63:26 the time. -/
def RateBucket.ofBytes (b : List Byte) : RateBucket := ⟨leAt b 0 3, bits (leAt b 3 1) 0 2, leAt b 3 5 / 4⟩

/-- The 8 bytes of a bucket. -/
def RateBucket.bytes (x : RateBucket) : List Byte := leBytes 3 x.used ++ leBytes 5 (x.kod + 4 * x.at_)

/-- The time of a bucket, in 1/256 s of the counter without its steps. -/
def State.rateTime (s : State) : Nat := (s.mono * 256 / (secU : Int)).toNat % 2 ^ 38

/-- How a bucket names the TAI second. -/
def State.kodMark (s : State) : Nat := 1 + s.taiSec % 3

/-- A bucket refilled up to now: of the tokens taken, RL_RATE return in each second, and no more than RL_BURST are missing. A KoD is
remembered in its TAI second. -/
def State.refill (s : State) (x : RateBucket) : RateBucket :=
  let d := (s.rateTime + 2 ^ 38 - x.at_) % 2 ^ 38
  ⟨min (256 * s.get NTS.RL_CFG_RL_BURST) (x.used - s.get NTS.RL_CFG_RL_RATE * d), if d ≤ 256 ∧ x.kod = s.kodMark then x.kod else 0, s.rateTime⟩

/-- A bucket now. One never used, and one that was poisoned or denied, is full (Table 17-3). -/
def State.rateNow (s : State) (k : Nat) : RateBucket × State :=
  let r := s.vatRead 8 (rateAddr k) 8
  (s.refill (match r.1 with
    | .ok b => RateBucket.ofBytes b
    | _ => {}), r.2)

/-- Whether a bucket holds a token. -/
def State.hasToken (s : State) (x : RateBucket) : Bool := decide (x.used + 256 ≤ 256 * s.get NTS.RL_CFG_RL_BURST)

/-- A bucket is written back, whole. -/
def State.setRate (s : State) (k : Nat) (x : RateBucket) : State := (s.vatWrite 8 (rateAddr k) x.bytes).2

/-! ### Replies (R300, R304) -/

/-- The payload that a response of a kind will have. -/
def NtpMsg.size (m : NtpMsg) : Nat :=
  if m.kind = 1 then 48 + m.uid.length + 40 + 108 * m.cookies.length + (if m.mark then 44 else 0)
  else if m.kind = 2 then 48 + m.uid.length
  else 48 + (if m.mark then 44 else 0)

/-- A response joins the reply queue of the port that received its request. -/
def State.queueNtp (s : State) (p : Nat) (m : NtpMsg) : State :=
  let q := s.port p
  let r : Reply := { cls := 2, since := s.units, len := frameLen m.dest m.size, body := .ntp m }
  s.setPort p { q with replies := q.replies ++ [r] }

/-- Where a response goes (R300). -/
def State.ntpDest (s : State) (e : EthIn) (u : UdpIn) : Dest :=
  { transport := if u.v6 then 2 else 1, dmac := e.src, src := u.dst, dst := u.src, sport := u.dport, dport := u.sport, tci := e.tci
    dscp := s.get NTS.NTS_CFG_DSCP, hop := s.get NTS.NTS_CFG_HOP_LIMIT }

/-- A plain response (R227, R297). -/
def State.plainReply (s : State) (p : Nat) (d : Dest) (req : List Byte) (time : Nat) : State :=
  let want := s.get BOUND.WM_NTP != 0
  let fits := decide (92 ≤ req.length)
  let s := s.pay 2 250
  let s := if want && !fits then s.inc NTS.WM_OMIT_CNT else s
  s.queueNtp p { kind := 0, dest := d, req := req.take 48, time := time, mark := want && fits }

/-! ### Cookies (R301, R302, R322, R329) -/

/-- A generation. -/
def State.gen (s : State) (g : Nat) : NtsGen := nth s.nts.gens g {}

/-- The state with a generation changed. -/
def State.setGen (s : State) (g : Nat) (x : NtsGen) : State := { s with nts := { s.nts with gens := setNth s.nts.gens g x } }

/-- The CURRENT generation. -/
def State.currentGen (s : State) : Option Nat := (List.range 4).find? (fun g => s.get (NTS.NTS_GEN_STATE g) == 1)

/-- The slot of a generation's master key. -/
def State.genSlot (s : State) (g : Nat) : Nat := s.get (NTS.NTS_GEN_SLOT g)

/-- The next nonce of a generation; without its nonce key, an open one. -/
def State.nextNonce (s : State) (g : Nat) : List Byte × State :=
  let x := s.gen g
  let s := s.setGen g { x with count := (x.count + 1) % 2 ^ 128 }
  match x.nonceKey with
  | some k => (aesBlock (aesKeys k) (beBytes 16 x.count), s)
  | none =>
    let r := s.free
    (beBytes 16 r.1, r.2)

/-- Blocks that a seal or an opening of `n` bytes takes, with `a` bytes of associated data. -/
def sivBlocks (a n : Nat) : Nat := 2 + max 1 ((a + 15) / 16) + max 1 ((n + 15) / 16) + (n + 15) / 16

/-- A cookie for a pair of keys under a generation whose slot is usable; empty where its result is discarded (R334). -/
def State.mint (s : State) (g : Nat) (c2s s2c : List Byte) : Option (List Byte) × State :=
  let n := s.genSlot g
  let k := s.keySlot n
  if !k.usable then (none, s)
  else
    let id := beBytes 4 (s.get (NTS.NTS_KEYID g))
    let r := (s.useKey n).nextNonce g
    let plain := beBytes 2 15 ++ beBytes 2 0 ++ c2s ++ s2c
    let c := (r.2.opDone false (sivBlocks 4 68)).released (sivSeal k.mat id r.1 plain)
    (some (if c.1.isEmpty then [] else id ++ r.1 ++ c.1), c.2)

/-- The parts of an NTS response beyond the fixed ones, in the order of R304, until one does not fit: cookies (true), the watermark
(false); a cookie that cannot be minted ends the cookies. -/
def State.fillReply (s : State) (g : Option Nat) (c2s s2c : List Byte) (limit : Nat) : List Bool → Nat → (List (List Byte) × Bool × Bool) →
    (List (List Byte) × Bool × Bool) × State
  | [], _, r => (r, s)
  | true :: ps, n, r =>
    if limit < n + 108 then (r, s)
    else if r.2.2 then State.fillReply s g c2s s2c limit ps n r
    else
      match g with
      | none => State.fillReply s g c2s s2c limit ps n r
      | some k =>
        match s.mint k c2s s2c with
        | (some c, s) => State.fillReply s g c2s s2c limit ps (n + 108) (r.1 ++ [c], r.2)
        | (none, s) => State.fillReply s g c2s s2c limit ps n (r.1, r.2.1, true)
  | false :: ps, n, r =>
    if limit < n + 44 then (r, s) else State.fillReply s g c2s s2c limit ps (n + 44) (r.1, true, r.2.2)

/-- Steps 2 to 6 of R22 for a well-formed NTS request (R303 to R305). -/
def State.ntsReply (s : State) (p : Nat) (d : Dest) (req : List Byte) (time : Nat) (f : NtsForm) : State :=
  let id := beAt f.cookie 0 4
  let nak := fun (s : State) => (s.pay 2 200).queueNtp p { kind := 2, dest := d, req := req.take 48, time := time, uid := f.uid }
  match (List.range 4).find? (fun g => s.get (NTS.NTS_GEN_STATE g) != 0 && s.get (NTS.NTS_KEYID g) == id) with
  | none => nak (s.pay 2 900)
  | some g =>
    let k := s.keySlot (s.genSlot g)
    if s.get (NTS.NTS_GEN_STATE g) = 3 then nak (s.pay 2 900)
    else if k.state ≠ 1 ∧ k.state ≠ 3 then s
    else
      let open_ := ((s.pay 2 900).opDone false (sivBlocks 4 68)).released (f.cookie.drop 20)
      let s := open_.2
      match sivOpen k.mat (beBytes 4 id) (cut f.cookie 4 16) open_.1 with
      | none => nak s
      | some plain =>
        if beAt plain 0 2 ≠ 15 then nak s
        else
          let c2s := cut plain 4 32
          let s2c := cut plain 36 32
          let s := s.blocksDone (sivBlocks f.off (f.ct.length - 16))
          match sivOpen c2s (req.take f.off) f.nonce f.ct with
          | none => s.inc NTS.AUTH_FAIL_CNT
          | some _ =>
            let s := s.pay 2 350
            let cur := s.currentGen
            let s := if cur.isNone then s.inc NTS.NO_CURRENT_CNT else s
            let want := s.get BOUND.WM_NTP != 0
            let more := min (1 + f.places) (s.get NTS.NTS_CFG_COOKIE_MAX)
            let parts := (if cur.isSome then [true] else []) ++ (if want then [false] else []) ++
              (if cur.isSome then List.replicate (more - 1) true else [])
            let r := s.fillReply cur c2s s2c req.length parts (48 + f.uid.length + 40) ([], false, false)
            let s := if r.1.2.2 then r.2.inc KEY.USE_DENIED_CNT else r.2
            let s := if want && !r.1.2.1 then s.inc NTS.WM_OMIT_CNT else s
            let n := s.nextNonce (cur.getD g)
            if r.1.1.any List.isEmpty then s
            else (n.2.pay 2 (200 + 250 * r.1.1.length)).queueNtp p {
              kind := 1, dest := d, req := req.take 48, time := time, uid := f.uid, mark := r.1.2.1, cookies := r.1.1, s2c := s2c, nonce := n.1 }

/-- NTP_REQUEST_RX (R295, R296): the checks of Table 13-1 in order, then the answer. -/
def runNtpRequestRx (p : Nat) (s : State) : State :=
  s.takeRx p (isRule 6) 2 300 (.ntpRequestRx p) (fun r s =>
    let e := ethParse r.bytes
    match udpParse e with
    | none => s
    | some u =>
      let b := u.payload
      let d := s.ntpDest e u
      if !servingMode s.mode then s.inc (MAC.RX_NOT_SERVING p)
      else if b.length < 48 ∨ 1024 < b.length then s.inc NTS.RX_BAD_CNT
      else if (beAt b 0 1 / 8 % 8 ≠ 3 ∧ beAt b 0 1 / 8 % 8 ≠ 4) ∨ beAt b 0 1 % 8 ≠ 3 then s.inc NTS.BAD_MODE_CNT
      else
        match extWalk b b.length 48 with
        | none => s.inc NTS.RX_BAD_CNT
        | some x =>
          let nts := x.any (fun f => [0x0104, 0x0204, 0x0304, 0x0404].contains f.1)
          let form := ntsForm b x
          if nts && !s.flag NTS.NTS_CFG_NTS_EN then s.inc NTS.NTS_DROP_CNT
          else if !nts && !s.flag NTS.NTS_CFG_PLAIN_EN then s.inc NTS.PLAIN_DROP_CNT
          else if nts && form.isNone then s.inc NTS.MALFORMED_CNT
          else
            let k := s.bucketOf u.v6 u.src
            let limited := s.flag NTS.NTS_CFG_RL_EN
            let t := if limited then s.rateNow k else ({}, s)
            let s := t.2
            if limited && !s.hasToken t.1 then
              let s := s.inc NTS.RL_DROP_CNT
              if !nts && s.flag NTS.NTS_CFG_RL_KOD && t.1.kod == 0 then
                ((s.setRate k { t.1 with kod := s.kodMark }).pay 2 200).queueNtp p {
                  kind := 3, dest := d, req := b.take 48, time := r.time }
              else s.setRate k t.1
            else
              let s := if limited then s.setRate k { t.1 with used := t.1.used + 256 } else s
              match (if nts then form else none) with
              | some f => s.ntsReply p d b r.time f
              | none => s.plainReply p d b r.time)

/-! ### Responses as they are bound (R297, R298, R304, R305) -/

/-- The bytes of a response that leaves a port with transmit timestamp `tx`; the seal is made with it. Empty where the seal is discarded
(R334). -/
def State.ntpBytes (s : State) (m : NtpMsg) (p tx : Nat) : List Byte × State :=
  let t := s.served false
  let mark := s.markOf p false
  let unsync := if s.isHeld then t.refid == refChars 0x49 0x4E 0x49 0x54 else s.asLatched.ntpUnsync p
  let li := if unsync || m.kind == 2 || m.kind == 3 then 3 else if s.warns t then (if t.leapDir then 2 else 1) else 0
  let vn := beAt m.req 0 1 / 8 % 8
  let stratum := if m.kind = 2 ∨ m.kind = 3 then 0 else if unsync then 16 else min 15 (1 + beAt mark 19 1)
  let poll := clampI (s.geti NTS.POLL_CFG_POLL_MIN) (s.geti NTS.POLL_CFG_POLL_MAX) (s8 (beAt m.req 2 1) + (if m.kind = 3 then 1 else 0))
  let disp := if m.kind = 2 then 0 else if unsync then 0x100000 else (markBound mark * 65536 + 999999999999) / 1000000000000
  let ref := if m.kind = 2 then refChars 0x4E 0x54 0x53 0x4E else if m.kind = 3 then refChars 0x52 0x41 0x54 0x45
    else if unsync then refChars 0x49 0x4E 0x49 0x54 else t.refid
  let head := beBytes 1 (li * 64 + vn * 8 + 4) ++ beBytes 1 stratum ++ beBytes 1 (ofS 8 poll) ++ beBytes 1 (s.get NTS.POLL_CFG_PRECISION) ++
    beBytes 4 0 ++ beBytes 4 disp ++ beBytes 4 ref ++ beBytes 8 (if unsync then 0 else t.refTime) ++ cut m.req 40 8 ++
    beBytes 8 (s.ntpStamp m.time) ++ beBytes 8 (s.ntpStamp tx)
  let wm := if m.mark then beBytes 2 (s.get BOUND.WM_NTP) ++ beBytes 2 44 ++ mark else []
  if m.kind = 1 then
    let ad := head ++ m.uid ++ wm
    let plain := m.cookies.flatMap (fun c => beBytes 2 0x0204 ++ beBytes 2 108 ++ c)
    let ct := sivSeal m.s2c ad m.nonce plain
    let r := (s.opDone false (sivBlocks ad.length plain.length)).released ct
    if r.1.isEmpty then ([], r.2)
    else
      (ad ++ beBytes 2 0x0404 ++ beBytes 2 (24 + ct.length) ++ beBytes 2 16 ++ beBytes 2 ct.length ++ m.nonce ++ ct, r.2.pmu 7 p 1)
  else if m.kind = 2 then (head ++ m.uid, s)
  else (head ++ wm, s)

/-- The label of the nonce key, "NTS-NONCE" (R302). -/
def nonceLabel : List Byte := [0x4E, 0x54, 0x53, 0x2D, 0x4E, 0x4F, 0x4E, 0x43, 0x45]

/-- The counter of a kind of response. -/
def ntpCount (kind : Nat) : Fld := if kind = 1 then NTS.NTS_RESP_CNT else if kind = 2 then NTS.NAK_CNT else NTS.NTP_RESP_CNT

/-! ### Addresses (R309 to R311) -/

/-- Another node uses a timing address of a port (R311). -/
def State.addrConflict (s : State) (p : Nat) (addr : List Byte) : State :=
  (s.inc NTS.ADDR_CONFLICT_CNT).eventJ .auto 0x0A03 p (toS 48 (beNat (addr.drop (addr.length - 4)))) (beNat addr / 2 ^ 64) (beNat addr)

/-- ARP_RX (R309). -/
def runArpRx (p : Nat) (s : State) : State :=
  s.takeRx p (isArp true) 2 300 (.arpRx p) (fun r s =>
    let e := ethParse r.bytes
    let b := e.payload
    if !servingMode s.mode then s.inc (MAC.RX_NOT_SERVING p)
    else if beAt b 0 6 ≠ 0x000108000604 then s
    else
      let sha := cut b 8 6
      let spa := cut b 14 4
      let tpa := cut b 24 4
      let s := if (s.ta4 p).contains spa && sha != s.portMac p then s.addrConflict p spa else s
      if beAt b 6 2 = 1 ∧ (s.ta4 p).contains tpa = true then
        (s.pay 2 250).answer p NTS.ARP_ANS_CNT (s.arpOut p 2 sha e.tci tpa sha spa)
      else s)

/-- ND_RX (R310). -/
def runNdRx (p : Nat) (s : State) : State :=
  s.takeRx p (isArp false) 2 300 (.ndRx p) (fun r s =>
    let e := ethParse r.bytes
    if !servingMode s.mode then s.inc (MAC.RX_NOT_SERVING p)
    else
      match icmpParse e with
      | none => s
      | some q =>
        let target := cut q.2.2 8 16
        if q.1 ≠ 255 ∨ (s.ta6 p).contains target = false then s
        else if beAt q.2.2 0 1 = 135 then
          let none_ := q.2.1 == List.replicate 16 0
          (s.pay 2 250).answer p NTS.ND_ANS_CNT
            (if none_ then s.naOut p (groupMac allNodes) e.tci target allNodes false else s.naOut p e.src e.tci target q.2.1 true)
        else if e.src ≠ s.portMac p then s.addrConflict p target
        else s)

/-- What follows a write of TA_EN on a port that was enabled as `old` (R311). -/
def State.afterTaEn (s : State) (p old4 old6 : Nat) : State :=
  let new := (bitsOf 4 (s.get (MAC.TA_EN_V4 p))).any (fun i => !bitOf old4 i) || (bitsOf 4 (s.get (MAC.TA_EN_V6 p))).any (fun i => !bitOf old6 i)
  if new && s.get (MAC.PORT_STATUS_LINK p) == 2 then s.announce p (s.ta4 p) (s.ta6 p) else s

/-- TA_EN_WRITE (R311): a write of TA_EN; one that enables an address announces the addresses of the port. -/
def runTaEnWrite (o : Origin) (p v : Nat) (s : State) : State :=
  if 7 < p then s
  else
    let o4 := s.get (MAC.TA_EN_V4 p)
    let o6 := s.get (MAC.TA_EN_V6 p)
    s.busStore o (0x180030 + 0x4000 * p) v true true (fun s => s.afterTaEn p o4 o6)

/-! ### Generations (R306, R307, R326) -/

/-- NTS_STATUS shows the generations. -/
def State.showGens (s : State) : State :=
  let c := s.currentGen
  s.puts [(NTS.NTS_STATUS_CURRENT_VALID, if c.isSome then 1 else 0), (NTS.NTS_STATUS_CURRENT_GEN, c.getD 0),
    (NTS.NTS_STATUS_CHANGE_PENDING, if s.nts.change.isSome then 1 else 0)]

/-- A generation changes state, with its event and journal entry. -/
def State.genGo (s : State) (o : Origin) (g new code : Nat) : State :=
  let old := s.get (NTS.NTS_GEN_STATE g)
  let x := s.gen g
  let s := (s.charge0 500).put (NTS.NTS_GEN_STATE g) new
  let s := if new = 2 then (s.setGen g { x with acceptAt := s.mono }).put (NTS.NTS_AGE g) 0
    else if new = 3 then s.setGen g { x with nonceKey := none } else s
  ((s.eventIn code g new).journal o 3 g old new code).showGens

/-- Steps 5 and 6 of R328 for the generations: those whose master slot is no longer the one they use retire, then the change pending. -/
def State.genEdge (s : State) : State :=
  let s := (List.range 4).foldl (fun s g =>
    let st := s.get (NTS.NTS_GEN_STATE g)
    let k := s.keySlot (s.genSlot g)
    if (st = 1 ∨ st = 2) ∧ (k.usable = false ∨ k.wgen ≠ (s.gen g).wgen) then s.genGo .auto g 3 0x0A02 else s) s
  match s.nts.change with
  | none => s
  | some c =>
    let s := { s with nts := { s.nts with change := none } }
    match c with
    | .retire o g => if s.get (NTS.NTS_GEN_STATE g) = 1 ∨ s.get (NTS.NTS_GEN_STATE g) = 2 then s.genGo o g 3 0x0A01 else s.showGens
    | .rotate o g slot id =>
      let k := s.keySlot slot
      if !k.usable || k.alg != 3 then s.showGens
      else
        let s := match s.currentGen with
          | some c => s.genGo .auto c 2 0x0A01
          | none => s
        let s := s.puts [(NTS.NTS_GEN_SLOT g, slot), (NTS.NTS_KEYID g, id), (NTS.NTS_AGE g, 0)]
        let s := (s.charge0 600).setGen g ⟨0, some (kdf k.mat nonceLabel (beBytes 4 id)), 0, k.wgen⟩
        s.genGo o g 1 0x0A01

/-- NTS_AGE of the generations in ACCEPT, in whole seconds. -/
def State.genAges (s : State) : State :=
  (List.range 4).foldl (fun s g =>
    if s.get (NTS.NTS_GEN_STATE g) = 2 then s.put (NTS.NTS_AGE g) ((s.mono - (s.gen g).acceptAt) / (secU : Int)).toNat else s) s

/-- NTS_GEN_AGE_EXPIRE (R306): a generation in ACCEPT has reached ACCEPT_S. -/
def runNtsGenAgeExpire (g : Nat) (s : State) : State :=
  if decide (g < 4) && s.get (NTS.NTS_GEN_STATE g) == 2 && s.reaches ((s.gen g).acceptAt + (s.get NTS.ACCEPT_S * secU : Nat)) then (s.put (NTS.NTS_AGE g) (s.get NTS.ACCEPT_S)).genGo .auto g 3 0x0A01 else s

/-- NTS_ROTATE (R307). -/
def runNtsRotate (h : Hdr) (g slot id : Nat) (s : State) : State :=
  s.command h 0xB0 false (.ntsRotate h g slot id) 0 (fun s =>
    let k := s.keySlot slot
    if s.mode = 5 then s.complete h 0xB0 stMODE 0
    else if 3 < g then s.complete h 0xB0 stINVALID 0
    else if s.get (NTS.NTS_GEN_STATE g) = 1 ∨ s.get (NTS.NTS_GEN_STATE g) = 2 ∨ s.nts.change.isSome = true then s.complete h 0xB0 stBUSY 0
    else if (List.range 4).any (fun e => e != g && s.get (NTS.NTS_GEN_STATE e) != 0 && s.get (NTS.NTS_KEYID e) == id) || !k.usable || k.alg != 3 then
      s.complete h 0xB0 stINVALID 0
    else
      let s := ({ s with nts := { s.nts with change := some (.rotate h.origin g slot id) } }).showGens
      (s.journalCmd h 0xB0 (g + 256 * slot + 2 ^ 32 * id) 0).complete h 0xB0 stOK 0)

/-- NTS_RETIRE (R307). -/
def runNtsRetire (h : Hdr) (g : Nat) (s : State) : State :=
  s.command h 0xB1 false (.ntsRetire h g) 0 (fun s =>
    if s.mode = 5 then s.complete h 0xB1 stMODE 0
    else if 3 < g then s.complete h 0xB1 stINVALID 0
    else if s.get (NTS.NTS_GEN_STATE g) ≠ 1 ∧ s.get (NTS.NTS_GEN_STATE g) ≠ 2 then s.complete h 0xB1 stNOTREADY 0
    else if s.nts.change.isSome then s.complete h 0xB1 stBUSY 0
    else
      let s := ({ s with nts := { s.nts with change := some (.retire h.origin g) } }).showGens
      (s.journalCmd h 0xB1 g 0).complete h 0xB1 stOK 0)

/-! ### Minting (R308) -/

/-- Bytes go to the host, or to the data window; whether they arrived. -/
def State.hostPut (s : State) (h : Hdr) (addr : Nat) (b : List Byte) : Bool × State :=
  if !rangeOk h addr b.length then (false, s)
  else if h.origin = .mspi then
    let d := s.hif.mbData
    (true, { s with hif := { s.hif with mbData := d.take addr ++ b ++ d.drop (addr + b.length) } })
  else if h.dmaOk then (true, s.emit (.hostWrite addr b))
  else (false, s)

/-- Up to `n` cookies, until one cannot be minted. -/
def State.mintMany (s : State) (g : Nat) (c2s s2c : List Byte) : Nat → List Byte × State
  | 0 => ([], s)
  | n + 1 =>
    match s.mint g c2s s2c with
    | (some c, s) =>
      if c.isEmpty then ([], s)
      else
        let r := State.mintMany (s.inc NTS.MINT_CNT) g c2s s2c n
        (c ++ r.1, r.2)
    | (none, s) => ([], s)

/-- MINT_COOKIE (R307, R308): cookies under the CURRENT generation, the key block erased after them where ERASE says so. -/
def runMintCookie (h : Hdr) (count : Nat) (erase : Bool) (keyAddr cookieAddr : Nat) (dma : DmaIn) (s : State) : State :=
  let n := min count 8
  s.command h 0xB2 true (.mintCookie h count erase keyAddr cookieAddr dma) (300 + 250 * n + dmaStock 68 + dmaStock (104 * n)) (fun s =>
    if count = 0 ∨ 8 < count ∨ rangeOk h keyAddr 68 = false ∨ rangeOk h cookieAddr (104 * count) = false then s.complete h 0xB2 stINVALID 0
    else
      match s.dataIn h keyAddr 68 dma with
      | none => (s.inc HIF.DMA_ERR_CNT).complete h 0xB2 stDMA 0
      | some b =>
        if beAt b 0 2 ≠ 15 then s.complete h 0xB2 stINVALID 0
        else
          match s.currentGen.filter (fun g => (s.keySlot (s.genSlot g)).usable) with
          | none => s.complete h 0xB2 stNOTREADY 0
          | some g =>
            let id := s.get (NTS.NTS_KEYID g)
            let r := s.mintMany g (cut b 4 32) (cut b 36 32) count
            let w := r.2.hostPut h cookieAddr r.1
            if !w.1 then (w.2.inc HIF.DMA_ERR_CNT).complete h 0xB2 stDMA 0
            else
              let s := if erase then (w.2.hostPut h keyAddr (List.replicate 68 0)).2 else w.2
              (s.journalCmd h 0xB2 (count + (if erase then 256 else 0) + keyAddr * 65536) (keyAddr / 2 ^ 48 + cookieAddr * 65536)).complete h 0xB2 stOK id)

end Sys2Proof.Machine
end

