-- ==== Sys2Proof/Machine/Slots.lean ====
section
/-! DEFINITION. Reply slots, unscheduled frames and ESMC (chapters 2, 7, 11, 12, 13). -/

namespace Sys2Proof.Machine

/-! ### Reply slots (R33, R43, R265, R350) -/

/-- Stock of the check that a reply to a record with AUTH set is sealed with. -/
def State.sealCost (s : State) (c : Option Client) : Nat :=
  match c with
  | some c => if c.auth then icvStock (s.keySlot c.slot).alg else 0
  | none => 0

/-- Whether a reply may be bound to a slot with launch instant `l` and MAXLEN `n`: queued 2.000 µs before, fitting, and a follow-up after the
first message has ended. -/
def Reply.fits (r : Reply) (l n : Nat) : Bool := decide (r.since + nsU 2000 ≤ l) && decide (r.after ≤ l) && decide (r.len ≤ n)

/-- A reply leaves the queue of a port. -/
def State.takeReply (s : State) (p : Nat) (r : Reply) : State :=
  let q := s.port p
  (s.setPort p { q with replies := q.replies.erase r }).showNeg

/-- An idle reply slot (R33, Table 2-7): from `l` on the wire stays idle for the length of the slot, MAXLEN `n`. -/
def State.idleSlot (s : State) (p l n : Nat) : State :=
  let s := s.pay 1 10
  s.setPort p { s.port p with slotEnd := l + holdUnits (s.get (MAC.PORT_CFG_RATE p)) (n + 4) }

/-- A bound reply launches, or is discarded with what was queued behind its message (R21, R265). -/
def State.sendReply (s : State) (p i tc l : Nat) (b : List Byte) : State :=
  let r := s.launch p tc l b
  if r.1 then r.2.pmu 5 p 1 else r.2.withdraw p i

/-- A PTP reply is bound to a slot (R264, R265, R278, R283): it takes its numbers, its transmit timestamp, its watermark and its check. -/
def State.bindPtp (s : State) (r : Reply) (m : PtpMsg) (c : Option Client) (i p tc l n : Nat) : State :=
  let s := s.takeReply p r
  let tx := s.txStamp p l
  let t : Nat × State := match m.record, c with
    | some n, some c => if m.type = 0xC then (c.sigSeq, s.setRec n { c with sigSeq := (c.sigSeq + 1) % 65536 }) else (m.seq, s)
    | _, _ => (m.seq, s)
  let m := { m with seq := t.1 }
  let s := t.2
  let dual := m.dest.flow.isSome
  let q : Nat × State := match m.dest.flow with
    | some f =>
      let u := nth s.ptp.flows f {}
      ((u.first + 12 + u.replies) % 65536, { s with ptp := { s.ptp with flows := setNth s.ptp.flows f { u with replies := u.replies + 1 } } })
    | none => (0, s)
  let auth := c.bind (fun c => if c.auth then some (c.spp, c.slot) else none)
  let b := q.2.ptpBytes m p tx dual auth
  let s := b.2
  if b.1.isEmpty then s.idleSlot p l n
  else
  let f := s.wrap p m.dest b.1 q.1
  let s := if m.type = 3 ∧ m.twoStep = true then
      let u : PtpMsg := { m with type := 0xA, time := tx, twoStep := false }
      s.queuePtp p u c (l + holdUnits (s.get (MAC.PORT_CFG_RATE p)) (f.length + 4)) (some i)
    else s
  s.sendReply p i tc l f

/-- The oldest fitting reply is bound to a slot, if its class can pay (R33, R43, R265). -/
def State.bindReply (s : State) (r : Reply) (i p tc l n : Nat) : State :=
  let refused := fun (s : State) => ((s.inc (LEDGER.REFUSE_CNT r.cls)).pmu 0x0D r.cls 1).idleSlot p l n
  match r.body with
  | .ntp m =>
    match s.charge r.cls 440 with
    | none => refused s
    | some s =>
      let s := s.takeReply p r
      let b := s.ntpBytes m p (s.txStamp p l)
      if b.1.isEmpty then b.2.idleSlot p l n
      else (b.2.inc (ntpCount m.kind)).sendReply p i (s.get NTS.NTS_CFG_TC) l (s.wrap p m.dest b.1 0)
  | .ptp m =>
    let g : Option Client × State := match m.record with
      | some n => let q := s.getRec n; (if q.1.valid then some q.1 else none, q.2)
      | none => (none, s)
    let s := g.2
    if m.dest.flow.any (fun f => decide (4 ≤ (nth s.ptp.flows f {}).replies)) then (s.inc COUCH.FLOW_OVF_CNT).idleSlot p l n
    else if g.1.any (fun c => c.auth && !(s.keySlot c.slot).usable) then ((s.takeReply p r).inc KEY.USE_DENIED_CNT).idleSlot p l n
    else
      match s.charge r.cls (440 + s.sealCost g.1) with
      | none => refused s
      | some s => s.bindPtp r m g.1 i p tc l n

/-- DECKLE_REPLY_SLOT (R20, R33, R43, R248): the oldest reply that fits goes out; in a paused port's slot it stays queued. -/
def runDeckleReplySlot (i : Nat) (s : State) : State :=
  s.withEntry i 2 (fun f s =>
    let e := f.entry
    let p := e.port
    if !servingMode s.execMode then s
    else
      let l := s.launchAt p e.tick
      match (if s.paused p l then none else (s.port p).replies.find? (fun r => r.fits l (bits e.opa 0 11))) with
      | none => s.idleSlot p l (bits e.opa 0 11)
      | some r => if s.flag SHEET.SHEET_STATUS_THIN && decide (2 ≤ r.cls) then s.idleSlot p l (bits e.opa 0 11) else s.bindReply r i p e.tc l (bits e.opa 0 11))

/-! ### Unscheduled frames (R245, R252, R286, R388) -/

/-- The frame at the head of a traffic class: those that the engine made go before host frames. -/
def PortSt.head (q : PortSt) (tc : Nat) : Option UFrame :=
  match q.unsched.find? (fun (f : UFrame) => f.tc == tc && f.engine) with
  | some f => some f
  | none => q.unsched.find? (fun (f : UFrame) => f.tc == tc)

/-- Whether a frame may start at a time (R33, R244 to R246, R248, R252). -/
def State.mayStart (s : State) (p t : Nat) (f : UFrame) : Bool :=
  let q := s.port p
  let k := s.look p
  let fin := t + holdUnits (s.get (MAC.PORT_CFG_RATE p)) (f.bytes.length + 4)
  (nextLaunch k (t - 1)).all (fun l => decide (fin + nsU 16 ≤ l)) && s.gateOpen k p f.tc t fin && !s.paused p t &&
    !s.flag (MAC.PORT_STATUS_LPI_TX p) && decide (q.wakeAt ≤ t) && decide (q.wireFree ≤ t) &&
    decide (q.slotEnd ≤ t)

/-- A frame of the upstream port carries the transmit timestamp of its start (R286), which its exchange remembers. -/
def State.stampUnsched (s : State) (p t : Nat) (f : UFrame) : List Byte × State :=
  let tx := s.txStamp p t
  let go := fun (type k seq : Nat) =>
    let q : UpReq := { master := k, seq := seq, sent := tx / 65536 * 65536 }
    (s.upFrame p type k seq tx [] [], if s.upRuns then { s with ptp := { s.ptp with up := { s.ptp.up with req := some q } } } else s)
  match f.kind with
  | .plain => (f.bytes, s)
  | .delayReq k seq => go 1 k seq
  | .pdelayReq k seq => go 2 k seq

/-- UNSCHED_FRAME_START (R245): the first frame that may start at an instant, highest traffic class first, starts. -/
def runUnschedFrameStart (p time : Nat) (s : State) : State :=
  if 7 < p ∨ s.get (MAC.PORT_CFG_RATE p) = 3 ∨ s.get (MAC.PORT_STATUS_LINK p) ≠ 2 then s
  else
    let s := s.advanceTo (min time s.time.next)
    let t := s.units
    match ((List.range 8).reverse.filterMap (fun tc => (s.port p).head tc)).find? (s.mayStart p t) with
    | none => s
    | some f =>
      let q := s.port p
      let b := (s.setPort p { q with unsched := q.unsched.erase f }).stampUnsched p t f
      let s := (b.2.inc (MAC.TX_UNSCHED p)).sendFrame p t b.1
      match f.done with
      | some d => s.txDone d stOK
      | none => s

/-! ### ESMC (R164 to R166) -/

/-- The SSM and eSSM of an ESMC PDU of version 1 with a QL TLV. -/
def esmcParse (b : List Byte) : Option (Nat × Nat) :=
  if beAt b 1 3 = 0x0019A7 ∧ beAt b 4 2 = 1 ∧ beAt b 6 1 / 16 = 1 ∧ beAt b 10 1 = 1 ∧ beAt b 11 2 = 4 ∧ 14 ≤ b.length then
    some (beAt b 13 1 % 16, if beAt b 14 1 = 2 ∧ beAt b 15 2 = 20 then beAt b 17 1 else 0xFF)
  else none

/-- ESMC_PDU_RX (R164): the QL of the slot of the port; any other PDU is counted. -/
def runEsmcPduRx (p : Nat) (s : State) : State :=
  s.takeRx p (isRule 3) 1 500 (.esmcPduRx p) (fun r s =>
    match esmcParse (ethParse r.bytes).payload with
    | none => s.inc REFSEL.ESMC_BAD_CNT
    | some q =>
      let n := 5 + p
      let s := s.puts [(REFSEL.REF_STAT_RX_SSM n, q.1), (REFSEL.REF_STAT_RX_ESSM n, q.2)]
      s.setSlot n { s.slot n with qlOut := false, qlAt := some s.mono })

/-- The QL that a port transmits (R166). -/
def State.txQl (s : State) (p : Nat) : Nat × Nat :=
  let cs := s.get REFSEL.REFSEL_STATUS_CLOCK_STATE
  if s.mode = 0 ∨ s.mode = 1 ∨ s.mode = 5 ∨ (s.flag REFSEL.REFSEL_STATUS_ASSIST_VALID = true ∧ s.get REFSEL.REFSEL_STATUS_ASSIST = 5 + p) then
    (0xF, 0xFF)
  else if cs = 2 then (s.get REFSEL.TX_QL_CFG_LOCKED_SSM, s.get REFSEL.TX_QL_CFG_LOCKED_ESSM)
  else if cs = 3 then (s.get REFSEL.TX_QL_CFG_HOLD_SSM, s.get REFSEL.TX_QL_CFG_HOLD_ESSM)
  else (s.get REFSEL.TX_QL_CFG2_FREE_SSM, s.get REFSEL.TX_QL_CFG2_FREE_ESSM)

/-- An ESMC PDU joins the unscheduled frames of a port, at most 10 in a second (R166). -/
def State.sendEsmc (s : State) (p : Nat) (event : Bool) : State :=
  let q := s.port p
  let sec := s.taiSec
  let n := if q.esmcSec = sec then q.esmcN else 0
  if 10 ≤ n then s
  else
    let ql := s.txQl p
    let ext := if s.flag REFSEL.TX_QL_CFG2_EXT_TLV then
        beBytes 1 2 ++ beBytes 2 20 ++ beBytes 1 ql.2 ++ beBytes 16 Config.esmcExt else []
    let b := ethOut (beBytes 6 0x0180C2000002) (s.portMac p) none 0x8809
      (beBytes 1 0x0A ++ beBytes 3 0x0019A7 ++ beBytes 2 1 ++ beBytes 1 (if event then 0x18 else 0x10) ++ beBytes 3 0 ++
        beBytes 1 1 ++ beBytes 2 4 ++ beBytes 1 ql.1 ++ ext)
    ((s.pay 1 200).setPort p { q with esmcSec := sec, esmcN := n + 1 }).queueTx p {
      tc := Config.esmcTc % 8, engine := true, bytes := b }

/-- Whether a port sends ESMC PDUs. -/
def State.esmcOn (s : State) (p : Nat) : Bool :=
  decide (p < 8) && bitOf (s.get REFSEL.TX_QL_CFG2_ESMC_TX_EN) p && s.get (MAC.PORT_STATUS_LINK p) == 2

/-- ESMC_TX_SECOND (R166): the information PDU of a whole TAI second. -/
def runEsmcTxSecond (p : Nat) (s : State) : State := if s.esmcOn p then s.sendEsmc p false else s

/-- The transmitted QL of a port is compared with that of the edge before: a change is due an event PDU in this sheet (R166). -/
def State.qlEdge (s : State) (p : Nat) : State :=
  let q := s.port p
  let ql := s.txQl p
  s.setPort p { q with qlWas := ql, qlDue := ql != q.qlWas }

/-- ESMC_EVENT_PDU_TX (R166): an event PDU in the sheet after the transmitted QL has changed. -/
def runEsmcEventPduTx (p : Nat) (s : State) : State :=
  if s.esmcOn p && (s.port p).qlDue then (s.setPort p { s.port p with qlDue := false }).sendEsmc p true else s

end Sys2Proof.Machine
end

