-- ==== Sys2Proof/Machine/Ream.lean ====
section
/-! DEFINITION. The ream: entries as bytes, draining by ring and window (chapter 20). -/

namespace Sys2Proof.Machine

/-! ### Draining (R457, R458, R459) -/

/-- Entries that may be posted or shown: all but an open GAP entry (R459). -/
def State.reamReady (s : State) : Nat := s.ream.entries.length - (if s.flag REAM.REAM_STATUS_GAP_OPEN then 1 else 0)

/-- Undrained entries are counted, and whether fewer than two slots are free. -/
def State.showReam (s : State) : State :=
  let n := s.ream.entries.length
  (s.put REAM.REAM_UNDRAINED n).putB REAM.REAM_STATUS_FULL (decide (65536 < n + 2))

/-- The entry at an index, as it is read for posting: one found uncorrectable becomes a GAP entry of the same SEQ (R407, R459);
none where the regions deny the read (R405). -/
def State.reamRead (s : State) (i : Nat) : Option ReamEntry × State :=
  match s.ream.entries[i]? with
  | none => (none, s)
  | some e =>
    let r := s.vatRead 13 (reamBase + 64 * (e.seq % 65536)) 64
    match r.1 with
    | .uncorr =>
      let g : ReamEntry := ⟨e.seq, false, wideOf r.2.units, r.2.sheetNo, .auto, 9, 0, 1, r.2.sheetNo, 0⟩
      let s := ((r.2.charge0 60).inc REAM.REAM_LOST_CNT).inc REAM.GAP_CNT
      (some g, { s with
        ream := { s.ream with entries := setNth s.ream.entries i g }
        vatc := { s.vatc with poison := s.vatc.poison.filter (fun w => w / 8 != (reamBase + 64 * (e.seq % 65536)) / 64) } })
    | .denied _ => (none, r.2)
    | .ok _ => (some e, r.2)

/-- Entries are posted in SEQ order while the ream ring has room for both descriptors of one (R376, R456 to R458). -/
def State.reamPosts (s : State) : Nat → State
  | 0 => s
  | k + 1 =>
    match s.ringOf 6 with
    | none => s
    | some n =>
      if s.reamReady ≤ s.ream.posted then s
      else if !s.ringRoom n 2 then s.putB (HIF.RING_STAT_FULL n) true
      else
        match s.reamRead s.ream.posted with
        | (none, s) => s.ringHalt n 3
        | (some e, s) =>
          let s := { s with ream := { s.ream with posted := s.ream.posted + 1 } }
          State.reamPosts ((s.charge0 20).ringWrite n [.ream e 0, .ream e 1]) k

/-- The ream goes to its ring unless the window drains it (R458). -/
def State.reamPost (s : State) : State := if s.flag REAM.REAM_CFG then s else s.reamPosts (s.reamReady - s.ream.posted)

/-- The oldest `n` undrained entries are drained; slots that fall free let a lost record's GAP entry close with the next one
written (R459). -/
def State.reamDrain (s : State) (n : Nat) : State :=
  ({ s with ream := { s.ream with entries := s.ream.entries.drop n, posted := s.ream.posted - n } }).showReam

/-- The host has consumed descriptors of the ream ring: entries of which both are consumed are drained (R458). -/
def State.reamConsumed (s : State) (n : Nat) : State :=
  if s.flag REAM.REAM_CFG then s else s.reamDrain (s.ream.posted - (s.ringFill n + 1) / 2)

/-- The window shows the oldest undrained entry while DRAIN_SRC is 1 (R458), and 0 with none. -/
def State.showReamWin (s : State) : State :=
  if s.flag REAM.REAM_CFG then
    let r := if 0 < s.reamReady then s.reamRead 0 else (none, s)
    let b := match r.1 with
      | some e => e.bytes
      | none => []
    (List.range 16).foldl (fun s i => s.put (REAM.REAM_WIN i) (leAt b (4 * i) 4)) r.2
  else s

/-- REAM_POP (R458): a write of 1 drains the oldest undrained entry while DRAIN_SRC is 1. -/
def runReamPop (o : Origin) (v : Nat) (s : State) : State :=
  s.busTouch o (fun s => if s.flag REAM.REAM_CFG && bitOf v 0 && decide (0 < s.reamReady) then s.reamDrain 1 else s)

end Sys2Proof.Machine
end

