-- ==== Sys2Proof/Machine/Rings.lean ====
section
/-! DEFINITION. Rings, doorbells, receive and transmit of host frames (chapters 11 and 16). -/

namespace Sys2Proof.Machine

/-! ### Enabling and disabling rings (R374, R377, R378) -/

/-- The most rings of a type that may be enabled (Table 16-3); none of a TYPE that the table does not have. -/
def ringLimit (ty : Nat) : Nat := nth [0, 8, 8, 1, 1, 1, 1, 1, 16, 8, 8] ty 0

/-- The type of the ring that a type needs as its PAIR (Table 16-3). -/
def pairType (ty : Nat) : Option Nat := if ty = 1 ∨ ty = 8 then some 2 else if ty = 10 then some 9 else none

/-- The enabled rings of a type. -/
def State.ringsOf (s : State) (ty : Nat) : List Nat :=
  (List.range 64).filter (fun n => s.flag (HIF.RING_CFG_ENABLE n) && (s.get (HIF.RING_CFG_TYPE n) == ty))

/-- Whether a ring may be enabled with a value of RING_CFG (R378). -/
def State.ringLegal (s : State) (v : Nat) : Bool :=
  let ty := bits v 0 4
  let pair := bits v 16 6
  decide ((s.ringsOf ty).length < ringLimit ty) &&
    (pairType ty).all (fun t => (s.ringsOf t).contains pair && s.get (HIF.RING_CFG_FN pair) == bits v 9 1) &&
    (ty != 10 || (s.ringsOf 10).all (fun n => s.get (HIF.RING_CFG_PORT_MASK n) &&& bits v 22 8 == 0))

/-- The BAR0 offset of RING_CFG. -/
def ringCfg (n : Nat) : Nat := 0x1E0108 + 0x20 * n

/-- What the PCIe endpoint reports is taken over (Table 16-7). -/
def State.seePcie (s : State) (p : PcieView) : State :=
  let b := fun (x : Bool) => if x then 1 else 0
  let s := { s with irq := { s.irq with masked := (s.irq.masked ++ p.masked).dedup } }
  s.puts [(HIF.HIF_STATUS_LINK_UP, b p.linkUp), (HIF.HIF_STATUS_SPEED, p.speed), (HIF.HIF_STATUS_WIDTH, p.width),
    (HIF.HIF_STATUS_PF0_BME, b p.bme0), (HIF.HIF_STATUS_PF1_BME, b p.bme1), (HIF.HIF_STATUS_EXT_TAG, b p.extTag)]

/-- What the engine holds for a ring beside its registers starts anew. -/
def State.ringFresh (s : State) (n : Nat) : State :=
  { s with hif := { s.hif with rings := setNth s.hif.rings n {}, rxBufs := setNth s.hif.rxBufs n [], txParts := setNth s.hif.txParts n [] } }

/-- A ring of the engine starts at both counts 0 (R374); the ream posts its undrained entries again from the oldest. -/
def State.ringStart (s : State) (n : Nat) : State :=
  let s := (s.puts [(HIF.RING_PROD n, 0), (HIF.RING_CONS n, 0), (HIF.RING_STAT_HALTED n, 0), (HIF.RING_STAT_ERR n, 0),
    (HIF.RING_STAT_FULL n, 0), (HIF.RING_STAT_RUNNING n, 1)]).ringFresh n
  if s.get (HIF.RING_CFG_TYPE n) = 6 then { s with ream := { s.ream with posted := 0 } }
  else if s.get (HIF.RING_CFG_TYPE n) = 7 then { s with gnss := { s.gnss with steerQ := [] } } else s

/-- RING_ENABLE (R374, R378): RING_CFG is written with ENABLE 1; with an illegal configuration the ring stays disabled with ERR
CONFIG. While the ring is enabled its other fields do not change. -/
def runRingEnable (o : Origin) (n v : Nat) (view : PcieView) (s : State) : State :=
  if 63 < n then s
  else
    let s := s.seePcie view
    let was := s.flag (HIF.RING_CFG_ENABLE n)
    let legal := s.ringLegal v
    let v' := if was then s.readReg (ringCfg n) else putBit v 31 legal
    s.busStore o (ringCfg n) v' true true (fun s =>
      if was then s
      else if legal then s.ringStart n
      else (s.puts [(HIF.RING_STAT_HALTED n, 0), (HIF.RING_STAT_ERR n, 0)]).ringHalt n 5)

/-- A ring stops (R373): it no longer runs, and commands of it that wait to be fetched are gone. -/
def State.ringStop (s : State) (n : Nat) : State :=
  let s := (s.puts [(HIF.RING_STAT_RUNNING n, 0), (HIF.RING_STAT_HALTED n, 0), (HIF.RING_STAT_ERR n, 0)]).ringFresh n
  { s with held := s.held.filter (fun w => !(w.stage == 0 && w.ring == some n)) }

/-- RING_DISABLE (R377, R378): RING_CFG is written with ENABLE 0; while the ring is enabled its other fields do not change. -/
def runRingDisable (o : Origin) (n v : Nat) (s : State) : State :=
  if 63 < n then s
  else
    let was := s.flag (HIF.RING_CFG_ENABLE n)
    let v' := putBit (if was then s.readReg (ringCfg n) else v) 31 false
    s.busStore o (ringCfg n) v' true true (fun s => if was then s.ringStop n else s)

/-- A reset of a function or of the link disables a ring (R373). -/
def State.ringOff (s : State) (n : Nat) : State :=
  if s.flag (HIF.RING_CFG_ENABLE n) then (s.putB (HIF.RING_CFG_ENABLE n) false).ringStop n else s

/-- PCIE_FLR (R373): a Function Level Reset disables every ring that the function owns, and nothing else in the engine; its Bus Master
Enable and its MSI-X enable fall with its configuration space. -/
def runPcieFlr (fn : Nat) (s : State) : State :=
  let b := if fn = 0 then HIF.HIF_STATUS_PF0_BME else HIF.HIF_STATUS_PF1_BME
  let s := if fn ≤ 1 then s.putB b false else s
  let mine := (List.range 64).filter (fun v => s.get (IRQ.VEC_CFG_FN v) == fn)
  let s := { s with irq := { s.irq with masked := (s.irq.masked ++ mine).dedup } }
  (List.range 64).foldl (fun s n => if s.get (HIF.RING_CFG_FN n) = fn then s.ringOff n else s) s

/-! ### Receive (R389, R390) -/

/-- The first element that a test picks out, replaced by others. -/
def replaceFirst {α : Type} (p : α → Bool) (new : α → List α) : List α → List α
  | [] => []
  | x :: t => if p x then new x ++ t else x :: replaceFirst p new t

/-- The completions of a frame, one for each buffer used (Table 16-9). -/
def RxHold.compls (f : RxHold) (discard : Bool) : List Desc :=
  let k := f.used.length
  f.used.zipIdx.map (fun (u : (Nat × Nat) × Nat) =>
    Desc.rx { cookie := u.1.1, len := u.1.2, port := f.port
              flags := f.flags + (if u.2 = 0 then 1 else 0) + (if u.2 + 1 = k then 2 else 0) + (if discard then 4 else 0)
              time := f.time, tci := f.tci, csum := f.csum, rule := f.rule, frameLen := if u.2 = 0 then f.len else 0 })

/-- The completions of a frame are posted together (R390). -/
def State.rxPost (s : State) (f : RxHold) (discard : Bool) : State :=
  let ds := f.compls discard
  let s := { s with hif := { s.hif with rxHeld := replaceFirst (fun (g : RxHold) => g.ring == f.ring) (fun _ => []) s.hif.rxHeld } }
  if ds.isEmpty || !s.ringRuns f.ring then s else (s.pay 3 (10 * ds.length)).ringWrite f.ring ds

/-- The oldest frame of a receive completion ring takes buffers and completion slots while there are any, and is complete with its
last byte; then the next one (R389, R390). -/
def State.rxPump (s : State) (r : Nat) : Nat → State
  | 0 => s
  | k + 1 =>
    match s.hif.rxHeld.find? (fun (f : RxHold) => f.ring == r) with
    | none => s
    | some f =>
      if f.left = [] then State.rxPump (s.rxPost f false) r k
      else
        let n := s.get (HIF.RING_CFG_PAIR r)
        match nth s.hif.rxBufs n [] with
        | [] => s
        | b :: bs =>
          if !s.ringRuns n || !s.ringRoom r (f.used.length + 1) then s
          else if !s.ringBme n then (s.ringHalt n 3).inc HIF.DMA_ERR_CNT
          else
            let d := f.left.take b.len
            let s := s.emit (.hostWrite b.addr d)
            let s := s.put (HIF.RING_CONS n) (s.get (HIF.RING_CONS n) + 1)
            let g : RxHold := { f with left := f.left.drop b.len, used := f.used ++ [(b.cookie, d.length)], stall := 0 }
            State.rxPump { s with
              hif := { s.hif with
                rxBufs := setNth s.hif.rxBufs n bs
                rxHeld := replaceFirst (fun (x : RxHold) => x.ring == r) (fun _ => [g]) s.hif.rxHeld } } r k

/-- Frames go on filling on a receive completion ring as buffers are posted. -/
def State.rxFill (s : State) (r : Nat) : State :=
  s.rxPump r ((nth s.hif.rxBufs (s.get (HIF.RING_CFG_PAIR r)) []).length + s.hif.rxHeld.length + 1)

/-- The transport datagram of a frame: whether it is IPv6, whether an IPv4 header's checksum is good, source, destination, protocol
(256 for a fragment), the datagram. -/
structure L4In where
  v6 : Bool
  ok : Bool
  src : List Byte
  dst : List Byte
  proto : Nat
  dat : List Byte
  deriving DecidableEq, Repr

/-- The transport datagram of a frame that carries an IP packet. -/
def l4Of (e : EthIn) : Option L4In :=
  let b := e.payload
  if e.etype = 0x0800 ∧ beAt b 0 1 / 16 = 4 then
    let h := 4 * (beAt b 0 1 % 16)
    some ⟨false, csum16 (b.take h) == 0, cut b 12 4, cut b 16 4, if beAt b 6 2 % 0x4000 = 0 then beAt b 9 1 else 256, cut b h (beAt b 2 2 - h)⟩
  else if e.etype = 0x86DD ∧ beAt b 0 1 / 16 = 6 then
    some ⟨true, false, cut b 8 16, cut b 24 16, beAt b 6 1, cut b 40 (beAt b 4 2)⟩
  else none

/-- The checksum flags of a received frame (R255, Table 16-9). -/
def csumFlags (e : EthIn) : Nat :=
  match l4Of e with
  | none => 0
  | some i =>
    let good := csum16 (i.src ++ i.dst ++ beBytes 4 i.dat.length ++ beBytes 4 i.proto ++ i.dat) == 0
    let l4 := if i.proto = 6 then good else if i.proto = 17 then (if beAt i.dat 6 2 = 0 then Config.udpNoSum i.v6 else good) else false
    (if i.v6 then 2 else 1) + (if i.ok then 4 else 0) + (if i.proto = 6 then 8 else 0) + (if i.proto = 17 then 16 else 0) + (if l4 then 32 else 0)

/-- Bytes of frames in the receive holding area. -/
def State.rxHolding (s : State) : Nat := (s.hif.rxHeld.map (fun (f : RxHold) => f.left.length)).foldl (· + ·) 0

/-- A frame goes to the host on the receive completion ring whose PORT_MASK names its port (R389, R390), with further flags. -/
def State.toHost (s : State) (p : Nat) (r : RxFrame) (flags : Nat) : State :=
  match (s.ringsOf 10).find? (fun n => bitOf (s.get (HIF.RING_CFG_PORT_MASK n)) p) with
  | none => s.inc HIF.RX_NO_RING_CNT
  | some n =>
    if s.rxHolding ≠ 0 ∧ Config.rxHoldBytes < s.rxHolding + r.bytes.length then s.inc HIF.RX_HOLD_FULL_CNT
    else
      let e := ethParse r.bytes
      let f : RxHold := {
        ring := n, left := r.bytes, used := [], port := p, flags := flags + (if e.tci.isSome then 64 else 0), time := r.time % 2 ^ 64
        tci := e.tci.getD 0, csum := csumFlags e, rule := r.rule, len := r.bytes.length, stall := 0 }
      ({ s with hif := { s.hif with rxHeld := s.hif.rxHeld ++ [f] } }).rxFill n

/-- The stock of receiving the oldest frame of a kind for the host (Table 11-5). -/
def State.hostCost (s : State) (p : Nat) (ok : RxFrame → Bool) : Nat :=
  match (s.port p).rx.find? ok with
  | none => 0
  | some r => 150 + 8 * ((r.bytes.length + 63) / 64)

/-- HOST_FRAME_RX (R241 rule 9, R389). -/
def runHostFrameRx (p : Nat) (s : State) : State :=
  s.takeRx p (isRule 9) 3 (s.hostCost p (isRule 9)) (.hostFrameRx p) (fun r s => s.toHost p r 0)

/-- The EEE TLV of an LLDP frame (R251, IEEE 802.3 clause 79): Transmit Tw and Receive Tw. -/
def eeeTlv (b : List Byte) : Nat → Option (Nat × Nat)
  | 0 => none
  | k + 1 =>
    if b.length < 2 ∨ beAt b 0 2 / 512 = 0 then none
    else
      let n := beAt b 0 2 % 512
      if beAt b 0 2 / 512 = 127 ∧ 8 ≤ n ∧ n + 2 ≤ b.length ∧ beAt b 2 4 = 0x00120F05 then some (beAt b 6 2, beAt b 8 2)
      else eeeTlv (b.drop (2 + n)) k

/-- LLDP_RX (R251): the partner's wake times are read, and the frame goes to the host as one of rule 8. -/
def runLldpRx (p : Nat) (s : State) : State :=
  s.takeRx p (isRule 8) 3 (s.hostCost p (isRule 8)) (.lldpRx p) (fun r s =>
    let b := (ethParse r.bytes).payload
    let s := match eeeTlv b b.length with
      | some t => s.puts [(MAC.EEE_PARTNER_TX_TW p, t.1), (MAC.EEE_PARTNER_RX_TW p, t.2)]
      | none => s
    s.toHost p r 0)

/-- MANAGEMENT_RX (R285): an accepted Management message goes to the host with PTP_MGMT and the result of the check. -/
def runManagementRx (p : Nat) (s : State) : State :=
  s.takeRx p (isPtp [0xD]) 1 300 (.managementRx p) (fun r s =>
    s.ptpChecked p (ptpParse r) (fun _ a s =>
      let auth := match a with
        | .good _ => 48
        | _ => 0
      ((s.pay 3 150).inc PTP.MGMT_FWD_CNT).toHost p r (8 + auth)))

/-- RX_STALL_TIMEOUT (R390): the oldest frame of a receive completion ring, stalled for RX_STALL_SHEETS edges, is dropped with DISCARD
on the buffers it has used, and the next one goes on. -/
def runRxStallTimeout (r : Nat) (s : State) : State :=
  match s.hif.rxHeld.find? (fun (f : RxHold) => f.ring == r) with
  | none => s
  | some f =>
    if f.stall < s.get HIF.HIF_CFG_RX_STALL_SHEETS then s
    else ((s.rxPost f true).inc HIF.RX_DISCARD_CNT).rxFill r

/-- A sheet edge counts for the oldest frame of each receive completion ring (R390). -/
def State.rxStalls (s : State) : State :=
  (List.range 64).foldl (fun s r =>
    { s with hif := { s.hif with
      rxHeld := replaceFirst (fun (f : RxHold) => f.ring == r) (fun f => [{ f with stall := f.stall + 1 }]) s.hif.rxHeld } }) s

/-! ### Doorbells and posting (R375, R376, R379, R380) -/

/-- The TYPE code of the descriptors of a host-written ring (Table 16-3). -/
def hostType (ty : Nat) : Nat := nth [0, 0x9, 0, 0, 0, 0, 0, 0x5, 0xC, 0xD] ty 0

/-- Whether bytes of a descriptor are all 0. -/
def zeroAt (d : List Byte) (off n : Nat) : Bool := ((d.drop off).take n).all (· == 0)

/-- Whether the reserved fields of a host-written descriptor are 0 (Tables 16-4, 5-6, 16-8, R389). -/
def reservedZero (ty : Nat) (d : List Byte) : Bool :=
  match ty with
  | 1 => decide (leAt d 4 1 < 8) && zeroAt d 5 3 && zeroAt d 30 1
  | 7 => decide (leAt d 19 1 < 16) && zeroAt d 28 3
  | 8 => decide (leAt d 14 1 < 64) && zeroAt d 15 1 && zeroAt d 24 7
  | _ => zeroAt d 10 2 && zeroAt d 16 15

/-- Whether a host-written descriptor is one of its ring: TYPE, phase and reserved fields as Table 16-2 asks (R374). `k` is the number of
descriptors written before it. -/
def State.descOk (s : State) (n k : Nat) (d : List Byte) : Bool :=
  let ty := s.get (HIF.RING_CFG_TYPE n)
  d.length == 32 && (leAt d 31 1 == hostType ty + if s.ringPhase n k then 0x80 else 0) && reservedZero ty d

/-- The steer entry that a descriptor spells (Table 5-6). -/
def steerOf (d : List Byte) : SteerEntry :=
  let f := fun (i : Nat) => bitOf (leAt d 19 1) i
  { sheet := leAt d 0 8, channel := leAt d 18 1
    code := if f 0 then some (leAt d 8 4) else none
    carr := if f 1 then some (toS 48 (leAt d 12 6)) else none
    codeAdj := if f 2 then some (toS 32 (leAt d 20 4)) else none
    carrAdj := if f 3 then some (toS 32 (leAt d 24 4)) else none }

/-- A receive buffer is posted (R389); one of a length the rule does not allow halts the ring as a bad field does. -/
def State.takeBuf (s : State) (n : Nat) (d : List Byte) : State :=
  let l := leAt d 8 2
  if l % 64 = 0 ∧ 256 ≤ l ∧ l ≤ 16384 then
    { s with hif := { s.hif with rxBufs := setNth s.hif.rxBufs n (nth s.hif.rxBufs n [] ++ [RxBuf.mk (leAt d 0 8) l (leAt d 12 4)]) } }
  else s.ringHalt n 2

/-- Whether the host writes a ring of a type (Table 16-3). -/
def hostWrites (ty : Nat) : Bool := ty == 1 || ty == 7 || ty == 8 || ty == 9

/-- Completions that wait go out on their rings in order, those whose ring has no room wait on (R379). -/
def State.postCompls (s : State) : State :=
  s.hif.compl.foldl (fun s c =>
    let n := s.get (HIF.RING_CFG_PAIR c.ring)
    if s.ringRoom n 1 && !s.hif.compl.any (fun d => s.get (HIF.RING_CFG_PAIR d.ring) == n) then
      if c.opcode = 0x0FFF then s.ringWrite n [.completion c] else s.postCompl c
    else { s with hif := { s.hif with compl := s.hif.compl ++ [c] } })
    { s with hif := { s.hif with compl := [] } }

/-- Marks that wait go out in order while class 3 can pay (R41, R391). -/
def State.postMarks (s : State) : State :=
  s.hif.marks.foldl (fun s m => s.postMark m.ev) { s with hif := { s.hif with marks := [] } }

/-- Every staged event goes out that the event ring has room for (R379). -/
def State.drainEvents (s : State) : State := (List.range s.hif.events.length).foldl (fun s _ => s.drainEvent) s.flushDue

/-- STAGED_ENTRY_POST (R90, R119, R379): entries that wait for room on their rings are posted, oldest first. -/
def runStagedEntryPost (s : State) : State :=
  let s := s.postCompls.drainEvents
  let s := s.drainMeas s.tdc.staged.length
  let s := (s.drainObs s.gnss.staged.length).reamPost
  (s.ringsOf 10).foldl (fun s r => s.rxFill r) s

/-- RING_TIME_US_EXPIRE (R380): TIME_US microseconds have passed since the first entry not yet signalled. -/
def runRingTimeUsExpire (n : Nat) (s : State) : State :=
  if 63 < n ∨ s.get (HIF.RING_MOD_TIME_US n) = 0 ∨ (nth s.hif.rings n {}).unsignalled = 0 then s
  else if s.reaches ((nth s.hif.rings n {}).firstTime + (s.get (HIF.RING_MOD_TIME_US n) * 65536000 : Nat)) then s.ringFire n else s

/-! ### Transmit (R245, R254, R255, R388) -/

/-- Bytes with some of them replaced from an offset. -/
def splice (b : List Byte) (at_ : Nat) (x : List Byte) : List Byte := b.take at_ ++ x ++ b.drop (at_ + x.length)

/-- Where the packet of a frame begins. -/
def l3At (b : List Byte) : Nat := if beAt b 12 2 = 0x8100 then 18 else 14

/-- The IPv4 header checksum of a frame is inserted. -/
def ipSum (b : List Byte) : List Byte :=
  let e := ethParse b
  if e.etype = 0x0800 then
    let o := l3At b
    let b := splice b (o + 10) (beBytes 2 0)
    splice b (o + 10) (beBytes 2 (csum16 (cut b o (4 * (beAt b o 1 % 16)))))
  else b

/-- The UDP or TCP checksum of a frame is inserted. -/
def l4SumIn (b : List Byte) : List Byte :=
  match l4Of (ethParse b) with
  | none => b
  | some i =>
    let o := l3At b + (if i.v6 then 40 else 4 * (beAt b (l3At b) 1 % 16))
    let at_ := if i.proto = 17 then 6 else 16
    if i.proto = 6 ∨ i.proto = 17 then splice b o (l4Sum i.proto at_ i.src i.dst (splice i.dat at_ (beBytes 2 0))) else b

/-- Where the TCP header of a header template begins, if R254 takes the template: IPv4 without options or IPv6 without extension
headers, TCP, and nothing after the TCP header. -/
def tcpAt (h : List Byte) : Option Nat :=
  let e := ethParse h
  let o := l3At h
  let t := if e.etype = 0x0800 ∧ plainV4 e.payload = true ∧ beAt e.payload 9 1 = 6 then some (o + 20)
    else if e.etype = 0x86DD ∧ beAt e.payload 0 1 / 16 = 6 ∧ beAt e.payload 6 1 = 6 then some (o + 40) else none
  t.filter (fun t => decide (5 ≤ beAt h (t + 12) 1 / 16) && h.length == t + 4 * (beAt h (t + 12) 1 / 16))

/-- A segment (R254): its index, whether it is the last, the payload's offset, its part of the payload. -/
def segment (h : List Byte) (t i : Nat) (last : Bool) (off : Nat) (c : List Byte) : List Byte :=
  let o := l3At h
  let n := h.length - o + c.length
  let v4 := (ethParse h).etype == 0x0800
  let h := if v4 then splice (splice h (o + 2) (beBytes 2 n)) (o + 4) (beBytes 2 (beAt h (o + 4) 2 + i)) else splice h (o + 4) (beBytes 2 (n - 40))
  let f := beAt h (t + 13) 1
  let f := if last then f else putBit (putBit f 0 false) 3 false
  let f := if i = 0 then f else putBit f 7 false
  let h := splice (splice h (t + 4) (beBytes 4 (beAt h (t + 4) 4 + off))) (t + 13) (beBytes 1 f)
  l4SumIn (ipSum (h ++ c))

/-- The segments of a payload. -/
def segments (h : List Byte) (t mss : Nat) (b : List Byte) : List (List Byte) :=
  let cs := if b = [] then [[]] else piecesOf mss (b.length / mss + 1) b
  cs.zipIdx.map (fun (c : List Byte × Nat) => segment h t c.2 (c.2 + 1 == cs.length) (c.2 * mss) c.1)

/-- The frames of a host send, or none when its descriptors or its template are bad (R254, R255, R388). -/
def State.txFrames (s : State) (t : TxIn) : Option (List (List Byte)) :=
  let top := s.get (MAC.PORT_CFG_MAX_FRAME t.port)
  if bitOf t.flags 4 then
    let h := t.bytes.take t.hdrLen
    let b := t.bytes.drop t.hdrLen
    match tcpAt h with
    | none => none
    | some at_ =>
      if t.mss < 88 ∨ 9000 < t.mss ∨ 262144 < b.length ∨ top < h.length + min t.mss b.length + 4 then none
      else some (segments h at_ t.mss b)
  else if top < t.bytes.length + 4 then none
  else
    let b := if bitOf t.flags 3 then l4SumIn t.bytes else t.bytes
    some [if bitOf t.flags 2 then ipSum b else b]

/-- The stock of a host send (Table 11-5). -/
def txStock (t : TxIn) : Nat :=
  200 + 8 * ((t.bytes.length + 63) / 64) + (if bitOf t.flags 4 then 120 * max 1 ((t.bytes.length - t.hdrLen + max 1 t.mss - 1) / max 1 t.mss) else 0)

/-- The traffic class of a host send (R245, Table 16-8). -/
def State.txClass (s : State) (t : TxIn) : Nat :=
  if bitOf t.flags 5 then
    let pcp := match (ethParse t.bytes).tci with
      | some c => c / 8192
      | none => Config.untaggedPcp % 8
    bits (s.get (MAC.TC_MAP t.port)) (3 * pcp) 3
  else t.tc % 8

/-- TX_FRAME (R245, R254, R255, R388): a host frame is read whole and waits for the wire, or its TX_DONE says why not. -/
def runTxFrame (t : TxIn) (s : State) : State :=
  if !s.ringRuns t.ring || s.get (HIF.RING_CFG_TYPE t.ring) != 8 then s
  else if !s.ringBme t.ring then (s.ringHalt t.ring 3).inc HIF.DMA_ERR_CNT
  else s.tryPay 3 (txStock t) (.txFrame t) 0 (fun s =>
    let s := s.put (HIF.RING_CONS t.ring) (s.get (HIF.RING_CONS t.ring) + t.descs)
    let d : TxDone := ⟨t.ring, t.index, t.cookie⟩
    if 64 < t.descs ∨ bitOf (s.get (HIF.RING_CFG_PORT_MASK t.ring)) t.port = false ∨ 7 < t.port then s.txDone d stINVALID
    else if !t.dmaOk then (s.inc HIF.DMA_ERR_CNT).txDone d stDMA
    else
      match s.txFrames t with
      | none => s.txDone d stINVALID
      | some fs =>
        if s.get (MAC.PORT_CFG_RATE t.port) = 3 ∨ s.get (MAC.PORT_STATUS_LINK t.port) ≠ 2 then s.txDone d stDISCARDED
        else
          let tc := s.txClass t
          fs.zipIdx.foldl (fun s (f : List Byte × Nat) => s.queueTx t.port {
            tc := tc, engine := false, bytes := f.1, done := if f.2 + 1 = fs.length then some d else none }) s)

/-- The frame that transmit descriptors give (Table 16-8): PORT, TC, FLAGS and the segmentation of the first, COOKIE of the last, the
bytes of all. `k` counts the descriptors written before the last. -/
def State.txOf (s : State) (n k : Nat) (l : List (List Byte × DmaIn)) : TxIn :=
  let d := (l.headD ([], {})).1
  { ring := n, index := k % s.ringSize n, descs := l.length, port := leAt d 12 1, tc := leAt d 13 1, flags := leAt d 14 1, mss := leAt d 16 2
    hdrLen := leAt d 18 2, cookie := leAt (l.getLastD ([], {})).1 20 4
    bytes := l.flatMap (fun (p : List Byte × DmaIn) => p.2.bytes.take (leAt p.1 8 4))
    dmaOk := l.all (fun (p : List Byte × DmaIn) => p.2.ok && decide (leAt p.1 8 4 ≤ p.2.bytes.length)) }

/-- A transmit descriptor is read (R388): the frame is whole with the descriptor that has EOF. -/
def State.takeTx (s : State) (n k : Nat) (d : List Byte) (data : DmaIn) : State :=
  let l := nth s.hif.txParts n [] ++ [(d, data)]
  let eof := bitOf (leAt d 14 1) 1
  let s := { s with hif := { s.hif with txParts := setNth s.hif.txParts n (if eof then [] else l) } }
  if eof then runTxFrame (s.txOf n k l) s else s

/-- PCIE_PERST (R481): the endpoint is reset, its link and configuration space with it, and every ring is disabled. -/
def runPciePerst (s : State) : State :=
  let s := s.seePcie ⟨false, 0, 0, false, false, false, List.range 64⟩
  (List.range 64).foldl State.ringOff s

end Sys2Proof.Machine
end

