-- ==== Sys2Proof/Machine/Irq.lean ====
section
/-! DEFINITION. Interrupt sources and vectors (chapter 18). -/

namespace Sys2Proof.Machine

/-! ### Claims (R421 to R423) -/

/-- Whether one eligible source goes before another: lower GROUP, then lower SUB, then lower number (R421). -/
def State.before (s : State) (x y : Nat) : Bool :=
  let k := fun (n : Nat) => s.get (IRQ.SRC_CFG_GROUP n) * 2 ^ 16 + s.get (IRQ.SRC_CFG_SUB n) * 2 ^ 10 + n
  decide (k x < k y)

/-- The source that a claim on a vector returns (R421). -/
def State.topSource (s : State) (v : Nat) : Option Nat :=
  (s.eligible v).foldl (fun m x => match m with
    | none => some x
    | some y => if s.before x y then some x else some y) none

/-- Whether each claim on a vector completes at once (R423): AUTO, and every vector of PF1. -/
def State.autoVec (s : State) (v : Nat) : Bool := s.flag (IRQ.VEC_CFG_AUTO v) || (v != 64 && s.flag (IRQ.VEC_CFG_FN v))

/-- The claims outstanding on a vector are replaced. -/
def State.setClaims (s : State) (v : Nat) (l : List Claim) : State := { s with irq := { s.irq with claims := setNth s.irq.claims v l } }

/-- VEC_CLAIM (R421): a read claims the eligible source that goes first, or returns 0 and is counted. -/
def runVecClaim (v : Nat) (s : State) : State :=
  if 64 < v then s
  else
    let s := s.pay 3 10
    match s.topSource v with
    | none => (s.puts [(IRQ.VEC_CLAIM_SOURCE v, 0), (IRQ.VEC_CLAIM_VALID v, 0)]).inc IRQ.SPURIOUS_CNT
    | some x =>
      let s := (s.inc IRQ.CLAIM_CNT).puts [(IRQ.VEC_CLAIM_SOURCE v, x), (IRQ.VEC_CLAIM_VALID v, 1)]
      let s := if s.autoVec v then
          (if levelSource x then { s with irq := { s.irq with autoHeld := x :: s.irq.autoHeld } } else s)
        else (s.putB (IRQ.SRC_CFG_CLAIMED x) true).setClaims v (nth s.irq.claims v [] ++ [Claim.mk x (s.get (IRQ.SRC_CFG_GROUP x))])
      let s := if levelSource x then s else s.setPending x false
      s.vecRefresh v true

/-- The BAR0 offset of SRC_CFG. -/
def srcCfg (x : Nat) : Nat := 0x201000 + 4 * x

/-- Writes of VECTOR, GROUP and SUB that waited for the completion of a source take effect (R416). -/
def State.applySrc (s : State) (x : Nat) : State :=
  let mine := s.irq.cfgDue.filter (fun (w : DueWrite) => w.addr == srcCfg x)
  let s := { s with irq := { s.irq with cfgDue := s.irq.cfgDue.filter (fun (w : DueWrite) => w.addr != srcCfg x) } }
  mine.foldl (fun s (w : DueWrite) =>
    let old := s.readReg w.addr
    let s := s.put w.fld w.value
    s.journalWrite w.origin w.addr old (s.readReg w.addr)) s

/-- VEC_COMPLETE (R422): ends the claim of a source on a vector, or is counted. -/
def runVecComplete (o : Origin) (v n : Nat) (s : State) : State :=
  if 64 < v then s
  else s.busTouch o (fun s =>
    let x := n % 512
    let s := s.pay 3 10
    let l := nth s.irq.claims v []
    if l.any (fun (c : Claim) => c.source == x) then
      let was := s.vecOf x
      let s := ((s.putB (IRQ.SRC_CFG_CLAIMED x) false).setClaims v (l.filter (fun (c : Claim) => c.source != x))).applySrc x
      let s := s.vecRefresh v true
      if s.vecOf x = was then s else s.vecRefresh (s.vecOf x) false
    else s.inc IRQ.COMPLETE_BAD_CNT)

/-! ### Messages held by masking (R420) -/

/-- MSIX_UNMASK (R420): the vector's message may go; a held one goes now. -/
def runMsixUnmask (v : Nat) (s : State) : State :=
  if 63 < v then s
  else
    let s := { s with irq := { s.irq with masked := s.irq.masked.filter (· != v) } }
    if s.flag (IRQ.VEC_STAT_PBA v) then (s.putB (IRQ.VEC_STAT_PBA v) false).sendMsg v else s

/-! ### Configuration of sources and vectors (R416, R417, R424) -/

/-- A write to SRC_CFG: VECTOR of ring sources and of source 304 and EN of source 304 are not written, FORCE of an edge source reads back
as 0, and VECTOR, GROUP and SUB of a claimed source wait for its completion (R416, R417). -/
def State.srcWrite (s : State) (o : Origin) (x v : Nat) : State :=
  let a := srcCfg x
  let old := s.readReg a
  let fixed := decide (x < 64) || x == 304
  let claimed := s.flag (IRQ.SRC_CFG_CLAIMED x)
  let w := if fixed || claimed then putBits v 0 7 (bits old 0 7) else v
  let w := if claimed then putBits w 7 8 (bits old 7 8) else w
  let w := if x = 304 then putBits w 15 1 (bits old 15 1) else w
  let force := bitOf v 17
  let w := if levelSource x then w else putBit w 17 false
  s.busStore o a w true true (fun s =>
    let due := (if fixed || 64 < bits v 0 7 then [] else [DueWrite.mk a (IRQ.SRC_CFG_VECTOR x) (bits v 0 7) o]) ++
      [DueWrite.mk a (IRQ.SRC_CFG_GROUP x) (bits v 7 4) o, DueWrite.mk a (IRQ.SRC_CFG_SUB x) (bits v 11 4) o]
    let s := if claimed then
        { s with irq := { s.irq with cfgDue := s.irq.cfgDue.filter (fun (d : DueWrite) => d.addr != a) ++ due } }
      else s
    let s := if reservedSource x then s
      else if levelSource x then s.irqLevel x (s.flag (IRQ.SRC_CFG_RAW x))
      else if force then ((s.charge0 60).journal o 0 a old v 0).irqEdge x else s
    let was := if fixed then s.vecOf x else bits old 0 7
    (s.vecRefresh was false).vecRefresh (s.vecOf x) false)

/-- SRC_FORCE (R417): a write of FORCE, as part of a write to SRC_CFG. -/
def runSrcForce (o : Origin) (x v : Nat) (s : State) : State := if 511 < x then s else s.srcWrite o x v

/-- A write to VEC_CFG: FN and AUTO change only while EN is 0 and no claim is outstanding on the vector (R424). -/
def State.vecWrite (s : State) (o : Origin) (v w : Nat) : State :=
  let a := 0x200100 + 0x10 * v
  let keep := s.flag (IRQ.VEC_CFG_EN v) || !(nth s.irq.claims v []).isEmpty
  s.busStore o a (if keep then putBits w 1 2 (bits (s.readReg a) 1 2) else w) true true (fun s => s.vecRefresh v false)

end Sys2Proof.Machine
end

