-- ==== Sys2Proof/Machine/Flt.lean ====
section
/-! DEFINITION. Faults and escalation (chapter 18). -/

namespace Sys2Proof.Machine

/-! ### Masks of faults -/

/-- Bit `f` of a register of four words, fault f at bit f mod 32 of word f div 32. -/
def State.fbit (s : State) (r : Nat → Fld) (f : Nat) : Bool := bitOf (s.get (r (f / 32))) (f % 32)

/-- The state after a bit of such a register is set or cleared. -/
def State.setFbit (s : State) (r : Nat → Fld) (f : Nat) (b : Bool) : State := s.put (r (f / 32)) (putBit (s.get (r (f / 32))) (f % 32) b)

/-! ### Acknowledging, forcing and breaking (R426, R428, R429) -/

/-- FLT_ACK (R429): bits written 1 acknowledge faults that are active; bit 6 also ends the condition of KEY_CRYPTO. -/
def runFltAck (o : Origin) (w v : Nat) (s : State) : State :=
  if 3 < w then s
  else s.busTouch o (fun s =>
    let s := s.put (FLT.FLT_ACKED w) (s.get (FLT.FLT_ACKED w) ||| (v % 2 ^ 32 &&& s.get (FLT.FLT_ACTIVE w)))
    if w = 0 ∧ bitOf v 6 = true then { s with flt := { s.flt with keyMismatch := false } } else s)

/-- A write to a force register, journaled whatever it changes (R428). -/
def State.forceWrite (s : State) (o : Origin) (a v : Nat) : State :=
  let old := s.readReg a
  s.busStore o a v true true (fun s => if old = s.readReg a then (s.charge0 60).journal o 0 a old v 0 else s)

/-- FLT_FORCE_ACT (R428). -/
def runFltForceAct (o : Origin) (w v : Nat) (s : State) : State := if 3 < w then s else s.forceWrite o (0x210060 + 4 * w) v

/-- FLT_FORCE_WIRE (R428). -/
def runFltForceWire (o : Origin) (w v : Nat) (s : State) : State := if 3 < w then s else s.forceWrite o (0x210070 + 4 * w) v

/-- FAULT_WIRE_BREAK (R426): the rails of a pair have been equal for 4 cycles, or are opposite again. -/
def runFaultWireBreak (pair : Nat) (equal : Bool) (s : State) : State :=
  if pair = 0 ∨ 127 < pair then s else { s with flt := { s.flt with broken := putBit s.flt.broken pair equal } }

/-- TEMP_HIGH (R493): the on-die sensor, in units of 1/16 °C, is above 115 °C, or below 110 °C again. -/
def runTempHigh (t : Int) (s : State) : State :=
  { s with flt := { s.flt with tempHigh := decide (115 * 16 < t) || (s.flt.tempHigh && decide (110 * 16 ≤ t)) } }

/-- Whether all four rails, in mV, lie inside the monitor windows of Table 22-5: VDD_CORE, VDD_VAT, VDD_PHY, VDDA_1V2. -/
def railsIn (rails : List Nat) : Bool :=
  [(700, 810), (760, 850), (800, 910), (1130, 1280)].zipIdx.all (fun (p : (Nat × Nat) × Nat) =>
    decide (p.1.1 ≤ nth rails p.2 0) && decide (nth rails p.2 0 ≤ p.1.2))

/-- SUPPLY (R493): for `us` microseconds the rails have stood as they do: a rail outside its window for 2 µs, or all inside for 100 µs. -/
def runSupply (rails : List Nat) (us : Nat) (s : State) : State :=
  let bad := if railsIn rails then s.flt.supply && decide (us < 100) else s.flt.supply || decide (2 ≤ us)
  { s with flt := { s.flt with supply := bad } }

/-! ### Escalation (R429 to R432, Table 18-4) -/

/-- Whether a fault presses: active, unacknowledged, its ESC above the stage (R429). -/
def State.presses (s : State) (f : Nat) : Bool :=
  s.fbit FLT.FLT_ACTIVE f && !s.fbit FLT.FLT_ACKED f && decide (s.get FLT.FLT_STATUS_STAGE < s.get (FLT.FLT_CFG f))

/-- Whether any fault presses. -/
def State.pressing (s : State) : Bool := (List.range 24).any s.presses

/-- The stage changes: counted, posted and journaled (R430). -/
def State.setStage (s : State) (n : Nat) : State :=
  let old := s.get FLT.FLT_STATUS_STAGE
  ((((s.put FLT.FLT_STATUS_STAGE n).inc FLT.ESC_CNT).eventIn 0x0E02 0 n).journal .auto 3 0 old n 0x0E02)

/-- REACTION_TIMER_EXPIRE (R430, Table 18-4): the stage advances by one with its action, and the timer restarts at STAGE_US. -/
def runReactionTimerExpire (s : State) : State :=
  if !s.flag FLT.FLT_STATUS_TIMER_RUN || !s.pressing then s
  else
    let n := s.get FLT.FLT_STATUS_STAGE
    let s := { s.setStage (n + 1) with flt := { s.flt with timerUs := s.get FLT.STAGE_US } }
    if n = 0 then
      let a := REFSEL.REF_OVERRIDE_LOCKOUT.key / 32
      let s := s.put FLT.ESC_LOCKOUT_PREV (s.getT REFSEL.REF_OVERRIDE_LOCKOUT)
      s.autoWrite a (fun s => s.putT REFSEL.REF_OVERRIDE_LOCKOUT 0xFFFF)
    else if n = 1 then { s with flt := { s.flt with squelch := true, squelchLift := false, handover := s.flag COUCH.PAIR_CFG_FAULT_HANDOVER } }
    else ({ s with flt := { s.flt with pulseAt := s.mono } }.puts [(FLT.FLT_STATUS_FAULT_N, 1), (FLT.FLT_STATUS_PULSE, 1)]).inc FLT.FAULTN_CNT

/-- FAULT_N_PULSE_END (R432): FAULT_N is released unless HOLD is 1. -/
def runFaultNPulseEnd (s : State) : State :=
  if s.reaches (s.flt.pulseAt + (s.get FLT.FAULTN_CFG_PULSE_US * 65536000 : Nat)) = false then s
  else s.puts [(FLT.FLT_STATUS_PULSE, 0), (FLT.FLT_STATUS_FAULT_N, s.get FLT.FAULTN_CFG_HOLD)]

/-- FLT_ESC_CLEAR (R430, R450): a write of 1 under the unlock returns the stage to NONE, unless an active fault with ESC of 1 or more
is unacknowledged. -/
def runFltEscClear (o : Origin) (v : Nat) (s : State) : State :=
  if o = .pf1 then s.inc HIF.PF1_WRITE_DENY_CNT
  else
    let u := s.useUnlock o
    let s := u.2
    if !u.1 then s.refuseWrite o 0x210010 v
    else if !bitOf v 0 || s.get FLT.FLT_STATUS_STAGE = 0 then s
    else if (List.range 24).any (fun f => s.fbit FLT.FLT_ACTIVE f && !s.fbit FLT.FLT_ACKED f && s.get (FLT.FLT_CFG f) != 0) then
      s.inc FLT.ESC_CLEAR_REFUSE_CNT
    else { s.setStage 0 with flt := { s.flt with squelchLift := s.flt.squelch, handover := false } }

end Sys2Proof.Machine
end

