-- ==== Sys2Proof/Machine/Keep.lean ====
section
/-! DEFINITION. The current ledger and the keep-alive domain (chapter 19). -/

namespace Sys2Proof.Machine

/-! ### The ledger (R436 to R442) -/

/-- The ceiling in force in units of 0.1 A (R436). -/
def State.ceiling (s : State) : Nat :=
  if s.flag LEDGER.LEDGER_STATUS_EMERG then min (s.getT LEDGER.CEILING) (s.getT LEDGER.EMERG_CEILING) else s.getT LEDGER.CEILING

/-- Floors taken in class order from a pool (R438). -/
def takeFloors : Nat → List Nat → List Nat × Nat
  | p, [] => ([], p)
  | p, f :: fs =>
    let r := takeFloors (p - f) fs
    (min f p :: r.1, r.2)

/-- The sheet that ended is closed, and the budget of the next one is divided (R438). The power warning's exit takes effect first (R442). -/
def State.grant (s : State) : State :=
  let l := s.ledger
  let s := (List.range 5).foldl (fun s c => (s.put (LEDGER.USED c) (min (nth l.drawn c 0) (2 ^ 32 - 1))).pmu 0x0C c (nth l.drawn c 0 / 1000)) s
  let s := s.putB LEDGER.LEDGER_STATUS_RESERVE_OVER l.beyondReserve
  let s := if l.exitDue && s.flag LEDGER.LEDGER_STATUS_EMERG then
      ((s.putB LEDGER.LEDGER_STATUS_EMERG false).eventIn 0x0F01 0 0).journal .auto 3 0 1 0 0x0F01
    else s
  let b := s.ceiling * 125000
  let reserve := s.get LEDGER.RESERVE
  let p := b - reserve
  let thin := s.flag LEDGER.LEDGER_STATUS_THIN
  let g := takeFloors p (if thin then [p, 0, 0, 0] else (List.range 4).map (fun c => s.get (LEDGER.FLOOR (c + 1))))
  let s := s.puts [(LEDGER.BUDGET, b), (LEDGER.SHARED_LEFT, g.2)]
  ({ s with ledger := { floors := g.1, reserve := reserve, overLast := l.beyondBudget, highAt := l.highAt } }).charge0 50

/-- Class 0 has drawn beyond RESERVE for the first time in a sheet (R440). -/
def State.reserveOver (s : State) : State :=
  if s.ledger.beyondReserve && !s.ledger.overSeen then
    let s := { s with ledger := { s.ledger with overSeen := true } }
    ((s.putB LEDGER.LEDGER_STATUS_RESERVE_OVER true).inc LEDGER.RESERVE_OVER_CNT).eventIn 0x0F02 0 0
  else s

/-- The emergency begins, unless it lasts or WARN_EN is 0 (R442). -/
def State.warnEnter (s : State) : State :=
  if !s.flag LEDGER.WARN_CFG_WARN_EN || s.flag LEDGER.LEDGER_STATUS_EMERG then s
  else
    let s := { s with ledger := { s.ledger with warnStop := true } }
    (((s.putB LEDGER.LEDGER_STATUS_EMERG true).inc LEDGER.EMERG_CNT).eventIn 0x0F01 0 1).journal .auto 3 0 0 1 0x0F01

/-- PWR_WARN (R442): the pin has been low for 1 µs, or rises; low with WARN_EN 1 it begins the emergency, and a fall during the wait
after a rise restarts that wait. -/
def runPwrWarn (low : Bool) (s : State) : State :=
  let rises := !low && !s.flag LEDGER.LEDGER_STATUS_WARN_PIN
  let s := s.putB LEDGER.LEDGER_STATUS_WARN_PIN (!low)
  if !low then { s with ledger := { s.ledger with highAt := if rises then s.mono else s.ledger.highAt } }
  else
    { s with ledger := { s.ledger with exitDue := false } }.warnEnter

/-- EMERG_EXIT (R442): the pin has been high for WARN_HOLD_MS; EMERG clears at the next edge. -/
def runEmergExit (s : State) : State :=
  if s.flag LEDGER.LEDGER_STATUS_EMERG && s.flag LEDGER.LEDGER_STATUS_WARN_PIN &&
      s.reaches (s.ledger.highAt + (s.get LEDGER.WARN_CFG_WARN_HOLD_MS * 65536000000 : Nat)) then { s with ledger := { s.ledger with exitDue := true } } else s

/-! ### The keep-alive domain (R418, R444 to R446, R448) -/

/-- KA_LATCH_EDGE (R418): a latch captures an edge: the count of the first, and how many. -/
def runKaLatchEdge (i ka : Nat) (s : State) : State :=
  let l := nth s.keep.latches i {}
  let l : KaLatch := if l.edges = 0 then { time := ka % 2 ^ 48, edges := 1 } else { l with edges := min 255 (l.edges + 1) }
  { s with keep := { s.keep with latches := setNth s.keep.latches i l } }

/-- KA_LATCH_TRANSFER (R418, R448): a set latch becomes one pending edge of source 288 + i, and is cleared. -/
def runKaLatchTransfer (i : Nat) (s : State) : State :=
  let l := nth s.keep.latches i {}
  if s.inReset || l.edges == 0 then s
  else
    let s := (s.charge0 40).puts [(KEEP.LATCH_TIME i, l.time), (KEEP.LATCH_STAT_EDGES i, l.edges), (KEEP.LATCH_STAT_SET i, 1)]
    ({ s with keep := { s.keep with latches := setNth s.keep.latches i {} } }).irqEdge (288 + i)

/-- Registers of the KEEP block (Table 19-5). -/
def isKeep (k : Nat) : Bool := decide (32 * 0x260000 ≤ k)

/-- The alignment pair and KA_FREQ read 0 while there has been no alignment since VKEEP was applied (R65). -/
def State.noAlign (s : State) : State := s.puts [(TIME.KA_ALIGN_CNT, 0), (TIME.KA_ALIGN_TIME, 0), (TIME.KA_FREQ, 0)]

/-- VKEEP_LOSS (R444): VKEEP is below 2.2 V; what the domain kept is lost, which it reports at the next start-up. -/
def runVkeepLoss (s : State) : State :=
  { s.putB KEEP.KEEP_STATUS_VKEEP_LOW true with
    keep := { lost := true, present := false }
    time := { s.time with kaCopy := none, kaFreqCopy := 0, kaWinStart := none } }.noAlign

/-- VKEEP_RISE (R444, R445): VKEEP is present again; the registers of the domain take their reset values and the counter starts from 0.
`low` says that it is still below 2.7 V. -/
def runVkeepRise (low : Bool) (s : State) : State :=
  let s := { s with regs := s.regs.filter (fun p => !isKeep p.1), keep := { s.keep with latches := List.replicate 16 {}, present := true } }
  let s := { s with glb := { s.glb with posted := s.glb.posted.filter (fun (w : PostedWrite) => decide (w.addr < 0x260000)) } }
  (s.noAlign.putB KEEP.KEEP_STATUS_VKEEP_LOW low)

/-- Whether a tamper pin is active: enabled, and at its level for FILT keep-alive periods, at once when FILT is 0 (R446). -/
def State.tampPin (s : State) (i : Nat) (p : Bool × Nat) : Bool :=
  bitOf (s.get KEEP.TAMP_CFG_EN) i && (p.1 == bitOf (s.get KEEP.TAMP_CFG_POL) i) && decide (s.get KEEP.TAMP_CFG_FILT ≤ p.2)

/-- The enabled tamper triggers that fire, numbered as the bits of TAMPER_CAUSE: the pins, voltage, clock and temperature (R446).
TEMP_HIGH is read unsigned, since its reset of 130 is no signed byte (DEDUCED). -/
def State.tamperArmed (s : State) (p : TampIn) : Nat :=
  let pins := (List.range 4).map (fun i => s.tampPin i (nth p.pins i (!bitOf (s.get KEEP.TAMP_CFG_POL) i, 0)))
  let volt := s.flag KEEP.TAMP_CFG_MON_VOLT && (decide (p.vkeepMv < 2300) || decide (900 < p.coreMv) ||
    (s.flag KEEP.TAMP_CFG_CORE_UV && decide (p.coreMv < 650) && !s.inReset))
  let clock := s.flag KEEP.TAMP_CFG_MON_CLOCK && (decide (4000 < p.xtalUs) || decide (1200000 < p.coreKHz))
  let temp := s.flag KEEP.TAMP_CFG_MON_TEMP &&
    (decide (p.tempC < s.geti KEEP.TEMP_LIMITS_TEMP_LOW) || decide ((s.get KEEP.TEMP_LIMITS_TEMP_HIGH : Int) < p.tempC))
  maskOf ((pins ++ [volt, clock, temp]).zipIdx.filterMap (fun p => if p.1 then some p.2 else none))

/-- An entry that carries the keep-alive count (R330, R457); before sheet 0 it waits. -/
def State.journalKa (s : State) (o : Origin) (kind addr old new ka : Nat) : State :=
  let e : ReamEntry := ⟨0, true, ka % 2 ^ 48, 2 ^ 64 - 1, o, kind, addr, old, new, 0⟩
  if s.running then s.reamWrite e else { s with ream := { s.ream with early := s.ream.early ++ [e] } }

/-- TAMPER_TRIGGER (R330, R331, R446): an enabled trigger zeroises the key store; the cause and the keep-alive count are journaled.
With no trigger firing, nothing happens but that none is active any more. -/
def runTamperTrigger (p : TampIn) (ka : Nat) (s : State) : State :=
  let c := s.tamperArmed p
  let s := { s with key := { s.key with trigger := c != 0 } }
  if c = 0 then s
  else
    let s := s.zeroise
    let s := { s with nts := { s.nts with gens := s.nts.gens.map (fun (g : NtsGen) => { g with nonceKey := none }) } }
    let s := s.puts [(KEY.TAMPER_CAUSE_PINS, c % 16), (KEY.TAMPER_CAUSE_VOLT, bits c 4 1), (KEY.TAMPER_CAUSE_CLOCK, bits c 5 1),
      (KEY.TAMPER_CAUSE_TEMP, bits c 6 1)]
    let s := if s.running then s
      else { s with ream := { s.ream with
        early := s.ream.early.map (fun (e : ReamEntry) =>
          if e.origin = Origin.tamper ∧ e.kaTime = false then { e with kaTime := true, time := ka % 2 ^ 48, sheet := 2 ^ 64 - 1 } else e) } }
    s.journalKa .tamper 7 0 c 0 ka

end Sys2Proof.Machine
end

