-- ==== Sys2Proof/Machine/Commands.lean ====
section
/-! DEFINITION. Commands of the host interface itself (chapter 16). -/

namespace Sys2Proof.Machine

/-! ### Sticky status bits (R6, R387) -/

/-- The sticky status bits at a BAR0 offset, and those of them that STATUS_CLEAR clears: KEY_STATUS.TAMPER is cleared by
KEY_TAMPER_CLEAR alone. -/
def stickyAt (a : Nat) : Nat × Nat :=
  if a = 0x14 then (0xC, 0xC)
  else if a = 0x20 then (0x3FFFFFF, 0x3FFFFFF)
  else if a = 0x2000C then (0x10, 0x10)
  else if a = 0x1C0000 then (6, 4)
  else if a = 0x1F0000 then (0x30, 0x30)
  else if a = 0x220000 then (1, 1)
  else (0, 0)

/-- The fields of a register lose the bits of a mask. -/
def State.clearBits (s : State) (a m : Nat) : State :=
  (rowsAt a).foldl (fun s p =>
    let f := p.1.fld a p.2
    let k := bits m p.1.lsb p.1.w
    s.put f (s.get f - (s.get f &&& k))) s

/-- NOP (Table 16-6): RESULT0 holds the present sheet number. -/
def runNop (h : Hdr) (s : State) : State := s.command h 0x01 true (.nop h) 0 (fun s => s.complete h 0x01 stOK s.sheetNo)

/-- STATUS_CLEAR (R387): the sticky bits of MASK are cleared at once; INVALID when a bit of it is none. -/
def runStatusClear (h : Hdr) (a mask : Nat) (s : State) : State :=
  s.command h 0x03 false (.statusClear h a mask) 0 (fun s =>
    let m := mask % 2 ^ 32
    let k := stickyAt a
    if m &&& k.1 ≠ m then s.complete h 0x03 stINVALID 0
    else
      let s := s.clearBits a (m &&& k.2)
      (s.journalCmd h 0x03 (a % 2 ^ 32 + 2 ^ 32 * m) 0).complete h 0x03 stOK 0)

/-- A command whose OPCODE is not in Table 16-6. -/
def runUnknownOpcode (h : Hdr) (op : Nat) (s : State) : State :=
  s.command h (op % 2 ^ 16) true (.unknownOpcode h op) 0 (fun s => s.complete h (op % 2 ^ 16) stUNKNOWN 0)

/-! ### The mode (R1, R2, R340, R386) -/

/-- PEND_MODE and PENDING show the pending mode. -/
def State.showMode (s : State) : State :=
  match s.glb.pendMode with
  | some p => s.puts [(GLB.GLB_MODE_PEND_MODE, p.mode), (GLB.GLB_MODE_PENDING, 1)]
  | none => s.puts [(GLB.GLB_MODE_PEND_MODE, 0), (GLB.GLB_MODE_PENDING, 0)]

/-- Whether the mode in force may be left for another by command: SIZING only from QUIET and SIZING (R2), MIRROR only from QUIET with
PAIR_CFG.EN 1, and from MIRROR only to QUIET (R340). -/
def State.mayEnter (s : State) (m : Nat) : Bool :=
  if s.mode = 5 then m == 0
  else if m = 5 then s.mode == 0 && s.flag COUCH.PAIR_CFG_EN
  else if m = 1 then decide (s.mode ≤ 1) else true

/-- MODE_SET (R1, R386): the mode takes effect at the next sheet edge, and the command completes there. -/
def runModeSet (h : Hdr) (m : Nat) (s : State) : State :=
  s.command h 0x02 false (.modeSet h m) 0 (fun s =>
    if 5 < m then s.complete h 0x02 stINVALID 0
    else if s.glb.pendMode.isSome then s.complete h 0x02 stBUSY 0
    else if !s.mayEnter m then s.complete h 0x02 stMODE 0
    else
      let s := ({ s with glb := { s.glb with pendMode := some ⟨m, some h, h.origin⟩ } }).showMode
      s.journalCmd h 0x02 m 0)

/-- The mode in force becomes another at a sheet edge: the event, after the outputs (R386), and the journal entry of a change. -/
def State.setMode (s : State) (m : Nat) (o : Origin) : State :=
  let old := s.mode
  let s := ({ s.putT GLB.GLB_MODE_MODE m with glb := { s.glb with mode := m } }).event 0x0101 0 m
  if old = m then s else s.journal o 5 0 old m 0x0101

/-! ### Sizing (R466, R467) -/

/-- Whether a sizing measurement or a survey runs (R467). -/
def State.sizingRuns (s : State) : Bool :=
  s.tdc.sizing.isSome || s.nav.sizing.isSome || s.nav.survey.isSome || (List.range 8).any (fun p => (s.port p).sizing.isSome)

/-- RESTORE_FACTORY_SIZING (R467): at the next edge the user bank loses the items in SCOPE. -/
def runRestoreFactorySizing (h : Hdr) (scope : Nat) (s : State) : State :=
  s.command h 0x04 false (.restoreFactorySizing h scope) 400 (fun s =>
    if 7 < scope then s.complete h 0x04 stINVALID 0
    else if 1 < s.mode then s.complete h 0x04 stMODE 0
    else if s.sizingRuns then s.complete h 0x04 stBUSY 0
    else
      let s := { s with siz := { s.siz with due := s.siz.due ++ [SizDue.restore h.origin scope] } }
      (s.journalCmd h 0x04 scope 0).complete h 0x04 stOK 0)

/-! ### The maintenance SPI (R392, R393) -/

/-- The command that a descriptor spells (Tables 16-4 and 16-6), with its argument block, if that could be read, and the data it reads.
Reserved bytes that are not 0, a wrong length of the block or INDIRECT where the row calls for none make it malformed (R385). -/
def cmdOf (h : Hdr) (d : List Byte) (block : Option (List Byte)) (data : DmaIn) : Instr :=
  let ind := bitOf (leAt d 4 1) 2
  let blk := block.getD []
  let a := fun (off n : Nat) => descArg d off n
  let i := fun (off n : Nat) => toS (8 * n) (descArg d off n)
  let used := fun (n : Nat) => (((d.drop (8 + n)).take (22 - n)).all (· == 0)) && !ind && decide (leAt d 4 1 < 8) && leAt d 5 3 == 0 && leAt d 30 1 == 0
  let hole := fun (l : List (Nat × Nat)) => l.all (fun p => leAt d (8 + p.1) p.2 == 0)
  let hd := fun (n : Nat) (l : List (Nat × Nat)) => { h with form := if used n && hole l then .good else .malformed }
  let hi := fun (n : Nat) (ok : Bool) =>
    { h with form := if !ind || descArg d 8 2 != n || !((d.drop 18).take 12).all (· == 0) then .malformed else if block.isNone then .blockError
        else if ok && decide (n ≤ blk.length) then .good else .malformed }
  match leAt d 0 2 with
  | 0x01 => .nop (hd 0 [])
  | 0x02 => .modeSet (hd 1 []) (a 0 1)
  | 0x03 => .statusClear (hd 8 []) (a 0 4) (a 4 4)
  | 0x04 => .restoreFactorySizing (hd 4 []) (a 0 4)
  | 0x05 => .bistRun (hd 4 [(1, 1)]) (a 0 1) (a 2 2)
  | 0x06 => .sparePromote (hd 4 [(1, 1)]) (a 0 1) (a 2 2)
  | 0x10 => .mouldLoad (hd 20 [(1, 7)]) (a 0 1) (a 8 8) (a 16 4)
  | 0x11 => .mouldActivate (hd 16 [(1, 7)]) (a 0 1) (a 8 8)
  | 0x12 => .mouldCancel (hd 0 [])
  | 0x20 => .timeSet (hd 12 []) (a 0 12)
  | 0x21 => .timeStep (hd 9 []) (i 0 8) (bitOf (a 8 1) 0)
  | 0x22 => .timeSlew (hd 8 []) (i 0 8)
  | 0x23 => .leapSchedule (hd 9 []) (a 0 8) (a 8 1)
  | 0x24 => .leapCancel (hd 0 [])
  | 0x25 => .strobeAt (hd 19 [(1, 7)]) (a 0 1) (a 8 8) (a 16 3)
  | 0x26 => .strobePeriodic (hd 22 []) (a 0 1) (a 1 3) (a 4 4) (a 8 8) (a 16 6)
  | 0x27 => .strobeStop (hd 1 []) (a 0 1)
  | 0x30 => .measArm (hd 16 [(1, 7)]) (a 0 1) (a 8 8)
  | 0x31 => .measDisarm (hd 1 []) (a 0 1)
  | 0x32 => .tdcSize (hd 8 []) (a 0 8)
  | 0x33 => .tdcTableRead (hd 16 [(1, 7)]) (a 0 1) (a 8 8)
  | 0x34 => .tdcCdcRestart (hd 1 []) (a 0 1)
  | 0x40 => .acqStart (hd 18 []) {
      signal := a 0 1, sv := a 1 1, k := i 2 1, channel := a 3 1, doppler := i 4 4, span := a 8 2, step := a 10 2, coh := a 12 1
      noncoh := a 13 1, thresh := a 14 2, tag := a 16 2 }
  | 0x41 => .acqAbort (hd 1 []) (a 0 1)
  | 0x50 => .ephLoad (hd 16 [(2, 6)]) (a 0 2) (a 8 8) data
  | 0x51 => .almLoad (hd 16 [(2, 6)]) (a 0 2) (a 8 8) data
  | 0x52 => .ephRead (hd 16 [(1, 7)]) (a 0 1) (a 8 8)
  | 0x53 => .navReset (hd 1 []) (a 0 1)
  | 0x54 => .surveyStart (hd 8 []) (a 0 4) (a 4 4)
  | 0x55 => .surveyStop (hd 0 [])
  | 0x56 => .posSet (hi 28 true) (toS 64 (leAt blk 0 8)) (toS 64 (leAt blk 8 8)) (toS 64 (leAt blk 16 8)) (leAt blk 24 4)
  | 0x57 => .gnssDelaySize (hd 8 [(1, 3)]) (a 0 1) (a 4 4)
  | 0x60 => .refSelect (hd 1 []) (a 0 1)
  | 0x61 => .wtrClear (hd 1 []) (a 0 1)
  | 0x70 => .holdHistoryClear (hd 0 [])
  | 0x71 => .holdHistoryRead (hd 16 [(0, 8)]) (a 8 8)
  | 0x72 => .atomRescan (hd 0 [])
  | 0x80 => .calPhaseStep (hd 16 [(1, 7)]) (a 0 1) (i 8 8)
  | 0x90 => .portSize (hd 1 []) (a 0 1)
  | 0x91 => .portExtSet (hd 16 [(1, 3)]) (a 0 1) (i 4 4) (i 8 4) (a 12 4)
  | 0x92 => .modRead (hd 16 [(3, 1), (6, 2)]) (a 0 1) (a 1 1) (a 2 1) (a 4 2) (a 8 8)
  | 0x93 => .modWrite (hd 16 [(4, 4)]) (a 0 1) (a 1 1) (a 2 1) (leBytes (a 3 1) (a 8 8))
  | 0x94 => .modRescan (hd 1 []) (a 0 1)
  | 0xA0 => .clientSet (hd 16 [(4, 4)]) (a 0 4) (a 8 8) data
  | 0xA1 => .clientRead (hd 16 [(4, 4)]) (a 0 4) (a 8 8)
  | 0xA2 => .clientDel (hd 4 []) (a 0 4)
  | 0xB0 => .ntsRotate (hd 8 [(2, 2)]) (a 0 1) (a 1 1) (a 4 4)
  | 0xB1 => .ntsRetire (hd 1 []) (a 0 1)
  | 0xB2 => .mintCookie (hd 18 []) (a 0 1) (bitOf (a 1 1) 0) (a 2 8) (a 10 8) data
  | 0xC0 => .keyDerive (hi 64 (decide (leAt blk 14 1 < 4) && decide (leAt blk 32 1 ≤ 16) && ((blk.drop 33).take 15).all (· == 0))) {
      parent := leAt blk 0 1, child := leAt blk 1 1, alg := leAt blk 2 1, spp := leAt blk 3 1, keyId := leAt blk 4 4, uses := leAt blk 8 6
      counted := bitOf (leAt blk 14 1) 0, expire := bitOf (leAt blk 14 1) 1, label := cut blk 16 (leAt blk 15 1)
      context := cut blk 48 (leAt blk 32 1) }
  | 0xC1 => .keyInvalidate (hd 1 []) (a 0 1)
  | 0xC2 => .keyInfo (hd 16 [(1, 1), (4, 4)]) (a 0 1) (a 2 2) (a 8 8)
  | 0xC3 => .keyTamperClear (hd 0 [])
  | 0xD0 => .pairSwitchover (hd 2 []) (a 0 2)
  | 0xD1 => .pairPromote (hd 1 []) (a 0 1)
  | 0xD2 => .pairResync (hd 0 [])
  | _ => .unknownOpcode (hd 22 []) (leAt d 0 2)

/-- The command that the descriptor in the mailbox spells (R393): an argument block stands in the data window, and one beyond it is
malformed. -/
def State.mbCommand (s : State) (d : List Byte) : Instr :=
  let h : Hdr := { origin := .mspi, tag := leAt d 2 2, polGiven := bitOf (leAt d 4 1) 0, latePol := bitOf (leAt d 4 1) 1 }
  let n := descArg d 8 2
  cmdOf h d (some (if descArg d 0 8 + n ≤ mbWindow then (s.hif.mbData.drop (descArg d 0 8)).take n else [])) {}

end Sys2Proof.Machine
end

