-- ==== Sys2Proof/Machine/Vatc.lean ====
section
/-! DEFINITION. Scrubbing, column repair and fuses of the vat (chapter 17). -/

namespace Sys2Proof.Machine

/-! ### Scrubbing (R402, R403, R408 to R410) -/

/-- A word that the scrubber corrects (R400, R410): at the same bit on two consecutive passes it is a hard error, and its column a
candidate. -/
def State.scrubFix (s : State) (page : Nat) (e : Nat × Nat) : State :=
  let w := 512 * page + e.1 % 512
  let bank := e.1 % 512 / 8
  let s := (s.inc VAT.WORD_CORR_CNT).inc (VAT.BANK_CORR_CNT bank)
  let s := { s with vatc := { s.vatc with thisPass := (w, e.2) :: s.vatc.thisPass } }
  if s.vatc.lastPass.contains (w, e.2) then
    let col := Config.bitColumn (page * 8 + e.1 % 8) e.2 % 9216
    let s := s.puts [(VAT.BANK_HARD_COUNT bank, min 65535 (s.get (VAT.BANK_HARD_COUNT bank) + 1)), (VAT.BANK_HARD_BANK_LASTCOL bank, col)]
    s.addCandidate 0 bank col
  else s

/-- Words that fail SECDED: the page is reconstructed, or poisoned when its code fails too (R402, R403). -/
def State.scrubBad (s : State) (page : Nat) (f : PageFind) : State :=
  match f.bad with
  | [] => s
  | b :: _ =>
    let s := s.pay 4 1500
    if f.fails then
      let ws := f.bad.map (fun x => 512 * page + x % 512)
      ({ s with vatc := { s.vatc with poison := (s.vatc.poison ++ ws).dedup } }).vatUncorr 12 (8 * (512 * page + b % 512))
    else (s.inc VAT.PAGE_CORR_CNT).journal .auto 3 page (4096 * page) 0 0

/-- SCRUB_PAGE (R408): the page at SCRUB_POS is read and mended, at most SCRUB_CFG.PAGES in a sheet; after the last page a pass is counted and a new one begins. -/
def runScrubPage (f : PageFind) (s : State) : State :=
  if !s.flag VAT.SCRUB_CFG_EN || decide (s.get VAT.SCRUB_CFG_PAGES ≤ s.vatc.scrubbed) then s
  else s.orPause 4 200 (fun s =>
    let page := s.get VAT.SCRUB_POS
    let s := { s.putB VAT.VAT_STATUS_SCRUB_RUN true with vatc := { s.vatc with scrubbed := s.vatc.scrubbed + 1 } }
    let s := (f.fixed.foldl (fun s e => s.scrubFix page e) s).scrubBad page f
    if page = 32767 then
      let s := (s.put VAT.SCRUB_POS 0).inc VAT.SCRUB_PASS_CNT
      { s with vatc := { s.vatc with lastPass := s.vatc.thisPass, thisPass := [] } }
    else s.put VAT.SCRUB_POS (page + 1))

/-! ### Column repair and fuses (R411, R412) -/

/-- Words of a bank. -/
def bankWords : Nat := 262144

/-- The lowest spare column of a bank that is neither in use nor retired. -/
def State.freeColumn (s : State) (b : Nat) : Option Nat :=
  (List.range 4).find? (fun k => !bitOf (s.get (VAT.BANK_SPARE_IN_USE b)) k && !bitOf (s.get (VAT.BANK_SPARE_FAILED b)) k)

/-- A field fuse entry (Table 17-4). -/
def fuseEntry (column bank spare : Nat) (cancel : Bool) : Nat :=
  let v := column % 16384 + bank % 64 * 2 ^ 14 + spare % 4 * 2 ^ 20 + 2 ^ 22 + (if cancel then 2 ^ 23 else 0)
  v + crc8 (leBytes 3 v) * 2 ^ 24

/-- A repair is in force on a spare column. -/
def State.mapColumn (s : State) (b k column : Nat) (field : Bool) : State :=
  let s := s.puts [(VAT.SPARE_COL_COLUMN b k, column), (VAT.SPARE_COL_VALID b k, 1), (VAT.SPARE_COL_SOURCE b k, if field then 1 else 0)]
  s.put (VAT.BANK_SPARE_IN_USE b) (putBit (s.get (VAT.BANK_SPARE_IN_USE b)) k true)

/-- A repair starts (R411): the spare shadows the column while the bank is rewritten. -/
def State.startRepair (s : State) (b k column : Nat) (o : Origin) : State :=
  ({ s with vatc := { s.vatc with repair := some ⟨b, k, column, 0, o⟩ } }).putB VAT.VAT_STATUS_REPAIR_RUN true

/-- A repair is abandoned, or has ended. -/
def State.endRepair (s : State) : State := ({ s with vatc := { s.vatc with repair := none } }).putB VAT.VAT_STATUS_REPAIR_RUN false

/-- The repair copy goes on by 4,096 words in a sheet of QUIET that can pay; a mode change away from QUIET abandons it (R411). -/
def State.repairEdge (s : State) : State :=
  match s.vatc.repair with
  | none => s
  | some r =>
    if s.mode ≠ 0 then s.endRepair
    else if bankWords ≤ r.words then s
    else s.orPause 4 1920 (fun s => { s with vatc := { s.vatc with repair := some { r with words := r.words + 4096 } } })

/-- REPAIR_COPY_DONE (R411): with the bank rewritten, reads move to the spare, a fuse entry is written while there is one, and the repair is
journaled and posted. -/
def runRepairCopyDone (s : State) : State :=
  match s.vatc.repair with
  | none => s
  | some r =>
    if r.words < bankWords then s
    else
      let s := s.endRepair.mapColumn r.bank r.spare r.column true
      let s := if s.get VAT.FUSE_USED < 16 then
          let s := s.pay 4 2000
          let n := s.get VAT.FUSE_USED + 1
          let s := { s with vatc := { s.vatc with fuses := s.vatc.fuses ++ [fuseEntry r.column r.bank r.spare false] } }
          s.puts [(VAT.FUSE_USED, n), (VAT.VAT_STATUS_FUSE_FULL, if n = 16 then 1 else 0)]
        else s
      ((s.charge0 10).eventIn 0x0D03 r.bank r.column).journal r.origin 3 r.bank r.column r.spare 0x0D03

/-- A field fuse entry is applied at reset (R412). -/
def State.applyFuse (s : State) (e : Nat) : State :=
  let b := bits e 14 6
  let k := bits e 20 2
  if bitOf e 22 = false then s
  else if bits e 24 8 ≠ crc8 (leBytes 3 e) then s.inc VAT.FUSE_BAD_CNT
  else if bitOf e 23 then
    let s := (s.put (VAT.SPARE_COL_VALID b k) 0).put (VAT.BANK_SPARE_IN_USE b) (putBit (s.get (VAT.BANK_SPARE_IN_USE b)) k false)
    s.put (VAT.BANK_SPARE_FAILED b) (putBit (s.get (VAT.BANK_SPARE_FAILED b)) k true)
  else s.mapColumn b k (bits e 0 14) true

/-- The repairs of the factory fuses, then those of the field entries in entry order (R412). -/
def State.applyFuses (s : State) : State :=
  let s := (List.range 64).foldl (fun s b => (Config.factoryColumns b).foldl (fun s (p : Nat × Nat) =>
    if p.1 < 4 then s.mapColumn b p.1 p.2 false else s) s) s
  let s := s.vatc.fuses.foldl State.applyFuse s
  let n := s.vatc.fuses.length
  s.puts [(VAT.FUSE_USED, min 16 n), (VAT.VAT_STATUS_FUSE_FULL, if 16 ≤ n then 1 else 0)]

end Sys2Proof.Machine
end

