-- ==== Sys2Proof/Machine/Pairs.lean ====
section
/-! DEFINITION. The redundant pair: couch frames, the standby, switchover, promotion, conflicts. -/

namespace Sys2Proof.Machine

/-! ### Bytes of couch frames (R343 to R346) -/

/-- The TAI sheet count of the present sheet. -/
def State.taiSheet (s : State) : Nat := s.time.edge / nsU 125000

/-- A segment with its CRC-32 (R343). -/
def segBytes (b : List Byte) : List Byte := b ++ leBytes 4 (crc32 b)

/-- The content of a segment, if its CRC holds (R343). -/
def segOpen (b : List Byte) : Option (List Byte) :=
  let n := b.length - 4
  if 4 ≤ b.length && decide (n ≤ 4096) && leNat (b.drop n) == crc32 (b.take n) then some (b.take n) else none

/-- The header of a couch frame (Table 15-1). -/
structure CouchHead where
  version : Nat := 1
  kind : Nat
  flags : Nat := 0
  sheet : Nat := 0
  tai : Nat := 0
  len : Nat := 64
  seq : Nat := 0
  tTx : Nat := 0
  tRx : Nat := 0
  rxSeq : Nat := 0
  mode : Nat := 0
  state : Nat := 0
  dwell : Nat := 0
  handTai : Nat := 0
  deriving DecidableEq, Repr

/-- The 64 bytes of a header. -/
def CouchHead.bytes (h : CouchHead) : List Byte :=
  leBytes 4 0xA7D0C0C4 ++ leBytes 1 h.version ++ leBytes 1 h.kind ++ leBytes 2 h.flags ++ leBytes 8 h.sheet ++ leBytes 8 h.tai ++
    leBytes 4 h.len ++ leBytes 4 h.seq ++ leBytes 8 h.tTx ++ leBytes 8 h.tRx ++ leBytes 4 h.rxSeq ++ leBytes 1 h.mode ++ leBytes 1 h.state ++
    leBytes 2 h.dwell ++ leBytes 8 h.handTai

/-- The header that begins a frame, where MAGIC stands. -/
def CouchHead.ofBytes (b : List Byte) : Option CouchHead :=
  if b.length < 64 || leAt b 0 4 != 0xA7D0C0C4 then none
  else some {
    version := leAt b 4 1, kind := leAt b 5 1, flags := leAt b 6 2, sheet := leAt b 8 8, tai := leAt b 0x10 8, len := leAt b 0x18 4
    seq := leAt b 0x1C 4, tTx := leAt b 0x20 8, tRx := leAt b 0x28 8, rxSeq := leAt b 0x30 4, mode := leAt b 0x34 1, state := leAt b 0x35 1
    dwell := leAt b 0x36 2, handTai := leAt b 0x38 8 }

/-- The 512 bytes of a timing block (Table 15-2). -/
def Timing.bytes (t : Timing) : List Byte :=
  let f := fun (b : Bool) (i : Nat) => if b then 2 ^ i else 0
  leBytes 5 t.bCore ++ leBytes 1 t.cls ++ leBytes 1 t.source ++ leBytes 1 t.refSys ++ leBytes 1 t.depth ++
    leBytes 1 (f t.traceable 0 + f t.freqTrace 1 + f t.utcValid 2 + f t.leapArmed 3 + f t.leapDir 4) ++ leBytes 2 t.steps ++ leBytes 1 t.tsrc ++
    leBytes 1 0 ++ leBytes 2 t.taiUtc ++ leBytes 8 t.origin ++ leBytes 8 t.gm ++ leBytes 8 t.leapTarget ++ leBytes 4 t.refid ++ leBytes 4 t.cfg ++
    leBytes 8 t.refTime ++ leBytes 4 t.key ++ leBytes 4 0 ++ ((List.range 8).flatMap (fun p => cut (nth t.wm p []) 0 40)) ++
    ((List.range 4).flatMap (fun k => cut (nth t.tod k []) 0 16)) ++ List.replicate 64 0

/-- The timing block that stands after the header of a FORWARD frame. -/
def Timing.ofBytes (b : List Byte) : Timing :=
  let fl := leAt b 9 1
  { bCore := leAt b 0 5, cls := leAt b 5 1, source := leAt b 6 1, refSys := leAt b 7 1, depth := leAt b 8 1, traceable := bitOf fl 0
    freqTrace := bitOf fl 1, utcValid := bitOf fl 2, leapArmed := bitOf fl 3, leapDir := bitOf fl 4, steps := leAt b 0xA 2, tsrc := leAt b 0xC 1
    taiUtc := leAt b 0xE 2, origin := leAt b 0x10 8, gm := leAt b 0x18 8, leapTarget := leAt b 0x20 8, refid := leAt b 0x28 4
    cfg := leAt b 0x2C 4, refTime := leAt b 0x30 8, key := leAt b 0x38 4, wm := (List.range 8).map (fun p => cut b (0x40 + 40 * p) 40)
    tod := (List.range 4).map (fun k => cut b (0x180 + 16 * k) 16) }

/-- An entry of the stream (R346). -/
structure CouchEntry where
  type : Nat
  addr : Nat
  data : List Byte
  deriving DecidableEq, Repr

/-- The bytes of an entry, padded to a multiple of 8. -/
def CouchEntry.bytes (e : CouchEntry) : List Byte :=
  let n := e.data.length
  leBytes 1 e.type ++ leBytes 1 0 ++ leBytes 2 n ++ leBytes 4 e.addr ++ e.data ++ List.replicate ((n + 7) / 8 * 8 - n) 0

/-- The entries of a stream up to END, at most so many. -/
def couchEntries : Nat → List Byte → List CouchEntry
  | 0, _ => []
  | k + 1, b =>
    let n := leAt b 2 2
    if b.length < 8 + n || leAt b 0 1 == 7 then []
    else ⟨leAt b 0 1, leAt b 4 4, cut b 8 n⟩ :: couchEntries k (b.drop (8 + (n + 7) / 8 * 8))

/-- The 32 bytes of a MOULD entry (Table 15-3). -/
def MouldEntry.bytes (m : MouldEntry) : List Byte :=
  leBytes 1 m.stateA ++ leBytes 1 m.stateB ++ leBytes 1 (m.active % 2 + 2 * (m.pend % 2) + (if m.pending then 4 else 0) + (if m.empty then 8 else 0)) ++
    leBytes 5 0 ++ leBytes 8 m.tai ++ leBytes 8 m.idA ++ leBytes 8 m.idB

/-- A MOULD entry from its bytes. -/
def MouldEntry.ofBytes (b : List Byte) : MouldEntry :=
  let f := leAt b 2 1
  ⟨leAt b 0 1, leAt b 1 1, bits f 0 1, bits f 1 1, bitOf f 2, bitOf f 3, leAt b 8 8, leAt b 16 8, leAt b 24 8⟩

/-- The 32 bytes of a generation in the NTS_GEN entry (Table 15-3). -/
def GenEntry.bytes (g : GenEntry) : List Byte :=
  leBytes 1 g.state ++ leBytes 1 g.slot ++ leBytes 2 0 ++ leBytes 4 g.keyId ++ leBytes 4 g.age ++ leBytes 4 0 ++ leBytes 16 g.count

/-- A generation from its bytes. -/
def GenEntry.ofBytes (b : List Byte) : GenEntry := ⟨leAt b 0 1, leAt b 1 1, leAt b 4 4, leAt b 8 4, leAt b 16 16⟩

/-! ### Digests (R354) -/

/-- The offsets at which an array row has a register. -/
def Row.addrs (r : Row) : List Nat :=
  (List.range (max r.n1 1)).flatMap (fun i => (List.range (max r.n2 1)).map (fun j => r.addr + i * r.s1 + j * r.s2))

/-- A row whose field a write can set. -/
def Row.settable (r : Row) : Bool := r.acc == .rw || r.acc == .rwl || r.acc == .rwt

/-- Registers left out of the digest. -/
def digestSkips (a : Nat) : Bool :=
  let k := 32 * a
  k == BOUND.WM_ENGINE_ID.key || k == BOUND.WM_ENGINE_ID.key + 128 || k == PTP.UP_ASYM.key || k == PTP.UP_ASYM.key + 128 ||
    (List.range 16).any (fun n => k == (BOUND.REF_UNC n).key || k == (BOUND.REF_UNC n).key + 128) ||
    k == BOUND.REF_ID1.key || k == BOUND.REF_ID1.key + 128 || k == BOUND.REF_ID2.key || k == BOUND.REF_ID2.key + 128 ||
    (List.range 8).any (fun p => k == (BOUND.PORT_ALLOW p).key)

/-- The registers of the digest, in block-base and then offset order. -/
def digestAddrs : List Nat :=
  ((blocks.filter (fun b => b.1 == 0x140000 || b.1 == 0x180000 || b.1 == 0x1A0000 || b.1 == 0x1B0000)).map (fun b =>
    (((b.2.filter Row.settable).flatMap Row.addrs).dedup.filter (fun a => !digestSkips a)).insertionSort (· ≤ ·))).flatten

/-- What a register holds in the fields that a write can set. -/
def State.settablePart (s : State) (a : Nat) : Nat :=
  (rowsAt a).foldl (fun v p => if p.1.settable then v + p.1.part (s.busGet (p.1.fld a p.2)) * 2 ^ p.1.lsb else v) 0

/-- CFG_DIGEST and KEY_DIGEST show the unit's own digests. -/
def State.showDigests (s : State) : State :=
  s.puts [(COUCH.CFG_DIGEST, crc32 (digestAddrs.flatMap (fun a => leBytes 4 (s.settablePart a)))),
    (COUCH.KEY_DIGEST, crc32 ((List.range 256).flatMap (fun n => (s.keySlot n).bytes.take 8)))]

/-! ### Events and states of the pair (R358, R359) -/

/-- An event of the pair, posted and journaled with an origin. -/
def State.pairEvent (s : State) (o : Origin) (code object : Nat) (value : Int) (old new : Nat) : State :=
  ((s.pay 3 150).eventIn code object value).journal o 3 object old new code

/-- The state of the standby. -/
def State.pairState (s : State) : Nat := s.get COUCH.PAIR_STATUS_STATE

/-- The standby goes to a state; PROMOTABLE follows (R358). -/
def State.couchGo (s : State) (st : Nat) : State :=
  let s := s.put COUCH.PAIR_STATUS_STATE st
  if st = 3 ∨ st = 4 then s.put COUCH.PAIR_STATUS_PROMOTABLE 1 else if st = 1 ∨ st = 2 then s.put COUCH.PAIR_STATUS_PROMOTABLE 0 else s

/-- A standby in SYNCED becomes DEGRADED. -/
def State.degrade (s : State) : State := if s.pairState = 3 then (s.couchGo 4).pairEvent .auto 0x0B04 0 4 3 4 else s

/-- The standby asks for a fill in its next RETURN frame. -/
def State.askFill (s : State) : State := { s with couch := { s.couch with resyncOut := true, fillWait := true, fillSeen := false } }

/-- The link is lost to the standby (Table 15-5). -/
def State.linkLost (s : State) : State :=
  let st := s.pairState
  let s := ({ s with couch := { s.couch with locked := false, offer := none, final := none } }).put COUCH.PAIR_STATUS_LINK 1
  if st < 2 ∨ 4 < st then s
  else if s.flag COUCH.PAIR_STATUS_HB_OK then ((s.couchGo 5).inc COUCH.LINK_LOSS_CNT).pairEvent .auto 0x0B05 0 5 st 5
  else (s.couchGo 6).pairEvent .auto 0x0B06 0 6 st 6

/-- ROLE, and the lanes as their reference holds them (R342): down without EN or with a bad reference, else at least training. -/
def State.showPair (s : State) : State :=
  let en := s.flag COUCH.PAIR_CFG_EN
  let s := s.put COUCH.PAIR_STATUS_ROLE (if !en then 0 else if s.mode = 5 then 2 else 1)
  if !en || s.flag COUCH.PAIR_STATUS_REF_BAD then
    if s.get COUCH.PAIR_STATUS_LINK = 0 then s
    else
      let s := if s.mode = 5 then s.linkLost else s
      ({ s with couch := { s.couch with locked := false } }).put COUCH.PAIR_STATUS_LINK 0
  else if s.get COUCH.PAIR_STATUS_LINK = 0 then s.put COUCH.PAIR_STATUS_LINK 1 else s

/-- PAIR_ACT_O (R356, R482). -/
def State.pairActO (s : State) : Bool := servingMode s.mode && !s.inReset

/-- The heartbeat pins PAIR_HB_T and PAIR_HB_F, where they are driven (R355, R482). -/
def State.heartbeat (s : State) : Option (Bool × Bool) :=
  if s.flag COUCH.PAIR_CFG_EN && s.mode != 5 && !s.inReset then some (s.sheetNo % 2 == 1, s.sheetNo % 2 == 0) else none

/-! ### Frames sent (R344 to R348) -/

/-- Segments of a frame under construction: those that are closed, and the open one. -/
structure Pack where
  segs : List (List Byte) := []
  cur : List Byte := []
  deriving DecidableEq, Repr

/-- The bytes the open segment can still take, with room for END kept in the last. -/
def Pack.room (p : Pack) : Nat := (if p.segs.length + 1 < 78 then 4096 else 4088) - p.cur.length

/-- An entry joins the frame; none spans two segments. -/
def Pack.add (p : Pack) (b : List Byte) : Pack :=
  if b.length ≤ p.room then { p with cur := p.cur ++ b } else { segs := p.segs ++ [p.cur], cur := b }

/-- Whether an entry finds room. -/
def Pack.fits (p : Pack) (b : List Byte) : Bool := decide (b.length ≤ p.room) || decide (p.segs.length + 1 < 78)

/-- The SEQ, header and timestamps of the frame that a unit sends in the sheet: SOF at sheet time 118.000 µs, with what lies between
that and the balls left open (R342, R344). -/
def State.couchHead (s : State) (kind flags state : Nat) : CouchHead × State :=
  let r := s.free
  let s := r.2
  let t := (s.time.edge + nsU 118000 + r.1) % 2 ^ 64
  let h : CouchHead := {
    kind := kind, flags := flags, sheet := s.sheetNo, tai := s.taiSheet, seq := s.couch.txSeq, tTx := t
    tRx := (s.couch.rxLast.map (·.2)).getD 0, rxSeq := (s.couch.rxLast.map (·.1)).getD 0, mode := s.mode, state := state }
  (h, { (s.inc COUCH.FRAME_TX_CNT) with couch := { s.couch with
    txSeq := (s.couch.txSeq + 1) % 2 ^ 32, sent := (s.couch.txSeq, t) :: s.couch.sent.take 1 } })

/-- A HELLO frame (R344). -/
def State.sendHello (s : State) : State :=
  let r := s.couchHead 0 0 (s.get COUCH.PAIR_CFG_PRIO)
  r.2.emit (.couch 2 (segBytes (({ r.1 with len := 80 }).bytes ++ leBytes 8 (s.get BOUND.WM_ENGINE_ID) ++ leBytes 8 0)))

/-- Whether the digests of both units are equal (R354). -/
def State.digestsEqual (s : State) : Bool := !s.flag COUCH.PAIR_STATUS_CFG_DIFFER && !s.flag COUCH.PAIR_STATUS_KEY_DIFFER

/-- A RETURN frame (R344, R353, R360). -/
def State.sendReturn (s : State) : State :=
  let st := s.pairState
  let accept := s.couch.offer.isSome && (st == 3 || (st == 4 && !s.flag COUCH.PAIR_STATUS_LAG && s.digestsEqual))
  let r := (s.charge0 100).couchHead 2 ((if accept then 8 else 0) + (if s.couch.resyncOut then 16 else 0)) st
  let s := { r.2 with couch := { r.2.couch with resyncOut := false } }
  s.emit (.couch 2 (segBytes (({ r.1 with len := 96 }).bytes ++ leBytes 4 s.couch.applied ++ leBytes 4 (s.get COUCH.FILL_KIB) ++
    leBytes 4 (s.get COUCH.CFG_DIGEST) ++ leBytes 4 (s.get COUCH.KEY_DIGEST) ++ leBytes 4 (s.get FLT.FLT_STATUS_ACTIVE_N) ++ leBytes 12 0)))

/-- A record or bucket as it is sent, after its owner has mended it (Table 17-3). -/
def State.couchRead (s : State) (bucket : Bool) (n : Nat) : List Byte × State :=
  let a := if bucket then bucketAddr n else 64 * n
  let k := if bucket then 4 else 64
  let r := s.vatRead 10 a k
  match r.1 with
  | .ok b => (b, r.2)
  | .denied b => (b, r.2)
  | .uncorr =>
    let s := if bucket then (r.2.bucket n).2 else (r.2.getRec n).2
    (s.vatSee 10 a k, s)

/-- The entry of a record or bucket. -/
def State.couchItem (s : State) (q : Bool × Nat) : CouchEntry × State :=
  let r := s.couchRead q.1 q.2
  (⟨if q.1 then 3 else 2, q.2, r.1⟩, r.2)

/-- Changed records and buckets, oldest first, until one finds no room (R347). -/
def State.couchChanges : List (Bool × Nat) → Pack → State → Pack × State
  | [], p, s => (p, { s with ptp := { s.ptp with changed := [] } })
  | q :: l, p, s =>
    let r := s.couchItem q
    if p.fits r.1.bytes then State.couchChanges l (p.add r.1.bytes) (r.2.charge0 40)
    else (p, { s with ptp := { s.ptp with changed := q :: l } })

/-- BULK entries while there is room, something to fill, and class 4 stock (R347, R348); poisoned words are skipped (Table 17-3). -/
def State.couchBulk : Nat → Pack → State → Pack × State
  | 0, p, s => (p, s)
  | k + 1, p, s =>
    match s.couch.fill with
    | [] => (p, s)
    | (a, len) :: rest =>
      let p := if p.room < 16 && decide (p.segs.length + 1 < 78) then { segs := p.segs ++ [p.cur], cur := [] : Pack } else p
      if p.room < 16 then (p, s)
      else
        let n := min (min (p.room - 8) 4088) len / 8 * 8
        match s.vatc.poison.find? (fun w => decide (a ≤ 8 * w) && decide (8 * w < a + n)) with
        | some w =>
          if 8 * w = a then
            let s := s.vatUncorr 10 a
            State.couchBulk k p { s with couch := { s.couch with
              skipped := true, fill := if len ≤ 8 then rest else (a + 8, len - 8) :: rest } }
          else
            match s.charge 4 300 with
            | none => (p, (s.inc (LEDGER.REFUSE_CNT 4)).pmu 0x0D 4 1)
            | some s =>
              let n := 8 * w - a
              let e : CouchEntry := ⟨6, a, s.vatSee 10 a n⟩
              State.couchBulk k (p.add e.bytes) { s with couch := { s.couch with filled := s.couch.filled + n, fill := (a + n, len - n) :: rest } }
        | none =>
          match s.charge 4 300 with
          | none => (p, (s.inc (LEDGER.REFUSE_CNT 4)).pmu 0x0D 4 1)
          | some s =>
            let r := s.vatRead 10 a n
            let b := match r.1 with
              | .ok b => b
              | .denied b => b
              | .uncorr => List.replicate n 0
            let e : CouchEntry := ⟨6, a, b⟩
            State.couchBulk k (p.add e.bytes) { r.2 with couch := { r.2.couch with
              filled := r.2.couch.filled + n, fill := if len ≤ n then rest else (a + n, len - n) :: rest } }

/-- The MOULD entry of the unit (Table 15-3). -/
def State.mouldEntry (s : State) : MouldEntry :=
  { stateA := s.get SHEET.SHEET_STATUS_STATE_A, stateB := s.get SHEET.SHEET_STATUS_STATE_B, active := s.get SHEET.SHEET_STATUS_ACTIVE_BUF
    pend := s.get SHEET.SHEET_STATUS_PEND_BUF, pending := s.flag SHEET.SHEET_STATUS_PENDING, empty := s.flag SHEET.SHEET_STATUS_EMPTY_SCHED
    tai := if s.flag SHEET.SHEET_STATUS_PENDING then s.taiSheet + (s.get SHEET.PEND_SHEET - s.sheetNo) else 0
    idA := s.get SHEET.MOULD_ID_A, idB := s.get SHEET.MOULD_ID_B }

/-- The generations of the unit (Table 15-3). -/
def State.genEntries (s : State) : List GenEntry :=
  (List.range 4).map (fun g => ⟨s.get (NTS.NTS_GEN_STATE g), s.get (NTS.NTS_GEN_SLOT g), s.get (NTS.NTS_KEYID g), s.get (NTS.NTS_AGE g), (s.gen g).count⟩)

/-- A FORWARD frame (R344 to R348, R360). -/
def State.sendForward (s : State) : State :=
  let t := s.ownTiming
  let s := { s.charge0 1200 with couch := { s.couch with own := some t } }
  let filling := !s.couch.fill.isEmpty
  let flows := (List.range 256).filter (fun f => s.flag (PTP.FLOW_CFG_EN f))
  let p : Pack := { cur := List.replicate 64 0 ++ t.bytes }
  let p := flows.foldl (fun (p : Pack) f =>
    p.add (CouchEntry.mk 1 f (leBytes 4 (((nth s.ptp.flows f {}).first + 16) % 65536 + 65536) ++ leBytes 4 0)).bytes) p
  let q := s.liveRecs.foldl (fun (q : Pack × State) n =>
    let r := q.2.getRec n
    if r.1.valid && r.1.dual then
      let e := r.2.couchItem (false, n)
      (q.1.add e.1.bytes, e.2.charge0 40)
    else (q.1, r.2)) (p, s)
  let s := q.2
  let p := (q.1.add (CouchEntry.mk 4 0 s.mouldEntry.bytes).bytes).add (CouchEntry.mk 5 0 (s.genEntries.flatMap GenEntry.bytes)).bytes
  let c := State.couchChanges s.ptp.changed p s
  let b := State.couchBulk 400 c.1 c.2
  let s := b.2
  let s := s.put COUCH.FILL_KIB (satN 20 (s.couch.filled / 1024))
  let p := b.1.add (CouchEntry.mk 7 0 []).bytes
  let lag := !s.ptp.changed.isEmpty || s.couch.skipped
  let s := if s.couch.fill.isEmpty then { s with couch := { s.couch with skipped := false } } else s
  let s := s.puts [(COUCH.PAIR_STATUS_LAG, if lag then 1 else 0), (COUCH.LAG_N, satN 16 s.ptp.changed.length)]
  let f := fun (b : Bool) (i : Nat) => if b then 2 ^ i else 0
  let r := s.couchHead 1 (f lag 0 + f filling 1 + f s.couch.hand.isSome 2 + f s.couch.handing 3) (s.get REFSEL.REFSEL_STATUS_CLOCK_STATE)
  let segs := p.segs ++ [p.cur]
  let len := (segs.map List.length).foldl (· + ·) 0
  let h := match s.couch.hand with
    | some x => { r.1 with len := len, dwell := x.dwell, handTai := s.taiSheet + (x.sheet - s.sheetNo) }
    | none => { r.1 with len := len }
  let segs := match segs with
    | [] => []
    | g :: gs => (h.bytes ++ g.drop 64) :: gs
  r.2.emit (.couch 2 (segs.flatMap segBytes))

/-- What the couch link sends in the sheet, at 118.000 µs (R344): a standby its RETURN frame; another unit a FORWARD frame with the link up, and
HELLO frames until then. -/
def State.couchSend (s : State) : State :=
  if !s.flag COUCH.PAIR_CFG_EN || !s.couch.locked then s
  else
    let s := s.showDigests
    if s.mode = 5 then s.sendReturn
    else if s.get COUCH.PAIR_STATUS_LINK = 3 then s.sendForward else s.sendHello

/-- A fill begins (R348): the client table, the index, and every mould buffer that is not EMPTY. -/
def State.startFill (s : State) : State :=
  let m := (List.range 2).filterMap (fun b => if s.get (stateFld b) = 0 then none else some (bufAddr b, 0x800000))
  { s with couch := { s.couch with fill := (0, 0x4000000) :: (0x7000000, 0x800000) :: m, filled := 0, skipped := false } }

/-! ### Frames received -/

/-- The peer's digests are compared with the unit's own (R354). -/
def State.compareDigests (s : State) (cfg key : Nat) : State :=
  let s := s.puts [(COUCH.PEER_CFG_DIGEST, cfg), (COUCH.PEER_KEY_DIGEST, key)]
  let one := fun (s : State) (f : Fld) (code own peer : Nat) =>
    let was := s.flag f
    let s := s.putB f (own != peer)
    if own != peer && !was then s.pairEvent .auto code 0 peer own peer else s
  let s := one s COUCH.PAIR_STATUS_CFG_DIFFER 0x0B09 (s.get COUCH.CFG_DIGEST) cfg
  one s COUCH.PAIR_STATUS_KEY_DIFFER 0x0B0A (s.get COUCH.KEY_DIGEST) key

/-- The phase of the peer, when its four times are known: those of the forward frame before this one and of the return frame of the same
sheet (R353). -/
def State.couchPhase (s : State) (h : CouchHead) (t : Timing) (at_ : Nat) : State :=
  let s := match s.couch.fwdLast, s.couch.sent.find? (fun q => q.1 == h.rxSeq) with
    | some (n, t1, t2), some (_, t3) =>
      if h.tRx = 0 ∨ h.seq ≠ (n + 1) % 2 ^ 32 ∨ (nsU 62500 : Int) < (sdiff t3 t2).natAbs then s
      else
        let f := sdiff t2 t1
        let b := sdiff h.tRx t3
        let ps := fun (u : Int) => roundQ ((u : Rat) * 1000 / 131072)
        let theta := ps (f - b) - s.geti COUCH.COUCH_ASYM
        let s := ((s.charge0 30).puti COUCH.PEER_THETA (satS 40 theta)).put COUCH.PEER_DELAY (satN 32 (ps (f + b)).toNat)
        { s with ref := { s.ref with peer := some ⟨theta, t2, t.bCore, t.depth, t.origin⟩, peerNew := true } }
    | _, _ => s
  { s with couch := { s.couch with fwdLast := some (h.seq, h.tTx, at_) } }

/-- A record of the client table on the standby, with its bit of the bitmap (R348, R349). -/
def State.copyRec (s : State) (n : Nat) (b : List Byte) : State :=
  ((s.vatWrite 10 (64 * n) b).2).mapSet n (bitOf (leAt b 0 1) 0)

/-- An entry after the dual section is applied as it arrives (R349); the bytes it filled. -/
def State.applyEntry (q : Nat × State) (e : CouchEntry) : Nat × State :=
  let s := q.2
  if e.type = 2 then (q.1, (s.charge0 40).copyRec (e.addr % 2 ^ 20) (cut e.data 0 64))
  else if e.type = 3 then (q.1, ((s.charge0 40).vatWrite 10 (bucketAddr (e.addr % 2 ^ 21)) (cut e.data 0 4)).2)
  else if e.type = 6 then
    let n := e.data.length
    let s := ((s.pay 4 300).vatWrite 10 e.addr e.data).2
    let first := (e.addr + 63) / 64
    let count := if e.addr + n ≤ 0x4000000 then (e.addr + n + 63) / 64 - first else 0
    (q.1 + n, (List.range count).foldl (fun s i => s.mapSet (first + i) (bitOf (leNat (s.vatSee 7 (64 * (first + i)) 1)) 0)) s)
  else q

/-- The segments of a frame up to the first whose CRC fails, and whether one failed (R343). -/
def goodSegs : List (List Byte) → List (List Byte) × Bool
  | [] => ([], false)
  | b :: l =>
    match segOpen b with
    | none => ([], true)
    | some d =>
      let r := goodSegs l
      (d :: r.1, r.2)

/-- What a frame's dual section holds, when it is complete: NTS_GEN is its last entry. -/
def dualOf (h : CouchHead) (t : Timing) (es : List CouchEntry) : Option DualSection :=
  let pre := es.takeWhile (fun e => e.type != 5)
  match es.find? (fun e => e.type == 5), pre.find? (fun e => e.type == 4) with
  | some g, some m =>
    some { seq := h.seq, block := t
           flows := (pre.filter (fun e => e.type == 1)).map (fun e => (e.addr, leAt e.data 0 2))
           recs := (pre.filter (fun e => e.type == 2)).map (fun e => (e.addr % 2 ^ 20, cut e.data 0 64))
           mould := MouldEntry.ofBytes m.data
           gens := (List.range 4).map (fun i => GenEntry.ofBytes (cut g.data (32 * i) 32)) }
  | _, _ => none

/-- The standby's state after a FORWARD frame (Table 15-5). -/
def State.afterForward (s : State) (bad : Bool) : State :=
  let st := s.pairState
  let s := if bad && decide (2 ≤ st) && decide (st ≤ 4) then s.askFill else s
  let ok := s.digestsEqual && !s.flag COUCH.PAIR_STATUS_LAG
  if st = 2 then
    if s.couch.fillWait then s
    else if ok then (s.couchGo 3).pairEvent .auto 0x0B03 0 3 2 3 else (s.couchGo 4).pairEvent .auto 0x0B04 0 4 2 4
  else if st = 3 then (if ok && !bad then s else s.degrade)
  else if st = 4 then (if ok && !s.couch.fillWait then (s.couchGo 3).pairEvent .auto 0x0B03 0 3 4 3 else s)
  else s

/-- A FORWARD frame comes in on a standby (R343, R349, R353, R360). -/
def State.takeForward (s : State) (at_ : Nat) (segs : List (List Byte)) : State :=
  let s := { s with couch := { s.couch with flowing := true, gotFwd := true, firstReturn := some (s.couch.firstReturn.getD false) } }
  let g := goodSegs segs
  let s := if g.2 then s.inc COUCH.SEG_BAD_CNT else s
  match g.1 with
  | [] => s.afterForward g.2
  | b :: rest =>
    match CouchHead.ofBytes b with
    | none => s.afterForward g.2
    | some h =>
      if h.kind ≠ 1 ∨ h.version ≠ 1 then s
      else
        let t := Timing.ofBytes (b.drop 64)
        let es := couchEntries 4096 (b.drop 576) ++ rest.flatMap (couchEntries 4096)
        let s := s.charge0 1200
        let s := { s with couch := { s.couch with
          rxLast := some (h.seq, at_), peerMode := h.mode, dual := dualOf h t es
          offer := if bitOf h.flags 2 then some (h.mode, h.handTai, h.dwell) else none
          final := if bitOf h.flags 2 && bitOf h.flags 3 && !g.2 then some (h.mode, h.handTai, h.dwell) else none } }
        let s := ((s.putB COUCH.PAIR_STATUS_LAG (bitOf h.flags 0)).compareDigests t.cfg t.key).couchPhase h t at_
        let s := if bitOf h.flags 1 && !s.couch.fillSeen then { s with couch := { s.couch with filled := 0 } } else s
        let r := ((es.dropWhile (fun e => e.type != 5)).drop 1).foldl State.applyEntry (0, s)
        let s := { r.2 with couch := { r.2.couch with filled := r.2.couch.filled + r.1 } }
        let s := s.put COUCH.FILL_KIB (satN 20 (s.couch.filled / 1024))
        let fill := bitOf h.flags 1
        let s := if fill then { s with couch := { s.couch with fillSeen := true } }
          else if s.couch.fillSeen then { s with couch := { s.couch with fillWait := false } } else s
        s.afterForward g.2

/-- The present time of the counter as a short time names it is reached, within the sheet. -/
def State.reachTime (s : State) (t : Nat) : State := s.advanceTo (min (s.longTime t).toNat s.time.next)

/-- FORWARD_FRAME_RX (R343, R349, R365): a standby takes it; a serving unit finds that its peer serves. -/
def runForwardFrameRx (at_ : Nat) (segs : List (List Byte)) (s : State) : State :=
  if !s.couch.locked then s
  else
    let s := (s.reachTime at_).inc COUCH.FRAME_RX_CNT
    if s.mode = 5 then s.takeForward (at_ % 2 ^ 64) segs
    else { s with couch := { s.couch with foreign := s.couch.foreign || servingMode s.mode } }

/-- HELLO_RX (R344, R358, R366): the peer's ENGINE_ID and PRIO; a standby in LINKING begins to fill, or finds the same PRIO. -/
def runHelloRx (at_ : Nat) (seg : List Byte) (s : State) : State :=
  if !s.couch.locked then s
  else
    let s := (s.reachTime at_).inc COUCH.FRAME_RX_CNT
    match segOpen seg with
    | none => s.inc COUCH.SEG_BAD_CNT
    | some b =>
      match CouchHead.ofBytes b with
      | none => s
      | some h =>
        if h.kind ≠ 0 ∨ h.version ≠ 1 ∨ h.mode = 5 then s
        else
          let id := leAt b 64 8
          let prio := bitOf h.state 0
          let s := { s with couch := { s.couch with peerId := some id, peerPrio := prio, peerMode := h.mode, rxLast := some (h.seq, at_ % 2 ^ 64) } }
          let s := s.put COUCH.PEER_ENGINE_ID id
          if s.mode != 5 || s.pairState != 1 then s
          else if prio == s.flag COUCH.PAIR_CFG_PRIO then s.pairEvent .auto 0x0B02 0 (if prio then 1 else 0) 0 id
          else
            let s := (s.couchGo 2).put COUCH.PAIR_STATUS_LINK 3
            let s := { s with couch := { s.couch with fillWait := true, fillSeen := false, filled := 0, flowing := false, dual := none } }
            s.pairEvent .auto 0x0B01 0 id 0 id

/-- RETURN_FRAME_RX (R344, R353, R354, R358, R360, R361): the standby's state, digests, acceptance and its wish for a fill. -/
def runReturnFrameRx (at_ : Nat) (seg : List Byte) (s : State) : State :=
  if !s.couch.locked then s
  else
    let s := (s.reachTime at_).inc COUCH.FRAME_RX_CNT
    let s := { s with couch := { s.couch with firstReturn := some (s.couch.firstReturn.getD true) } }
    match segOpen seg with
    | none => s.inc COUCH.SEG_BAD_CNT
    | some b =>
      match CouchHead.ofBytes b with
      | none => s
      | some h =>
        if h.kind ≠ 2 ∨ h.version ≠ 1 then s
        else
          let s := { s with couch := { s.couch with rxLast := some (h.seq, at_ % 2 ^ 64) } }
          if s.mode = 5 then s
          else
            let was := s.pairState
            let up := decide (2 ≤ h.state) && decide (h.state ≤ 4)
            let s := ((s.charge0 100).put COUCH.PAIR_STATUS_STATE h.state).put COUCH.PAIR_STATUS_LINK (if up then 3 else 2)
            let s := s.compareDigests (leAt b 0x48 4) (leAt b 0x4C 4)
            let s := match s.couch.hand with
              | some x => if bitOf h.flags 3 then { s with couch := { s.couch with hand := some { x with accepted := true } } } else s
              | none => s
            let s := if bitOf h.flags 4 then s.startFill.inc COUCH.RESYNC_CNT
              else if h.state = 2 ∧ was ≠ 2 then s.startFill else s
            if up then s else { s with couch := { s.couch with fill := [] } }

/-- COUCH_BLOCK_LOCK (R358): all lanes have been locked for 1 ms. -/
def runCouchBlockLock (s : State) : State :=
  if !s.flag COUCH.PAIR_CFG_EN || s.flag COUCH.PAIR_STATUS_REF_BAD || s.couch.locked then s
  else
    let s := ({ s with couch := { s.couch with locked := true, flowing := false, dual := none } }).put COUCH.PAIR_STATUS_LINK 2
    let st := s.pairState
    if s.mode = 5 ∧ (st = 0 ∨ st = 5 ∨ st = 6) then s.couchGo 1 else s

/-- Whether a FORWARD frame was due and has had no good SOF (R358). -/
def State.frameMissing (s : State) : Bool :=
  s.mode == 5 && s.couch.flowing && !s.couch.gotFwd && decide (2 ≤ s.pairState) && decide (s.pairState ≤ 4)

/-- The link is judged, and the next frame is awaited. -/
def State.linkCheck (s : State) : State :=
  let lost := s.frameMissing
  let s := { s with couch := { s.couch with gotFwd := false } }
  if lost then s.linkLost else s

/-- COUCH_LINK_CHECK (R358): the expected FORWARD frame has had no good SOF by sheet time 120.000 µs. -/
def runCouchLinkCheck (s : State) : State := (s.atSheetTime (nsU 120000)).linkCheck

/-- HEARTBEAT_CHECK (R355, R358): whether the pair changed at the last edge, and whether its rails are equal. -/
def runHeartbeatCheck (changed equal : Bool) (s : State) : State :=
  let s := s.atSheetTime (nsU 62500)
  if s.mode ≠ 5 ∨ s.flag COUCH.PAIR_CFG_EN = false then s
  else
    let s := s.charge0 5
    let good := if changed && !equal then s.couch.hbGood + 1 else 0
    let same := if equal then s.couch.hbEqual + 1 else 0
    let was := s.flag COUCH.PAIR_STATUS_HB_OK
    let s := { s with couch := { s.couch with hbGood := good, hbEqual := same } }
    let s := s.putB COUCH.PAIR_STATUS_HB_WIRE (decide (2 ≤ same))
    let s := if 8 ≤ good then s.put COUCH.PAIR_STATUS_HB_OK 1 else s
    if changed then s
    else
      let s := (s.put COUCH.PAIR_STATUS_HB_OK 0).inc COUCH.HB_LOSS_CNT
      let st := s.pairState
      if st = 5 then (s.couchGo 6).pairEvent .auto 0x0B06 0 6 5 6
      else if was && decide (2 ≤ st) && decide (st ≤ 4) then s.pairEvent .auto 0x0B07 0 0 1 0 else s

/-! ### The dual section at an edge (R349, R350) -/

/-- Whether the standby's copy of a buffer is complete: it passes the checks of Table 2-4 and carries the MOULD_ID named (R349). -/
def State.copyGood (s : State) (buf id : Nat) : Bool :=
  let hb := s.vatSee 0 (bufAddr buf) 512
  let h := MouldHdr.ofBytes hb
  let word := bufAddr buf / 8
  decide (512 ≤ h.imageLen) && decide (h.imageLen ≤ 0x800000) && h.mouldId == id &&
    !s.vatc.poison.any (fun w => decide (word ≤ w) && decide (w < word + (h.imageLen + 7) / 8)) &&
    (mouldReason ((List.range 8).map (fun p => s.get (MAC.PORT_CFG_RATE p))) (s.vatSee 0 (bufAddr buf) h.imageLen) h.imageLen).isNone

/-- The MOULD entry is applied (R35, R349): states and identities are the active's; a buffer is activated only from a good copy. -/
def State.applyMould (s : State) (m : MouldEntry) : State :=
  let now := m.pending && decide (m.tai ≤ s.taiSheet)
  let want := if now then m.pend else m.active
  let was := s.get (stateFld want)
  let ran : Option (Nat × Nat) := (s.activeBuf).map (fun b => (b, s.get (mouldIdFld b)))
  let s := s.puts [(SHEET.SHEET_STATUS_STATE_A, m.stateA), (SHEET.SHEET_STATUS_STATE_B, m.stateB), (SHEET.MOULD_ID_A, m.idA), (SHEET.MOULD_ID_B, m.idB),
    (SHEET.SHEET_STATUS_PENDING, if m.pending && !now then 1 else 0), (SHEET.SHEET_STATUS_PEND_BUF, if now then 0 else m.pend),
    (SHEET.PEND_SHEET, if m.pending && !now then s.sheetNo + (m.tai - s.taiSheet) else 0), (SHEET.SHEET_STATUS_ACTIVE_BUF, want)]
  let s := if now then s.puts [(stateFld want, 3), (stateFld (1 - want), if m.empty then s.get (stateFld (1 - want)) else 4)] else s
  let id := if want = 0 then m.idA else m.idB
  if m.empty && !now then s.put SHEET.SHEET_STATUS_EMPTY_SCHED 1
  else if ran = some (want, id) then s
  else if s.copyGood want id then
    let s := s.put SHEET.SHEET_STATUS_EMPTY_SCHED 0
    { (s.eventIn 0x0102 want 3).journal .peer 3 want was 3 0x0102 with sheet := { s.sheet with trapped := false, fallback := false } }
  else (s.put SHEET.SHEET_STATUS_EMPTY_SCHED 1).degrade

/-- The generations are the active's (R306, R341): a change is journaled with origin PEER. -/
def State.applyGens (s : State) (l : List GenEntry) : State :=
  (List.range 4).foldl (fun s g =>
    match l[g]? with
    | none => s
    | some e =>
      let s := if s.get (NTS.NTS_GEN_STATE g) = e.state then s else s.genGo .peer g e.state 0x0A01
      let k := s.keySlot e.slot
      let s := s.puts [(NTS.NTS_GEN_SLOT g, e.slot), (NTS.NTS_KEYID g, e.keyId), (NTS.NTS_AGE g, e.age)]
      (s.setGen g { s.gen g with
        count := e.count, acceptAt := s.mono - (e.age * secU : Nat), wgen := k.wgen
        nonceKey := if (e.state == 1 || e.state == 2) && k.usable then some (kdf k.mat nonceLabel (beBytes 4 e.keyId)) else none })) s.showGens

/-- The edge of a standby (R349): the dual section and the MOULD entry of the last FORWARD frame are applied, or the miss is recorded;
a pending activation takes effect at its edge in either case. -/
def State.couchApply (s : State) : State :=
  if s.mode ≠ 5 then s
  else
    match s.couch.dual with
    | some d =>
      let s := { s with couch := { s.couch with dual := none, block := some d.block, suppress := false, applied := d.seq } }
      let s := d.flows.foldl (fun s (q : Nat × Nat) =>
        ({ s with ptp := { s.ptp with flows := setNth s.ptp.flows q.1 ⟨q.2, 0, 0⟩ } }).put (PTP.FLOW_CFG_SEQ (q.1 % 256)) q.2) s
      let s := d.recs.foldl (fun s (q : Nat × List Byte) => (s.charge0 40).copyRec q.1 q.2) s
      ((s.applyMould d.mould).applyGens d.gens).showPools
    | none =>
      let s := { s with couch := { s.couch with suppress := true } }
      let s := if s.flag SHEET.SHEET_STATUS_PENDING && decide (s.get SHEET.PEND_SHEET ≤ s.sheetNo) then s.applyMould s.mouldEntry else s
      if !s.couch.flowing || s.pairState < 2 then s
      else (((s.inc COUCH.DUAL_LATE_CNT).askFill)).degrade

/-! ### Changes of role (R340, R360 to R364) -/

/-- Negotiations that wait for their answer are discarded (R364). -/
def State.dropNegs (s : State) : State :=
  let keep := fun (r : Reply) => match r.body with
    | .ptp m => m.neg == 0
    | .ntp _ => true
  let ports : List PortSt := s.mac.ports.map (fun (q : PortSt) => { q with replies := q.replies.filter keep })
  ({ s with mac := { s.mac with ports := ports } }).showNeg

/-- A unit enters MIRROR by command (R340): ALONE, or LINKING where the lanes are locked. -/
def State.mirrorIn (s : State) : State :=
  let s := { s with couch := { s.couch with
    dual := none, block := none, suppress := true, flowing := false, offer := none, final := none, promote := none, byHandover := none
    heldFrom := none, drillEnd := none } }
  let s := { s with bound := { s.bound with heldMark := none } }
  let s := s.puts [(COUCH.PAIR_STATUS_HELD, 0), (COUCH.DRILL_LEFT, 0), (COUCH.PAIR_STATUS_PROMOTABLE, 0)]
  if s.couch.locked then (s.couchGo 1).put COUCH.PAIR_STATUS_LINK 2 else s.couchGo 0

/-- A unit leaves MIRROR. -/
def State.mirrorOut (s : State) (linkUp : Bool) : State :=
  let s := s.puts [(COUCH.PAIR_STATUS_STATE, 0), (COUCH.PAIR_STATUS_PROMOTABLE, 0), (COUCH.PAIR_STATUS_HB_WIRE, 0)]
  let s := { s with couch := { s.couch with
    dual := none, suppress := false, flowing := false, offer := none, final := none, promote := none, byHandover := none, resyncOut := false
    hbEqual := 0 } }
  if linkUp then s else if s.couch.locked then s.put COUCH.PAIR_STATUS_LINK 2 else s

/-- A watermark body with HELD set (R363, Table 10-3). -/
def heldBody (b : List Byte) : List Byte := b.take 1 ++ leBytes 1 (putBit (leAt b 1 1) 7 true) ++ b.drop 2

/-- The values held through the held sheets, in the BOUND registers (R363). -/
def State.showHeld (s : State) : State :=
  match s.bound.heldMark, s.couch.block with
  | some l, some b =>
    let s := s.puts [(BOUND.BOUND_STATUS, leAt (nth l 0 []) 1 1), (BOUND.BOUND_CORE, b.bCore)]
    (List.range 8).foldl (fun s p => s.put (BOUND.PORT_BOUND p) (satN 32 (markBound (nth l p [])))) s
  | _, _ => s

/-- The held sheets begin (R363). -/
def State.holdValues (s : State) : State :=
  let s := { s with
    bound := { s.bound with heldMark := s.couch.block.map (fun (b : Timing) => b.wm.map heldBody) }
    couch := { s.couch with heldFrom := some s.sheetNo } }
  (s.put COUCH.PAIR_STATUS_HELD 1).showHeld

/-- A promoted unit sends the ToD frame of the edge to come, where its start has passed and 30 ms are left (R214): the values last received,
with HELD. -/
def State.todPromote (s : State) : State :=
  (List.range 4).foldl (fun s k =>
    let off := unitsOfPs (s.geti (SYN.PPS_OFF (s.get (SYN.TOD_CFG_PPS k))))
    let sec := (((s.units : Int) - off) / (secU : Int)).toNat + 1
    let edge : Int := (sec * secU : Nat) + off
    let start : Int := edge - secU + nsU (s.get (SYN.TOD_DELAY k) * 1000000)
    match s.couch.block with
    | none => s
    | some b =>
      if (s.units : Int) < start then s
      else
        let s := { s with syn := { s.syn with todNamed := setNth s.syn.todNamed k sec } }
        if edge - s.units < nsU 30000000 || s.squelchAll || !bitOf (s.getT SYN.OUT_EN_TOD) k || !s.ppsSends (s.get (SYN.TOD_CFG_PPS k)) then s
        else
          let v := cut (nth b.tod k []) 0 16
          let w := [(1 : Byte), 16] ++ v.take 8 ++ leBytes 1 (putBit (leAt v 8 1) 5 true) ++ v.drop 9
          (s.charge0 200).emit (.tod k (s.get (SYN.TOD_CFG_TOD_BAUD k)) ([(0xC5 : Byte), 0x3A] ++ w ++ beBytes 2 (crc16 w)))) s

/-- The sequence numbers of every VALID record without DUAL advance by SEQ_SKIP, and the bitmap marks them (R364). -/
def State.seqSkip (s : State) : State :=
  let k := s.get COUCH.PAIR_CFG_SEQ_SKIP
  let map := 0x07B00000
  let s := { s with vat := s.vat.filter (fun (c : Nat × Byte) => !(decide (map ≤ c.1) && decide (c.1 < map + 131072) && s.vatMay 7 c.1 1 true)) }
  s.liveRecs.foldl (fun s n =>
    let r := s.getRec n
    if r.1.valid && !r.1.dual then
      let c := r.1
      let s := (r.2.charge0 4).setRec n { c with
        syncSeq := (c.syncSeq + k) % 65536, annSeq := (c.annSeq + k) % 65536, sigSeq := (c.sigSeq + k) % 65536 }
      (s.vatWrite 7 (map + n / 8) (leBytes 1 (putBit (leNat (s.vatSee 7 (map + n / 8) 1)) (n % 8) true))).2
    else r.2) s

/-- The nonce counts of the CURRENT and ACCEPT generations advance by 2⁴⁰ (R364). -/
def State.nonceSkip (s : State) : State :=
  (List.range 4).foldl (fun s g =>
    let st := s.get (NTS.NTS_GEN_STATE g)
    if st = 1 ∨ st = 2 then s.setGen g { s.gen g with count := (s.gen g).count + 2 ^ 40 } else s) s

/-- A promotion takes effect (R214, R362 to R364). -/
def State.promoteNow (s : State) (p : PromoteRun) : State :=
  let s := (s.charge0 2500).setMode p.mode p.origin
  let s := (s.inc COUCH.PROMOTE_CNT).pairEvent p.origin 0x0B0C 0 p.mode 5 p.mode
  ((s.mirrorOut false).holdValues.todPromote.seqSkip.nonceSkip).dropNegs

/-- A handover begins (R360): H is three sheets on. -/
def State.startHandover (s : State) (cmd : Option Hdr) (o : Origin) (dwell : Nat) : State :=
  let h := s.sheetNo + 3
  let s := { s with couch := { s.couch with hand := some ⟨cmd, o, h, dwell, false⟩ } }
  s.puts [(COUCH.PAIR_STATUS_HANDOVER_PENDING, 1), (COUCH.HANDOVER_SHEET, h)]

/-- The handover ends, with the status of its command, if one started it. -/
def State.endHandover (s : State) (status : Nat) : State :=
  match s.couch.hand with
  | none => s
  | some x =>
    let s := ({ s with couch := { s.couch with hand := none, handing := false } }).put COUCH.PAIR_STATUS_HANDOVER_PENDING 0
    match x.cmd with
    | some h => s.complete h 0xD0 status 0
    | none => s

/-- The escalation of faults asks for a handover (R360, Table 18-4). -/
def State.escHandover (s : State) : State :=
  if !s.flt.handover then s
  else
    let s := { s with flt := { s.flt with handover := false } }
    if servingMode s.mode && s.flag COUCH.PAIR_CFG_EN && s.couch.hand.isNone then s.startHandover none .auto 0 else s

/-- PAIR_SWITCHOVER (R360, R367): it completes as Table 15-6 states. -/
def runPairSwitchover (h : Hdr) (dwell : Nat) (s : State) : State :=
  s.command h 0xD0 false (.pairSwitchover h dwell) 0 (fun s =>
    if !servingMode s.mode then s.complete h 0xD0 stMODE 0
    else if s.couch.hand.isSome then s.complete h 0xD0 stBUSY 0
    else (s.startHandover (some h) h.origin (dwell % 65536)).journalCmd h 0xD0 dwell 0)

/-- PAIR_PROMOTE (R362, R367): the promotion takes effect at the next edge. -/
def runPairPromote (h : Hdr) (mode : Nat) (s : State) : State :=
  s.command h 0xD1 false (.pairPromote h mode) 0 (fun s =>
    if s.mode ≠ 5 then s.complete h 0xD1 stMODE 0
    else if !servingMode mode then s.complete h 0xD1 stINVALID 0
    else if s.flag COUCH.PAIR_STATUS_ACT_I then s.complete h 0xD1 stNOTREADY 0
    else
      let s := { s with couch := { s.couch with promote := some ⟨mode, h.origin⟩ } }
      (s.journalCmd h 0xD1 mode 0).complete h 0xD1 stOK 0)

/-- PAIR_RESYNC (R348, R367): the next RETURN frame asks for a fill. -/
def runPairResync (h : Hdr) (s : State) : State :=
  s.command h 0xD2 false (.pairResync h) 0 (fun s =>
    if s.mode ≠ 5 then s.complete h 0xD2 stMODE 0
    else if s.pairState ≠ 3 ∧ s.pairState ≠ 4 then s.complete h 0xD2 stNOTREADY 0
    else ((s.askFill).journalCmd h 0xD2 0 0).complete h 0xD2 stOK 0)

/-- HANDOVER_SHEET (R360, Table 15-6): at H − 1 the active with ACCEPT runs the handover sheet; otherwise the handover is cancelled. -/
def runHandoverSheet (s : State) : State :=
  match s.couch.hand with
  | none => s
  | some x =>
    if s.sheetNo + 1 ≠ x.sheet then s
    else if x.accepted && servingMode s.mode then { s with couch := { s.couch with handing := true } }
    else s.endHandover stNOTREADY

/-- The active enters MIRROR at H (R360). -/
def State.handOver (s : State) (x : HandRun) : State :=
  let old := s.mode
  let own := s.couch.own
  let s := (s.charge0 2500).setMode 5 x.origin
  let s := (s.inc COUCH.HANDOVER_CNT).pairEvent x.origin 0x0B0B 0 5 old 5
  let s := { s with couch := { s.couch with
    former := old, byHandover := some s.sheetNo, block := own, suppress := false, dual := none, flowing := true, gotFwd := false
    fillWait := false, fillSeen := false, heldFrom := none, drillEnd := none, hbGood := 8 } }
  let s := { s with bound := { s.bound with heldMark := none } }
  let s := s.puts [(COUCH.PAIR_STATUS_HELD, 0), (COUCH.DRILL_LEFT, 0), (COUCH.PAIR_STATUS_LAG, 0), (COUCH.PAIR_STATUS_HB_OK, 1)]
  ((s.couchGo 3).dropNegs).endHandover stOK

/-- The standby enters the mode of frame H − 1 at H (R360, R364). -/
def State.takeOver (s : State) (mode dwell : Nat) : State :=
  let s := (s.charge0 2500).setMode mode .auto
  let s := (s.inc COUCH.HANDOVER_CNT).pairEvent .auto 0x0B0B 0 mode 5 mode
  let s := ((s.mirrorOut true).holdValues).todPromote
  if dwell = 0 then s
  else
    ({ s with couch := { s.couch with drillEnd := some (s.mono + (dwell * secU : Nat)) } }).put COUCH.DRILL_LEFT dwell

/-- HANDOVER_EDGE (R360, Table 15-6): at sheet H the roles swap. -/
def runHandoverEdge (s : State) : State :=
  if s.mode = 5 then
    match s.couch.final with
    | some (m, tai, dwell) => if tai = s.taiSheet ∧ servingMode m = true then s.takeOver m dwell else s
    | none => s
  else
    match s.couch.hand with
    | none => s
    | some x =>
      if s.sheetNo ≠ x.sheet then s
      else if s.couch.handing && servingMode s.mode then s.handOver x else s.endHandover stNOTREADY

/-- HANDOVER_REPROMOTE (R361): the first frame of sheet H from the peer was a RETURN frame. -/
def runHandoverRepromote (s : State) : State :=
  if s.mode = 5 ∧ s.couch.byHandover = some s.sheetNo ∧ s.couch.firstReturn = some true then
    { s with couch := { s.couch with promote := some ⟨s.couch.former, .auto⟩ } }
  else s

/-- ORPHAN_PROMOTE (R357, R358, R362, R365): the levels of ARB_IN and PAIR_ACT_I at the decision. -/
def runOrphanPromote (arb act : Bool) (s : State) : State :=
  let s := (s.putB COUCH.PAIR_STATUS_ARB arb).putB COUCH.PAIR_STATUS_ACT_I act
  if s.mode = 5 && s.pairState == 6 && s.flag COUCH.PAIR_STATUS_PROMOTABLE && s.flag COUCH.PAIR_CFG_AUTO_PROMOTE && arb && !act &&
      servingMode s.couch.peerMode then
    { s with couch := { s.couch with promote := some ⟨s.couch.peerMode, .auto⟩ } }
  else s

/-- HELD_SHEETS_END (R363): from the third sheet every value is the unit's own. -/
def runHeldSheetsEnd (s : State) : State :=
  match s.couch.heldFrom with
  | none => s
  | some n =>
    if s.sheetNo < n + 2 then s
    else
      let s := { s with couch := { s.couch with heldFrom := none, block := if s.mode = 5 then s.couch.block else none } }
      let s := { s with bound := { s.bound with heldMark := none } }
      s.put COUCH.PAIR_STATUS_HELD 0

/-- DRILL_LEFT at a sheet edge (R364). -/
def State.drillEdge (s : State) : State :=
  match s.couch.drillEnd with
  | none => s
  | some t => s.put COUCH.DRILL_LEFT (((t - s.mono + (secU : Int) - 1) / (secU : Int)).toNat)

/-- DRILL_EXPIRE (R364): a handover back if the peer is SYNCED, else DRILL_NO_RETURN. -/
def runDrillExpire (s : State) : State :=
  match s.couch.drillEnd with
  | none => s
  | some t =>
    if !s.reaches t then s
    else
    let s := ({ s with couch := { s.couch with drillEnd := none } }).put COUCH.DRILL_LEFT 0
    if !servingMode s.mode then s
    else if s.pairState = 3 ∧ s.couch.hand.isNone = true then s.startHandover none .auto 0
    else s.pairEvent .auto 0x0B0D 0 0 0 0

/-! ### Conflicts (R365, R366) -/

/-- Whether a unit stays on a conflict, and whether the two PRIO are equal or unknown. -/
def State.conflictStay (s : State) (arb : Bool) : Bool × Bool :=
  match s.couch.peerId with
  | none => (arb, true)
  | some id =>
    let own := s.flag COUCH.PAIR_CFG_PRIO
    if own = s.couch.peerPrio then (decide (s.get BOUND.WM_ENGINE_ID ≤ id), true) else (!own, false)

/-- SPLIT_BRAIN (R365, R366): a serving unit has found that its peer serves; `readback` says that its heartbeat pins read back other than
driven, `arb` is the level of ARB_IN at the decision. A conflict that lasts is one event (R6). -/
def runSplitBrain (readback arb : Bool) (s : State) : State :=
  if !servingMode s.mode || !s.flag COUCH.PAIR_CFG_EN ||
      !(readback || s.couch.foreign || decide (s.get COUCH.PAIR_CFG_ACT_CONFLICT ≤ s.couch.actHigh)) then s
  else if s.flag COUCH.PAIR_STATUS_CONFLICT then { s with couch := { s.couch with foreign := false, actHigh := 0, clash := true } }
  else
    let r := s.conflictStay arb
    let s := { s with couch := { s.couch with foreign := false, actHigh := 0, clash := true, quiet := s.couch.quiet || !r.1 } }
    let s := ((s.putB COUCH.PAIR_STATUS_ARB arb).put COUCH.PAIR_STATUS_CONFLICT 1).inc COUCH.CONFLICT_CNT
    let s := s.pairEvent .auto 0x0B08 0 (if r.1 then 0 else 1) 0 1
    if r.2 then s.pairEvent .auto 0x0B02 0 (s.get COUCH.PAIR_CFG_PRIO) 0 (s.couch.peerId.getD 0) else s

/-- The pair signals and counts at a sheet edge (R355, R356, R365): CONFLICT clears where the sheet has shown none (R6). -/
def State.couchPins (s : State) (act arb : Bool) : State :=
  let s := (s.putB COUCH.PAIR_STATUS_ACT_I act).putB COUCH.PAIR_STATUS_ARB arb
  let en := s.flag COUCH.PAIR_CFG_EN
  let s := if en && s.mode != 5 then s.charge0 5 else s
  let done := s.flag COUCH.PAIR_STATUS_CONFLICT && !s.couch.clash && !s.couch.foreign && (!act || !en || !servingMode s.mode)
  let s := if done then s.put COUCH.PAIR_STATUS_CONFLICT 0 else s
  { s with couch := { s.couch with clash := false, actHigh := if en && servingMode s.mode && act then s.couch.actHigh + 1 else 0, firstReturn := none } }

/-- The engine's own mode changes at an edge (R362, R365): a promotion, never while PAIR_ACT_I is high, after the last frame received has
been applied; and QUIET on a conflict. -/
def State.couchModes (s : State) : State :=
  let s := match s.couch.promote with
    | some p =>
      let s := { s with couch := { s.couch with promote := none } }
      if s.mode = 5 ∧ s.flag COUCH.PAIR_STATUS_ACT_I = false then (if s.couch.dual.isSome then s.couchApply else s).promoteNow p else s
    | none => s
  if s.couch.quiet then
    let s := { s with couch := { s.couch with quiet := false } }
    if servingMode s.mode then s.setMode 0 .auto else s
  else s

end Sys2Proof.Machine
end

