-- ==== Sys2Proof/Machine/Spare.lean ====
section
/-! DEFINITION. Wear, BIST and promotion of spares (chapter 20). -/

namespace Sys2Proof.Machine

/-! ### Units and monitors (R469, R470, Table 20-7) -/

/-- How many units a target has: banks, lanes, pipelines, delay lines. -/
def targetUnits (t : Nat) : Nat := nth [64, 136, 8, 96] t 0

/-- What a wear monitor covers, as (target, unit): nothing that has a spare from 113 up. -/
def monitorUnits (m : Nat) : List (Nat × Nat) :=
  if m < 64 then [(0, m)]
  else if m < 81 then (List.range 8).map (fun i => (1, 8 * (m - 64) + i))
  else if m < 89 then [(2, m - 81)]
  else if m < 113 then (List.range 4).map (fun i => (3, 4 * (m - 89) + i))
  else []

/-- Whether a monitor past its threshold counts for fault 18: not when every unit that it covers is retired (R469). -/
def State.monitorCounts (s : State) (m : Nat) : Bool :=
  let l := monitorUnits m
  s.flag (SPARE.WEAR_PAST m) && (l.isEmpty || l.any (fun u => !s.spare.retired.contains u))

/-- WEAR_MEASURE (R469): once in every 1,024 s of TAI every monitor is measured: its slowdown in ppm, which comes in, less the factory
baseline; one at the threshold sets PAST, and its units are due for BIST. A difference that PPM cannot hold is left open (DESIGN CHOICE). -/
def runWearMeasure (ppm : List Int) (s : State) : State :=
  let span := s.units / 67108864000000
  if s.spare.wearAt = some span then s
  else s.tryPay 4 2560 (.wearMeasure ppm) 0 (fun s =>
    (List.range 128).foldl (fun s m =>
      let d := nth ppm m 0 - Config.wearBaseline m
      let r := if 0 ≤ d ∧ d < 65536 then (d.toNat, s) else (s.free.1 % 65536, s.free.2)
      let s := r.2.put (SPARE.WEAR_PPM m) r.1
      if s.get SPARE.SPARE_CFG_WEAR_THRESH ≤ r.1 ∧ s.flag (SPARE.WEAR_PAST m) = false then
        (s.puts [(SPARE.WEAR_PAST m, 1), (SPARE.WEAR_DUE m, if (monitorUnits m).isEmpty then 0 else 1)]).event 0x1005 m 1
      else s) { s with spare := { s.spare with wearAt := some span } })

/-! ### BIST (R471) -/

/-- The logical channel that a lane serves. -/
def State.laneChan (s : State) (lane : Nat) : Option Nat :=
  (List.range 136).find? (fun n => (s.chan n).lane == lane && !s.flag (GNSSC.CH_STAT_RETIRED n))

/-- Whether a unit can be tested: a lane only while its logical channel is IDLE. -/
def State.canTest (s : State) (u : Nat × Nat) : Bool := u.1 != 1 || (s.laneChan u.2).all (fun n => s.chState n == 0)

/-- BIST starts on units: those that cannot be tested are skipped, and a delay line closes its channel's windows with ABORTED. -/
def State.startBist (s : State) (cmd : Option Hdr) (units : List (Nat × Nat)) : State :=
  let go := units.filter s.canTest
  let s := go.foldl (fun s u => if u.1 = 3 then s.abortWindows (u.2 / 2) else s) s
  ({ s with spare := { s.spare with bist := some ⟨cmd, go, units.length - go.length⟩ } }).putB SPARE.SPARE_STATUS_BIST_RUN true

/-- BIST_RUN (R2, R471): in QUIET only; completes when BIST is done. -/
def runBistRun (h : Hdr) (target index : Nat) (s : State) : State :=
  s.command h 0x05 false (.bistRun h target index) 0 (fun s =>
    if s.mode ≠ 0 then s.complete h 0x05 stMODE 0
    else if 3 < target ∨ (index ≠ 0xFFFF ∧ targetUnits target ≤ index) then s.complete h 0x05 stINVALID 0
    else if s.spare.bist.isSome then s.complete h 0x05 stBUSY 0
    else
      let us := if index = 0xFFFF then List.range (targetUnits target) else [index]
      (s.startBist (some h) (us.map (fun u => (target, u)))).journalCmd h 0x05 (target + 65536 * index) 0)

/-- The stock of a BIST run (Table 20-12): by the page for the vat, a bank having a line in each of the 32,768. -/
def bistStock (r : BistRun) : Nat :=
  150 * ((r.units.filter (fun u => u.1 != 0)).length + (if r.units.any (fun u => u.1 == 0) then 32768 else 0))

/-- Whether a delay line fails its 2¹⁶ random edges (R471): NP outside 150 to 190, or a class A line that does not reach LOCKED. -/
def lineFails (l : Nat × Nat × Bool) : Bool := decide (l.2.1 < 150) || decide (190 < l.2.1) || (classA (l.1 / 2) && !l.2.2)

/-- BIST_DONE (R470, R471): units that failed are counted and become candidates, the event is posted, and a command completes. `fails` holds
the failures of march tests, lanes and known answers as (target, unit, column), `lines` what each delay line gave: NP, and LOCKED. -/
def runBistDone (fails : List (Nat × Nat × Nat)) (lines : List (Nat × Nat × Bool)) (s : State) : State :=
  match s.spare.bist with
  | none => s
  | some r => s.tryPay 4 (bistStock r) (.bistDone fails lines) 0 (fun s =>
    let found := fails.filter (fun f => f.1 != 3) ++ (lines.filter lineFails).map (fun l => (3, l.1, 0))
    let bad := found.filter (fun f => r.units.contains (f.1, f.2.1))
    let s := (s.incBy SPARE.BIST_FAIL_CNT bad.length)
    let s := bad.foldl (fun s f => s.addCandidate f.1 f.2.1 f.2.2) s
    let s := (List.range 113).foldl (fun s m =>
      if s.flag (SPARE.WEAR_DUE m) && (monitorUnits m).all (fun u => r.units.contains u || s.spare.retired.contains u) then
        s.put (SPARE.WEAR_DUE m) 0 else s) s
    let s := ({ s with spare := { s.spare with bist := none } }).putB SPARE.SPARE_STATUS_BIST_RUN false
    let s := s.event 0x1007 0 bad.length
    match r.cmd with
    | some h => s.complete h 0x05 stOK (bad.length % 2 ^ 32 + 2 ^ 32 * r.skipped)
    | none => s)

/-! ### Promotion (R91, R120, R335, R411, R472, R473) -/

/-- A physical pipeline that serves no logical one and is not retired. -/
def State.freePipe (s : State) : Option Nat :=
  (List.range 8).find? (fun p => !bitOf (s.get KEY.PIPE_MAP_RETIRED) p && (List.range 6).all (fun l => bits (s.get KEY.PIPE_MAP_MAP) (4 * l) 4 != p))

/-- The spare delay line that is free: 0 or 1. -/
def State.freeLine (s : State) : Option Nat :=
  if s.get TDC.SPARE_MAP_SPARE0 = 127 then some 0 else if s.get TDC.SPARE_MAP_SPARE1 = 127 then some 1 else none

/-- Whether a spare for a unit remains, and for a lane an IDLE logical channel that can give up its lane (R473). -/
def State.spareFor (s : State) (target unit : Nat) : Bool :=
  if target = 0 then (s.freeColumn unit).isSome && s.get SPARE.SPARE_LEFT_VAT != 0
  else if target = 1 then s.get SPARE.SPARE_LEFT_LANES != 0 && (List.range 136).any (fun n => s.chState n == 0 && !s.flag (GNSSC.CH_STAT_RETIRED n))
  else if target = 2 then s.get SPARE.SPARE_LEFT_AES != 0
  else s.freeLine.isSome

/-- A spare of a kind is used up. -/
def State.lessSpare (s : State) (f : Fld) : State := s.put f (s.get f - 1)

/-- The mapping of a unit changes; old and new mapping. -/
def State.remap (s : State) (p : Promo) : (Nat × Nat) × State :=
  let u := p.index
  if p.target = 0 then
    match s.freeColumn u with
    | some k => ((p.column, k), (s.startRepair u k p.column p.origin).lessSpare SPARE.SPARE_LEFT_VAT)
    | none => ((0, 0), s)
  else if p.target = 1 then
    let to_ := ((List.range 136).reverse.find? (fun n => s.chState n == 0 && !s.flag (GNSSC.CH_STAT_RETIRED n))).map (fun n => (s.chan n).lane)
    ((u, to_.getD u), (s.moveLane u).lessSpare SPARE.SPARE_LEFT_LANES)
  else if p.target = 2 then
    let s := (s.lessSpare SPARE.SPARE_LEFT_AES).lessSpare KEY.KEY_STATUS_SPARES
    match (List.range 6).find? (fun l => bits (s.get KEY.PIPE_MAP_MAP) (4 * l) 4 == u), s.freePipe with
    | some l, some q =>
      let s := s.put KEY.PIPE_MAP_MAP (putBits (s.get KEY.PIPE_MAP_MAP) (4 * l) 4 q)
      ((u, q), s.put KEY.PIPE_MAP_RETIRED (putBit (s.get KEY.PIPE_MAP_RETIRED) u true))
    | _, _ => ((u, u), s.put KEY.PIPE_MAP_RETIRED (putBit (s.get KEY.PIPE_MAP_RETIRED) u true))
  else
    match s.freeLine with
    | none => ((0, 0), s)
    | some k =>
      let n := u / 2
      let s := (s.put (if k = 0 then TDC.SPARE_MAP_SPARE0 else TDC.SPARE_MAP_SPARE1) u).lessSpare SPARE.SPARE_LEFT_LINES
      let s := s.putB (TDC.CH_STAT_SPARED n) true
      let s := if classA n then s.setLine n (u % 2 == 1) { dll := if s.flag (TDC.CH_CFG_ENABLE n) && s.flag SYN.SYN_STATUS_SP_LOCK then 1 else 0 }
        else s.setCh n { s.ch n with histE := if u % 2 = 0 then [] else (s.ch n).histE, histF := if u % 2 = 0 then (s.ch n).histF else [] }
      ((u, k), s)

/-- A promotion takes effect (R472): counted, posted, journaled with the old and the new mapping. -/
def State.promote (s : State) (p : Promo) : State :=
  let r := (s.charge0 2500).remap p
  let s := r.2.inc SPARE.PROMOTE_CNT
  let s := { s with spare := { s.spare with
    retired := (p.target, unitKey p.target p.index p.column) :: s.spare.retired
    cands := s.spare.cands.filter (fun c => !(c.1 == p.target && c.2.1 == p.index && c.2.2 == p.column)) } }
  ((s.eventIn 0x1006 p.index p.target).journal p.origin 6 (p.target * 65536 + p.index) r.1.1 r.1.2 0x1006).showCands

/-- SPARE_PROMOTE (R2, R471 to R473): the unit named is promoted at the next edge. -/
def runSparePromote (h : Hdr) (target index : Nat) (s : State) : State :=
  s.command h 0x06 false (.sparePromote h target index) 0 (fun s =>
    let col := if target = 0 then s.get (VAT.BANK_HARD_BANK_LASTCOL index) else 0
    if s.mode ≠ 0 then s.complete h 0x06 stMODE 0
    else if 3 < target ∨ targetUnits target ≤ index ∨ s.spare.retired.contains (target, unitKey target index col) then s.complete h 0x06 stINVALID 0
    else if s.vatc.repair.isSome then s.complete h 0x06 stBUSY 0
    else if !s.spareFor target index then s.complete h 0x06 stNOTREADY 0
    else
      let s := { s with spare := { s.spare with due := s.spare.due ++ [Promo.mk target index col h.origin] } }
      (s.journalCmd h 0x06 (target + 65536 * index) 0).complete h 0x06 stOK 0)

/-- The candidates in the order of a pass (R472): vat columns, pipelines, delay lines, lanes. -/
def State.passOrder (s : State) : List (Nat × Nat × Nat) := [0, 2, 3, 1].flatMap (fun t => s.spare.cands.filter (fun c => c.1 == t))

/-- PROMOTION_PASS (R472): at the edge that enters QUIET and every 64 s in QUIET, BIST runs on the units that are due, and the candidates
are promoted after it, one at each edge. -/
def runPromotionPass (s : State) : State :=
  if !s.flag SPARE.SPARE_CFG_AUTO || s.mode != 0 || s.spare.pass || !s.spare.passAt.all (fun t => s.reaches (t + 64 * 65536000000000)) then s
  else
    let s := ({ s with spare := { s.spare with pass := true, passAt := some s.mono } }).putB SPARE.SPARE_STATUS_PASS_RUN true
    let due := ((List.range 113).filter (fun m => s.flag (SPARE.WEAR_DUE m))).flatMap monitorUnits
    let due := due.filter (fun u => !s.spare.retired.contains u)
    if due.isEmpty || s.spare.bist.isSome then s else s.startBist none due

/-- A kind has no spare left for a candidate: reported once (R473). -/
def State.noSpare (s : State) (t : Nat) : State :=
  if s.spare.exhausted.contains t then s
  else ({ s with spare := { s.spare with exhausted := t :: s.spare.exhausted } }).event 0x1008 t t

/-- The pass ends. -/
def State.endPass (s : State) : State := ({ s with spare := { s.spare with pass := false } }).putB SPARE.SPARE_STATUS_PASS_RUN false

/-- Promotions at a sheet edge (R472): the commanded ones that are due, and one candidate of a pass; none outside QUIET, and no vat repair
beside another. -/
def State.promoEdge (s : State) : State :=
  let due := s.spare.due
  let quiet := s.mode == 0
  let s := { s with spare := { s.spare with due := [], passAt := if quiet then s.spare.passAt else none } }
  let s := due.foldl (fun s (p : Promo) =>
    if quiet && s.spareFor p.target p.index && !(p.target == 0 && s.vatc.repair.isSome) then s.promote p else s) s
  if !s.spare.pass then s
  else if !quiet then s.endPass
  else if s.spare.bist.isSome then s
  else
    let l := s.passOrder
    let s := l.foldl (fun s c => if s.spareFor c.1 c.2.1 then s else s.noSpare c.1) s
    match l.find? (fun c => s.spareFor c.1 c.2.1) with
    | none => s.endPass
    | some c => if c.1 = 0 ∧ s.vatc.repair.isSome then s else s.promote ⟨c.1, c.2.1, c.2.2, .auto⟩

end Sys2Proof.Machine
end

