-- ==== Sys2Proof/Machine/Sizing.lean ====
section
/-! DEFINITION. The sizing banks (chapter 20). -/

namespace Sys2Proof.Machine

/-! ### Items as bytes (R465, Table 20-6) -/

/-- LEN of an item, 0 where Table 20-6 has none. -/
def itemLen (item : Nat) : Nat :=
  if item < 0x20 then 732 else if item < 0x30 then 860
  else if 0x100 ≤ item ∧ item < 0x108 then 44 else if item = 0x200 then 136 else if item = 0x201 then 52 else 0

/-- An item with its header and CRC (R465). -/
def itemBytes (item gen sizedAt : Nat) (body : List Byte) : List Byte :=
  let b := leBytes 2 item ++ leBytes 2 (body.length + 20) ++ leBytes 4 gen ++ leBytes 6 sizedAt ++ leBytes 2 0 ++ body
  b ++ leBytes 4 (crc32 b)

/-- The body of an item of the factory bank; none of item 0x201. -/
def factoryBody (item : Nat) : Option (List Byte) :=
  if item < 0x20 then
    some (leBytes 4 (ofS 32 (Config.factoryDelay item)) ++ leBytes 4 (Config.factoryU item) ++
      inlBytes item ⟨0, 0, (List.range 320).map (Config.factoryInl item)⟩)
  else if item < 0x30 then
    some (leBytes 4 (ofS 32 (Config.factoryDelay item)) ++ leBytes 4 (Config.factoryU item) ++
      binBytes item ⟨0, 0, 0, 0, 0, (List.range 192).map (Config.factoryTap item 0), (List.range 192).map (Config.factoryTap item 1)⟩)
  else if 0x100 ≤ item ∧ item < 0x108 then
    let p := item - 0x100
    some (leBytes 4 (ofS 32 (Config.factoryPort p 0)) ++ leBytes 4 (ofS 32 (Config.factoryPort p 1)) ++ leBytes 8 0 ++
      leBytes 4 (Config.factoryPort p 2).toNat ++ leBytes 4 0)
  else if item = 0x200 then some (gnssBody Config.factoryGnss)
  else none

/-- An item of a bank (R466). -/
def State.bankItem (s : State) (user : Bool) (item : Nat) : Option (List Byte) :=
  if user then (s.userItem item).map (fun (i : SizItem) => itemBytes i.item i.gen i.sizedAt i.body)
  else (factoryBody item).map (fun b => itemBytes item (s.get SIZING.SIZ_FGEN) (Config.factorySizedAt item) b)

/-- SIZ_BUF as bytes. -/
def State.sizBuf (s : State) : List Byte := (List.range 256).flatMap (fun i => leBytes 4 (s.get (SIZING.SIZ_BUF i)))

/-! ### Loading and reading (R466, R467) -/

/-- The result of the checks on an item in SIZ_BUF that a load names (R466): 2 ITEM, 3 LEN, 1 CRC; a table's own CRC counts (R81). -/
def loadResult (item : Nat) (b : List Byte) : Nat :=
  let n := itemLen item
  if n = 0 ∨ leAt b 0 2 ≠ item then 2
  else if leAt b 2 2 ≠ n then 3
  else if leAt b (n - 4) 4 ≠ crc32 (b.take (n - 4)) then 1
  else if item < 0x30 ∧ leAt b (n - 36) 4 ≠ crc32 ((b.take (n - 36)).drop 24) then 1
  else 0

/-- SIZ_LOAD (R466, R467): under the unlock, in QUIET and SIZING, and not while sizing runs; the item in SIZ_BUF is checked and takes effect
at the next edge. -/
def runSizLoad (o : Origin) (v stage : Nat) (s : State) : State :=
  let item := v % 4096
  let work := fun (s : State) => s.tryPay 3 400 (.sizLoad o v) 1 (fun s =>
    let b := s.sizBuf
    let r := loadResult item b
    let s := s.puts [(SIZING.SIZ_STATUS_BUSY, 0), (SIZING.SIZ_STATUS_RESULT, r)]
    if r = 0 then s.sizeItem o item (leAt b 8 6) ((b.take (itemLen item - 4)).drop 16) else s)
  if stage ≠ 0 then work s
  else if o = .pf1 then s.inc HIF.PF1_WRITE_DENY_CNT
  else
    let a := SIZING.SIZ_LOAD.key / 32
    let u := s.useUnlock o
    let s := u.2
    if s.flag SIZING.SIZ_STATUS_BUSY then ((s.charge0 60).inc GLB.POSTED_DROP_CNT).journal o 1 a (s.readReg a) v 0
    else if !u.1 then s.refuseWrite o a v
    else if 1 < s.mode then (s.refuseWrite o a v).put SIZING.SIZ_STATUS_RESULT 4
    else if s.sizingRuns then s.put SIZING.SIZ_STATUS_RESULT 5
    else
      let old := s.readReg a
      let s := (s.put SIZING.SIZ_LOAD item).journalWrite o a old item
      work (s.putB SIZING.SIZ_STATUS_BUSY true)

/-- SIZ_READ (R466): a write of GO copies the item that SIZ_ITEM names into SIZ_BUF. -/
def runSizRead (o : Origin) (v stage : Nat) (s : State) : State :=
  let work := fun (s : State) => s.tryPay 3 400 (.sizRead o v) 1 (fun s =>
    match s.bankItem (s.flag SIZING.SIZ_ITEM_BANK) (s.get SIZING.SIZ_ITEM_ITEM) with
    | none => s.puts [(SIZING.SIZ_STATUS_BUSY, 0), (SIZING.SIZ_STATUS_RESULT, 2)]
    | some b =>
      let s := (List.range ((b.length + 3) / 4)).foldl (fun s i => s.put (SIZING.SIZ_BUF i) (leAt b (4 * i) 4)) s
      s.puts [(SIZING.SIZ_STATUS_BUSY, 0), (SIZING.SIZ_STATUS_RESULT, 0)])
  if stage ≠ 0 then work s
  else s.busTouch o (fun s =>
    if bitOf v 0 = false ∨ s.flag SIZING.SIZ_STATUS_BUSY = true then s else work (s.putB SIZING.SIZ_STATUS_BUSY true))

/-! ### Changes of the user bank (R464, R467) -/

/-- The registers that show the GNSS delays in force. -/
def State.showGnss (s : State) : State :=
  ((s.puti GNSSN.D_A (s.gnssField 0)).puti GNSSN.D_B (s.gnssField 1)).puts
    [(GNSSN.U_A, (s.gnssField 2).toNat), (GNSSN.U_B, (s.gnssField 3).toNat)]

/-- What a change of an item in force changes elsewhere: a channel's table and delay, a port's delays, the GNSS delays, the position. -/
def State.itemForce (s : State) (item : Nat) : State :=
  let it := s.userItem item
  if item < 0x30 then
    let t := it.map (fun (i : SizItem) => i.body.drop 8)
    let c := s.ch item
    let s := s.setCh item { c with
      inl := if item < 0x20 then t.map inlOfBytes else c.inl
      bin := if item < 0x20 then c.bin else t.map binOfBytes
      due := none
      fresh := false
      tableSheet := s.sheetNo }
    (s.puti (TDC.CH_DELAY item) (s.chDelay item)).put (TDC.CH_STAT_GEN item) ((t.map (fun b => leAt b 0 4)).getD 0 % 256)
  else if 0x100 ≤ item ∧ item < 0x108 then s.showPort (item - 0x100)
  else if item = 0x200 then s.showGnss
  else
    match it with
    | none => s
    | some i =>
      let b := i.body
      let s := s.puts [(GNSSN.POS_X, leAt b 0 8), (GNSSN.POS_Y, leAt b 8 8), (GNSSN.POS_Z, leAt b 16 8), (GNSSN.POS_SIGMA, leAt b 24 4),
        (GNSSN.NAV_STATUS_POS_VALID, 1)]
      { s with nav := { s.nav with posDue := true } }

/-- SIZ_VALID shows which user items are valid. -/
def State.showValid (s : State) : State :=
  let has := fun (i : Nat) => (s.userItem i).isSome
  s.puts [(SIZING.SIZ_VALID0, maskOf ((List.range 32).filter has)), (SIZING.SIZ_VALID1_CH, maskOf ((List.range 16).filter (fun i => has (32 + i)))),
    (SIZING.SIZ_VALID1_PORT, maskOf ((List.range 8).filter (fun p => has (0x100 + p)))), (SIZING.SIZ_VALID1_GNSS, if has 0x200 then 1 else 0),
    (SIZING.SIZ_VALID1_POS, if has 0x201 then 1 else 0)]

/-- Whether an item lies in a restore's SCOPE (R467). -/
def inScope (scope item : Nat) : Bool :=
  let m := if scope = 0 then 7 else scope
  (bitOf m 0 && decide (item < 0x30)) || (bitOf m 1 && item == 0x200) || (bitOf m 2 && decide (0x100 ≤ item) && decide (item < 0x108))

/-- The user bank at a sheet edge (R464, R466, R467): what is due takes effect, UGEN counts the edge, each change is journaled. -/
def State.sizingEdge (s : State) : State :=
  let due := s.siz.due
  let gen := s.get SIZING.SIZ_UGEN
  let changes := due.any (fun (d : SizDue) => match d with
    | .load _ _ _ _ => true
    | .restore _ scope => s.siz.user.any (fun (i : SizItem) => inScope scope i.item))
  let new := if changes then gen + 1 else gen
  let s := ({ s with siz := { s.siz with due := [] } }).put SIZING.SIZ_UGEN new
  let s := due.foldl (fun s (d : SizDue) => match d with
    | .load o item at_ body =>
      let rest := s.siz.user.filter (fun (i : SizItem) => i.item != item)
      let s := { s with siz := { s.siz with user := rest ++ [SizItem.mk item new at_ body] } }
      (s.itemForce item).journal o 8 item gen new 0
    | .restore o scope =>
      let gone := (s.siz.user.filter (fun (i : SizItem) => inScope scope i.item)).map (fun (i : SizItem) => i.item)
      let s := { s with siz := { s.siz with user := s.siz.user.filter (fun (i : SizItem) => !inScope scope i.item) } }
      (gone.foldl State.itemForce s).journal o 8 0xFFFF gen new 0) s
  if due.isEmpty then s else s.showValid

end Sys2Proof.Machine
end

