-- ==== Sys2Proof/Machine/Glb.lean ====
section
/-! DEFINITION. The unlock, votes, counter clears, and registers of TIME and TDC with behaviour of their own (chapters 2 to 4, 20). -/

namespace Sys2Proof.Machine

/-! ### The unlock (R449) -/

/-- GLB_STATUS shows the unlock of an origin. -/
def State.showUnlock (s : State) (o : Origin) (b : Bool) : State :=
  if o = .mspi then s.putB GLB.GLB_STATUS_UNLOCK_MSPI b else if o = .pf0 then s.putB GLB.GLB_STATUS_UNLOCK_PF0 b else s

/-- GLB_UNLOCK_WRITE (R449, R371): the key arms the unlock of the origin, any other value disarms it. -/
def runGlbUnlockWrite (o : Origin) (v : Nat) (s : State) : State :=
  if o = .pf1 then s.inc HIF.PF1_WRITE_DENY_CNT
  else
    let rest := s.glb.unlocks.filter (fun (u : Unlock) => u.origin != o)
    if v % 2 ^ 32 = 0xC0A7 then ({ s with glb := { s.glb with unlocks := rest ++ [Unlock.mk o 0] } }).showUnlock o true
    else ({ s with glb := { s.glb with unlocks := rest } }).showUnlock o false

/-- A sheet edge counts for the unlocks that are armed (R449). -/
def State.unlockEdge (s : State) : State :=
  let l : List Unlock := s.glb.unlocks.map (fun (u : Unlock) => { u with edges := u.edges + 1 })
  { s with glb := { s.glb with unlocks := l } }

/-- UNLOCK_LAPSE (R449): an unlock unused at the second sheet edge after it was armed is gone. -/
def runUnlockLapse (o : Origin) (s : State) : State :=
  if s.glb.unlocks.any (fun (u : Unlock) => u.origin == o && decide (2 ≤ u.edges)) then
    ({ s with glb := { s.glb with unlocks := s.glb.unlocks.filter (fun (u : Unlock) => u.origin != o) } }).showUnlock o false
  else s

/-! ### Votes (R451) -/

/-- A mismatch of a triplicated field is recorded, counted, posted and journaled; of no two copies that agree, the failure too. -/
def State.votePost (s : State) (f : Fld) (minority kept : Nat) (fail : Bool) : State :=
  let a := f.key / 32
  let s := ((s.puts [(GLB.GLB_STATUS_VOTE_MISMATCH, 1), (GLB.VOTE_ADDR, a)]).inc GLB.VOTE_CNT).eventIn 0x1001 0 a
  let s := if fail then (s.put GLB.GLB_STATUS_VOTE_FAIL 1).eventIn 0x1002 0 a else s
  s.journal .auto 11 a minority kept (if fail then 0x1002 else 0x1001)

/-- The vote of a triplicated field, at a sheet edge or on a read. -/
def State.voteFld (s : State) (f : Fld) : State :=
  let a := s.regs.get f
  let b := s.rwtB.get f
  let c := s.rwtC.get f
  if s.glb.voteFailed.contains f.key || (a == b && b == c) then s
  else
    let k := vote3 a b c (safeOf f)
    if voteFails a b c then
      ({ s with glb := { s.glb with voteFailed := f.key :: s.glb.voteFailed } }).votePost f 0 k true
    else (s.putT f k).votePost f (if a = k then (if b = k then c else b) else a) k false

/-- Every triplicated field is voted. -/
def State.votes (s : State) : State := (rwtFields.map (·.1)).foldl State.voteFld (s.charge0 25)

/-! ### Counters (R453) -/

/-- The event counters of a block: where each stands. -/
def cntFlds (b : Nat) : List Fld :=
  (((blocks.getD b (0, [])).2).filter (fun r => r.cnt && r.half != .hi)).flatMap (fun r =>
    (List.range (max r.n1 1)).flatMap (fun i => (List.range (max r.n2 1)).map (fun j =>
      r.fld (r.addr + i * r.s1 + j * r.s2) (i * max r.n2 1 + j))))

/-- GLB_CNT_CLEAR (R453): with GO, every event counter of the block is cleared at the next edge; the write is journaled. -/
def runGlbCntClear (o : Origin) (v : Nat) (s : State) : State :=
  s.busTouch o (fun s =>
    if bitOf v 31 then
      { (s.charge0 60).journal o 0 0x24 0 (v % 2 ^ 32) 0 with glb := { s.glb with clearDue := s.glb.clearDue ++ [v % 32] } }
    else s)

/-! ### Registers with behaviour of their own in TIME and TDC (R50, R86) -/

/-- TIME_SNAP (R50). -/
def runTimeSnap (o : Origin) (s : State) : State := s.busTouch o snapNow

/-- CH_CFG_WRITE (R76, R86, R94): a posted write of CH_CFGn or CH_PRESCn; every open window that names the channel closes with ABORTED. -/
def runChCfgWrite (o : Origin) (ch : Nat) (presc : Bool) (v : Nat) (s : State) : State :=
  s.busPost o ((if presc then 0x40104 else 0x40100) + 0x20 * ch) v true (fun s => s.abortWindows ch)

/-- What follows when CH_CFGn or CH_PRESCn has been applied (R71, R76): the first edge passes, and the delay lines are powered. -/
def State.chCfgApplied (s : State) (ch : Nat) : State :=
  let s := s.setCh ch { s.ch ch with skip := 0 }
  s.dllPower ch (s.flag (TDC.CH_CFG_ENABLE ch) && s.flag SYN.SYN_STATUS_SP_LOCK)

/-- WINDOW_DISARM_WRITE (R86): a write of ARM 0 disarms the window, and an open one closes with ABORTED. -/
def runWindowDisarmWrite (o : Origin) (window v : Nat) (s : State) : State :=
  s.busStore o (0x40800 + 0x20 * window) v true true (fun s =>
    if s.get (TDC.WIN_CFG_ARM window) = 0 then s.disarmWin window else s)

/-! ### NCO_HOP (R29, R114, R206) -/

/-- DECKLE_NCO_HOP (R29, R114): the record's VALUE is loaded into a channel's code or carrier NCO, or added to a calender's pending phase, at
TICK. With it come the samples before TICK, in the form of `SclkIn`, that the engine has not yet been given. -/
def runDeckleNcoHop (i : Nat) (samples : List Nat) (s : State) : State :=
  s.withEntry i 5 (fun e s =>
    let s := s.charge0 40
    match s.schedFetch e.buf (e.hdr.loopOff + 16 * bits e.entry.opa 0 16) 16 with
    | (none, s) => s
    | (some b, s) =>
      let t := bits e.entry.opa 16 8
      let v := toS 64 (leAt b 8 8)
      if leAt b 0 1 = 2 then s.addPhase t v
      else (s.feed (sigBand (s.chSig t)) samples).hopChan t (leAt b 0 1 == 1) v)

/-! ### The user page of the performance counters (R462) -/

/-- A 32-bit read in BAR4 by either function (R462): counter k at 8k, low word first; other offsets, and every offset while USER_EN is 0,
read 0. -/
def State.bar4Read (s : State) (off : Nat) : Nat :=
  if s.flag PMU.PMU_CFG && decide (off < 256) && off % 4 == 0 then
    let v := s.get (PMU.PMU_CNT (off / 8))
    if off % 8 = 0 then v % 2 ^ 32 else v / 2 ^ 32 % 2 ^ 16
  else 0

/-- A write in BAR4 is ignored (R462). -/
def State.bar4Write (s : State) (_off _v : Nat) : State := s

end Sys2Proof.Machine
end

