-- ==== Sys2Proof/Machine/Edge.lean ====
section
/-! DEFINITION. The edge of a sheet (chapters 2, 3, 20). -/

namespace Sys2Proof.Machine

/-! ### The mode at a sheet edge (R1, R2, R20, R386, R451) -/

/-- A sizing run of delay lines is abandoned (R2): its channels measure again, its command completes ABORTED. -/
def State.abortTdcSize (s : State) : State :=
  match s.tdc.sizing with
  | none => s
  | some z =>
    let s := z.left.foldl (fun s n => s.setCh n { s.ch n with sizing := false, histE := [], histF := [], skip := 0 }) s
    (({ s with tdc := { s.tdc with sizing := none } }).putB TDC.TDC_STATUS_SIZING_RUN false).complete z.cmd 0x32 stABORTED 0

/-- The mode changes with what the change ends: a survey outside QUIET and SIZING (R140), sizing runs outside SIZING (R2), and the role of
the unit in its pair (R340). -/
def State.changeMode (s : State) (m : Nat) (o : Origin) : State :=
  let old := s.mode
  let s := s.setMode m o
  let s := if s.nav.survey.isSome && decide (1 < m) then s.endSurvey 3 stABORTED else s
  let s := if m = 1 then s else s.abortDelay.abortPortSize.abortTdcSize
  if m = 5 ∧ old ≠ 5 then s.mirrorIn else if old = 5 ∧ m ≠ 5 then s.mirrorOut false else s

/-- A pending MODE_SET takes effect and completes (R386). -/
def State.modeEdge (s : State) : State :=
  match s.glb.pendMode with
  | none => s
  | some p =>
    let s := (({ s with glb := { s.glb with pendMode := none } }).showMode).changeMode p.mode p.origin
    match p.cmd with
    | some h => s.complete h 0x02 stOK s.sheetNo
    | none => s

/-- The safe values of votes that failed are written into all three copies (R451). -/
def State.safeValues (s : State) : State :=
  let l := rwtFields.filter (fun p => s.glb.voteFailed.contains p.1.key)
  let s := { s with glb := { s.glb with voteFailed := [] } }
  l.foldl (fun s p => if p.1.key = GLB.GLB_MODE_MODE.key then s.changeMode p.2 .auto else s.putT p.1 p.2) s

/-! ### Steps (R54, R55, R58 to R61, R488) -/

/-- The next sheet edge after a step to a value (R55): the smallest multiple of 125 µs at least 62.5 µs on. -/
def stepNext (v : Nat) : Nat := (v + nsU 62500 + nsU 125000 - 1) / nsU 125000 * nsU 125000

/-- A count of 2⁻¹⁶ ns units moved with a step. -/
def moved (d : Int) (t : Nat) : Nat := ((t : Int) + d).toNat

/-- Every stored θ of a slot moves with a step (R488). -/
def RefSlot.stepped (r : RefSlot) (ps : Int) : RefSlot :=
  { r with hist := r.hist.map (fun (p : Int × Int) => (p.1, p.2 + ps)), last := r.last.map (fun (p : Int × Int) => (p.1, p.2 + ps)) }

/-- By how much a step moves the θ of a slot: the edges of a FREQ slot are counted from edge A, so that whole periods drop out (R149). -/
def State.slotStep (s : State) (n : Nat) (d : Int) : Int :=
  let p : Nat := s.get (REFSEL.REF_PERIOD n)
  psOfUnits (if timeSlot n ∨ p = 0 then d else d - roundDiv d p * p)

/-- What reference selection stores of phases moves with a step of `d` 2⁻¹⁶ ns units (R488). -/
def State.stepRefs (s : State) (d : Int) : State :=
  let ps := psOfUnits d
  let s := (List.range 16).foldl (fun s n =>
    if (s.slot n).last.isSome then
      let s := s.setSlot n ((s.slot n).stepped (s.slotStep n d))
      s.puti (REFSEL.REF_PHASE n) (satS 40 (s.slotTheta n))
    else s.setSlot n ((s.slot n).stepped (s.slotStep n d))) s
  let short := fun (t : Nat) => ofS 64 ((t : Int) + d)
  let a := s.slotStep (s.get REFSEL.REFSEL_STATUS_ASSIST) d
  { s with ref := { s.ref with
    astLast := s.ref.astLast.map (fun (p : Int × Int) => (p.1, p.2 + a))
    up := s.ref.up.map (fun (u : UpSample) => { u with theta := u.theta + ps, event := short u.event })
    peer := s.ref.peer.map (fun (u : PeerSample) => { u with theta := u.theta + ps, event := short u.event }) } }

/-- What goes on across a step without regard to the time of day keeps its distance from the present. -/
def State.stepSpans (s : State) (d : Int) : State :=
  let ports : List PortSt := s.mac.ports.map (fun (q : PortSt) =>
    { q with wireFree := moved d q.wireFree, slotEnd := moved d q.slotEnd, pauseEnd := q.pauseEnd.map (moved d)
             pauseFrom := moved d q.pauseFrom, wakeAt := moved d q.wakeAt
             overrideEnd := q.overrideEnd.map (moved d)
             replies := q.replies.map (fun (r : Reply) => { r with since := moved d r.since, after := moved d r.after }) })
  let wins : List WinSt := s.tdc.wins.map (fun (w : WinSt) => { w with armAt := moved d w.armAt, endAt := moved d w.endAt })
  let chans : List TdcCh := s.tdc.chans.map (fun (c : TdcCh) => { c with lastPass := c.lastPass.map (moved d) })
  { s with
    mac := { s.mac with ports := ports }
    tdc := { s.tdc with wins := wins, chans := chans }
    time := { s.time with activeTill := s.time.activeTill.map (moved d), loops := s.time.loops.map (fun p => (p.1, moved d p.2))
                          lead := s.time.lead.map (fun p => p.map (moved d)) } }

/-- Commanded pulses are judged again after a step (R55): one executed late keeps its place in the sheet. -/
def State.rejudgePulses (s : State) (d : Int) : State :=
  s.time.pulses.foldl (fun s (p : Pulse) =>
    let keep := fun (s : State) (q : Pulse) => { s with time := { s.time with pulses := s.time.pulses ++ [q] } }
    if p.late then keep s { p with target := moved d p.target }
    else if s.isLate p.target then
      if p.pol then (s.inc SHEET.LATE_DISCARD_CNT).eventJ .auto 0x0206 0x25 stLATE stLATE 0
      else keep (s.inc SHEET.LATE_CNT) { p with target := s.lateSlot, late := true }
    else if !s.targetOk p.target then s.eventJ .auto 0x0206 0x25 stRANGE stRANGE 0
    else keep s p) { s with time := { s.time with pulses := [] } }

/-- A series is judged again after a step (R55, R61): it resumes at its first pulse of the next sheet or later, and one whose next pulse now
lies too far ahead is discarded. -/
def State.rejudgeSeries (s : State) (n : Nat) : State :=
  let s := s.resumeSeries n s.time.next
  match nth s.time.series n none with
  | none => s
  | some p =>
    if s.targetOk ((p.first + p.next * p.period : Nat) : Int) then s
    else
      let s := ({ s with time := { s.time with series := setNth s.time.series n none } }).putB (TIME.EVT_STAT_PERIODIC n) false
      s.eventJ .auto 0x0206 0x26 stRANGE stRANGE 0

/-- An armed leap second is judged again after a step (R55, R59); `u` is its target: passed by the step, it takes effect at this edge, and
within the stepped sheet at the next one. -/
def State.rejudgeLeap (s : State) (u : Int) : State :=
  match s.time.leap with
  | none => s
  | some l =>
    if l.late || u == s.time.edge then s
    else if s.isLate u then
      if l.pol then ((s.inc SHEET.LATE_DISCARD_CNT).disarmLeap).eventJ .auto 0x0206 0x23 stLATE stLATE 0
      else
        let s := s.inc SHEET.LATE_CNT
        { s with time := { s.time with leap := some { l with late := decide (u < s.time.edge) } } }
    else if !s.targetOk u then s.disarmLeap.eventJ .auto 0x0206 0x23 stRANGE stRANGE 0
    else s

/-- The counter steps to a count of 2⁻¹⁶ ns units at a sheet edge (R55). -/
def State.stepTo (s : State) (v : Nat) (o : Origin) : State :=
  let old := s.time.edge
  let d : Int := (v : Int) - old
  let leap := s.targetUnits (s.get TIME.LEAP_TARGET)
  let s := { s with time := { s.time with
    cnt := ((s.time.cnt : Int) + d * 2 ^ 32).toNat, edge := v, next := stepNext v, stepped := true, shift := s.time.shift + d } }
  let s := (((s.charge0 2500).setResidual 0).dropSlew).put TIME.TIME_STATUS_SET 1
  let s := ((s.inc TIME.STEP_CNT).eventIn 0x0201 0 v).journal o 3 0 (old % 2 ^ 64) (v % 2 ^ 64) 0x0201
  let s := ((s.stepOuts).stepRefs d).stepSpans d
  let s := (List.range 16).foldl State.rejudgeSeries (s.rejudgePulses d)
  (s.rejudgeWindows).rejudgeLeap leap

/-- A pending step at its edge (R54). -/
def State.oneStep (s : State) (p : PendStep) : State :=
  let done := fun (s : State) (st : Nat) => match p.cmd with
    | some h => s.complete h 0x21 st 0
    | none => s
  let v : Int := match p.kind with
    | .set u => u
    | .by d => (s.time.edge : Int) + d
  if !p.grant && s.mode != 0 then done s stMODE
  else if v < 0 then done s stRANGE
  else done (s.stepTo v.toNat p.origin) stOK

/-- Steps that wait for the edge. -/
def State.stepEdge (s : State) : State :=
  let l := s.time.steps
  l.foldl State.oneStep (({ s with time := { s.time with steps := [] } }).putB TIME.TIME_STATUS_STEP_PENDING false)

/-- A leap second at its edge (R58, R59), and one announced that comes within range. -/
def State.leapEdge (s : State) : State :=
  let s := match s.time.leap with
    | none => s
    | some l =>
      if l.late || decide (s.targetUnits (s.get TIME.LEAP_TARGET) ≤ s.time.edge) then
        let o := s.geti TIME.TAI_UTC + (if s.flag TIME.TIME_STATUS_LEAP_DIR then -1 else 1)
        ((s.charge0 400).puti TIME.TAI_UTC o).disarmLeap.eventIn 0x0202 0 o
      else s
  let s := match s.time.heldLeap with
    | none => s
    | some h =>
      if s.units + halfWrap < h.units then s
      else
        let s := { s with time := { s.time with heldLeap := none } }
        let pol := s.flag SHEET.SHEET_CFG_LEAP_LATE_POL
        let late := s.isLate h.units
        if late && pol then s.inc SHEET.LATE_DISCARD_CNT
        else (if late then s.inc SHEET.LATE_CNT else s).armLeap h.units h.dir pol late .auto
  s.leapWarn

/-! ### Moulds at a sheet edge (R26, R35 to R40) -/

/-- A buffer becomes ACTIVE (R36, R39): the event, the journal entry, the pools. -/
def State.activateBuf (s : State) (b : Nat) (o : Origin) : State :=
  let old := s.get (stateFld b)
  let s := if s.get (stateFld (1 - b)) = 3 then s.put (stateFld (1 - b)) 4 else s
  let s := s.puts [(stateFld b, 3), (SHEET.SHEET_STATUS_ACTIVE_BUF, b), (SHEET.SHEET_STATUS_EMPTY_SCHED, 0)]
  ((s.eventIn 0x0102 b 3).journal o 3 b old 3 0x0102).loadPools

/-- After a trap: the PREVIOUS buffer, or the empty schedule with every gate open (R39, R40); a standby asks for the buffer again (R35). -/
def State.fallbackEdge (s : State) : State :=
  let due := s.sheet.fallback
  let s := { s with sheet := { s.sheet with fallback := false, trapped := false } }
  if !due then s
  else
    let b := 1 - s.get SHEET.SHEET_STATUS_ACTIVE_BUF
    let s := if s.get (stateFld b) = 4 then s.activateBuf b .auto else s.put SHEET.SHEET_STATUS_EMPTY_SCHED 1
    if s.mode = 5 then s.askFill.degrade else s

/-- A pending activation at the edge of its sheet (R36), also of the edge at which the unit enters MIRROR (R20); a standby's come with the
couch frames (R35). `before` is the mode before the edge. -/
def State.activationEdge (s : State) (before : Nat) : State :=
  if (s.mode ≠ 5 ∨ before ≠ 5) ∧ s.flag SHEET.SHEET_STATUS_PENDING = true ∧ s.get SHEET.PEND_SHEET ≤ s.sheetNo then
    let b := s.get SHEET.SHEET_STATUS_PEND_BUF
    let o := (s.sheet.act.map (fun (a : PendAct) => a.origin)).getD .peer
    let s := s.puts [(SHEET.SHEET_STATUS_PENDING, 0), (SHEET.SHEET_STATUS_PEND_BUF, 0), (SHEET.PEND_SHEET, 0)]
    (({ s with sheet := { s.sheet with act := none } }).charge0 2500).activateBuf b o
  else s

/-- SHEET_PHASE (R26), from the period in the active mould's header; in the empty schedule every gate is open (R40) and pools take effect at
once (R269). -/
def State.phaseEdge (s : State) : State :=
  match s.activeBuf with
  | none => ((List.range 8).foldl (fun s p => s.put (MAC.GATE_STATE p) 0xFF) (s.put SHEET.SHEET_PHASE 0)).loadPools
  | some b =>
    match s.schedFetch b 0x18 4 with
    | (none, s) => s
    | (some p, s) => s.put SHEET.SHEET_PHASE (s.taiSheet % leAt p 0 4)

/-- The mould that runs in the sheet. -/
def State.mouldEdge (s : State) (before : Nat) : State := (s.fallbackEdge.activationEdge before).phaseEdge

/-! ### The rest of a sheet edge -/

/-- Writes that take effect at the edge (R406, R436), journaled there. -/
def State.edgeWritten (s : State) : State :=
  let l := s.glb.edgeWrites
  l.foldl (fun s (w : PostedWrite) =>
    let old := s.wholeReg w.addr
    let s := s.storeFields w.addr w.value
    s.journalWrite w.origin w.addr old (s.wholeReg w.addr)) { s with glb := { s.glb with edgeWrites := [] } }

/-- The counters of the blocks named in GLB_CNT_CLEAR are cleared (R453). -/
def State.clearEdge (s : State) : State :=
  let l := s.glb.clearDue
  l.foldl (fun s b => (cntFlds b).foldl (fun s f => s.put f 0) s) { s with glb := { s.glb with clearDue := [] } }

/-- Events of Table 20-5 of which the model does not follow each one: the counters take a free value. -/
def State.pmuOpen (s : State) : State :=
  (List.range 32).foldl (fun s k =>
    let e := s.get (PMU.PMU_SEL_EVENT k)
    if s.flag (PMU.PMU_SEL_EN k) && (e == 0x0B || e == 0x0F) then
      let r := s.free
      r.2.pmuOne e (s.get (PMU.PMU_SEL_QUAL k)) r.1 k
    else s) s

/-- The registers that show the keep-alive domain (Table 19-5); VKEEP is measured each second. -/
def State.showKeep (s : State) (k : KeepIn) : State :=
  let s := s.puts [(KEEP.KA_CNT, k.cnt), (KEEP.KEEP_STATUS_XTAL_OK, if k.xtalOk then 1 else 0),
    (KEEP.KEEP_STATUS_XTAL_UNBROKEN, if k.unbroken then 1 else 0), (KEEP.KEEP_STATUS_VKEEP_LOW, if k.low then 1 else 0), (KEEP.TAMP_PINS, k.pins)]
  if s.time.edge % secU = 0 then s.put KEEP.VKEEP_MV k.mv else s

/-- The stock of the sheet, and what every edge costs and counts (R438, R460, Table 3-3). -/
def State.edgeGrant (s : State) : State :=
  let thin := if s.flag SYN.SYN_STATUS_SP_IN_SERVICE then 0 else 1
  let s := s.edgeWritten.puts [(SHEET.SHEET_STATUS_THIN, thin), (LEDGER.LEDGER_STATUS_THIN, thin)]
  (((s.grant.charge0 150).pmu 0x02 0 1).pmu 0x01 0 s.coreCycles).pmuOpen

/-- What the state owes to its environment at an edge: difference of the counters (R52), pins of the pair, the keep-alive domain. -/
def State.edgeSee (s : State) (e : EdgeIn) : State :=
  let s := if s.flag SYN.SYN_STATUS_SP_IN_SERVICE then { s with time := { s.time with diffs := (e.diff :: s.time.diffs).take 4 } } else s
  (s.showKeep e.keep).couchPins e.pairAct e.arbIn

/-- The order of R55: mode, step, leap second, mould; and the votes (R451). -/
def State.edgeOrder (s : State) : State :=
  let before := s.mode
  let s := s.modeEdge.couchModes.safeValues
  let s := ({ s with time := { s.time with stepped := false } }).stepEdge.leapEdge
  (s.couchApply.mouldEdge before).votes

/-- Keys, generations and clients at an edge (R274, R307, R328, R350); a standby has the clients of the active (R341). -/
def State.edgeService (s : State) : State :=
  let s := s.keyEdge
  let s := if s.mode = 5 then s else s.staleRecs.genEdge.clientEdge.flowEdge
  s.genAges.upJudge

/-- The blocks of the clock and of the ports at an edge. -/
def State.edgeBlocks (s : State) (e : EdgeIn) (service : Bool) : State :=
  let s := s.sizingEdge.synEdge
  let s := (List.range 8).foldl (fun s p => s.portEdge p (nth e.ports p {})) s
  let s := (s.pairRef.gnssEdge e.sclk).applyTables
  let s := ((s.inject e.inject).countDll).holdEdge service
  if service then s.enterService else s

/-- Redundancy, wear and what is left of the edge. -/
def State.edgeRest (s : State) (e : EdgeIn) : State :=
  let s := (s.shadowEdge e.shadow).promoEdge.repairEdge
  let s := if s.flt.squelchLift then { s with flt := { s.flt with squelch := false, squelchLift := false } } else s
  let s := (List.range 8).foldl State.qlEdge (s.rxStalls.drillEdge.clearEdge)
  ({ s.put VAT.VAT_STATUS_SCRUB_RUN 0 with vatc := { s.vatc with denied := false, scrubbed := 0 } }).showStrobes

/-- Everything that happens at the edge of a sheet once it has begun (R55). -/
def State.edgeWork (s : State) (e : EdgeIn) : State :=
  let before := s.mode
  let s := (s.edgeSee e).edgeOrder
  let service := s.mode == 4 && before != 4
  ((s.edgeService).edgeBlocks e service).edgeRest e

/-- A sheet begins at the boundary in `next` (R25, R51). -/
def State.openSheet (s : State) : State :=
  let s := s.advanceTo s.time.next
  let s := { s with
    time := { s.time with edge := s.time.next, next := s.time.next + nsU 125000 }
    sheet := { s.sheet with cursor := 0, ahead := [], overrun := false } }
  (s.put SHEET.SHEET_NUM (s.sheetNo + 1)).unlockEdge

/-- The edge of a sheet, before held work is taken up again (R25, R55). -/
def State.sheetEdge (s : State) (e : EdgeIn) : State :=
  let due := s.syn.fineRest.isSome
  let s := s.openSheet.fineEdge.edgeGrant
  ((if due then s.charge0 2500 else s).oscSheet e.osc).edgeWork e

end Sys2Proof.Machine
end

