-- ==== Sys2Proof/Machine/Start.lean ====
section
/-! DEFINITION. Reset and start-up (chapter 21). -/

namespace Sys2Proof.Machine

/-! ### Reset (R479, R482, R483) -/

/-- Register fields that a reset leaves as they are (Table 21-2): the keep-alive domain, TAMPER and KEEP_LOST, the slot descriptors, EFC_INIT,
and what counts the undrained ream entries and the user bank. A cold reset takes some of them back at the release. -/
def keptField (k : Nat) : Bool :=
  isKeep k || (decide (32 * 0x1C1000 ≤ k) && decide (k < 32 * 0x1C2000)) ||
    [KEY.KEY_STATUS_TAMPER.key, KEY.KEY_STATUS_KEEP_LOST.key, HOLD.EFC_INIT.key, REAM.REAM_SEQ.key, REAM.REAM_UNDRAINED.key,
     REAM.REAM_STATUS_FULL.key, REAM.REAM_STATUS_GAP_OPEN.key, SIZING.SIZ_UGEN.key].contains k

/-- The DAC drives EFC_INIT, which is then the code and the base (R181, R482). -/
def State.efcInit (s : State) : State :=
  let c := s.get HOLD.EFC_INIT
  (s.puts [(HOLD.EFC_CODE, c), (HOLD.EFC_BASE, c)]).emit (.efc c)

/-- The state held through a reset (Table 21-2); everything else is as State.reset has it. The queue of commands, the free values used and the
record of outputs are the model's own. -/
def State.throughReset (s : State) : State :=
  { pending := s.pending
    freeIdx := s.freeIdx
    out := s.out
    inReset := true
    regs := s.regs.filter (fun p => keptField p.1)
    glb := { posted := s.glb.posted.filter (fun (w : PostedWrite) => decide (0x260000 ≤ w.addr)) }
    ream := { entries := s.ream.entries, early := s.ream.early.filter (fun (e : ReamEntry) => e.kaTime) }
    vatc := { fuses := s.vatc.fuses, poison := s.vatc.poison.filter (fun w => decide (reamBase / 8 ≤ w) && decide (w < reamBase / 8 + 524288)) }
    siz := { user := s.siz.user }
    key := { slots := s.key.slots, trigger := s.key.trigger }
    keep := s.keep
    time := { kaCopy := s.time.kaCopy, kaFreqCopy := s.time.kaFreqCopy, kaMissed := true } }

/-- RESET_ASSERT (R479, R482, R483): the power-on detector or RESET_N holds the engine in reset. -/
def runResetAssert (s : State) : State := if s.inReset then s else s.throughReset.efcInit

/-! ### From the release to sheet 0 (R66, R323, R484, R485) -/

/-- The keep-alive domain as it is read at the start-up (R314, R323). -/
def State.readKeep (s : State) : State :=
  if s.keep.lost then
    let regs := s.regs.filter (fun p => !(decide (32 * 0x1C1000 ≤ p.1) && decide (p.1 < 32 * 0x1C2000)))
    ({ s with regs := regs, key := { s.key with slots := List.replicate 256 {} }, keep := { s.keep with lost := false } }).put KEY.KEY_STATUS_KEEP_LOST 1
  else
    (List.range 256).foldl (fun s n => if (s.keySlot n).expire then s.changeKey .auto n {} else s) s

/-- What a cold reset takes back (Table 21-2). -/
def State.coldReset (s : State) : State :=
  let s := s.puts [(REAM.REAM_SEQ, 0), (REAM.REAM_UNDRAINED, 0), (REAM.REAM_STATUS_FULL, 0), (REAM.REAM_STATUS_GAP_OPEN, 0), (SIZING.SIZ_UGEN, 0),
    (HOLD.EFC_INIT, 0x800000)]
  { s with
    ream := { s.ream with entries := [] }
    siz := { s.siz with user := [] }
    vatc := { s.vatc with poison := [] } }

/-- Where a keep-alive count lies in time (R503): the alignment, and the periods since at the measured rate, in 2⁻¹⁶ ns units. -/
def kaPlace (p : KaPair) (freq : Int) (cnt : Nat) : Int :=
  let n : Int := (cnt : Int) - p.cnt
  (p.wide : Int) + ((((n * 2000000000 : Int) : Rat) / (1 + (freq : Rat) / 1000000000000)).floor)

/-- The counter is seeded, or starts at wide time 0 (R66); the pair and KA_FREQ come from their copy (R65). -/
def State.seedTime (s : State) (k : KeepIn) : State :=
  let s := s.put TIME.KA_FREQ s.time.kaFreqCopy
  match s.time.kaCopy with
  | none => s
  | some p =>
    let s := s.puts [(TIME.KA_ALIGN_CNT, p.cnt), (TIME.KA_ALIGN_TIME, p.time)]
    if !k.unbroken then s
    else
      let u := (kaPlace p (toS 32 s.time.kaFreqCopy) k.cnt).toNat / nsU 125000 * nsU 125000
      { s with time := { s.time with cnt := u * 2 ^ 32, edge := u, next := u } }

/-- A bin table loaded from sizing at reset has the generation 0 (Table 4-3). -/
def State.seedGen (s : State) (n : Nat) : State :=
  (s.setCh n { s.ch n with bin := (s.ch n).bin.map (fun (t : BinTable) => { t with gen := 0 }) }).put (TDC.CH_STAT_GEN n) 0

/-- The sizing in force shows where it is read: that of the user bank, else the factory's (R464). -/
def State.sizingForce (s : State) : State :=
  ((List.range 16).map (32 + ·)).foldl State.seedGen <| (((List.range 48) ++ ((List.range 8).map (fun p => 0x100 + p)) ++ [0x200, 0x201]).foldl State.itemForce s).showValid

/-- RESET_RELEASE (R412, R484, Table 21-3): fuses, keep-alive domain, seed of the counter, sizing, the vat. A release is one only while the start-up
has not been made; `cold` says whether VDD_VAT has left its range. -/
def runResetRelease (cold : Bool) (k : KeepIn) (s : State) : State :=
  if s.running || s.flag VAT.VAT_STATUS_INIT_DONE then s
  else
    let s := { s with inReset := false }
    let s := if cold then s.coldReset else s
    let s := ((s.efcInit).applyFuses).showKeep k
    let s := (s.readKeep.seedTime k).sizingForce
    let s := (List.range s.ream.entries.length).foldl (fun s i => (s.reamRead i).2) s
    s.put VAT.VAT_STATUS_INIT_DONE 1

/-- CP_I of Table 9-1. -/
def cpOf (sel : Nat) : Nat := if sel = 0 then 80 else if sel = 1 then 40 else 32

/-- The row of Table 9-1 with whose frequency the last eight measurements of OSC_IN, newest first, agree within PPM_LIMIT (R485). -/
def State.oscRow (s : State) (ratios : List Nat) : Option Nat :=
  if ratios.length < 8 then none
  else (List.range 3).find? (fun sel => (ratios.take 8).all (fun r => !s.ratioOff (ratioOf sel) r))

/-- OSC_IN_DETECTED (R485): OSC_SEL and CP_I are set, every calender takes the plan of Table 9-1 and begins to lock, and the system PLL starts.
`ratios` are the measurements over consecutive intervals of 125 µs, OSC_IN over the PCIe reference × 2³². -/
def runOscInDetected (ratios : List Nat) (s : State) : State :=
  if s.running || !s.flag VAT.VAT_STATUS_INIT_DONE || s.flag SYN.SYN_STATUS_OSC_ACT then s
  else
    match s.oscRow ratios with
    | none => s
    | some sel =>
    let s := s.autoWrite 0x130004 (fun s =>
      s.puts [(SYN.SYSPLL_CFG_OSC_SEL, sel), (SYN.SYSPLL_CFG_CP_I, cpOf sel), (SYN.SYSPLL_CFG_N_SP, nspOf sel)])
    let s := s.loadOscSel.synEdge.put SYN.SYN_STATUS_OSC_ACT 1
    { s with syn := { s.syn with seenAct := true } }

/-- Whether the conditions of sheet 0 hold at a time (R486), with the system PLL in lock for RELOCK_SHEETS × 125 µs. -/
def State.mayBegin (s : State) (met : Nat) : Bool :=
  s.lockHeld ((met : Int) - s.units) &&   !s.running && s.flag VAT.VAT_STATUS_INIT_DONE && s.flag SYN.SYN_STATUS_OSC_ACT && s.flag SYN.SYN_STATUS_SP_LOCK

/-- What waited for sheet 0 is journaled (R457, R486): RESET, the happenings of the keep-alive domain, the start-up settings. -/
def State.journalEarly (s : State) : State :=
  let l := s.ream.early
  let s := { s with ream := { s.ream with early := [] } }
  let s := s.journal .auto 10 0 0 s.sheetNo 0
  (l.filter (fun (e : ReamEntry) => e.kaTime) ++ l.filter (fun (e : ReamEntry) => !e.kaTime)).foldl State.reamWrite s

/-- Sheet 0 begins (R486): `met` is the count of 2⁻¹⁶ ns units at which its conditions were met, `rest` what is left of the coarse period. -/
def State.zeroSheet (s : State) (met : Nat) (rest : Int) : State :=
  let s := s.advanceTo met
  let b := (s.units + nsU 125000 - 1) / nsU 125000 * nsU 125000
  let s := (s.advanceTo b).fineBegins
  let s := { s with time := { s.time with edge := b, next := b + nsU 125000 }, ref := { s.ref with freeSince := s.mono }, running := true }
  (((s.addSlew rest).edgeGrant).charge0 2500).journalEarly

/-- The edge of sheet 0, before commands are fetched (R486). -/
def State.firstEdge (s : State) (e : EdgeIn) (met : Nat) (rest : Int) : State := (s.zeroSheet met rest).edgeWork e

end Sys2Proof.Machine
end

