-- ==== Sys2Proof/Machine/Writes.lean ====
section
/-! DEFINITION. Writes of registers: which have behaviour of their own, and those whose writes are posted. -/

namespace Sys2Proof.Machine

/-! ### Writes that keep a part, or take effect later -/

/-- A value about to be written, with a field of it replaced by what the register holds. -/
def State.keepBits (s : State) (a v lsb w : Nat) : Nat := putBits v lsb w (bits (s.readReg a) lsb w)

/-- A write that takes effect at the next sheet edge (R406, R436), where it is also journaled (R455). -/
def State.busEdge (s : State) (o : Origin) (a v : Nat) (modeOk : Bool) : State :=
  if o = .pf1 then s.inc HIF.PF1_WRITE_DENY_CNT
  else
    let s := (s.useUnlock o).2
    let failed := (rowsAt a).any (fun p => s.glb.voteFailed.contains (p.1.fld a p.2).key)
    if (rowsAt a).isEmpty then s
    else if !modeOk || failed then s.refuseWrite o a v
    else { s with glb := { s.glb with edgeWrites := s.glb.edgeWrites ++ [PostedWrite.mk a v o] } }

/-- A write of a pool register: staged, and journaled when the staged set takes effect (R269, R455). -/
def State.poolWrite (s : State) (o : Origin) (a v : Nat) : State :=
  if o = .pf1 then s.inc HIF.PF1_WRITE_DENY_CNT
  else
    let s := (s.useUnlock o).2
    let old := s.wholeReg a
    let s := s.storeFields a v
    let new := s.wholeReg a
    if old = new then s
    else { s with glb := { s.glb with poolWrites := s.glb.poolWrites ++ [LateWrite.mk a old new o] } }

/-! ### Registers with a condition or a consequence of their own -/

/-- PTP_CFG (R261): PROFILE changes only in QUIET, and a change sets PTP_DOMAIN to the reset domain of the profile. -/
def State.ptpCfgWrite (s : State) (o : Origin) (v : Nat) : State :=
  let a := 0x1A0004
  let p := s.get PTP.PTP_CFG_PROFILE
  s.busStore o a (if s.mode = 0 then v else s.keepBits a v 0 2) true true (fun s =>
    let q := s.get PTP.PTP_CFG_PROFILE
    if q = p then s else s.put PTP.PTP_DOMAIN (if q = 0 then 0 else if q = 1 then 24 else 44))

/-- Whether a domain is one of the profile's (R261). -/
def State.domainOk (s : State) (d : Nat) : Bool :=
  match s.get PTP.PTP_CFG_PROFILE with
  | 0 => decide (d ≤ 127)
  | 1 => decide (24 ≤ d) && decide (d ≤ 43)
  | _ => decide (44 ≤ d) && decide (d ≤ 63)

/-- KEY_CTRL (R339): once LOCK has been 1, a write that would set WRITE_EN or DERIVE_EN is ignored until the next reset. -/
def State.keyCtrlWrite (s : State) (o : Origin) (v : Nat) : State :=
  let locked := s.key.locked || s.getT KEY.KEY_CTRL_LOCK != 0
  let sets := (bitOf v 0 && s.getT KEY.KEY_CTRL_WRITE_EN == 0) || (bitOf v 1 && s.getT KEY.KEY_CTRL_DERIVE_EN == 0)
  s.busStore o 0x1C0004 v true (!(locked && sets)) (fun s =>
    { s with key := { s.key with locked := locked || s.getT KEY.KEY_CTRL_LOCK != 0 } })

/-- The budget that min(CEILING, EMERG_CEILING) gives (R436, R440). -/
def State.lowBudget (s : State) : Nat := min (s.getT LEDGER.CEILING) (s.getT LEDGER.EMERG_CEILING) * 125000

/-- A register of channel `n` that does not change while the channel is enabled (R123); T is a whole number of code periods. -/
def State.chanWrite (s : State) (o : Origin) (a v n : Nat) : State :=
  let ok := !s.flag (GNSSC.CH_CTRL_ENABLE n) && (a != 0xC000C + 0x400 * n || v % 32 % sigPeriod (s.chSig n) == 0)
  s.busStore o a v true ok id

/-- REAM_CFG (R458): the window shows an entry only while DRAIN_SRC is 1. -/
def State.reamCfgWrite (s : State) (o : Origin) (v : Nat) : State :=
  s.busStore o 0x220004 v true true (fun s =>
    if s.flag REAM.REAM_CFG then s else (List.range 16).foldl (fun s i => s.put (REAM.REAM_WIN i) 0) s)

/-- SYSPLL_CFG (R191): posted; OSC_SEL changes only in QUIET. -/
def State.sysPllWrite (s : State) (o : Origin) (v : Nat) : State :=
  s.busPost o 0x130004 (if s.mode = 0 then v else s.keepBits 0x130004 v 0 2) true id

/-- The instance that stands at an offset, of registers at a base, a stride apart. -/
def slotAt (base stride n a : Nat) : Option Nat :=
  if base ≤ a ∧ (a - base) % stride = 0 ∧ (a - base) / stride < n then some ((a - base) / stride) else none

/-- What PCIe last showed, for a ring set up through the maintenance SPI. -/
def State.presentPcie (s : State) : PcieView where
  linkUp := s.flag HIF.HIF_STATUS_LINK_UP
  speed := s.get HIF.HIF_STATUS_SPEED
  width := s.get HIF.HIF_STATUS_WIDTH
  bme0 := s.flag HIF.HIF_STATUS_PF0_BME
  bme1 := s.flag HIF.HIF_STATUS_PF1_BME
  extTag := s.flag HIF.HIF_STATUS_EXT_TAG

/-- What a write at an offset does that is not an ordinary write: base, stride and count of the registers, and the write of the instance. -/
structure OwnWrite where
  base : Nat
  stride : Nat
  count : Nat
  act : Nat → State → State

/-- Registers whose writes are rows of their own: commands, keys, rings, interrupts and faults. -/
def ownCommands (o : Origin) (a v : Nat) : List OwnWrite := [
  ⟨0x10, 4, 1, fun _ => runGlbUnlockWrite o v⟩,
  ⟨0x18, 4, 1, fun _ s => s.busStore o a v false true id⟩,
  ⟨0x24, 4, 1, fun _ => runGlbCntClear o v⟩,
  ⟨0x30000, 4, 1, fun _ => if v % 2 = 1 then runTimeSnap o else fun s => s.busTouch o id⟩,
  ⟨0x1C0010, 4, 13, fun _ => runKeyStageWrite o a v⟩,
  ⟨0x1C0044, 4, 1, fun _ => runKeyCommit o v 0⟩,
  ⟨0x1C0004, 4, 1, fun _ s => s.keyCtrlWrite o v⟩,
  ⟨0x1E0108, 0x20, 64, fun n s => if bitOf v 31 then runRingEnable o n v s.presentPcie s else runRingDisable o n v s⟩,
  ⟨0x1E0100, 0x20, 64, fun n s => s.busStore o a (v - v % 32) true (!s.flag (HIF.RING_CFG_ENABLE n)) id⟩,
  ⟨0x1E0104, 0x20, 64, fun n s => s.busStore o a v true (!s.flag (HIF.RING_CFG_ENABLE n)) id⟩,
  ⟨0x220004, 4, 1, fun _ s => s.reamCfgWrite o v⟩,
  ⟨0x220018, 4, 1, fun _ => runReamPop o v⟩,
  ⟨0x240018, 4, 1, fun _ => runSizLoad o v 0⟩,
  ⟨0x24001C, 4, 1, fun _ => runSizRead o v 0⟩,
  ⟨0x200108, 0x10, 65, fun n => runVecComplete o n v⟩,
  ⟨0x200100, 0x10, 65, fun n s => s.vecWrite o n v⟩,
  ⟨0x201000, 4, 512, fun n => runSrcForce o n v⟩,
  ⟨0x210030, 4, 4, fun w => runFltAck o w v⟩,
  ⟨0x210010, 4, 1, fun _ => runFltEscClear o v⟩,
  ⟨0x210060, 4, 4, fun w => runFltForceAct o w v⟩,
  ⟨0x210070, 4, 4, fun w => runFltForceWire o w v⟩]

/-- Registers of the blocks of the clock with behaviour of their own. -/
def ownClock (o : Origin) (a v : Nat) : List OwnWrite := [
  ⟨0x3002C, 4, 1, fun _ s => s.busStore o a v true true (fun s => s.puts [(TIME.TIME_STATUS_UTC_VALID, 1), (TIME.TIME_STATUS_UTC_SRC, 1)])⟩,
  ⟨0x40100, 0x20, 48, fun n => runChCfgWrite o n false v⟩,
  ⟨0x40104, 0x20, 48, fun n => runChCfgWrite o n true v⟩,
  ⟨0x40010, 4, 1, fun _ s => s.busPost o a v true id⟩,
  ⟨0x40800, 0x20, 64, fun m => runWindowDisarmWrite o m v⟩,
  ⟨0xC0000, 0x400, 136, fun n => if v % 2 = 1 then runGnssChEnable o n v else runGnssChDisable o n v⟩,
  ⟨0xC0004, 0x400, 136, fun n s => s.chanWrite o a v n⟩,
  ⟨0xC0008, 0x400, 136, fun n s => s.chanWrite o a v n⟩,
  ⟨0xC000C, 0x400, 136, fun n s => s.chanWrite o a v n⟩,
  ⟨0xC0014, 0x400, 136, fun n s => s.chanWrite o a v n⟩,
  ⟨0xC0018, 0x400, 136, fun n s => s.chanWrite o a v n⟩,
  ⟨0xC0020, 0x400, 136, fun n s => s.chanWrite o a v n⟩,
  ⟨0xC0024, 0x400, 136, fun n s => s.chanWrite o a v n⟩,
  ⟨0x100020, 4, 7, fun _ => runPosWrite o a v⟩,
  ⟨0x110100, 0x20, 16, fun n => if v % 2 = 1 then runRefEnable o n v else runRefDisable o n v⟩,
  ⟨0x120004, 4, 1, fun _ => runHoldSteerCfgWrite o a v⟩,
  ⟨0x120008, 4, 1, fun _ s => s.busStore o a v true true State.showHist⟩,
  ⟨0x12004C, 4, 1, fun _ => runHoldSteerCfgWrite o a v⟩,
  ⟨0x12007C, 4, 1, fun _ => runHoldTempWrite o v⟩,
  ⟨0x130004, 4, 1, fun _ s => s.sysPllWrite o v⟩,
  ⟨0x130008, 4, 1, fun _ s => s.busPost o a v (s.mode == 0) id⟩,
  ⟨0x130110, 0x40, 4, fun k => runCalApply o k v⟩,
  ⟨0x130408, 0x20, 16, fun n => runOutDivHiWrite o n v⟩]

/-- Registers of the ports, of the services and of the memories with behaviour of their own. -/
def ownService (o : Origin) (a v : Nat) : List OwnWrite := [
  ⟨0x180004, 0x4000, 8, fun p => runPortCfgWrite o p v⟩,
  ⟨0x1800D0, 0x4000, 8, fun p => runModTxdisWrite o p v⟩,
  ⟨0x180030, 0x4000, 8, fun p => runTaEnWrite o p v⟩,
  ⟨0x1A0004, 4, 1, fun _ s => s.ptpCfgWrite o v⟩,
  ⟨0x1A0008, 4, 1, fun _ s => s.busStore o a v true (s.domainOk (v % 256)) id⟩,
  ⟨0x1A0100, 4, 128, fun _ s => s.poolWrite o a v⟩,
  ⟨0x1A0400, 4, 64, fun _ s => s.busStore o a v true true State.upJudge⟩,
  ⟨0x1D0004, 4, 1, fun _ s => s.busStore o a v (s.mode == 0) true id⟩,
  ⟨0x1F0100, 4, 64, fun _ s => s.busEdge o a v (s.mode == 0)⟩,
  ⟨0x1F0200, 4, 30, fun _ s => s.busEdge o a v (s.mode == 0)⟩,
  ⟨0x10004, 4, 2, fun _ s => s.busEdge o a v true⟩,
  ⟨0x10030, 4, 1, fun _ s => s.busStore o a v true true (fun s => if s.flag LEDGER.LEDGER_STATUS_WARN_PIN then s else s.warnEnter)⟩,
  ⟨0x1000C, 4, 1, fun _ s => s.busStore o a v true (decide (v % 2 ^ 32 ≤ s.lowBudget)) id⟩,
  ⟨0x260010, 8, 2, fun _ s => s.busPost o a v (s.mode == 0) id⟩]

/-- Whether a register of SYN takes posted writes (R217): the calender and output registers. -/
def synPosted (a : Nat) : Bool :=
  (decide (0x130100 ≤ a) && decide (a < 0x130200)) || (decide (0x130400 ≤ a) && decide (a < 0x130600))

/-- A write of a BAR0 register (R7, R371, R449, R450, R452): its own behaviour where it has one, else by its access codes. -/
def State.writeAt (s : State) (o : Origin) (a v : Nat) : State :=
  let own := (ownCommands o a v ++ ownClock o a v ++ ownService o a v).findSome? (fun (w : OwnWrite) =>
    (slotAt w.base w.stride w.count a).map w.act)
  match own with
  | some f => f s
  | none => if synPosted a then s.busPost o a v true id else s.busStore o a v true true id

/-- REGISTER_WRITE (R7, R450, R455). -/
def runRegisterWrite (o : Origin) (a v : Nat) (s : State) : State := s.writeAt o a v

/-! ### Posted writes that are applied (R452) -/

/-- What follows when a posted write has been applied: link and module of a port, calenders, outputs, channels of the TDC. -/
def State.afterPosted (s : State) (a src0 osc0 : Nat) : State :=
  if 0x180000 ≤ a ∧ a < 0x1A0000 then s.portApplied ((a - 0x180000) / 0x4000)
  else
    match slotAt 0x130110 0x40 4 a, slotAt 0x130400 0x20 16 a, slotAt 0x40100 0x20 48 a, slotAt 0x40104 0x20 48 a with
    | some k, _, _, _ => s.calCtrlApplied k
    | _, some n, _, _ => if s.get (SYN.OUT_CFG_SRC n) = src0 then s else s.holdOut n
    | _, _, some c, _ => s.chCfgApplied c
    | _, _, _, some c => s.chCfgApplied c
    | _, _, _, _ => if a = 0x130004 ∧ s.get SYN.SYSPLL_CFG_OSC_SEL ≠ osc0 then s.loadOscSel else s

/-- POSTED_WRITE_APPLIED (R452): the oldest write in progress of a register is applied. -/
def runPostedWriteApplied (a : Nat) (s : State) : State :=
  match s.glb.posted.find? (fun (w : PostedWrite) => w.addr == a) with
  | none => s
  | some w =>
    let src0 := s.get (SYN.OUT_CFG_SRC ((a - 0x130400) / 0x20 % 16))
    let osc0 := s.get SYN.SYSPLL_CFG_OSC_SEL
    (s.applyPosted w).afterPosted a src0 osc0

end Sys2Proof.Machine
end

