-- ==== Sys2Proof/Machine/Again.lean ====
section
/-! DEFINITION. Work taken up again where it waited: the effect of each command at the stage it has reached. -/

namespace Sys2Proof.Machine

/-- The effect of a command that was held back at a stage, taken up again there (R439). Edges, the close of a sheet and the maintenance SPI are
never held back. -/
def runAt (i : Instr) (stage : Nat) (s : State) : State :=
  match i with
  | .sheetEdge _ => s
  | .measDeliverySlice => runMeasDeliverySlice s
  | .selectionSlice dieTemp => runSelectionSlice dieTemp s
  | .controlSlice => runControlSlice s
  | .boundSlice => runBoundSlice s
  | .finaliseSlice => runFinaliseSlice s
  | .closeSlice _ _ => s
  | .deckleNop entry => runDeckleNop entry s
  | .deckleSendPtp entry => runDeckleSendPtp entry s
  | .deckleReplySlot entry => runDeckleReplySlot entry s
  | .deckleGate entry => runDeckleGate entry s
  | .deckleStrobe entry => runDeckleStrobe entry s
  | .deckleNcoHop entry samples => runDeckleNcoHop entry samples s
  | .deckleMark entry => runDeckleMark entry s
  | .nop h => runNop h s
  | .modeSet h mode => runModeSet h mode s
  | .statusClear h addr mask => runStatusClear h addr mask s
  | .restoreFactorySizing h scope => runRestoreFactorySizing h scope s
  | .bistRun h target index => runBistRun h target index s
  | .bistDone fails lines => runBistDone fails lines s
  | .sparePromote h target index => runSparePromote h target index s
  | .mouldLoad h buf addr len => runMouldLoad h buf addr len s
  | .mouldLoadDone buf dma => runMouldLoadDone buf dma s
  | .mouldActivate h buf sheet => runMouldActivate h buf sheet s
  | .mouldCancel h => runMouldCancel h s
  | .timeSet h wide => runTimeSet h wide s
  | .timeStep h offset grant => runTimeStep h offset grant s
  | .timeSlew h offset => runTimeSlew h offset s
  | .leapSchedule h target dir => runLeapSchedule h target dir s
  | .leapCancel h => runLeapCancel h s
  | .strobeAt h strobe target width => runStrobeAt h strobe target width stage s
  | .strobePeriodic h strobe width count first period => runStrobePeriodic h strobe width count first period stage s
  | .strobeStop h strobe => runStrobeStop h strobe stage s
  | .strobeTarget strobe => runStrobeTarget strobe s
  | .measArm h window target => runMeasArm h window target s
  | .measDisarm h window => runMeasDisarm h window s
  | .tdcSize h mask => runTdcSize h mask s
  | .tdcSizeDone ch => runTdcSizeDone ch s
  | .tdcTableRead h ch addr => runTdcTableRead h ch addr s
  | .tdcCdcRestart h ch => runTdcCdcRestart h ch s
  | .acqStart h a => runAcqStart h a s
  | .acqAbort h search => runAcqAbort h search s
  | .acqResult search r => runAcqResult search r s
  | .ephLoad h count addr d => runEphLoad h count addr d s
  | .almLoad h count addr d => runAlmLoad h count addr d s
  | .ephRead h slot addr => runEphRead h slot addr s
  | .navReset h mask => runNavReset h mask s
  | .surveyStart h dur target => runSurveyStart h dur target s
  | .surveyStop h => runSurveyStop h s
  | .surveyEpoch => runSurveyEpoch s
  | .surveyDone => runSurveyDone s
  | .posSet h x y z sigma => runPosSet h x y z sigma s
  | .gnssDelaySize h ch dur => runGnssDelaySize h ch dur s
  | .delaySized => runDelaySized s
  | .refSelect h slot => runRefSelect h slot s
  | .wtrClear h slot => runWtrClear h slot s
  | .holdHistoryClear h => runHoldHistoryClear h s
  | .holdHistoryRead h addr => runHoldHistoryRead h addr s
  | .atomRescan h => runAtomRescan h s
  | .calPhaseStep h cal step => runCalPhaseStep h cal step stage s
  | .portSize h port => runPortSize h port s
  | .portSizeDone port trip => runPortSizeDone port trip s
  | .portExtSet h port tx rx u => runPortExtSet h port tx rx u s
  | .modRead h port dev off len addr => runModRead h port dev off len addr s
  | .modWrite h port dev off data => runModWrite h port dev off data s
  | .modTransferDone port ok bytes => runModTransferDone port ok bytes s
  | .modRescan h port => runModRescan h port s
  | .clientSet h record addr dma => runClientSet h record addr dma s
  | .clientRead h record addr => runClientRead h record addr s
  | .clientDel h record => runClientDel h record s
  | .clientDelTimeout record => runClientDelTimeout record s
  | .ntsRotate h entry slot keyId => runNtsRotate h entry slot keyId s
  | .ntsRetire h entry => runNtsRetire h entry s
  | .mintCookie h count erase keyAddr cookieAddr dma => runMintCookie h count erase keyAddr cookieAddr dma s
  | .keyDerive h a => runKeyDerive h a stage s
  | .keyInvalidate h slot => runKeyInvalidate h slot stage s
  | .keyInfo h first count addr => runKeyInfo h first count addr stage s
  | .keyTamperClear h => runKeyTamperClear h s
  | .pairSwitchover h dwell => runPairSwitchover h dwell s
  | .pairPromote h mode => runPairPromote h mode s
  | .pairResync h => runPairResync h s
  | .unknownOpcode h op => runUnknownOpcode h op s
  | .glbUnlockWrite o v => runGlbUnlockWrite o v s
  | .unlockLapse o => runUnlockLapse o s
  | .registerWrite o a v => runRegisterWrite o a v s
  | .posWrite o addr v => runPosWrite o addr v s
  | .timeSnap o => runTimeSnap o s
  | .keyStageWrite o addr v => runKeyStageWrite o addr v s
  | .keyCommit o v => runKeyCommit o v stage s
  | .keyCommitSwitch => runKeyCommitSwitch s
  | .calApply o k v => runCalApply o k v s
  | .outDivHiWrite o n v => runOutDivHiWrite o n v s
  | .holdSteerCfgWrite o addr v => runHoldSteerCfgWrite o addr v s
  | .holdTempWrite o v => runHoldTempWrite o v s
  | .chCfgWrite o ch presc v => runChCfgWrite o ch presc v s
  | .windowDisarmWrite o window v => runWindowDisarmWrite o window v s
  | .refEnable o slot v => runRefEnable o slot v s
  | .refDisable o slot v => runRefDisable o slot v s
  | .gnssChEnable o ch v => runGnssChEnable o ch v s
  | .gnssChDisable o ch v => runGnssChDisable o ch v s
  | .portCfgWrite o port v => runPortCfgWrite o port v s
  | .modTxdisWrite o port v => runModTxdisWrite o port v s
  | .taEnWrite o port v => runTaEnWrite o port v s
  | .ringEnable o ring v view => runRingEnable o ring v view s
  | .ringDisable o ring v => runRingDisable o ring v s
  | .doorbellWrite _ _ _ _ _ => s
  | .stagedEntryPost => runStagedEntryPost s
  | .vecClaim vector => runVecClaim vector s
  | .vecComplete o vector v => runVecComplete o vector v s
  | .msixUnmask vector => runMsixUnmask vector s
  | .srcForce o source v => runSrcForce o source v s
  | .fltAck o word v => runFltAck o word v s
  | .fltEscClear o v => runFltEscClear o v s
  | .fltForceAct o word v => runFltForceAct o word v s
  | .fltForceWire o word v => runFltForceWire o word v s
  | .glbCntClear o v => runGlbCntClear o v s
  | .reamPop o v => runReamPop o v s
  | .sizLoad o v => runSizLoad o v stage s
  | .sizRead o v => runSizRead o v stage s
  | .mbGo _ => s
  | .mspiTransfer _ _ _ _ => s
  | .resetAssert => runResetAssert s
  | .resetRelease cold k => runResetRelease cold k s
  | .oscInDetected ratios => runOscInDetected ratios s
  | .sheetZero _ _ _ => s
  | .pciePerst => runPciePerst s
  | .pcieFlr fn => runPcieFlr fn s
  | .spLockLoss diff => runSpLockLoss diff s
  | .spLockDeclared => runSpLockDeclared s
  | .fineCountResume rest => runFineCountResume rest s
  | .freezeCountExpire => runFreezeCountExpire s
  | .oscActivityLoss ratio => runOscActivityLoss ratio s
  | .oscActivityReturn offset => runOscActivityReturn offset s
  | .calenderUnlock k => runCalenderUnlock k s
  | .outputRelease n => runOutputRelease n s
  | .ppsPulse k => runPpsPulse k s
  | .todFrameStart k => runTodFrameStart k s
  | .vkeepLoss => runVkeepLoss s
  | .tamperTrigger p ka => runTamperTrigger p ka s
  | .pwrWarn low => runPwrWarn low s
  | .emergExit => runEmergExit s
  | .kaLatchEdge latch ka => runKaLatchEdge latch ka s
  | .kaLatchTransfer latch => runKaLatchTransfer latch s
  | .kaAlign kaCount edgeTime => runKaAlign kaCount edgeTime s
  | .kaFreqUpdate => runKaFreqUpdate s
  | .atomPresentChange present => runAtomPresentChange present s
  | .atomIdent frame => runAtomIdent frame s
  | .atomStatus frame => runAtomStatus frame s
  | .steerAck frame => runSteerAck frame s
  | .atomBadFrame frame => runAtomBadFrame frame s
  | .atomIdentRetry => runAtomIdentRetry s
  | .atomStatusTimeout => runAtomStatusTimeout s
  | .atomSteerTimeout => runAtomSteerTimeout s
  | .modPrsChange port high => runModPrsChange port high s
  | .moduleReadDone port ok bytes => runModuleReadDone port ok bytes s
  | .portLinkUp port => runPortLinkUp port s
  | .portLinkDown port => runPortLinkDown port s
  | .frameRx port bytes fcsOk time => runFrameRx port bytes fcsOk time s
  | .pauseRx port => runPauseRx port s
  | .pauseExpire port => runPauseExpire port s
  | .pauseStorm port => runPauseStorm port s
  | .pauseHoldoffEnd port => runPauseHoldoffEnd port s
  | .delayReqRx port => runDelayReqRx port s
  | .pdelayReqRx port => runPdelayReqRx port s
  | .signalingRx port => runSignalingRx port s
  | .managementRx port => runManagementRx port s
  | .upstreamAnnounceRx port => runUpstreamAnnounceRx port s
  | .upstreamSyncRx port => runUpstreamSyncRx port s
  | .upstreamDelayRespRx port => runUpstreamDelayRespRx port s
  | .upstreamDelayReqTx master => runUpstreamDelayReqTx master s
  | .upstreamGrantRenew master type => runUpstreamGrantRenew master type s
  | .upstreamCandidateTimeout master => runUpstreamCandidateTimeout master s
  | .ntpRequestRx port => runNtpRequestRx port s
  | .arpRx port => runArpRx port s
  | .ndRx port => runNdRx port s
  | .esmcPduRx port => runEsmcPduRx port s
  | .esmcQlTimeout slot => runEsmcQlTimeout slot s
  | .esmcTxSecond port => runEsmcTxSecond port s
  | .esmcEventPduTx port => runEsmcEventPduTx port s
  | .lldpRx port => runLldpRx port s
  | .hostFrameRx port => runHostFrameRx port s
  | .rxStallTimeout ring => runRxStallTimeout ring s
  | .txFrame t => runTxFrame t s
  | .unschedFrameStart port time => runUnschedFrameStart port time s
  | .lpiEnter port => runLpiEnter port s
  | .lpiWake port => runLpiWake port s
  | .couchBlockLock => runCouchBlockLock s
  | .helloRx at_ seg => runHelloRx at_ seg s
  | .forwardFrameRx at_ segs => runForwardFrameRx at_ segs s
  | .returnFrameRx at_ seg => runReturnFrameRx at_ seg s
  | .couchLinkCheck => runCouchLinkCheck s
  | .heartbeatCheck changed equal => runHeartbeatCheck changed equal s
  | .splitBrain readback arb => runSplitBrain readback arb s
  | .orphanPromote arb act => runOrphanPromote arb act s
  | .handoverSheet => runHandoverSheet s
  | .handoverEdge => runHandoverEdge s
  | .handoverRepromote => runHandoverRepromote s
  | .heldSheetsEnd => runHeldSheetsEnd s
  | .drillExpire => runDrillExpire s
  | .tdcEdge ch src falling gap tc second tE tF after => runTdcEdge ch src falling gap tc second tE tF after stage s
  | .windowArm window => runWindowArm window s
  | .windowClose window => runWindowClose window s
  | .dllSearchDone ch line coarse => runDllSearchDone ch line coarse s
  | .dllLock ch line fine => runDllLock ch line fine s
  | .dllUnlock ch line => runDllUnlock ch line s
  | .dllTrackTimeout ch line fineEnd => runDllTrackTimeout ch line fineEnd s
  | .tdcDllFault ch line => runTdcDllFault ch line s
  | .cdcTableCompute ch => runCdcTableCompute ch s
  | .taiMsEdge => runTaiMsEdge s
  | .correlatorDump ch d => runCorrelatorDump ch d s
  | .pullInTimeout ch => runPullInTimeout ch s
  | .steerTimeout ch => runSteerTimeout ch s
  | .navUnitDecoded ch ty bits item => runNavUnitDecoded ch ty bits item s
  | .solutionEpoch => runSolutionEpoch s
  | .slotMeasurement slot => runSlotMeasurement slot s
  | .todInMessage input baud frame => runTodInMessage input baud frame s
  | .refWholeSecond => runRefWholeSecond s
  | .slotTimerExpire slot => runSlotTimerExpire slot s
  | .holdSecondSample => runHoldSecondSample s
  | .oscGoodExpire => runOscGoodExpire s
  | .tempStale => runTempStale s
  | .leapWarningStart => runLeapWarningStart s
  | .ntsGenAgeExpire entry => runNtsGenAgeExpire entry s
  | .ageingVisit record => runAgeingVisit record s
  | .scrubPage f => runScrubPage f s
  | .repairCopyDone => runRepairCopyDone s
  | .wearMeasure ppm => runWearMeasure ppm s
  | .promotionPass => runPromotionPass s
  | .faultWireBreak pair equal => runFaultWireBreak pair equal s
  | .reactionTimerExpire => runReactionTimerExpire s
  | .faultNPulseEnd => runFaultNPulseEnd s
  | .vkeepRise low => runVkeepRise low s
  | .supply rails us => runSupply rails us s
  | .tempHigh t => runTempHigh t s
  | .calenderLock k => runCalenderLock k s
  | .ringTimeUsExpire ring => runRingTimeUsExpire ring s
  | .postedWriteApplied a => runPostedWriteApplied a s
  | .autoAllocation a => runAutoAllocation a s

end Sys2Proof.Machine
end

