-- ==== Sys2Proof/Machine/Late.lean ====
section
/-! DEFINITION. The edge with the work carried into it, the close of a sheet, and the maintenance SPI. -/

namespace Sys2Proof.Machine

/-! ### Work carried into a sheet (R41, R42, R441) -/

/-- The received frames that a command of classes 1 and 2 takes from the staging of its port. -/
def heldFrame : Instr → Option (Nat × (RxFrame → Bool))
  | .pauseRx p => some (p, isRule 1)
  | .esmcPduRx p => some (p, isRule 3)
  | .delayReqRx p => some (p, isPtp [1])
  | .pdelayReqRx p => some (p, isPtp [2])
  | .signalingRx p => some (p, isPtp [0xC])
  | .managementRx p => some (p, isPtp [0xD])
  | .upstreamAnnounceRx p => some (p, isPtp [0xB])
  | .upstreamSyncRx p => some (p, isPtp [0, 8])
  | .upstreamDelayRespRx p => some (p, isPtp [9, 3, 0xA])
  | .ntpRequestRx p => some (p, isRule 6)
  | .arpRx p => some (p, isArp true)
  | .ndRx p => some (p, isArp false)
  | _ => none

/-- SHEET_STATUS.CARRYING: work from an earlier sheet is pending. -/
def State.showCarry (s : State) : State :=
  s.putB SHEET.SHEET_STATUS_CARRYING
    (s.held.any (fun (w : Held) => decide (0 < w.age)) || s.hif.marks.any (fun (m : MarkHold) => decide (0 < m.age)) ||
      s.mac.ports.any (fun (q : PortSt) => q.replies.any (fun (r : Reply) => decide (0 < r.age))))

/-- Held work is taken up again in its order, each class until one of its pieces cannot be paid for; that one and those behind it keep their age. -/
def State.retryHeld (s : State) (l : List Held) : State :=
  (l.foldl (fun (q : State × List Nat) (w : Held) =>
    let s := q.1
    if q.2.contains w.cls then ({ s with held := s.held ++ [w] }, q.2)
    else
      let n := s.held.length
      let s := runAt w.cmd w.stage s
      match s.held[n]? with
      | some x =>
        if x.cmd = w.cmd then ({ s with held := setNth s.held n { x with age := w.age } }, x.cls :: q.2) else (s, q.2)
      | none => (s, q.2)) ({ s with held := [] }, [])).1

/-- Carried work goes ahead of new work (R41). -/
def State.carried (s : State) : State := ((s.postMarks).retryHeld s.held).showCarry

/-- Whether a piece of work has been carried for too long (R42). -/
def State.tooOld (s : State) (w : Held) : Bool := (w.cls == 1 || w.cls == 2) && decide (s.get SHEET.SHEET_CFG_CARRY_LIMIT < w.age)

/-- Held received packets past CARRY_LIMIT are dropped with their frames (R42). -/
def State.dropHeld (s : State) : State :=
  let l := s.held
  l.foldl (fun s (w : Held) =>
    if s.tooOld w then
      let s := s.inc SHEET.CARRY_DROP_CNT
      match heldFrame w.cmd with
      | some q => s.dropRx q.1 q.2
      | none => s
    else { s with held := s.held ++ [w] }) { s with held := [] }

/-- Queued replies past CARRY_LIMIT are dropped (R42). -/
def State.dropReplies (s : State) : State :=
  let lim := s.get SHEET.SHEET_CFG_CARRY_LIMIT
  let old := fun (r : Reply) => (r.cls == 1 || r.cls == 2) && decide (lim < r.age)
  (List.range 8).foldl (fun s p =>
    let q := s.port p
    let n := (q.replies.filter old).length
    if n = 0 then s
    else ((s.setPort p { q with replies := q.replies.filter (fun (r : Reply) => !old r) }).incBy SHEET.CARRY_DROP_CNT n).showNeg) s

/-- What is unfinished has been carried for one sheet more. -/
def State.ageHeld (s : State) : State :=
  let ports : List PortSt := s.mac.ports.map (fun (q : PortSt) =>
    { q with replies := q.replies.map (fun (r : Reply) => { r with age := r.age + 1 }) })
  { s with
    held := s.held.map (fun (w : Held) => { w with age := w.age + 1 })
    hif := { s.hif with marks := s.hif.marks.map (fun (m : MarkHold) => { m with age := m.age + 1 }) }
    mac := { s.mac with ports := ports } }

/-- Whether work of classes 1 to 4 waits: held work, marks, queued replies. -/
def State.unfinished (s : State) : Bool :=
  !s.held.isEmpty || !s.hif.marks.isEmpty || s.mac.ports.any (fun (q : PortSt) => !q.replies.isEmpty)

/-- CLOSE_SLICE (R41, R42, R344): `overrun` says whether of the work that waits some had been admitted in the sheet and is unfinished at
118.000 µs, `late0` whether a class 0 slice is; then the couch frame goes. -/
def runCloseSlice (overrun late0 : Bool) (s : State) : State :=
  let s := s.atSheetTime (nsU 118000)
  let flagged := overrun && s.unfinished
  let s := { s with sheet := { s.sheet with overrun := flagged } }
  let s := if flagged then s.inc SHEET.OVERRUN_CNT else s
  let s := { s with flt := { s.flt with sheetLate := late0 } }
  (s.ageHeld.dropHeld.dropReplies.showCarry).couchSend

/-- SHEET_EDGE (R25, R55): the edge, and then the work carried into the sheet. -/
def runSheetEdge (e : EdgeIn) (s : State) : State := (s.sheetEdge e).carried

/-- SHEET_ZERO (R486, R487): sheet 0 begins, and commands written before it are fetched. -/
def runSheetZero (e : EdgeIn) (met : Nat) (rest : Int) (s : State) : State :=
  if s.mayBegin met then (s.firstEdge e met rest).carried else s

/-! ### Doorbells (R374 to R377, R381 to R385) -/

/-- A command descriptor is fetched and judged (R381 to R385), with the argument block and the data it names. -/
def State.takeCmd (s : State) (n k : Nat) (d : List Byte) (block data : DmaIn) : State :=
  let h : Hdr := {
    origin := if s.flag (HIF.RING_CFG_FN n) then .pf1 else .pf0, ring := n, index := k % s.ringSize n, tag := leAt d 2 2
    polGiven := bitOf (leAt d 4 1) 0, latePol := bitOf (leAt d 4 1) 1, dmaOk := data.ok }
  runAt (cmdOf h d (if block.ok && decide (descArg d 8 2 ≤ block.bytes.length) then some (block.bytes.take (descArg d 8 2)) else none) data) 0 s

/-- A host-written descriptor below COUNT is read (R376, R377); `k` descriptors of its ring were written before it. -/
def State.ringTake (s : State) (n k : Nat) (r : RingIn) : State :=
  if s.flag (HIF.RING_STAT_HALTED n) then s
  else if !s.ringBme n then (s.ringHalt n 3).inc HIF.DMA_ERR_CNT
  else
    match r with
    | .dmaError => (s.ringHalt n 3).inc HIF.DMA_ERR_CNT
    | .desc d block data =>
      if !s.descOk n k d then s.ringHalt n 2
      else
        match s.get (HIF.RING_CFG_TYPE n) with
        | 1 => s.takeCmd n k d block data
        | 7 => { s with gnss := { s.gnss with steerQ := s.gnss.steerQ ++ [steerOf d] } }
        | 8 => s.takeTx n k d data
        | _ => s.takeBuf n d

/-- DOORBELL_WRITE (R375 to R377): from another function, or of no ring, it is counted as bad; a COUNT that claims or moves by more than
the ring size halts the ring; else the ring's count is COUNT, and what the host has written is read or what it has consumed is free. `ds` is what the engine reads there. -/
def runDoorbellWrite (fn n count : Nat) (view : PcieView) (ds : List RingIn) (s : State) : State :=
  let s := s.seePcie view
  if 63 < n ∨ s.get (HIF.RING_CFG_FN n) ≠ fn then s.inc HIF.DOORBELL_BAD_CNT
  else if !s.ringRuns n then s
  else
    let ty := s.get (HIF.RING_CFG_TYPE n)
    let c := count % 2 ^ 32
    let sub := fun (a b : Nat) => (a + 2 ^ 32 - b) % 2 ^ 32
    let prod := s.get (HIF.RING_PROD n)
    let cons := s.get (HIF.RING_CONS n)
    let size := s.ringSize n
    if hostWrites ty then
      if size < sub c cons ∨ size < sub c prod then s.ringHalt n 1
      else
        let s := (ds.take (sub c prod)).zipIdx.foldl (fun s (d : RingIn × Nat) => s.ringTake n (prod + d.2) d.1) (s.put (HIF.RING_PROD n) c)
        if ty = 9 then (s.ringsOf 10).foldl (fun s r => if s.get (HIF.RING_CFG_PAIR r) = n then s.rxFill r else s) s else s
    else if size < sub prod c ∨ size < sub c cons then s.ringHalt n 1
    else
      let s := s.put (HIF.RING_CONS n) c
      let s := s.putB (HIF.RING_STAT_FULL n) (!s.ringRoom n 1)
      if ty = 6 then s.reamConsumed n else if ty = 10 then s.rxFill n else s

/-! ### The maintenance SPI (R392, R393, Table 16-11) -/

/-- MB_GO (R393): GO submits the descriptor in the mailbox, or is ignored while BUSY is 1. -/
def runMbGo (v : Nat) (s : State) : State :=
  let en := bitOf v 1
  let s := ({ s with hif := { s.hif with mbIrqEn := en } }).putB (IRQ.SRC_CFG_EN 304) en
  let s := s.vecRefresh (s.vecOf 304) false
  if !bitOf v 0 || s.flag HIF.HIF_STATUS_MB_BUSY then s
  else
    let s := ({ s with hif := { s.hif with mbDone := false } }).putB HIF.HIF_STATUS_MB_BUSY true
    runAt (s.mbCommand s.hif.mbDesc) 0 s

/-- A word of a byte window after it is written. -/
def wordInto (l : List Byte) (off w : Nat) : List Byte := l.take off ++ leBytes 4 w ++ l.drop (off + 4)

/-- A word written through the maintenance SPI; what Table 16-11 does not name, or names read-only, does not change. -/
def State.spiWrite (s : State) (a w : Nat) : State :=
  if a < 0x400000 then s.writeAt .mspi a w
  else if a < 0x400020 then { s with hif := { s.hif with mbDesc := wordInto s.hif.mbDesc (a - 0x400000) w } }
  else if a = 0x400040 then runMbGo w s
  else if 0x400400 ≤ a ∧ a < 0x401000 then { s with hif := { s.hif with mbData := wordInto s.hif.mbData (a - 0x400400) w } }
  else s

/-- A word read through the maintenance SPI. A read of an RWT field votes it (R451), one of VEC_CLAIM claims (R421). -/
def State.spiRead (s : State) (a : Nat) : Nat × State :=
  if a < 0x400000 then
    match slotAt 0x200104 0x10 65 a with
    | some v => let s := runVecClaim v s; (s.readReg a, s)
    | none =>
      let s := (rowsAt a).foldl (fun s p => if isRwt (p.1.fld a p.2) then s.voteFld (p.1.fld a p.2) else s) s
      (s.readReg a, s)
  else if a < 0x400020 then (leAt s.hif.mbDesc (a - 0x400000) 4, s)
  else if a < 0x400040 then (leAt s.hif.mbCompl (a - 0x400020) 4, s)
  else if a = 0x400040 then (if s.hif.mbIrqEn then 2 else 0, s)
  else if a = 0x400044 then ((if s.flag HIF.HIF_STATUS_MB_BUSY then 1 else 0) + (if s.hif.mbDone then 2 else 0), s)
  else if 0x400400 ≤ a ∧ a < 0x401000 then (leAt s.hif.mbData (a - 0x400400) 4, s)
  else (0, s)

/-- The words of a read, first to last. -/
def State.spiReads (s : State) : Nat → Nat → List Nat × State
  | _, 0 => ([], s)
  | a, n + 1 =>
    let r := s.spiRead a
    let t := State.spiReads r.2 (a + 4) n
    (r.1 :: t.1, t.2)

/-- The words of a write, first to last. -/
def State.spiWrites (s : State) : Nat → List Nat → State
  | _, [] => s
  | a, w :: ws => State.spiWrites (s.spiWrite a (w % 2 ^ 32)) (a + 4) ws

/-- MSPI_TRANSFER (R392): opcode 0x02 writes words, 0x03 reads as many; another opcode, an unaligned address or a partial word (`ok` false) is
ignored and counted. -/
def runMspiTransfer (op addr : Nat) (words : List Nat) (ok : Bool) (s : State) : State :=
  if !ok || addr % 4 != 0 || (op != 2 && op != 3) then s.inc HIF.MSPI_BAD_CNT
  else if op = 2 then s.spiWrites (addr % 2 ^ 24) words
  else
    let r := s.spiReads (addr % 2 ^ 24) words.length
    r.2.emit (.spi r.1)

end Sys2Proof.Machine
end

