-- ==== Sys2Proof/Machine/Flags.lean ====
section
/-! DEFINITION. The flags and fault conditions that follow from the state after every command (chapter 18). -/

namespace Sys2Proof.Machine

/-! ### Wire pairs and fault sources (R426 to R428, Table 18-3) -/

/-- Whether the rails of a fault's pair are equal: at the block end by force, or on the way (R426, R428). Fault 0 has no pair, faults from 24 on
are reserved. -/
def State.pairBroken (s : State) (f : Nat) : Bool :=
  decide (1 ≤ f) && decide (f ≤ 23) && (bitOf s.flt.broken f || s.fbit FLT.FLT_FORCE_WIRE f)

/-- Whether an enabled calender is out of lock. -/
def State.calOut (s : State) : Bool := (List.range 4).any (fun k => s.flag (SYN.CAL_CTRL_ENABLE k) && !s.calLocked k)

/-- Whether R77 holds for any line. -/
def State.lineOut (s : State) : Bool := s.tdc.chans.any (fun (c : TdcCh) => c.lineE.fault || c.lineF.fault)

/-- The condition of a fault source (Table 18-3). -/
def State.faultCond (s : State) : Nat → Bool
  | 1 => s.flag GLB.GLB_STATUS_VOTE_MISMATCH
  | 2 => s.flag SHEET.SHEET_STATUS_TRAP
  | 3 => s.lineOut
  | 4 => s.syn.seenService && !s.flag SYN.SYN_STATUS_SP_IN_SERVICE
  | 5 => s.calOut
  | 6 => s.flt.keyMismatch
  | 7 => s.flag COUCH.PAIR_STATUS_HB_WIRE
  | 8 => s.flag COUCH.PAIR_STATUS_CONFLICT
  | 9 => (List.range 64).any (fun n => s.flag (HIF.RING_STAT_HALTED n))
  | 10 => s.flag VAT.VAT_STATUS_UNCORR
  | 11 => s.flag VAT.VAT_STATUS_DENY
  | 12 => s.flag REAM.REAM_STATUS_REAM_LOSS
  | 13 => s.flag HOLD.HOLD_STATUS_OSC_FAIL
  | 14 => s.syn.seenAct && !s.flag SYN.SYN_STATUS_OSC_ACT
  | 15 => s.flt.tempHigh
  | 16 => s.flt.supply
  | 17 => s.ledger.overLast
  | 18 => (List.range 128).any s.monitorCounts
  | 19 => s.flag KEY.KEY_STATUS_TAMPER
  | 20 => s.flag KEY.KEY_STATUS_KEEP_LOST
  | 21 => s.get BOUND.BOUND_CORE == boundMax
  | 22 => s.flt.sheetLate
  | _ => false

/-- Whether a fault is active (R426 to R428). -/
def State.faultOn (s : State) (f : Nat) : Bool :=
  if f = 0 then (List.range 24).any s.pairBroken
  else s.faultCond f || s.pairBroken f || (decide (f ≤ 23) && s.fbit FLT.FLT_FORCE_ACT f)

/-- FLT_WIRE follows a pair; a break is counted and posted (R426). -/
def State.judgeWire (s : State) (f : Nat) : State :=
  let b := s.pairBroken f
  if b == s.fbit FLT.FLT_WIRE f then s
  else
    let s := s.setFbit FLT.FLT_WIRE f b
    if b then (s.inc FLT.WIRE_CNT).event 0x0E03 f 0 else s

/-- A fault becomes active or clears (R427, R429). -/
def State.judgeFault (s : State) (f : Nat) : State :=
  let b := s.faultOn f
  if b == s.fbit FLT.FLT_ACTIVE f then s
  else if b then
    let s := ((s.charge0 300).setFbit FLT.FLT_ACTIVE f true).inc (FLT.FLT_RAISE_CNT f)
    ((s.eventIn 0x0E01 f 1).journal .auto 3 f 0 1 0x0E01).irqLevel (64 + f) true
  else ((s.setFbit FLT.FLT_ACTIVE f false).setFbit FLT.FLT_ACKED f false).irqLevel (64 + f) false

/-- Active faults, the reaction timer and FAULT_N (R430, R432). -/
def State.showFaults (s : State) : State :=
  let s := s.puts [(FLT.FLT_STATUS_ACTIVE_N, ((List.range 24).filter (s.fbit FLT.FLT_ACTIVE)).length),
    (FLT.FLT_STATUS_FAULT_N, if s.flag FLT.FLT_STATUS_PULSE || s.flag FLT.FAULTN_CFG_HOLD then 1 else 0)]
  let p := s.pressing
  if p == s.flag FLT.FLT_STATUS_TIMER_RUN then s
  else if p then { s.put FLT.FLT_STATUS_TIMER_RUN 1 with flt := { s.flt with timerUs := s.get FLT.REACT_US } }
  else s.put FLT.FLT_STATUS_TIMER_RUN 0

/-- The fault block follows what it watches. -/
def State.judgeFaults (s : State) : State :=
  ((List.range 24).foldl State.judgeFault ((List.range 24).foldl State.judgeWire s)).showFaults

/-! ### Counter overflow (R453) -/

/-- Source 192 + b ends with its overflow bit, or when no counter of the block is at its maximum. -/
def State.judgeOvf (s : State) (b : Nat) : State :=
  if !s.flag (IRQ.SRC_CFG_RAW (192 + b)) then s
  else if bitOf (s.get GLB.GLB_CNT_OVF) b && (cntFlds b).any (fun f => s.get f == 2 ^ 48 - 1) then s
  else s.irqLevel (192 + b) false

/-! ### What follows every command -/

/-- SERVING of the PTP and NTS blocks, and RUNNING of the sizing block. -/
def State.showServing (s : State) : State :=
  let b := if servingMode s.mode && !s.couch.handing then 1 else 0
  s.puts [(PTP.PTP_STATUS_SERVING, if servingMode s.mode then 1 else 0), (NTS.NTS_STATUS_SERVING, b),
    (SIZING.SIZ_STATUS_RUNNING, if s.sizingRuns then 1 else 0)]

/-- What the engine does at once after any command: events that wait, the ream to its ring, a handover that escalation asks for, the fault
sources, and last what registers show of the state. Nothing happens in reset (R479). -/
def State.settle (s : State) : State :=
  if s.inReset then s
  else
    let s := ((s.flushDue.reserveOver).showPair).escHandover
    let s := s.judgeFaults.judgeFaults
    let s := (List.range 26).foldl State.judgeOvf s
    let s := (s.reamPost.showReamWin).flushDue
    (((s.showCands.showServing).showOuts).showPorts).showStrobes.showRamp.showFrozen

/-! ### When commands have an effect (R479, R484) -/

/-- Nothing but the keep-alive domain acts while the engine is held in reset (R479). -/
def State.awake (s : State) (f : State → State) : State := if s.inReset then s else f s

/-- Sheets, their slices and their deckle entries exist from sheet 0 on (R25, R484). -/
def State.clocked (s : State) (f : State → State) : State := if s.running && !s.inReset then f s else s

end Sys2Proof.Machine
end

