-- ==== Sys2Proof/Machine/Meanings.lean ====
section
/-! DEFINITION. The meaning of each command: its effect, and then the fault sources as the new state shows them. -/

namespace Sys2Proof.Machine

/-- SHEET_EDGE (R25). -/
def execSheetEdge (e : EdgeIn) (s : State) : Host.Outcome State Fault Refusal :=
  .next (s.clocked (runSheetEdge e)).settle

/-- MEAS_DELIVERY_SLICE (R88). -/
def execMeasDeliverySlice (s : State) : Host.Outcome State Fault Refusal :=
  .next (s.clocked runMeasDeliverySlice).settle

/-- SELECTION_SLICE (R154). -/
def execSelectionSlice (dieTemp : Int) (s : State) : Host.Outcome State Fault Refusal :=
  .next (s.clocked (runSelectionSlice dieTemp)).settle

/-- CONTROL_SLICE (R203). -/
def execControlSlice (s : State) : Host.Outcome State Fault Refusal :=
  .next (s.clocked runControlSlice).settle

/-- BOUND_SLICE (R218). -/
def execBoundSlice (s : State) : Host.Outcome State Fault Refusal :=
  .next (s.clocked runBoundSlice).settle

/-- FINALISE_SLICE (R19). -/
def execFinaliseSlice (s : State) : Host.Outcome State Fault Refusal :=
  .next (s.clocked runFinaliseSlice).settle

/-- CLOSE_SLICE (R41). -/
def execCloseSlice (overrun : Bool) (late0 : Bool) (s : State) : Host.Outcome State Fault Refusal :=
  .next (s.clocked (runCloseSlice overrun late0)).settle

/-- DECKLE_NOP (R30). -/
def execDeckleNop (entry : Nat) (s : State) : Host.Outcome State Fault Refusal :=
  .next (s.clocked (runDeckleNop entry)).settle

/-- DECKLE_SEND_PTP (R277). -/
def execDeckleSendPtp (entry : Nat) (s : State) : Host.Outcome State Fault Refusal :=
  .next (s.clocked (runDeckleSendPtp entry)).settle

/-- DECKLE_REPLY_SLOT (R33). -/
def execDeckleReplySlot (entry : Nat) (s : State) : Host.Outcome State Fault Refusal :=
  .next (s.clocked (runDeckleReplySlot entry)).settle

/-- DECKLE_GATE (R246). -/
def execDeckleGate (entry : Nat) (s : State) : Host.Outcome State Fault Refusal :=
  .next (s.clocked (runDeckleGate entry)).settle

/-- DECKLE_STROBE (R60). -/
def execDeckleStrobe (entry : Nat) (s : State) : Host.Outcome State Fault Refusal :=
  .next (s.clocked (runDeckleStrobe entry)).settle

/-- DECKLE_NCO_HOP (R114). -/
def execDeckleNcoHop (entry : Nat) (samples : List Nat) (s : State) : Host.Outcome State Fault Refusal :=
  .next (s.clocked (runDeckleNcoHop entry samples)).settle

/-- DECKLE_MARK (R391). -/
def execDeckleMark (entry : Nat) (s : State) : Host.Outcome State Fault Refusal :=
  .next (s.clocked (runDeckleMark entry)).settle

/-- NOP (R385). -/
def execNop (h : Hdr) (s : State) : Host.Outcome State Fault Refusal :=
  .next (s.awake (runNop h)).settle

/-- MODE_SET (R386). -/
def execModeSet (h : Hdr) (mode : Nat) (s : State) : Host.Outcome State Fault Refusal :=
  .next (s.awake (runModeSet h mode)).settle

/-- STATUS_CLEAR (R387). -/
def execStatusClear (h : Hdr) (addr mask : Nat) (s : State) : Host.Outcome State Fault Refusal :=
  .next (s.awake (runStatusClear h addr mask)).settle

/-- RESTORE_FACTORY_SIZING (R467). -/
def execRestoreFactorySizing (h : Hdr) (scope : Nat) (s : State) : Host.Outcome State Fault Refusal :=
  .next (s.awake (runRestoreFactorySizing h scope)).settle

/-- BIST_RUN (R471). -/
def execBistRun (h : Hdr) (target index : Nat) (s : State) : Host.Outcome State Fault Refusal :=
  .next (s.awake (runBistRun h target index)).settle

/-- BIST_DONE (R471). -/
def execBistDone (fails : List (Nat × Nat × Nat)) (lines : List (Nat × Nat × Bool)) (s : State) : Host.Outcome State Fault Refusal :=
  .next (s.awake (runBistDone fails lines)).settle

/-- SPARE_PROMOTE (R472). -/
def execSparePromote (h : Hdr) (target index : Nat) (s : State) : Host.Outcome State Fault Refusal :=
  .next (s.awake (runSparePromote h target index)).settle

/-- MOULD_LOAD (R34). -/
def execMouldLoad (h : Hdr) (buf addr len : Nat) (s : State) : Host.Outcome State Fault Refusal :=
  .next (s.awake (runMouldLoad h buf addr len)).settle

/-- MOULD_LOAD_DONE (R34). -/
def execMouldLoadDone (buf : Nat) (dma : DmaIn) (s : State) : Host.Outcome State Fault Refusal :=
  .next (s.awake (runMouldLoadDone buf dma)).settle

/-- MOULD_ACTIVATE (R36). -/
def execMouldActivate (h : Hdr) (buf sheet : Nat) (s : State) : Host.Outcome State Fault Refusal :=
  .next (s.awake (runMouldActivate h buf sheet)).settle

/-- MOULD_CANCEL (R37). -/
def execMouldCancel (h : Hdr) (s : State) : Host.Outcome State Fault Refusal :=
  .next (s.awake (runMouldCancel h)).settle

/-- TIME_SET (R54). -/
def execTimeSet (h : Hdr) (wide : Nat) (s : State) : Host.Outcome State Fault Refusal :=
  .next (s.awake (runTimeSet h wide)).settle

/-- TIME_STEP (R54). -/
def execTimeStep (h : Hdr) (offset : Int) (grant : Bool) (s : State) : Host.Outcome State Fault Refusal :=
  .next (s.awake (runTimeStep h offset grant)).settle

/-- TIME_SLEW (R56). -/
def execTimeSlew (h : Hdr) (offset : Int) (s : State) : Host.Outcome State Fault Refusal :=
  .next (s.awake (runTimeSlew h offset)).settle

/-- LEAP_SCHEDULE (R58). -/
def execLeapSchedule (h : Hdr) (target dir : Nat) (s : State) : Host.Outcome State Fault Refusal :=
  .next (s.awake (runLeapSchedule h target dir)).settle

/-- LEAP_CANCEL (R58). -/
def execLeapCancel (h : Hdr) (s : State) : Host.Outcome State Fault Refusal :=
  .next (s.awake (runLeapCancel h)).settle

/-- STROBE_AT (R60). -/
def execStrobeAt (h : Hdr) (strobe target width : Nat) (s : State) : Host.Outcome State Fault Refusal :=
  .next (s.awake (runStrobeAt h strobe target width 0)).settle

/-- STROBE_PERIODIC (R61). -/
def execStrobePeriodic (h : Hdr) (strobe width count first period : Nat) (s : State) : Host.Outcome State Fault Refusal :=
  .next (s.awake (runStrobePeriodic h strobe width count first period 0)).settle

/-- STROBE_STOP (R61). -/
def execStrobeStop (h : Hdr) (strobe : Nat) (s : State) : Host.Outcome State Fault Refusal :=
  .next (s.awake (runStrobeStop h strobe 0)).settle

/-- STROBE_TARGET (R60). -/
def execStrobeTarget (strobe : Nat) (s : State) : Host.Outcome State Fault Refusal :=
  .next (s.awake (runStrobeTarget strobe)).settle

/-- MEAS_ARM (R85). -/
def execMeasArm (h : Hdr) (window target : Nat) (s : State) : Host.Outcome State Fault Refusal :=
  .next (s.awake (runMeasArm h window target)).settle

/-- MEAS_DISARM (R86). -/
def execMeasDisarm (h : Hdr) (window : Nat) (s : State) : Host.Outcome State Fault Refusal :=
  .next (s.awake (runMeasDisarm h window)).settle

/-- TDC_SIZE (R82). -/
def execTdcSize (h : Hdr) (mask : Nat) (s : State) : Host.Outcome State Fault Refusal :=
  .next (s.awake (runTdcSize h mask)).settle

/-- TDC_SIZE_DONE (R82). -/
def execTdcSizeDone (ch : Nat) (s : State) : Host.Outcome State Fault Refusal :=
  .next (s.awake (runTdcSizeDone ch)).settle

/-- TDC_TABLE_READ (R81). -/
def execTdcTableRead (h : Hdr) (ch addr : Nat) (s : State) : Host.Outcome State Fault Refusal :=
  .next (s.awake (runTdcTableRead h ch addr)).settle

/-- TDC_CDC_RESTART (R92). -/
def execTdcCdcRestart (h : Hdr) (ch : Nat) (s : State) : Host.Outcome State Fault Refusal :=
  .next (s.awake (runTdcCdcRestart h ch)).settle

/-- ACQ_START (R103). -/
def execAcqStart (h : Hdr) (a : AcqArgs) (s : State) : Host.Outcome State Fault Refusal :=
  .next (s.awake (runAcqStart h a)).settle

/-- ACQ_ABORT (R103). -/
def execAcqAbort (h : Hdr) (search : Nat) (s : State) : Host.Outcome State Fault Refusal :=
  .next (s.awake (runAcqAbort h search)).settle

/-- ACQ_RESULT (R104). -/
def execAcqResult (search : Nat) (r : AcqIn) (s : State) : Host.Outcome State Fault Refusal :=
  .next (s.awake (runAcqResult search r)).settle

/-- EPH_LOAD (R128). -/
def execEphLoad (h : Hdr) (count addr : Nat) (d : DmaIn) (s : State) : Host.Outcome State Fault Refusal :=
  .next (s.awake (runEphLoad h count addr d)).settle

/-- ALM_LOAD (R145). -/
def execAlmLoad (h : Hdr) (count addr : Nat) (d : DmaIn) (s : State) : Host.Outcome State Fault Refusal :=
  .next (s.awake (runAlmLoad h count addr d)).settle

/-- EPH_READ (R126). -/
def execEphRead (h : Hdr) (slot addr : Nat) (s : State) : Host.Outcome State Fault Refusal :=
  .next (s.awake (runEphRead h slot addr)).settle

/-- NAV_RESET (R145). -/
def execNavReset (h : Hdr) (mask : Nat) (s : State) : Host.Outcome State Fault Refusal :=
  .next (s.awake (runNavReset h mask)).settle

/-- SURVEY_START (R139). -/
def execSurveyStart (h : Hdr) (dur target : Nat) (s : State) : Host.Outcome State Fault Refusal :=
  .next (s.awake (runSurveyStart h dur target)).settle

/-- SURVEY_STOP (R140). -/
def execSurveyStop (h : Hdr) (s : State) : Host.Outcome State Fault Refusal :=
  .next (s.awake (runSurveyStop h)).settle

/-- SURVEY_EPOCH (R139). -/
def execSurveyEpoch (s : State) : Host.Outcome State Fault Refusal :=
  .next (s.awake runSurveyEpoch).settle

/-- SURVEY_DONE (R140). -/
def execSurveyDone (s : State) : Host.Outcome State Fault Refusal :=
  .next (s.awake runSurveyDone).settle

/-- POS_SET (R141). -/
def execPosSet (h : Hdr) (x y z : Int) (sigma : Nat) (s : State) : Host.Outcome State Fault Refusal :=
  .next (s.awake (runPosSet h x y z sigma)).settle

/-- GNSS_DELAY_SIZE (R142). -/
def execGnssDelaySize (h : Hdr) (ch dur : Nat) (s : State) : Host.Outcome State Fault Refusal :=
  .next (s.awake (runGnssDelaySize h ch dur)).settle

/-- DELAY_SIZED (R142). -/
def execDelaySized (s : State) : Host.Outcome State Fault Refusal :=
  .next (s.awake runDelaySized).settle

/-- REF_SELECT (R155). -/
def execRefSelect (h : Hdr) (slot : Nat) (s : State) : Host.Outcome State Fault Refusal :=
  .next (s.awake (runRefSelect h slot)).settle

/-- WTR_CLEAR (R169). -/
def execWtrClear (h : Hdr) (slot : Nat) (s : State) : Host.Outcome State Fault Refusal :=
  .next (s.awake (runWtrClear h slot)).settle

/-- HOLD_HISTORY_CLEAR (R171). -/
def execHoldHistoryClear (h : Hdr) (s : State) : Host.Outcome State Fault Refusal :=
  .next (s.awake (runHoldHistoryClear h)).settle

/-- HOLD_HISTORY_READ (R188). -/
def execHoldHistoryRead (h : Hdr) (addr : Nat) (s : State) : Host.Outcome State Fault Refusal :=
  .next (s.awake (runHoldHistoryRead h addr)).settle

/-- ATOM_RESCAN (R184). -/
def execAtomRescan (h : Hdr) (s : State) : Host.Outcome State Fault Refusal :=
  .next (s.awake (runAtomRescan h)).settle

/-- CAL_PHASE_STEP (R215). -/
def execCalPhaseStep (h : Hdr) (cal : Nat) (step : Int) (s : State) : Host.Outcome State Fault Refusal :=
  .next (s.awake (runCalPhaseStep h cal step 0)).settle

/-- PORT_SIZE (R258). -/
def execPortSize (h : Hdr) (port : Nat) (s : State) : Host.Outcome State Fault Refusal :=
  .next (s.awake (runPortSize h port)).settle

/-- PORT_SIZE_DONE (R258). -/
def execPortSizeDone (port trip : Nat) (s : State) : Host.Outcome State Fault Refusal :=
  .next (s.awake (runPortSizeDone port trip)).settle

/-- PORT_EXT_SET (R258). -/
def execPortExtSet (h : Hdr) (port : Nat) (tx rx : Int) (u : Nat) (s : State) : Host.Outcome State Fault Refusal :=
  .next (s.awake (runPortExtSet h port tx rx u)).settle

/-- MOD_READ (R257). -/
def execModRead (h : Hdr) (port dev off len addr : Nat) (s : State) : Host.Outcome State Fault Refusal :=
  .next (s.awake (runModRead h port dev off len addr)).settle

/-- MOD_WRITE (R257). -/
def execModWrite (h : Hdr) (port dev off : Nat) (data : List Byte) (s : State) : Host.Outcome State Fault Refusal :=
  .next (s.awake (runModWrite h port dev off data)).settle

/-- MOD_TRANSFER_DONE (R257). -/
def execModTransferDone (port : Nat) (ok : Bool) (bytes : List Byte) (s : State) : Host.Outcome State Fault Refusal :=
  .next (s.awake (runModTransferDone port ok bytes)).settle

/-- MOD_RESCAN (R256). -/
def execModRescan (h : Hdr) (port : Nat) (s : State) : Host.Outcome State Fault Refusal :=
  .next (s.awake (runModRescan h port)).settle

/-- CLIENT_SET (R292). -/
def execClientSet (h : Hdr) (record addr : Nat) (dma : DmaIn) (s : State) : Host.Outcome State Fault Refusal :=
  .next (s.awake (runClientSet h record addr dma)).settle

/-- CLIENT_READ (R292). -/
def execClientRead (h : Hdr) (record addr : Nat) (s : State) : Host.Outcome State Fault Refusal :=
  .next (s.awake (runClientRead h record addr)).settle

/-- CLIENT_DEL (R292). -/
def execClientDel (h : Hdr) (record : Nat) (s : State) : Host.Outcome State Fault Refusal :=
  .next (s.awake (runClientDel h record)).settle

/-- CLIENT_DEL_TIMEOUT (R292). -/
def execClientDelTimeout (record : Nat) (s : State) : Host.Outcome State Fault Refusal :=
  .next (s.awake (runClientDelTimeout record)).settle

/-- NTS_ROTATE (R307). -/
def execNtsRotate (h : Hdr) (entry slot keyId : Nat) (s : State) : Host.Outcome State Fault Refusal :=
  .next (s.awake (runNtsRotate h entry slot keyId)).settle

/-- NTS_RETIRE (R307). -/
def execNtsRetire (h : Hdr) (entry : Nat) (s : State) : Host.Outcome State Fault Refusal :=
  .next (s.awake (runNtsRetire h entry)).settle

/-- MINT_COOKIE (R308). -/
def execMintCookie (h : Hdr) (count : Nat) (erase : Bool) (keyAddr cookieAddr : Nat) (dma : DmaIn) (s : State) : Host.Outcome State Fault Refusal :=
  .next (s.awake (runMintCookie h count erase keyAddr cookieAddr dma)).settle

/-- KEY_DERIVE (R325). -/
def execKeyDerive (h : Hdr) (a : DeriveArgs) (s : State) : Host.Outcome State Fault Refusal :=
  .next (s.awake (runKeyDerive h a 0)).settle

/-- KEY_INVALIDATE (R327). -/
def execKeyInvalidate (h : Hdr) (slot : Nat) (s : State) : Host.Outcome State Fault Refusal :=
  .next (s.awake (runKeyInvalidate h slot 0)).settle

/-- KEY_INFO (R337). -/
def execKeyInfo (h : Hdr) (first count addr : Nat) (s : State) : Host.Outcome State Fault Refusal :=
  .next (s.awake (runKeyInfo h first count addr 0)).settle

/-- KEY_TAMPER_CLEAR (R331). -/
def execKeyTamperClear (h : Hdr) (s : State) : Host.Outcome State Fault Refusal :=
  .next (s.awake (runKeyTamperClear h)).settle

/-- PAIR_SWITCHOVER (R360). -/
def execPairSwitchover (h : Hdr) (dwell : Nat) (s : State) : Host.Outcome State Fault Refusal :=
  .next (s.awake (runPairSwitchover h dwell)).settle

/-- PAIR_PROMOTE (R362). -/
def execPairPromote (h : Hdr) (mode : Nat) (s : State) : Host.Outcome State Fault Refusal :=
  .next (s.awake (runPairPromote h mode)).settle

/-- PAIR_RESYNC (R367). -/
def execPairResync (h : Hdr) (s : State) : Host.Outcome State Fault Refusal :=
  .next (s.awake (runPairResync h)).settle

/-- UNKNOWN_OPCODE (R382). -/
def execUnknownOpcode (h : Hdr) (op : Nat) (s : State) : Host.Outcome State Fault Refusal :=
  .next (s.awake (runUnknownOpcode h op)).settle

/-- GLB_UNLOCK_WRITE (R449). -/
def execGlbUnlockWrite (o : Origin) (v : Nat) (s : State) : Host.Outcome State Fault Refusal :=
  .next (s.awake (runGlbUnlockWrite o v)).settle

/-- UNLOCK_LAPSE (R449). -/
def execUnlockLapse (o : Origin) (s : State) : Host.Outcome State Fault Refusal :=
  .next (s.awake (runUnlockLapse o)).settle

/-- REGISTER_WRITE (R450). -/
def execRegisterWrite (o : Origin) (a v : Nat) (s : State) : Host.Outcome State Fault Refusal :=
  .next (s.awake (runRegisterWrite o a v)).settle

/-- POS_WRITE (R141). -/
def execPosWrite (o : Origin) (addr v : Nat) (s : State) : Host.Outcome State Fault Refusal :=
  .next (s.awake (runPosWrite o addr v)).settle

/-- TIME_SNAP (R50). -/
def execTimeSnap (o : Origin) (s : State) : Host.Outcome State Fault Refusal :=
  .next (s.awake (runTimeSnap o)).settle

/-- KEY_STAGE_WRITE (R318). -/
def execKeyStageWrite (o : Origin) (addr v : Nat) (s : State) : Host.Outcome State Fault Refusal :=
  .next (s.awake (runKeyStageWrite o addr v)).settle

/-- KEY_COMMIT (R319). -/
def execKeyCommit (o : Origin) (v : Nat) (s : State) : Host.Outcome State Fault Refusal :=
  .next (s.awake (runKeyCommit o v 0)).settle

/-- KEY_COMMIT_SWITCH (R320). -/
def execKeyCommitSwitch (s : State) : Host.Outcome State Fault Refusal :=
  .next (s.awake runKeyCommitSwitch).settle

/-- CAL_APPLY (R205). -/
def execCalApply (o : Origin) (k v : Nat) (s : State) : Host.Outcome State Fault Refusal :=
  .next (s.awake (runCalApply o k v)).settle

/-- OUT_DIV_HI_WRITE (R204). -/
def execOutDivHiWrite (o : Origin) (n v : Nat) (s : State) : Host.Outcome State Fault Refusal :=
  .next (s.awake (runOutDivHiWrite o n v)).settle

/-- HOLD_STEER_CFG_WRITE (R181). -/
def execHoldSteerCfgWrite (o : Origin) (addr v : Nat) (s : State) : Host.Outcome State Fault Refusal :=
  .next (s.awake (runHoldSteerCfgWrite o addr v)).settle

/-- HOLD_TEMP_WRITE (R175). -/
def execHoldTempWrite (o : Origin) (v : Nat) (s : State) : Host.Outcome State Fault Refusal :=
  .next (s.awake (runHoldTempWrite o v)).settle

/-- CH_CFG_WRITE (R86). -/
def execChCfgWrite (o : Origin) (ch : Nat) (presc : Bool) (v : Nat) (s : State) : Host.Outcome State Fault Refusal :=
  .next (s.awake (runChCfgWrite o ch presc v)).settle

/-- WINDOW_DISARM_WRITE (R86). -/
def execWindowDisarmWrite (o : Origin) (window v : Nat) (s : State) : Host.Outcome State Fault Refusal :=
  .next (s.awake (runWindowDisarmWrite o window v)).settle

/-- REF_ENABLE (R152). -/
def execRefEnable (o : Origin) (slot v : Nat) (s : State) : Host.Outcome State Fault Refusal :=
  .next (s.awake (runRefEnable o slot v)).settle

/-- REF_DISABLE (R152). -/
def execRefDisable (o : Origin) (slot v : Nat) (s : State) : Host.Outcome State Fault Refusal :=
  .next (s.awake (runRefDisable o slot v)).settle

/-- GNSS_CH_ENABLE (R111). -/
def execGnssChEnable (o : Origin) (ch v : Nat) (s : State) : Host.Outcome State Fault Refusal :=
  .next (s.awake (runGnssChEnable o ch v)).settle

/-- GNSS_CH_DISABLE (R111). -/
def execGnssChDisable (o : Origin) (ch v : Nat) (s : State) : Host.Outcome State Fault Refusal :=
  .next (s.awake (runGnssChDisable o ch v)).settle

/-- PORT_CFG_WRITE (R232). -/
def execPortCfgWrite (o : Origin) (port v : Nat) (s : State) : Host.Outcome State Fault Refusal :=
  .next (s.awake (runPortCfgWrite o port v)).settle

/-- MOD_TXDIS_WRITE (R256). -/
def execModTxdisWrite (o : Origin) (port v : Nat) (s : State) : Host.Outcome State Fault Refusal :=
  .next (s.awake (runModTxdisWrite o port v)).settle

/-- TA_EN_WRITE (R311). -/
def execTaEnWrite (o : Origin) (port v : Nat) (s : State) : Host.Outcome State Fault Refusal :=
  .next (s.awake (runTaEnWrite o port v)).settle

/-- RING_ENABLE (R378). -/
def execRingEnable (o : Origin) (ring v : Nat) (view : PcieView) (s : State) : Host.Outcome State Fault Refusal :=
  .next (s.awake (runRingEnable o ring v view)).settle

/-- RING_DISABLE (R374). -/
def execRingDisable (o : Origin) (ring v : Nat) (s : State) : Host.Outcome State Fault Refusal :=
  .next (s.awake (runRingDisable o ring v)).settle

/-- DOORBELL_WRITE (R375). -/
def execDoorbellWrite (fn ring count : Nat) (view : PcieView) (ds : List RingIn) (s : State) : Host.Outcome State Fault Refusal :=
  .next (s.awake (runDoorbellWrite fn ring count view ds)).settle

/-- STAGED_ENTRY_POST (R379). -/
def execStagedEntryPost (s : State) : Host.Outcome State Fault Refusal :=
  .next (s.awake runStagedEntryPost).settle

/-- VEC_CLAIM (R421). -/
def execVecClaim (vector : Nat) (s : State) : Host.Outcome State Fault Refusal :=
  .next (s.awake (runVecClaim vector)).settle

/-- VEC_COMPLETE (R422). -/
def execVecComplete (o : Origin) (vector v : Nat) (s : State) : Host.Outcome State Fault Refusal :=
  .next (s.awake (runVecComplete o vector v)).settle

/-- MSIX_UNMASK (R420). -/
def execMsixUnmask (vector : Nat) (s : State) : Host.Outcome State Fault Refusal :=
  .next (s.awake (runMsixUnmask vector)).settle

/-- SRC_FORCE (R417). -/
def execSrcForce (o : Origin) (source v : Nat) (s : State) : Host.Outcome State Fault Refusal :=
  .next (s.awake (runSrcForce o source v)).settle

/-- FLT_ACK (R429). -/
def execFltAck (o : Origin) (word v : Nat) (s : State) : Host.Outcome State Fault Refusal :=
  .next (s.awake (runFltAck o word v)).settle

/-- FLT_ESC_CLEAR (R430). -/
def execFltEscClear (o : Origin) (v : Nat) (s : State) : Host.Outcome State Fault Refusal :=
  .next (s.awake (runFltEscClear o v)).settle

/-- FLT_FORCE_ACT (R428). -/
def execFltForceAct (o : Origin) (word v : Nat) (s : State) : Host.Outcome State Fault Refusal :=
  .next (s.awake (runFltForceAct o word v)).settle

/-- FLT_FORCE_WIRE (R428). -/
def execFltForceWire (o : Origin) (word v : Nat) (s : State) : Host.Outcome State Fault Refusal :=
  .next (s.awake (runFltForceWire o word v)).settle

/-- GLB_CNT_CLEAR (R453). -/
def execGlbCntClear (o : Origin) (v : Nat) (s : State) : Host.Outcome State Fault Refusal :=
  .next (s.awake (runGlbCntClear o v)).settle

/-- REAM_POP (R458). -/
def execReamPop (o : Origin) (v : Nat) (s : State) : Host.Outcome State Fault Refusal :=
  .next (s.awake (runReamPop o v)).settle

/-- SIZ_LOAD (R466). -/
def execSizLoad (o : Origin) (v : Nat) (s : State) : Host.Outcome State Fault Refusal :=
  .next (s.awake (runSizLoad o v 0)).settle

/-- SIZ_READ (R466). -/
def execSizRead (o : Origin) (v : Nat) (s : State) : Host.Outcome State Fault Refusal :=
  .next (s.awake (runSizRead o v 0)).settle

/-- MB_GO (R393). -/
def execMbGo (v : Nat) (s : State) : Host.Outcome State Fault Refusal :=
  .next (s.awake (runMbGo v)).settle

/-- MSPI_TRANSFER (R392). -/
def execMspiTransfer (op addr : Nat) (words : List Nat) (ok : Bool) (s : State) : Host.Outcome State Fault Refusal :=
  .next (s.awake (runMspiTransfer op addr words ok)).settle

/-- RESET_ASSERT (R479). -/
def execResetAssert (s : State) : Host.Outcome State Fault Refusal :=
  .next (runResetAssert s).settle

/-- RESET_RELEASE (R484). -/
def execResetRelease (cold : Bool) (k : KeepIn) (s : State) : Host.Outcome State Fault Refusal :=
  .next (runResetRelease cold k s).settle

/-- OSC_IN_DETECTED (R485). -/
def execOscInDetected (ratios : List Nat) (s : State) : Host.Outcome State Fault Refusal :=
  .next (s.awake (runOscInDetected ratios)).settle

/-- SHEET_ZERO (R486). -/
def execSheetZero (e : EdgeIn) (met : Nat) (rest : Int) (s : State) : Host.Outcome State Fault Refusal :=
  .next (s.awake (runSheetZero e met rest)).settle

/-- PCIE_PERST (R481). -/
def execPciePerst (s : State) : Host.Outcome State Fault Refusal :=
  .next (s.awake runPciePerst).settle

/-- PCIE_FLR (R373). -/
def execPcieFlr (fn : Nat) (s : State) : Host.Outcome State Fault Refusal :=
  .next (s.awake (runPcieFlr fn)).settle

/-- SP_LOCK_LOSS (R195). -/
def execSpLockLoss (diff : Int) (s : State) : Host.Outcome State Fault Refusal :=
  .next (s.awake (runSpLockLoss diff)).settle

/-- SP_LOCK_DECLARED (R196). -/
def execSpLockDeclared (s : State) : Host.Outcome State Fault Refusal :=
  .next (s.awake runSpLockDeclared).settle

/-- FINE_COUNT_RESUME (R53). -/
def execFineCountResume (rest : Int) (s : State) : Host.Outcome State Fault Refusal :=
  .next (s.awake (runFineCountResume rest)).settle

/-- FREEZE_COUNT_EXPIRE (R163). -/
def execFreezeCountExpire (s : State) : Host.Outcome State Fault Refusal :=
  .next (s.awake runFreezeCountExpire).settle

/-- OSC_ACTIVITY_LOSS (R199). -/
def execOscActivityLoss (ratio : Option Nat) (s : State) : Host.Outcome State Fault Refusal :=
  .next (s.awake (runOscActivityLoss ratio)).settle

/-- OSC_ACTIVITY_RETURN (R198). -/
def execOscActivityReturn (offset : Int) (s : State) : Host.Outcome State Fault Refusal :=
  .next (s.awake (runOscActivityReturn offset)).settle

/-- CALENDER_UNLOCK (R207). -/
def execCalenderUnlock (k : Nat) (s : State) : Host.Outcome State Fault Refusal :=
  .next (s.awake (runCalenderUnlock k)).settle

/-- OUTPUT_RELEASE (R207). -/
def execOutputRelease (n : Nat) (s : State) : Host.Outcome State Fault Refusal :=
  .next (s.awake (runOutputRelease n)).settle

/-- PPS_PULSE (R209). -/
def execPpsPulse (k : Nat) (s : State) : Host.Outcome State Fault Refusal :=
  .next (s.awake (runPpsPulse k)).settle

/-- TOD_FRAME_START (R211). -/
def execTodFrameStart (k : Nat) (s : State) : Host.Outcome State Fault Refusal :=
  .next (s.awake (runTodFrameStart k)).settle

/-- VKEEP_LOSS (R444). -/
def execVkeepLoss (s : State) : Host.Outcome State Fault Refusal :=
  .next (runVkeepLoss s).settle

/-- TAMPER_TRIGGER (R330). -/
def execTamperTrigger (p : TampIn) (ka : Nat) (s : State) : Host.Outcome State Fault Refusal :=
  .next (runTamperTrigger p ka s).settle

/-- PWR_WARN (R442). -/
def execPwrWarn (low : Bool) (s : State) : Host.Outcome State Fault Refusal :=
  .next (s.awake (runPwrWarn low)).settle

/-- EMERG_EXIT (R442). -/
def execEmergExit (s : State) : Host.Outcome State Fault Refusal :=
  .next (s.awake runEmergExit).settle

/-- KA_LATCH_EDGE (R418). -/
def execKaLatchEdge (latch ka : Nat) (s : State) : Host.Outcome State Fault Refusal :=
  .next (runKaLatchEdge latch ka s).settle

/-- KA_LATCH_TRANSFER (R418). -/
def execKaLatchTransfer (latch : Nat) (s : State) : Host.Outcome State Fault Refusal :=
  .next (s.awake (runKaLatchTransfer latch)).settle

/-- KA_ALIGN (R65). -/
def execKaAlign (kaCount edgeTime : Nat) (s : State) : Host.Outcome State Fault Refusal :=
  .next (s.awake (runKaAlign kaCount edgeTime)).settle

/-- KA_FREQ_UPDATE (R65). -/
def execKaFreqUpdate (s : State) : Host.Outcome State Fault Refusal :=
  .next (s.awake runKaFreqUpdate).settle

/-- ATOM_PRESENT_CHANGE (R184). -/
def execAtomPresentChange (present : Bool) (s : State) : Host.Outcome State Fault Refusal :=
  .next (s.awake (runAtomPresentChange present)).settle

/-- ATOM_IDENT (R184). -/
def execAtomIdent (frame : List Byte) (s : State) : Host.Outcome State Fault Refusal :=
  .next (s.awake (runAtomIdent frame)).settle

/-- ATOM_STATUS (R184). -/
def execAtomStatus (frame : List Byte) (s : State) : Host.Outcome State Fault Refusal :=
  .next (s.awake (runAtomStatus frame)).settle

/-- STEER_ACK (R186). -/
def execSteerAck (frame : List Byte) (s : State) : Host.Outcome State Fault Refusal :=
  .next (s.awake (runSteerAck frame)).settle

/-- ATOM_BAD_FRAME (R182). -/
def execAtomBadFrame (frame : List Byte) (s : State) : Host.Outcome State Fault Refusal :=
  .next (s.awake (runAtomBadFrame frame)).settle

/-- ATOM_IDENT_RETRY (R184). -/
def execAtomIdentRetry (s : State) : Host.Outcome State Fault Refusal :=
  .next (s.awake runAtomIdentRetry).settle

/-- ATOM_STATUS_TIMEOUT (R184). -/
def execAtomStatusTimeout (s : State) : Host.Outcome State Fault Refusal :=
  .next (s.awake runAtomStatusTimeout).settle

/-- ATOM_STEER_TIMEOUT (R186). -/
def execAtomSteerTimeout (s : State) : Host.Outcome State Fault Refusal :=
  .next (s.awake runAtomSteerTimeout).settle

/-- MOD_PRS_CHANGE (R256). -/
def execModPrsChange (port : Nat) (high : Bool) (s : State) : Host.Outcome State Fault Refusal :=
  .next (s.awake (runModPrsChange port high)).settle

/-- MODULE_READ_DONE (R256). -/
def execModuleReadDone (port : Nat) (ok : Bool) (bytes : List Byte) (s : State) : Host.Outcome State Fault Refusal :=
  .next (s.awake (runModuleReadDone port ok bytes)).settle

/-- PORT_LINK_UP (R256). -/
def execPortLinkUp (port : Nat) (s : State) : Host.Outcome State Fault Refusal :=
  .next (s.awake (runPortLinkUp port)).settle

/-- PORT_LINK_DOWN (R256). -/
def execPortLinkDown (port : Nat) (s : State) : Host.Outcome State Fault Refusal :=
  .next (s.awake (runPortLinkDown port)).settle

/-- FRAME_RX (R236). -/
def execFrameRx (port : Nat) (bytes : List Byte) (fcsOk : Bool) (time : Nat) (s : State) : Host.Outcome State Fault Refusal :=
  .next (s.awake (runFrameRx port bytes fcsOk time)).settle

/-- PAUSE_RX (R248). -/
def execPauseRx (port : Nat) (s : State) : Host.Outcome State Fault Refusal :=
  .next (s.awake (runPauseRx port)).settle

/-- PAUSE_EXPIRE (R248). -/
def execPauseExpire (port : Nat) (s : State) : Host.Outcome State Fault Refusal :=
  .next (s.awake (runPauseExpire port)).settle

/-- PAUSE_STORM (R249). -/
def execPauseStorm (port : Nat) (s : State) : Host.Outcome State Fault Refusal :=
  .next (s.awake (runPauseStorm port)).settle

/-- PAUSE_HOLDOFF_END (R249). -/
def execPauseHoldoffEnd (port : Nat) (s : State) : Host.Outcome State Fault Refusal :=
  .next (s.awake (runPauseHoldoffEnd port)).settle

/-- DELAY_REQ_RX (R279). -/
def execDelayReqRx (port : Nat) (s : State) : Host.Outcome State Fault Refusal :=
  .next (s.awake (runDelayReqRx port)).settle

/-- PDELAY_REQ_RX (R280). -/
def execPdelayReqRx (port : Nat) (s : State) : Host.Outcome State Fault Refusal :=
  .next (s.awake (runPdelayReqRx port)).settle

/-- SIGNALING_RX (R272). -/
def execSignalingRx (port : Nat) (s : State) : Host.Outcome State Fault Refusal :=
  .next (s.awake (runSignalingRx port)).settle

/-- MANAGEMENT_RX (R285). -/
def execManagementRx (port : Nat) (s : State) : Host.Outcome State Fault Refusal :=
  .next (s.awake (runManagementRx port)).settle

/-- UPSTREAM_ANNOUNCE_RX (R286). -/
def execUpstreamAnnounceRx (port : Nat) (s : State) : Host.Outcome State Fault Refusal :=
  .next (s.awake (runUpstreamAnnounceRx port)).settle

/-- UPSTREAM_SYNC_RX (R287). -/
def execUpstreamSyncRx (port : Nat) (s : State) : Host.Outcome State Fault Refusal :=
  .next (s.awake (runUpstreamSyncRx port)).settle

/-- UPSTREAM_DELAY_RESP_RX (R287). -/
def execUpstreamDelayRespRx (port : Nat) (s : State) : Host.Outcome State Fault Refusal :=
  .next (s.awake (runUpstreamDelayRespRx port)).settle

/-- UPSTREAM_DELAY_REQ_TX (R286). -/
def execUpstreamDelayReqTx (master : Nat) (s : State) : Host.Outcome State Fault Refusal :=
  .next (s.awake (runUpstreamDelayReqTx master)).settle

/-- UPSTREAM_GRANT_RENEW (R286). -/
def execUpstreamGrantRenew (master type : Nat) (s : State) : Host.Outcome State Fault Refusal :=
  .next (s.awake (runUpstreamGrantRenew master type)).settle

/-- UPSTREAM_CANDIDATE_TIMEOUT (R286). -/
def execUpstreamCandidateTimeout (master : Nat) (s : State) : Host.Outcome State Fault Refusal :=
  .next (s.awake (runUpstreamCandidateTimeout master)).settle

/-- NTP_REQUEST_RX (R295). -/
def execNtpRequestRx (port : Nat) (s : State) : Host.Outcome State Fault Refusal :=
  .next (s.awake (runNtpRequestRx port)).settle

/-- ARP_RX (R309). -/
def execArpRx (port : Nat) (s : State) : Host.Outcome State Fault Refusal :=
  .next (s.awake (runArpRx port)).settle

/-- ND_RX (R310). -/
def execNdRx (port : Nat) (s : State) : Host.Outcome State Fault Refusal :=
  .next (s.awake (runNdRx port)).settle

/-- ESMC_PDU_RX (R164). -/
def execEsmcPduRx (port : Nat) (s : State) : Host.Outcome State Fault Refusal :=
  .next (s.awake (runEsmcPduRx port)).settle

/-- ESMC_QL_TIMEOUT (R164). -/
def execEsmcQlTimeout (slot : Nat) (s : State) : Host.Outcome State Fault Refusal :=
  .next (s.awake (runEsmcQlTimeout slot)).settle

/-- ESMC_TX_SECOND (R166). -/
def execEsmcTxSecond (port : Nat) (s : State) : Host.Outcome State Fault Refusal :=
  .next (s.awake (runEsmcTxSecond port)).settle

/-- ESMC_EVENT_PDU_TX (R166). -/
def execEsmcEventPduTx (port : Nat) (s : State) : Host.Outcome State Fault Refusal :=
  .next (s.awake (runEsmcEventPduTx port)).settle

/-- LLDP_RX (R251). -/
def execLldpRx (port : Nat) (s : State) : Host.Outcome State Fault Refusal :=
  .next (s.awake (runLldpRx port)).settle

/-- HOST_FRAME_RX (R390). -/
def execHostFrameRx (port : Nat) (s : State) : Host.Outcome State Fault Refusal :=
  .next (s.awake (runHostFrameRx port)).settle

/-- RX_STALL_TIMEOUT (R390). -/
def execRxStallTimeout (ring : Nat) (s : State) : Host.Outcome State Fault Refusal :=
  .next (s.awake (runRxStallTimeout ring)).settle

/-- TX_FRAME (R388). -/
def execTxFrame (t : TxIn) (s : State) : Host.Outcome State Fault Refusal :=
  .next (s.awake (runTxFrame t)).settle

/-- UNSCHED_FRAME_START (R245). -/
def execUnschedFrameStart (port time : Nat) (s : State) : Host.Outcome State Fault Refusal :=
  .next (s.awake (runUnschedFrameStart port time)).settle

/-- LPI_ENTER (R252). -/
def execLpiEnter (port : Nat) (s : State) : Host.Outcome State Fault Refusal :=
  .next (s.awake (runLpiEnter port)).settle

/-- LPI_WAKE (R252). -/
def execLpiWake (port : Nat) (s : State) : Host.Outcome State Fault Refusal :=
  .next (s.awake (runLpiWake port)).settle

/-- COUCH_BLOCK_LOCK (R358). -/
def execCouchBlockLock (s : State) : Host.Outcome State Fault Refusal :=
  .next (s.awake runCouchBlockLock).settle

/-- HELLO_RX (R358). -/
def execHelloRx (at_ : Nat) (seg : List Byte) (s : State) : Host.Outcome State Fault Refusal :=
  .next (s.awake (runHelloRx at_ seg)).settle

/-- FORWARD_FRAME_RX (R349). -/
def execForwardFrameRx (at_ : Nat) (segs : List (List Byte)) (s : State) : Host.Outcome State Fault Refusal :=
  .next (s.awake (runForwardFrameRx at_ segs)).settle

/-- RETURN_FRAME_RX (R353). -/
def execReturnFrameRx (at_ : Nat) (seg : List Byte) (s : State) : Host.Outcome State Fault Refusal :=
  .next (s.awake (runReturnFrameRx at_ seg)).settle

/-- COUCH_LINK_CHECK (R358). -/
def execCouchLinkCheck (s : State) : Host.Outcome State Fault Refusal :=
  .next (s.awake runCouchLinkCheck).settle

/-- HEARTBEAT_CHECK (R355). -/
def execHeartbeatCheck (changed equal : Bool) (s : State) : Host.Outcome State Fault Refusal :=
  .next (s.awake (runHeartbeatCheck changed equal)).settle

/-- SPLIT_BRAIN (R365). -/
def execSplitBrain (readback arb : Bool) (s : State) : Host.Outcome State Fault Refusal :=
  .next (s.awake (runSplitBrain readback arb)).settle

/-- ORPHAN_PROMOTE (R362). -/
def execOrphanPromote (arb act : Bool) (s : State) : Host.Outcome State Fault Refusal :=
  .next (s.awake (runOrphanPromote arb act)).settle

/-- HANDOVER_SHEET (R360). -/
def execHandoverSheet (s : State) : Host.Outcome State Fault Refusal :=
  .next (s.awake runHandoverSheet).settle

/-- HANDOVER_EDGE (R360). -/
def execHandoverEdge (s : State) : Host.Outcome State Fault Refusal :=
  .next (s.awake runHandoverEdge).settle

/-- HANDOVER_REPROMOTE (R361). -/
def execHandoverRepromote (s : State) : Host.Outcome State Fault Refusal :=
  .next (s.awake runHandoverRepromote).settle

/-- HELD_SHEETS_END (R363). -/
def execHeldSheetsEnd (s : State) : Host.Outcome State Fault Refusal :=
  .next (s.awake runHeldSheetsEnd).settle

/-- DRILL_EXPIRE (R364). -/
def execDrillExpire (s : State) : Host.Outcome State Fault Refusal :=
  .next (s.awake runDrillExpire).settle

/-- TDC_EDGE (R64). -/
def execTdcEdge (ch : Nat) (src : EdgeSrc) (falling : Bool) (gap tc : Nat) (second : Bool) (tE tF : Option Nat) (after : Bool) (s : State) : Host.Outcome State Fault Refusal :=
  .next (s.awake (runTdcEdge ch src falling gap tc second tE tF after 0)).settle

/-- WINDOW_ARM (R85). -/
def execWindowArm (window : Nat) (s : State) : Host.Outcome State Fault Refusal :=
  .next (s.awake (runWindowArm window)).settle

/-- WINDOW_CLOSE (R85). -/
def execWindowClose (window : Nat) (s : State) : Host.Outcome State Fault Refusal :=
  .next (s.awake (runWindowClose window)).settle

/-- DLL_SEARCH_DONE (R76). -/
def execDllSearchDone (ch : Nat) (line : Bool) (coarse : Nat) (s : State) : Host.Outcome State Fault Refusal :=
  .next (s.awake (runDllSearchDone ch line coarse)).settle

/-- DLL_LOCK (R76). -/
def execDllLock (ch : Nat) (line : Bool) (fine : Nat) (s : State) : Host.Outcome State Fault Refusal :=
  .next (s.awake (runDllLock ch line fine)).settle

/-- DLL_UNLOCK (R76). -/
def execDllUnlock (ch : Nat) (line : Bool) (s : State) : Host.Outcome State Fault Refusal :=
  .next (s.awake (runDllUnlock ch line)).settle

/-- DLL_TRACK_TIMEOUT (R76). -/
def execDllTrackTimeout (ch : Nat) (line fineEnd : Bool) (s : State) : Host.Outcome State Fault Refusal :=
  .next (s.awake (runDllTrackTimeout ch line fineEnd)).settle

/-- TDC_DLL_FAULT (R77). -/
def execTdcDllFault (ch : Nat) (line : Bool) (s : State) : Host.Outcome State Fault Refusal :=
  .next (s.awake (runTdcDllFault ch line)).settle

/-- CDC_TABLE_COMPUTE (R79). -/
def execCdcTableCompute (ch : Nat) (s : State) : Host.Outcome State Fault Refusal :=
  .next (s.awake (runCdcTableCompute ch)).settle

/-- TAI_MS_EDGE (R117). -/
def execTaiMsEdge (s : State) : Host.Outcome State Fault Refusal :=
  .next (s.awake runTaiMsEdge).settle

/-- CORRELATOR_DUMP (R110). -/
def execCorrelatorDump (ch : Nat) (d : DumpIn) (s : State) : Host.Outcome State Fault Refusal :=
  .next (s.awake (runCorrelatorDump ch d)).settle

/-- PULL_IN_TIMEOUT (R111). -/
def execPullInTimeout (ch : Nat) (s : State) : Host.Outcome State Fault Refusal :=
  .next (s.awake (runPullInTimeout ch)).settle

/-- STEER_TIMEOUT (R116). -/
def execSteerTimeout (ch : Nat) (s : State) : Host.Outcome State Fault Refusal :=
  .next (s.awake (runSteerTimeout ch)).settle

/-- NAV_UNIT_DECODED (R124). -/
def execNavUnitDecoded (ch ty : Nat) (bits : List Bool) (item : NavItem) (s : State) : Host.Outcome State Fault Refusal :=
  .next (s.awake (runNavUnitDecoded ch ty bits item)).settle

/-- SOLUTION_EPOCH (R133). -/
def execSolutionEpoch (s : State) : Host.Outcome State Fault Refusal :=
  .next (s.awake runSolutionEpoch).settle

/-- SLOT_MEASUREMENT (R149). -/
def execSlotMeasurement (slot : Nat) (s : State) : Host.Outcome State Fault Refusal :=
  .next (s.awake (runSlotMeasurement slot)).settle

/-- TOD_IN_MESSAGE (R150). -/
def execTodInMessage (input baud : Nat) (frame : List Byte) (s : State) : Host.Outcome State Fault Refusal :=
  .next (s.awake (runTodInMessage input baud frame)).settle

/-- REF_WHOLE_SECOND (R151). -/
def execRefWholeSecond (s : State) : Host.Outcome State Fault Refusal :=
  .next (s.awake runRefWholeSecond).settle

/-- SLOT_TIMER_EXPIRE (R152). -/
def execSlotTimerExpire (slot : Nat) (s : State) : Host.Outcome State Fault Refusal :=
  .next (s.awake (runSlotTimerExpire slot)).settle

/-- HOLD_SECOND_SAMPLE (R170). -/
def execHoldSecondSample (s : State) : Host.Outcome State Fault Refusal :=
  .next (s.awake runHoldSecondSample).settle

/-- OSC_GOOD_EXPIRE (R178). -/
def execOscGoodExpire (s : State) : Host.Outcome State Fault Refusal :=
  .next (s.awake runOscGoodExpire).settle

/-- TEMP_STALE (R175). -/
def execTempStale (s : State) : Host.Outcome State Fault Refusal :=
  .next (s.awake runTempStale).settle

/-- LEAP_WARNING_START (R59). -/
def execLeapWarningStart (s : State) : Host.Outcome State Fault Refusal :=
  .next (s.awake runLeapWarningStart).settle

/-- NTS_GEN_AGE_EXPIRE (R306). -/
def execNtsGenAgeExpire (entry : Nat) (s : State) : Host.Outcome State Fault Refusal :=
  .next (s.awake (runNtsGenAgeExpire entry)).settle

/-- AGEING_VISIT (R281). -/
def execAgeingVisit (record : Nat) (s : State) : Host.Outcome State Fault Refusal :=
  .next (s.awake (runAgeingVisit record)).settle

/-- SCRUB_PAGE (R408). -/
def execScrubPage (f : PageFind) (s : State) : Host.Outcome State Fault Refusal :=
  .next (s.awake (runScrubPage f)).settle

/-- REPAIR_COPY_DONE (R411). -/
def execRepairCopyDone (s : State) : Host.Outcome State Fault Refusal :=
  .next (s.awake runRepairCopyDone).settle

/-- WEAR_MEASURE (R469). -/
def execWearMeasure (ppm : List Int) (s : State) : Host.Outcome State Fault Refusal :=
  .next (s.awake (runWearMeasure ppm)).settle

/-- PROMOTION_PASS (R472). -/
def execPromotionPass (s : State) : Host.Outcome State Fault Refusal :=
  .next (s.awake runPromotionPass).settle

/-- FAULT_WIRE_BREAK (R426). -/
def execFaultWireBreak (pair : Nat) (equal : Bool) (s : State) : Host.Outcome State Fault Refusal :=
  .next (s.awake (runFaultWireBreak pair equal)).settle

/-- REACTION_TIMER_EXPIRE (R430). -/
def execReactionTimerExpire (s : State) : Host.Outcome State Fault Refusal :=
  .next (s.awake runReactionTimerExpire).settle

/-- FAULT_N_PULSE_END (R432). -/
def execFaultNPulseEnd (s : State) : Host.Outcome State Fault Refusal :=
  .next (s.awake runFaultNPulseEnd).settle

/-- VKEEP_RISE (R444). -/
def execVkeepRise (low : Bool) (s : State) : Host.Outcome State Fault Refusal :=
  .next (runVkeepRise low s).settle

/-- SUPPLY (R493). -/
def execSupply (rails : List Nat) (us : Nat) (s : State) : Host.Outcome State Fault Refusal :=
  .next (s.awake (runSupply rails us)).settle

/-- TEMP_HIGH (R493). -/
def execTempHigh (t : Int) (s : State) : Host.Outcome State Fault Refusal :=
  .next (s.awake (runTempHigh t)).settle

/-- CALENDER_LOCK (R207). -/
def execCalenderLock (k : Nat) (s : State) : Host.Outcome State Fault Refusal :=
  .next (s.awake (runCalenderLock k)).settle

/-- RING_TIME_US_EXPIRE (R380). -/
def execRingTimeUsExpire (ring : Nat) (s : State) : Host.Outcome State Fault Refusal :=
  .next (s.awake (runRingTimeUsExpire ring)).settle

/-- POSTED_WRITE_APPLIED (R452). -/
def execPostedWriteApplied (a : Nat) (s : State) : Host.Outcome State Fault Refusal :=
  .next (s.awake (runPostedWriteApplied a)).settle

/-- AUTO_ALLOCATION (R105). -/
def execAutoAllocation (a : AcqArgs) (s : State) : Host.Outcome State Fault Refusal :=
  .next (s.awake (runAutoAllocation a)).settle

end Sys2Proof.Machine
end

