-- ==== Sys2Proof/Machine/Dispatch.lean ====
section
/-! DEFINITION. The dispatch: one arm for each command. -/

namespace Sys2Proof.Machine

def exec (i : Instr) (s : State) : Host.Outcome State Fault Refusal :=
  match i with
  | .sheetEdge e => Sys2Proof.Machine.execSheetEdge e s
  | .measDeliverySlice => Sys2Proof.Machine.execMeasDeliverySlice s
  | .selectionSlice dieTemp => Sys2Proof.Machine.execSelectionSlice dieTemp s
  | .controlSlice => Sys2Proof.Machine.execControlSlice s
  | .boundSlice => Sys2Proof.Machine.execBoundSlice s
  | .finaliseSlice => Sys2Proof.Machine.execFinaliseSlice s
  | .closeSlice overrun late0 => Sys2Proof.Machine.execCloseSlice overrun late0 s
  | .deckleNop entry => Sys2Proof.Machine.execDeckleNop entry s
  | .deckleSendPtp entry => Sys2Proof.Machine.execDeckleSendPtp entry s
  | .deckleReplySlot entry => Sys2Proof.Machine.execDeckleReplySlot entry s
  | .deckleGate entry => Sys2Proof.Machine.execDeckleGate entry s
  | .deckleStrobe entry => Sys2Proof.Machine.execDeckleStrobe entry s
  | .deckleNcoHop entry samples => Sys2Proof.Machine.execDeckleNcoHop entry samples s
  | .deckleMark entry => Sys2Proof.Machine.execDeckleMark entry s
  | .nop h => Sys2Proof.Machine.execNop h s
  | .modeSet h mode => Sys2Proof.Machine.execModeSet h mode s
  | .statusClear h addr mask => Sys2Proof.Machine.execStatusClear h addr mask s
  | .restoreFactorySizing h scope => Sys2Proof.Machine.execRestoreFactorySizing h scope s
  | .bistRun h target index => Sys2Proof.Machine.execBistRun h target index s
  | .bistDone fails lines => Sys2Proof.Machine.execBistDone fails lines s
  | .sparePromote h target index => Sys2Proof.Machine.execSparePromote h target index s
  | .mouldLoad h buf addr len => Sys2Proof.Machine.execMouldLoad h buf addr len s
  | .mouldLoadDone buf dma => Sys2Proof.Machine.execMouldLoadDone buf dma s
  | .mouldActivate h buf sheet => Sys2Proof.Machine.execMouldActivate h buf sheet s
  | .mouldCancel h => Sys2Proof.Machine.execMouldCancel h s
  | .timeSet h wide => Sys2Proof.Machine.execTimeSet h wide s
  | .timeStep h offset grant => Sys2Proof.Machine.execTimeStep h offset grant s
  | .timeSlew h offset => Sys2Proof.Machine.execTimeSlew h offset s
  | .leapSchedule h target dir => Sys2Proof.Machine.execLeapSchedule h target dir s
  | .leapCancel h => Sys2Proof.Machine.execLeapCancel h s
  | .strobeAt h strobe target width => Sys2Proof.Machine.execStrobeAt h strobe target width s
  | .strobePeriodic h strobe width count first period => Sys2Proof.Machine.execStrobePeriodic h strobe width count first period s
  | .strobeStop h strobe => Sys2Proof.Machine.execStrobeStop h strobe s
  | .strobeTarget strobe => Sys2Proof.Machine.execStrobeTarget strobe s
  | .measArm h window target => Sys2Proof.Machine.execMeasArm h window target s
  | .measDisarm h window => Sys2Proof.Machine.execMeasDisarm h window s
  | .tdcSize h mask => Sys2Proof.Machine.execTdcSize h mask s
  | .tdcSizeDone ch => Sys2Proof.Machine.execTdcSizeDone ch s
  | .tdcTableRead h ch addr => Sys2Proof.Machine.execTdcTableRead h ch addr s
  | .tdcCdcRestart h ch => Sys2Proof.Machine.execTdcCdcRestart h ch s
  | .acqStart h a => Sys2Proof.Machine.execAcqStart h a s
  | .acqAbort h search => Sys2Proof.Machine.execAcqAbort h search s
  | .acqResult search r => Sys2Proof.Machine.execAcqResult search r s
  | .ephLoad h count addr d => Sys2Proof.Machine.execEphLoad h count addr d s
  | .almLoad h count addr d => Sys2Proof.Machine.execAlmLoad h count addr d s
  | .ephRead h slot addr => Sys2Proof.Machine.execEphRead h slot addr s
  | .navReset h mask => Sys2Proof.Machine.execNavReset h mask s
  | .surveyStart h dur target => Sys2Proof.Machine.execSurveyStart h dur target s
  | .surveyStop h => Sys2Proof.Machine.execSurveyStop h s
  | .surveyEpoch => Sys2Proof.Machine.execSurveyEpoch s
  | .surveyDone => Sys2Proof.Machine.execSurveyDone s
  | .posSet h x y z sigma => Sys2Proof.Machine.execPosSet h x y z sigma s
  | .gnssDelaySize h ch dur => Sys2Proof.Machine.execGnssDelaySize h ch dur s
  | .delaySized => Sys2Proof.Machine.execDelaySized s
  | .refSelect h slot => Sys2Proof.Machine.execRefSelect h slot s
  | .wtrClear h slot => Sys2Proof.Machine.execWtrClear h slot s
  | .holdHistoryClear h => Sys2Proof.Machine.execHoldHistoryClear h s
  | .holdHistoryRead h addr => Sys2Proof.Machine.execHoldHistoryRead h addr s
  | .atomRescan h => Sys2Proof.Machine.execAtomRescan h s
  | .calPhaseStep h cal step => Sys2Proof.Machine.execCalPhaseStep h cal step s
  | .portSize h port => Sys2Proof.Machine.execPortSize h port s
  | .portSizeDone port trip => Sys2Proof.Machine.execPortSizeDone port trip s
  | .portExtSet h port tx rx u => Sys2Proof.Machine.execPortExtSet h port tx rx u s
  | .modRead h port dev off len addr => Sys2Proof.Machine.execModRead h port dev off len addr s
  | .modWrite h port dev off data => Sys2Proof.Machine.execModWrite h port dev off data s
  | .modTransferDone port ok bytes => Sys2Proof.Machine.execModTransferDone port ok bytes s
  | .modRescan h port => Sys2Proof.Machine.execModRescan h port s
  | .clientSet h record addr dma => Sys2Proof.Machine.execClientSet h record addr dma s
  | .clientRead h record addr => Sys2Proof.Machine.execClientRead h record addr s
  | .clientDel h record => Sys2Proof.Machine.execClientDel h record s
  | .clientDelTimeout record => Sys2Proof.Machine.execClientDelTimeout record s
  | .ntsRotate h entry slot keyId => Sys2Proof.Machine.execNtsRotate h entry slot keyId s
  | .ntsRetire h entry => Sys2Proof.Machine.execNtsRetire h entry s
  | .mintCookie h count erase keyAddr cookieAddr dma => Sys2Proof.Machine.execMintCookie h count erase keyAddr cookieAddr dma s
  | .keyDerive h a => Sys2Proof.Machine.execKeyDerive h a s
  | .keyInvalidate h slot => Sys2Proof.Machine.execKeyInvalidate h slot s
  | .keyInfo h first count addr => Sys2Proof.Machine.execKeyInfo h first count addr s
  | .keyTamperClear h => Sys2Proof.Machine.execKeyTamperClear h s
  | .pairSwitchover h dwell => Sys2Proof.Machine.execPairSwitchover h dwell s
  | .pairPromote h mode => Sys2Proof.Machine.execPairPromote h mode s
  | .pairResync h => Sys2Proof.Machine.execPairResync h s
  | .unknownOpcode h op => Sys2Proof.Machine.execUnknownOpcode h op s
  | .glbUnlockWrite o v => Sys2Proof.Machine.execGlbUnlockWrite o v s
  | .unlockLapse o => Sys2Proof.Machine.execUnlockLapse o s
  | .registerWrite o a v => Sys2Proof.Machine.execRegisterWrite o a v s
  | .posWrite o addr v => Sys2Proof.Machine.execPosWrite o addr v s
  | .timeSnap o => Sys2Proof.Machine.execTimeSnap o s
  | .keyStageWrite o addr v => Sys2Proof.Machine.execKeyStageWrite o addr v s
  | .keyCommit o v => Sys2Proof.Machine.execKeyCommit o v s
  | .keyCommitSwitch => Sys2Proof.Machine.execKeyCommitSwitch s
  | .calApply o k v => Sys2Proof.Machine.execCalApply o k v s
  | .outDivHiWrite o n v => Sys2Proof.Machine.execOutDivHiWrite o n v s
  | .holdSteerCfgWrite o addr v => Sys2Proof.Machine.execHoldSteerCfgWrite o addr v s
  | .holdTempWrite o v => Sys2Proof.Machine.execHoldTempWrite o v s
  | .chCfgWrite o ch presc v => Sys2Proof.Machine.execChCfgWrite o ch presc v s
  | .windowDisarmWrite o window v => Sys2Proof.Machine.execWindowDisarmWrite o window v s
  | .refEnable o slot v => Sys2Proof.Machine.execRefEnable o slot v s
  | .refDisable o slot v => Sys2Proof.Machine.execRefDisable o slot v s
  | .gnssChEnable o ch v => Sys2Proof.Machine.execGnssChEnable o ch v s
  | .gnssChDisable o ch v => Sys2Proof.Machine.execGnssChDisable o ch v s
  | .portCfgWrite o port v => Sys2Proof.Machine.execPortCfgWrite o port v s
  | .modTxdisWrite o port v => Sys2Proof.Machine.execModTxdisWrite o port v s
  | .taEnWrite o port v => Sys2Proof.Machine.execTaEnWrite o port v s
  | .ringEnable o ring v view => Sys2Proof.Machine.execRingEnable o ring v view s
  | .ringDisable o ring v => Sys2Proof.Machine.execRingDisable o ring v s
  | .doorbellWrite fn ring count view ds => Sys2Proof.Machine.execDoorbellWrite fn ring count view ds s
  | .stagedEntryPost => Sys2Proof.Machine.execStagedEntryPost s
  | .vecClaim vector => Sys2Proof.Machine.execVecClaim vector s
  | .vecComplete o vector v => Sys2Proof.Machine.execVecComplete o vector v s
  | .msixUnmask vector => Sys2Proof.Machine.execMsixUnmask vector s
  | .srcForce o source v => Sys2Proof.Machine.execSrcForce o source v s
  | .fltAck o word v => Sys2Proof.Machine.execFltAck o word v s
  | .fltEscClear o v => Sys2Proof.Machine.execFltEscClear o v s
  | .fltForceAct o word v => Sys2Proof.Machine.execFltForceAct o word v s
  | .fltForceWire o word v => Sys2Proof.Machine.execFltForceWire o word v s
  | .glbCntClear o v => Sys2Proof.Machine.execGlbCntClear o v s
  | .reamPop o v => Sys2Proof.Machine.execReamPop o v s
  | .sizLoad o v => Sys2Proof.Machine.execSizLoad o v s
  | .sizRead o v => Sys2Proof.Machine.execSizRead o v s
  | .mbGo v => Sys2Proof.Machine.execMbGo v s
  | .mspiTransfer op addr words ok => Sys2Proof.Machine.execMspiTransfer op addr words ok s
  | .resetAssert => Sys2Proof.Machine.execResetAssert s
  | .resetRelease cold k => Sys2Proof.Machine.execResetRelease cold k s
  | .oscInDetected ratios => Sys2Proof.Machine.execOscInDetected ratios s
  | .sheetZero e met rest => Sys2Proof.Machine.execSheetZero e met rest s
  | .pciePerst => Sys2Proof.Machine.execPciePerst s
  | .pcieFlr fn => Sys2Proof.Machine.execPcieFlr fn s
  | .spLockLoss diff => Sys2Proof.Machine.execSpLockLoss diff s
  | .spLockDeclared => Sys2Proof.Machine.execSpLockDeclared s
  | .fineCountResume rest => Sys2Proof.Machine.execFineCountResume rest s
  | .freezeCountExpire => Sys2Proof.Machine.execFreezeCountExpire s
  | .oscActivityLoss ratio => Sys2Proof.Machine.execOscActivityLoss ratio s
  | .oscActivityReturn offset => Sys2Proof.Machine.execOscActivityReturn offset s
  | .calenderUnlock k => Sys2Proof.Machine.execCalenderUnlock k s
  | .outputRelease n => Sys2Proof.Machine.execOutputRelease n s
  | .ppsPulse k => Sys2Proof.Machine.execPpsPulse k s
  | .todFrameStart k => Sys2Proof.Machine.execTodFrameStart k s
  | .vkeepLoss => Sys2Proof.Machine.execVkeepLoss s
  | .tamperTrigger p ka => Sys2Proof.Machine.execTamperTrigger p ka s
  | .pwrWarn low => Sys2Proof.Machine.execPwrWarn low s
  | .emergExit => Sys2Proof.Machine.execEmergExit s
  | .kaLatchEdge latch ka => Sys2Proof.Machine.execKaLatchEdge latch ka s
  | .kaLatchTransfer latch => Sys2Proof.Machine.execKaLatchTransfer latch s
  | .kaAlign kaCount edgeTime => Sys2Proof.Machine.execKaAlign kaCount edgeTime s
  | .kaFreqUpdate => Sys2Proof.Machine.execKaFreqUpdate s
  | .atomPresentChange present => Sys2Proof.Machine.execAtomPresentChange present s
  | .atomIdent frame => Sys2Proof.Machine.execAtomIdent frame s
  | .atomStatus frame => Sys2Proof.Machine.execAtomStatus frame s
  | .steerAck frame => Sys2Proof.Machine.execSteerAck frame s
  | .atomBadFrame frame => Sys2Proof.Machine.execAtomBadFrame frame s
  | .atomIdentRetry => Sys2Proof.Machine.execAtomIdentRetry s
  | .atomStatusTimeout => Sys2Proof.Machine.execAtomStatusTimeout s
  | .atomSteerTimeout => Sys2Proof.Machine.execAtomSteerTimeout s
  | .modPrsChange port high => Sys2Proof.Machine.execModPrsChange port high s
  | .moduleReadDone port ok bytes => Sys2Proof.Machine.execModuleReadDone port ok bytes s
  | .portLinkUp port => Sys2Proof.Machine.execPortLinkUp port s
  | .portLinkDown port => Sys2Proof.Machine.execPortLinkDown port s
  | .frameRx port bytes fcsOk time => Sys2Proof.Machine.execFrameRx port bytes fcsOk time s
  | .pauseRx port => Sys2Proof.Machine.execPauseRx port s
  | .pauseExpire port => Sys2Proof.Machine.execPauseExpire port s
  | .pauseStorm port => Sys2Proof.Machine.execPauseStorm port s
  | .pauseHoldoffEnd port => Sys2Proof.Machine.execPauseHoldoffEnd port s
  | .delayReqRx port => Sys2Proof.Machine.execDelayReqRx port s
  | .pdelayReqRx port => Sys2Proof.Machine.execPdelayReqRx port s
  | .signalingRx port => Sys2Proof.Machine.execSignalingRx port s
  | .managementRx port => Sys2Proof.Machine.execManagementRx port s
  | .upstreamAnnounceRx port => Sys2Proof.Machine.execUpstreamAnnounceRx port s
  | .upstreamSyncRx port => Sys2Proof.Machine.execUpstreamSyncRx port s
  | .upstreamDelayRespRx port => Sys2Proof.Machine.execUpstreamDelayRespRx port s
  | .upstreamDelayReqTx master => Sys2Proof.Machine.execUpstreamDelayReqTx master s
  | .upstreamGrantRenew master type => Sys2Proof.Machine.execUpstreamGrantRenew master type s
  | .upstreamCandidateTimeout master => Sys2Proof.Machine.execUpstreamCandidateTimeout master s
  | .ntpRequestRx port => Sys2Proof.Machine.execNtpRequestRx port s
  | .arpRx port => Sys2Proof.Machine.execArpRx port s
  | .ndRx port => Sys2Proof.Machine.execNdRx port s
  | .esmcPduRx port => Sys2Proof.Machine.execEsmcPduRx port s
  | .esmcQlTimeout slot => Sys2Proof.Machine.execEsmcQlTimeout slot s
  | .esmcTxSecond port => Sys2Proof.Machine.execEsmcTxSecond port s
  | .esmcEventPduTx port => Sys2Proof.Machine.execEsmcEventPduTx port s
  | .lldpRx port => Sys2Proof.Machine.execLldpRx port s
  | .hostFrameRx port => Sys2Proof.Machine.execHostFrameRx port s
  | .rxStallTimeout ring => Sys2Proof.Machine.execRxStallTimeout ring s
  | .txFrame t => Sys2Proof.Machine.execTxFrame t s
  | .unschedFrameStart port time => Sys2Proof.Machine.execUnschedFrameStart port time s
  | .lpiEnter port => Sys2Proof.Machine.execLpiEnter port s
  | .lpiWake port => Sys2Proof.Machine.execLpiWake port s
  | .couchBlockLock => Sys2Proof.Machine.execCouchBlockLock s
  | .helloRx at_ seg => Sys2Proof.Machine.execHelloRx at_ seg s
  | .forwardFrameRx at_ segs => Sys2Proof.Machine.execForwardFrameRx at_ segs s
  | .returnFrameRx at_ seg => Sys2Proof.Machine.execReturnFrameRx at_ seg s
  | .couchLinkCheck => Sys2Proof.Machine.execCouchLinkCheck s
  | .heartbeatCheck changed equal => Sys2Proof.Machine.execHeartbeatCheck changed equal s
  | .splitBrain readback arb => Sys2Proof.Machine.execSplitBrain readback arb s
  | .orphanPromote arb act => Sys2Proof.Machine.execOrphanPromote arb act s
  | .handoverSheet => Sys2Proof.Machine.execHandoverSheet s
  | .handoverEdge => Sys2Proof.Machine.execHandoverEdge s
  | .handoverRepromote => Sys2Proof.Machine.execHandoverRepromote s
  | .heldSheetsEnd => Sys2Proof.Machine.execHeldSheetsEnd s
  | .drillExpire => Sys2Proof.Machine.execDrillExpire s
  | .tdcEdge ch src falling gap tc second tE tF after => Sys2Proof.Machine.execTdcEdge ch src falling gap tc second tE tF after s
  | .windowArm window => Sys2Proof.Machine.execWindowArm window s
  | .windowClose window => Sys2Proof.Machine.execWindowClose window s
  | .dllSearchDone ch line coarse => Sys2Proof.Machine.execDllSearchDone ch line coarse s
  | .dllLock ch line fine => Sys2Proof.Machine.execDllLock ch line fine s
  | .dllUnlock ch line => Sys2Proof.Machine.execDllUnlock ch line s
  | .dllTrackTimeout ch line fineEnd => Sys2Proof.Machine.execDllTrackTimeout ch line fineEnd s
  | .tdcDllFault ch line => Sys2Proof.Machine.execTdcDllFault ch line s
  | .cdcTableCompute ch => Sys2Proof.Machine.execCdcTableCompute ch s
  | .taiMsEdge => Sys2Proof.Machine.execTaiMsEdge s
  | .correlatorDump ch d => Sys2Proof.Machine.execCorrelatorDump ch d s
  | .pullInTimeout ch => Sys2Proof.Machine.execPullInTimeout ch s
  | .steerTimeout ch => Sys2Proof.Machine.execSteerTimeout ch s
  | .navUnitDecoded ch ty bits item => Sys2Proof.Machine.execNavUnitDecoded ch ty bits item s
  | .solutionEpoch => Sys2Proof.Machine.execSolutionEpoch s
  | .slotMeasurement slot => Sys2Proof.Machine.execSlotMeasurement slot s
  | .todInMessage input baud frame => Sys2Proof.Machine.execTodInMessage input baud frame s
  | .refWholeSecond => Sys2Proof.Machine.execRefWholeSecond s
  | .slotTimerExpire slot => Sys2Proof.Machine.execSlotTimerExpire slot s
  | .holdSecondSample => Sys2Proof.Machine.execHoldSecondSample s
  | .oscGoodExpire => Sys2Proof.Machine.execOscGoodExpire s
  | .tempStale => Sys2Proof.Machine.execTempStale s
  | .leapWarningStart => Sys2Proof.Machine.execLeapWarningStart s
  | .ntsGenAgeExpire entry => Sys2Proof.Machine.execNtsGenAgeExpire entry s
  | .ageingVisit record => Sys2Proof.Machine.execAgeingVisit record s
  | .scrubPage f => Sys2Proof.Machine.execScrubPage f s
  | .repairCopyDone => Sys2Proof.Machine.execRepairCopyDone s
  | .wearMeasure ppm => Sys2Proof.Machine.execWearMeasure ppm s
  | .promotionPass => Sys2Proof.Machine.execPromotionPass s
  | .faultWireBreak pair equal => Sys2Proof.Machine.execFaultWireBreak pair equal s
  | .reactionTimerExpire => Sys2Proof.Machine.execReactionTimerExpire s
  | .faultNPulseEnd => Sys2Proof.Machine.execFaultNPulseEnd s
  | .vkeepRise low => Sys2Proof.Machine.execVkeepRise low s
  | .supply rails us => Sys2Proof.Machine.execSupply rails us s
  | .tempHigh t => Sys2Proof.Machine.execTempHigh t s
  | .calenderLock k => Sys2Proof.Machine.execCalenderLock k s
  | .ringTimeUsExpire ring => Sys2Proof.Machine.execRingTimeUsExpire ring s
  | .postedWriteApplied a => Sys2Proof.Machine.execPostedWriteApplied a s
  | .autoAllocation a => Sys2Proof.Machine.execAutoAllocation a s

end Sys2Proof.Machine
end

