-- ==== Sys2Proof/Safety.lean ====
section
/-! DEFINITION. What a sound state is, what bookkeeping is, and when a command of the host runs, in the terms that statements use. -/

namespace Sys2Proof.Machine

/-- Registers, their further copies and the vat are in their canonical forms. -/
def State.canonical (s : State) : Bool := s.regs.wf && s.rwtB.wf && s.rwtC.wf && s.vat.wf

/-! ### Bookkeeping

Every command may also cost stock, post events and completions, journal, count, raise interrupts and be followed by what registers show of the
state. The register fields and the parts of the state that do so are named here once; a frame speaks of everything else. -/

/-- Where the fields stand that bookkeeping writes: the keys from `lo` to below `hi` that leave the remainder `r` by `p`. -/
def noisePlaces : List (Nat × Nat × Nat × Nat) :=
  [(1024, 1025, 1, 0), (2099328, 2099329, 1, 0), (2097154, 2097155, 1, 0), (2107648, 2107649, 1, 0), (60817408, 60817409, 1, 0),
   (60817410, 60817411, 1, 0), (60817412, 60817413, 1, 0), (60817415, 60817416, 1, 0), (60817424, 60817425, 1, 0),
   (60819200, 60819201, 1, 0), (60823296, 60823297, 1, 0), (62914571, 62914572, 1, 0), (62914816, 62914817, 1, 0),
   (62914944, 62914945, 1, 0), (62916608, 62916609, 1, 0), (62918400, 62918401, 1, 0), (62918912, 62918913, 1, 0),
   (65011716, 65011717, 1, 0), (65011717, 65011718, 1, 0), (65012992, 65012993, 1, 0), (65013248, 65013249, 1, 0),
   (65014784, 65014785, 1, 0), (65014912, 65014913, 1, 0), (65015040, 65015041, 1, 0), (65015296, 65015297, 1, 0),
   (65015424, 65015425, 1, 0), (65015428, 65015429, 1, 0), (67108864, 67108865, 1, 0), (67108880, 67108881, 1, 0),
   (69206018, 69206019, 1, 0), (69206019, 69206020, 1, 0), (69206024, 69206025, 1, 0), (69210368, 69210369, 1, 0),
   (71303168, 71303169, 1, 0), (71303169, 71303170, 1, 0), (71303170, 71303171, 1, 0), (71303424, 71303425, 1, 0),
   (71303680, 71303681, 1, 0), (71304192, 71304193, 1, 0), (71304448, 71304449, 1, 0), (77595008, 77595009, 1, 0),
   (77595016, 77595017, 1, 0), (77595020, 77595021, 1, 0), (77595028, 77595029, 1, 0), (54525952, 54525953, 1, 0),
   (56623104, 56623105, 1, 0), (75497476, 75497477, 1, 0), (2105344, 2107137, 256, 0), (62923136, 62987649, 1024, 384),
   (62923264, 62987777, 1024, 512), (62923392, 62987905, 1024, 640), (62923393, 62987906, 1024, 641), (62923394, 62987907, 1024, 642),
   (62923397, 62987910, 1024, 645), (67117440, 67182465, 512, 384), (67117444, 67182469, 512, 388), (67117448, 67182473, 512, 392),
   (67117453, 67182478, 512, 397), (67239954, 67305363, 128, 18), (67239956, 67305365, 128, 20), (69207040, 69207425, 128, 0),
   (69208064, 69208449, 128, 0), (69208576, 69208961, 128, 0), (69238784, 69271297, 256, 0), (71311360, 71313281, 128, 0),
   (73408640, 73424513, 512, 128), (39879296, 39894657, 1024, 640), (39879298, 39894659, 1024, 642), (39895424, 39896961, 512, 384),
   (39895425, 39896962, 512, 385),
   (16777216, 16777217, 1, 0), (16777217, 16777218, 1, 0), (39845893, 39845894, 1, 0), (35651599, 35651600, 1, 0),
   (6295682, 6303363, 512, 130), (6295681, 6303362, 512, 129)]

/-- Whether bookkeeping may write a field. -/
def noisy (k : Nat) : Bool := noisePlaces.any (fun p => decide (p.1 ≤ k) && decide (k < p.2.1) && k % p.2.2.1 == p.2.2.2)

/-- What bookkeeping keeps of a state, beside register fields. -/
structure Core where
  vat : Memory
  held : List Held
  running : Bool
  inReset : Bool
  pending : List Instr
  rwtB : RegFile
  rwtC : RegFile
  glb : GlbSt
  siz : SizSt
  spare : SpareSt
  time : TimeSt
  sheet : SheetSt
  tdc : TdcSt
  gnss : GnssSt
  nav : NavSt
  ref : RefSt
  hold : HoldSt
  syn : SynSt
  bound : BoundSt
  mac : MacSt
  ptp : PtpSt
  nts : NtsSt
  key : KeySt
  keep : KeepSt
  hif : HifSt
  irq : IrqSt
  flt : FltSt
  couch : CouchSt
  vatc : VatSt
  ledger : LedgerSt

/-- What bookkeeping keeps of a state, beside register fields. -/
def State.core (s : State) : Core where
  vat := s.vat
  held := s.held
  running := s.running
  inReset := s.inReset
  pending := s.pending
  rwtB := s.rwtB
  rwtC := s.rwtC
  glb := s.glb
  siz := s.siz
  spare := s.spare
  time := s.time
  sheet := s.sheet
  tdc := s.tdc
  gnss := s.gnss
  nav := s.nav
  ref := s.ref
  hold := s.hold
  syn := { s.syn with clkPins := [], ppsPins := [] }
  bound := s.bound
  mac := s.mac
  ptp := s.ptp
  nts := s.nts
  key := s.key
  keep := s.keep
  hif := { s.hif with rings := [], events := [], evHead := 0, eventsDue := [], eventGap := false, compl := [], mbCompl := [], mbDone := false }
  irq := { s.irq with autoHeld := [], ready := [] }
  flt := { s.flt with timerUs := 0, handover := false }
  couch := { s.couch with locked := false, offer := none, final := none, hand := none }
  vatc := { s.vatc with poison := [], denied := false }
  ledger := { s.ledger with drawn := [], floors := [], reserve := 0, beyondReserve := false, overSeen := false, beyondBudget := false }

/-- One state is another, but for bookkeeping and the register fields named: every other field reads the same, every other part is the same, and
what has left the engine stays. -/
structure Keeps (l : List Fld) (s t : State) : Prop where
  get : ∀ f : Fld, noisy f.key = false → (∀ d ∈ l, f.key ≠ d.key) → t.get f = s.get f
  core : t.core = s.core
  out : s.out <:+ t.out

/-- The parts of a state that a frame may name. -/
inductive Part
  | vat
  | held
  | running
  | inReset
  | rwtB
  | rwtC
  | glb
  | siz
  | spare
  | time
  | sheet
  | tdc
  | gnss
  | nav
  | ref
  | hold
  | syn
  | bound
  | mac
  | ptp
  | nts
  | key
  | keep
  | hif
  | irq
  | flt
  | couch
  | vatc
  | ledger
  deriving DecidableEq, Repr

/-- What is left to compare when some parts are not. -/
def Core.without (c : Core) (ps : List Part) : Core where
  pending := c.pending
  vat := if ps.contains .vat then [] else c.vat
  held := if ps.contains .held then [] else c.held
  running := if ps.contains .running then false else c.running
  inReset := if ps.contains .inReset then false else c.inReset
  rwtB := if ps.contains .rwtB then [] else c.rwtB
  rwtC := if ps.contains .rwtC then [] else c.rwtC
  glb := if ps.contains .glb then {} else c.glb
  siz := if ps.contains .siz then {} else c.siz
  spare := if ps.contains .spare then {} else c.spare
  time := if ps.contains .time then {} else c.time
  sheet := if ps.contains .sheet then {} else c.sheet
  tdc := if ps.contains .tdc then {} else c.tdc
  gnss := if ps.contains .gnss then {} else c.gnss
  nav := if ps.contains .nav then {} else c.nav
  ref := if ps.contains .ref then {} else c.ref
  hold := if ps.contains .hold then {} else c.hold
  syn := if ps.contains .syn then {} else c.syn
  bound := if ps.contains .bound then {} else c.bound
  mac := if ps.contains .mac then {} else c.mac
  ptp := if ps.contains .ptp then {} else c.ptp
  nts := if ps.contains .nts then {} else c.nts
  key := if ps.contains .key then {} else c.key
  keep := if ps.contains .keep then {} else c.keep
  hif := if ps.contains .hif then {} else c.hif
  irq := if ps.contains .irq then {} else c.irq
  flt := if ps.contains .flt then {} else c.flt
  couch := if ps.contains .couch then {} else c.couch
  vatc := if ps.contains .vatc then {} else c.vatc
  ledger := if ps.contains .ledger then {} else c.ledger

/-- One state is another, but for bookkeeping, the parts named and the register fields named. -/
structure Only (ps : List Part) (l : List Fld) (s t : State) : Prop where
  get : ∀ f : Fld, noisy f.key = false → (∀ d ∈ l, f.key ≠ d.key) → t.get f = s.get f
  core : t.core.without ps = s.core.without ps
  out : s.out <:+ t.out

/-- Every field of the registers from one BAR0 offset to below another. -/
def regBlock (lo hi : Nat) : List Fld := (List.range (32 * hi - 32 * lo)).map (fun i => ⟨32 * lo + i, 0, 0⟩)

/-! ### When a command of the host runs (R371, R383 to R385, R393, R439) -/

/-- A command is fetched, paid for and not turned away: its ring is not halted and holds no earlier command back, fewer than 256 are outstanding,
class 3 can pay, the mailbox is not denied, PF1 may give the command, and its argument area was read well. -/
structure State.Accepts (s : State) (h : Hdr) (pf1 : Bool) (extra : Nat) : Prop where
  awake : s.inReset = false
  running : s.running = true
  ring : h.origin = .mspi ∨ (h.ring < 64 ∧ s.flag (HIF.RING_STAT_HALTED h.ring) = false)
  room : s.get HIF.HIF_INFLIGHT_CMDS < 256
  order : ∀ w ∈ s.held, w.ring ≠ some (cmdSource h)
  stock : (s.charge 3 ((if h.origin = .mspi then 200 else 110) + extra)).isSome = true
  share : ¬(h.origin = .mspi ∧ s.flag HIF.HIF_STATUS_PF0_BME = true ∧ s.flag HIF.HIF_CFG_MSPI_SHARE = false)
  fn : h.origin = .pf1 → pf1 = true
  form : h.form = .good

/-! ### Fields that go together

The register fields that some effects may write, named once. -/

/-- The shown unlocks. -/
def unlockFlags : List Fld := [GLB.GLB_STATUS_UNLOCK_PF0, GLB.GLB_STATUS_UNLOCK_MSPI]

/-- Every byte of the vat reads the same, outside the ranges named (from one address to below another). -/
def VatSame (l : List (Nat × Nat)) (s t : State) : Prop := ∀ a, (∀ r ∈ l, a < r.1 ∨ r.2 ≤ a) → t.vat.read a = s.vat.read a

/-- What follows the counter as it runs on. -/
def timeFields : List Fld := [TIME.SLEW_RESID, TIME.STEER, TIME.TIME_STATUS_SLEWING]

/-- The fields of the ports, of PTP and of NTS, and the operation count of the keys. -/
def replyFields : List Fld := regBlock 0x180000 0x1C0000 ++ [KEY.OPS_CNT]

/-- Whether the entry that follows in the body has another TICK, or none follows (R31). -/
def State.aloneAt (s : State) (i tick : Nat) : Bool :=
  match s.fetchEntry (i + 1) with
  | (none, u) => decide (u = s)
  | (some g, _) => decide (g.entry.tick ≠ tick)

/-- What a change of a port's link shows. -/
def linkFields (p : Nat) : List Fld := [MAC.PORT_STATUS_LINK p, MAC.PORT_STATUS_FEC_LOCK p, MAC.PORT_STATUS_LPI_TX p, MAC.PORT_STATUS_LPI_RX p,
  MAC.LINK_DOWN_CNT p, MAC.PORT_STATUS_REF_BAD p, MAC.PORT_STATUS_MOD_STATE p, PTP.NEG_PENDING]

/-- What a change of the client table shows. -/
def clientFields : List Fld := [PTP.PTP_STATUS_TABLE_FULL, PTP.CLIENTS_LIVE, VAT.RMW_CNT] ++ (List.range 32).map PTP.POOL_LOG_FREE

/-- The descriptor of a key slot. -/
def slotFields (n : Nat) : List Fld := [KEY.SLOT_DESC_0 n, KEY.SLOT_DESC_1 n, KEY.SLOT_DESC_2 n, KEY.SLOT_DESC_3_USES n, KEY.SLOT_DESC_3_DEPTH n, KEY.SLOT_DESC_3_WGEN n]

/-- The descriptors of every key slot. -/
def keyFields : List Fld := (List.range 256).flatMap slotFields

/-- What zeroising shows. -/
def zeroFields : List Fld := [KEY.KEY_STATUS_TAMPER, KEY.KEY_STATUS_BUSY, KEY.KEY_STATUS_PENDING, KEY.KEY_STATUS_COMMIT_RESULT, KEY.ZEROISE_CNT, KEY.TAMPER_CAUSE_PINS, KEY.TAMPER_CAUSE_VOLT,
  KEY.TAMPER_CAUSE_CLOCK, KEY.TAMPER_CAUSE_TEMP, KEY.KEY_STAGE_CRC] ++ (List.range 8).map KEY.KEY_STAGE ++ (List.range 4).map KEY.KEY_STAGE_D ++ keyFields

/-- What the engine shows of the PCIe link and its functions. -/
def pcieFields : List Fld := [HIF.HIF_STATUS_LINK_UP, HIF.HIF_STATUS_SPEED, HIF.HIF_STATUS_WIDTH, HIF.HIF_STATUS_PF0_BME, HIF.HIF_STATUS_PF1_BME, HIF.HIF_STATUS_EXT_TAG]

/-- The configuration of a ring. -/
def ringFields (n : Nat) : List Fld := [HIF.RING_CFG_TYPE n, HIF.RING_CFG_SIZE_LOG2 n, HIF.RING_CFG_FN n, HIF.RING_CFG_VECTOR n, HIF.RING_CFG_PAIR n,
  HIF.RING_CFG_PORT_MASK n, HIF.RING_CFG_IRQ_EN n, HIF.RING_CFG_ENABLE n]

/-- What a change of the system PLL's service shows. -/
def spFields : List Fld := [SYN.SYN_STATUS_SP_LOCK, SYN.SYN_STATUS_SP_IN_SERVICE, SYN.SP_UNLOCK_CNT, SYN.SYN_STATUS_BYPASS, SYN.SYN_STATUS_RAMPING, SYN.SYN_STATUS_CNT_SRC,
  TIME.TIME_STATUS_COARSE, TIME.COARSE_CNT]

/-- Every register but the DAC code's is at reset, but those that survive it (R482). -/
def KeptThrough (s t : State) : Prop := ∀ f : Fld, f.key ≠ HOLD.EFC_CODE.key → f.key ≠ HOLD.EFC_BASE.key → t.get f = if keptField f.key then s.get f else f.rst

/-! ### Frames that wait -/

/-- Out of reset a frame of a kind waits at a port, the first of its kind, and its class can pay for it. -/
def State.Waiting (s : State) (p : Nat) (k : RxFrame → Bool) (cls cost : Nat) (r : RxFrame) : Prop :=
  s.inReset = false ∧ p < 8 ∧ s.mac.ports.length = 8 ∧ (s.port p).rx.find? k = some r ∧ (s.charge cls cost).isSome = true

/-- A PTP message is taken up: the engine serves, no word of the vat is poisoned, the record of its sender is the one named, it needs no
authentication and is acceptable. -/
def State.TakesPtp (s : State) (p : Nat) (m : PtpIn) (c : Found) : Prop :=
  servingMode s.mode = true ∧ s.vatc.poison = [] ∧ (s.findRec p m.transport m.addr m.portId).1 = c ∧
    m.tlvs.find? (fun t => t.1 == 0x8009) = none ∧ s.flag PTP.AUTH_CFG_AUTH_REQ = false ∧ (∀ q ∈ c, q.2.auth = false) ∧ (s.ptpAccept m).1 = true

/-- A frame has left receive staging and its reply waits last in the port's queue. -/
def State.Queued (s t : State) (p : Nat) (r : RxFrame) (b : ReplyBody) : Prop :=
  (t.port p).rx = (s.port p).rx.erase r ∧ (t.port p).replies.length = (s.port p).replies.length + 1 ∧
    (t.port p).replies.getLast?.map (·.body) = some b

/-- The host gets a frame: it is written to the buffer at hand of the ring that takes its port's frames, it waits for one, or without such a ring it
is counted (R390). -/
def State.HostGets (s t : State) (p : Nat) (r : RxFrame) : Prop :=
  match (s.ringsOf 10).find? (fun n => bitOf (s.get (HIF.RING_CFG_PORT_MASK n)) p) with
  | none => t.get HIF.RX_NO_RING_CNT = min (s.get HIF.RX_NO_RING_CNT + 1) (2 ^ 48 - 1) ∧ t.hif.rxHeld = s.hif.rxHeld
  | some n =>
    (s.hif.rxHeld = [] → nth s.hif.rxBufs (s.get (HIF.RING_CFG_PAIR n)) [] = [] → r.bytes ≠ [] →
      t.hif.rxHeld.map (fun f => (f.ring, f.left, f.port, f.rule, f.len)) = [(n, r.bytes, p, r.rule, r.bytes.length)]) ∧
    (s.hif.rxHeld = [] → r.bytes ≠ [] → s.ringRuns (s.get (HIF.RING_CFG_PAIR n)) = true → s.ringBme (s.get (HIF.RING_CFG_PAIR n)) = true →
      s.ringRoom n 1 = true → ∀ b ∈ (nth s.hif.rxBufs (s.get (HIF.RING_CFG_PAIR n)) []).head?, r.bytes.length ≤ b.len →
        Out.hostWrite b.addr r.bytes ∈ t.out)

/-! ### Who sends a command, and what it answers -/

/-- Who sends a command of the host or a write over a bus; what no host sends has no sender. -/
def senderOf : Instr → Option Origin
  | .nop h => some h.origin
  | .modeSet h _ => some h.origin
  | .statusClear h _ _ => some h.origin
  | .restoreFactorySizing h _ => some h.origin
  | .bistRun h _ _ => some h.origin
  | .sparePromote h _ _ => some h.origin
  | .mouldLoad h _ _ _ => some h.origin
  | .mouldActivate h _ _ => some h.origin
  | .mouldCancel h => some h.origin
  | .timeSet h _ => some h.origin
  | .timeStep h _ _ => some h.origin
  | .timeSlew h _ => some h.origin
  | .leapSchedule h _ _ => some h.origin
  | .leapCancel h => some h.origin
  | .strobeAt h _ _ _ => some h.origin
  | .strobePeriodic h _ _ _ _ _ => some h.origin
  | .strobeStop h _ => some h.origin
  | .measArm h _ _ => some h.origin
  | .measDisarm h _ => some h.origin
  | .tdcSize h _ => some h.origin
  | .tdcTableRead h _ _ => some h.origin
  | .tdcCdcRestart h _ => some h.origin
  | .acqStart h _ => some h.origin
  | .acqAbort h _ => some h.origin
  | .ephLoad h _ _ _ => some h.origin
  | .almLoad h _ _ _ => some h.origin
  | .ephRead h _ _ => some h.origin
  | .navReset h _ => some h.origin
  | .surveyStart h _ _ => some h.origin
  | .surveyStop h => some h.origin
  | .posSet h _ _ _ _ => some h.origin
  | .gnssDelaySize h _ _ => some h.origin
  | .refSelect h _ => some h.origin
  | .wtrClear h _ => some h.origin
  | .holdHistoryClear h => some h.origin
  | .holdHistoryRead h _ => some h.origin
  | .atomRescan h => some h.origin
  | .calPhaseStep h _ _ => some h.origin
  | .portSize h _ => some h.origin
  | .portExtSet h _ _ _ _ => some h.origin
  | .modRead h _ _ _ _ _ => some h.origin
  | .modWrite h _ _ _ _ => some h.origin
  | .modRescan h _ => some h.origin
  | .clientSet h _ _ _ => some h.origin
  | .clientRead h _ _ => some h.origin
  | .clientDel h _ => some h.origin
  | .ntsRotate h _ _ _ => some h.origin
  | .ntsRetire h _ => some h.origin
  | .mintCookie h _ _ _ _ _ => some h.origin
  | .keyDerive h _ => some h.origin
  | .keyInvalidate h _ => some h.origin
  | .keyInfo h _ _ _ => some h.origin
  | .keyTamperClear h => some h.origin
  | .pairSwitchover h _ => some h.origin
  | .pairPromote h _ => some h.origin
  | .pairResync h => some h.origin
  | .unknownOpcode h _ => some h.origin
  | .glbUnlockWrite o _ => some o
  | .registerWrite o _ _ => some o
  | .posWrite o _ _ => some o
  | .timeSnap o => some o
  | .keyStageWrite o _ _ => some o
  | .keyCommit o _ => some o
  | .calApply o _ _ => some o
  | .outDivHiWrite o _ _ => some o
  | .holdSteerCfgWrite o _ _ => some o
  | .holdTempWrite o _ => some o
  | .chCfgWrite o _ _ _ => some o
  | .windowDisarmWrite o _ _ => some o
  | .refEnable o _ _ => some o
  | .refDisable o _ _ => some o
  | .gnssChEnable o _ _ => some o
  | .gnssChDisable o _ _ => some o
  | .portCfgWrite o _ _ => some o
  | .modTxdisWrite o _ _ => some o
  | .taEnWrite o _ _ => some o
  | .ringEnable o _ _ _ => some o
  | .ringDisable o _ _ => some o
  | .vecComplete o _ _ => some o
  | .srcForce o _ _ => some o
  | .fltAck o _ _ => some o
  | .fltEscClear o _ => some o
  | .fltForceAct o _ _ => some o
  | .fltForceWire o _ _ => some o
  | .glbCntClear o _ => some o
  | .reamPop o _ => some o
  | .sizLoad o _ => some o
  | .sizRead o _ => some o
  | _ => none

/-- Whether PF1 may send it (R384). -/
def pf1May : Instr → Bool
  | .nop _ | .ephRead _ _ _ | .tdcTableRead _ _ _ | .holdHistoryRead _ _ | .modRead _ _ _ _ _ _ | .clientRead _ _ _ | .keyInfo _ _ _ _
  | .mintCookie _ _ _ _ _ _ | .unknownOpcode _ _ => true
  | _ => false

/-- A command has been completed at once: in the mailbox, or in the ring that takes the completions of its ring where that ring has room and its
function may master the bus. -/
def State.Completes (s t : State) (h : Hdr) (op status r0 : Nat) : Prop :=
  (h.origin = .mspi → Out.mailbox ⟨op, h.tag, status, false, h.origin, h.ring, r0 % 2 ^ 64, s.sheetNo, h.index⟩ ∈ t.out) ∧
  (h.origin ≠ .mspi → s.ringRoom (s.get (HIF.RING_CFG_PAIR h.ring)) 1 = true → s.ringBme (s.get (HIF.RING_CFG_PAIR h.ring)) = true →
    ∃ a phase, Out.ring (s.get (HIF.RING_CFG_PAIR h.ring)) a
      ((Desc.completion ⟨op, h.tag, status, false, h.origin, h.ring, r0 % 2 ^ 64, s.sheetNo, h.index⟩).bytes phase) ∈ t.out)

/-- Whether a command acts while the engine is held in reset: what the keep-alive domain does, and the reset itself (R479). -/
def ungated : Instr → Bool
  | .vkeepLoss | .vkeepRise _ | .tamperTrigger _ _ | .kaLatchEdge _ _ | .resetAssert | .resetRelease _ _ => true
  | _ => false

/-! ### What registers show of the state -/

/-- Whether an output is squelched: its enable is 0, or every output is (R212). -/
def State.muted (s : State) (enable : Fld) (n : Nat) : Prop := s.squelchAll = true ∨ bitOf (s.getT enable) n = false

/-- Registers that show other state agree with it (R212, R213, R215, R261, R300, R340, R430, R432). -/
structure State.Shows (s : State) : Prop where
  clocks : ∀ n, n < 16 → (s.flag (SYN.OUT_STAT_SQUELCHED n) = true ↔ s.muted SYN.OUT_EN_CLK n)
  driven : ∀ n, n < 16 → (s.flag (SYN.OUT_STAT_DRIVEN n) = true ↔
    ¬s.muted SYN.OUT_EN_CLK n ∧ s.flag (SYN.OUT_STAT_HELD_LOW n) = false ∧ s.calLocked (s.get (SYN.OUT_CFG_SRC n)) = true)
  pps : ∀ k, k < 4 → (s.flag (SYN.PPS_STAT_SQUELCHED k) = true ↔ s.muted SYN.OUT_EN_PPS k)
  noSource : ∀ k, k < 4 → (s.flag (SYN.PPS_STAT_NO_SRC k) = true ↔ s.wholeHz (s.get (SYN.PPS_CFG_SRC k)) = false)
  ptp : s.flag PTP.PTP_STATUS_SERVING = true ↔ servingMode s.mode = true
  nts : s.flag NTS.NTS_STATUS_SERVING = true ↔ servingMode s.mode = true ∧ s.couch.handing = false
  sizing : s.flag SIZING.SIZ_STATUS_RUNNING = true ↔ s.sizingRuns = true
  faultN : s.flag FLT.FLT_STATUS_FAULT_N = true ↔ s.flag FLT.FLT_STATUS_PULSE = true ∨ s.flag FLT.FAULTN_CFG_HOLD = true
  active : s.get FLT.FLT_STATUS_ACTIVE_N = ((List.range 24).filter (s.fbit FLT.FLT_ACTIVE)).length
  timer : s.flag FLT.FLT_STATUS_TIMER_RUN = true ↔ s.pressing = true

end Sys2Proof.Machine
end

