-- ==== Sys2Proof/WellFormed.lean ====
section
/-! DEFINITION. Well-formed commands: every operand fits the field that carries it (Table 16-6) or names a unit that the engine has. What a
command does with an operand outside the ranges of its own rule is part of its meaning, not of this check. -/

namespace Sys2Proof

/-- A number fits a field of `w` bits. -/
def fits (w n : Nat) : Bool := decide (n < 2 ^ w)

/-- A signed number fits a field of `w` bits of two's complement. -/
def fitsI (w : Nat) (i : Int) : Bool := decide (-(2 ^ (w - 1) : Nat) ≤ i) && decide (i < (2 ^ (w - 1) : Nat))

/-- The header of a command descriptor (Table 16-4): one of 64 ring slots, an index of a ring of up to 65,536 descriptors, a 16-bit TAG, and
an origin that may send commands. -/
def hdrOk (h : Hdr) : Bool :=
  decide (h.ring < 64) && decide (h.index < 65536) && fits 16 h.tag && (h.origin == .pf0 || h.origin == .pf1 || h.origin == .mspi)

/-- The arguments of a search (Table 5-2). -/
def acqOk (a : AcqArgs) : Bool :=
  fits 8 a.signal && fits 8 a.sv && fitsI 8 a.k && fits 8 a.channel && fitsI 32 a.doppler && fits 16 a.span && fits 16 a.step && fits 8 a.coh &&
    fits 8 a.noncoh && fits 16 a.thresh && fits 16 a.tag

/-- The argument block of KEY_DERIVE (Table 16-6). -/
def deriveOk (a : DeriveArgs) : Bool :=
  fits 8 a.parent && fits 8 a.child && fits 8 a.alg && fits 8 a.spp && fits 32 a.keyId && fits 48 a.uses &&
    decide (a.label.length ≤ 16) && decide (a.context.length ≤ 16)

/-- A tap of a delay line, if the line caught the edge: 192 taps (R73). -/
def tapOk (t : Option Nat) : Bool := t.all (fun n => decide (n < 192))

/-- A source of edges that the engine has (Table 4-1): 8 ports, 16 strobes, 16 clock outputs, 4 PPS outputs. -/
def srcOk (src : EdgeSrc) : Bool :=
  match src with
  | .syncE p => decide (p < 8)
  | .strobe n | .output n => decide (n < 16)
  | .pps n => decide (n < 4)
  | .pin | .atomClk | .atomPps => true

/-- Whether a command is well formed. -/
def WellFormed (i : Instr) : Bool :=
  match i with
  | .sheetEdge _ => true
  | .measDeliverySlice => true
  | .selectionSlice _ => true
  | .controlSlice => true
  | .boundSlice => true
  | .finaliseSlice => true
  | .closeSlice _ _ => true
  | .deckleNop entry => decide (entry < 4096)
  | .deckleSendPtp entry => decide (entry < 4096)
  | .deckleReplySlot entry => decide (entry < 4096)
  | .deckleGate entry => decide (entry < 4096)
  | .deckleStrobe entry => decide (entry < 4096)
  | .deckleNcoHop entry _ => decide (entry < 4096)
  | .deckleMark entry => decide (entry < 4096)
  | .nop h => hdrOk h
  | .modeSet h mode => hdrOk h && fits 8 mode
  | .statusClear h addr mask => hdrOk h && fits 32 addr && fits 32 mask
  | .restoreFactorySizing h scope => hdrOk h && fits 32 scope
  | .bistRun h target index => hdrOk h && fits 8 target && fits 16 index
  | .bistDone _ lines => lines.all (fun l => decide (l.1 < 96))
  | .sparePromote h target index => hdrOk h && fits 8 target && fits 16 index
  | .mouldLoad h buf addr len => hdrOk h && fits 8 buf && fits 64 addr && fits 32 len
  | .mouldLoadDone buf _ => decide (buf < 2)
  | .mouldActivate h buf sheet => hdrOk h && fits 8 buf && fits 64 sheet
  | .mouldCancel h => hdrOk h
  | .timeSet h wide => hdrOk h && fits 96 wide
  | .timeStep h offset _ => hdrOk h && fitsI 64 offset
  | .timeSlew h offset => hdrOk h && fitsI 64 offset
  | .leapSchedule h target dir => hdrOk h && fits 64 target && fits 8 dir
  | .leapCancel h => hdrOk h
  | .strobeAt h strobe target width => hdrOk h && fits 8 strobe && fits 64 target && fits 24 width
  | .strobePeriodic h strobe width count first period => hdrOk h && fits 8 strobe && fits 24 width && fits 32 count && fits 64 first && fits 48 period
  | .strobeStop h strobe => hdrOk h && fits 8 strobe
  | .strobeTarget strobe => decide (strobe < 16)
  | .measArm h window target => hdrOk h && fits 8 window && fits 64 target
  | .measDisarm h window => hdrOk h && fits 8 window
  | .tdcSize h mask => hdrOk h && fits 64 mask
  | .tdcSizeDone ch => decide (ch < 48)
  | .tdcTableRead h ch addr => hdrOk h && fits 8 ch && fits 64 addr
  | .tdcCdcRestart h ch => hdrOk h && fits 8 ch
  | .acqStart h a => hdrOk h && acqOk a
  | .acqAbort h search => hdrOk h && fits 8 search
  | .acqResult search _ => decide (search < 8)
  | .ephLoad h count addr _ => hdrOk h && fits 16 count && fits 64 addr
  | .almLoad h count addr _ => hdrOk h && fits 16 count && fits 64 addr
  | .ephRead h slot addr => hdrOk h && fits 8 slot && fits 64 addr
  | .navReset h mask => hdrOk h && fits 8 mask
  | .surveyStart h dur target => hdrOk h && fits 32 dur && fits 32 target
  | .surveyStop h => hdrOk h
  | .surveyEpoch => true
  | .surveyDone => true
  | .posSet h x y z sigma => hdrOk h && fitsI 64 x && fitsI 64 y && fitsI 64 z && fits 32 sigma
  | .gnssDelaySize h ch dur => hdrOk h && fits 8 ch && fits 32 dur
  | .delaySized => true
  | .refSelect h slot => hdrOk h && fits 8 slot
  | .wtrClear h slot => hdrOk h && fits 8 slot
  | .holdHistoryClear h => hdrOk h
  | .holdHistoryRead h addr => hdrOk h && fits 64 addr
  | .atomRescan h => hdrOk h
  | .calPhaseStep h cal step => hdrOk h && fits 8 cal && fitsI 64 step
  | .portSize h port => hdrOk h && fits 8 port
  | .portSizeDone port _ => decide (port < 8)
  | .portExtSet h port tx rx u => hdrOk h && fits 8 port && fitsI 32 tx && fitsI 32 rx && fits 32 u
  | .modRead h port dev off len addr => hdrOk h && fits 8 port && fits 8 dev && fits 8 off && fits 16 len && fits 64 addr
  | .modWrite h port dev off data => hdrOk h && fits 8 port && fits 8 dev && fits 8 off && decide (data.length ≤ 8)
  | .modTransferDone port _ bytes => decide (port < 8) && decide (bytes.length ≤ 256)
  | .modRescan h port => hdrOk h && fits 8 port
  | .clientSet h record addr _ => hdrOk h && fits 32 record && fits 64 addr
  | .clientRead h record addr => hdrOk h && fits 32 record && fits 64 addr
  | .clientDel h record => hdrOk h && fits 32 record
  | .clientDelTimeout record => decide (record < 1048576)
  | .ntsRotate h entry slot keyId => hdrOk h && fits 8 entry && fits 8 slot && fits 32 keyId
  | .ntsRetire h entry => hdrOk h && fits 8 entry
  | .mintCookie h count _ keyAddr cookieAddr _ => hdrOk h && fits 8 count && fits 64 keyAddr && fits 64 cookieAddr
  | .keyDerive h a => hdrOk h && deriveOk a
  | .keyInvalidate h slot => hdrOk h && fits 8 slot
  | .keyInfo h first count addr => hdrOk h && fits 8 first && fits 16 count && fits 64 addr
  | .keyTamperClear h => hdrOk h
  | .pairSwitchover h dwell => hdrOk h && fits 16 dwell
  | .pairPromote h mode => hdrOk h && fits 8 mode
  | .pairResync h => hdrOk h
  | .unknownOpcode h op => hdrOk h && fits 16 op
  | .glbUnlockWrite _ v => fits 32 v
  | .unlockLapse _ => true
  | .registerWrite _ a v => decide (a < 4194304) && decide (a % 4 = 0) && fits 32 v
  | .posWrite _ addr v => fits 32 addr && fits 32 v
  | .timeSnap _ => true
  | .keyStageWrite _ addr v => fits 32 addr && fits 32 v
  | .keyCommit _ v => fits 32 v
  | .keyCommitSwitch => true
  | .calApply _ k v => decide (k < 4) && fits 32 v
  | .outDivHiWrite _ n v => decide (n < 16) && fits 32 v
  | .holdSteerCfgWrite _ addr v => fits 32 addr && fits 32 v
  | .holdTempWrite _ v => fits 32 v
  | .chCfgWrite _ ch _ v => decide (ch < 48) && fits 32 v
  | .windowDisarmWrite _ window v => decide (window < 64) && fits 32 v
  | .refEnable _ slot v => decide (slot < 16) && fits 32 v
  | .refDisable _ slot v => decide (slot < 16) && fits 32 v
  | .gnssChEnable _ ch v => decide (ch < 136) && fits 32 v
  | .gnssChDisable _ ch v => decide (ch < 136) && fits 32 v
  | .portCfgWrite _ port v => decide (port < 8) && fits 32 v
  | .modTxdisWrite _ port v => decide (port < 8) && fits 32 v
  | .taEnWrite _ port v => decide (port < 8) && fits 32 v
  | .ringEnable _ ring v _ => decide (ring < 64) && fits 32 v
  | .ringDisable _ ring v => decide (ring < 64) && fits 32 v
  | .doorbellWrite fn ring count _ _ => decide (fn < 2) && decide (ring < 64) && fits 32 count
  | .stagedEntryPost => true
  | .vecClaim vector => decide (vector < 65)
  | .vecComplete _ vector v => decide (vector < 65) && fits 32 v
  | .msixUnmask vector => decide (vector < 64)
  | .srcForce _ source v => decide (source < 512) && fits 32 v
  | .fltAck _ word v => decide (word < 4) && fits 32 v
  | .fltEscClear _ v => fits 32 v
  | .fltForceAct _ word v => decide (word < 4) && fits 32 v
  | .fltForceWire _ word v => decide (word < 4) && fits 32 v
  | .glbCntClear _ v => fits 32 v
  | .reamPop _ v => fits 32 v
  | .sizLoad _ v => fits 32 v
  | .sizRead _ v => fits 32 v
  | .mbGo v => fits 32 v
  | .mspiTransfer op addr words _ => fits 8 op && fits 24 addr && words.all (fits 32)
  | .resetAssert => true
  | .resetRelease _ _ => true
  | .oscInDetected _ => true
  | .sheetZero _ _ _ => true
  | .pciePerst => true
  | .pcieFlr fn => decide (fn < 2)
  | .spLockLoss _ => true
  | .spLockDeclared => true
  | .fineCountResume _ => true
  | .freezeCountExpire => true
  | .oscActivityLoss _ => true
  | .oscActivityReturn _ => true
  | .calenderUnlock k => decide (k < 4)
  | .outputRelease n => decide (n < 16)
  | .ppsPulse k => decide (k < 4)
  | .todFrameStart k => decide (k < 4)
  | .vkeepLoss => true
  | .tamperTrigger p ka => decide (p.pins.length = 4) && fits 48 ka
  | .pwrWarn _ => true
  | .emergExit => true
  | .kaLatchEdge latch _ => decide (latch < 16)
  | .kaLatchTransfer latch => decide (latch < 16)
  | .kaAlign _ _ => true
  | .kaFreqUpdate => true
  | .atomPresentChange _ => true
  | .atomIdent _ => true
  | .atomStatus _ => true
  | .steerAck _ => true
  | .atomBadFrame _ => true
  | .atomIdentRetry => true
  | .atomStatusTimeout => true
  | .atomSteerTimeout => true
  | .modPrsChange port _ => decide (port < 8)
  | .moduleReadDone port _ _ => decide (port < 8)
  | .portLinkUp port => decide (port < 8)
  | .portLinkDown port => decide (port < 8)
  | .frameRx port bytes _ _ => decide (port < 8) && decide (bytes.length ≤ 9728)
  | .pauseRx port => decide (port < 8)
  | .pauseExpire port => decide (port < 8)
  | .pauseStorm port => decide (port < 8)
  | .pauseHoldoffEnd port => decide (port < 8)
  | .delayReqRx port => decide (port < 8)
  | .pdelayReqRx port => decide (port < 8)
  | .signalingRx port => decide (port < 8)
  | .managementRx port => decide (port < 8)
  | .upstreamAnnounceRx port => decide (port < 8)
  | .upstreamSyncRx port => decide (port < 8)
  | .upstreamDelayRespRx port => decide (port < 8)
  | .upstreamDelayReqTx master => decide (master < 4)
  | .upstreamGrantRenew master _ => decide (master < 4)
  | .upstreamCandidateTimeout master => decide (master < 4)
  | .ntpRequestRx port => decide (port < 8)
  | .arpRx port => decide (port < 8)
  | .ndRx port => decide (port < 8)
  | .esmcPduRx port => decide (port < 8)
  | .esmcQlTimeout slot => decide (slot < 16)
  | .esmcTxSecond port => decide (port < 8)
  | .esmcEventPduTx port => decide (port < 8)
  | .lldpRx port => decide (port < 8)
  | .hostFrameRx port => decide (port < 8)
  | .rxStallTimeout ring => decide (ring < 64)
  | .txFrame _ => true
  | .unschedFrameStart port _ => decide (port < 8)
  | .lpiEnter port => decide (port < 8)
  | .lpiWake port => decide (port < 8)
  | .couchBlockLock => true
  | .helloRx _ _ => true
  | .forwardFrameRx _ _ => true
  | .returnFrameRx _ _ => true
  | .couchLinkCheck => true
  | .heartbeatCheck _ _ => true
  | .splitBrain _ _ => true
  | .orphanPromote _ _ => true
  | .handoverSheet => true
  | .handoverEdge => true
  | .handoverRepromote => true
  | .heldSheetsEnd => true
  | .drillExpire => true
  | .tdcEdge ch src _ _ _ _ tE tF _ => decide (ch < 48) && srcOk src && tapOk tE && tapOk tF
  | .windowArm window => decide (window < 64)
  | .windowClose window => decide (window < 64)
  | .dllSearchDone ch _ _ => decide (ch < 48)
  | .dllLock ch _ _ => decide (ch < 48)
  | .dllUnlock ch _ => decide (ch < 48)
  | .dllTrackTimeout ch _ _ => decide (ch < 48)
  | .tdcDllFault ch _ => decide (ch < 48)
  | .cdcTableCompute ch => decide (ch < 48)
  | .taiMsEdge => true
  | .correlatorDump ch _ => decide (ch < 136)
  | .pullInTimeout ch => decide (ch < 136)
  | .steerTimeout ch => decide (ch < 136)
  | .navUnitDecoded ch _ _ _ => decide (ch < 136)
  | .solutionEpoch => true
  | .slotMeasurement slot => decide (slot < 16)
  | .todInMessage input _ _ => decide (input < 2)
  | .refWholeSecond => true
  | .slotTimerExpire slot => decide (slot < 16)
  | .holdSecondSample => true
  | .oscGoodExpire => true
  | .tempStale => true
  | .leapWarningStart => true
  | .ntsGenAgeExpire entry => decide (entry < 4)
  | .ageingVisit record => decide (record < 1048576)
  | .scrubPage f => f.fixed.all (fun p => decide (p.1 < 512) && decide (p.2 < 72)) && f.bad.all (fun w => decide (w < 512))
  | .repairCopyDone => true
  | .wearMeasure ppm => decide (ppm.length ≤ 128)
  | .promotionPass => true
  | .faultWireBreak pair _ => decide (pair < 128)
  | .reactionTimerExpire => true
  | .faultNPulseEnd => true
  | .vkeepRise _ => true
  | .supply rails _ => decide (rails.length = 4)
  | .tempHigh _ => true
  | .calenderLock k => decide (k < 4)
  | .ringTimeUsExpire ring => decide (ring < 64)
  | .postedWriteApplied a => decide (a < 4194304) && decide (a % 4 = 0)
  | .autoAllocation a => acqOk a

end Sys2Proof
end

