-- ==== Sys2Proof/Certificates/Slice0/Obligations.lean ====
section
/-! DEFINITION. The statements for the provers, from the rules of the manual. A frame (Keeps, Only, VatSame) says that what it does not name is
unchanged but for bookkeeping. -/

section

open Sys2Proof Sys2Proof.Machine

/-- A step runs the command at the front of the queue; an empty queue idles; every command ends in a next state. From
spec/95_what_each_step_holds.md. It rests on readings and choices of the model: log entries 1. -/
def Obligations.StepRunsTheFrontCommand : Prop :=
  (∀ (s : State) (c : Instr) (rest : List Instr), s.pending = c :: rest → step s = exec c { s with pending := rest }) ∧
  (∀ s : State, s.pending = [] → step s = .next s) ∧
  (∀ (s : State) (c : Instr), ∃ t, exec c s = .next t)

/-- After reset every register field is at its reset value, the vat is empty, nothing waits, and the shown conditions hold. From
spec/21_startup_and_reset.md, Resets; spec/20_registers_journal_sizing_wear.md, GLB block registers. It rests on readings and choices of the
model: log entries 2, 4, 5, 16. -/
def Obligations.ResetState : Prop :=
  (∀ f : Fld, State.reset.get f = f.rst % 2 ^ f.width) ∧ State.reset.vat = [] ∧ State.reset.pending = [] ∧ State.reset.out = [] ∧
  State.reset.held = [] ∧ State.reset.mode = 0 ∧ State.reset.running = false ∧ State.reset.inReset = false ∧ State.reset.canonical = true ∧
  State.reset.Shows

/-- TIME_SET, TIME_STEP, TIME_SLEW, LEAP_SCHEDULE and LEAP_CANCEL: completion, with effects from chapter 3 and frames. From spec/03_time_base.md,
Stepping and slewing; spec/03_time_base.md, TAI, UTC and leap seconds; spec/16_host_interface.md, Commands. It rests on readings and choices of
the model: log entries 37, 41, 130. -/
def Obligations.TimeCommandsComplete : Prop :=
  (∀ (s : State) (h : Hdr) (wide : Nat), s.Accepts h false 0 → s.mode = 0 → wide / 65536 % 2 ^ 32 < 1000000000 → wide < 2 ^ 96 →
    ∃ t, exec (.timeSet h wide) s = .next t ∧ t.flag TIME.TIME_STATUS_STEP_PENDING = true ∧
      Keeps [TIME.TIME_STATUS_STEP_PENDING]
        { s with time := { s.time with steps := s.time.steps ++ [⟨none, h.origin, true, .set (unitsOfWide wide)⟩] } } t) ∧
  (∀ (s : State) (h : Hdr) (offset : Int) (grant : Bool), s.Accepts h false 0 → offset.natAbs ≤ halfWrap → grant = true ∨ s.mode = 0 →
    ∃ t, exec (.timeStep h offset grant) s = .next t ∧ t.flag TIME.TIME_STATUS_STEP_PENDING = true ∧
      Keeps [TIME.TIME_STATUS_STEP_PENDING]
        { s with time := { s.time with steps := s.time.steps ++ [⟨some h, h.origin, grant, .by offset⟩] } } t) ∧
  (∀ (s : State) (h : Hdr) (offset : Int), s.Accepts h false 0 → offset.natAbs ≤ halfWrap →
    s.get REFSEL.REFSEL_STATUS_CLOCK_STATE = 0 ∨ s.get REFSEL.REFSEL_STATUS_CLOCK_STATE = 3 →
    ∃ t, exec (.timeSlew h offset) s = .next t ∧ t.residual = satS 96 (s.residual + offset * 2 ^ 32) ∧
      Keeps [TIME.SLEW_RESID] { s with time := { s.time with slewFrac := t.time.slewFrac } } t) ∧
  (∀ (s : State) (h : Hdr) (target dir : Nat), s.Accepts h false 0 → dir ≤ 1 → s.targetOk (s.targetUnits target) = true →
    s.targetUnits target % 65536000000000 = 0 →
    s.isLate (s.targetUnits target) = false ∨ s.latePol h SHEET.SHEET_CFG_LEAP_LATE_POL = false →
    ∃ t, exec (.leapSchedule h target dir) s = .next t ∧ t.get TIME.LEAP_TARGET = ofS 64 (s.targetUnits target) ∧
      t.flag TIME.TIME_STATUS_LEAP_ARMED = true ∧ t.get TIME.TIME_STATUS_LEAP_DIR = dir ∧
      Keeps [TIME.LEAP_TARGET, TIME.TIME_STATUS_LEAP_ARMED, TIME.TIME_STATUS_LEAP_DIR, TIME.TIME_STATUS_LEAP_WARNING, SHEET.LATE_CNT]
        { s with time := { s.time with
          leap := some ⟨s.isLate (s.targetUnits target), s.latePol h SHEET.SHEET_CFG_LEAP_LATE_POL, h.origin⟩ } } t) ∧
  (∀ (s : State) (h : Hdr), s.Accepts h false 0 →
    ∃ t, exec (.leapCancel h) s = .next t ∧ t.flag TIME.TIME_STATUS_LEAP_ARMED = false ∧ t.flag TIME.TIME_STATUS_LEAP_WARNING = false ∧
      Keeps [TIME.TIME_STATUS_LEAP_ARMED, TIME.TIME_STATUS_LEAP_WARNING] { s with time := { s.time with leap := none } } t)

/-- STROBE_AT, STROBE_PERIODIC, STROBE_STOP and CAL_PHASE_STEP: completion, with effects from chapters 3 and 9 and frames. From spec/03_time_base.md,
Event strobes; spec/09_synthesis_and_outputs.md, Commands and stock; spec/02_sheets_deckles_moulds.md, Scheduled actions that are late. It rests
on readings and choices of the model: log entries 35, 37. -/
def Obligations.StrobeCommandsComplete : Prop :=
  (∀ (s : State) (h : Hdr) (strobe target width : Nat), s.Accepts h false 120 → strobe ≤ 15 → 0 < width → width < 2 ^ 24 →
    s.targetOk (s.targetUnits target) = true → s.isLate (s.targetUnits target) = false ∨ s.latePol h SHEET.SHEET_CFG_STROBE_LATE_POL = false →
    ∃ t, exec (.strobeAt h strobe target width) s = .next t ∧
      Keeps [SHEET.LATE_CNT] { s with time := { s.time with pulses := s.time.pulses ++ [⟨strobe,
        if s.isLate (s.targetUnits target) then s.lateSlot else (s.targetUnits target).toNat, width, s.latePol h SHEET.SHEET_CFG_STROBE_LATE_POL,
        s.isLate (s.targetUnits target)⟩] } } t) ∧
  (∀ (s : State) (h : Hdr) (strobe width count first period : Nat), s.Accepts h false 120 → strobe ≤ 15 → 0 < width → width < 2 ^ 24 →
    6553600 ≤ period → period < 2 ^ 48 → width * 524288 < 5 * period → s.targetOk (s.targetUnits first) = true →
    (nth s.time.series strobe none).isSome = false →
    ∃ t, exec (.strobePeriodic h strobe width count first period) s = .next t ∧
      (s.isLate (s.targetUnits first) = false →
        t.time.series = setNth s.time.series strobe (some ⟨(s.targetUnits first).toNat, period, width, count, 0⟩)) ∧
      Keeps [TIME.EVT_STAT_PERIODIC strobe, TIME.LATE_DISCARD_CNT] { s with time := { s.time with series := t.time.series } } t) ∧
  (∀ (s : State) (h : Hdr) (strobe : Nat), s.Accepts h false 120 → strobe ≤ 15 →
    ∃ t, exec (.strobeStop h strobe) s = .next t ∧ t.flag (TIME.EVT_STAT_PERIODIC strobe) = false ∧
      Keeps [TIME.EVT_STAT_PERIODIC strobe] { s with time := { s.time with series := setNth s.time.series strobe none } } t) ∧
  (∀ (s : State) (h : Hdr) (cal : Nat) (step : Int), s.Accepts h false 120 → cal ≤ 3 → step.natAbs ≤ 2 ^ 31 - 1 →
    ∃ t, exec (.calPhaseStep h cal step) s = .next t ∧
      t.geti (SYN.CAL_PHASE_PEND cal) = satS 32 (s.geti (SYN.CAL_PHASE_PEND cal) + step) ∧ Keeps [SYN.CAL_PHASE_PEND cal] s t)

/-- MOULD_LOAD, MOULD_ACTIVATE and MOULD_CANCEL: completion, with effects from chapter 2 and frames. From spec/02_sheets_deckles_moulds.md, Loading
and checking a mould; spec/02_sheets_deckles_moulds.md, Buffer states and activation. It rests on readings and choices of the model: log entries
130. -/
def Obligations.MouldCommandsComplete : Prop :=
  (∀ (s : State) (h : Hdr) (buf addr len : Nat), s.Accepts h false 0 → buf ≤ 1 → (h.origin = .mspi → addr + len ≤ 0xC00) → s.mode ≠ 5 →
    s.get (stateFld buf) ≠ 1 → s.get (stateFld buf) ≠ 3 → (s.flag SHEET.SHEET_STATUS_PENDING = true → s.get SHEET.SHEET_STATUS_PEND_BUF ≠ buf) →
    ∃ t, exec (.mouldLoad h buf addr len) s = .next t ∧ t.get (stateFld buf) = 1 ∧ Keeps [stateFld buf] (s.setLoad buf (some ⟨h, len⟩)) t) ∧
  (∀ (s : State) (h : Hdr) (buf sheet : Nat), s.Accepts h false 0 → buf ≤ 1 → s.mode ≠ 5 → s.flag SHEET.SHEET_STATUS_PENDING = false →
    s.get (stateFld buf) = 2 → sheet ≤ s.sheetNo + 1125899906 → s.sheetNo < sheet ∨ s.latePol h SHEET.SHEET_CFG_MOULD_LATE_POL = false →
    ∃ t, exec (.mouldActivate h buf sheet) s = .next t ∧ t.flag SHEET.SHEET_STATUS_PENDING = true ∧ t.get SHEET.SHEET_STATUS_PEND_BUF = buf ∧
      (sheet < 2 ^ 64 - 1 → s.sheetNo < 2 ^ 64 - 1 → t.get SHEET.PEND_SHEET = if s.sheetNo < sheet then sheet else s.sheetNo + 1) ∧
      Keeps [SHEET.SHEET_STATUS_PENDING, SHEET.SHEET_STATUS_PEND_BUF, SHEET.PEND_SHEET, SHEET.LATE_CNT]
        { s with sheet := { s.sheet with act := some ⟨h.origin⟩ } } t) ∧
  (∀ (s : State) (h : Hdr), s.Accepts h false 0 → s.mode ≠ 5 → s.flag SHEET.SHEET_STATUS_PENDING = true →
    ∃ t, exec (.mouldCancel h) s = .next t ∧ t.flag SHEET.SHEET_STATUS_PENDING = false ∧ t.get SHEET.PEND_SHEET = 0 ∧
      Keeps [SHEET.SHEET_STATUS_PENDING, SHEET.SHEET_STATUS_PEND_BUF, SHEET.PEND_SHEET] { s with sheet := { s.sheet with act := none } } t)

/-- NOP, MODE_SET, STATUS_CLEAR, RESTORE_FACTORY_SIZING and an unknown opcode: completion, with effects from chapters 16 and 20 and frames. From
spec/16_host_interface.md, Commands; spec/20_registers_journal_sizing_wear.md, Sizing. It rests on readings and choices of the model: log entries
125, 127. -/
def Obligations.HostCommandsComplete : Prop :=
  (∀ (s : State) (h : Hdr), s.Accepts h true 0 →
    ∃ t, exec (.nop h) s = .next t ∧ Keeps [] s t ∧
      (h.origin = .mspi → Out.mailbox ⟨0x01, h.tag, stOK, false, .mspi, h.ring, s.sheetNo % 2 ^ 64, s.sheetNo, h.index⟩ ∈ t.out)) ∧
  (∀ (s : State) (h : Hdr) (m : Nat), s.Accepts h false 0 → m ≤ 5 → s.glb.pendMode = none → s.mayEnter m = true →
    ∃ t, exec (.modeSet h m) s = .next t ∧ t.get GLB.GLB_MODE_PEND_MODE = m ∧ t.flag GLB.GLB_MODE_PENDING = true ∧
      Keeps [GLB.GLB_MODE_PEND_MODE, GLB.GLB_MODE_PENDING] { s with glb := { s.glb with pendMode := some ⟨m, some h, h.origin⟩ } } t) ∧
  (∀ (s : State) (h : Hdr) (a mask : Nat), s.Accepts h false 0 → a ∈ [0x14, 0x20, 0x2000C, 0x1C0000, 0x1F0000, 0x220000] →
    (mask % 2 ^ 32) &&& (stickyAt a).1 = mask % 2 ^ 32 →
    ∃ t, exec (.statusClear h a mask) s = .next t ∧ Keeps ((rowsAt a).map (fun p => p.1.fld a p.2)) s t ∧
      ∀ p ∈ rowsAt a, noisy (p.1.fld a p.2).key = false →
        t.get (p.1.fld a p.2) = s.get (p.1.fld a p.2) - (s.get (p.1.fld a p.2) &&& bits (mask % 2 ^ 32 &&& (stickyAt a).2) p.1.lsb p.1.w)) ∧
  (∀ (s : State) (h : Hdr) (scope : Nat), s.Accepts h false 400 → scope ≤ 7 → s.mode ≤ 1 → s.sizingRuns = false →
    ∃ t, exec (.restoreFactorySizing h scope) s = .next t ∧
      Keeps [] { s with siz := { s.siz with due := s.siz.due ++ [.restore h.origin scope] } } t) ∧
  (∀ (s : State) (h : Hdr) (op : Nat), s.Accepts h true 0 →
    ∃ t, exec (.unknownOpcode h op) s = .next t ∧ Keeps [] s t ∧
      (h.origin = .mspi → Out.mailbox ⟨op % 2 ^ 16, h.tag, stUNKNOWN, false, .mspi, h.ring, 0, s.sheetNo, h.index⟩ ∈ t.out))

/-- BIST, promotion, repair, wear and scrubbing: completion, with effects from chapters 17 and 20 and frames. From
spec/20_registers_journal_sizing_wear.md, Wear and spares; spec/17_vat_memory_and_ecc.md, Scrubbing; spec/17_vat_memory_and_ecc.md, Spare columns
and field repair. It rests on readings and choices of the model: log entries 148, 150, 152, 153. -/
def Obligations.SpareCommandsComplete : Prop :=
  (∀ (s : State) (h : Hdr) (target index : Nat), s.Accepts h false 0 → s.mode = 0 → target ≤ 3 → index = 0xFFFF ∨ index < targetUnits target →
    s.spare.bist = none → ∃ t, exec (.bistRun h target index) s = .next t ∧
      t.spare = { s.spare with bist := t.spare.bist } ∧ t.spare.bist.map (·.cmd) = some (some h) ∧
      (∀ r ∈ t.spare.bist, ∀ u ∈ r.units, u.1 = target ∧ (if index = 0xFFFF then u.2 < targetUnits target else u.2 = index)) ∧
      t.flag SPARE.SPARE_STATUS_BIST_RUN = true ∧
      Only [.spare, .tdc] (regBlock 0x40000 0x80000 ++ [SPARE.SPARE_STATUS_BIST_RUN]) s t) ∧
  (∀ (s : State) (fails : List (Nat × Nat × Nat)) (lines : List (Nat × Nat × Bool)) (r : BistRun), s.inReset = false → s.spare.bist = some r →
    (s.charge 4 (bistStock r)).isSome = true →
    ∃ t, exec (.bistDone fails lines) s = .next t ∧ t.spare.bist = none ∧ t.flag SPARE.SPARE_STATUS_BIST_RUN = false ∧
      t.get SPARE.BIST_FAIL_CNT = min (s.get SPARE.BIST_FAIL_CNT + ((fails.filter (fun (f : Nat × Nat × Nat) => f.1 != 3) ++
        (lines.filter lineFails).map (fun (l : Nat × Nat × Bool) => (3, l.1, 0))).filter (fun (f : Nat × Nat × Nat) => r.units.contains (f.1, f.2.1))).length) (2 ^ 48 - 1) ∧
      Only [.spare] (regBlock 0x250000 0x260000) s t) ∧
  (∀ (s : State) (h : Hdr) (target index : Nat), s.Accepts h false 0 → s.mode = 0 → target ≤ 3 → index < targetUnits target →
    s.spare.retired.contains (target, unitKey target index (if target = 0 then s.get (VAT.BANK_HARD_BANK_LASTCOL index) else 0)) = false →
    s.vatc.repair = none → s.spareFor target index = true →
    ∃ t, exec (.sparePromote h target index) s = .next t ∧
      Keeps [] { s with spare := { s.spare with
        due := s.spare.due ++ [⟨target, index, if target = 0 then s.get (VAT.BANK_HARD_BANK_LASTCOL index) else 0, h.origin⟩] } } t) ∧
  (∀ (s : State) (ppm : List Int), s.inReset = false → s.spare.wearAt ≠ some (s.units / 67108864000000) → (s.charge 4 2560).isSome = true →
    ∃ t, exec (.wearMeasure ppm) s = .next t ∧ t.spare = { s.spare with wearAt := some (s.units / 67108864000000) } ∧
      (∀ m ∈ List.range 128, 0 ≤ nth ppm m 0 - Config.wearBaseline m → nth ppm m 0 - Config.wearBaseline m < 65536 →
        t.get (SPARE.WEAR_PPM m) = (nth ppm m 0 - Config.wearBaseline m).toNat) ∧
      (∀ m ∈ List.range 128, s.get SPARE.SPARE_CFG_WEAR_THRESH ≤ t.get (SPARE.WEAR_PPM m) → t.flag (SPARE.WEAR_PAST m) = true) ∧
      Only [.spare] (regBlock 0x250400 0x250600) s t) ∧
  (∀ s : State, s.inReset = false → s.flag SPARE.SPARE_CFG_AUTO = true → s.mode = 0 → s.spare.pass = false →
    s.spare.passAt.all (fun u => s.reaches (u + 64 * 65536000000000)) = true →
    ∃ t, exec .promotionPass s = .next t ∧ t.spare.pass = true ∧ t.spare.passAt = some s.mono ∧ t.flag SPARE.SPARE_STATUS_PASS_RUN = true ∧
      Only [.spare, .tdc] (regBlock 0x40000 0x80000 ++ [SPARE.SPARE_STATUS_PASS_RUN, SPARE.SPARE_STATUS_BIST_RUN]) s t) ∧
  (∀ (s : State) (r : Repair), s.inReset = false → s.vatc.repair = some r → bankWords ≤ r.words → r.bank < 64 → r.spare < 4 →
    ∃ t, exec .repairCopyDone s = .next t ∧ t.vatc.repair = none ∧ t.get (VAT.SPARE_COL_COLUMN r.bank r.spare) = r.column % 2 ^ 14 ∧
      t.flag (VAT.SPARE_COL_VALID r.bank r.spare) = true ∧
      t.vatc.fuses = (if s.get VAT.FUSE_USED < 16 then s.vatc.fuses ++ [fuseEntry r.column r.bank r.spare false] else s.vatc.fuses) ∧
      Only [.vatc] (regBlock 0x1F0000 0x200000) s t) ∧
  (∀ (s : State) (f : PageFind), s.inReset = false → s.flag VAT.SCRUB_CFG_EN = true → s.vatc.scrubbed < s.get VAT.SCRUB_CFG_PAGES → (s.charge 4 200).isSome = true →
    ∃ t, exec (.scrubPage f) s = .next t ∧ t.get VAT.SCRUB_POS = (if s.get VAT.SCRUB_POS = 32767 then 0 else s.get VAT.SCRUB_POS + 1) ∧
      (f.fixed = [] → f.bad = [] → s.get VAT.SCRUB_POS ≠ 32767 → t.vatc.thisPass = s.vatc.thisPass) ∧
      Only [.spare, .vatc] (regBlock 0x1F0000 0x200000) s t)

/-- The commands of the time-interval block and its delivery slice: completion, with effects from chapter 4 and frames. From
spec/04_time_interval_measurement.md, Commands; spec/04_time_interval_measurement.md, Tables and sizing; spec/04_time_interval_measurement.md,
Measurement record. It rests on readings and choices of the model: log entries 61, 65. -/
def Obligations.MeasurementCommandsComplete : Prop :=
  (∀ (s : State) (h : Hdr) (m : Nat), s.Accepts h false 0 → m ≤ 63 → s.get (TDC.WIN_CFG_ARM m) = 1 → (s.win m).isOpen = false → (s.win m).pend = none →
    ∃ t, exec (.measArm h m 0) s = .next t ∧ t.flag (TDC.WIN_STAT_OPEN m) = true ∧ Only [.tdc] (regBlock 0x40000 0x80000) s t) ∧
  (∀ (s : State) (h : Hdr) (m target : Nat), s.Accepts h false 0 → m ≤ 63 → s.get (TDC.WIN_CFG_ARM m) = 1 → (s.win m).isOpen = false → (s.win m).pend = none →
    target ≠ 0 → s.targetOk (s.targetUnits target) = true → s.isLate (s.targetUnits target) = false ∨ (h.polGiven && h.latePol) = false →
    ∃ t, exec (.measArm h m target) s = .next t ∧ t.flag (TDC.WIN_STAT_PENDING m) = true ∧
      t.tdc = { s.tdc with wins := setNth s.tdc.wins m { s.win m with
        pend := some (if s.isLate (s.targetUnits target) then s.time.next else (s.targetUnits target).toNat), pendLate := s.isLate (s.targetUnits target), pendPol := h.polGiven && h.latePol } } ∧
      Only [.tdc] (regBlock 0x40000 0x80000 ++ [SHEET.LATE_CNT]) s t) ∧
  (∀ (s : State) (h : Hdr) (m : Nat), s.Accepts h false 0 → m ≤ 63 →
    ∃ t, exec (.measDisarm h m) s = .next t ∧ t.get (TDC.WIN_CFG_ARM m) = 0 ∧ t.flag (TDC.WIN_STAT_OPEN m) = false ∧ t.flag (TDC.WIN_STAT_PENDING m) = false ∧
      t.tdc.closed = s.tdc.closed ++ (if (s.win m).isOpen then [(s.win m).record m s.sheetNo (2 ^ flAborted)] else []) ∧
      Only [.tdc] (regBlock 0x40000 0x80000) s t) ∧
  (∀ (s : State) (h : Hdr) (mask : Nat), s.Accepts h false 0 → s.mode = 1 → s.tdc.sizing = none →
    ∃ t, exec (.tdcSize h mask) s = .next t ∧ t.tdc.sizing = (if bitsOf 48 mask = [] then none else some ⟨h, bitsOf 48 mask⟩) ∧
      (bitsOf 48 mask ≠ [] → t.flag TDC.TDC_STATUS_SIZING_RUN = true) ∧ Only [.tdc] (regBlock 0x40000 0x80000) s t) ∧
  (∀ (s : State) (n : Nat) (z : TdcSizing), s.inReset = false → s.tdc.sizing = some z → n < 48 → n ∈ z.left → histTotal (s.ch n).histE = sizeCounts →
    histTotal (s.ch n).histF = sizeCounts → (s.charge 4 3000).isSome = true →
    ∃ t, exec (.tdcSizeDone n) s = .next t ∧
      t.tdc.sizing = (if z.left.filter (· != n) = [] then none else some { z with left := z.left.filter (· != n) }) ∧
      (t.ch n).sizing = false ∧ (t.ch n).histE = [] ∧ (t.ch n).histF = [] ∧
      t.flag (TDC.CH_STAT_SPARED n) = false ∧ t.siz.due.length = s.siz.due.length + 1 ∧ s.siz.due <+: t.siz.due ∧
      Only [.tdc, .siz] (regBlock 0x40000 0x80000) s t) ∧
  (∀ (s : State) (h : Hdr) (n addr : Nat), s.Accepts h true (if classA n then 88 else 104) → n ≤ 47 → s.flag (TDC.CH_CFG_ENABLE n) = true →
    h.origin ≠ .mspi → h.dmaOk = true → rangeOk h addr (s.tableBytes n).length = true →
    ∃ t, exec (.tdcTableRead h n addr) s = .next t ∧ Out.hostWrite addr (s.tableBytes n) ∈ t.out ∧ Keeps [] s t) ∧
  (∀ (s : State) (h : Hdr) (n addr : Nat), s.Accepts h true (if classA n then 88 else 104) → n ≤ 47 → s.flag (TDC.CH_CFG_ENABLE n) = true →
    h.origin = .mspi → rangeOk h addr (s.tableBytes n).length = true →
    ∃ t, exec (.tdcTableRead h n addr) s = .next t ∧
      Keeps [] { s with hif := { s.hif with mbData := s.hif.mbData.take addr ++ s.tableBytes n ++ s.hif.mbData.drop (addr + (s.tableBytes n).length) } } t) ∧
  (∀ (s : State) (h : Hdr) (n : Nat), s.Accepts h false 0 → 32 ≤ n → n ≤ 47 →
    ∃ t, exec (.tdcCdcRestart h n) s = .next t ∧ Keeps [] (s.setCh n { s.ch n with histE := [], histF := [] }) t) ∧
  (∀ s : State, s.inReset = false → s.running = true →
    ∃ t, exec .measDeliverySlice s = .next t ∧ t.tdc.closed = s.tdc.closed.filter (fun r => !decide (r.sheet < s.sheetNo)) ∧
      t.tdc.inbox = (s.tdc.closed.filter (fun r => decide (r.sheet < s.sheetNo))).filter (fun r => r.owner != 0) ∧
      Only [.tdc, .time] (regBlock 0x30000 0x80000) s t)

/-- An edge, an arming and an end of a measurement window: completion, with effects from chapter 4 and frames. From
spec/04_time_interval_measurement.md, Measurement windows; spec/04_time_interval_measurement.md, Delay lines and the fine code. It rests on
readings and choices of the model: log entries 9, 60. -/
def Obligations.WindowEventsComplete : Prop :=
  (∀ (s : State) (n : Nat) (src : EdgeSrc) (falling : Bool) (gap tc : Nat) (second : Bool) (tE tF : Option Nat) (after : Bool), s.inReset = false → n < 48 →
    s.edgeReaches n src falling = false → ∃ t, exec (.tdcEdge n src falling gap tc second tE tF after) s = .next t ∧ Keeps [] s t) ∧
  (∀ (s : State) (n : Nat) (src : EdgeSrc) (falling : Bool) (gap tc : Nat) (second : Bool) (tE tF : Option Nat) (after : Bool), s.inReset = false → n < 48 →
    s.edgeReaches n src falling = true → (s.ch n).skip ≠ 0 →
    ∃ t, exec (.tdcEdge n src falling gap tc second tE tF after) s = .next t ∧ Keeps [] ((s.tookLoop src).setCh n { s.ch n with skip := (s.ch n).skip - 1 }) t) ∧
  (∀ (s : State) (n : Nat) (src : EdgeSrc) (falling : Bool) (gap tc : Nat) (second : Bool) (tE tF : Option Nat) (after : Bool), s.inReset = false → n < 48 →
    s.edgeReaches n src falling = true → (s.ch n).skip = 0 → (s.ch n).passed = false ∨ 3200 ≤ gap → tE.isSome = true ∨ tF.isSome = true →
    (s.charge 3 6).isSome = true →
    ∃ t, exec (.tdcEdge n src falling gap tc second tE tF after) s = .next t ∧ t.get (TDC.CH_CNT n) = min (s.get (TDC.CH_CNT n) + 1) (2 ^ 48 - 1) ∧
      t.tdc.chans = setNth s.tdc.chans n { s.ch n with skip := s.get (TDC.CH_PRESC n), passed := true, lastPass := some (s.edgeTime n tc second tE tF after) } ∧
      Only [.tdc, .time] (regBlock 0x40000 0x80000) s t) ∧
  (∀ (s : State) (n : Nat) (src : EdgeSrc) (falling : Bool) (gap tc : Nat) (second : Bool) (tE tF : Option Nat) (after : Bool), s.inReset = false → n < 48 →
    s.edgeReaches n src falling = true → (s.ch n).skip = 0 → (s.ch n).passed = false ∨ 3200 ≤ gap → tE = none → tF = none →
    ∃ t, exec (.tdcEdge n src falling gap tc second tE tF after) s = .next t ∧ t.get (TDC.CH_CNT n) = min (s.get (TDC.CH_CNT n) + 1) (2 ^ 48 - 1) ∧
      t.tdc.chans = setNth s.tdc.chans n { s.ch n with skip := s.get (TDC.CH_PRESC n), passed := true } ∧ Only [.tdc, .time] [TDC.CH_CNT n] s t) ∧
  (∀ (s : State) (n : Nat) (src : EdgeSrc) (falling : Bool) (gap tc : Nat) (second : Bool) (tE tF : Option Nat) (after : Bool), s.inReset = false → n < 48 →
    s.edgeReaches n src falling = true → (s.ch n).skip = 0 → (s.ch n).passed = true → gap < 3200 →
    ∃ t, exec (.tdcEdge n src falling gap tc second tE tF after) s = .next t ∧ t.get TDC.DEAD_CNT = min (s.get TDC.DEAD_CNT + 1) (2 ^ 48 - 1) ∧ t.get (TDC.CH_CNT n) = min (s.get (TDC.CH_CNT n) + 1) (2 ^ 48 - 1) ∧
      t.tdc.chans = setNth s.tdc.chans n { s.ch n with skip := s.get (TDC.CH_PRESC n), passed := true } ∧
      Only [.tdc, .time] (regBlock 0x40000 0x80000) s t) ∧
  (∀ (s : State) (m u : Nat), s.inReset = false → m < 64 →
    (s.get (TDC.WIN_CFG_ARM m) = 1 ∧ (s.win m).pend = some u ∧ u ≤ s.time.next) ∨
      (s.get (TDC.WIN_CFG_ARM m) = 2 ∧ u = s.time.edge + tickUnits (s.get (TDC.WIN_OFF m)) ∧ (s.win m).armAt ≠ u) ∨
      (s.get (TDC.WIN_CFG_ARM m) = 3 ∧ u = s.units ∧ (s.win m).isOpen = false) ∨
      (s.get (TDC.WIN_CFG_ARM m) = 4 ∧ nth s.time.lead (s.get (TDC.WIN_CFG_STROBE m)) none = some u ∧ (s.win m).armAt ≠ u) →
    ∃ t, exec (.windowArm m) s = .next t ∧ t.flag (TDC.WIN_STAT_OPEN m) = true ∧
      t.tdc.closed = s.tdc.closed ++ (if (s.win m).isOpen then [(s.win m).record m s.sheetNo (2 ^ flTrunc)] else []) ∧
      (m < s.tdc.wins.length → (t.win m).isOpen = true ∧ (t.win m).armAt = u ∧ (t.win m).endAt = u + tickUnits (s.get (TDC.WIN_LEN m))) ∧
      Only [.tdc] (regBlock 0x40000 0x80000) s t) ∧
  (∀ (s : State) (m : Nat), s.inReset = false → m < 64 → (s.win m).isOpen = true → (s.win m).endAt ≤ s.time.next → s.get (TDC.WIN_CFG_ARM m) ≠ 3 →
    ∃ t, exec (.windowClose m) s = .next t ∧ t.flag (TDC.WIN_STAT_OPEN m) = false ∧
      t.tdc.closed = s.tdc.closed ++ [(s.win m).record m s.sheetNo 0] ∧ Only [.tdc] (regBlock 0x40000 0x80000) s t) ∧
  (∀ (s : State) (m : Nat), s.inReset = false → m < 64 → (s.win m).isOpen = true → (s.win m).endAt ≤ s.time.next → s.get (TDC.WIN_CFG_ARM m) = 3 →
    ∃ t, exec (.windowClose m) s = .next t ∧ t.flag (TDC.WIN_STAT_OPEN m) = true ∧
      t.tdc.closed = s.tdc.closed ++ [(s.win m).record m s.sheetNo 0] ∧ Only [.tdc] (regBlock 0x40000 0x80000) s t)

/-- The DLLs and the bin tables of the time-interval channels: completion, with effects from chapter 4 and frames. From
spec/04_time_interval_measurement.md, Class A; spec/04_time_interval_measurement.md, Class B; spec/04_time_interval_measurement.md, Tables and
sizing. It rests on readings and choices of the model: log entries 9. -/
def Obligations.CalibrationEventsComplete : Prop :=
  (∀ (s : State) (n coarse : Nat) (line : Bool), s.inReset = false → n < 32 → (s.line n line).dll = 1 →
    ∃ t, exec (.dllSearchDone n line coarse) s = .next t ∧
      t.tdc = (s.setLine n line { s.line n line with dll := 2, coarse := coarse % 1024 }).tdc ∧ Only [.tdc] (regBlock 0x40000 0x80000) s t) ∧
  (∀ (s : State) (n fine : Nat) (line : Bool), s.inReset = false → n < 32 → (s.line n line).dll = 2 →
    ∃ t, exec (.dllLock n line fine) s = .next t ∧
      t.tdc = (s.setLine n line { s.line n line with dll := 3, fine := fine % 64, outSheets := 0, fault := false }).tdc ∧
      Only [.tdc] (regBlock 0x40000 0x80000) s t) ∧
  (∀ (s : State) (n : Nat) (line : Bool), s.inReset = false → n < 32 → (s.line n line).dll = 3 →
    ∃ t, exec (.dllUnlock n line) s = .next t ∧ t.tdc = (s.setLine n line { s.line n line with dll := 2 }).tdc ∧
      t.get TDC.DLL_UNLOCK_CNT = min (s.get TDC.DLL_UNLOCK_CNT + 1) (2 ^ 48 - 1) ∧ Only [.tdc] (regBlock 0x40000 0x80000) s t) ∧
  (∀ (s : State) (n : Nat) (line fineEnd : Bool), s.inReset = false → n < 32 → (s.line n line).dll = 2 →
    ∃ t, exec (.dllTrackTimeout n line fineEnd) s = .next t ∧ t.tdc = (s.setLine n line { s.line n line with dll := 1 }).tdc ∧
      t.get TDC.DLL_FAIL_CNT = (if fineEnd then s.get TDC.DLL_FAIL_CNT else min (s.get TDC.DLL_FAIL_CNT + 1) (2 ^ 48 - 1)) ∧
      Only [.tdc] (regBlock 0x40000 0x80000) s t) ∧
  (∀ (s : State) (n : Nat) (line : Bool), s.inReset = false → n < 32 → 8 < (s.line n line).outSheets →
    ∃ t, exec (.tdcDllFault n line) s = .next t ∧ t.tdc = (s.setLine n line { s.line n line with fault := true }).tdc ∧
      ((3, 2 * n + (if line then 1 else 0), 0) ∈ t.spare.cands ∨ (3, 2 * n + (if line then 1 else 0)) ∈ s.spare.retired) ∧
      Only [.tdc, .spare] (regBlock 0x40000 0x80000) s t) ∧
  (∀ (s : State) (n : Nat), s.inReset = false → 32 ≤ n → n ≤ 47 → 2 ^ s.get TDC.TDC_CFG_CAL_TARGET_LOG2 ≤ histTotal (s.ch n).histE →
    2 ^ s.get TDC.TDC_CFG_CAL_TARGET_LOG2 ≤ histTotal (s.ch n).histF → (s.charge 4 3000).isSome = true →
    ∃ t, exec (.cdcTableCompute n) s = .next t ∧ (t.ch n).histE = [] ∧ (t.ch n).histF = [] ∧
      (150 ≤ tapsUsed (histList (s.ch n).histE) → tapsUsed (histList (s.ch n).histE) ≤ 190 → 150 ≤ tapsUsed (histList (s.ch n).histF) →
        tapsUsed (histList (s.ch n).histF) ≤ 190 → (t.ch n).due.map (·.tE) = some (tapEntries (histList (s.ch n).histE)) ∧
          (t.ch n).due.map (·.tF) = some (tapEntries (histList (s.ch n).histF))) ∧
      Only [.tdc] [] s t)

/-- Searches start, end, deliver and hand off: completion, with effects from chapter 5 and frames. From spec/05_gnss_signal_processing.md,
Acquisition; spec/05_gnss_signal_processing.md, Tracking channels. It rests on readings and choices of the model: log entries 66. -/
def Obligations.AcquisitionCommandsComplete : Prop :=
  (∀ (s : State) (h : Hdr) (a : AcqArgs) (i : Nat), s.Accepts h false 0 → s.acqArgsOk a = true →
    (List.range (8 - s.autoSearches)).find? (fun i => (nth s.gnss.searches i none).isNone) = some i →
    ∃ t, exec (.acqStart h a) s = .next t ∧
      t.gnss = { s.gnss with searches := setNth s.gnss.searches i (some (Search.mk false a.signal a.sv a.k a.channel a.thresh a.tag
        a.doppler a.span a.step (!s.flag (GNSSF.BAND_STAT_SCLK_OK (sigBand a.signal))) (searchSheets a))) } ∧
      Only [.gnss] [GNSSF.GNSSF_STATUS_ACQ_BUSY] s t) ∧
  (∀ (s : State) (h : Hdr) (i : Nat), s.Accepts h false 0 → (nth s.gnss.searches i none).isSome = true →
    ∃ t, exec (.acqAbort h i) s = .next t ∧ t.gnss = { s.gnss with searches := setNth s.gnss.searches i none } ∧
      t.get GNSSF.ACQ_CNT = min (s.get GNSSF.ACQ_CNT + 1) (2 ^ 48 - 1) ∧ Only [.gnss] [GNSSF.GNSSF_STATUS_ACQ_BUSY, GNSSF.ACQ_CNT] s t) ∧
  (∀ (s : State) (i : Nat) (a : AcqIn) (r : Search), s.inReset = false → nth s.gnss.searches i none = some r → r.left = 0 →
    -(8 * (r.span / r.step : Nat) : Int) ≤ a.eighths → a.eighths ≤ (8 * (r.span / r.step : Nat) : Int) →
    ∃ t, exec (.acqResult i a) s = .next t ∧ t.gnss.searches = setNth s.gnss.searches i none ∧
      t.get GNSSF.ACQ_CNT = min (s.get GNSSF.ACQ_CNT + 1) (2 ^ 48 - 1) ∧
      (r.fell = true ∨ a.pnr ≤ r.thresh ∨ r.channel = 254 → t.gnss.handoffs = s.gnss.handoffs) ∧
      (r.fell = false → r.thresh < a.pnr → r.channel < 136 → s.chanFree r.channel = true → r.auto = false →
        s.enabledChans + s.gnss.handoffs.length < 128 →
        t.gnss.handoffs = s.gnss.handoffs ++ [⟨r.channel, r.signal, r.sv, r.k, a.epoch % 2 ^ 64, a.codePhase, r.doppler + a.eighths * (32 * (r.step : Int)), false⟩]) ∧
      Only [.gnss] [GNSSF.GNSSF_STATUS_ACQ_BUSY, GNSSF.ACQ_CNT, GNSSF.SV_NO_CHANNEL_CNT] s t) ∧
  (∀ (s : State) (a : AcqArgs) (i : Nat), s.inReset = false → s.flag GNSSF.ALLOC_CFG_AUTO = true → bitOf (s.get GNSSF.ALLOC_CFG_SIG_MASK) a.signal = true →
    s.acqArgsOk { a with channel := 255, tag := 0 } = true → s.visible (sigSystem a.signal) a.sv = true → s.satTaken a.signal a.sv = false →
    s.autoChans < s.get GNSSF.ALLOC_CFG_ALLOC_MAX →
    ((List.range 8).drop (8 - s.autoSearches)).find? (fun i => (nth s.gnss.searches i none).isNone) = some i →
    ∃ t, exec (.autoAllocation a) s = .next t ∧
      t.gnss = { s.gnss with searches := setNth s.gnss.searches i (some (Search.mk true a.signal a.sv a.k 255 a.thresh 0
        a.doppler a.span a.step (!s.flag (GNSSF.BAND_STAT_SCLK_OK (sigBand a.signal))) (searchSheets a))) } ∧
      Only [.gnss] [GNSSF.GNSSF_STATUS_ACQ_BUSY] s t)

/-- Tracking channels start, stop, dump and steer: completion, with effects from chapter 5 and frames. From spec/05_gnss_signal_processing.md,
Tracking channels; spec/05_gnss_signal_processing.md, Loop filters; spec/05_gnss_signal_processing.md, Observations. It rests on readings and
choices of the model: log entries 14, 66. -/
def Obligations.TrackingCommandsComplete : Prop :=
  (∀ (s : State) (o : Origin) (n v : Nat), s.inReset = false → o ≠ .pf1 → n < 136 → s.glb.voteFailed = [] → s.flag (GNSSC.CH_CTRL_ENABLE n) = false →
    s.flag (GNSSC.CH_STAT_RETIRED n) = false → s.enabledChans + s.gnss.handoffs.length < 128 →
    ∃ t, exec (.gnssChEnable o n v) s = .next t ∧ t.flag (GNSSC.CH_CTRL_ENABLE n) = true ∧ t.flag (GNSSC.CH_CTRL_OWNER n) = false ∧
      t.get (GNSSC.CH_STAT_STATE n) = 1 ∧ t.get (GNSSC.CODE_RATE n) = s.get (GNSSC.CODE_RATE_INIT n) ∧
      Only [.gnss, .glb] (regBlock 0xC0000 0x100000 ++ unlockFlags) s t) ∧
  (∀ (s : State) (o : Origin) (n v : Nat), s.inReset = false → o ≠ .pf1 → n < 136 → s.glb.voteFailed = [] →
    ∃ t, exec (.gnssChDisable o n v) s = .next t ∧ t.flag (GNSSC.CH_CTRL_ENABLE n) = false ∧ t.flag (GNSSC.CH_CTRL_OWNER n) = false ∧
      t.get (GNSSC.CH_STAT_STATE n) = 0 ∧ Only [.gnss, .glb] (regBlock 0xC0000 0x100000 ++ unlockFlags) s t) ∧
  (∀ (s : State) (n : Nat), s.inReset = false → n < 136 → s.get (GNSSC.CH_STAT_STATE n) = 1 → s.reaches ((s.chan n).pullAt + (2 * secU : Nat)) = true →
    ∃ t, exec (.pullInTimeout n) s = .next t ∧ t.get (GNSSC.CH_STAT_STATE n) = (if s.flag (GNSSC.CH_CTRL_OWNER n) then 0 else 4) ∧
      t.get (GNSSC.LOSS_CNT n) = min (s.get (GNSSC.LOSS_CNT n) + 1) (2 ^ 48 - 1) ∧ Only [.gnss] (regBlock 0xC0000 0x100000) s t) ∧
  (∀ (s : State), s.inReset = false →
    ∃ t, exec .taiMsEdge s = .next t ∧ t.gnss.handoffs = [] ∧ t.gnss.epoch = s.units / 65536000000 * 65536000000 ∧
      (∀ n, s.gnss.handoffs = [] → n < 136 → s.get (GNSSC.CH_STAT_STATE n) = 0 → t.get (GNSSC.CH_STAT_STATE n) = 0) ∧
      Only [.gnss, .nav] (regBlock 0x80000 0x100000) s t) ∧
  (∀ (s : State) (n : Nat) (d : DumpIn), s.inReset = false → n < 136 → s.get (GNSSC.CH_STAT_STATE n) ≠ 0 → s.get (GNSSC.CH_STAT_STATE n) ≠ 4 → sigKnown (s.chSig n) = true →
    s.dumpPeriods n ≤ (s.chan n).since → (∀ m < 136, (s.chan m).steer = none) →
    ∃ t, exec (.correlatorDump n d) s = .next t ∧
      t.flag (GNSSC.CH_STAT_BIT_SYNC n) = (if s.get (GNSSC.CH_STAT_STATE n) = 3 ∨ s.get (GNSSC.CH_STAT_STATE n) = 5 then d.bitSync
        else s.flag (GNSSC.CH_STAT_BIT_SYNC n)) ∧
      (s.get (GNSSC.CH_STAT_STATE n) = 5 → t.get (GNSSC.CH_STAT_STATE n) = 5 ∧ t.get (GNSSC.CARR_RATE n) = s.get (GNSSC.CARR_RATE n) ∧
        t.get (GNSSC.CODE_RATE n) = s.get (GNSSC.CODE_RATE n)) ∧
      Only [.gnss] (regBlock 0x80000 0x100000) s t) ∧
  (∀ (s : State) (n : Nat), s.inReset = false → n < 136 → s.get (GNSSC.CH_STAT_STATE n) = 5 → s.get GNSSF.STEER_CFG ≤ (s.chan n).steerGap →
    ∃ t, exec (.steerTimeout n) s = .next t ∧ t.flag (GNSSC.CH_CTRL_STEER n) = false ∧
      t.get GNSSF.STEER_TIMEOUT_CNT = min (s.get GNSSF.STEER_TIMEOUT_CNT + 1) (2 ^ 48 - 1) ∧
      Only [] [GNSSC.CH_CTRL_STEER n, GNSSF.STEER_TIMEOUT_CNT] s t)

/-- Ephemerides and almanacs are loaded, read, decoded and reset: completion, with effects from chapter 6 and frames. From
spec/06_gnss_time_solution.md, Ephemeris store; spec/06_gnss_time_solution.md, Navigation messages; spec/06_gnss_time_solution.md, Commands and
stock. It rests on readings and choices of the model: log entries 2, 68. -/
def Obligations.NavigationDataCommandsComplete : Prop :=
  (∀ (s : State) (h : Hdr) (count addr : Nat) (d : DmaIn), s.Accepts h false (count * 120 + dmaStock (256 * count)) → rangeOk h addr (256 * count) = true →
    (s.dataIn h addr (256 * count) d).isSome = true → s.vat.wf = true →
    ∃ t, exec (.ephLoad h count addr d) s = .next t ∧ VatSame [(ephAddr 0, ephAddr 165)] s t ∧ Only [.vat] [GNSSN.EPH_NEW_CNT, VAT.RMW_CNT] s t) ∧
  (∀ (s : State) (h : Hdr) (addr slot : Nat) (d : DmaIn) (b : List Byte), s.Accepts h false (120 + dmaStock 256) → rangeOk h addr 256 = true →
    s.dataIn h addr 256 d = some b → ephSlot (leAt b 0 1) (leAt b 1 1) = some slot → ephCrcOk b = true → s.vat.wf = true →
    s.vatMay 4 (ephAddr slot) 256 false = true → s.vatMay 11 (ephAddr slot) 256 true = true → s.vatMay 11 (ephAddr slot + 256) 256 true = true →
    s.vatc.poison = [] →
    ∃ t, exec (.ephLoad h 1 addr d) s = .next t ∧
      t.vat.reads (ephAddr slot) 252 = b.take 2 ++ leBytes 1 1 ++ (b.drop 3).take 0xF9 ∧
      t.vat.reads (ephAddr slot + 252) 4 = leBytes 4 (crc32 (b.take 2 ++ leBytes 1 1 ++ (b.drop 3).take 0xF9)) ∧
      t.vat.reads (ephAddr slot + 256) 256 = (if ephCrcOk (s.vat.reads (ephAddr slot) 256) then s.vat.reads (ephAddr slot) 256
        else s.vat.reads (ephAddr slot + 256) 256) ∧
      t.get GNSSN.EPH_NEW_CNT = min (s.get GNSSN.EPH_NEW_CNT + 1) (2 ^ 48 - 1)) ∧
  (∀ (s : State) (h : Hdr) (count addr : Nat) (d : DmaIn) (b : List Byte), s.Accepts h false (count * 120 + dmaStock (64 * count)) → count ≤ 165 →
    rangeOk h addr (64 * count) = true → s.dataIn h addr (64 * count) d = some b → b.length = 64 * count → s.vat.wf = true →
    s.vatMay 11 (almAddr 0) (64 * count) true = true →
    ∃ t, exec (.almLoad h count addr d) s = .next t ∧ t.vat.reads (almAddr 0) (64 * count) = b ∧ VatSame [(almAddr 0, almAddr count)] s t ∧
      Only [.vat] [VAT.RMW_CNT] s t) ∧
  (∀ (s : State) (h : Hdr) (slot addr : Nat), s.Accepts h true (dmaStock 512) → slot ≤ 164 → s.vatMay 11 (ephAddr slot) 512 false = true →
    s.vatc.poison = [] → h.origin ≠ .mspi → h.dmaOk = true →
    ∃ t, exec (.ephRead h slot addr) s = .next t ∧ Out.hostWrite addr (s.vat.reads (ephAddr slot) 512) ∈ t.out ∧ Keeps [] s t) ∧
  (∀ (s : State) (h : Hdr) (mask : Nat), s.Accepts h false 0 → s.mode ≤ 1 → s.vat.wf = true →
    ∃ t, exec (.navReset h mask) s = .next t ∧
      t.nav = { s.nav with
        smooth := s.nav.smooth.filter (fun p => !bitOf mask (slotSystem p.slot))
        align := (List.range 136).map (fun i => if bitOf mask (sigSystem (s.chSig i)) then none else nth s.nav.align i none)
        sync := (List.range 136).map (fun i => if bitOf mask (sigSystem (s.chSig i)) then none else nth s.nav.sync i none)
        passes := (List.range 136).map (fun i => if bitOf mask (sigSystem (s.chSig i)) then 0 else nth s.nav.passes i 0) } ∧
      (∀ i < 5, bitOf mask i = true → s.vatMay 4 (globAddr i) 128 true = true → t.vat.reads (globAddr i) 128 = List.replicate 128 0) ∧
      VatSame [(ephAddr 0, almAddr 165), (globAddr 0, globAddr 5), (navBuf 0, navBuf 165)] s t ∧
      Only [.vat, .nav] [GNSSN.NAV_STATUS_SOL_MODE, GNSSN.NAV_STATUS_SURVEY_RUN, GNSSN.NAV_STATUS_NEPH, VAT.RMW_CNT] s t) ∧
  (∀ (s : State) (n ty : Nat) (raw : List Bool) (item : NavItem), s.inReset = false → n < 136 →
    s.flag (GNSSC.CH_CTRL_ENABLE n) = true → unitKnown (s.chSig n) (s.get (GNSSC.CH_SIG_SV n)) ty = true →
    unitOk (s.chSig n) (if (s.chan n).invert then raw.map (!·) else raw) = false →
    ∃ t, exec (.navUnitDecoded n ty raw item) s = .next t ∧ t.get GNSSN.PARITY_FAIL_CNT = min (s.get GNSSN.PARITY_FAIL_CNT + 1) (2 ^ 48 - 1) ∧
      Keeps [GNSSN.PARITY_FAIL_CNT] { s with nav := { s.nav with passes := setNth s.nav.passes n 0 } } t) ∧
  (∀ (s : State) (n ty e : Nat) (raw : List Bool) (tx : Rat), s.inReset = false → n < 136 →
    s.flag (GNSSC.CH_CTRL_ENABLE n) = true → unitKnown (s.chSig n) (s.get (GNSSC.CH_SIG_SV n)) ty = true →
    unitOk (s.chSig n) (if (s.chan n).invert then raw.map (!·) else raw) = true → n < s.nav.align.length →
    ∃ t, exec (.navUnitDecoded n ty raw (.align e tx)) s = .next t ∧
      Keeps [] { s with nav := { s.nav with
        passes := setNth s.nav.passes n (nth s.nav.passes n 0 + 1)
        align := setNth s.nav.align n (some (e, tx))
        sync := if 2 ≤ nth s.nav.passes n 0 + 1 ∨ (nth s.nav.sync n none).isSome = true then setNth s.nav.sync n (some (e, tx))
          else s.nav.sync } } t) ∧
  (∀ (s : State) (n ty : Nat) (raw : List Bool) (item : NavItem), s.inReset = false → n < 136 →
    s.flag (GNSSC.CH_CTRL_ENABLE n) = true → unitKnown (s.chSig n) (s.get (GNSSC.CH_SIG_SV n)) ty = true →
    unitOk (s.chSig n) (if (s.chan n).invert then raw.map (!·) else raw) = true → s.vat.wf = true →
    (∀ y ps, item = .offset y ps → y < 5) →
    ∃ t, exec (.navUnitDecoded n ty raw item) s = .next t ∧ t.nav.passes = setNth s.nav.passes n (nth s.nav.passes n 0 + 1) ∧
      VatSame [(ephAddr 0, almAddr 165), (globAddr 0, globAddr 5), (navBuf 0, navBuf 165)] s t ∧
      Only [.vat, .nav, .time, .gnss] (regBlock 0x100000 0x110000 ++ regBlock 0x30000 0x40000 ++ [SHEET.LATE_CNT, VAT.RMW_CNT]) s t)

/-- Survey, position, delay sizing and the solution epoch: completion, with effects from chapter 6 and frames. From spec/06_gnss_time_solution.md,
Survey; spec/06_gnss_time_solution.md, Sizing the antenna delay; spec/06_gnss_time_solution.md, The time solution. It rests on readings and
choices of the model: log entries 13, 14. -/
def Obligations.PositionCommandsComplete : Prop :=
  (∀ (s : State) (h : Hdr) (dur target : Nat), s.Accepts h false 0 → s.mode ≤ 1 → s.nav.survey = none → 600 ≤ dur → dur ≤ 604800 →
    ∃ t, exec (.surveyStart h dur target) s = .next t ∧
      t.nav = { s.nav with survey := some ⟨h.origin, dur, target, s.monoSec, List.replicate 3 (List.replicate 3 (0 : Rat)), [0, 0, 0], none⟩ } ∧
      t.flag GNSSN.NAV_STATUS_SURVEY_RUN = true ∧ t.get GNSSN.NAV_STATUS_SOL_MODE = 1 ∧ t.get GNSSN.SURVEY_STAT_RESULT = 0 ∧
      Only [.nav] (regBlock 0x100000 0x110000) s t) ∧
  (∀ (s : State) (h : Hdr), s.Accepts h false 0 → s.nav.survey.isSome = true →
    ∃ t, exec (.surveyStop h) s = .next t ∧ t.nav = { s.nav with survey := none, smooth := [] } ∧ t.get GNSSN.SURVEY_STAT_RESULT = 3 ∧
      t.flag GNSSN.NAV_STATUS_SURVEY_RUN = false ∧ Only [.nav] (regBlock 0x100000 0x110000) s t) ∧
  (∀ (s : State) (h : Hdr), s.Accepts h false 0 → s.nav.survey = none → ∃ t, exec (.surveyStop h) s = .next t ∧ Keeps [] s t) ∧
  (∀ (s : State) (v : Survey), s.inReset = false → s.nav.survey = some v → s.epochDue 1000 = true → (s.charge 4 2000).isSome = true →
    ∃ t, exec .surveyEpoch s = .next t ∧ t.get GNSSN.SURVEY_STAT_ELAPSED = (s.monoSec - v.start) % 2 ^ 20 ∧
      Only [.nav, .vat] (regBlock 0x100000 0x110000 ++ [VAT.RMW_CNT]) s t) ∧
  (∀ (s : State) (v : Survey) (p : List Rat), s.inReset = false → s.nav.survey = some v → v.start + v.dur ≤ s.monoSec → v.est = some p →
    s.get GNSSN.SURVEY_SIGMA ≤ v.target →
    ∃ t, exec .surveyDone s = .next t ∧ t.nav = { s.nav with survey := none, smooth := [], posDue := true } ∧ t.get GNSSN.SURVEY_STAT_RESULT = 1 ∧
      t.get GNSSN.POS_X = ofS 64 (roundQ (nth p 0 0 * 1000)) ∧ t.get GNSSN.POS_SIGMA = s.get GNSSN.SURVEY_SIGMA ∧
      t.flag GNSSN.NAV_STATUS_POS_VALID = true ∧ t.siz.due.length = s.siz.due.length + 1 ∧
      Only [.nav, .siz] (regBlock 0x100000 0x110000) s t) ∧
  (∀ (s : State) (v : Survey), s.inReset = false → s.nav.survey = some v → v.start + v.dur ≤ s.monoSec →
    v.est = none ∨ v.target < s.get GNSSN.SURVEY_SIGMA →
    ∃ t, exec .surveyDone s = .next t ∧ t.nav = { s.nav with survey := none, smooth := [] } ∧ t.get GNSSN.SURVEY_STAT_RESULT = 2 ∧
      t.get GNSSN.POS_X = s.get GNSSN.POS_X ∧ Only [.nav] (regBlock 0x100000 0x110000) s t) ∧
  (∀ (s : State) (h : Hdr) (x y z : Int) (sigma : Nat), s.Accepts h false (dmaStock 28) → s.mode ≤ 1 → x * x + y * y + z * z ≤ 10 ^ 16 →
    ∃ t, exec (.posSet h x y z sigma) s = .next t ∧ t.get GNSSN.POS_X = ofS 64 x ∧ t.get GNSSN.POS_Y = ofS 64 y ∧ t.get GNSSN.POS_Z = ofS 64 z ∧
      t.get GNSSN.POS_SIGMA = sigma % 2 ^ 32 ∧ t.flag GNSSN.NAV_STATUS_POS_VALID = true ∧ t.nav = { s.nav with posDue := true } ∧
      Only [.nav] (regBlock 0x100000 0x110000) s t) ∧
  (∀ (s : State) (o : Origin) (a v : Nat), s.inReset = false → o ≠ .pf1 → a ∈ [0x100020, 0x100028, 0x100030] →
    ∃ t, exec (.posWrite o a v) s = .next t ∧ (a, v) ∈ t.glb.stagedLo ∧ t.nav = s.nav ∧ Only [.glb] [] s t) ∧
  (∀ (s : State) (o : Origin) (a v : Nat), s.inReset = false → o ≠ .pf1 → a ∈ [0x100024, 0x10002C, 0x100034] → s.mode ≤ 1 →
    (s.useUnlock o).1 = true → s.glb.voteFailed = [] →
    ∃ t, exec (.posWrite o a v) s = .next t ∧ t.nav = { s.nav with posDue := true } ∧ t.flag GNSSN.NAV_STATUS_POS_VALID = true ∧
      t.get ⟨32 * (a - 4), 64, 0⟩ / 2 ^ 32 = v % 2 ^ 32 ∧
      Only [.nav, .glb] (regBlock 0x100020 0x100038 ++ GNSSN.NAV_STATUS_POS_VALID :: unlockFlags) s t) ∧
  (∀ (s : State) (h : Hdr) (n dur : Nat), s.Accepts h false 0 → s.mode = 1 → n ≤ 31 → 600 ≤ dur → dur ≤ 86400 → s.nav.sizing = none →
    ∃ t, exec (.gnssDelaySize h n dur) s = .next t ∧
      Keeps [] { s with nav := { s.nav with sizing := some ⟨h.origin, n, dur, s.monoSec, 0, 0, 0, ((s.ch n).lastPass).getD 0⟩ } } t) ∧
  (∀ (s : State) (z : DelaySize), s.inReset = false → s.nav.sizing = some z → z.start + z.dur ≤ s.monoSec → z.n ≠ 0 →
    ∃ t, exec .delaySized s = .next t ∧ t.nav = { s.nav with sizing := none } ∧ t.siz.due.length = s.siz.due.length + 1 ∧
      s.siz.due <+: t.siz.due ∧ Only [.nav, .siz] [] s t) ∧
  (∀ s : State, s.inReset = false → s.nav.survey = none → s.epochDue (s.get GNSSN.SOL_CFG_SOL_PERIOD_MS) = true →
    ∃ t, exec .solutionEpoch s = .next t ∧ t.nav.solved = some s.gnss.epoch ∧ t.nav.slips = [] ∧
      (s.solBar.isSome = true → some (t.get GNSSN.NAV_STATUS_STATUS) = s.solBar ∧ t.get GNSSN.NAV_STATUS_NUSED = 0) ∧
      (s.solBar = none → t.get GNSSN.NAV_STATUS_STATUS ≤ 4) ∧
      Only [.nav, .gnss, .vat] (regBlock 0x80000 0x110000 ++ [VAT.RMW_CNT]) s t)

/-- Reference slots are enabled, measured, judged and timed: completion, with effects from chapter 7 and frames. From spec/07_reference_selection.md,
Qualification; spec/07_reference_selection.md, Slots and sources; spec/07_reference_selection.md, SyncE quality levels and ESMC. It rests on
readings and choices of the model: log entries 15, 50, 56. -/
def Obligations.ReferenceCommandsComplete : Prop :=
  (∀ (s : State) (h : Hdr) (slot : Nat), s.Accepts h false 0 → slot ≤ 15 → s.mode ≠ 4 → s.mode ≠ 5 → timeSlot slot = true → s.qualified slot = true →
    s.lockedOut slot = false → s.getT REFSEL.REF_OVERRIDE_FORCE_EN = 0 ∨ s.getT REFSEL.REF_OVERRIDE_FORCE_SLOT = slot →
    ∃ t, exec (.refSelect h slot) s = .next t ∧ Keeps [] { s with ref := { s.ref with wanted := some slot } } t) ∧
  (∀ (s : State) (h : Hdr) (slot : Nat), s.Accepts h false 0 → slot ≤ 15 → s.slotState slot = 3 →
    ∃ t, exec (.wtrClear h slot) s = .next t ∧ Keeps [] (s.setSlot slot { s.slot slot with wtrClear := true }) t) ∧
  (∀ (s : State) (o : Origin) (slot v : Nat), s.inReset = false → o ≠ .pf1 → slot < 16 → s.glb.voteFailed = [] → s.slotState slot = 0 →
    ∃ t, exec (.refEnable o slot v) s = .next t ∧ t.flag (REFSEL.REF_CFG_ENABLE slot) = true ∧ t.slotState slot = 1 ∧
      t.get (REFSEL.REF_TIMER slot) = 0 ∧ Only [.ref, .glb] (regBlock 0x110000 0x120000 ++ unlockFlags) s t) ∧
  (∀ (s : State) (o : Origin) (slot v : Nat), s.inReset = false → o ≠ .pf1 → slot < 16 → s.glb.voteFailed = [] →
    ∃ t, exec (.refDisable o slot v) s = .next t ∧ t.flag (REFSEL.REF_CFG_ENABLE slot) = false ∧ t.slotState slot = 0 ∧
      t.get (REFSEL.REF_STAT_CAUSE slot) = 0 ∧ Only [.ref, .glb] (regBlock 0x110000 0x120000 ++ unlockFlags) s t) ∧
  (∀ (s : State) (sol : NavSol), s.inReset = false → s.nav.deliver = some sol → sol.sheet ≠ s.sheetNo →
    ∃ t, exec (.slotMeasurement 0) s = .next t ∧ t.nav.deliver = none ∧
      (s.refFrozen = false → s.slotState 0 ≠ 0 → t.geti (REFSEL.REF_PHASE 0) = satS 40 (psOfUnits sol.offset) ∧
        t.nav = { s.nav with deliver := none, forBound := some sol }) ∧
      (s.refFrozen = true ∨ s.slotState 0 = 0 → Keeps [] { s with nav := { s.nav with deliver := none } } t) ∧
      Only [.nav, .ref] (regBlock 0x110000 0x120000) s t) ∧
  (∀ (s : State) (u : UpSample), s.inReset = false → s.ref.up = some u → s.ref.upNew = true →
    ∃ t, exec (.slotMeasurement 13) s = .next t ∧ t.ref.upNew = false ∧
      (s.refFrozen = false → s.slotState 13 ≠ 0 → t.geti (REFSEL.REF_PHASE 13) = satS 40 u.theta ∧ t.ref.upUsed = some u) ∧ Only [.ref] (regBlock 0x110000 0x120000) s t) ∧
  (∀ (s : State) (u : PeerSample), s.inReset = false → s.ref.peer = some u → s.ref.peerNew = true →
    ∃ t, exec (.slotMeasurement 15) s = .next t ∧ t.ref.peerNew = false ∧
      (s.refFrozen = false → s.slotState 15 ≠ 0 → t.geti (REFSEL.REF_PHASE 15) = satS 40 u.theta ∧ t.ref.peerUsed = some u) ∧ Only [.ref] (regBlock 0x110000 0x120000) s t) ∧
  (∀ (s : State) (slot : Nat) (r : MeasRec), s.inReset = false → slot ∈ [1, 2, 3, 4, 5, 6, 7, 8, 9, 10, 11, 12, 14] → s.slotRecord slot = some r →
    ∃ t, exec (.slotMeasurement slot) s = .next t ∧ t.tdc = { s.tdc with inbox := s.tdc.inbox.erase r } ∧
      Only [.tdc, .ref] (regBlock 0x110000 0x120000) s t) ∧
  (∀ (s : State) (input : Nat) (frame : List Byte) (m : TodMsg), s.inReset = false → input < 2 → s.flag (REFSEL.TOD_CFG_ENABLE input) = true →
    todParse frame = some m →
    ∃ t, exec (.todInMessage input (s.get (REFSEL.TOD_CFG_BAUD input)) frame) s = .next t ∧ Keeps [] (s.setSlot (input + 1) { s.slot (input + 1) with msg := some m }) t) ∧
  (∀ s : State, s.inReset = false → s.refFrozen = false →
    ∃ t, exec .refWholeSecond s = .next t ∧ (∀ n ∈ List.range 16, s.slotState n = 0 → t.slotState n = 0) ∧
      Only [.ref] (regBlock 0x110000 0x120000) s t) ∧
  (∀ (s : State) (slot : Nat), s.inReset = false → s.refFrozen = false → slot ≤ 15 → s.get (REFSEL.REF_TIMER slot) = 0 →
    s.slotState slot = 2 ∨ s.slotState slot = 3 →
    ∃ t, exec (.slotTimerExpire slot) s = .next t ∧
      (if s.slotState slot = 2 ∧ (s.slot slot).qualBefore = true ∧ s.get REFSEL.QUAL_CFG_WTR_S ≠ 0
        then t.slotState slot = 3 ∧ t.get (REFSEL.REF_TIMER slot) = s.get REFSEL.QUAL_CFG_WTR_S
        else t.slotState slot = 4 ∧ t.flag (REFSEL.REF_STAT_ARBITRATED slot) = false) ∧
      Only [.ref] [REFSEL.REF_STAT_STATE slot, REFSEL.REF_TIMER slot, REFSEL.REF_STAT_ARBITRATED slot] s t) ∧
  (∀ (s : State) (slot : Nat), s.inReset = false → synceSlot slot = true →
    (s.slot slot).qlAt.all (fun t => s.reaches (t + (5 * secU : Nat))) = true →
    ∃ t, exec (.esmcQlTimeout slot) s = .next t ∧ t.ref.slots.map (·.qlOut) = setNth (s.ref.slots.map (·.qlOut)) slot true ∧
      Only [.ref] (regBlock 0x110000 0x120000) s t)

/-- The history, the temperature and the oscillator's health: completion, with effects from chapter 8 and frames. From
spec/08_holdover_and_atomic_port.md, The control-value history; spec/08_holdover_and_atomic_port.md, The oscillator's health;
spec/08_holdover_and_atomic_port.md, Commands and stock. It rests on readings and choices of the model: log entries 53, 54, 55. -/
def Obligations.HoldoverCommandsComplete : Prop :=
  (∀ (s : State) (h : Hdr), s.Accepts h false 0 → s.mode = 0 →
    ∃ t, exec (.holdHistoryClear h) s = .next t ∧ t.hold = { s.hold with bins := [], sums := {}, prev := none } ∧ t.get HOLD.HIST_USABLE_S = 0 ∧
      Only [.hold] [HOLD.HIST_USABLE_S, HOLD.HOLD_STATUS_HIST_VALID] s t) ∧
  (∀ (s : State) (h : Hdr) (addr : Nat) (b : List Byte), s.Accepts h true (4 * s.hold.bins.length + dmaStock (16 * s.hold.bins.length)) →
    (s.binData s.hold.bins).1 = some b → h.origin ≠ .mspi → h.dmaOk = true →
    ∃ t, exec (.holdHistoryRead h addr) s = .next t ∧ Out.hostWrite addr b ∈ t.out ∧ Keeps [] s t) ∧
  (∀ (s : State) (o : Origin) (v : Nat), s.inReset = false → o ≠ .pf1 → s.glb.voteFailed = [] →
    ∃ t, exec (.holdSteerCfgWrite o 0x12004C v) s = .next t ∧ t.get HOLD.EFC_SENS = v % 2 ^ HOLD.EFC_SENS.width ∧
      (t.get HOLD.EFC_SENS ≠ s.get HOLD.EFC_SENS → t.get HOLD.EFC_BASE = s.get HOLD.EFC_CODE) ∧
      (t.get HOLD.EFC_SENS = s.get HOLD.EFC_SENS → t.get HOLD.EFC_BASE = s.get HOLD.EFC_BASE) ∧
      Only [.hold, .ref, .glb] (regBlock 0x110000 0x130000 ++ unlockFlags) s t) ∧
  (∀ (s : State) (o : Origin) (v : Nat), s.inReset = false → o ≠ .pf1 → s.glb.voteFailed = [] → s.mode ≠ 0 → s.oscBad = false →
    ∃ t, exec (.holdSteerCfgWrite o 0x120004 v) s = .next t ∧ t.get HOLD.HOLD_CFG_HIST_LOG2 = s.get HOLD.HOLD_CFG_HIST_LOG2 ∧
      t.get HOLD.HOLD_CFG_OSC_SRC = s.get HOLD.HOLD_CFG_OSC_SRC ∧ t.hold = s.hold ∧ Only [.glb] (regBlock 0x120000 0x130000 ++ unlockFlags) s t) ∧
  (∀ (s : State) (o : Origin) (v : Nat), s.inReset = false → o ≠ .pf1 → s.glb.voteFailed = [] →
    ∃ t, exec (.holdTempWrite o v) s = .next t ∧ t.get HOLD.HOLD_TEMP = v % 2 ^ 16 ∧ t.hold = { s.hold with hostAt := some s.mono } ∧
      Only [.hold, .glb] (HOLD.HOLD_TEMP :: HOLD.HOLD_STATUS_TEMP_STALE :: unlockFlags) s t) ∧
  (∀ s : State, s.inReset = false → s.vat.wf = true →
    ∃ t, exec .holdSecondSample s = .next t ∧ t.hold.n = 0 ∧ t.hold.sumU = 0 ∧ t.hold.ok = true ∧ t.hold.bad = false ∧
      VatSame [(0x07800000, 0x07810000)] s t ∧ Only [.hold, .ref, .vat] (regBlock 0x110000 0x130000 ++ [VAT.RMW_CNT]) s t) ∧
  (∀ s : State, s.inReset = false → s.get HOLD.OSC_GOOD_S ≤ s.hold.goodS →
    ∃ t, exec .oscGoodExpire s = .next t ∧ t.flag HOLD.HOLD_STATUS_OSC_FAIL = false ∧ Keeps [HOLD.HOLD_STATUS_OSC_FAIL] s t) ∧
  (∀ s : State, s.inReset = false →
    ∃ t, exec .tempStale s = .next t ∧ t.flag HOLD.HOLD_STATUS_TEMP_STALE = s.tempStale ∧ Keeps [HOLD.HOLD_STATUS_TEMP_STALE] s t)

/-- The atomic port goes through its states: completion, with effects from chapter 8 and frames. From spec/08_holdover_and_atomic_port.md, The atomic
port; spec/08_holdover_and_atomic_port.md, Steering the oscillator. It rests on readings and choices of the model: log entries 9, 174. -/
def Obligations.AtomCommandsComplete : Prop :=
  (∀ (s : State) (h : Hdr), s.Accepts h false 0 → s.get HOLD.ATOM_STATUS_STATE = 5 → s.flag HOLD.ATOM_CFG_ENABLE = true →
    ∃ t, exec (.atomRescan h) s = .next t ∧ t.get HOLD.ATOM_STATUS_STATE = 1 ∧ Out.atom (s.get HOLD.ATOM_CFG_BAUD * 100) (atomBytes 0x01 []) ∈ t.out ∧
      Keeps [HOLD.ATOM_STATUS_STATE] { s with hold := { s.hold with identTries := 1, identAt := s.mono, statusAt := s.mono } } t) ∧
  (∀ s : State, s.inReset = false → s.get HOLD.ATOM_STATUS_STATE = 0 → s.flag HOLD.ATOM_CFG_ENABLE = true →
    ∃ t, exec (.atomPresentChange true) s = .next t ∧ t.get HOLD.ATOM_STATUS_STATE = 1 ∧ Out.atom (s.get HOLD.ATOM_CFG_BAUD * 100) (atomBytes 0x01 []) ∈ t.out ∧
      Keeps [HOLD.ATOM_STATUS_STATE] { s with hold := { s.hold with identTries := 1, identAt := s.mono, statusAt := s.mono } } t) ∧
  (∀ s : State, s.inReset = false → s.get HOLD.ATOM_STATUS_STATE ≠ 0 →
    ∃ t, exec (.atomPresentChange false) s = .next t ∧ t.get HOLD.ATOM_STATUS_STATE = 0 ∧ Only [.hold, .ref] (regBlock 0x110000 0x130000) s t) ∧
  (∀ (s : State) (f p : List Byte), s.inReset = false → s.flag HOLD.ATOM_CFG_ENABLE = true → s.oscBad = false → atomParse f = some (0x81, p) → s.get HOLD.ATOM_STATUS_STATE = 1 →
    ∃ t, exec (.atomIdent f) s = .next t ∧ t.get HOLD.ATOM_STATUS_STATE = 2 ∧ t.get HOLD.ATOM_ID_VENDOR = beNat (p.take 2) ∧
      t.get HOLD.ATOM_ID_MODEL = beNat ((p.drop 2).take 2) ∧ t.get HOLD.ATOM_SERIAL = beNat ((p.drop 4).take 4) ∧
      t.hold = s.hold ∧ Only [] (regBlock 0x120000 0x130000) s t) ∧
  (∀ (s : State) (f p : List Byte), s.inReset = false → s.flag HOLD.ATOM_CFG_ENABLE = true → atomParse f = some (0x82, p) →
    ∃ t, exec (.atomStatus f) s = .next t ∧ t.get HOLD.ATOM_STATUS_LOCK = leAt p 0 1 % 8 ∧ t.get HOLD.ATOM_TEMP = beNat ((p.drop 3).take 2) ∧
      t.hold.atomAt = some s.mono ∧
      (s.get HOLD.ATOM_STATUS_STATE = 2 → leAt p 0 1 = 2 → t.get HOLD.ATOM_STATUS_STATE = 3) ∧
      (s.get HOLD.ATOM_STATUS_STATE = 3 → leAt p 0 1 = 4 → t.get HOLD.ATOM_STATUS_STATE = 4) ∧
      Only [.hold, .ref] (regBlock 0x110000 0x130000) s t) ∧
  (∀ (s : State) (f p : List Byte) (r : SteerOut), s.inReset = false → s.flag HOLD.ATOM_CFG_ENABLE = true → s.oscBad = false → atomParse f = some (0x83, p) → s.hold.steer = some r → r.seq = leAt p 0 1 →
    ∃ t, exec (.steerAck f) s = .next t ∧ t.hold.steer = none ∧
      (if leAt p 6 1 ≤ 1 then t.hold.pullDue = some (toS 40 (beNat ((p.drop 1).take 5))) ∧
          t.get HOLD.OFFLOAD_CNT = min (s.get HOLD.OFFLOAD_CNT + 1) (2 ^ 48 - 1)
        else t.hold.refused = true ∧ t.get HOLD.OFFLOAD_CNT = s.get HOLD.OFFLOAD_CNT) ∧
      Only [.hold] [HOLD.OFFLOAD_CNT] s t) ∧
  (∀ (s : State) (f : List Byte), s.inReset = false → s.flag HOLD.ATOM_CFG_ENABLE = true → atomParse f = none →
    ∃ t, exec (.atomBadFrame f) s = .next t ∧ t.get HOLD.ATOM_BAD_CNT = min (s.get HOLD.ATOM_BAD_CNT + 1) (2 ^ 48 - 1) ∧
      Keeps [HOLD.ATOM_BAD_CNT] s t) ∧
  (∀ s : State, s.inReset = false → s.get HOLD.ATOM_STATUS_STATE = 1 → s.hold.identTries < 5 → s.flag HOLD.ATOM_CFG_ENABLE = true → s.reaches (s.hold.identAt + (secU : Nat)) = true →
    ∃ t, exec .atomIdentRetry s = .next t ∧ Out.atom (s.get HOLD.ATOM_CFG_BAUD * 100) (atomBytes 0x01 []) ∈ t.out ∧
      Keeps [] { s with hold := { s.hold with identTries := s.hold.identTries + 1, identAt := s.mono } } t) ∧
  (∀ s : State, s.inReset = false → s.get HOLD.ATOM_STATUS_STATE = 1 → 5 ≤ s.hold.identTries → s.reaches (s.hold.identAt + (secU : Nat)) = true →
    ∃ t, exec .atomIdentRetry s = .next t ∧ t.get HOLD.ATOM_STATUS_STATE = 5 ∧ Keeps [HOLD.ATOM_STATUS_STATE] s t) ∧
  (∀ s : State, s.inReset = false → s.get HOLD.ATOM_STATUS_STATE ≠ 0 → s.reaches (s.hold.statusAt + (3 * secU : Nat)) = true →
    ∃ t, exec .atomStatusTimeout s = .next t ∧ t.get HOLD.ATOM_STATUS_STATE = 0 ∧ Only [.hold, .ref] (regBlock 0x110000 0x130000) s t) ∧
  (∀ (s : State) (r : SteerOut), s.inReset = false → s.hold.steer = some r → r.tries < 2 → s.flag HOLD.ATOM_CFG_ENABLE = true → s.reaches (r.sentAt + (secU / 2 : Nat)) = true →
    ∃ t, exec .atomSteerTimeout s = .next t ∧ Out.atom (s.get HOLD.ATOM_CFG_BAUD * 100) (atomBytes 0x02 (leBytes 1 r.seq ++ beBytes 5 (ofS 40 r.freq))) ∈ t.out ∧
      Keeps [] { s with hold := { s.hold with steer := some { r with tries := r.tries + 1, sentAt := s.mono } } } t) ∧
  (∀ (s : State) (r : SteerOut), s.inReset = false → s.hold.steer = some r → 2 ≤ r.tries → s.reaches (r.sentAt + (secU / 2 : Nat)) = true →
    ∃ t, exec .atomSteerTimeout s = .next t ∧ t.get HOLD.ATOM_STEER_FAIL_CNT = min (s.get HOLD.ATOM_STEER_FAIL_CNT + 1) (2 ^ 48 - 1) ∧
      Keeps [HOLD.ATOM_STEER_FAIL_CNT] { s with hold := { s.hold with steer := none } } t)

/-- Each kind of deckle entry acts: completion, with effects from chapter 2 and frames. From spec/02_sheets_deckles_moulds.md, Deckle entries;
spec/12_ptp_service.md, Placed sends; spec/13_ntp_nts_service.md, The reply path. It rests on readings and choices of the model: log entries 85,
102. -/
def Obligations.DeckleEntriesComplete : Prop :=
  (∀ (s : State) (i : Nat) (f : Fetched), s.inReset = false → s.running = true → (s.fetchEntry i).1 = some f → f.entry.op = 0 → s.tickRuns f.entry.tick = true →
    ∃ t, exec (.deckleNop i) s = .next t ∧ t.sheet.cursor = i + 1 ∧ t.time.edge = s.time.edge ∧ Only [.time, .sheet] timeFields s t) ∧
  (∀ (s : State) (i : Nat) (f : Fetched) (x : SchedFrame), s.inReset = false → s.running = true → (s.fetchEntry i).1 = some f → f.entry.op = 1 →
    s.tickRuns f.entry.tick = true → s.aloneAt i f.entry.tick = true → s.mac.skipped.contains i = false → s.mac.sched.find? (fun y => y.entry == i) = some x → x.cancels = none →
    s.get (MAC.PORT_CFG_RATE x.port) ≠ 3 → s.get (MAC.PORT_STATUS_LINK x.port) = 2 → s.mayLaunch x.port f.entry.tc x.launch (x.bytes.length + 4) = true →
    ∃ t, exec (.deckleSendPtp i) s = .next t ∧ t.sheet.cursor = i + 1 ∧ Out.frame x.port x.launch x.bytes ∈ t.out ∧ t.mac.sched = s.mac.sched.erase x ∧
      Only [.time, .mac, .sheet] (MAC.TX_SCHED x.port :: timeFields) s t) ∧
  (∀ (s : State) (i : Nat) (f : Fetched), s.inReset = false → s.running = true → (s.fetchEntry i).1 = some f → f.entry.op = 2 →
    s.tickRuns f.entry.tick = true → s.aloneAt i f.entry.tick = true → servingMode s.execMode = true →
    s.paused f.entry.port (s.launchAt f.entry.port f.entry.tick) = true ∨
      (s.port f.entry.port).replies.find? (fun r => r.fits (s.launchAt f.entry.port f.entry.tick) (bits f.entry.opa 0 11)) = none →
    ∃ t, exec (.deckleReplySlot i) s = .next t ∧ t.sheet.cursor = i + 1 ∧ Only [.time, .mac, .sheet] timeFields s t) ∧
  (∀ (s : State) (i : Nat) (f : Fetched) (r : Reply) (m : NtpMsg), s.inReset = false → s.running = true → (s.fetchEntry i).1 = some f → f.entry.op = 2 →
    s.tickRuns f.entry.tick = true → s.aloneAt i f.entry.tick = true → servingMode s.execMode = true → s.paused f.entry.port (s.launchAt f.entry.port f.entry.tick) = false →
    (s.port f.entry.port).replies.find? (fun r => r.fits (s.launchAt f.entry.port f.entry.tick) (bits f.entry.opa 0 11)) = some r →
    s.flag SHEET.SHEET_STATUS_THIN = false → r.body = .ntp m → r.cls < 5 → s.key.fails = none ∨ m.kind ≠ 1 → (s.charge r.cls 440).isSome = true →
    ∃ t, exec (.deckleReplySlot i) s = .next t ∧ t.sheet.cursor = i + 1 ∧ (∀ q ∈ (t.port f.entry.port).replies, q ∈ (s.port f.entry.port).replies) ∧
      t.get (ntpCount m.kind) = min (s.get (ntpCount m.kind) + 1) (2 ^ 48 - 1) ∧ Only [.time, .mac, .sheet, .key] (replyFields ++ timeFields) s t) ∧
  (∀ (s : State) (i : Nat) (f : Fetched), s.inReset = false → s.running = true → (s.fetchEntry i).1 = some f → f.entry.op = 3 →
    s.tickRuns f.entry.tick = true → s.vatc.poison = [] → s.vatMay 0 (bufAddr f.buf + (0x30 + 8 * f.entry.port)) 8 false = true →
    s.vatMay 0 (bufAddr f.buf + (leAt (s.vat.reads (bufAddr f.buf + (0x30 + 8 * f.entry.port)) 8) 0 4 + 4 * bits f.entry.opa 0 10)) 4 false = true →
    ∃ t, exec (.deckleGate i) s = .next t ∧ t.sheet.cursor = i + 1 ∧ t.get (MAC.GATE_STATE f.entry.port) = leAt (s.vat.reads (bufAddr f.buf +
        (leAt (s.vat.reads (bufAddr f.buf + (0x30 + 8 * f.entry.port)) 8) 0 4 + 4 * bits f.entry.opa 0 10)) 4) 0 1 ∧
      Only [.time, .sheet] (MAC.GATE_STATE f.entry.port :: timeFields) s t) ∧
  (∀ (s : State) (i : Nat) (f : Fetched), s.inReset = false → s.running = true → (s.fetchEntry i).1 = some f → f.entry.op = 4 →
    s.tickRuns f.entry.tick = true →
    ∃ t, exec (.deckleStrobe i) s = .next t ∧ t.sheet.cursor = i + 1 ∧
      t.get (TIME.EVT_CNT (f.entry.opa % 16)) = min (s.get (TIME.EVT_CNT (f.entry.opa % 16)) + 1) (2 ^ 48 - 1) ∧
      (t.out.take (t.out.length - s.out.length)).any (fun x => match x with
        | .strobe n _ w pin lb => n == f.entry.opa % 16 && w == bits f.entry.opb 0 24 && pin == !(strobePinHeld s.mode) && lb == (s.flag (TIME.EVT_CFG_LOOPBACK n) || s.get (TDC.CH_CFG_SRC (32 + n)) == 1)
        | _ => false) = true ∧
      Only [.time, .sheet] ([TIME.EVT_CNT (f.entry.opa % 16), TIME.STROBE_OVL_CNT, TIME.EVT_STAT_LEVEL (f.entry.opa % 16)] ++ timeFields) s t) ∧
  (∀ (s : State) (i : Nat) (samples : List Nat) (f : Fetched), s.inReset = false → s.running = true → (s.fetchEntry i).1 = some f → f.entry.op = 5 →
    s.tickRuns f.entry.tick = true → s.vatc.poison = [] → s.vatMay 0 (bufAddr f.buf + (f.hdr.loopOff + 16 * bits f.entry.opa 0 16)) 16 false = true →
    leAt (s.vat.reads (bufAddr f.buf + (f.hdr.loopOff + 16 * bits f.entry.opa 0 16)) 16) 0 1 = 2 → bits f.entry.opa 16 8 < 4 →
    ∃ t, exec (.deckleNcoHop i samples) s = .next t ∧ t.sheet.cursor = i + 1 ∧ t.geti (SYN.CAL_PHASE_PEND (bits f.entry.opa 16 8)) =
        satS 32 (s.geti (SYN.CAL_PHASE_PEND (bits f.entry.opa 16 8)) +
          toS 64 (leAt (s.vat.reads (bufAddr f.buf + (f.hdr.loopOff + 16 * bits f.entry.opa 0 16)) 16) 8 8)) ∧
      Only [.time, .sheet] (SYN.CAL_PHASE_PEND (bits f.entry.opa 16 8) :: timeFields) s t) ∧
  (∀ (s : State) (i : Nat) (samples : List Nat) (f : Fetched), s.inReset = false → s.running = true → (s.fetchEntry i).1 = some f → f.entry.op = 5 →
    s.tickRuns f.entry.tick = true → s.vatc.poison = [] → s.vatMay 0 (bufAddr f.buf + (f.hdr.loopOff + 16 * bits f.entry.opa 0 16)) 16 false = true →
    leAt (s.vat.reads (bufAddr f.buf + (f.hdr.loopOff + 16 * bits f.entry.opa 0 16)) 16) 0 1 ≤ 1 → bits f.entry.opa 16 8 ≤ 135 →
    s.chState (bits f.entry.opa 16 8) ≠ 0 → s.flag (GNSSC.CH_STAT_RETIRED (bits f.entry.opa 16 8)) = false →
    ∃ t, exec (.deckleNcoHop i samples) s = .next t ∧ t.sheet.cursor = i + 1 ∧ (leAt (s.vat.reads (bufAddr f.buf + (f.hdr.loopOff + 16 * bits f.entry.opa 0 16)) 16) 0 1 = 0 → t.get (GNSSC.CODE_RATE (bits f.entry.opa 16 8)) = ofS 32 (toS 64 (leAt (s.vat.reads (bufAddr f.buf + (f.hdr.loopOff + 16 * bits f.entry.opa 0 16)) 16) 8 8))) ∧
      (leAt (s.vat.reads (bufAddr f.buf + (f.hdr.loopOff + 16 * bits f.entry.opa 0 16)) 16) 0 1 = 1 → t.get (GNSSC.CARR_RATE (bits f.entry.opa 16 8)) = ofS 48 (toS 64 (leAt (s.vat.reads (bufAddr f.buf + (f.hdr.loopOff + 16 * bits f.entry.opa 0 16)) 16) 8 8))) ∧
      Only [.time, .gnss, .sheet] (regBlock 0x80000 0x100000 ++ timeFields) s t) ∧
  (∀ (s : State) (i : Nat) (f : Fetched), s.inReset = false → s.running = true → (s.fetchEntry i).1 = some f → f.entry.op = 6 →
    s.tickRuns f.entry.tick = true → s.aloneAt i f.entry.tick = true → s.hif.marks = [] → (s.charge 3 40).isSome = true → s.hif.eventsDue = [] → s.ringOf 3 = none →
    s.hif.events.length < 4096 →
    s.vatMay 11 (s.evSlot s.hif.events.length) 32 true = true →
    ∃ t, exec (.deckleMark i) s = .next t ∧ t.sheet.cursor = i + 1 ∧ s.hif.events ++ [Desc.event ⟨0x0104, f.entry.tick, (s.time.edge + tickUnits f.entry.tick) % 2 ^ 64,
        s.sheetNo, f.entry.opa, false⟩] <+: t.hif.events ∧ Only [.time, .sheet] timeFields s t)

/-- The sheet edge and the slices of a sheet: completion, with effects from chapters 1 and 2 and frames. From spec/01_architecture.md, The work of a
sheet; spec/02_sheets_deckles_moulds.md, The sheet sequencer; spec/95_what_each_step_holds.md, SHEET_EDGE (R25). It rests on readings and choices
of the model: log entries 8, 10, 30. -/
def Obligations.SlicesComplete : Prop :=
  (∀ (s : State) (e : EdgeIn), s.inReset = false → s.running = true → s.held = [] → s.hif.marks = [] → s.glb.edgeWrites = [] → s.sheetNo + 1 < 2 ^ 64 →
    ∃ t, exec (.sheetEdge e) s = .next t ∧ t.sheetNo = s.sheetNo + 1 ∧ t.running = true ∧ t.inReset = false ∧ t.pending = s.pending ∧ s.out <:+ t.out ∧
      (s.time.steps = [] → s.time.leap = none → s.time.heldLeap = none → t.time.edge = s.time.next ∧ t.time.next = s.time.next + nsU 125000)) ∧
  (∀ (s : State) (d : Int), s.inReset = false → s.running = true →
    ∃ t, exec (.selectionSlice d) s = .next t ∧ t.hold.dieTemp = d ∧ (s.refFrozen = true → t.ref.frozen = s.ref.frozen + 1) ∧
      (s.refFrozen = false → t.ref.frozen = 0) ∧ (s.vat.wf = true → VatSame [(0x07800000, 0x07810000)] s t) ∧
      Only [.time, .ref, .hold, .bound, .vat] (VAT.RMW_CNT :: timeFields ++ TIME.TIME_STATUS_STEP_PENDING :: regBlock 0x110000 0x130000) s t) ∧
  (∀ s : State, s.inReset = false → s.running = true → s.time.slewTerm = 0 →
    ∃ t, exec .controlSlice s = .next t ∧
      t.geti TIME.STEER = clampI (-yMax) yMax (s.geti REFSEL.DPLL_CTRL +
        (if s.residual = 0 then 0 else if 0 < s.residual then -((s.get TIME.SLEW_LIMIT * 1024 : Nat) : Int) else ((s.get TIME.SLEW_LIMIT * 1024 : Nat) : Int))) ∧
      (∀ k ∈ List.range 4, s.flag (SYN.CAL_CTRL_ENABLE k) = true →
        t.geti (SYN.CAL_PHASE_PEND k) = s.geti (SYN.CAL_PHASE_PEND k) -
          clampI (-((s.get (SYN.CAL_PSTEP_RATE k) : Nat) : Int)) (s.get (SYN.CAL_PSTEP_RATE k)) (s.geti (SYN.CAL_PHASE_PEND k))) ∧
      (∀ k ∈ List.range 4, k < s.syn.calY.length → nth t.syn.calY k 0 = (if s.flag (SYN.CAL_CTRL_STEER k) then t.geti TIME.STEER else 0)) ∧
      Only [.time, .syn] (timeFields ++ (List.range 4).flatMap (fun k => [SYN.CAL_PHASE k, SYN.CAL_PHASE_PEND k])) s t) ∧
  (∀ s : State, s.inReset = false → s.running = true →
    ∃ t, exec .boundSlice s = .next t ∧ t.bound.hadSel = s.selSlot.isSome ∧
      (s.get REFSEL.REFSEL_STATUS_CLOCK_STATE = 4 → t.get BOUND.BOUND_TIME = boundMax) ∧
      (s.get REFSEL.REFSEL_STATUS_CLOCK_STATE ≠ 3 → s.selSlot = none → t.get BOUND.BOUND_SRC = 0) ∧
      (s.bound.heldMark = none → t.bound.marks.length = 8) ∧ Only [.time, .bound] (timeFields ++ regBlock 0x140000 0x150000) s t) ∧
  (∀ s : State, s.inReset = false → s.running = true → s.activeBuf = none →
    ∃ t, exec .finaliseSlice s = .next t ∧ t.mac.sched = [] ∧ t.mac.skipped = [] ∧ Only [.time, .mac] timeFields s t) ∧
  (∀ (s : State) (ovr late : Bool), s.inReset = false → s.running = true → s.flag COUCH.PAIR_CFG_EN = false →
    ∃ t, exec (.closeSlice ovr late) s = .next t ∧ t.flt.sheetLate = late ∧ t.sheet = { s.sheet with overrun := ovr && s.unfinished } ∧
      t.get SHEET.OVERRUN_CNT = min (s.get SHEET.OVERRUN_CNT + if ovr && s.unfinished then 1 else 0) (2 ^ 48 - 1) ∧
      (∀ w ∈ t.held, ∃ v ∈ s.held, w = { v with age := v.age + 1 }) ∧
      Only [.time, .sheet, .flt, .held, .hif, .mac] (timeFields ++ [SHEET.OVERRUN_CNT, SHEET.CARRY_DROP_CNT, SHEET.SHEET_STATUS_CARRYING] ++
        regBlock 0x180000 0x1A0000 ++ [PTP.NEG_PENDING]) s t)

/-- The end of a mould load and the target of a strobe: completion, with effects from chapters 2 and 3 and frames. From
spec/02_sheets_deckles_moulds.md, Loading and checking a mould; spec/03_time_base.md, Event strobes. It rests on readings and choices of the
model: log entries 9. -/
def Obligations.LoadsAndTargetsComplete : Prop :=
  (∀ (s : State) (buf : Nat) (d : DmaIn) (r : MouldRun), s.inReset = false → s.loadOf buf = some r → (s.charge 3 ((((r.bytes d).length + 63) / 64) * 14)).isSome = true →
    512 ≤ r.len → r.len ≤ 8388608 → d.ok = true → r.len ≤ d.bytes.length → s.vatMay 11 (bufAddr buf) r.len true = true → r.len % 8 = 0 → buf ≤ 1 →
    ∃ t, exec (.mouldLoadDone buf d) s = .next t ∧ t.vat.reads (bufAddr buf) r.len = d.bytes.take r.len ∧ t.loadOf buf = none ∧
      (∀ c ∈ mouldReason ((List.range 8).map (fun p => s.get (MAC.PORT_CFG_RATE p))) (d.bytes.take r.len) r.len,
        t.get (stateFld buf) = 0 ∧ t.get SHEET.LOAD_REASON = c ∧ t.get (mouldIdFld buf) = s.get (mouldIdFld buf)) ∧
      (mouldReason ((List.range 8).map (fun p => s.get (MAC.PORT_CFG_RATE p))) (d.bytes.take r.len) r.len = none →
        t.get (stateFld buf) = 2 ∧ t.get (mouldIdFld buf) = leAt d.bytes 0x10 8 ∧ t.get SHEET.LOAD_REASON = s.get SHEET.LOAD_REASON) ∧
      VatSame [(bufAddr buf, bufAddr buf + r.len)] s t ∧ Only [.vat, .sheet] [stateFld buf, mouldIdFld buf, SHEET.LOAD_REASON] s t) ∧
  (∀ (s : State) (buf : Nat) (d : DmaIn) (r : MouldRun), s.inReset = false → s.loadOf buf = some r →
    (s.charge 3 ((((r.bytes d).length + 63) / 64) * 14)).isSome = true → r.len < 512 ∨ 8388608 < r.len ∨ d.ok = false ∨ d.bytes.length < r.len → buf ≤ 1 →
    ∃ t, exec (.mouldLoadDone buf d) s = .next t ∧ t.loadOf buf = none ∧ t.get (stateFld buf) = 0 ∧
      t.get SHEET.LOAD_REASON = (if r.len < 512 ∨ 8388608 < r.len then 0x01 else 0x0B) ∧ s.vat = t.vat ∧
      Only [.sheet] [stateFld buf, SHEET.LOAD_REASON, HIF.DMA_ERR_CNT] s t) ∧
  (∀ (s : State) (n u w : Nat), s.inReset = false → n ≤ 15 → s.nextPulse n = some (u, w, true) →
    ∃ t, exec (.strobeTarget n) s = .next t ∧ t.time.pulses.length + 1 = s.time.pulses.length ∧ (∀ p ∈ t.time.pulses, p ∈ s.time.pulses) ∧
      t.time.series = s.time.series ∧ t.get (TIME.EVT_CNT n) = min (s.get (TIME.EVT_CNT n) + 1) (2 ^ 48 - 1) ∧
      Only [.time] ([TIME.EVT_CNT n, TIME.STROBE_OVL_CNT, TIME.EVT_STAT_LEVEL n] ++ timeFields) s t) ∧
  (∀ (s : State) (n u w : Nat) (p : Series), s.inReset = false → n ≤ 15 → s.nextPulse n = some (u, w, false) → nth s.time.series n none = some p →
    s.time.series.length = 16 →
    ∃ t, exec (.strobeTarget n) s = .next t ∧ u = p.first + p.next * p.period ∧ w = p.width ∧ t.time.pulses = s.time.pulses ∧
      nth t.time.series n none = (if p.count ≠ 0 ∧ p.count ≤ p.next + 1 then none else some { p with next := p.next + 1 }) ∧
      t.get (TIME.EVT_CNT n) = min (s.get (TIME.EVT_CNT n) + 1) (2 ^ 48 - 1) ∧
      Only [.time] ([TIME.EVT_CNT n, TIME.STROBE_OVL_CNT, TIME.EVT_STAT_LEVEL n, TIME.EVT_STAT_PERIODIC n] ++ timeFields) s t)

/-- Ports are sized, their modules read and written, and their links go up and down: completion, with effects from chapter 11 and frames. From
spec/11_ethernet_ports.md, Pluggable modules and link state; spec/11_ethernet_ports.md, Sizing the port delays. It rests on readings and choices
of the model: log entries 73, 75, 76, 80. -/
def Obligations.ModuleCommandsComplete : Prop :=
  (∀ (s : State) (h : Hdr) (p : Nat), s.Accepts h false 0 → s.mode = 1 → p ≤ 7 → (s.port p).sizing = none → s.mac.ports.length = 8 →
    ∃ t, exec (.portSize h p) s = .next t ∧ t.get (MAC.PORT_STATUS_LINK p) = 0 ∧ (t.port p).sizing = some h ∧ Only [.mac] (linkFields p) s t) ∧
  (∀ (s : State) (p trip : Nat) (h : Hdr), s.inReset = false → p ≤ 7 → (s.port p).sizing = some h → s.mac.ports.length = 8 →
    ∃ t, exec (.portSizeDone p trip) s = .next t ∧ (t.port p).sizing = none ∧ s.siz.due <+: t.siz.due ∧ t.siz.due.length = s.siz.due.length + 1 ∧
      (t.siz.due.drop s.siz.due.length).all (fun x => match x with
        | .load o i a b => o == h.origin && i == 0x100 + p && a == s.taiSec && (leAt b 0 4 + leAt b 4 4) % 2 ^ 32 == ofS 32 (roundQ (psU (trip : Rat)))
        | .restore _ _ => false) = true ∧
      Only [.mac, .siz] (linkFields p) s t) ∧
  (∀ (s : State) (h : Hdr) (p : Nat) (tx rx : Int) (u : Nat), s.Accepts h false 0 → s.mode = 1 → p ≤ 7 →
    ∃ t, exec (.portExtSet h p tx rx u) s = .next t ∧
      Keeps [] { s with siz := { s.siz with due := s.siz.due ++ [.load h.origin (0x100 + p) s.taiSec
        (portBody [s.portSize p 0, s.portSize p 1, tx, rx] [(s.portSize p 4).toNat, u])] } } t) ∧
  (∀ (s : State) (h : Hdr) (p dev off len addr : Nat), s.Accepts h true (dmaStock len) → p ≤ 7 → 0 < len → len ≤ 256 → s.get (MAC.PORT_STATUS_MOD_STATE p) = 2 →
    ∃ t, exec (.modRead h p dev off len addr) s = .next t ∧
      Keeps [] (s.setPort p { s.port p with mods := (s.port p).mods ++ [⟨h, dev, off, some (addr, len), []⟩] }) t) ∧
  (∀ (s : State) (h : Hdr) (p dev off : Nat) (b : List Byte), s.Accepts h false 0 → p ≤ 7 → 0 < b.length → b.length ≤ 8 → s.get (MAC.PORT_STATUS_MOD_STATE p) = 2 →
    ∃ t, exec (.modWrite h p dev off b) s = .next t ∧
      Keeps [] (s.setPort p { s.port p with mods := (s.port p).mods ++ [⟨h, dev, off, none, b⟩] }) t) ∧
  (∀ (s : State) (p : Nat) (ok : Bool) (b : List Byte) (m : ModOp) (ms : List ModOp), s.inReset = false → (s.port p).mods = m :: ms → m.rd = none →
    ∃ t, exec (.modTransferDone p ok b) s = .next t ∧ (ok = true → Out.module p m.dev m.off m.data ∈ t.out) ∧
      Keeps [] (s.setPort p { s.port p with mods := ms }) t) ∧
  (∀ (s : State) (p : Nat) (b : List Byte) (m : ModOp) (ms : List ModOp) (addr : Nat), s.inReset = false → (s.port p).mods = m :: ms →
    m.rd = some (addr, b.length) → m.cmd.origin ≠ .mspi → m.cmd.dmaOk = true → rangeOk m.cmd addr b.length = true →
    ∃ t, exec (.modTransferDone p true b) s = .next t ∧ Out.hostWrite addr b ∈ t.out ∧ Keeps [] (s.setPort p { s.port p with mods := ms }) t) ∧
  (∀ (s : State) (h : Hdr) (p : Nat), s.Accepts h false 0 → p ≤ 7 → s.get (MAC.PORT_STATUS_MOD_STATE p) = 3 →
    ∃ t, exec (.modRescan h p) s = .next t ∧ t.get (MAC.PORT_STATUS_MOD_STATE p) = 1 ∧
      Keeps [MAC.PORT_STATUS_MOD_STATE p] (s.setPort p { s.port p with reads := 0 }) t) ∧
  (∀ (s : State) (p : Nat), s.inReset = false → p ≤ 7 → s.get (MAC.PORT_STATUS_MOD_STATE p) = 0 →
    ∃ t, exec (.modPrsChange p false) s = .next t ∧ t.get (MAC.PORT_STATUS_MOD_STATE p) = 1 ∧
      Keeps [MAC.PORT_STATUS_MOD_STATE p] (s.setPort p { s.port p with reads := 0 }) t) ∧
  (∀ (s : State) (p : Nat), s.inReset = false → p ≤ 7 → s.get (MAC.PORT_STATUS_MOD_STATE p) ≠ 0 → s.mac.ports.length = 8 →
    ∃ t, exec (.modPrsChange p true) s = .next t ∧ t.get (MAC.PORT_STATUS_MOD_STATE p) = 0 ∧ t.get (MAC.PORT_STATUS_LINK p) = 0 ∧
      (t.port p).mods = [] ∧ (t.port p).ident = [] ∧ Only [.mac] (linkFields p) s t) ∧
  (∀ (s : State) (p : Nat) (b : List Byte), s.inReset = false → p ≤ 7 → s.get (MAC.PORT_STATUS_MOD_STATE p) = 1 → identOk b = true → s.mac.ports.length = 8 →
    ∃ t, exec (.moduleReadDone p true b) s = .next t ∧ t.get (MAC.PORT_STATUS_MOD_STATE p) = 2 ∧ t.get (MAC.MOD_INFO_IDENT p) = leAt b 0 1 ∧
      t.get (MAC.MOD_INFO_EXT_IDENT p) = leAt b 1 1 ∧ t.get (MAC.MOD_INFO_CONNECTOR p) = leAt b 2 1 ∧ (t.port p).ident = b ∧
      Only [.mac] ([MAC.MOD_INFO_IDENT p, MAC.MOD_INFO_EXT_IDENT p, MAC.MOD_INFO_CONNECTOR p] ++ linkFields p) s t) ∧
  (∀ (s : State) (p : Nat) (b : List Byte), s.inReset = false → p ≤ 7 → s.get (MAC.PORT_STATUS_MOD_STATE p) = 1 → (s.port p).reads < 2 →
    ∃ t, exec (.moduleReadDone p false b) s = .next t ∧ Keeps [] (s.setPort p { s.port p with reads := (s.port p).reads + 1 }) t) ∧
  (∀ (s : State) (p : Nat) (b : List Byte), s.inReset = false → p ≤ 7 → s.get (MAC.PORT_STATUS_MOD_STATE p) = 1 → 2 ≤ (s.port p).reads →
    s.flag (MAC.MOD_CTRL_FIXED p) = false →
    ∃ t, exec (.moduleReadDone p false b) s = .next t ∧ t.get (MAC.PORT_STATUS_MOD_STATE p) = 3 ∧
      Keeps [MAC.PORT_STATUS_MOD_STATE p] (s.setPort p { s.port p with reads := 0 }) t) ∧
  (∀ (s : State) (p : Nat), s.inReset = false → p ≤ 7 → s.get (MAC.PORT_STATUS_LINK p) = 1 → s.get (MAC.PORT_STATUS_MOD_STATE p) = 2 →
    ∃ t, exec (.portLinkUp p) s = .next t ∧ t.get (MAC.PORT_STATUS_LINK p) = 2 ∧ t.flag (MAC.PORT_STATUS_FEC_LOCK p) = (s.flag (MAC.PORT_CFG_FEC p) && s.get (MAC.PORT_CFG_RATE p) == 0) ∧
      Only [.mac] [MAC.PORT_STATUS_LINK p, MAC.PORT_STATUS_FEC_LOCK p, NTS.ARP_ANS_CNT, NTS.ND_ANS_CNT] s t) ∧
  (∀ (s : State) (p : Nat), s.inReset = false → p ≤ 7 → s.get (MAC.PORT_STATUS_LINK p) = 2 → s.mac.ports.length = 8 →
    ∃ t, exec (.portLinkDown p) s = .next t ∧ t.get (MAC.PORT_STATUS_LINK p) = 1 ∧ (t.port p).replies = [] ∧ (t.port p).unsched = [] ∧
      t.get (MAC.LINK_DOWN_CNT p) = min (s.get (MAC.LINK_DOWN_CNT p) + 1) (2 ^ 48 - 1) ∧ Only [.mac] (linkFields p) s t)

/-- Client records are set, read, deleted and aged: completion, with effects from chapter 12 and frames. From spec/12_ptp_service.md, Client records;
spec/12_ptp_service.md, Ageing; spec/12_ptp_service.md, Commands. It rests on readings and choices of the model: log entries 90, 92. -/
def Obligations.ClientCommandsComplete : Prop :=
  (∀ (s : State) (h : Hdr) (n addr : Nat) (d : DmaIn) (b : List Byte), s.Accepts h false (dmaStock 64) → s.mode ≠ 5 → n < 1048576 → s.vatc.poison = [] →
    (h.origin = .mspi → addr + 64 ≤ mbWindow) → s.dataIn h addr 64 d = some b → (Client.ofBytes b).transport ≠ 3 →
    ((Client.ofBytes b).dual = true → s.flag (PTP.FLOW_CFG_EN (Client.ofBytes b).flow) = true) →
    ((Client.ofBytes b).valid = true → ∀ q ∈ (s.findRec (Client.ofBytes b).port (Client.ofBytes b).transport (Client.ofBytes b).addr (Client.ofBytes b).portId).1, q.1 = n) →
    ∃ t, exec (.clientSet h n addr d) s = .next t ∧ Keeps [] { s with ptp := { s.ptp with due := s.ptp.due ++ [.image n b] } } t) ∧
  (∀ (s : State) (h : Hdr) (n addr : Nat), s.Accepts h true (dmaStock 64) → n < 1048576 → s.vatc.poison = [] → s.vatMay 11 (64 * n) 64 false = true →
    h.origin ≠ .mspi → h.dmaOk = true →
    ∃ t, exec (.clientRead h n addr) s = .next t ∧ Out.hostWrite addr (s.vat.reads (64 * n) 64) ∈ t.out ∧ Keeps [] s t) ∧
  (∀ (s : State) (h : Hdr) (n : Nat), s.Accepts h false 0 → s.mode ≠ 5 → n < 1048576 → s.vatc.poison = [] → (s.getRec n).1.valid = true →
    ∃ t, exec (.clientDel h n) s = .next t ∧ Keeps [] { s with ptp := { s.ptp with due := s.ptp.due ++ [.del n] } } t) ∧
  (∀ (s : State) (n : Nat), s.inReset = false → n < 1048576 → s.vatc.poison = [] → s.vat.wf = true → s.vatMay 7 (64 * n) 64 true = true →
    s.ptp.cancels.any (fun q => q.1 == n && s.reaches (q.2 + (2 * secU : Nat))) = true → (s.getRec n).1.valid = true →
    ∃ t, exec (.clientDelTimeout n) s = .next t ∧ (Client.ofBytes (t.vat.reads (64 * n) 64)).valid = false ∧
      t.ptp.cancels = s.ptp.cancels.filter (fun q => q.1 != n) ∧
      VatSame [(64 * n, 64 * n + 64), (0x07000000, 0x07800000), (mapAddr, mapAddr + 131072)] s t ∧ Only [.vat, .ptp] clientFields s t) ∧
  (∀ (s : State) (n : Nat), s.inReset = false → n < 1048576 → s.mode ≠ 5 → s.couch.handing = false → (s.charge 4 10).isSome = true →
    s.vatc.poison = [] → s.vat.wf = true → s.vatMay 7 (64 * n) 64 true = true → (s.getRec n).1.valid = true → (s.getRec n).1.pinned = false →
    s.anyLive (s.getRec n).1 = false → s.get PTP.GRANT_CFG_AGE_S ≤ (s.taiSec + 65536 - (s.getRec n).1.seen) % 65536 →
    ∃ t, exec (.ageingVisit n) s = .next t ∧ (Client.ofBytes (t.vat.reads (64 * n) 64)).valid = false ∧
      t.get PTP.CLIENT_AGED_CNT = min (s.get PTP.CLIENT_AGED_CNT + 1) (2 ^ 48 - 1) ∧
      VatSame [(64 * n, 64 * n + 64), (0x07000000, 0x07800000), (mapAddr, mapAddr + 131072)] s t ∧
      Only [.vat, .ptp] (PTP.CLIENT_AGED_CNT :: clientFields) s t)

/-- Master key generations are rotated, retired and aged, and cookies minted: completion, with effects from chapter 13 and frames. From
spec/13_ntp_nts_service.md, Master key generations; spec/13_ntp_nts_service.md, Cookies. It rests on readings and choices of the model: log
entries 113, 116, 117. -/
def Obligations.NtsCommandsComplete : Prop :=
  (∀ (s : State) (h : Hdr) (g slot id : Nat), s.Accepts h false 0 → s.mode ≠ 5 → g ≤ 3 → s.get (NTS.NTS_GEN_STATE g) ≠ 1 → s.get (NTS.NTS_GEN_STATE g) ≠ 2 →
    s.nts.change = none → (∀ e ∈ List.range 4, e ≠ g → s.get (NTS.NTS_GEN_STATE e) = 0 ∨ s.get (NTS.NTS_KEYID e) ≠ id) →
    (s.keySlot slot).usable = true → (s.keySlot slot).alg = 3 →
    ∃ t, exec (.ntsRotate h g slot id) s = .next t ∧ t.flag NTS.NTS_STATUS_CHANGE_PENDING = true ∧
      Keeps [NTS.NTS_STATUS_CURRENT_VALID, NTS.NTS_STATUS_CURRENT_GEN, NTS.NTS_STATUS_CHANGE_PENDING]
        { s with nts := { s.nts with change := some (.rotate h.origin g slot id) } } t) ∧
  (∀ (s : State) (h : Hdr) (g : Nat), s.Accepts h false 0 → s.mode ≠ 5 → g ≤ 3 → s.get (NTS.NTS_GEN_STATE g) = 1 ∨ s.get (NTS.NTS_GEN_STATE g) = 2 →
    s.nts.change = none →
    ∃ t, exec (.ntsRetire h g) s = .next t ∧ t.flag NTS.NTS_STATUS_CHANGE_PENDING = true ∧
      Keeps [NTS.NTS_STATUS_CURRENT_VALID, NTS.NTS_STATUS_CURRENT_GEN, NTS.NTS_STATUS_CHANGE_PENDING]
        { s with nts := { s.nts with change := some (.retire h.origin g) } } t) ∧
  (∀ (s : State) (h : Hdr) (count g : Nat) (erase : Bool) (keyAddr cookieAddr : Nat) (d : DmaIn) (b : List Byte),
    s.Accepts h true (300 + 250 * min count 8 + dmaStock 68 + dmaStock (104 * min count 8)) → 0 < count → count ≤ 8 → h.origin ≠ .mspi → h.dmaOk = true →
    s.dataIn h keyAddr 68 d = some b → beAt b 0 2 = 15 → s.key.fails = none → s.currentGen = some g → (s.keySlot (s.genSlot g)).usable = true →
    (s.keySlot (s.genSlot g)).counted = false ∨ count ≤ (s.keySlot (s.genSlot g)).uses →
    ∃ t, exec (.mintCookie h count erase keyAddr cookieAddr d) s = .next t ∧
      t.get NTS.MINT_CNT = min (s.get NTS.MINT_CNT + count) (2 ^ 48 - 1) ∧ (erase = true → Out.hostWrite keyAddr (List.replicate 68 0) ∈ t.out) ∧
      t.out.any (fun x => match x with
        | .hostWrite a c => a == cookieAddr && c.length == 104 * count && beAt c 0 4 == s.get (NTS.NTS_KEYID g) % 2 ^ 32
        | _ => false) = true ∧
      Only [.key, .nts] ([NTS.MINT_CNT, KEY.OPS_CNT] ++ slotFields (s.genSlot g)) s t) ∧
  (∀ (s : State) (g : Nat), s.inReset = false → g < 4 → s.get (NTS.NTS_GEN_STATE g) = 2 →
    s.reaches ((s.gen g).acceptAt + (s.get NTS.ACCEPT_S * secU : Nat)) = true →
    ∃ t, exec (.ntsGenAgeExpire g) s = .next t ∧ t.get (NTS.NTS_GEN_STATE g) = 3 ∧ t.get (NTS.NTS_AGE g) = s.get NTS.ACCEPT_S ∧
      (s.nts.gens.length = 4 → (t.gen g).nonceKey = none) ∧
      Only [.nts] [NTS.NTS_GEN_STATE g, NTS.NTS_AGE g, NTS.NTS_STATUS_CURRENT_VALID, NTS.NTS_STATUS_CURRENT_GEN, NTS.NTS_STATUS_CHANGE_PENDING] s t)

/-- Keys are staged, committed, derived, invalidated and described: completion, with effects from chapter 14 and frames. From
spec/14_keys_and_authentication.md, Writing a key; spec/14_keys_and_authentication.md, Derivation; spec/14_keys_and_authentication.md,
Invalidation and staleness. It rests on readings and choices of the model: log entries 121, 122, 124. -/
def Obligations.KeyCommandsComplete : Prop :=
  (∀ (s : State) (h : Hdr) (a : DeriveArgs), s.Accepts h false (dmaStock 64 + 1500) → h.origin = .pf0 → s.getT KEY.KEY_CTRL_DERIVE_EN ≠ 0 →
    s.flag KEY.KEY_STATUS_TAMPER = false → s.key.work = none → (s.keySlot a.parent).usable = true → s.deriveOk a = true →
    ∃ t, exec (.keyDerive h a) s = .next t ∧ t.flag KEY.KEY_STATUS_BUSY = true ∧
      (∀ w ∈ t.key.work, w.slot = a.child ∧ w.new.mat = kdf (s.keySlot a.parent).mat a.label a.context ∧ w.new.depth = (s.keySlot a.parent).depth + 1 ∧
        w.new.keyId = a.keyId ∧ w.new.parent = a.parent ∧ w.done = false) ∧ t.key.work.isSome = true ∧
      t.get KEY.OPS_CNT = min (s.get KEY.OPS_CNT + 1) (2 ^ 48 - 1) ∧ Only [.key] (KEY.KEY_STATUS_BUSY :: KEY.OPS_CNT :: slotFields a.parent) s t) ∧
  (∀ (s : State) (h : Hdr) (slot : Nat), s.Accepts h false (0 + 150) → slot ≤ 255 → (s.keySlot slot).state ≠ 0 →
    ∃ t, exec (.keyInvalidate h slot) s = .next t ∧ Keeps [] { s with key := { s.key with inval := s.key.inval ++ [(slot, h.origin)] } } t) ∧
  (∀ (s : State) (h : Hdr) (first count addr : Nat), s.Accepts h true (0 + (150 + dmaStock (16 * count))) → 0 < count → first + count ≤ 256 →
    h.origin ≠ .mspi → h.dmaOk = true →
    ∃ t, exec (.keyInfo h first count addr) s = .next t ∧
      Out.hostWrite addr ((List.range count).flatMap (fun i => (s.keySlot (first + i)).bytes)) ∈ t.out ∧ Keeps [] s t) ∧
  (∀ (s : State) (h : Hdr), s.Accepts h false 0 → s.mode = 0 → s.key.trigger = false →
    ∃ t, exec (.keyTamperClear h) s = .next t ∧ t.flag KEY.KEY_STATUS_TAMPER = false ∧ Keeps [KEY.KEY_STATUS_TAMPER] s t) ∧
  (∀ (s : State) (a v : Nat), s.inReset = false → s.flag KEY.KEY_STATUS_BUSY = false → 0x1C0010 ≤ a → a ≤ 0x1C0040 → a % 4 = 0 →
    ∃ t, exec (.keyStageWrite .pf0 a v) s = .next t ∧ t.get ⟨32 * a, 32, 0⟩ = v % 2 ^ 32 ∧ Only [.glb] (⟨32 * a, 32, 0⟩ :: unlockFlags) s t) ∧
  (∀ (s : State) (a v : Nat), s.inReset = false →
    ∃ t, exec (.keyStageWrite .mspi a v) s = .next t ∧ t.get KEY.KEY_DENY_CNT = min (s.get KEY.KEY_DENY_CNT + 1) (2 ^ 48 - 1) ∧
      Only [.glb] (KEY.KEY_DENY_CNT :: unlockFlags) s t) ∧
  (∀ (s : State) (o : Origin) (v : Nat), s.inReset = false → o ≠ .pf1 → s.flag KEY.KEY_STATUS_BUSY = false → (s.useUnlock o).1 = true → s.commitResult v = 0 →
    (s.charge 3 2000).isSome = true →
    ∃ t, exec (.keyCommit o v) s = .next t ∧ t.get KEY.KEY_STATUS_COMMIT_RESULT = 0 ∧ t.get KEY.COMMIT_CNT = min (s.get KEY.COMMIT_CNT + 1) (2 ^ 48 - 1) ∧
      t.flag KEY.KEY_STATUS_BUSY = true ∧ t.key.work.isSome = true ∧
      (∀ w ∈ t.key.work, w.slot = v % 256 ∧ w.new.mat = s.stagedMat ∧ w.origin = o ∧ w.paid = true ∧ w.done = false) ∧
      Only [.glb, .key] ([KEY.KEY_STATUS_COMMIT_RESULT, KEY.COMMIT_CNT, KEY.KEY_STATUS_BUSY] ++ unlockFlags) s t) ∧
  (∀ (s : State) (o : Origin) (v : Nat), s.inReset = false → o ≠ .pf1 → s.flag KEY.KEY_STATUS_BUSY = false → (s.useUnlock o).1 = true → s.commitResult v ≠ 0 →
    ∃ t, exec (.keyCommit o v) s = .next t ∧ t.get KEY.KEY_STATUS_COMMIT_RESULT = s.commitResult v ∧
      t.get KEY.COMMIT_REFUSE_CNT = min (s.get KEY.COMMIT_REFUSE_CNT + 1) (2 ^ 48 - 1) ∧
      Only [.glb] ([KEY.KEY_STATUS_COMMIT_RESULT, KEY.COMMIT_REFUSE_CNT] ++ unlockFlags) s t) ∧
  (∀ (s : State) (w : KeyWork), s.inReset = false → s.key.work = some w → w.paid = true → w.done = false →
    ∃ t, exec .keyCommitSwitch s = .next t ∧ t.flag KEY.KEY_STATUS_BUSY = false ∧ t.flag KEY.KEY_STATUS_PENDING = true ∧
      Keeps [KEY.KEY_STATUS_BUSY, KEY.KEY_STATUS_PENDING] { s with key := { s.key with work := some { w with done := true } } } t)

/-- PAIR_SWITCHOVER, PAIR_PROMOTE and PAIR_RESYNC: completion, with effects from chapter 15 and frames. From spec/15_redundant_pair_couch_link.md,
Commands; spec/15_redundant_pair_couch_link.md, Planned switchover; spec/15_redundant_pair_couch_link.md, Unplanned promotion. It rests on
readings and choices of the model: log entries 171, 172. -/
def Obligations.PairCommandsComplete : Prop :=
  (∀ (s : State) (h : Hdr) (dwell : Nat), s.Accepts h false 0 → servingMode s.mode = true → s.couch.hand = none →
    ∃ t, exec (.pairSwitchover h dwell) s = .next t ∧ t.couch.hand = some ⟨some h, h.origin, s.sheetNo + 3, dwell % 65536, false⟩ ∧
      t.flag COUCH.PAIR_STATUS_HANDOVER_PENDING = true ∧ Keeps [COUCH.PAIR_STATUS_HANDOVER_PENDING, COUCH.HANDOVER_SHEET] s t) ∧
  (∀ (s : State) (h : Hdr) (m : Nat), s.Accepts h false 0 → s.mode = 5 → servingMode m = true → s.flag COUCH.PAIR_STATUS_ACT_I = false →
    ∃ t, exec (.pairPromote h m) s = .next t ∧ Keeps [] { s with couch := { s.couch with promote := some ⟨m, h.origin⟩ } } t) ∧
  (∀ (s : State) (h : Hdr), s.Accepts h false 0 → s.mode = 5 → s.pairState = 3 ∨ s.pairState = 4 →
    ∃ t, exec (.pairResync h) s = .next t ∧ Keeps [] { s with couch := { s.couch with resyncOut := true, fillWait := true, fillSeen := false } } t)

/-- Register writes are unlocked, stored, staged and posted: completion, with effects from chapter 20 and frames. From
spec/20_registers_journal_sizing_wear.md, Register conventions; spec/03_time_base.md, TIME block registers; spec/09_synthesis_and_outputs.md,
Calenders; spec/11_ethernet_ports.md, Pluggable modules and link state. It rests on readings and choices of the model: log entries 156, 160, 162. -/
def Obligations.WriteCommandsComplete : Prop :=
  (∀ (s : State) (o : Origin) (v : Nat), s.inReset = false → o = .pf0 ∨ o = .mspi →
    ∃ t, exec (.glbUnlockWrite o v) s = .next t ∧ (v % 2 ^ 32 = 0xC0A7 → (t.useUnlock o).1 = true) ∧ (v % 2 ^ 32 ≠ 0xC0A7 → (t.useUnlock o).1 = false) ∧
      (∀ u ∈ s.glb.unlocks, u.origin ≠ o → u ∈ t.glb.unlocks) ∧ Keeps unlockFlags { s with glb := { s.glb with unlocks := t.glb.unlocks } } t) ∧
  (∀ (s : State) (o : Origin), s.inReset = false → s.glb.unlocks.any (fun u => u.origin == o && decide (2 ≤ u.edges)) = true →
    ∃ t, exec (.unlockLapse o) s = .next t ∧ (o = .pf0 → t.flag GLB.GLB_STATUS_UNLOCK_PF0 = false) ∧ (o = .mspi → t.flag GLB.GLB_STATUS_UNLOCK_MSPI = false) ∧
      Keeps unlockFlags { s with glb := { s.glb with unlocks := s.glb.unlocks.filter (fun u => u.origin != o) } } t) ∧
  (∀ (s : State) (o : Origin) (a v : Nat), s.inReset = false → o ≠ .pf1 → s.glb.voteFailed = [] →
    a ∈ [0x10014, 0x10030, 0x20020, 0x30024, 0x30028, 0x300A0, 0x80008, 0xC0010, 0x100010, 0x110008] →
    ∃ t, exec (.registerWrite o a v) s = .next t ∧ Only [.glb] ((rowsAt a).map (fun p => p.1.fld a p.2) ++ unlockFlags) s t ∧
      ∀ p ∈ rowsAt a, (if p.1.acc = .rw ∧ p.1.ok.ok (bits v p.1.lsb p.1.w) = true then t.get (p.1.fld a p.2) = bits v p.1.lsb p.1.w
        else t.get (p.1.fld a p.2) = s.get (p.1.fld a p.2))) ∧
  (∀ (s : State) (o : Origin), s.inReset = false → o ≠ .pf1 →
    ∃ t, exec (.timeSnap o) s = .next t ∧ t.get TIME.SNAP_SEC = s.units / 65536 / 1000000000 % 2 ^ TIME.SNAP_SEC.width ∧
      t.get TIME.SNAP_NS = s.units / 65536 % 1000000000 ∧ t.get TIME.SNAP_FRAC_FRAC = s.units % 65536 ∧
      t.get TIME.SNAP_SHEET = s.sheetNo % 2 ^ 64 ∧
      Only [.glb] ([TIME.SNAP_SEC, TIME.SNAP_NS, TIME.SNAP_FRAC_FRAC, TIME.SNAP_FRAC_COARSE, TIME.SNAP_FRAC_SET, TIME.SNAP_SHEET] ++ unlockFlags) s t) ∧
  (∀ (s : State) (o : Origin) (k v : Nat), s.inReset = false → o ≠ .pf1 → k < 4 → s.flag SYN.SYN_STATUS_BUSY = false →
    ∃ t, exec (.calApply o k v) s = .next t ∧ t.glb.posted = s.glb.posted ++ [⟨0x130110 + 0x40 * k, v, o⟩] ∧ t.flag SYN.SYN_STATUS_BUSY = true ∧
      (v / 2 % 2 = 1 → s.planRefused k (s.stagedPlan k) = false →
        (k, s.stagedPlan k) ∈ t.syn.apply ∧ t.flag (SYN.CAL_STAT_REFUSED k) = false) ∧
      (v / 2 % 2 = 1 → s.planRefused k (s.stagedPlan k) = true → t.syn = s.syn ∧ t.flag (SYN.CAL_STAT_REFUSED k) = true ∧
        t.get SYN.PLAN_REFUSE_CNT = min (s.get SYN.PLAN_REFUSE_CNT + 1) (2 ^ 48 - 1)) ∧
      Only [.glb, .syn] ([SYN.SYN_STATUS_BUSY, SYN.CAL_STAT_REFUSED k, SYN.PLAN_REFUSE_CNT] ++ unlockFlags) s t) ∧
  (∀ (s : State) (o : Origin) (n v lo : Nat), s.inReset = false → o ≠ .pf1 → n < 16 → s.flag SYN.SYN_STATUS_BUSY = false →
    s.glb.stagedLo.find? (fun q => q.1 == 0x130404 + 0x20 * n) = some (0x130404 + 0x20 * n, lo) → 4 ≤ v % 4 * 2 ^ 32 + lo → s.syn.outs.length = 16 →
    ∃ t, exec (.outDivHiWrite o n v) s = .next t ∧ (nth t.syn.outs n {}).due = some (v % 4 * 2 ^ 32 + lo) ∧
      t.glb.posted = s.glb.posted ++ [⟨0x130408 + 0x20 * n, v, o⟩] ∧ Only [.glb, .syn] (SYN.SYN_STATUS_BUSY :: unlockFlags) s t) ∧
  (∀ (s : State) (o : Origin) (ch v : Nat) (presc : Bool), s.inReset = false → o ≠ .pf1 → ch < 48 → s.flag TDC.TDC_STATUS_BUSY = false →
    ∃ t, exec (.chCfgWrite o ch presc v) s = .next t ∧ t.glb.posted = s.glb.posted ++ [⟨(if presc then 0x40104 else 0x40100) + 0x20 * ch, v, o⟩] ∧
      (s.tdc.wins.length = 64 → ∀ m ∈ List.range 64, (s.win m).isOpen = true → (s.win m).names ch = true → (t.win m).isOpen = false) ∧
      Only [.glb, .tdc] (regBlock 0x40000 0x80000 ++ unlockFlags) s t) ∧
  (∀ (s : State) (o : Origin) (m v : Nat), s.inReset = false → o ≠ .pf1 → m < 64 → s.glb.voteFailed = [] → bits v 20 2 = 0 → s.tdc.wins.length = 64 →
    ∃ t, exec (.windowDisarmWrite o m v) s = .next t ∧ t.get (TDC.WIN_CFG_ARM m) = 0 ∧ (t.win m).isOpen = false ∧ (t.win m).pend = none ∧
      Only [.glb, .tdc] (regBlock 0x40000 0x80000 ++ unlockFlags) s t) ∧
  (∀ (s : State) (o : Origin) (p v : Nat), s.inReset = false → o ≠ .pf1 → p < 8 → s.flag (MAC.PORT_STATUS_BUSY p) = false → s.mac.ports.length = 8 →
    ∃ t, exec (.portCfgWrite o p v) s = .next t ∧ t.glb.posted = s.glb.posted ++ [⟨0x180004 + 0x4000 * p, v, o⟩] ∧
      t.get (MAC.PORT_STATUS_LINK p) = (if s.get (MAC.PORT_STATUS_LINK p) = 0 then 0 else if v % 4 = 3 then 0
        else if s.get (MAC.PORT_STATUS_LINK p) = 2 then 1 else s.get (MAC.PORT_STATUS_LINK p)) ∧
      (t.port p).rx = [] ∧ (t.port p).grid = none ∧ (t.port p).replies = [] ∧
      Only [.glb, .mac] (MAC.PORT_STATUS_BUSY p :: linkFields p ++ unlockFlags) s t) ∧
  (∀ (s : State) (o : Origin) (p v : Nat), s.inReset = false → o ≠ .pf1 → p < 8 → s.flag (MAC.PORT_STATUS_BUSY p) = false →
    ∃ t, exec (.modTxdisWrite o p v) s = .next t ∧ t.glb.posted = s.glb.posted ++ [⟨0x1800D0 + 0x4000 * p, v, o⟩] ∧
      t.get (MAC.PORT_STATUS_LINK p) = (if v % 2 = 1 then 0 else s.get (MAC.PORT_STATUS_LINK p)) ∧
      Only [.glb, .mac] (MAC.PORT_STATUS_BUSY p :: linkFields p ++ unlockFlags) s t) ∧
  (∀ (s : State) (o : Origin) (p v : Nat), s.inReset = false → o ≠ .pf1 → p < 8 → s.glb.voteFailed = [] →
    ∃ t, exec (.taEnWrite o p v) s = .next t ∧ t.get (MAC.TA_EN_V4 p) = v % 16 ∧ t.get (MAC.TA_EN_V6 p) = v / 256 % 16 ∧
      Only [.glb, .mac] ([MAC.TA_EN_V4 p, MAC.TA_EN_V6 p, NTS.ARP_ANS_CNT, NTS.ND_ANS_CNT] ++ unlockFlags) s t) ∧
  (∀ (s : State) (o : Origin) (v : Nat), s.inReset = false → o ≠ .pf1 → bitOf v 31 = true →
    ∃ t, exec (.glbCntClear o v) s = .next t ∧ t.glb.clearDue = s.glb.clearDue ++ [v % 32] ∧ Only [.glb] unlockFlags s t) ∧
  (∀ (s : State) (p : Nat) (w : PostedWrite), s.inReset = false → p < 8 → s.glb.posted.find? (fun x => x.addr == 0x1800D0 + 0x4000 * p) = some w →
    ∃ t, exec (.postedWriteApplied (0x1800D0 + 0x4000 * p)) s = .next t ∧ t.glb.posted = s.glb.posted.erase w ∧
      t.flag (MAC.MOD_CTRL_TXDIS p) = bitOf w.value 0 ∧ t.flag (MAC.MOD_CTRL_FIXED p) = bitOf w.value 1 ∧
      Only [.glb, .mac] (regBlock 0x180000 0x1A0000 ++ [PTP.NEG_PENDING]) s t) ∧
  (∀ (s : State) (ch : Nat) (w : PostedWrite), s.inReset = false → ch < 48 → s.glb.posted.find? (fun x => x.addr == 0x40100 + 0x20 * ch) = some w →
    ∃ t, exec (.postedWriteApplied (0x40100 + 0x20 * ch)) s = .next t ∧ t.glb.posted = s.glb.posted.erase w ∧
      t.flag (TDC.CH_CFG_ENABLE ch) = bitOf w.value 9 ∧ (s.tdc.chans.length = 48 → (t.ch ch).skip = 0) ∧
      Only [.glb, .tdc] (regBlock 0x40000 0x80000) s t)

/-- Rings are enabled, disabled, rung and drained: completion, with effects from chapter 16 and frames. From spec/16_host_interface.md, Rings and
doorbells; spec/16_host_interface.md, Events. It rests on readings and choices of the model: log entries 133, 134, 135. -/
def Obligations.RingCommandsComplete : Prop :=
  (∀ (s : State) (o : Origin) (n v : Nat) (view : PcieView), s.inReset = false → o ≠ .pf1 → n ≤ 63 → s.glb.voteFailed = [] →
    s.flag (HIF.RING_CFG_ENABLE n) = false → s.ringLegal v = true →
    ∃ t, exec (.ringEnable o n v view) s = .next t ∧ t.flag (HIF.RING_CFG_ENABLE n) = true ∧ t.get (HIF.RING_CFG_TYPE n) = bits v 0 4 ∧
      t.get (HIF.RING_CFG_FN n) = bits v 9 1 ∧ t.get (HIF.RING_CFG_VECTOR n) = bits v 10 6 ∧ t.get (HIF.RING_CFG_PAIR n) = bits v 16 6 ∧
      nth t.hif.rxBufs n [] = [] ∧ Only [.glb, .hif, .irq, .gnss] (ringFields n ++ pcieFields ++ unlockFlags) s t) ∧
  (∀ (s : State) (o : Origin) (n v : Nat), s.inReset = false → o ≠ .pf1 → n ≤ 63 → s.glb.voteFailed = [] → s.flag (HIF.RING_CFG_ENABLE n) = true →
    ∃ t, exec (.ringDisable o n v) s = .next t ∧ t.flag (HIF.RING_CFG_ENABLE n) = false ∧ t.get (HIF.RING_CFG_TYPE n) = s.get (HIF.RING_CFG_TYPE n) ∧
      (∀ w ∈ t.held, w ∈ s.held ∧ ¬(w.stage = 0 ∧ w.ring = some n)) ∧ Only [.glb, .hif, .held] (ringFields n ++ unlockFlags) s t) ∧
  (∀ (s : State) (fn n c : Nat) (view : PcieView) (d : List Byte) (block data : DmaIn), s.inReset = false → n ≤ 63 → s.get (HIF.RING_CFG_FN n) = fn → s.ringRuns n = true →
    s.get (HIF.RING_CFG_TYPE n) = 7 → fn ≤ 1 → view.bme0 = true → view.bme1 = true → (c + 2 ^ 32 - s.get (HIF.RING_CONS n)) % 2 ^ 32 ≤ s.ringSize n →
    (c + 2 ^ 32 - s.get (HIF.RING_PROD n)) % 2 ^ 32 ≤ s.ringSize n → c < 2 ^ 32 → c ≠ s.get (HIF.RING_PROD n) →
    s.descOk n (s.get (HIF.RING_PROD n)) d = true →
    ∃ t, exec (.doorbellWrite fn n c view [.desc d block data]) s = .next t ∧ t.get (HIF.RING_PROD n) = c ∧ t.gnss = { s.gnss with steerQ := s.gnss.steerQ ++ [steerOf d] } ∧
      Only [.gnss, .irq] pcieFields s t) ∧
  (∀ (s : State) (fn n c : Nat) (view : PcieView) (ds : List RingIn), s.inReset = false → n ≤ 63 → s.get (HIF.RING_CFG_FN n) = fn → s.ringRuns n = true →
    hostWrites (s.get (HIF.RING_CFG_TYPE n)) = false → (s.get (HIF.RING_CFG_TYPE n) = 10 → s.get (HIF.RING_CFG_PAIR n) ≠ n) → (s.get (HIF.RING_PROD n) + 2 ^ 32 - c) % 2 ^ 32 ≤ s.ringSize n →
    (c + 2 ^ 32 - s.get (HIF.RING_CONS n)) % 2 ^ 32 ≤ s.ringSize n → c < 2 ^ 32 →
    ∃ t, exec (.doorbellWrite fn n c view ds) s = .next t ∧ t.get (HIF.RING_CONS n) = c ∧ Only [.hif, .irq] (HIF.DMA_ERR_CNT :: pcieFields) s t) ∧
  (∀ (s : State) (fn n c : Nat) (view : PcieView) (ds : List RingIn), s.inReset = false → 63 < n ∨ s.get (HIF.RING_CFG_FN n) ≠ fn →
    ∃ t, exec (.doorbellWrite fn n c view ds) s = .next t ∧ t.get HIF.DOORBELL_BAD_CNT = min (s.get HIF.DOORBELL_BAD_CNT + 1) (2 ^ 48 - 1) ∧
      Only [.irq] (HIF.DOORBELL_BAD_CNT :: pcieFields) s t) ∧
  (∀ (s : State) (n : Nat) (r : MeasRec), s.inReset = false → s.hif.compl = [] → s.hif.events = [] → s.ringOf 4 = some n → s.tdc.staged = [r] →
    s.ringRoom n r.entries = true → s.tdc.gap = false → s.vatc.poison = [] →
    (∀ i < r.entries, s.vatMay 1 (s.measSlot i) 32 false = true) → (s.charge 3 (40 + 10 * (r.entries - 1))).isSome = true →
    ∃ t, exec .stagedEntryPost s = .next t ∧ t.tdc.staged = [] ∧ (∀ d ∈ r.descs, t.out.any (fun x => match x with
        | .ring m _ b => m == n && (b == d.bytes true || b == d.bytes false)
        | _ => false) = true) ∧ Only [.tdc, .gnss, .hif] [HIF.DMA_ERR_CNT, VAT.RMW_CNT] s t) ∧
  (∀ (s : State) (n : Nat), s.inReset = false → n ≤ 63 →
    ∃ t, exec (.ringTimeUsExpire n) s = .next t ∧ (s.get (HIF.RING_MOD_TIME_US n) ≠ 0 → s.hif.rings.length = 64 →
      s.reaches ((nth s.hif.rings n {}).firstTime + (s.get (HIF.RING_MOD_TIME_US n) * 65536000 : Nat)) = true →
      (nth t.hif.rings n {}).unsignalled = 0) ∧ Keeps [] s t)

/-- Claims, completions, unmasking and forces: completion, with effects from chapter 18 and frames. From spec/18_interrupts_and_faults.md, Vectors;
spec/18_interrupts_and_faults.md, Sources. It rests on readings and choices of the model: log entries 144, 145. -/
def Obligations.InterruptCommandsComplete : Prop :=
  (∀ (s : State) (v x : Nat), s.inReset = false → v ≤ 64 → (s.charge 3 10).isSome = true → s.topSource v = some x →
    ∃ t, exec (.vecClaim v) s = .next t ∧ t.get (IRQ.VEC_CLAIM_SOURCE v) = x ∧ t.flag (IRQ.VEC_CLAIM_VALID v) = true ∧
      t.get IRQ.CLAIM_CNT = min (s.get IRQ.CLAIM_CNT + 1) (2 ^ 48 - 1) ∧
      (s.autoVec v = false → t.flag (IRQ.SRC_CFG_CLAIMED x) = true ∧
        nth t.irq.claims v [] = (if v < s.irq.claims.length then nth s.irq.claims v [] ++ [⟨x, s.get (IRQ.SRC_CFG_GROUP x)⟩] else [])) ∧
      (s.autoVec v = true → t.irq.claims = s.irq.claims) ∧
      Only [.irq] [IRQ.VEC_CLAIM_SOURCE v, IRQ.VEC_CLAIM_VALID v, IRQ.SRC_CFG_CLAIMED x, IRQ.CLAIM_CNT] s t) ∧
  (∀ (s : State) (v : Nat), s.inReset = false → v ≤ 64 → (s.charge 3 10).isSome = true → s.topSource v = none →
    ∃ t, exec (.vecClaim v) s = .next t ∧ t.flag (IRQ.VEC_CLAIM_VALID v) = false ∧ t.get IRQ.SPURIOUS_CNT = min (s.get IRQ.SPURIOUS_CNT + 1) (2 ^ 48 - 1) ∧
      Keeps [IRQ.VEC_CLAIM_SOURCE v, IRQ.VEC_CLAIM_VALID v, IRQ.SPURIOUS_CNT] s t) ∧
  (∀ (s : State) (o : Origin) (v n : Nat), s.inReset = false → o ≠ .pf1 → v ≤ 64 → (nth s.irq.claims v []).any (fun c => c.source == n % 512) = true →
    ∃ t, exec (.vecComplete o v n) s = .next t ∧ t.flag (IRQ.SRC_CFG_CLAIMED (n % 512)) = false ∧
      nth t.irq.claims v [] = (nth s.irq.claims v []).filter (fun c => c.source != n % 512) ∧
      Only [.glb, .irq] ([IRQ.SRC_CFG_CLAIMED (n % 512), IRQ.SRC_CFG_VECTOR (n % 512), IRQ.SRC_CFG_GROUP (n % 512), IRQ.SRC_CFG_SUB (n % 512)] ++ unlockFlags) s t) ∧
  (∀ (s : State) (v : Nat), s.inReset = false → v ≤ 63 →
    ∃ t, exec (.msixUnmask v) s = .next t ∧ t.irq.masked = s.irq.masked.filter (· != v) ∧
      (s.flag (IRQ.VEC_STAT_PBA v) = true → Out.msix (s.get (IRQ.VEC_CFG_FN v)) v ∈ t.out) ∧
      Keeps [] { s with irq := { s.irq with masked := s.irq.masked.filter (· != v) } } t) ∧
  (∀ (s : State) (o : Origin) (x v : Nat), s.inReset = false → o ≠ .pf1 → x < 512 → s.glb.voteFailed = [] → s.flag (IRQ.SRC_CFG_CLAIMED x) = false →
    ∃ t, exec (.srcForce o x v) s = .next t ∧ t.get (IRQ.SRC_CFG_GROUP x) = bits v 7 4 ∧ t.get (IRQ.SRC_CFG_SUB x) = bits v 11 4 ∧
      (levelSource x = false → reservedSource x = false → bitOf v 17 = true → t.flag (IRQ.SRC_CFG_PENDING x) = true) ∧
      Only [.glb, .irq] ([IRQ.SRC_CFG_VECTOR x, IRQ.SRC_CFG_GROUP x, IRQ.SRC_CFG_SUB x, IRQ.SRC_CFG_EN x, IRQ.SRC_CFG_TRIG x, IRQ.SRC_CFG_FORCE x] ++ unlockFlags) s t)

/-- Acknowledgements, forces, the reaction timer and escalation: completion, with effects from chapter 18 and frames. From
spec/18_interrupts_and_faults.md, Fault reporting; spec/18_interrupts_and_faults.md, Reaction timer and escalation. It rests on readings and
choices of the model: log entries 9, 146, 147. -/
def Obligations.FaultCommandsComplete : Prop :=
  (∀ (s : State) (o : Origin) (w v : Nat), s.inReset = false → o ≠ .pf1 → w ≤ 3 →
    ∃ t, exec (.fltAck o w v) s = .next t ∧ (1 ≤ w → t.get (FLT.FLT_ACKED w) = (s.get (FLT.FLT_ACKED w) ||| (v % 2 ^ 32 &&& s.get (FLT.FLT_ACTIVE w)))) ∧
      (w = 0 → ∀ f ∈ List.range 24, f ≠ 0 → bitOf (v % 2 ^ 32) f = true → s.fbit FLT.FLT_ACTIVE f = true → s.fbit FLT.FLT_FORCE_ACT f = true →
        t.fbit FLT.FLT_ACKED f = true) ∧
      (w = 0 → bitOf v 6 = true → t.flt.keyMismatch = false) ∧ Only [.glb, .flt] (FLT.FLT_ACKED w :: unlockFlags) s t) ∧
  (∀ (s : State) (o : Origin) (v : Nat), s.inReset = false → o ≠ .pf1 → (s.useUnlock o).1 = true → bitOf v 0 = true → s.get FLT.FLT_STATUS_STAGE ≠ 0 →
    (∀ f ∈ List.range 24, s.fbit FLT.FLT_ACTIVE f = true → s.fbit FLT.FLT_ACKED f = true ∨ s.get (FLT.FLT_CFG f) = 0) →
    ∃ t, exec (.fltEscClear o v) s = .next t ∧ t.get FLT.FLT_STATUS_STAGE = 0 ∧ t.flt.squelchLift = s.flt.squelch ∧
      Only [.glb, .flt] ([FLT.FLT_STATUS_STAGE, FLT.ESC_CNT] ++ unlockFlags) s t) ∧
  (∀ (s : State) (o : Origin) (w v : Nat), s.inReset = false → o ≠ .pf1 → w ≤ 3 → s.glb.voteFailed = [] →
    (regHas (0x210060 + 4 * w) .rwl = true → (s.useUnlock o).1 = true) →
    ∃ t, exec (.fltForceAct o w v) s = .next t ∧ t.get (FLT.FLT_FORCE_ACT w) = v % 2 ^ 32 ∧
      (w = 0 → ∀ f ∈ List.range 24, f ≠ 0 → bitOf (v % 2 ^ 32) f = true → t.fbit FLT.FLT_ACTIVE f = true) ∧
      Only [.glb] (FLT.FLT_FORCE_ACT w :: unlockFlags) s t) ∧
  (∀ (s : State) (o : Origin) (w v : Nat), s.inReset = false → o ≠ .pf1 → w ≤ 3 → s.glb.voteFailed = [] →
    (regHas (0x210070 + 4 * w) .rwl = true → (s.useUnlock o).1 = true) →
    ∃ t, exec (.fltForceWire o w v) s = .next t ∧ t.get (FLT.FLT_FORCE_WIRE w) = v % 2 ^ 32 ∧ Only [.glb] (FLT.FLT_FORCE_WIRE w :: unlockFlags) s t) ∧
  (∀ (s : State) (pair : Nat) (equal : Bool), s.inReset = false → 1 ≤ pair → pair ≤ 127 →
    ∃ t, exec (.faultWireBreak pair equal) s = .next t ∧ Keeps [] { s with flt := { s.flt with broken := putBit s.flt.broken pair equal } } t) ∧
  (∀ s : State, s.inReset = false → s.flag FLT.FLT_STATUS_TIMER_RUN = true → s.pressing = true → s.get FLT.FLT_STATUS_STAGE < 3 →
    ∃ t, exec .reactionTimerExpire s = .next t ∧ t.get FLT.FLT_STATUS_STAGE = s.get FLT.FLT_STATUS_STAGE + 1 ∧
      (s.get FLT.FLT_STATUS_STAGE = 0 → t.getT REFSEL.REF_OVERRIDE_LOCKOUT = 0xFFFF ∧ t.get FLT.ESC_LOCKOUT_PREV = s.getT REFSEL.REF_OVERRIDE_LOCKOUT) ∧
      (s.get FLT.FLT_STATUS_STAGE = 1 → t.flt.squelch = true ∧ t.flt.squelchLift = false) ∧
      (s.get FLT.FLT_STATUS_STAGE = 2 → t.flag FLT.FLT_STATUS_PULSE = true ∧ t.flag FLT.FLT_STATUS_FAULT_N = true ∧
        t.get FLT.FAULTN_CNT = min (s.get FLT.FAULTN_CNT + 1) (2 ^ 48 - 1)) ∧
      Only [.flt, .rwtB, .rwtC] [FLT.FLT_STATUS_STAGE, FLT.ESC_CNT, FLT.ESC_LOCKOUT_PREV, REFSEL.REF_OVERRIDE_LOCKOUT, FLT.FLT_STATUS_PULSE, FLT.FAULTN_CNT] s t) ∧
  (∀ s : State, s.inReset = false →
    s.reaches (s.flt.pulseAt + (s.get FLT.FAULTN_CFG_PULSE_US * 65536000 : Nat)) = true →
    ∃ t, exec .faultNPulseEnd s = .next t ∧ t.flag FLT.FLT_STATUS_PULSE = false ∧ t.flag FLT.FLT_STATUS_FAULT_N = s.flag FLT.FAULTN_CFG_HOLD ∧
      Keeps [FLT.FLT_STATUS_PULSE] s t) ∧
  (∀ (s : State) (e : Int), s.inReset = false → s.couch.drillEnd = some e → s.reaches e = true →
    ∃ t, exec .drillExpire s = .next t ∧ t.couch.drillEnd = none ∧ t.get COUCH.DRILL_LEFT = 0 ∧
      (servingMode s.mode = true → s.pairState = 3 → s.couch.hand = none → t.couch.hand = some ⟨none, .auto, s.sheetNo + 3, 0, false⟩) ∧
      Only [.couch] [COUCH.DRILL_LEFT, COUCH.HANDOVER_SHEET, COUCH.PAIR_STATUS_HANDOVER_PENDING] s t)

/-- The ream is drained and sizing items are loaded and read: completion, with effects from chapter 20 and frames. From
spec/20_registers_journal_sizing_wear.md, The ream; spec/20_registers_journal_sizing_wear.md, Sizing. It rests on readings and choices of the
model: log entries 154, 164. -/
def Obligations.RecordCommandsComplete : Prop :=
  (∀ (s : State) (o : Origin) (v : Nat), s.inReset = false → o ≠ .pf1 → s.flag REAM.REAM_CFG = true → bitOf v 0 = true → 0 < s.reamReady →
    s.flag REAM.REAM_STATUS_GAP_OPEN = false →
    ∃ t, exec (.reamPop o v) s = .next t ∧ s.ream.entries.drop 1 <+: t.ream.entries ∧ Only [.glb] unlockFlags s t) ∧
  (∀ (s : State) (o : Origin) (v : Nat), s.inReset = false → o ≠ .pf1 → s.flag SIZING.SIZ_STATUS_BUSY = false → (s.useUnlock o).1 = true → s.mode ≤ 1 →
    s.sizingRuns = false → (s.charge 3 400).isSome = true →
    ∃ t, exec (.sizLoad o v) s = .next t ∧ t.get SIZING.SIZ_LOAD = v % 4096 ∧ t.get SIZING.SIZ_STATUS_RESULT = loadResult (v % 4096) s.sizBuf ∧
      t.flag SIZING.SIZ_STATUS_BUSY = false ∧
      t.siz = (if loadResult (v % 4096) s.sizBuf = 0 then { s.siz with due := s.siz.due ++ [.load o (v % 4096) (leAt s.sizBuf 8 6)
        ((s.sizBuf.take (itemLen (v % 4096) - 4)).drop 16)] } else s.siz) ∧
      Only [.glb, .siz] ([SIZING.SIZ_LOAD, SIZING.SIZ_STATUS_RESULT, SIZING.SIZ_STATUS_BUSY] ++ unlockFlags) s t) ∧
  (∀ (s : State) (o : Origin) (v : Nat) (b : List Byte), s.inReset = false → o ≠ .pf1 → bitOf v 0 = true → s.flag SIZING.SIZ_STATUS_BUSY = false →
    (s.charge 3 400).isSome = true → s.bankItem (s.flag SIZING.SIZ_ITEM_BANK) (s.get SIZING.SIZ_ITEM_ITEM) = some b →
    ∃ t, exec (.sizRead o v) s = .next t ∧ t.get SIZING.SIZ_STATUS_RESULT = 0 ∧ t.flag SIZING.SIZ_STATUS_BUSY = false ∧
      (∀ i ∈ List.range 256, i < (b.length + 3) / 4 → t.get (SIZING.SIZ_BUF i) = leAt b (4 * i) 4) ∧
      (b.length ≤ 1024 → Only [.glb] (regBlock 0x240000 0x250000 ++ unlockFlags) s t)) ∧
  (∀ (s : State) (o : Origin) (v : Nat), s.inReset = false → o ≠ .pf1 → bitOf v 0 = true → s.flag SIZING.SIZ_STATUS_BUSY = false →
    (s.charge 3 400).isSome = true → s.bankItem (s.flag SIZING.SIZ_ITEM_BANK) (s.get SIZING.SIZ_ITEM_ITEM) = none →
    ∃ t, exec (.sizRead o v) s = .next t ∧ t.get SIZING.SIZ_STATUS_RESULT = 2 ∧ t.flag SIZING.SIZ_STATUS_BUSY = false ∧
      Only [.glb] ([SIZING.SIZ_STATUS_RESULT, SIZING.SIZ_STATUS_BUSY] ++ unlockFlags) s t)

/-- The mailbox and the maintenance SPI: completion, with effects from chapter 16 and frames. From spec/16_host_interface.md, The maintenance SPI. It
rests on readings and choices of the model: log entries 137, 138. -/
def Obligations.MspiCommandsComplete : Prop :=
  (∀ (s : State) (v : Nat), s.inReset = false → bitOf v 0 = false →
    ∃ t, exec (.mbGo v) s = .next t ∧ t.flag (IRQ.SRC_CFG_EN 304) = bitOf v 1 ∧ Keeps [IRQ.SRC_CFG_EN 304] { s with hif := { s.hif with mbIrqEn := bitOf v 1 } } t) ∧
  (∀ (s : State) (v : Nat) (h : Hdr), s.Accepts h true 0 → h.origin = .mspi → bitOf v 0 = true → s.flag HIF.HIF_STATUS_MB_BUSY = false →
    s.mbCommand s.hif.mbDesc = .nop h →
    ∃ t, exec (.mbGo v) s = .next t ∧ Out.mailbox ⟨0x01, h.tag, stOK, false, .mspi, h.ring, s.sheetNo % 2 ^ 64, s.sheetNo, h.index⟩ ∈ t.out ∧
      t.flag HIF.HIF_STATUS_MB_BUSY = false ∧ Only [.hif] [IRQ.SRC_CFG_EN 304] s t) ∧
  (∀ (s : State) (op a : Nat) (l : List Nat) (ok : Bool), s.inReset = false → ok = false ∨ a % 4 ≠ 0 ∨ (op ≠ 2 ∧ op ≠ 3) →
    ∃ t, exec (.mspiTransfer op a l ok) s = .next t ∧ t.get HIF.MSPI_BAD_CNT = min (s.get HIF.MSPI_BAD_CNT + 1) (2 ^ 48 - 1) ∧ Keeps [HIF.MSPI_BAD_CNT] s t) ∧
  (∀ (s : State) (a v : Nat), s.inReset = false → s.glb.voteFailed = [] →
    a ∈ [0x10014, 0x10030, 0x20020, 0x30024, 0x30028, 0x300A0, 0x80008, 0xC0010, 0x100010, 0x110008] →
    ∃ t, exec (.mspiTransfer 2 a [v] true) s = .next t ∧ Only [.glb] ((rowsAt a).map (fun p => p.1.fld a p.2) ++ unlockFlags) s t ∧
      ∀ p ∈ rowsAt a, (if p.1.acc = .rw ∧ p.1.ok.ok (bits (v % 2 ^ 32) p.1.lsb p.1.w) = true then t.get (p.1.fld a p.2) = bits (v % 2 ^ 32) p.1.lsb p.1.w
        else t.get (p.1.fld a p.2) = s.get (p.1.fld a p.2))) ∧
  (∀ (s : State) (a : Nat), s.inReset = false → a ∈ [0x0, 0x10014, 0x10030, 0x20020, 0x30024, 0x30028, 0x300A0, 0x80008, 0xC0010, 0x100010, 0x110008] →
    ∃ t, exec (.mspiTransfer 3 a [0] true) s = .next t ∧ Out.spi [s.readReg a] ∈ t.out ∧ Keeps [] s t)

/-- Reset, release, oscillator detection, sheet 0 and the PCIe resets: completion, with effects from chapter 21 and frames. From
spec/21_startup_and_reset.md, Resets; spec/21_startup_and_reset.md, From release to sheet 0; spec/16_host_interface.md, PCIe functions and BARs.
It rests on readings and choices of the model: log entries 20, 22, 24, 25. -/
def Obligations.StartCommandsComplete : Prop :=
  (∀ s : State, s.inReset = false →
    ∃ t, exec .resetAssert s = .next t ∧ t.inReset = true ∧ t.running = false ∧ t.mode = 0 ∧ t.vat = [] ∧ t.held = [] ∧ t.pending = s.pending ∧
      t.key.slots = s.key.slots ∧ t.keep = s.keep ∧ t.siz = { user := s.siz.user } ∧ t.vatc.fuses = s.vatc.fuses ∧ t.ream.entries = s.ream.entries ∧
      KeptThrough s t ∧ t.get HOLD.EFC_CODE = s.get HOLD.EFC_INIT ∧ Out.efc (s.get HOLD.EFC_INIT) ∈ t.out ∧ s.out <:+ t.out) ∧
  (∀ (s : State) (cold : Bool) (k : KeepIn), s.running = false → s.flag VAT.VAT_STATUS_INIT_DONE = false →
    ∃ t, exec (.resetRelease cold k) s = .next t ∧ t.inReset = false ∧ t.running = false ∧ t.flag VAT.VAT_STATUS_INIT_DONE = true ∧ t.keep.lost = false ∧
      (cold = true → t.siz.user = [] ∧ t.get HOLD.EFC_CODE = 0x800000) ∧ (cold = false → t.siz = s.siz ∧ t.get HOLD.EFC_CODE = s.get HOLD.EFC_INIT) ∧
      (s.keep.lost = true → t.flag KEY.KEY_STATUS_KEEP_LOST = true ∧ ∀ n ∈ List.range 256, (t.keySlot n).state = 0) ∧
      Only [.inReset, .vatc, .key, .keep, .siz, .time, .tdc, .nav] ([HOLD.EFC_CODE, HOLD.EFC_BASE, HOLD.EFC_INIT] ++ regBlock 0x30000 0x80000 ++
        regBlock 0x100000 0x110000 ++ regBlock 0x180000 0x1A0000 ++ regBlock 0x1C0000 0x1D0000 ++ regBlock 0x1F0000 0x200000 ++
        regBlock 0x220000 0x230000 ++ regBlock 0x240000 0x250000 ++ regBlock 0x260000 0x270000) s t) ∧
  (∀ (s : State) (ratios : List Nat) (sel : Nat), s.inReset = false → s.running = false → s.flag VAT.VAT_STATUS_INIT_DONE = true → s.flag SYN.SYN_STATUS_OSC_ACT = false → s.oscRow ratios = some sel →
    ∃ t, exec (.oscInDetected ratios) s = .next t ∧ t.get SYN.SYSPLL_CFG_OSC_SEL = sel ∧ t.get SYN.SYSPLL_CFG_CP_I = cpOf sel ∧ t.get SYN.SYSPLL_CFG_N_SP = nspOf sel ∧
      t.flag SYN.SYN_STATUS_OSC_ACT = true ∧ t.syn.seenAct = true ∧ t.syn.apply = [] ∧
      Only [.syn, .mac] (regBlock 0x130000 0x140000 ++ (List.range 8).flatMap linkFields) s t) ∧
  (∀ (s : State) (e : EdgeIn) (met : Nat) (rest : Int), s.inReset = false → s.mayBegin met = true → s.held = [] → s.hif.marks = [] → s.glb.edgeWrites = [] →
    ∃ t, exec (.sheetZero e met rest) s = .next t ∧ t.running = true ∧ t.inReset = false ∧ t.sheetNo = s.sheetNo ∧ t.pending = s.pending ∧ s.out <:+ t.out ∧
      (s.time.steps = [] → s.time.leap = none → s.time.heldLeap = none → t.time.edge % nsU 125000 = 0 ∧ t.time.next = t.time.edge + nsU 125000)) ∧
  (∀ s : State, s.inReset = false →
    ∃ t, exec .pciePerst s = .next t ∧ (∀ n ∈ List.range 64, t.flag (HIF.RING_CFG_ENABLE n) = false ∧ n ∈ t.irq.masked) ∧
      t.flag HIF.HIF_STATUS_LINK_UP = false ∧ t.flag HIF.HIF_STATUS_PF0_BME = false ∧ t.flag HIF.HIF_STATUS_PF1_BME = false ∧
      (∀ w ∈ t.held, w ∈ s.held) ∧ Only [.held, .hif, .irq] (pcieFields ++ (List.range 64).map HIF.RING_CFG_ENABLE) s t) ∧
  (∀ (s : State) (fn : Nat), s.inReset = false → fn ≤ 1 →
    ∃ t, exec (.pcieFlr fn) s = .next t ∧ (∀ n ∈ List.range 64, s.get (HIF.RING_CFG_FN n) = fn → t.flag (HIF.RING_CFG_ENABLE n) = false) ∧
      (∀ n ∈ List.range 64, s.get (HIF.RING_CFG_FN n) ≠ fn → t.flag (HIF.RING_CFG_ENABLE n) = s.flag (HIF.RING_CFG_ENABLE n)) ∧
      (∀ v ∈ List.range 64, s.get (IRQ.VEC_CFG_FN v) = fn → v ∈ t.irq.masked) ∧
      (if fn = 0 then t.flag HIF.HIF_STATUS_PF0_BME = false else t.flag HIF.HIF_STATUS_PF1_BME = false) ∧
      Only [.held, .hif, .irq] ((if fn = 0 then HIF.HIF_STATUS_PF0_BME else HIF.HIF_STATUS_PF1_BME) :: (List.range 64).map HIF.RING_CFG_ENABLE) s t)

/-- The PLLs, calenders and outputs: completion, with effects from chapter 9 and frames. From spec/09_synthesis_and_outputs.md, Lock detection;
spec/09_synthesis_and_outputs.md, Relock and release; spec/09_synthesis_and_outputs.md, PPS outputs; spec/09_synthesis_and_outputs.md, ToD
outputs. It rests on readings and choices of the model: log entries 46, 49, 59. -/
def Obligations.ClockEventsComplete : Prop :=
  (∀ (s : State) (diff : Int), s.inReset = false → s.flag SYN.SYN_STATUS_SP_LOCK = true →
    ∃ t, exec (.spLockLoss diff) s = .next t ∧ t.flag SYN.SYN_STATUS_SP_LOCK = false ∧ t.flag SYN.SYN_STATUS_SP_IN_SERVICE = false ∧
      t.get SYN.SP_UNLOCK_CNT = min (s.get SYN.SP_UNLOCK_CNT + 1) (2 ^ 48 - 1) ∧
      (s.flag SYN.SYN_STATUS_SP_IN_SERVICE = true → t.get SYN.SYN_STATUS_CNT_SRC = 1 ∧ t.flag TIME.TIME_STATUS_COARSE = true ∧
        t.flag TDC.TDC_STATUS_CLK_VALID = false ∧ t.flag SYN.SYN_STATUS_BYPASS = true ∧ t.get TIME.COARSE_CNT = min (s.get TIME.COARSE_CNT + 1) (2 ^ 48 - 1)) ∧
      Only [.syn, .tdc, .time] (spFields ++ TIME.SLEW_RESID :: regBlock 0x40000 0x80000) s t) ∧
  (∀ s : State, s.inReset = false → s.flag SYN.SYN_STATUS_SP_LOCK = false → s.flag SYN.SYN_STATUS_OSC_ACT = true →
    ∃ t, exec .spLockDeclared s = .next t ∧ t.flag SYN.SYN_STATUS_SP_LOCK = true ∧ t.syn.spLockAt = some s.mono ∧ Only [.syn, .tdc] (SYN.SYN_STATUS_SP_LOCK :: regBlock 0x40000 0x80000) s t) ∧
  (∀ (s : State) (rest : Int), s.inReset = false → s.running = true → s.flag SYN.SYN_STATUS_SP_LOCK = true → s.flag SYN.SYN_STATUS_SP_IN_SERVICE = false →
    s.lockHeld ((s.time.next : Int) - s.units) = true →
    ∃ t, exec (.fineCountResume rest) s = .next t ∧ Keeps [] { s with syn := { s.syn with fineRest := some rest } } t) ∧
  (∀ s : State, s.inReset = false → s.refFrozen = true → s.get REFSEL.REFSEL_CFG_FREEZE_SHEETS < s.ref.frozen →
    ∃ t, exec .freezeCountExpire s = .next t ∧
      t.get REFSEL.REFSEL_STATUS_CLOCK_STATE = (if s.get REFSEL.REFSEL_STATUS_CLOCK_STATE = 2 then 3 else if s.get REFSEL.REFSEL_STATUS_CLOCK_STATE = 1 then
        (if s.flag HOLD.HOLD_STATUS_HIST_VALID then 3 else 0) else s.get REFSEL.REFSEL_STATUS_CLOCK_STATE) ∧
      (s.vat.wf = true → VatSame [(0x07800000, 0x07810000)] s t) ∧
      Only [.ref, .hold, .bound, .vat] (VAT.RMW_CNT :: regBlock 0x110000 0x130000) s t) ∧
  (∀ (s : State) (ratio : Option Nat), s.inReset = false → s.flag SYN.SYN_STATUS_OSC_ACT = true → ratio.any (fun r => !s.oscOff r) = false →
    ∃ t, exec (.oscActivityLoss ratio) s = .next t ∧ t.flag SYN.SYN_STATUS_OSC_ACT = false ∧ t.get SYN.OSC_RATIO = s.oscRatio % 2 ^ SYN.OSC_RATIO.width ∧
      t.get SYN.SYN_STATUS_CNT_SRC = 2 ∧ t.flag SYN.SYN_STATUS_SP_LOCK = false ∧ t.flag HOLD.HOLD_STATUS_OSC_FAIL = true ∧ t.syn.lostAt = some s.mono ∧
      t.get SYN.OSC_LOSS_CNT = min (s.get SYN.OSC_LOSS_CNT + 1) (2 ^ 48 - 1) ∧ (∀ k ∈ List.range 4, t.calLocked k = false) ∧
      Only [.syn, .tdc, .time, .mac, .hold, .ref] ([TIME.SLEW_RESID, TIME.TIME_STATUS_COARSE, TIME.COARSE_CNT] ++ regBlock 0x40000 0x80000 ++
        regBlock 0x110000 0x140000 ++ (List.range 8).flatMap linkFields) s t) ∧
  (∀ (s : State) (off : Int), s.inReset = false → s.flag SYN.SYN_STATUS_OSC_ACT = false → s.syn.seenAct = true → 8000 ≤ s.syn.oscClean →
    ∃ t, exec (.oscActivityReturn off) s = .next t ∧ t.flag SYN.SYN_STATUS_OSC_ACT = true ∧ t.get SYN.SYN_STATUS_CNT_SRC = 1 ∧ t.syn.lostAt = none ∧
      t.residual = satS 96 (s.residual + off * 2 ^ 32) ∧ (∀ k ∈ List.range 4, s.flag (SYN.CAL_CTRL_ENABLE k) = true → t.get (SYN.CAL_STAT_STATE k) = 1) ∧
      Only [.syn, .time] (TIME.SLEW_RESID :: regBlock 0x130000 0x140000) s t) ∧
  (∀ (s : State) (k : Nat), s.inReset = false → k < 4 → s.calLocked k = true →
    ∃ t, exec (.calenderUnlock k) s = .next t ∧ t.get (SYN.CAL_STAT_STATE k) = 1 ∧ t.get SYN.CAL_UNLOCK_CNT = min (s.get SYN.CAL_UNLOCK_CNT + 1) (2 ^ 48 - 1) ∧
      (∀ n ∈ List.range 16, s.get (SYN.OUT_CFG_SRC n) = k → t.flag (SYN.OUT_STAT_HELD_LOW n) = true ∧ t.flag (SYN.OUT_STAT_ALIGNED n) = false) ∧
      Only [.mac] (regBlock 0x130000 0x140000 ++ (List.range 8).flatMap linkFields) s t) ∧
  (∀ (s : State) (k : Nat), s.inReset = false → k < 4 → s.get (SYN.CAL_STAT_STATE k) = 1 → s.flag SYN.SYN_STATUS_OSC_ACT = true →
    ∃ t, exec (.calenderLock k) s = .next t ∧ t.get (SYN.CAL_STAT_STATE k) = 2 ∧ bitOf (t.get SYN.SYN_STATUS_CAL_LOCK) k = true ∧
      Only [.syn, .mac] ([SYN.CAL_STAT_STATE k, SYN.SYN_STATUS_CAL_LOCK] ++ (List.range 8).flatMap linkFields) s t) ∧
  (∀ (s : State) (n : Nat), s.inReset = false → n < 16 → s.flag (SYN.OUT_STAT_HELD_LOW n) = true → s.calLocked (s.get (SYN.OUT_CFG_SRC n)) = true →
    s.outAligned n = false ∨ (s.flag TIME.TIME_STATUS_COARSE = false ∧ (nth s.syn.outs n {}).since ≤ (s.units + secU / 2) / secU * secU) →
    ∃ t, exec (.outputRelease n) s = .next t ∧ t.flag (SYN.OUT_STAT_HELD_LOW n) = false ∧ t.flag (SYN.OUT_STAT_ALIGNED n) = s.outAligned n ∧
      Only [.time] ([SYN.OUT_STAT_HELD_LOW n, SYN.OUT_STAT_ALIGNED n] ++ timeFields) s t) ∧
  (∀ (s : State) (k : Nat), s.inReset = false → k < 4 → (nth s.syn.ppsHeld k none).all (fun r => !s.flag TIME.TIME_STATUS_COARSE && decide ((r : Int) ≤
      ((s.nearSec (unitsOfPs (s.geti (SYN.PPS_OFF k))) * secU : Nat) : Int) + unitsOfPs (s.geti (SYN.PPS_OFF k)))) = true → s.wholeHz (s.get (SYN.PPS_CFG_SRC k)) = true →
    s.calLocked (s.get (SYN.PPS_CFG_SRC k)) = true → s.squelchAll = false → bitOf (s.getT SYN.OUT_EN_PPS) k = true →
    ∃ t, exec (.ppsPulse k) s = .next t ∧
      Out.pps k (((s.nearSec (unitsOfPs (s.geti (SYN.PPS_OFF k))) * secU : Nat) : Int) + unitsOfPs (s.geti (SYN.PPS_OFF k)) +
        unitsOfPs (s.geti (SYN.CAL_PHASE (s.get (SYN.PPS_CFG_SRC k))))).toNat (s.get (SYN.PPS_WIDTH k)) (!s.flag (SYN.PPS_CFG_POL k)) ∈ t.out ∧
      Only [.time, .syn] timeFields s t) ∧
  (∀ (s : State) (k sec : Nat), s.inReset = false → k < 4 → sec = s.nearSec (unitsOfPs (s.geti (SYN.PPS_OFF (s.get (SYN.TOD_CFG_PPS k)))) +
      nsU (s.get (SYN.TOD_DELAY k) * 1000000)) + 1 → s.squelchAll = false → bitOf (s.getT SYN.OUT_EN_TOD) k = true → s.ppsSends (s.get (SYN.TOD_CFG_PPS k)) = true →
    nth s.syn.todNamed k 0 ≠ sec →
    ∃ t, exec (.todFrameStart k) s = .next t ∧ Out.tod k (s.get (SYN.TOD_CFG_TOD_BAUD k)) (s.todBytes k sec s.bound.heldMark.isSome) ∈ t.out ∧
      Keeps [] { s with syn := { s.syn with todNamed := setNth s.syn.todNamed k sec, todFrames := setNth s.syn.todFrames k (cut (s.todBytes k sec s.bound.heldMark.isSome) 4 16) } } t)

/-- The keep-alive domain, tamper triggers and the power warning: completion, with effects from chapters 14, 18 and 19 and frames. From
spec/19_current_ledger_and_keep_alive.md, The keep-alive domain; spec/19_current_ledger_and_keep_alive.md, Power warning;
spec/14_keys_and_authentication.md, Tamper zeroisation; spec/18_interrupts_and_faults.md, Asynchronous edge latches. It rests on readings and
choices of the model: log entries 27, 29, 126. -/
def Obligations.KeepAliveEventsComplete : Prop :=
  (∀ s : State,
    ∃ t, exec .vkeepLoss s = .next t ∧ t.flag KEEP.KEEP_STATUS_VKEEP_LOW = true ∧
      t.get TIME.KA_ALIGN_CNT = 0 ∧ t.get TIME.KA_ALIGN_TIME = 0 ∧ t.get TIME.KA_FREQ = 0 ∧
      Keeps [KEEP.KEEP_STATUS_VKEEP_LOW, TIME.KA_ALIGN_CNT, TIME.KA_ALIGN_TIME, TIME.KA_FREQ] { s with keep := { lost := true, present := false }, time := { s.time with kaCopy := none, kaFreqCopy := 0, kaWinStart := none } } t) ∧
  (∀ (s : State) (low : Bool),
    ∃ t, exec (.vkeepRise low) s = .next t ∧ t.flag KEEP.KEEP_STATUS_VKEEP_LOW = low ∧
      t.get TIME.KA_ALIGN_CNT = 0 ∧ t.get TIME.KA_ALIGN_TIME = 0 ∧ t.get TIME.KA_FREQ = 0 ∧
      Keeps [KEEP.KEEP_STATUS_VKEEP_LOW, TIME.KA_ALIGN_CNT, TIME.KA_ALIGN_TIME, TIME.KA_FREQ] { s with regs := s.regs.filter (fun p => !(isKeep p.1)), keep := { s.keep with latches := List.replicate 16 {}, present := true }, glb := { s.glb with posted := s.glb.posted.filter (fun w => decide (w.addr < 0x260000)) } } t) ∧
  (∀ (s : State) (p : TampIn) (ka : Nat), s.tamperArmed p ≠ 0 →
    ∃ t, exec (.tamperTrigger p ka) s = .next t ∧ t.flag KEY.KEY_STATUS_TAMPER = true ∧ t.key.trigger = true ∧ t.key.work = none ∧
      t.get KEY.TAMPER_CAUSE_PINS = s.tamperArmed p % 16 ∧
      (∀ n ∈ List.range 256, (s.keySlot n).state ≠ 0 → (t.keySlot n).state = 5 ∧ (t.keySlot n).mat = []) ∧ (∀ g ∈ t.nts.gens, g.nonceKey = none) ∧
      Only [.key, .nts, .hif, .vatc] (zeroFields ++ regBlock 0x220000 0x230000) s t) ∧
  (∀ (s : State) (p : TampIn) (ka : Nat), s.tamperArmed p = 0 →
    ∃ t, exec (.tamperTrigger p ka) s = .next t ∧ Keeps [] { s with key := { s.key with trigger := false } } t) ∧
  (∀ s : State, s.inReset = false → s.flag LEDGER.WARN_CFG_WARN_EN = true → s.flag LEDGER.LEDGER_STATUS_EMERG = false →
    ∃ t, exec (.pwrWarn true) s = .next t ∧ t.flag LEDGER.LEDGER_STATUS_WARN_PIN = false ∧ t.flag LEDGER.LEDGER_STATUS_EMERG = true ∧
      t.get LEDGER.EMERG_CNT = min (s.get LEDGER.EMERG_CNT + 1) (2 ^ 48 - 1) ∧
      Keeps [LEDGER.LEDGER_STATUS_WARN_PIN, LEDGER.LEDGER_STATUS_EMERG, LEDGER.EMERG_CNT] { s with ledger := { s.ledger with exitDue := false, warnStop := true } } t) ∧
  (∀ s : State, s.inReset = false →
    ∃ t, exec (.pwrWarn false) s = .next t ∧ t.flag LEDGER.LEDGER_STATUS_WARN_PIN = true ∧ Keeps [LEDGER.LEDGER_STATUS_WARN_PIN]
      { s with ledger := { s.ledger with highAt := if s.flag LEDGER.LEDGER_STATUS_WARN_PIN then s.ledger.highAt else s.mono } } t) ∧
  (∀ s : State, s.inReset = false → s.flag LEDGER.LEDGER_STATUS_EMERG = true → s.flag LEDGER.LEDGER_STATUS_WARN_PIN = true →
    s.reaches (s.ledger.highAt + (s.get LEDGER.WARN_CFG_WARN_HOLD_MS * 65536000000 : Nat)) = true →
    ∃ t, exec .emergExit s = .next t ∧ Keeps [] { s with ledger := { s.ledger with exitDue := true } } t) ∧
  (∀ (s : State) (i ka : Nat), i < 16 →
    ∃ t, exec (.kaLatchEdge i ka) s = .next t ∧ Keeps [] { s with keep := { s.keep with latches := setNth s.keep.latches i (if (nth s.keep.latches i {}).edges = 0 then { time := ka % 2 ^ 48, edges := 1 } else { nth s.keep.latches i {} with edges := min 255 ((nth s.keep.latches i {}).edges + 1) }) } } t) ∧
  (∀ (s : State) (i : Nat), s.inReset = false → i < 16 → (nth s.keep.latches i {}).edges ≠ 0 → (nth s.keep.latches i {}).edges < 256 →
    ∃ t, exec (.kaLatchTransfer i) s = .next t ∧ t.get (KEEP.LATCH_TIME i) = (nth s.keep.latches i {}).time % 2 ^ 48 ∧
      t.get (KEEP.LATCH_STAT_EDGES i) = (nth s.keep.latches i {}).edges ∧ t.flag (KEEP.LATCH_STAT_SET i) = true ∧ t.flag (IRQ.SRC_CFG_PENDING (288 + i)) = true ∧
      Keeps [KEEP.LATCH_TIME i, KEEP.LATCH_STAT_EDGES i, KEEP.LATCH_STAT_SET i] { s with keep := { s.keep with latches := setNth s.keep.latches i {} } } t) ∧
  (∀ (s : State) (n a : Nat), s.inReset = false →
    s.time.kaCopy.any (fun (p : KaPair) => (p.wide / 65536000000000 : Int) == s.targetUnits (a % 2 ^ 64) / 65536000000000) = false → s.flag TIME.TIME_STATUS_SET = true → s.flag TIME.TIME_STATUS_COARSE = false →
    ∃ t, exec (.kaAlign n a) s = .next t ∧ t.get TIME.KA_ALIGN_CNT = n % 2 ^ 48 ∧ t.get TIME.KA_ALIGN_TIME = a % 2 ^ 64 ∧ t.flag KEEP.KEEP_STATUS_XTAL_UNBROKEN = true ∧
      t.time.kaCopy = some ⟨n % 2 ^ 48, a % 2 ^ 64, (s.targetUnits (a % 2 ^ 64)).toNat⟩ ∧ t.time.kaMissed = s.time.kaMissed ∧
      Only [.time] [TIME.KA_ALIGN_CNT, TIME.KA_ALIGN_TIME, KEEP.KEEP_STATUS_XTAL_UNBROKEN, KEEP.KA_CNT] s t) ∧
  (∀ (s : State) (n a : Nat), s.inReset = false →
    s.time.kaCopy.any (fun (p : KaPair) => (p.wide / 65536000000000 : Int) == s.targetUnits (a % 2 ^ 64) / 65536000000000) = false → s.flag TIME.TIME_STATUS_SET = false ∨ s.flag TIME.TIME_STATUS_COARSE = true →
    ∃ t, exec (.kaAlign n a) s = .next t ∧ Keeps [] { s with time := { s.time with kaMissed := true } } t) ∧
  (∀ s : State, s.inReset = false →
    ∃ t, exec .kaFreqUpdate s = .next t ∧ t.time.kaWinStart = s.time.kaCopy ∧ t.time.kaMissed = false ∧
      (s.time.kaMissed = true → t.get TIME.KA_FREQ = s.get TIME.KA_FREQ ∧ t.time.kaFreqCopy = s.time.kaFreqCopy) ∧
      Only [.time] [TIME.KA_FREQ] s t) ∧
  (∀ s : State, s.inReset = false → s.flag LEDGER.WARN_CFG_WARN_EN = false ∨ s.flag LEDGER.LEDGER_STATUS_EMERG = true →
    ∃ t, exec (.pwrWarn true) s = .next t ∧ t.flag LEDGER.LEDGER_STATUS_WARN_PIN = false ∧
      Keeps [LEDGER.LEDGER_STATUS_WARN_PIN] { s with ledger := { s.ledger with exitDue := false } } t)

/-- A leap warning and the levels of the supply and the temperature: completion, with effects from chapters 3 and 18 and frames. From
spec/03_time_base.md, TAI, UTC and leap seconds; spec/18_interrupts_and_faults.md, Fault reporting. It rests on readings and choices of the
model: log entries 9, 19. -/
def Obligations.ConditionEventsComplete : Prop :=
  (∀ s : State, s.inReset = false → s.flag TIME.TIME_STATUS_LEAP_ARMED = true →
    s.targetUnits (s.get TIME.LEAP_TARGET) - (s.get TIME.LEAP_WARN : Int) * 65536000000000 ≤ s.time.next →
    ∃ t, exec .leapWarningStart s = .next t ∧
      ((s.units : Int) < s.targetUnits (s.get TIME.LEAP_TARGET) → s.get TIME.LEAP_WARN ≠ 0 → t.flag TIME.TIME_STATUS_LEAP_WARNING = true) ∧
      ((s.targetUnits (s.get TIME.LEAP_TARGET) : Int) ≤ s.units → t.flag TIME.TIME_STATUS_LEAP_WARNING = false) ∧
      Only [.time] (TIME.TIME_STATUS_LEAP_WARNING :: timeFields) s t) ∧
  (∀ (s : State) (rails : List Nat) (us : Nat), s.inReset = false →
    ∃ t, exec (.supply rails us) s = .next t ∧
      Keeps [] { s with flt := { s.flt with supply := if railsIn rails then s.flt.supply && decide (us < 100) else s.flt.supply || decide (2 ≤ us) } } t) ∧
  (∀ (s : State) (temp : Int), s.inReset = false →
    ∃ t, exec (.tempHigh temp) s = .next t ∧
      Keeps [] { s with flt := { s.flt with tempHigh := decide (115 * 16 < temp) || (s.flt.tempHigh && decide (110 * 16 ≤ temp)) } } t)

/-- An arriving frame is counted, staged or discarded: completion, with effects from chapter 11 and frames. From spec/11_ethernet_ports.md, The
headbox; spec/11_ethernet_ports.md, Store-and-forward. It rests on readings and choices of the model: log entries 77, 78. -/
def Obligations.FrameArrivalsComplete : Prop :=
  (∀ (s : State) (p : Nat) (b : List Byte) (at_ : Nat), s.inReset = false → p < 8 → s.get (MAC.PORT_CFG_RATE p) ≠ 3 → s.get (MAC.PORT_STATUS_LINK p) = 2 →
    ∃ t, exec (.frameRx p b false at_) s = .next t ∧ t.get (MAC.RX_FCS_ERR p) = min (s.get (MAC.RX_FCS_ERR p) + 1) (2 ^ 48 - 1) ∧
      Only [.time] (MAC.RX_FCS_ERR p :: timeFields) s t) ∧
  (∀ (s : State) (p : Nat) (b : List Byte) (at_ : Nat), s.inReset = false → p < 8 → s.get (MAC.PORT_CFG_RATE p) ≠ 3 → s.get (MAC.PORT_STATUS_LINK p) = 2 →
    b.length + 4 < 64 ∨ s.get (MAC.PORT_CFG_MAX_FRAME p) < b.length + 4 →
    ∃ t, exec (.frameRx p b true at_) s = .next t ∧ t.get (MAC.RX_OVERSIZE p) = min (s.get (MAC.RX_OVERSIZE p) + 1) (2 ^ 48 - 1) ∧
      Only [.time] (MAC.RX_OVERSIZE p :: timeFields) s t) ∧
  (∀ (s : State) (p : Nat) (b : List Byte) (at_ : Nat), s.inReset = false → p < 8 → s.get (MAC.PORT_CFG_RATE p) ≠ 3 → s.get (MAC.PORT_STATUS_LINK p) = 2 →
    64 ≤ b.length + 4 → b.length + 4 ≤ s.get (MAC.PORT_CFG_MAX_FRAME p) → s.mac.ports.length = 8 →
    s.headRule p b ∈ [1, 3, 8, 9] →
    ∃ t, exec (.frameRx p b true at_) s = .next t ∧ t.get (MAC.RX_FRAMES p) = min (s.get (MAC.RX_FRAMES p) + 1) (2 ^ 48 - 1) ∧
      (t.port p).rx = (s.port p).rx ++ [⟨s.headRule p b, b, ((at_ : Int) - s.portSize p 3).toNat, s.flag TIME.TIME_STATUS_COARSE⟩] ∧
      (8 ≤ s.headRule p b → t.get (MAC.RX_HOST p) = min (s.get (MAC.RX_HOST p) + 1) (2 ^ 48 - 1)) ∧
      (s.headRule p b = 3 → t.get (MAC.RX_TIMING p) = min (s.get (MAC.RX_TIMING p) + 1) (2 ^ 48 - 1)) ∧
      Only [.time, .mac] ([MAC.RX_FRAMES p, MAC.RX_HOST p, MAC.RX_TIMING p] ++ timeFields) s t) ∧
  (∀ (s : State) (p : Nat) (b : List Byte) (at_ : Nat), s.inReset = false → p < 8 → s.get (MAC.PORT_CFG_RATE p) ≠ 3 → s.get (MAC.PORT_STATUS_LINK p) = 2 →
    64 ≤ b.length + 4 → b.length + 4 ≤ s.get (MAC.PORT_CFG_MAX_FRAME p) → s.headRule p b ∈ [2, 10] →
    ∃ t, exec (.frameRx p b true at_) s = .next t ∧ t.get (MAC.RX_FRAMES p) = min (s.get (MAC.RX_FRAMES p) + 1) (2 ^ 48 - 1) ∧
      (if s.headRule p b = 2 ∧ beAt (ethParse b).payload 0 2 = 0x0101
        then t.get (MAC.PFC_RX p) = min (s.get (MAC.PFC_RX p) + 1) (2 ^ 48 - 1) ∧ t.get (MAC.RX_UNMATCHED p) = s.get (MAC.RX_UNMATCHED p)
        else t.get (MAC.RX_UNMATCHED p) = min (s.get (MAC.RX_UNMATCHED p) + 1) (2 ^ 48 - 1) ∧ t.get (MAC.PFC_RX p) = s.get (MAC.PFC_RX p)) ∧
      Only [.time] ([MAC.RX_FRAMES p, MAC.RX_UNMATCHED p, MAC.PFC_RX p] ++ timeFields) s t) ∧
  (∀ (s : State) (p : Nat) (b : List Byte) (at_ : Nat), s.inReset = false → p < 8 → s.get (MAC.PORT_CFG_RATE p) ≠ 3 → s.get (MAC.PORT_STATUS_LINK p) = 2 →
    64 ≤ b.length + 4 → b.length + 4 ≤ s.get (MAC.PORT_CFG_MAX_FRAME p) → s.mac.ports.length = 8 → 4 ≤ s.headRule p b → s.headRule p b ≤ 7 →
    2 ≤ s.mode → s.execMode ≠ 5 →
    (s.headRule p b ≤ 5 → ptpTypes.contains (ptpParse ⟨s.headRule p b, b, ((at_ : Int) - s.portSize p 3).toNat, s.flag TIME.TIME_STATUS_COARSE⟩).type = true) →
    ((s.port p).rx.filter (fun x => decide (4 ≤ x.rule) && decide (x.rule ≤ 7))).length < 2048 →
    (((s.port p).rx.filter (fun x => decide (4 ≤ x.rule) && decide (x.rule ≤ 7))).map (fun x => rxRoom x.bytes)).foldl (· + ·) (rxRoom b) ≤ 131072 →
    ∃ t, exec (.frameRx p b true at_) s = .next t ∧ t.get (MAC.RX_FRAMES p) = min (s.get (MAC.RX_FRAMES p) + 1) (2 ^ 48 - 1) ∧
      t.get (MAC.RX_TIMING p) = min (s.get (MAC.RX_TIMING p) + 1) (2 ^ 48 - 1) ∧
      (t.port p).rx = (s.port p).rx ++ [⟨s.headRule p b, b, ((at_ : Int) - s.portSize p 3).toNat, s.flag TIME.TIME_STATUS_COARSE⟩] ∧
      Only [.time, .mac] ([MAC.RX_FRAMES p, MAC.RX_TIMING p] ++ timeFields) s t) ∧
  (∀ (s : State) (p : Nat) (b : List Byte) (at_ : Nat), s.inReset = false → p < 8 → s.get (MAC.PORT_CFG_RATE p) ≠ 3 → s.get (MAC.PORT_STATUS_LINK p) = 2 →
    64 ≤ b.length + 4 → b.length + 4 ≤ s.get (MAC.PORT_CFG_MAX_FRAME p) → 4 ≤ s.headRule p b → s.headRule p b ≤ 7 → s.mode ≤ 1 →
    ∃ t, exec (.frameRx p b true at_) s = .next t ∧ t.get (MAC.RX_NOT_SERVING p) = min (s.get (MAC.RX_NOT_SERVING p) + 1) (2 ^ 48 - 1) ∧
      Only [.time] ([MAC.RX_FRAMES p, MAC.RX_TIMING p, MAC.RX_NOT_SERVING p] ++ timeFields) s t)

/-- PAUSE, its watchdog and LPI: completion, with effects from chapter 11 and frames. From spec/11_ethernet_ports.md, PAUSE and the watchdog;
spec/11_ethernet_ports.md, Energy-Efficient Ethernet. It rests on readings and choices of the model: log entries 79, 81, 82. -/
def Obligations.PauseEventsComplete : Prop :=
  (∀ (s : State) (p : Nat) (r : RxFrame), s.inReset = false → p < 8 → s.mac.ports.length = 8 → (s.port p).rx.find? (isRule 1) = some r →
    (s.charge 1 30).isSome = true →
    ∃ t, exec (.pauseRx p) s = .next t ∧ t.get (MAC.PAUSE_RX p) = min (s.get (MAC.PAUSE_RX p) + 1) (2 ^ 48 - 1) ∧ (t.port p).rx = (s.port p).rx.erase r ∧
      (s.flag (MAC.PAUSE_CFG_RX_EN p) = true → s.flag (MAC.PORT_STATUS_PAUSE_OVERRIDE p) = false →
        t.flag (MAC.PORT_STATUS_PAUSED p) = (beAt (ethParse r.bytes).payload 2 2 != 0) ∧
        (t.port p).pauseEnd = (if beAt (ethParse r.bytes).payload 2 2 = 0 then none else
          some (((r.time : Int) + s.portSize p 3).toNat + wireUnits (s.get (MAC.PORT_CFG_RATE p)) (r.bytes.length + 4) +
            wireUnits (s.get (MAC.PORT_CFG_RATE p)) (64 * beAt (ethParse r.bytes).payload 2 2)))) ∧
      (s.flag (MAC.PAUSE_CFG_RX_EN p) = false ∨ s.flag (MAC.PORT_STATUS_PAUSE_OVERRIDE p) = true →
        t.flag (MAC.PORT_STATUS_PAUSED p) = s.flag (MAC.PORT_STATUS_PAUSED p) ∧ (t.port p).pauseEnd = (s.port p).pauseEnd) ∧
      Only [.mac] [MAC.PAUSE_RX p, MAC.PORT_STATUS_PAUSED p] s t) ∧
  (∀ (s : State) (p e : Nat), s.inReset = false → p < 8 → s.mac.ports.length = 8 → (s.port p).pauseEnd = some e → e ≤ s.time.next →
    ∃ t, exec (.pauseExpire p) s = .next t ∧ t.flag (MAC.PORT_STATUS_PAUSED p) = false ∧ (t.port p).pauseEnd = none ∧
      Only [.mac, .time] (MAC.PORT_STATUS_PAUSED p :: timeFields) s t) ∧
  (∀ (s : State) (p e : Nat), s.inReset = false → p < 8 → s.mac.ports.length = 8 → s.flag (MAC.PORT_STATUS_PAUSED p) = true → (s.port p).pauseEnd = some e →
    (s.port p).pauseFrom + nsU (1000 * s.get (MAC.PAUSE_CFG_WD_US p)) < e →
    (s.port p).pauseFrom + nsU (1000 * s.get (MAC.PAUSE_CFG_WD_US p)) < s.time.next →
    ∃ t, exec (.pauseStorm p) s = .next t ∧ t.flag (MAC.PORT_STATUS_PAUSED p) = false ∧ t.flag (MAC.PORT_STATUS_PAUSE_OVERRIDE p) = true ∧
      (t.port p).pauseEnd = none ∧ t.get (MAC.PAUSE_WD_TRIP p) = min (s.get (MAC.PAUSE_WD_TRIP p) + 1) (2 ^ 48 - 1) ∧
      Only [.mac, .time] ([MAC.PORT_STATUS_PAUSED p, MAC.PORT_STATUS_PAUSE_OVERRIDE p, MAC.PAUSE_WD_TRIP p] ++ timeFields) s t) ∧
  (∀ (s : State) (p e : Nat), s.inReset = false → p < 8 → s.mac.ports.length = 8 → (s.port p).overrideEnd = some e → e ≤ s.time.next →
    ∃ t, exec (.pauseHoldoffEnd p) s = .next t ∧ t.flag (MAC.PORT_STATUS_PAUSE_OVERRIDE p) = false ∧ (t.port p).overrideEnd = none ∧
      Only [.mac, .time] (MAC.PORT_STATUS_PAUSE_OVERRIDE p :: timeFields) s t) ∧
  (∀ (s : State) (p : Nat), s.inReset = false → p < 8 → s.flag (MAC.EEE_CFG_EN p) = true → s.get (MAC.EEE_CFG_LINK_KIND p) = 1 ∨ s.get (MAC.EEE_CFG_LINK_KIND p) = 2 →
    s.get (MAC.PORT_STATUS_LINK p) = 2 → s.flag (MAC.PORT_STATUS_LPI_TX p) = false → (s.port p).unsched = [] → s.flag SHEET.SHEET_STATUS_PENDING = false →
    nextLaunch (s.look p) s.units = none → (s.port p).wireFree ≤ s.units →
    ∃ t, exec (.lpiEnter p) s = .next t ∧ t.flag (MAC.PORT_STATUS_LPI_TX p) = true ∧
      t.get (MAC.LPI_ENTRY p) = min (s.get (MAC.LPI_ENTRY p) + 1) (2 ^ 48 - 1) ∧ Keeps [MAC.PORT_STATUS_LPI_TX p, MAC.LPI_ENTRY p] s t) ∧
  (∀ (s u : State) (p : Nat), s.inReset = false → p < 8 → s.mac.ports.length = 8 → s.flag (MAC.PORT_STATUS_LPI_TX p) = true →
    u = s.advanceTo (min (s.wakeFrom p) s.time.next) →
    ∃ t, exec (.lpiWake p) s = .next t ∧ t.flag (MAC.PORT_STATUS_LPI_TX p) = false ∧ (t.port p).wakeAt = u.units + s.wakeTime p ∧
      Only [.mac, .time] (MAC.PORT_STATUS_LPI_TX p :: timeFields) s t)

/-- Delay requests, Signaling and management messages are answered: completion, with effects from chapter 12 and frames. From spec/12_ptp_service.md,
Delay requests; spec/12_ptp_service.md, Unicast negotiation; spec/12_ptp_service.md, Management messages. It rests on readings and choices of the
model: log entries 84, 86, 100. -/
def Obligations.RequestMessagesComplete : Prop :=
  (∀ (s : State) (p n : Nat) (r : RxFrame) (c : Client), s.Waiting p (isPtp [1]) 1 300 r → s.TakesPtp p (ptpParse r) (some (n, c)) →
    (ptpParse r).group = false → c.valid = true → c.stale = false → c.dual = false → s.live c 9 = true →
    (if c.seen = s.taiSec % 65536 then c.dresp.cnt else 0) < drespLimit c.dresp.log → n < 1048576 → s.vat.wf = true → s.vatMay 7 (64 * n) 64 true = true →
    ∃ t, exec (.delayReqRx p) s = .next t ∧
      s.Queued t p r (.ptp {
        type := 9, record := some n, dest := s.replyDest p 9 (ptpParse r) none true, seq := beAt (ptpParse r).msg 30 2,
        corr := toS 64 (beAt (ptpParse r).msg 8 8), time := (ptpParse r).time, peer := (ptpParse r).portId, log := c.dresp.log, unicast := !c.multicast }) ∧
      (Client.ofBytes (t.vat.reads (64 * n) 64)).dresp.cnt = min 255 ((if c.seen = s.taiSec % 65536 then c.dresp.cnt else 0) + 1) ∧
      (Client.ofBytes (t.vat.reads (64 * n) 64)).seen = s.taiSec % 65536 ∧
      VatSame [(64 * n, 64 * n + 64)] s t ∧ Only [.vat, .mac, .ptp] [PTP.NEG_PENDING, VAT.RMW_CNT] s t) ∧
  (∀ (s : State) (p : Nat) (r : RxFrame) (c : Found), s.Waiting p (isPtp [2]) 1 300 r → s.TakesPtp p (ptpParse r) c →
    (ptpParse r).transport = 0 → s.get PTP.PTP_CFG_PROFILE = 0 → bitOf (s.get PTP.PTP_CFG_P2P_MASK) p = true → s.ptp.pdelay.length = 8 →
    (if (nth s.ptp.pdelay p (0, 0)).1 = s.taiSec then (nth s.ptp.pdelay p (0, 0)).2 else 0) < s.get PTP.PDELAY_CFG →
    ∃ t, exec (.pdelayReqRx p) s = .next t ∧
      s.Queued t p r (.ptp {
        type := 3, record := none, dest := s.replyDest p 3 (ptpParse r) none true, seq := beAt (ptpParse r).msg 30 2,
        corr := toS 64 (beAt (ptpParse r).msg 8 8), time := (ptpParse r).time, peer := (ptpParse r).portId, unicast := false,
        twoStep := bitOf (s.get PTP.PTP_CFG_P2P_TWO_STEP) p }) ∧
      nth t.ptp.pdelay p (0, 0) = (s.taiSec, (if (nth s.ptp.pdelay p (0, 0)).1 = s.taiSec then (nth s.ptp.pdelay p (0, 0)).2 else 0) + 1) ∧
      Only [.mac, .ptp] [PTP.NEG_PENDING] s t) ∧
  (∀ (s : State) (p n off : Nat) (v : List Byte) (r : RxFrame) (c : Client), s.Waiting p (isPtp [0xC]) 1 300 r → s.TakesPtp p (ptpParse r) (some (n, c)) →
    s.get PTP.PTP_CFG_PROFILE ≠ 1 → cut (ptpParse r).msg 34 10 = List.replicate 10 0xFF ∨ cut (ptpParse r).msg 34 10 = s.portId p →
    s.get PTP.NEG_PENDING < 4096 → c.stale = false → c.dual = false → (ptpParse r).tlvs = [(4, off, v)] → 6 ≤ v.length →
    beAt v 0 1 / 16 ∈ [0, 9, 0xB] → s.logOk (beAt v 0 1 / 16) (s8 (beAt v 1 1)) = true →
    (match s.boundPool n c with
      | some i => s.fits i p (beAt v 0 1 / 16) (s8 (beAt v 1 1))
      | none => s.ptp.byHost.contains n) = true →
    ∃ t, exec (.signalingRx p) s = .next t ∧
      s.Queued t p r (.ptp {
        type := 0xC, record := some n, dest := s.replyDest p 0xC (ptpParse r) none false, seq := 0, peer := (ptpParse r).portId,
        tlvs := grantTlv (beAt v 0 1 / 16) (beAt v 1 1) (min (beAt v 2 4) (s.get PTP.GRANT_CFG_DUR_MAX)), neg := 1, unicast := !c.multicast }) ∧
      t.ptp.due = s.ptp.due ++ [.grant n (beAt v 0 1 / 16) ((s.taiEdge + min (beAt v 2 4) (s.get PTP.GRANT_CFG_DUR_MAX) + 1) % 2 ^ 32) (beAt v 1 1)
        (s.live c (beAt v 0 1 / 16))] ∧
      t.get PTP.GRANT_CNT = min (s.get PTP.GRANT_CNT + 1) (2 ^ 48 - 1) ∧
      VatSame [(64 * n, 64 * n + 64)] s t ∧ Only [.vat, .mac, .ptp] [PTP.GRANT_CNT, PTP.NEG_PENDING, VAT.RMW_CNT] s t) ∧
  (∀ (s : State) (p n off : Nat) (v : List Byte) (r : RxFrame) (c : Client), s.Waiting p (isPtp [0xC]) 1 300 r → s.TakesPtp p (ptpParse r) (some (n, c)) →
    s.get PTP.PTP_CFG_PROFILE ≠ 1 → cut (ptpParse r).msg 34 10 = List.replicate 10 0xFF ∨ cut (ptpParse r).msg 34 10 = s.portId p →
    s.get PTP.NEG_PENDING < 4096 → c.stale = false → c.dual = false → (ptpParse r).tlvs = [(6, off, v)] → beAt v 0 1 / 16 ∈ [0, 9, 0xB] →
    s.upFrom p (ptpParse r) = none →
    ∃ t, exec (.signalingRx p) s = .next t ∧
      s.Queued t p r (.ptp {
        type := 0xC, record := some n, dest := s.replyDest p 0xC (ptpParse r) none false, seq := 0, peer := (ptpParse r).portId,
        tlvs := cancelTlv true (beAt v 0 1 / 16), neg := 1, unicast := !c.multicast }) ∧
      t.ptp.due = s.ptp.due ++ [.cancel n (beAt v 0 1 / 16)] ∧ t.get PTP.CANCEL_CNT = min (s.get PTP.CANCEL_CNT + 1) (2 ^ 48 - 1) ∧
      VatSame [(64 * n, 64 * n + 64)] s t ∧ Only [.vat, .mac, .ptp] [PTP.CANCEL_CNT, PTP.NEG_PENDING, VAT.RMW_CNT] s t) ∧
  (∀ (s : State) (p : Nat) (r : RxFrame) (c : Found), s.Waiting p (isPtp [0xD]) 1 300 r → s.TakesPtp p (ptpParse r) c →
    ∃ t, exec (.managementRx p) s = .next t ∧ t.get PTP.MGMT_FWD_CNT = min (s.get PTP.MGMT_FWD_CNT + 1) (2 ^ 48 - 1) ∧
      (t.port p).rx = (s.port p).rx.erase r ∧ s.HostGets t p r ∧
      Only [.mac, .hif] [PTP.MGMT_FWD_CNT, HIF.RX_NO_RING_CNT, HIF.RX_HOLD_FULL_CNT, HIF.DMA_ERR_CNT] s t)

/-- NTP requests, address resolution and ESMC messages are taken and sent: completion, with effects from chapters 7 and 13 and frames. From
spec/13_ntp_nts_service.md, Accepting a request; spec/13_ntp_nts_service.md, ARP and neighbour discovery; spec/07_reference_selection.md, SyncE
quality levels and ESMC. It rests on readings and choices of the model: log entries 111, 118, 119. -/
def Obligations.AddressMessagesComplete : Prop :=
  (∀ (s : State) (p : Nat) (r : RxFrame) (u : UdpIn) (x : List (Nat × Nat × List Byte)), s.Waiting p (isRule 6) 2 300 r → servingMode s.mode = true →
    udpParse (ethParse r.bytes) = some u → 48 ≤ u.payload.length → u.payload.length ≤ 1024 →
    beAt u.payload 0 1 / 8 % 8 = 3 ∨ beAt u.payload 0 1 / 8 % 8 = 4 → beAt u.payload 0 1 % 8 = 3 → extWalk u.payload u.payload.length 48 = some x →
    x.any (fun f => [0x0104, 0x0204, 0x0304, 0x0404].contains f.1) = false → s.flag NTS.NTS_CFG_PLAIN_EN = true →
    (s.flag NTS.NTS_CFG_RL_EN = true → s.hasToken (s.rateNow (s.bucketOf u.v6 u.src)).1 = true) →
    ∃ t, exec (.ntpRequestRx p) s = .next t ∧
      s.Queued t p r (.ntp { kind := 0, dest := s.ntpDest (ethParse r.bytes) u, req := u.payload.take 48, time := r.time,
                             mark := s.get BOUND.WM_NTP != 0 && decide (92 ≤ u.payload.length) }) ∧
      (s.flag NTS.NTS_CFG_RL_EN = false → Only [.mac] [NTS.WM_OMIT_CNT] s t) ∧
      Only [.mac, .nts, .vat] [NTS.WM_OMIT_CNT, VAT.RMW_CNT] s t) ∧
  (∀ (s : State) (p : Nat) (r : RxFrame), s.Waiting p (isArp true) 2 300 r → servingMode s.mode = true → beAt (ethParse r.bytes).payload 0 6 = 0x000108000604 →
    beAt (ethParse r.bytes).payload 6 2 = 1 → (s.ta4 p).contains (cut (ethParse r.bytes).payload 24 4) = true →
    (s.ta4 p).contains (cut (ethParse r.bytes).payload 14 4) = false ∨ cut (ethParse r.bytes).payload 8 6 = s.portMac p →
    ∃ t, exec (.arpRx p) s = .next t ∧ t.get NTS.ARP_ANS_CNT = min (s.get NTS.ARP_ANS_CNT + 1) (2 ^ 48 - 1) ∧
      (t.port p).rx = (s.port p).rx.erase r ∧
      (t.port p).unsched.map (·.bytes) = (s.port p).unsched.map (·.bytes) ++ [s.arpOut p 2 (cut (ethParse r.bytes).payload 8 6) (ethParse r.bytes).tci
        (cut (ethParse r.bytes).payload 24 4) (cut (ethParse r.bytes).payload 8 6) (cut (ethParse r.bytes).payload 14 4)] ∧
      Only [.mac] [NTS.ARP_ANS_CNT] s t) ∧
  (∀ (s : State) (p : Nat) (r : RxFrame) (q : Nat × List Byte × List Byte), s.Waiting p (isArp false) 2 300 r → servingMode s.mode = true →
    icmpParse (ethParse r.bytes) = some q → q.1 = 255 → (s.ta6 p).contains (cut q.2.2 8 16) = true → beAt q.2.2 0 1 = 135 →
    ∃ t, exec (.ndRx p) s = .next t ∧ t.get NTS.ND_ANS_CNT = min (s.get NTS.ND_ANS_CNT + 1) (2 ^ 48 - 1) ∧ (t.port p).rx = (s.port p).rx.erase r ∧
      (t.port p).unsched.map (·.bytes) = (s.port p).unsched.map (·.bytes) ++ [
        if q.2.1 = List.replicate 16 0 then s.naOut p (groupMac allNodes) (ethParse r.bytes).tci (cut q.2.2 8 16) allNodes false
        else s.naOut p (ethParse r.bytes).src (ethParse r.bytes).tci (cut q.2.2 8 16) q.2.1 true] ∧
      Only [.mac] [NTS.ND_ANS_CNT] s t) ∧
  (∀ (s : State) (p : Nat) (r : RxFrame) (q : Nat × Nat), s.Waiting p (isRule 3) 1 500 r → esmcParse (ethParse r.bytes).payload = some q →
    ∃ t, exec (.esmcPduRx p) s = .next t ∧ t.get (REFSEL.REF_STAT_RX_SSM (5 + p)) = q.1 ∧ t.get (REFSEL.REF_STAT_RX_ESSM (5 + p)) = q.2 ∧
      (t.port p).rx = (s.port p).rx.erase r ∧
      Only [.mac, .ref] [REFSEL.REF_STAT_RX_SSM (5 + p), REFSEL.REF_STAT_RX_ESSM (5 + p), REFSEL.REF_STAT_CAUSE (5 + p), REFSEL.REF_STAT_STATE (5 + p),
        REFSEL.REF_TIMER (5 + p)] s t) ∧
  (∀ (s : State) (p : Nat) (r : RxFrame), s.Waiting p (isRule 3) 1 500 r → esmcParse (ethParse r.bytes).payload = none →
    ∃ t, exec (.esmcPduRx p) s = .next t ∧ t.get REFSEL.ESMC_BAD_CNT = min (s.get REFSEL.ESMC_BAD_CNT + 1) (2 ^ 48 - 1) ∧
      (t.port p).rx = (s.port p).rx.erase r ∧ Only [.mac] [REFSEL.ESMC_BAD_CNT] s t) ∧
  (∀ (s : State) (p : Nat), s.inReset = false → s.mac.ports.length = 8 → s.esmcOn p = true →
    (if (s.port p).esmcSec = s.taiSec then (s.port p).esmcN else 0) < 10 →
    ∃ t, exec (.esmcTxSecond p) s = .next t ∧ (t.port p).unsched.map (fun f => esmcParse (ethParse f.bytes).payload) = (s.port p).unsched.map (fun f => esmcParse (ethParse f.bytes).payload) ++
        [some ((s.txQl p).1 % 16, if s.flag REFSEL.TX_QL_CFG2_EXT_TLV then (s.txQl p).2 % 256 else 0xFF)] ∧ Only [.mac] [] s t) ∧
  (∀ (s : State) (p : Nat) , s.inReset = false → s.mac.ports.length = 8 → s.esmcOn p = true →
    (s.port p).qlDue = true → (if (s.port p).esmcSec = s.taiSec then (s.port p).esmcN else 0) < 10 →
    ∃ t, exec (.esmcEventPduTx p) s = .next t ∧ (t.port p).qlDue = false ∧
      (t.port p).unsched.map (fun f => esmcParse (ethParse f.bytes).payload) = (s.port p).unsched.map (fun f => esmcParse (ethParse f.bytes).payload) ++
        [some ((s.txQl p).1 % 16, if s.flag REFSEL.TX_QL_CFG2_EXT_TLV then (s.txQl p).2 % 256 else 0xFF)] ∧ Only [.mac] [] s t)

/-- Host frames are received, stalled, transmitted and sent on the wire: completion, with effects from chapters 11 and 16 and frames. From
spec/16_host_interface.md, Receive; spec/16_host_interface.md, Transmit; spec/11_ethernet_ports.md, Sharing the wire. It rests on readings and
choices of the model: log entries 120, 139, 141, 142. -/
def Obligations.HostFramesComplete : Prop :=
  (∀ (s : State) (p : Nat) (r : RxFrame), s.Waiting p (isRule 8) 3 (150 + 8 * ((r.bytes.length + 63) / 64)) r →
    ∃ t, exec (.lldpRx p) s = .next t ∧ (t.port p).rx = (s.port p).rx.erase r ∧ s.HostGets t p r ∧
      (∀ e ∈ eeeTlv (ethParse r.bytes).payload (ethParse r.bytes).payload.length,
        t.get (MAC.EEE_PARTNER_TX_TW p) = e.1 ∧ t.get (MAC.EEE_PARTNER_RX_TW p) = e.2) ∧
      Only [.mac, .hif] [MAC.EEE_PARTNER_TX_TW p, MAC.EEE_PARTNER_RX_TW p, HIF.RX_NO_RING_CNT, HIF.RX_HOLD_FULL_CNT, HIF.DMA_ERR_CNT] s t) ∧
  (∀ (s : State) (p : Nat) (r : RxFrame), s.Waiting p (isRule 9) 3 (150 + 8 * ((r.bytes.length + 63) / 64)) r →
    ∃ t, exec (.hostFrameRx p) s = .next t ∧ (t.port p).rx = (s.port p).rx.erase r ∧ s.HostGets t p r ∧
      Only [.mac, .hif] [HIF.RX_NO_RING_CNT, HIF.RX_HOLD_FULL_CNT, HIF.DMA_ERR_CNT] s t) ∧
  (∀ (s : State) (n : Nat) (f : RxHold), s.inReset = false → s.hif.rxHeld.filter (fun g => g.ring == n) = [f] → s.get HIF.HIF_CFG_RX_STALL_SHEETS ≤ f.stall →
    ∃ t, exec (.rxStallTimeout n) s = .next t ∧ t.get HIF.RX_DISCARD_CNT = min (s.get HIF.RX_DISCARD_CNT + 1) (2 ^ 48 - 1) ∧
      t.hif.rxHeld = s.hif.rxHeld.filter (fun g => g.ring != n) ∧ Only [.hif] [HIF.RX_DISCARD_CNT, HIF.DMA_ERR_CNT] s t) ∧
  (∀ (s : State) (x : TxIn) (fs : List (List Byte)), s.inReset = false → s.ringRuns x.ring = true → s.get (HIF.RING_CFG_TYPE x.ring) = 8 →
    s.ringBme x.ring = true → (s.charge 3 (txStock x)).isSome = true → x.descs ≤ 64 → x.port < 8 → s.mac.ports.length = 8 →
    bitOf (s.get (HIF.RING_CFG_PORT_MASK x.ring)) x.port = true → x.dmaOk = true → s.txFrames x = some fs →
    s.get (MAC.PORT_CFG_RATE x.port) ≠ 3 → s.get (MAC.PORT_STATUS_LINK x.port) = 2 →
    ∃ t, exec (.txFrame x) s = .next t ∧
      (t.port x.port).unsched.map (fun f => (f.bytes, f.tc, f.engine)) = (s.port x.port).unsched.map (fun f => (f.bytes, f.tc, f.engine)) ++
        fs.map (fun b => (b, s.txClass x, false)) ∧
      Only [.mac] [] s t) ∧
  (∀ (s u : State) (p time : Nat) (f : UFrame), s.inReset = false → p < 8 → s.mac.ports.length = 8 → s.get (MAC.PORT_CFG_RATE p) ≠ 3 →
    s.get (MAC.PORT_STATUS_LINK p) = 2 → u = s.advanceTo (min time s.time.next) →
    ((List.range 8).reverse.filterMap (fun tc => (s.port p).head tc)).find? (u.mayStart p u.units) = some f → f.kind = .plain →
    ∃ t, exec (.unschedFrameStart p time) s = .next t ∧ Out.frame p u.units f.bytes ∈ t.out ∧ (t.port p).unsched = (s.port p).unsched.erase f ∧
      (t.port p).wireFree = u.units + holdUnits (s.get (MAC.PORT_CFG_RATE p)) (f.bytes.length + 4) ∧
      t.get (MAC.TX_UNSCHED p) = min (s.get (MAC.TX_UNSCHED p) + 1) (2 ^ 48 - 1) ∧ Only [.mac, .time] (MAC.TX_UNSCHED p :: timeFields) s t)

/-- The upstream port takes Announce, Sync and delay messages and asks for them: completion, with effects from chapter 12 and frames. From
spec/12_ptp_service.md, The upstream port in BOUNDARY. It rests on readings and choices of the model: log entries 87, 105, 106, 107, 108. -/
def Obligations.UpstreamCommandsComplete : Prop :=
  (∀ (s : State) (p k : Nat) (r : RxFrame) (c : Found), s.Waiting p (isPtp [0xB]) 1 300 r → s.TakesPtp p (ptpParse r) c →
    s.upFrom p (ptpParse r) = some k → s.ptp.up.masters.length = 4 →
    ∃ t, exec (.upstreamAnnounceRx p) s = .next t ∧ (t.upM k).ann = some (upAnnOf (ptpParse r)) ∧ (t.upM k).mac = (ptpParse r).smac ∧
      t.flag (PTP.UP_MSTAT_CANDIDATE k) = true ∧ t.get (PTP.UP_MSTAT_CLOCK_CLASS k) = beAt (ptpParse r).msg 48 1 ∧ t.upChosen = t.upBest ∧
      (t.port p).rx = (s.port p).rx.erase r ∧
      Only [.vat, .mac, .ptp, .ref] [PTP.UP_MSTAT_CANDIDATE k, PTP.UP_MSTAT_GRANTED k, PTP.UP_MSTAT_CLOCK_CLASS k, PTP.PTP_STATUS_UP_MASTER,
        PTP.PTP_STATUS_UP_MASTER_VALID, REFSEL.REF_STAT_CAUSE 13, REFSEL.REF_STAT_STATE 13, REFSEL.REF_TIMER 13, VAT.RMW_CNT] s t) ∧
  (∀ (s : State) (p k : Nat) (r : RxFrame) (c : Found), s.Waiting p (isPtp [0, 8]) 1 300 r → s.TakesPtp p (ptpParse r) c →
    s.upFrom p (ptpParse r) = some k → s.upChosen = some k → (ptpParse r).type = 0 → msgTwoStep (ptpParse r) = false →
    ∃ t, exec (.upstreamSyncRx p) s = .next t ∧
      t.ptp.up.fwd = some (((ptpParse r).time : Int) - msgTime (ptpParse r) - msgCorr (ptpParse r)) ∧ t.ptp.up.wait = none ∧
      (t.port p).rx = (s.port p).rx.erase r ∧
      Only [.vat, .mac, .ptp, .ref] [PTP.UP_MSTAT_CANDIDATE k, PTP.UP_MSTAT_GRANTED k, PTP.UP_OFFSET, PTP.UP_BOUND, VAT.RMW_CNT] s t) ∧
  (∀ (s : State) (p k : Nat) (r : RxFrame) (c : Found), s.Waiting p (isPtp [0, 8]) 1 300 r → s.TakesPtp p (ptpParse r) c →
    s.upFrom p (ptpParse r) = some k → s.upChosen = some k → (ptpParse r).type = 0 → msgTwoStep (ptpParse r) = true →
    ∃ t, exec (.upstreamSyncRx p) s = .next t ∧ t.ptp.up.fwd = s.ptp.up.fwd ∧
      t.ptp.up.wait.map (fun w => (w.master, w.seq, w.t2, w.corr)) =
        some (k, beAt (ptpParse r).msg 30 2, (ptpParse r).time, msgCorr (ptpParse r)) ∧
      Only [.vat, .mac, .ptp] [PTP.UP_MSTAT_CANDIDATE k, PTP.UP_MSTAT_GRANTED k, VAT.RMW_CNT] s t) ∧
  (∀ (s : State) (p k : Nat) (r : RxFrame) (c : Found) (w : UpSync), s.Waiting p (isPtp [0, 8]) 1 300 r → s.TakesPtp p (ptpParse r) c →
    s.upFrom p (ptpParse r) = some k → s.upChosen = some k → (ptpParse r).type = 8 → s.ptp.up.wait = some w → w.master = k →
    w.seq = beAt (ptpParse r).msg 30 2 →
    ∃ t, exec (.upstreamSyncRx p) s = .next t ∧ t.ptp.up.wait = none ∧
      t.ptp.up.fwd = some ((w.t2 : Int) - msgTime (ptpParse r) - (w.corr + msgCorr (ptpParse r))) ∧
      Only [.vat, .mac, .ptp, .ref] [PTP.UP_MSTAT_CANDIDATE k, PTP.UP_MSTAT_GRANTED k, PTP.UP_OFFSET, PTP.UP_BOUND, VAT.RMW_CNT] s t) ∧
  (∀ (s : State) (p k : Nat) (r : RxFrame) (c : Found) (q : UpReq) (f : Int), s.Waiting p (isPtp [9, 3, 0xA]) 1 300 r → s.TakesPtp p (ptpParse r) c →
    (ptpParse r).type = 9 → s.upFrom p (ptpParse r) = some k → s.ptp.up.req = some q → s.upP2p = false → q.master = k →
    beAt (ptpParse r).msg 30 2 = q.seq → cut (ptpParse r).msg 44 10 = s.portId p → s.ptp.up.fwd = some f →
    ∃ t, exec (.upstreamDelayRespRx p) s = .next t ∧ t.ptp.up.req = none ∧
      t.ptp.up.delays = ((((f + ((msgTime (ptpParse r) : Int) - q.sent - msgCorr (ptpParse r)) : Int) : Rat) / 2) * 1000 / 65536 :: s.ptp.up.delays).take
        (s.get PTP.UP_CFG2_PD_WIN) ∧
      Only [.vat, .mac, .ptp] [PTP.UP_MSTAT_CANDIDATE k, PTP.UP_MSTAT_GRANTED k, PTP.UP_DELAY, VAT.RMW_CNT] s t) ∧
  (∀ (s : State) (p : Nat) (r : RxFrame) (c : Found) (q : UpReq), s.Waiting p (isPtp [9, 3, 0xA]) 1 300 r → s.TakesPtp p (ptpParse r) c →
    (ptpParse r).type = 3 → (ptpParse r).transport = 0 → s.upRuns = true → p = s.get PTP.UP_CFG_PORT → s.upP2p = true → s.ptp.up.req = some q →
    beAt (ptpParse r).msg 30 2 = q.seq → cut (ptpParse r).msg 44 10 = s.portId p → msgTwoStep (ptpParse r) = false →
    ∃ t, exec (.upstreamDelayRespRx p) s = .next t ∧ t.ptp.up.req = none ∧
      t.ptp.up.delays = (((((ptpParse r).time : Int) - q.sent - msgCorr (ptpParse r) : Int) : Rat) / 2 * 1000 / 65536 :: s.ptp.up.delays).take
        (s.get PTP.UP_CFG2_PD_WIN) ∧
      Only [.vat, .mac, .ptp] ((List.range 4).map PTP.UP_MSTAT_CANDIDATE ++ (List.range 4).map PTP.UP_MSTAT_GRANTED ++ [PTP.UP_DELAY, VAT.RMW_CNT]) s t) ∧
  (∀ (s : State) (k : Nat), s.inReset = false → s.upRuns = true → s.get PTP.UP_CFG_PORT < 8 → s.mac.ports.length = 8 →
    s.get (MAC.PORT_STATUS_LINK (s.get PTP.UP_CFG_PORT)) = 2 → s.upP2p = true ∨ s.upChosen = some k →
    ∃ t, exec (.upstreamDelayReqTx k) s = .next t ∧ t.ptp.up.reqSeq = (s.ptp.up.reqSeq + 1) % 65536 ∧
      (t.port (s.get PTP.UP_CFG_PORT)).unsched = (s.port (s.get PTP.UP_CFG_PORT)).unsched ++ [{
        tc := s.get PTP.UP_CFG_UP_TC, engine := true,
        bytes := s.upFrame (s.get PTP.UP_CFG_PORT) (if s.upP2p then 2 else 1) k s.ptp.up.reqSeq 0 [] [],
        kind := if s.upP2p then .pdelayReq k s.ptp.up.reqSeq else .delayReq k s.ptp.up.reqSeq }] ∧
      Only [.mac, .ptp] [] s t) ∧
  (∀ (s : State) (k type : Nat), s.inReset = false → s.upRuns = true → s.flag PTP.UP_CFG_NEGOTIATE = true → k ≤ 3 → s.flag (PTP.UP_MCFG_EN k) = true →
    type ∈ [0, 9, 0xB] →
    ((upGrantOf type).bind (fun i => nth (s.upM k).grants i none)).any (fun e =>
      !s.reaches (e - ((s.get PTP.UP_CFG2_UP_DURATION * secU / 2 : Nat) : Int))) = false → s.get PTP.UP_CFG_PORT < 8 → s.mac.ports.length = 8 → s.get (MAC.PORT_STATUS_LINK (s.get PTP.UP_CFG_PORT)) = 2 →
    ∃ t, exec (.upstreamGrantRenew k type) s = .next t ∧ t.ptp.up.sigSeq = (s.ptp.up.sigSeq + 1) % 65536 ∧
      (t.port (s.get PTP.UP_CFG_PORT)).unsched.map (·.bytes) = (s.port (s.get PTP.UP_CFG_PORT)).unsched.map (·.bytes) ++ [
        s.upFrame (s.get PTP.UP_CFG_PORT) 0xC k s.ptp.up.sigSeq 0 (beBytes 10 (Config.upTarget k))
          (beBytes 2 4 ++ beBytes 2 6 ++ beBytes 1 (type * 16) ++
            beBytes 1 (if type = 0 then s.get PTP.UP_CFG_SYNC_LOG else if type = 9 then s.get PTP.UP_CFG_DREQ_LOG else Config.upAnnounceLog % 256) ++
            beBytes 4 (s.get PTP.UP_CFG2_UP_DURATION))] ∧
      Only [.mac, .ptp] [] s t) ∧
  (∀ (s : State) (k : Nat), s.inReset = false → k < 4 → s.ptp.up.masters.length = 4 → (s.upM k).ann.any (fun a => a.log == 127 || s.reaches ((s.upM k).annAt + 3 * a.interval)) = true →
    ∃ t, exec (.upstreamCandidateTimeout k) s = .next t ∧ (t.upM k).ann = none ∧ t.flag (PTP.UP_MSTAT_CANDIDATE k) = false ∧
      ((∀ j ∈ List.range 4, j ≠ k → (s.upM j).ann = none) → t.upChosen = none) ∧
      Only [.ptp, .ref] [PTP.UP_MSTAT_CANDIDATE k, PTP.UP_MSTAT_GRANTED k, PTP.PTP_STATUS_UP_MASTER, PTP.PTP_STATUS_UP_MASTER_VALID,
        REFSEL.REF_STAT_CAUSE 13, REFSEL.REF_STAT_STATE 13, REFSEL.REF_TIMER 13] s t)

/-- Couch frames, checks of the link and of the heartbeat, and conflicts: completion, with effects from chapter 15 and frames. From
spec/15_redundant_pair_couch_link.md, Applying forward frames; spec/15_redundant_pair_couch_link.md, Standby states;
spec/15_redundant_pair_couch_link.md, Pair signals; spec/15_redundant_pair_couch_link.md, Split brain. It rests on readings and choices of the
model: log entries 165, 166, 170. -/
def Obligations.PairEventsComplete : Prop :=
  (∀ s : State, s.inReset = false → s.flag COUCH.PAIR_CFG_EN = true → s.flag COUCH.PAIR_STATUS_REF_BAD = false → s.couch.locked = false →
    ∃ t, exec .couchBlockLock s = .next t ∧ t.get COUCH.PAIR_STATUS_LINK = 2 ∧ t.couch.locked = true ∧
      (s.mode = 5 → s.pairState ∈ [0, 5, 6] → t.pairState = 1 ∧ t.flag COUCH.PAIR_STATUS_PROMOTABLE = false) ∧
      (s.mode ≠ 5 ∨ s.pairState ∈ [1, 2, 3, 4] → t.pairState = s.pairState) ∧
      Only [.couch] [COUCH.PAIR_STATUS_STATE, COUCH.PAIR_STATUS_PROMOTABLE, COUCH.PAIR_STATUS_LINK] s t) ∧
  (∀ (s : State) (at_ : Nat) (seg b : List Byte) (h : CouchHead), s.inReset = false → s.couch.locked = true → s.flag COUCH.PAIR_CFG_EN = true →
    s.flag COUCH.PAIR_STATUS_REF_BAD = false → segOpen seg = some b → CouchHead.ofBytes b = some h → h.kind = 0 → h.version = 1 → h.mode ≠ 5 →
    ∃ t, exec (.helloRx at_ seg) s = .next t ∧ t.get COUCH.FRAME_RX_CNT = min (s.get COUCH.FRAME_RX_CNT + 1) (2 ^ 48 - 1) ∧
      t.couch.peerId = some (leAt b 64 8) ∧ t.couch.peerPrio = bitOf h.state 0 ∧ t.couch.peerMode = h.mode ∧
      t.get COUCH.PEER_ENGINE_ID = leAt b 64 8 ∧
      (s.mode = 5 → s.pairState = 1 → bitOf h.state 0 ≠ s.flag COUCH.PAIR_CFG_PRIO → t.pairState = 2 ∧ t.get COUCH.PAIR_STATUS_LINK = 3) ∧
      (s.mode ≠ 5 ∨ s.pairState ≠ 1 ∨ bitOf h.state 0 = s.flag COUCH.PAIR_CFG_PRIO → t.pairState = s.pairState) ∧
      Only [.couch, .time] ([COUCH.FRAME_RX_CNT, COUCH.PEER_ENGINE_ID, COUCH.PAIR_STATUS_STATE, COUCH.PAIR_STATUS_PROMOTABLE, COUCH.PAIR_STATUS_LINK] ++
        timeFields) s t) ∧
  (∀ (s : State) (at_ : Nat) (segs : List (List Byte)), s.inReset = false → s.couch.locked = true → s.mode ≠ 5 →
    ∃ t, exec (.forwardFrameRx at_ segs) s = .next t ∧ t.get COUCH.FRAME_RX_CNT = min (s.get COUCH.FRAME_RX_CNT + 1) (2 ^ 48 - 1) ∧
      t.couch.foreign = (s.couch.foreign || servingMode s.mode) ∧ Only [.couch, .time] (COUCH.FRAME_RX_CNT :: timeFields) s t) ∧
  (∀ (s : State) (at_ : Nat) (segs : List (List Byte)) (b : List Byte) (h : CouchHead), s.inReset = false → s.couch.locked = true → s.mode = 5 →
    (goodSegs segs).1.head? = some b → CouchHead.ofBytes b = some h → h.kind = 1 → h.version = 1 →
    ∃ t, exec (.forwardFrameRx at_ segs) s = .next t ∧ t.get COUCH.FRAME_RX_CNT = min (s.get COUCH.FRAME_RX_CNT + 1) (2 ^ 48 - 1) ∧
      t.couch.gotFwd = true ∧ t.couch.rxLast = some (h.seq, at_ % 2 ^ 64) ∧ t.couch.peerMode = h.mode ∧
      t.flag COUCH.PAIR_STATUS_LAG = bitOf h.flags 0 ∧
      t.get COUCH.PEER_CFG_DIGEST = (Timing.ofBytes (b.drop 64)).cfg ∧ t.get COUCH.PEER_KEY_DIGEST = (Timing.ofBytes (b.drop 64)).key ∧
      Only [.couch, .time, .ref, .vat] ([COUCH.FRAME_RX_CNT, COUCH.SEG_BAD_CNT, COUCH.FILL_KIB, COUCH.PAIR_STATUS_LAG, COUCH.PAIR_STATUS_STATE,
        COUCH.PAIR_STATUS_PROMOTABLE, COUCH.PEER_CFG_DIGEST, COUCH.PEER_KEY_DIGEST, COUCH.PAIR_STATUS_CFG_DIFFER, COUCH.PAIR_STATUS_KEY_DIFFER,
        COUCH.PEER_THETA, COUCH.PEER_DELAY, VAT.RMW_CNT] ++ timeFields) s t) ∧
  (∀ (s : State) (at_ : Nat) (seg b : List Byte) (h : CouchHead), s.inReset = false → s.couch.locked = true → s.mode ≠ 5 →
    s.flag COUCH.PAIR_CFG_EN = true → s.flag COUCH.PAIR_STATUS_REF_BAD = false → segOpen seg = some b → CouchHead.ofBytes b = some h → h.kind = 2 →
    h.version = 1 → bitOf h.flags 4 = false →
    ∃ t, exec (.returnFrameRx at_ seg) s = .next t ∧ t.get COUCH.FRAME_RX_CNT = min (s.get COUCH.FRAME_RX_CNT + 1) (2 ^ 48 - 1) ∧
      t.pairState = h.state % 8 ∧ t.get COUCH.PAIR_STATUS_LINK = (if 2 ≤ h.state ∧ h.state ≤ 4 then 3 else 2) ∧
      t.get COUCH.PEER_CFG_DIGEST = leAt b 0x48 4 ∧ t.get COUCH.PEER_KEY_DIGEST = leAt b 0x4C 4 ∧
      (h.state = 2 → s.pairState ≠ 2 → t.couch.fill = s.startFill.couch.fill) ∧
      Only [.couch, .time] ([COUCH.FRAME_RX_CNT, COUCH.PAIR_STATUS_STATE, COUCH.PAIR_STATUS_LINK, COUCH.PEER_CFG_DIGEST, COUCH.PEER_KEY_DIGEST,
        COUCH.PAIR_STATUS_CFG_DIFFER, COUCH.PAIR_STATUS_KEY_DIFFER] ++ timeFields) s t) ∧
  (∀ s : State, s.inReset = false → s.frameMissing = true →
    ∃ t, exec .couchLinkCheck s = .next t ∧ t.couch.gotFwd = false ∧
      t.pairState = (if s.flag COUCH.PAIR_STATUS_HB_OK then 5 else 6) ∧
      (s.flag COUCH.PAIR_STATUS_HB_OK = true → t.get COUCH.LINK_LOSS_CNT = min (s.get COUCH.LINK_LOSS_CNT + 1) (2 ^ 48 - 1)) ∧
      Only [.couch, .time] ([COUCH.PAIR_STATUS_STATE, COUCH.PAIR_STATUS_LINK, COUCH.LINK_LOSS_CNT] ++ timeFields) s t) ∧
  (∀ (s : State) (changed equal : Bool), s.inReset = false → s.mode = 5 → s.flag COUCH.PAIR_CFG_EN = true → s.flag COUCH.PAIR_STATUS_REF_BAD = false →
    ∃ t, exec (.heartbeatCheck changed equal) s = .next t ∧
      t.couch.hbGood = (if changed = true ∧ equal = false then s.couch.hbGood + 1 else 0) ∧
      t.flag COUCH.PAIR_STATUS_HB_WIRE = (equal && decide (1 ≤ s.couch.hbEqual)) ∧
      (changed = true → equal = false → 7 ≤ s.couch.hbGood → t.flag COUCH.PAIR_STATUS_HB_OK = true ∧ t.flag COUCH.PAIR_STATUS_HB_WIRE = false) ∧
      (changed = false → t.flag COUCH.PAIR_STATUS_HB_OK = false ∧ t.get COUCH.HB_LOSS_CNT = min (s.get COUCH.HB_LOSS_CNT + 1) (2 ^ 48 - 1) ∧
        t.pairState = (if s.pairState = 5 then 6 else s.pairState)) ∧
      Only [.couch, .time] ([COUCH.PAIR_STATUS_HB_OK, COUCH.PAIR_STATUS_HB_WIRE, COUCH.HB_LOSS_CNT, COUCH.PAIR_STATUS_STATE] ++ timeFields) s t) ∧
  (∀ (s : State) (readback arb : Bool), s.inReset = false → servingMode s.mode = true → s.flag COUCH.PAIR_CFG_EN = true → s.flag COUCH.PAIR_STATUS_CONFLICT = false →
    readback = true ∨ s.couch.foreign = true ∨ s.get COUCH.PAIR_CFG_ACT_CONFLICT ≤ s.couch.actHigh →
    ∃ t, exec (.splitBrain readback arb) s = .next t ∧ t.flag COUCH.PAIR_STATUS_CONFLICT = true ∧ t.flag COUCH.PAIR_STATUS_ARB = arb ∧
      t.get COUCH.CONFLICT_CNT = min (s.get COUCH.CONFLICT_CNT + 1) (2 ^ 48 - 1) ∧
      t.couch.quiet = (s.couch.quiet || !(match s.couch.peerId with
        | none => arb
        | some id => if s.flag COUCH.PAIR_CFG_PRIO = s.couch.peerPrio then decide (s.get BOUND.WM_ENGINE_ID ≤ id) else !s.flag COUCH.PAIR_CFG_PRIO)) ∧
      Only [.couch] [COUCH.PAIR_STATUS_ARB, COUCH.PAIR_STATUS_CONFLICT, COUCH.CONFLICT_CNT] s t) ∧
  (∀ (s : State) (readback arb : Bool), s.inReset = false → servingMode s.mode = true → s.flag COUCH.PAIR_CFG_EN = true → s.flag COUCH.PAIR_STATUS_CONFLICT = true →
    readback = true ∨ s.couch.foreign = true ∨ s.get COUCH.PAIR_CFG_ACT_CONFLICT ≤ s.couch.actHigh →
    ∃ t, exec (.splitBrain readback arb) s = .next t ∧ Keeps [] { s with couch := { s.couch with foreign := false, actHigh := 0, clash := true } } t) ∧
  (∀ (s : State) (arb act : Bool), s.inReset = false →
    ∃ t, exec (.orphanPromote arb act) s = .next t ∧ t.flag COUCH.PAIR_STATUS_ARB = arb ∧ t.flag COUCH.PAIR_STATUS_ACT_I = act ∧
      t.couch.promote = (if s.mode = 5 ∧ s.pairState = 6 ∧ s.flag COUCH.PAIR_STATUS_PROMOTABLE = true ∧ s.flag COUCH.PAIR_CFG_AUTO_PROMOTE = true ∧
        arb = true ∧ act = false ∧ servingMode s.couch.peerMode = true then some ⟨s.couch.peerMode, .auto⟩ else s.couch.promote) ∧
      Only [.couch] [COUCH.PAIR_STATUS_ARB, COUCH.PAIR_STATUS_ACT_I] s t)

/-- A handover passes through its sheets: completion, with effects from chapter 15 and frames. From spec/15_redundant_pair_couch_link.md, Planned
switchover; spec/15_redundant_pair_couch_link.md, Held values and continuity. It rests on readings and choices of the model: log entries 51, 172. -/
def Obligations.HandoverEventsComplete : Prop :=
  (∀ (s : State) (x : HandRun), s.inReset = false → s.couch.hand = some x → s.sheetNo + 1 = x.sheet → x.accepted = true → servingMode s.mode = true →
    ∃ t, exec .handoverSheet s = .next t ∧ Keeps [] { s with couch := { s.couch with handing := true } } t) ∧
  (∀ (s : State) (x : HandRun), s.inReset = false → s.couch.hand = some x → s.sheetNo + 1 = x.sheet → x.accepted = false →
    ∃ t, exec .handoverSheet s = .next t ∧ (s.flt.handover = false →
        t.flag COUCH.PAIR_STATUS_HANDOVER_PENDING = false ∧ Keeps [COUCH.PAIR_STATUS_HANDOVER_PENDING] { s with couch := { s.couch with handing := false } } t)) ∧
  (∀ (s : State) (x : HandRun), s.inReset = false → s.mode ≠ 5 → s.couch.hand = some x → s.sheetNo = x.sheet → s.couch.handing = true →
    servingMode s.mode = true → s.flag COUCH.PAIR_CFG_EN = true → s.flag COUCH.PAIR_STATUS_REF_BAD = false →
    ∃ t, exec .handoverEdge s = .next t ∧ t.mode = 5 ∧ t.pairState = 3 ∧ t.couch.handing = false ∧ t.couch.former = s.mode ∧
      t.couch.byHandover = some s.sheetNo ∧ t.get COUCH.HANDOVER_CNT = min (s.get COUCH.HANDOVER_CNT + 1) (2 ^ 48 - 1) ∧ t.vat = s.vat ∧
      (∀ h ∈ x.cmd, h.origin = .mspi → Out.mailbox ⟨0xD0, h.tag, stOK, false, .mspi, h.ring, 0, s.sheetNo, h.index⟩ ∈ t.out) ∧
      Only [.glb, .couch, .bound, .mac, .syn, .rwtB, .rwtC] (regBlock 0x140000 0x180000 ++ regBlock 0x1D0000 0x1E0000 ++ [PTP.NEG_PENDING, GLB.GLB_MODE_MODE]) s t) ∧
  (∀ (s : State) (m dwell : Nat), s.inReset = false → s.mode = 5 → s.couch.final = some (m, s.taiSheet, dwell) → servingMode m = true →
    ∃ t, exec .handoverEdge s = .next t ∧ t.mode = m ∧ t.pairState = 0 ∧ t.couch.heldFrom = some s.sheetNo ∧
      t.get COUCH.HANDOVER_CNT = min (s.get COUCH.HANDOVER_CNT + 1) (2 ^ 48 - 1) ∧ t.flag COUCH.PAIR_STATUS_HELD = true ∧ t.vat = s.vat ∧
      (dwell ≠ 0 → t.couch.drillEnd = some (s.mono + (dwell * secU : Nat)) ∧ t.get COUCH.DRILL_LEFT = dwell % 65536) ∧
      Only [.glb, .couch, .bound, .mac, .syn, .rwtB, .rwtC] (regBlock 0x140000 0x180000 ++ regBlock 0x1D0000 0x1E0000 ++ [PTP.NEG_PENDING, GLB.GLB_MODE_MODE]) s t) ∧
  (∀ s : State, s.inReset = false → s.mode = 5 → s.couch.byHandover = some s.sheetNo → s.couch.firstReturn = some true →
    ∃ t, exec .handoverRepromote s = .next t ∧ Keeps [] { s with couch := { s.couch with promote := some ⟨s.couch.former, .auto⟩ } } t) ∧
  (∀ (s : State) (n : Nat), s.inReset = false → s.couch.heldFrom = some n → n + 2 ≤ s.sheetNo →
    ∃ t, exec .heldSheetsEnd s = .next t ∧ t.flag COUCH.PAIR_STATUS_HELD = false ∧ t.couch.heldFrom = none ∧ t.bound.heldMark = none ∧
      Only [.couch, .bound] [COUCH.PAIR_STATUS_HELD] s t)

/-- Rounding gives the nearest unit, and a value halfway between two units goes away from zero. Formalises R502. -/
def Obligations.RoundingIsAwayFromZero : Prop :=
  (∀ q : Rat, |(roundQ q : Rat) - q| ≤ 1 / 2) ∧
  (∀ q : Rat, |(roundQ q : Rat) - q| = 1 / 2 → |q| ≤ |(roundQ q : Rat)|) ∧
  (∀ (a : Int) (b : Nat), 0 < b → roundDiv a b = roundQ ((a : Rat) / b))

/-- A wide time with 1,000,000,000 nanoseconds or more is rejected with RANGE; any other is read by its three fields. Formalises R8. -/
def Obligations.WideTimeIsJudged : Prop :=
  (∀ (s : State) (h : Hdr) (sec ns frac : Nat), s.Accepts h false 0 → s.mode = 0 → sec < 281474976710656 → ns < 4294967296 → frac < 65536 → 1000000000 ≤ ns →
    ∃ t, exec (.timeSet h (sec * 281474976710656 + ns * 65536 + frac)) s = .next t ∧ s.Completes t h 0x20 stRANGE 0 ∧ Keeps [] s t) ∧
  (∀ (s : State) (h : Hdr) (sec ns frac : Nat), s.Accepts h false 0 → s.mode = 0 → sec < 281474976710656 → frac < 65536 → ns < 1000000000 →
    ∃ t, exec (.timeSet h (sec * 281474976710656 + ns * 65536 + frac)) s = .next t ∧ s.Completes t h 0x20 stOK 0 ∧
      t.time.steps = s.time.steps ++ [⟨none, h.origin, true, .set ((sec * 1000000000 + ns) * 65536 + frac)⟩])

/-- A short time names the count nearest to the present one, within 2⁴⁷ ns of it. From spec/00_scope.md, Time and quantity formats. -/
def Obligations.ShortTimesNameTheNearestCount : Prop :=
  (∀ (s : State) (target : Nat), target < 2 ^ 64 → s.targetUnits target % (2 ^ 64 : Int) = target ∧
    -(2 ^ 47 * 65536 : Int) ≤ s.targetUnits target - s.units ∧ s.targetUnits target - s.units < (2 ^ 47 * 65536 : Int)) ∧
  (∀ (s : State) (u : Int), s.targetOk u = true ↔ -(2 ^ 47 * 65536 : Int) ≤ u - s.units ∧ u - s.units ≤ (2 ^ 47 * 65536 : Int))

/-- A sheet number more than 1,125,899,906 sheets ahead is rejected with RANGE and not stored. Formalises R45. -/
def Obligations.FarSheetNumbersAreRefused : Prop :=
  (∀ (s : State) (h : Hdr) (buf sheet : Nat), s.Accepts h false 0 → buf ≤ 1 → s.mode ≠ 5 → s.flag SHEET.SHEET_STATUS_PENDING = false →
    s.get (stateFld buf) = 2 → s.sheetNo + 1125899906 < sheet →
    ∃ t, exec (.mouldActivate h buf sheet) s = .next t ∧ s.Completes t h 0x11 stRANGE 0 ∧ Keeps [] s t) ∧
  (∀ (s : State) (h : Hdr) (buf sheet : Nat), s.Accepts h false 0 → buf ≤ 1 → s.mode ≠ 5 → s.flag SHEET.SHEET_STATUS_PENDING = false →
    s.get (stateFld buf) = 2 → s.sheetNo < sheet → sheet ≤ s.sheetNo + 1125899906 → sheet < 2 ^ 64 →
    ∃ t, exec (.mouldActivate h buf sheet) s = .next t ∧ s.Completes t h 0x11 stOK 0 ∧ t.flag SHEET.SHEET_STATUS_PENDING = true ∧
      t.get SHEET.PEND_SHEET = sheet)

/-- MODE_SET is refused with INVALID, BUSY or MODE_REFUSED where the manual says so. From spec/16_host_interface.md, Commands;
spec/15_redundant_pair_couch_link.md, Roles; spec/00_scope.md, Modes and clock states. It rests on readings and choices of the model: log entries
127. -/
def Obligations.ModeRequestsAreJudged : Prop :=
  (∀ (s : State) (h : Hdr) (m : Nat), s.Accepts h false 0 → 5 < m →
    ∃ t, exec (.modeSet h m) s = .next t ∧ s.Completes t h 0x02 stINVALID 0 ∧ Keeps [] s t) ∧
  (∀ (s : State) (h : Hdr) (m : Nat), s.Accepts h false 0 → m ≤ 5 → s.glb.pendMode.isSome = true →
    ∃ t, exec (.modeSet h m) s = .next t ∧ s.Completes t h 0x02 stBUSY 0 ∧ Keeps [] s t) ∧
  (∀ (s : State) (h : Hdr), s.Accepts h false 0 → s.glb.pendMode = none → s.mode ≠ 5 → s.mode ≠ 0 ∨ s.flag COUCH.PAIR_CFG_EN = false →
    ∃ t, exec (.modeSet h 5) s = .next t ∧ s.Completes t h 0x02 stMODE 0 ∧ Keeps [] s t) ∧
  (∀ (s : State) (h : Hdr), s.Accepts h false 0 → s.glb.pendMode = none → 2 ≤ s.mode →
    ∃ t, exec (.modeSet h 1) s = .next t ∧ s.Completes t h 0x02 stMODE 0 ∧ Keeps [] s t) ∧
  (∀ (s : State) (h : Hdr) (m : Nat), s.Accepts h false 0 → s.glb.pendMode = none → s.mode = 5 → 0 < m → m ≤ 5 →
    ∃ t, exec (.modeSet h m) s = .next t ∧ s.Completes t h 0x02 stMODE 0 ∧ Keeps [] s t)

/-- BIST, promotion, sizing, surveys and the factory bank are refused with MODE_REFUSED in the modes that forbid them. From spec/00_scope.md, Modes
and clock states. -/
def Obligations.WorkIsRefusedByMode : Prop :=
  (∀ (s : State) (h : Hdr) (target index : Nat), s.Accepts h false 0 → s.mode ≠ 0 →
    ∃ t, exec (.bistRun h target index) s = .next t ∧ s.Completes t h 0x05 stMODE 0 ∧ Keeps [] s t) ∧
  (∀ (s : State) (h : Hdr) (target index : Nat), s.Accepts h false 0 → s.mode ≠ 0 →
    ∃ t, exec (.sparePromote h target index) s = .next t ∧ s.Completes t h 0x06 stMODE 0 ∧ Keeps [] s t) ∧
  (∀ (s : State) (h : Hdr) (mask : Nat), s.Accepts h false 0 → s.mode ≠ 1 →
    ∃ t, exec (.tdcSize h mask) s = .next t ∧ s.Completes t h 0x32 stMODE 0 ∧ Keeps [] s t) ∧
  (∀ (s : State) (h : Hdr) (ch dur : Nat), s.Accepts h false 0 → s.mode ≠ 1 →
    ∃ t, exec (.gnssDelaySize h ch dur) s = .next t ∧ s.Completes t h 0x57 stMODE 0 ∧ Keeps [] s t) ∧
  (∀ (s : State) (h : Hdr) (port : Nat), s.Accepts h false 0 → s.mode ≠ 1 →
    ∃ t, exec (.portSize h port) s = .next t ∧ s.Completes t h 0x90 stMODE 0 ∧ Keeps [] s t) ∧
  (∀ (s : State) (h : Hdr) (port : Nat) (tx rx : Int) (u : Nat), s.Accepts h false 0 → s.mode ≠ 1 →
    ∃ t, exec (.portExtSet h port tx rx u) s = .next t ∧ s.Completes t h 0x91 stMODE 0 ∧ Keeps [] s t) ∧
  (∀ (s : State) (h : Hdr) (dur target : Nat), s.Accepts h false 0 → 1 < s.mode →
    ∃ t, exec (.surveyStart h dur target) s = .next t ∧ s.Completes t h 0x54 stMODE 0 ∧ Keeps [] s t) ∧
  (∀ (s : State) (h : Hdr) (scope : Nat), s.Accepts h false 400 → 1 < s.mode → scope ≤ 7 →
    ∃ t, exec (.restoreFactorySizing h scope) s = .next t ∧ s.Completes t h 0x04 stMODE 0 ∧ Keeps [] s t)

/-- Whatever PF1 sends beyond the eight commands it may give changes nothing but counters, queues and answers. From spec/16_host_interface.md, PCIe
functions and BARs; spec/16_host_interface.md, Commands; spec/14_keys_and_authentication.md, Writing a key. It rests on readings and choices of
the model: log entries 130, 135. -/
def Obligations.Pf1ChangesNothing : Prop :=
  (∀ (s : State) (i : Instr), WellFormed i = true → senderOf i = some .pf1 → pf1May i = false →
    ∃ t, exec i s = .next t ∧ Only [.held] ([HIF.CMD_DENIED_CNT, HIF.PF1_WRITE_DENY_CNT, KEY.KEY_DENY_CNT] ++ pcieFields) s t)

/-- A write of a locked register without an armed unlock changes no field of it and is counted. From spec/20_registers_journal_sizing_wear.md,
Register conventions. It rests on readings and choices of the model: log entries 160. -/
def Obligations.UnlockIsNeeded : Prop :=
  (∀ (s : State) (o : Origin) (a v : Nat), s.inReset = false → o ≠ .pf1 → (s.useUnlock o).1 = false →
    a ∈ [0x14005C, 0x1A0010, 0x1D0008] ∨ 0x140100 ≤ a ∧ a < 0x140140 ∧ a % 4 = 0 →
    ∃ t, exec (.registerWrite o a v) s = .next t ∧ t.get GLB.RWL_DENY_CNT = min (s.get GLB.RWL_DENY_CNT + 1) (2 ^ 48 - 1) ∧
      (∀ p ∈ rowsAt a, t.get (p.1.fld a p.2) = s.get (p.1.fld a p.2)) ∧ Only [.glb] (GLB.RWL_DENY_CNT :: unlockFlags) s t)

/-- The vat gives back what was written, denies what the regions deny, and keeps poisoned words from narrow writes. From
spec/17_vat_memory_and_ecc.md, Regions; spec/17_vat_memory_and_ecc.md, The word code and the page code. It rests on readings and choices of the
model: log entries 2, 175. -/
def Obligations.VatReadsWhatWasWritten : Prop :=
  (∀ (s : State) (m a : Nat) (b : List Byte), b ≠ [] → s.vatMay m a b.length true = true → s.vatc.poison = [] → s.vat.wf = true →
    (s.vatWrite m a b).1 = .ok ∧ VatSame [(a, a + b.length)] s (s.vatWrite m a b).2 ∧
      (∀ n ∈ List.range 16, (s.vatWrite m a b).2.vatMay n a b.length false = true → ((s.vatWrite m a b).2.vatRead n a b.length).1 = .ok b)) ∧
  (∀ (s : State) (m a : Nat) (b : List Byte), b ≠ [] → s.vatMay m a b.length true = false →
    (s.vatWrite m a b).1 = .denied ∧ (s.vatWrite m a b).2.vat = s.vat ∧ (s.vatWrite m a b).2.flag VAT.VAT_STATUS_DENY = true ∧
      (s.vatWrite m a b).2.get VAT.REGION_DENY_CNT = min (s.get VAT.REGION_DENY_CNT + 1) (2 ^ 48 - 1) ∧
      (s.vatWrite m a b).2.flag VAT.DENY_MASTER_WRITE = true ∧
      Keeps [VAT.REGION_DENY_CNT, VAT.DENY_ADDR, VAT.DENY_MASTER_MASTER, VAT.DENY_MASTER_WRITE, VAT.VAT_STATUS_DENY] s (s.vatWrite m a b).2) ∧
  (∀ (s : State) (m a n : Nat), s.vatMay m a n false = false →
    (s.vatRead m a n).1 = .denied (List.replicate n 0) ∧ (s.vatRead m a n).2.flag VAT.VAT_STATUS_DENY = true ∧
      (s.vatRead m a n).2.get VAT.REGION_DENY_CNT = min (s.get VAT.REGION_DENY_CNT + 1) (2 ^ 48 - 1) ∧
      (s.vatRead m a n).2.flag VAT.DENY_MASTER_WRITE = false ∧
      Keeps [VAT.REGION_DENY_CNT, VAT.DENY_ADDR, VAT.DENY_MASTER_MASTER, VAT.DENY_MASTER_WRITE, VAT.VAT_STATUS_DENY] s (s.vatRead m a n).2) ∧
  (∀ (s : State) (m a w : Nat) (b : List Byte), s.vatMay m a b.length true = true → a ≤ 8 * w → 8 * w + 8 ≤ a + b.length →
    s.vatc.poison.contains (a / 8) = false ∨ a % 8 = 0 → s.vatc.poison.contains ((a + b.length - 1) / 8) = false ∨ (a + b.length) % 8 = 0 →
    (s.vatWrite m a b).1 = .ok ∧ (s.vatWrite m a b).2.vatc.poison.contains w = false) ∧
  (∀ (s : State) (m a : Nat) (b : List Byte), b ≠ [] → s.vatMay m a b.length true = true → a / 8 = (a + b.length - 1) / 8 → b.length < 8 →
    s.vatc.poison.contains (a / 8) = true → s.vat.wf = true →
    (s.vatWrite m a b).1 = .uncorr ∧ (s.vatWrite m a b).2.vatc.poison.contains (a / 8) = true ∧ (s.vatWrite m a b).2.vat = s.vat ∧
      (s.vatWrite m a b).2.get VAT.UNCORR_CNT = min (s.get VAT.UNCORR_CNT + 1) (2 ^ 48 - 1))

/-- A class pays from its floor first, then from the shared stock within its cap, and stock is conserved. From
spec/19_current_ledger_and_keep_alive.md, Grants. -/
def Obligations.ChargingConservesStock : Prop :=
  (∀ (s : State) (c cost : Nat), s.running = true → 1 ≤ c → c ≤ 4 →
    ((s.charge c cost).isSome = true ↔ ¬(s.ledger.warnStop = true ∧ 2 ≤ c) ∧ (cost ≤ nth s.ledger.floors (c - 1) 0 ∨
      cost ≤ nth s.ledger.floors (c - 1) 0 + s.get LEDGER.SHARED_LEFT ∧ nth s.ledger.drawn c 0 + cost ≤ s.get (LEDGER.CAP c)))) ∧
  (∀ (s u : State) (c cost : Nat), s.running = true → 1 ≤ c → c ≤ 4 → s.ledger.floors.length = 4 → s.ledger.drawn.length = 5 →
    s.charge c cost = some u →
    nth u.ledger.floors (c - 1) 0 = nth s.ledger.floors (c - 1) 0 - cost ∧
      nth u.ledger.floors (c - 1) 0 + u.get LEDGER.SHARED_LEFT + cost = nth s.ledger.floors (c - 1) 0 + s.get LEDGER.SHARED_LEFT ∧
      nth u.ledger.drawn c 0 = nth s.ledger.drawn c 0 + cost ∧
      (∀ i ∈ List.range 4, i ≠ c - 1 → nth u.ledger.floors i 0 = nth s.ledger.floors i 0) ∧
      (∀ i ∈ List.range 5, i ≠ c → nth u.ledger.drawn i 0 = nth s.ledger.drawn i 0) ∧ Keeps [] s u)

/-- Class 0 draws the reserve, the shared stock, then the floors of classes 4, 3, 2 and 1, and then beyond the budget. From
spec/19_current_ledger_and_keep_alive.md, Grants. It rests on readings and choices of the model: log entries 28. -/
def Obligations.ClassZeroIsNeverRefused : Prop :=
  (∀ (s : State) (cost : Nat), s.running = true → s.ledger.floors.length = 4 →
    (s.charge0 cost).ledger.reserve = s.ledger.reserve - cost ∧
    (s.charge0 cost).get LEDGER.SHARED_LEFT = s.get LEDGER.SHARED_LEFT - (cost - s.ledger.reserve) ∧
    (s.charge0 cost).ledger.reserve + (s.charge0 cost).get LEDGER.SHARED_LEFT + (s.charge0 cost).ledger.floors.sum =
      s.ledger.reserve + s.get LEDGER.SHARED_LEFT + s.ledger.floors.sum - cost ∧
    (∀ i ∈ List.range 4, nth (s.charge0 cost).ledger.floors i 0 < nth s.ledger.floors i 0 → (s.charge0 cost).get LEDGER.SHARED_LEFT = 0 ∧
      ∀ j ∈ List.range 4, i < j → nth (s.charge0 cost).ledger.floors j 0 = 0) ∧
    ((s.charge0 cost).ledger.beyondReserve = true ↔ s.ledger.beyondReserve = true ∨ s.ledger.reserve < cost) ∧
    ((s.charge0 cost).ledger.beyondBudget = true ↔ s.ledger.beyondBudget = true ∨
      s.ledger.reserve + s.get LEDGER.SHARED_LEFT + s.ledger.floors.sum < cost))

/-- After every step, squelch, drive, SERVING, RUNNING, FAULT_N, the count of active faults and the reaction timer show what the state says. From
spec/09_synthesis_and_outputs.md, Squelch and the modes; spec/18_interrupts_and_faults.md, Reaction timer and escalation; spec/12_ptp_service.md,
PTP block registers; spec/13_ntp_nts_service.md, NTS block registers. It rests on readings and choices of the model: log entries 8. -/
def Obligations.ShownConditionsAreKept : Prop :=
  (∀ s t : State, (s.inReset = false → s.Shows) → step s = .next t → t.inReset = false → t.Shows)

/-- Every step keeps the vat in its canonical form. From spec/17_vat_memory_and_ecc.md, Addresses and banks. It rests on readings and choices of the
model: log entries 2. -/
def Obligations.VatStaysCanonical : Prop :=
  (∀ s t : State, s.vat.wf = true → step s = .next t → t.vat.wf = true)

/-- While the engine is held in reset only the reset itself and the keep-alive domain act. From spec/21_startup_and_reset.md, Resets. It rests on
readings and choices of the model: log entries 19. -/
def Obligations.InResetNothingHappens : Prop :=
  (∀ (s : State) (i : Instr), s.inReset = true → ungated i = false → exec i s = .next s)

/-- In MIRROR a timing frame of no dual-fed flow is counted in RX_NOT_SERVING and discarded. From spec/11_ethernet_ports.md, The headbox. It rests on
readings and choices of the model: log entries 78. -/
def Obligations.MirrorPassesOnlyDualFed : Prop :=
  (∀ (s : State) (p : Nat) (b : List Byte) (at_ : Nat), s.inReset = false → p < 8 → s.get (MAC.PORT_CFG_RATE p) ≠ 3 →
    s.get (MAC.PORT_STATUS_LINK p) = 2 → 64 ≤ b.length + 4 → b.length + 4 ≤ s.get (MAC.PORT_CFG_MAX_FRAME p) → s.mode = 5 →
    s.headRule p b = 6 ∨ s.headRule p b = 7 →
    ∃ t, exec (.frameRx p b true at_) s = .next t ∧ t.get (MAC.RX_NOT_SERVING p) = min (s.get (MAC.RX_NOT_SERVING p) + 1) (2 ^ 48 - 1) ∧
      Only [.time] ([MAC.RX_FRAMES p, MAC.RX_TIMING p, MAC.RX_NOT_SERVING p] ++ timeFields) s t)

/-- FN and AUTO of a vector change only while EN is 0 and no claim is outstanding. Formalises R424. -/
def Obligations.VectorFunctionIsFixedWhileUsed : Prop :=
  (∀ (s : State) (o : Origin) (v w : Nat), s.inReset = false → o ≠ .pf1 → v ≤ 64 → s.glb.voteFailed = [] →
    s.flag (IRQ.VEC_CFG_EN v) = true ∨ nth s.irq.claims v [] ≠ [] →
    ∃ t, exec (.registerWrite o (0x200100 + 0x10 * v) w) s = .next t ∧ t.get (IRQ.VEC_CFG_FN v) = s.get (IRQ.VEC_CFG_FN v) ∧
      t.get (IRQ.VEC_CFG_AUTO v) = s.get (IRQ.VEC_CFG_AUTO v) ∧ t.get (IRQ.VEC_CFG_EN v) = w % 2) ∧
  (∀ (s : State) (o : Origin) (v w : Nat), s.inReset = false → o ≠ .pf1 → v ≤ 64 → s.glb.voteFailed = [] →
    s.flag (IRQ.VEC_CFG_EN v) = false → nth s.irq.claims v [] = [] →
    ∃ t, exec (.registerWrite o (0x200100 + 0x10 * v) w) s = .next t ∧ t.get (IRQ.VEC_CFG_FN v) = w / 2 % 2 ∧
      t.get (IRQ.VEC_CFG_AUTO v) = w / 4 % 2 ∧ t.get (IRQ.VEC_CFG_EN v) = w % 2)

/-- PAIR_ACT_O is high in the serving modes alone, and the heartbeat pins drive the sheet parity and its inverse outside MIRROR. From
spec/15_redundant_pair_couch_link.md, Pair signals. -/
def Obligations.PairPinsFollowTheUnit : Prop :=
  (∀ s : State, s.inReset = false → (s.pairActO = true ↔ s.mode = 2 ∨ s.mode = 3 ∨ s.mode = 4)) ∧
  (∀ s : State, s.inReset = false → s.flag COUCH.PAIR_CFG_EN = true → s.mode ≠ 5 → s.heartbeat = some (s.sheetNo % 2 == 1, s.sheetNo % 2 != 1)) ∧
  (∀ s : State, s.mode = 5 → s.heartbeat = none) ∧
  (∀ (s : State) (b : Bool × Bool), s.heartbeat = some b → b.1 ≠ b.2)

end
end

