-- ==== Sys2Proof/Laws/Bits.lean ====
section
/-! SUPPORT. Signed numbers in fields. -/

namespace Sys2Proof.Machine

/-- A signed number that a field can hold is read as it was written. -/
theorem toS_ofS (w : Nat) (i : Int) (hw : 0 < w) (h1 : -(2 ^ (w - 1) : Nat) ≤ i) (h2 : i < (2 ^ (w - 1) : Nat)) : toS w (ofS w i) = i := by
  obtain ⟨k, rfl⟩ : ∃ k, w = k + 1 := ⟨w - 1, by omega⟩
  have e : (2 : Nat) ^ (k + 1) = 2 * 2 ^ k := by rw [pow_succ]; omega
  simp only [Nat.add_sub_cancel] at h1 h2
  unfold toS ofS
  simp only [Nat.add_sub_cancel, e]
  generalize (2 : Nat) ^ k = p at *
  have hp : 0 < p := by omega
  by_cases g : 0 ≤ i
  · have : i % ((2 * p : Nat) : Int) = i := Int.emod_eq_of_lt g (by omega)
    rw [this, Nat.mod_eq_of_lt (by omega), if_pos (by omega)]
    omega
  · have : i % ((2 * p : Nat) : Int) = i + (2 * p : Nat) := by
      rw [← Int.add_emod_right, Int.emod_eq_of_lt (by omega) (by omega)]
    rw [this, Nat.mod_eq_of_lt (by omega), if_neg (by omega)]
    omega

/-- Saturation leaves what fits. -/
theorem satS_range (w : Nat) (i : Int) : -(2 ^ (w - 1) : Nat) ≤ satS w i ∧ satS w i < (2 ^ (w - 1) : Nat) := by
  unfold satS
  have : (0 : Int) < (2 ^ (w - 1) : Nat) := by exact_mod_cast Nat.two_pow_pos _
  split
  · omega
  · split <;> omega

theorem satS_id (w : Nat) (i : Int) (h1 : -(2 ^ (w - 1) : Nat) ≤ i) (h2 : i < (2 ^ (w - 1) : Nat)) : satS w i = i := by
  unfold satS
  rw [if_neg (by omega), if_neg (by omega)]

end Sys2Proof.Machine
end

