-- ==== Sys2Proof/Laws/Regs.lean ====
section
/-! SUPPORT. Reading a register file after a write, and its canonical form. -/

namespace Sys2Proof.Machine

theorem RegFile.find_insert_same (m : RegFile) (x y : Nat) : (m.insert x y).find x = some y := by
  induction m with
  | nil => simp [RegFile.insert, RegFile.find]
  | cons p t ih =>
    obtain ⟨k, v⟩ := p
    by_cases h1 : k = x
    · simp [RegFile.insert, RegFile.find, h1]
    · by_cases h2 : x < k
      · simp [RegFile.insert, RegFile.find, h1, h2]
      · simp [RegFile.insert, RegFile.find, h1, h2, ih]

theorem RegFile.find_insert_other (m : RegFile) (x y z : Nat) (h : z ≠ x) : (m.insert x y).find z = m.find z := by
  induction m with
  | nil => simp [RegFile.insert, RegFile.find, Ne.symm h]
  | cons p t ih =>
    obtain ⟨k, v⟩ := p
    by_cases h1 : k = x
    · subst h1; simp [RegFile.insert, RegFile.find, Ne.symm h]
    · by_cases h2 : x < k
      · by_cases h3 : z < x
        · have h4 : z < k := by omega
          have h5 : k ≠ z := by omega
          simp [RegFile.insert, RegFile.find, h1, h2, h3, h4, h5, Ne.symm h]
        · simp [RegFile.insert, RegFile.find, h1, h2, h3, Ne.symm h]
      · simp [RegFile.insert, RegFile.find, h1, h2, ih]

/-- A field reads what was written to it, narrowed to its width. -/
theorem RegFile.get_put_same (m : RegFile) (f : Fld) (v : Nat) : (m.put f v).get f = v % 2 ^ f.width := by
  simp [RegFile.get, RegFile.put, RegFile.find_insert_same]

/-- A write leaves every field at another place as it was. -/
theorem RegFile.get_put_other (m : RegFile) (f g : Fld) (v : Nat) (h : g.key ≠ f.key) : (m.put f v).get g = m.get g := by
  simp [RegFile.get, RegFile.put, RegFile.find_insert_other m f.key _ g.key h]

theorem RegFile.wf_tail {p : Nat × Nat} {t : RegFile} (h : RegFile.wf (p :: t) = true) : RegFile.wf t = true := by
  obtain ⟨k, v⟩ := p
  cases t with
  | nil => rfl
  | cons q t => obtain ⟨k', v'⟩ := q; simp [RegFile.wf] at h; exact h.2

theorem RegFile.wf_insert (m : RegFile) (x y : Nat) (h : m.wf = true) : (m.insert x y).wf = true := by
  induction m with
  | nil => rfl
  | cons p t ih =>
    obtain ⟨k, v⟩ := p
    have ht := ih (RegFile.wf_tail h)
    by_cases h1 : k = x
    · subst h1
      cases t with
      | nil => simp [RegFile.insert, RegFile.wf]
      | cons q t => obtain ⟨k', v'⟩ := q; simpa [RegFile.insert, RegFile.wf] using h
    · by_cases h2 : x < k
      · simp only [RegFile.insert, h1, h2, if_false, if_true, RegFile.wf, decide_true, Bool.true_and]; exact h
      · have h3 : k < x := by omega
        simp only [RegFile.insert, h1, h2, if_false]
        cases t with
        | nil => simp [RegFile.insert, RegFile.wf, h3]
        | cons q t =>
          obtain ⟨k', v'⟩ := q
          by_cases h4 : k' = x
          · subst h4
            simp only [RegFile.insert, if_true] at ht ⊢
            simp [RegFile.wf, h3, ht]
          · by_cases h5 : x < k'
            · simp only [RegFile.insert, h4, h5, if_false, if_true] at ht ⊢
              simp only [RegFile.wf, Bool.and_eq_true, decide_eq_true_eq] at ht ⊢
              exact ⟨h3, ht⟩
            · simp only [RegFile.insert, h4, h5, if_false] at ht ⊢
              simp [RegFile.wf] at h
              simp [RegFile.wf, h.1, ht]

/-- A write keeps the canonical form. -/
theorem RegFile.wf_put (m : RegFile) (f : Fld) (v : Nat) (h : m.wf = true) : (m.put f v).wf = true :=
  RegFile.wf_insert m f.key _ h

end Sys2Proof.Machine
end

