-- ==== Sys2Proof/Laws/State.lean ====
section
/-! SUPPORT. One lemma for each field and each update of the state, and reading a register after a write. -/

namespace Sys2Proof.Machine

/-! ### What writing a register field leaves -/

@[simp] theorem State.put_pending (s : State) (f : Fld) (v : Nat) : (s.put f v).pending = s.pending := rfl
@[simp] theorem State.put_rwtB (s : State) (f : Fld) (v : Nat) : (s.put f v).rwtB = s.rwtB := rfl
@[simp] theorem State.put_rwtC (s : State) (f : Fld) (v : Nat) : (s.put f v).rwtC = s.rwtC := rfl
@[simp] theorem State.put_vat (s : State) (f : Fld) (v : Nat) : (s.put f v).vat = s.vat := rfl
@[simp] theorem State.put_held (s : State) (f : Fld) (v : Nat) : (s.put f v).held = s.held := rfl
@[simp] theorem State.put_running (s : State) (f : Fld) (v : Nat) : (s.put f v).running = s.running := rfl
@[simp] theorem State.put_inReset (s : State) (f : Fld) (v : Nat) : (s.put f v).inReset = s.inReset := rfl
@[simp] theorem State.put_glb (s : State) (f : Fld) (v : Nat) : (s.put f v).glb = s.glb := rfl
@[simp] theorem State.put_ledger (s : State) (f : Fld) (v : Nat) : (s.put f v).ledger = s.ledger := rfl
@[simp] theorem State.put_ream (s : State) (f : Fld) (v : Nat) : (s.put f v).ream = s.ream := rfl
@[simp] theorem State.put_hif (s : State) (f : Fld) (v : Nat) : (s.put f v).hif = s.hif := rfl
@[simp] theorem State.put_irq (s : State) (f : Fld) (v : Nat) : (s.put f v).irq = s.irq := rfl
@[simp] theorem State.put_flt (s : State) (f : Fld) (v : Nat) : (s.put f v).flt = s.flt := rfl
@[simp] theorem State.put_vatc (s : State) (f : Fld) (v : Nat) : (s.put f v).vatc = s.vatc := rfl
@[simp] theorem State.put_siz (s : State) (f : Fld) (v : Nat) : (s.put f v).siz = s.siz := rfl
@[simp] theorem State.put_spare (s : State) (f : Fld) (v : Nat) : (s.put f v).spare = s.spare := rfl
@[simp] theorem State.put_time (s : State) (f : Fld) (v : Nat) : (s.put f v).time = s.time := rfl
@[simp] theorem State.put_sheet (s : State) (f : Fld) (v : Nat) : (s.put f v).sheet = s.sheet := rfl
@[simp] theorem State.put_tdc (s : State) (f : Fld) (v : Nat) : (s.put f v).tdc = s.tdc := rfl
@[simp] theorem State.put_gnss (s : State) (f : Fld) (v : Nat) : (s.put f v).gnss = s.gnss := rfl
@[simp] theorem State.put_nav (s : State) (f : Fld) (v : Nat) : (s.put f v).nav = s.nav := rfl
@[simp] theorem State.put_ref (s : State) (f : Fld) (v : Nat) : (s.put f v).ref = s.ref := rfl
@[simp] theorem State.put_hold (s : State) (f : Fld) (v : Nat) : (s.put f v).hold = s.hold := rfl
@[simp] theorem State.put_syn (s : State) (f : Fld) (v : Nat) : (s.put f v).syn = s.syn := rfl
@[simp] theorem State.put_bound (s : State) (f : Fld) (v : Nat) : (s.put f v).bound = s.bound := rfl
@[simp] theorem State.put_mac (s : State) (f : Fld) (v : Nat) : (s.put f v).mac = s.mac := rfl
@[simp] theorem State.put_ptp (s : State) (f : Fld) (v : Nat) : (s.put f v).ptp = s.ptp := rfl
@[simp] theorem State.put_nts (s : State) (f : Fld) (v : Nat) : (s.put f v).nts = s.nts := rfl
@[simp] theorem State.put_key (s : State) (f : Fld) (v : Nat) : (s.put f v).key = s.key := rfl
@[simp] theorem State.put_couch (s : State) (f : Fld) (v : Nat) : (s.put f v).couch = s.couch := rfl
@[simp] theorem State.put_keep (s : State) (f : Fld) (v : Nat) : (s.put f v).keep = s.keep := rfl
@[simp] theorem State.put_freeIdx (s : State) (f : Fld) (v : Nat) : (s.put f v).freeIdx = s.freeIdx := rfl
@[simp] theorem State.put_out (s : State) (f : Fld) (v : Nat) : (s.put f v).out = s.out := rfl

/-! ### What writing a triplicated field leaves -/

@[simp] theorem State.putT_pending (s : State) (f : Fld) (v : Nat) : (s.putT f v).pending = s.pending := rfl
@[simp] theorem State.putT_vat (s : State) (f : Fld) (v : Nat) : (s.putT f v).vat = s.vat := rfl
@[simp] theorem State.putT_held (s : State) (f : Fld) (v : Nat) : (s.putT f v).held = s.held := rfl
@[simp] theorem State.putT_running (s : State) (f : Fld) (v : Nat) : (s.putT f v).running = s.running := rfl
@[simp] theorem State.putT_inReset (s : State) (f : Fld) (v : Nat) : (s.putT f v).inReset = s.inReset := rfl
@[simp] theorem State.putT_glb (s : State) (f : Fld) (v : Nat) : (s.putT f v).glb = s.glb := rfl
@[simp] theorem State.putT_ledger (s : State) (f : Fld) (v : Nat) : (s.putT f v).ledger = s.ledger := rfl
@[simp] theorem State.putT_ream (s : State) (f : Fld) (v : Nat) : (s.putT f v).ream = s.ream := rfl
@[simp] theorem State.putT_hif (s : State) (f : Fld) (v : Nat) : (s.putT f v).hif = s.hif := rfl
@[simp] theorem State.putT_irq (s : State) (f : Fld) (v : Nat) : (s.putT f v).irq = s.irq := rfl
@[simp] theorem State.putT_flt (s : State) (f : Fld) (v : Nat) : (s.putT f v).flt = s.flt := rfl
@[simp] theorem State.putT_vatc (s : State) (f : Fld) (v : Nat) : (s.putT f v).vatc = s.vatc := rfl
@[simp] theorem State.putT_siz (s : State) (f : Fld) (v : Nat) : (s.putT f v).siz = s.siz := rfl
@[simp] theorem State.putT_spare (s : State) (f : Fld) (v : Nat) : (s.putT f v).spare = s.spare := rfl
@[simp] theorem State.putT_time (s : State) (f : Fld) (v : Nat) : (s.putT f v).time = s.time := rfl
@[simp] theorem State.putT_sheet (s : State) (f : Fld) (v : Nat) : (s.putT f v).sheet = s.sheet := rfl
@[simp] theorem State.putT_tdc (s : State) (f : Fld) (v : Nat) : (s.putT f v).tdc = s.tdc := rfl
@[simp] theorem State.putT_gnss (s : State) (f : Fld) (v : Nat) : (s.putT f v).gnss = s.gnss := rfl
@[simp] theorem State.putT_nav (s : State) (f : Fld) (v : Nat) : (s.putT f v).nav = s.nav := rfl
@[simp] theorem State.putT_ref (s : State) (f : Fld) (v : Nat) : (s.putT f v).ref = s.ref := rfl
@[simp] theorem State.putT_hold (s : State) (f : Fld) (v : Nat) : (s.putT f v).hold = s.hold := rfl
@[simp] theorem State.putT_syn (s : State) (f : Fld) (v : Nat) : (s.putT f v).syn = s.syn := rfl
@[simp] theorem State.putT_bound (s : State) (f : Fld) (v : Nat) : (s.putT f v).bound = s.bound := rfl
@[simp] theorem State.putT_mac (s : State) (f : Fld) (v : Nat) : (s.putT f v).mac = s.mac := rfl
@[simp] theorem State.putT_ptp (s : State) (f : Fld) (v : Nat) : (s.putT f v).ptp = s.ptp := rfl
@[simp] theorem State.putT_nts (s : State) (f : Fld) (v : Nat) : (s.putT f v).nts = s.nts := rfl
@[simp] theorem State.putT_key (s : State) (f : Fld) (v : Nat) : (s.putT f v).key = s.key := rfl
@[simp] theorem State.putT_couch (s : State) (f : Fld) (v : Nat) : (s.putT f v).couch = s.couch := rfl
@[simp] theorem State.putT_keep (s : State) (f : Fld) (v : Nat) : (s.putT f v).keep = s.keep := rfl
@[simp] theorem State.putT_freeIdx (s : State) (f : Fld) (v : Nat) : (s.putT f v).freeIdx = s.freeIdx := rfl
@[simp] theorem State.putT_out (s : State) (f : Fld) (v : Nat) : (s.putT f v).out = s.out := rfl

/-! ### What an output leaves -/

@[simp] theorem State.emit_pending (s : State) (o : Out) : (s.emit o).pending = s.pending := rfl
@[simp] theorem State.emit_regs (s : State) (o : Out) : (s.emit o).regs = s.regs := rfl
@[simp] theorem State.emit_rwtB (s : State) (o : Out) : (s.emit o).rwtB = s.rwtB := rfl
@[simp] theorem State.emit_rwtC (s : State) (o : Out) : (s.emit o).rwtC = s.rwtC := rfl
@[simp] theorem State.emit_vat (s : State) (o : Out) : (s.emit o).vat = s.vat := rfl
@[simp] theorem State.emit_held (s : State) (o : Out) : (s.emit o).held = s.held := rfl
@[simp] theorem State.emit_running (s : State) (o : Out) : (s.emit o).running = s.running := rfl
@[simp] theorem State.emit_inReset (s : State) (o : Out) : (s.emit o).inReset = s.inReset := rfl
@[simp] theorem State.emit_glb (s : State) (o : Out) : (s.emit o).glb = s.glb := rfl
@[simp] theorem State.emit_ledger (s : State) (o : Out) : (s.emit o).ledger = s.ledger := rfl
@[simp] theorem State.emit_ream (s : State) (o : Out) : (s.emit o).ream = s.ream := rfl
@[simp] theorem State.emit_hif (s : State) (o : Out) : (s.emit o).hif = s.hif := rfl
@[simp] theorem State.emit_irq (s : State) (o : Out) : (s.emit o).irq = s.irq := rfl
@[simp] theorem State.emit_flt (s : State) (o : Out) : (s.emit o).flt = s.flt := rfl
@[simp] theorem State.emit_vatc (s : State) (o : Out) : (s.emit o).vatc = s.vatc := rfl
@[simp] theorem State.emit_siz (s : State) (o : Out) : (s.emit o).siz = s.siz := rfl
@[simp] theorem State.emit_spare (s : State) (o : Out) : (s.emit o).spare = s.spare := rfl
@[simp] theorem State.emit_time (s : State) (o : Out) : (s.emit o).time = s.time := rfl
@[simp] theorem State.emit_sheet (s : State) (o : Out) : (s.emit o).sheet = s.sheet := rfl
@[simp] theorem State.emit_tdc (s : State) (o : Out) : (s.emit o).tdc = s.tdc := rfl
@[simp] theorem State.emit_gnss (s : State) (o : Out) : (s.emit o).gnss = s.gnss := rfl
@[simp] theorem State.emit_nav (s : State) (o : Out) : (s.emit o).nav = s.nav := rfl
@[simp] theorem State.emit_ref (s : State) (o : Out) : (s.emit o).ref = s.ref := rfl
@[simp] theorem State.emit_hold (s : State) (o : Out) : (s.emit o).hold = s.hold := rfl
@[simp] theorem State.emit_syn (s : State) (o : Out) : (s.emit o).syn = s.syn := rfl
@[simp] theorem State.emit_bound (s : State) (o : Out) : (s.emit o).bound = s.bound := rfl
@[simp] theorem State.emit_mac (s : State) (o : Out) : (s.emit o).mac = s.mac := rfl
@[simp] theorem State.emit_ptp (s : State) (o : Out) : (s.emit o).ptp = s.ptp := rfl
@[simp] theorem State.emit_nts (s : State) (o : Out) : (s.emit o).nts = s.nts := rfl
@[simp] theorem State.emit_key (s : State) (o : Out) : (s.emit o).key = s.key := rfl
@[simp] theorem State.emit_couch (s : State) (o : Out) : (s.emit o).couch = s.couch := rfl
@[simp] theorem State.emit_keep (s : State) (o : Out) : (s.emit o).keep = s.keep := rfl
@[simp] theorem State.emit_freeIdx (s : State) (o : Out) : (s.emit o).freeIdx = s.freeIdx := rfl

/-! ### What waiting leaves -/

@[simp] theorem State.waitAt_pending (s : State) (i : Instr) (c k : Nat) (r : Option Nat) : (s.waitAt i c k r).pending = s.pending := rfl
@[simp] theorem State.waitAt_regs (s : State) (i : Instr) (c k : Nat) (r : Option Nat) : (s.waitAt i c k r).regs = s.regs := rfl
@[simp] theorem State.waitAt_rwtB (s : State) (i : Instr) (c k : Nat) (r : Option Nat) : (s.waitAt i c k r).rwtB = s.rwtB := rfl
@[simp] theorem State.waitAt_rwtC (s : State) (i : Instr) (c k : Nat) (r : Option Nat) : (s.waitAt i c k r).rwtC = s.rwtC := rfl
@[simp] theorem State.waitAt_vat (s : State) (i : Instr) (c k : Nat) (r : Option Nat) : (s.waitAt i c k r).vat = s.vat := rfl
@[simp] theorem State.waitAt_running (s : State) (i : Instr) (c k : Nat) (r : Option Nat) : (s.waitAt i c k r).running = s.running := rfl
@[simp] theorem State.waitAt_inReset (s : State) (i : Instr) (c k : Nat) (r : Option Nat) : (s.waitAt i c k r).inReset = s.inReset := rfl
@[simp] theorem State.waitAt_glb (s : State) (i : Instr) (c k : Nat) (r : Option Nat) : (s.waitAt i c k r).glb = s.glb := rfl
@[simp] theorem State.waitAt_ledger (s : State) (i : Instr) (c k : Nat) (r : Option Nat) : (s.waitAt i c k r).ledger = s.ledger := rfl
@[simp] theorem State.waitAt_ream (s : State) (i : Instr) (c k : Nat) (r : Option Nat) : (s.waitAt i c k r).ream = s.ream := rfl
@[simp] theorem State.waitAt_hif (s : State) (i : Instr) (c k : Nat) (r : Option Nat) : (s.waitAt i c k r).hif = s.hif := rfl
@[simp] theorem State.waitAt_irq (s : State) (i : Instr) (c k : Nat) (r : Option Nat) : (s.waitAt i c k r).irq = s.irq := rfl
@[simp] theorem State.waitAt_flt (s : State) (i : Instr) (c k : Nat) (r : Option Nat) : (s.waitAt i c k r).flt = s.flt := rfl
@[simp] theorem State.waitAt_vatc (s : State) (i : Instr) (c k : Nat) (r : Option Nat) : (s.waitAt i c k r).vatc = s.vatc := rfl
@[simp] theorem State.waitAt_siz (s : State) (i : Instr) (c k : Nat) (r : Option Nat) : (s.waitAt i c k r).siz = s.siz := rfl
@[simp] theorem State.waitAt_spare (s : State) (i : Instr) (c k : Nat) (r : Option Nat) : (s.waitAt i c k r).spare = s.spare := rfl
@[simp] theorem State.waitAt_time (s : State) (i : Instr) (c k : Nat) (r : Option Nat) : (s.waitAt i c k r).time = s.time := rfl
@[simp] theorem State.waitAt_sheet (s : State) (i : Instr) (c k : Nat) (r : Option Nat) : (s.waitAt i c k r).sheet = s.sheet := rfl
@[simp] theorem State.waitAt_tdc (s : State) (i : Instr) (c k : Nat) (r : Option Nat) : (s.waitAt i c k r).tdc = s.tdc := rfl
@[simp] theorem State.waitAt_gnss (s : State) (i : Instr) (c k : Nat) (r : Option Nat) : (s.waitAt i c k r).gnss = s.gnss := rfl
@[simp] theorem State.waitAt_nav (s : State) (i : Instr) (c k : Nat) (r : Option Nat) : (s.waitAt i c k r).nav = s.nav := rfl
@[simp] theorem State.waitAt_ref (s : State) (i : Instr) (c k : Nat) (r : Option Nat) : (s.waitAt i c k r).ref = s.ref := rfl
@[simp] theorem State.waitAt_hold (s : State) (i : Instr) (c k : Nat) (r : Option Nat) : (s.waitAt i c k r).hold = s.hold := rfl
@[simp] theorem State.waitAt_syn (s : State) (i : Instr) (c k : Nat) (r : Option Nat) : (s.waitAt i c k r).syn = s.syn := rfl
@[simp] theorem State.waitAt_bound (s : State) (i : Instr) (c k : Nat) (r : Option Nat) : (s.waitAt i c k r).bound = s.bound := rfl
@[simp] theorem State.waitAt_mac (s : State) (i : Instr) (c k : Nat) (r : Option Nat) : (s.waitAt i c k r).mac = s.mac := rfl
@[simp] theorem State.waitAt_ptp (s : State) (i : Instr) (c k : Nat) (r : Option Nat) : (s.waitAt i c k r).ptp = s.ptp := rfl
@[simp] theorem State.waitAt_nts (s : State) (i : Instr) (c k : Nat) (r : Option Nat) : (s.waitAt i c k r).nts = s.nts := rfl
@[simp] theorem State.waitAt_key (s : State) (i : Instr) (c k : Nat) (r : Option Nat) : (s.waitAt i c k r).key = s.key := rfl
@[simp] theorem State.waitAt_couch (s : State) (i : Instr) (c k : Nat) (r : Option Nat) : (s.waitAt i c k r).couch = s.couch := rfl
@[simp] theorem State.waitAt_keep (s : State) (i : Instr) (c k : Nat) (r : Option Nat) : (s.waitAt i c k r).keep = s.keep := rfl
@[simp] theorem State.waitAt_freeIdx (s : State) (i : Instr) (c k : Nat) (r : Option Nat) : (s.waitAt i c k r).freeIdx = s.freeIdx := rfl
@[simp] theorem State.waitAt_out (s : State) (i : Instr) (c k : Nat) (r : Option Nat) : (s.waitAt i c k r).out = s.out := rfl

/-! ### What writing a one-bit field leaves -/

@[simp] theorem State.putB_pending (s : State) (f : Fld) (b : Bool) : (s.putB f b).pending = s.pending := rfl
@[simp] theorem State.putB_rwtB (s : State) (f : Fld) (b : Bool) : (s.putB f b).rwtB = s.rwtB := rfl
@[simp] theorem State.putB_rwtC (s : State) (f : Fld) (b : Bool) : (s.putB f b).rwtC = s.rwtC := rfl
@[simp] theorem State.putB_vat (s : State) (f : Fld) (b : Bool) : (s.putB f b).vat = s.vat := rfl
@[simp] theorem State.putB_held (s : State) (f : Fld) (b : Bool) : (s.putB f b).held = s.held := rfl
@[simp] theorem State.putB_running (s : State) (f : Fld) (b : Bool) : (s.putB f b).running = s.running := rfl
@[simp] theorem State.putB_inReset (s : State) (f : Fld) (b : Bool) : (s.putB f b).inReset = s.inReset := rfl
@[simp] theorem State.putB_glb (s : State) (f : Fld) (b : Bool) : (s.putB f b).glb = s.glb := rfl
@[simp] theorem State.putB_ledger (s : State) (f : Fld) (b : Bool) : (s.putB f b).ledger = s.ledger := rfl
@[simp] theorem State.putB_ream (s : State) (f : Fld) (b : Bool) : (s.putB f b).ream = s.ream := rfl
@[simp] theorem State.putB_hif (s : State) (f : Fld) (b : Bool) : (s.putB f b).hif = s.hif := rfl
@[simp] theorem State.putB_irq (s : State) (f : Fld) (b : Bool) : (s.putB f b).irq = s.irq := rfl
@[simp] theorem State.putB_flt (s : State) (f : Fld) (b : Bool) : (s.putB f b).flt = s.flt := rfl
@[simp] theorem State.putB_vatc (s : State) (f : Fld) (b : Bool) : (s.putB f b).vatc = s.vatc := rfl
@[simp] theorem State.putB_siz (s : State) (f : Fld) (b : Bool) : (s.putB f b).siz = s.siz := rfl
@[simp] theorem State.putB_spare (s : State) (f : Fld) (b : Bool) : (s.putB f b).spare = s.spare := rfl
@[simp] theorem State.putB_time (s : State) (f : Fld) (b : Bool) : (s.putB f b).time = s.time := rfl
@[simp] theorem State.putB_sheet (s : State) (f : Fld) (b : Bool) : (s.putB f b).sheet = s.sheet := rfl
@[simp] theorem State.putB_tdc (s : State) (f : Fld) (b : Bool) : (s.putB f b).tdc = s.tdc := rfl
@[simp] theorem State.putB_gnss (s : State) (f : Fld) (b : Bool) : (s.putB f b).gnss = s.gnss := rfl
@[simp] theorem State.putB_nav (s : State) (f : Fld) (b : Bool) : (s.putB f b).nav = s.nav := rfl
@[simp] theorem State.putB_ref (s : State) (f : Fld) (b : Bool) : (s.putB f b).ref = s.ref := rfl
@[simp] theorem State.putB_hold (s : State) (f : Fld) (b : Bool) : (s.putB f b).hold = s.hold := rfl
@[simp] theorem State.putB_syn (s : State) (f : Fld) (b : Bool) : (s.putB f b).syn = s.syn := rfl
@[simp] theorem State.putB_bound (s : State) (f : Fld) (b : Bool) : (s.putB f b).bound = s.bound := rfl
@[simp] theorem State.putB_mac (s : State) (f : Fld) (b : Bool) : (s.putB f b).mac = s.mac := rfl
@[simp] theorem State.putB_ptp (s : State) (f : Fld) (b : Bool) : (s.putB f b).ptp = s.ptp := rfl
@[simp] theorem State.putB_nts (s : State) (f : Fld) (b : Bool) : (s.putB f b).nts = s.nts := rfl
@[simp] theorem State.putB_key (s : State) (f : Fld) (b : Bool) : (s.putB f b).key = s.key := rfl
@[simp] theorem State.putB_couch (s : State) (f : Fld) (b : Bool) : (s.putB f b).couch = s.couch := rfl
@[simp] theorem State.putB_keep (s : State) (f : Fld) (b : Bool) : (s.putB f b).keep = s.keep := rfl
@[simp] theorem State.putB_freeIdx (s : State) (f : Fld) (b : Bool) : (s.putB f b).freeIdx = s.freeIdx := rfl
@[simp] theorem State.putB_out (s : State) (f : Fld) (b : Bool) : (s.putB f b).out = s.out := rfl

/-! ### What writing a signed field leaves -/

@[simp] theorem State.puti_pending (s : State) (f : Fld) (i : Int) : (s.puti f i).pending = s.pending := rfl
@[simp] theorem State.puti_rwtB (s : State) (f : Fld) (i : Int) : (s.puti f i).rwtB = s.rwtB := rfl
@[simp] theorem State.puti_rwtC (s : State) (f : Fld) (i : Int) : (s.puti f i).rwtC = s.rwtC := rfl
@[simp] theorem State.puti_vat (s : State) (f : Fld) (i : Int) : (s.puti f i).vat = s.vat := rfl
@[simp] theorem State.puti_held (s : State) (f : Fld) (i : Int) : (s.puti f i).held = s.held := rfl
@[simp] theorem State.puti_running (s : State) (f : Fld) (i : Int) : (s.puti f i).running = s.running := rfl
@[simp] theorem State.puti_inReset (s : State) (f : Fld) (i : Int) : (s.puti f i).inReset = s.inReset := rfl
@[simp] theorem State.puti_glb (s : State) (f : Fld) (i : Int) : (s.puti f i).glb = s.glb := rfl
@[simp] theorem State.puti_ledger (s : State) (f : Fld) (i : Int) : (s.puti f i).ledger = s.ledger := rfl
@[simp] theorem State.puti_ream (s : State) (f : Fld) (i : Int) : (s.puti f i).ream = s.ream := rfl
@[simp] theorem State.puti_hif (s : State) (f : Fld) (i : Int) : (s.puti f i).hif = s.hif := rfl
@[simp] theorem State.puti_irq (s : State) (f : Fld) (i : Int) : (s.puti f i).irq = s.irq := rfl
@[simp] theorem State.puti_flt (s : State) (f : Fld) (i : Int) : (s.puti f i).flt = s.flt := rfl
@[simp] theorem State.puti_vatc (s : State) (f : Fld) (i : Int) : (s.puti f i).vatc = s.vatc := rfl
@[simp] theorem State.puti_siz (s : State) (f : Fld) (i : Int) : (s.puti f i).siz = s.siz := rfl
@[simp] theorem State.puti_spare (s : State) (f : Fld) (i : Int) : (s.puti f i).spare = s.spare := rfl
@[simp] theorem State.puti_time (s : State) (f : Fld) (i : Int) : (s.puti f i).time = s.time := rfl
@[simp] theorem State.puti_sheet (s : State) (f : Fld) (i : Int) : (s.puti f i).sheet = s.sheet := rfl
@[simp] theorem State.puti_tdc (s : State) (f : Fld) (i : Int) : (s.puti f i).tdc = s.tdc := rfl
@[simp] theorem State.puti_gnss (s : State) (f : Fld) (i : Int) : (s.puti f i).gnss = s.gnss := rfl
@[simp] theorem State.puti_nav (s : State) (f : Fld) (i : Int) : (s.puti f i).nav = s.nav := rfl
@[simp] theorem State.puti_ref (s : State) (f : Fld) (i : Int) : (s.puti f i).ref = s.ref := rfl
@[simp] theorem State.puti_hold (s : State) (f : Fld) (i : Int) : (s.puti f i).hold = s.hold := rfl
@[simp] theorem State.puti_syn (s : State) (f : Fld) (i : Int) : (s.puti f i).syn = s.syn := rfl
@[simp] theorem State.puti_bound (s : State) (f : Fld) (i : Int) : (s.puti f i).bound = s.bound := rfl
@[simp] theorem State.puti_mac (s : State) (f : Fld) (i : Int) : (s.puti f i).mac = s.mac := rfl
@[simp] theorem State.puti_ptp (s : State) (f : Fld) (i : Int) : (s.puti f i).ptp = s.ptp := rfl
@[simp] theorem State.puti_nts (s : State) (f : Fld) (i : Int) : (s.puti f i).nts = s.nts := rfl
@[simp] theorem State.puti_key (s : State) (f : Fld) (i : Int) : (s.puti f i).key = s.key := rfl
@[simp] theorem State.puti_couch (s : State) (f : Fld) (i : Int) : (s.puti f i).couch = s.couch := rfl
@[simp] theorem State.puti_keep (s : State) (f : Fld) (i : Int) : (s.puti f i).keep = s.keep := rfl
@[simp] theorem State.puti_freeIdx (s : State) (f : Fld) (i : Int) : (s.puti f i).freeIdx = s.freeIdx := rfl
@[simp] theorem State.puti_out (s : State) (f : Fld) (i : Int) : (s.puti f i).out = s.out := rfl

/-! ### Reading after writing -/

@[simp] theorem State.put_regs (s : State) (f : Fld) (v : Nat) : (s.put f v).regs = s.regs.put f v := rfl
@[simp] theorem State.putT_regs (s : State) (f : Fld) (v : Nat) : (s.putT f v).regs = s.regs.put f v := rfl
@[simp] theorem State.putT_rwtB (s : State) (f : Fld) (v : Nat) : (s.putT f v).rwtB = s.rwtB.put f v := rfl
@[simp] theorem State.putT_rwtC (s : State) (f : Fld) (v : Nat) : (s.putT f v).rwtC = s.rwtC.put f v := rfl
@[simp] theorem State.emit_out (s : State) (o : Out) : (s.emit o).out = o :: s.out := rfl
@[simp] theorem State.waitAt_held (s : State) (i : Instr) (c k : Nat) (r : Option Nat) :
    (s.waitAt i c k r).held = s.held ++ [⟨i, c, k, 0, r⟩] := rfl

/-- A field reads what was written to it. -/
@[simp] theorem State.get_put_same (s : State) (f : Fld) (v : Nat) : (s.put f v).get f = v % 2 ^ f.width :=
  RegFile.get_put_same s.regs f v

/-- A write leaves the other fields. -/
theorem State.get_put_other (s : State) (f g : Fld) (v : Nat) (h : g.key ≠ f.key) : (s.put f v).get g = s.get g :=
  RegFile.get_put_other s.regs f g v h

/-- A value that fits a field is read as it was written. -/
theorem State.get_put_fits (s : State) (f : Fld) (v : Nat) (h : v < 2 ^ f.width) : (s.put f v).get f = v := by
  rw [State.get_put_same, Nat.mod_eq_of_lt h]

/-- A field never reads more than its width holds. -/
theorem State.get_lt (s : State) (f : Fld) : s.get f < 2 ^ f.width := Nat.mod_lt _ (Nat.two_pow_pos _)

theorem State.get_congr {s t : State} (h : t.regs = s.regs) (f : Fld) : t.get f = s.get f := by simp [State.get, h]

theorem State.flag_putB_same (s : State) (f : Fld) (b : Bool) (h : f.width = 1) : (s.putB f b).flag f = b := by
  cases b <;> simp [State.putB, State.flag, h]

theorem State.flag_put_other (s : State) (f g : Fld) (v : Nat) (h : g.key ≠ f.key) : (s.put f v).flag g = s.flag g := by
  simp [State.flag, State.get_put_other s f g v h]

@[simp] theorem State.puts_nil (s : State) : s.puts [] = s := rfl
@[simp] theorem State.puts_cons (s : State) (f : Fld) (v : Nat) (l : List (Fld × Nat)) :
    s.puts ((f, v) :: l) = (s.put f v).puts l := rfl

end Sys2Proof.Machine
end

