-- ==== Sys2Proof/Laws/Frame.lean ====
section
/-! SUPPORT. What the bookkeeping of the engine leaves alone: stock, interrupts, counters, events, the ream, rings, fault flags and what registers
show of the state change no register and no block state that the rules of a command speak of. -/

namespace Sys2Proof.Machine

/-- The keys of the fields that bookkeeping writes. -/
inductive Noise : Nat → Prop where
  | glb_glb_cnt_ovf : Noise GLB.GLB_CNT_OVF.key
  | ledger_shared_left : Noise LEDGER.SHARED_LEFT.key
  | ledger_ledger_status_reserve_over : Noise LEDGER.LEDGER_STATUS_RESERVE_OVER.key
  | ledger_reserve_over_cnt : Noise LEDGER.RESERVE_OVER_CNT.key
  | couch_pair_status_role : Noise COUCH.PAIR_STATUS_ROLE.key
  | couch_pair_status_link : Noise COUCH.PAIR_STATUS_LINK.key
  | couch_pair_status_state : Noise COUCH.PAIR_STATUS_STATE.key
  | couch_pair_status_promotable : Noise COUCH.PAIR_STATUS_PROMOTABLE.key
  | couch_pair_status_handover_pending : Noise COUCH.PAIR_STATUS_HANDOVER_PENDING.key
  | couch_handover_sheet : Noise COUCH.HANDOVER_SHEET.key
  | couch_link_loss_cnt : Noise COUCH.LINK_LOSS_CNT.key
  | hif_hif_status_mb_busy : Noise HIF.HIF_STATUS_MB_BUSY.key
  | hif_hif_inflight_cmds : Noise HIF.HIF_INFLIGHT_CMDS.key
  | hif_evt_stage : Noise HIF.EVT_STAGE.key
  | hif_cmd_cnt : Noise HIF.CMD_CNT.key
  | hif_event_drop_cnt : Noise HIF.EVENT_DROP_CNT.key
  | hif_dma_err_cnt : Noise HIF.DMA_ERR_CNT.key
  | vat_vat_status_uncorr : Noise VAT.VAT_STATUS_UNCORR.key
  | vat_vat_status_deny : Noise VAT.VAT_STATUS_DENY.key
  | vat_uncorr_cnt : Noise VAT.UNCORR_CNT.key
  | vat_region_deny_cnt : Noise VAT.REGION_DENY_CNT.key
  | vat_uncorr_addr : Noise VAT.UNCORR_ADDR.key
  | vat_uncorr_master : Noise VAT.UNCORR_MASTER.key
  | vat_uncorr_sheet : Noise VAT.UNCORR_SHEET.key
  | vat_deny_addr : Noise VAT.DENY_ADDR.key
  | vat_deny_master_master : Noise VAT.DENY_MASTER_MASTER.key
  | vat_deny_master_write : Noise VAT.DENY_MASTER_WRITE.key
  | irq_irq_status_pending : Noise IRQ.IRQ_STATUS_PENDING.key
  | irq_irq_status_int_n : Noise IRQ.IRQ_STATUS_INT_N.key
  | flt_flt_status_timer_run : Noise FLT.FLT_STATUS_TIMER_RUN.key
  | flt_flt_status_fault_n : Noise FLT.FLT_STATUS_FAULT_N.key
  | flt_flt_status_active_n : Noise FLT.FLT_STATUS_ACTIVE_N.key
  | flt_wire_cnt : Noise FLT.WIRE_CNT.key
  | ream_ream_status_ream_loss : Noise REAM.REAM_STATUS_REAM_LOSS.key
  | ream_ream_status_gap_open : Noise REAM.REAM_STATUS_GAP_OPEN.key
  | ream_ream_status_full : Noise REAM.REAM_STATUS_FULL.key
  | ream_ream_undrained : Noise REAM.REAM_UNDRAINED.key
  | ream_ream_seq : Noise REAM.REAM_SEQ.key
  | ream_ream_lost_cnt : Noise REAM.REAM_LOST_CNT.key
  | ream_gap_cnt : Noise REAM.GAP_CNT.key
  | spare_cand_vat : Noise SPARE.CAND_VAT.key
  | spare_cand_aes : Noise SPARE.CAND_AES.key
  | spare_cand_lanes : Noise SPARE.CAND_LANES.key
  | spare_cand_lines : Noise SPARE.CAND_LINES.key
  | ptp_ptp_status_serving : Noise PTP.PTP_STATUS_SERVING.key
  | nts_nts_status_serving : Noise NTS.NTS_STATUS_SERVING.key
  | sizing_siz_status_running : Noise SIZING.SIZ_STATUS_RUNNING.key
  | gnssf_gnssf_status_a_ok : Noise GNSSF.GNSSF_STATUS_A_OK.key
  | gnssf_gnssf_status_b_ok : Noise GNSSF.GNSSF_STATUS_B_OK.key
  | syn_syn_status_ramping : Noise SYN.SYN_STATUS_RAMPING.key
  | refsel_refsel_status_frozen : Noise REFSEL.REFSEL_STATUS_FROZEN.key
  | time_evt_stat_suppressed (n : Nat) (h : n < 16) : Noise (TIME.EVT_STAT_SUPPRESSED n).key
  | time_evt_stat_level (n : Nat) (h : n < 16) : Noise (TIME.EVT_STAT_LEVEL n).key
  | ledger_refuse_cnt (n : Nat) (h : n < 8) : Noise (LEDGER.REFUSE_CNT n).key
  | hif_ring_prod (n : Nat) (h : n < 64) : Noise (HIF.RING_PROD n).key
  | hif_ring_cons (n : Nat) (h : n < 64) : Noise (HIF.RING_CONS n).key
  | hif_ring_stat_running (n : Nat) (h : n < 64) : Noise (HIF.RING_STAT_RUNNING n).key
  | hif_ring_stat_halted (n : Nat) (h : n < 64) : Noise (HIF.RING_STAT_HALTED n).key
  | hif_ring_stat_err (n : Nat) (h : n < 64) : Noise (HIF.RING_STAT_ERR n).key
  | hif_ring_stat_full (n : Nat) (h : n < 64) : Noise (HIF.RING_STAT_FULL n).key
  | irq_vec_stat_state (n : Nat) (h : n < 128) : Noise (IRQ.VEC_STAT_STATE n).key
  | irq_vec_stat_level (n : Nat) (h : n < 128) : Noise (IRQ.VEC_STAT_LEVEL n).key
  | irq_vec_stat_depth (n : Nat) (h : n < 128) : Noise (IRQ.VEC_STAT_DEPTH n).key
  | irq_vec_stat_pba (n : Nat) (h : n < 128) : Noise (IRQ.VEC_STAT_PBA n).key
  | irq_src_cfg_pending (n : Nat) (h : n < 512) : Noise (IRQ.SRC_CFG_PENDING n).key
  | irq_src_cfg_raw (n : Nat) (h : n < 512) : Noise (IRQ.SRC_CFG_RAW n).key
  | flt_flt_active (n : Nat) (h : n < 4) : Noise (FLT.FLT_ACTIVE n).key
  | flt_flt_acked (n : Nat) (h : n < 4) : Noise (FLT.FLT_ACKED n).key
  | flt_flt_wire (n : Nat) (h : n < 4) : Noise (FLT.FLT_WIRE n).key
  | flt_flt_raise_cnt (n : Nat) (h : n < 128) : Noise (FLT.FLT_RAISE_CNT n).key
  | ream_ream_win (n : Nat) (h : n < 16) : Noise (REAM.REAM_WIN n).key
  | pmu_pmu_cnt (n : Nat) (h : n < 32) : Noise (PMU.PMU_CNT n).key
  | syn_out_stat_driven (n : Nat) (h : n < 16) : Noise (SYN.OUT_STAT_DRIVEN n).key
  | syn_out_stat_squelched (n : Nat) (h : n < 16) : Noise (SYN.OUT_STAT_SQUELCHED n).key
  | syn_pps_stat_no_src (n : Nat) (h : n < 4) : Noise (SYN.PPS_STAT_NO_SRC n).key
  | syn_pps_stat_squelched (n : Nat) (h : n < 4) : Noise (SYN.PPS_STAT_SQUELCHED n).key

theorem noisy_of {k : Nat} (p : Nat × Nat × Nat × Nat) (m : p ∈ noisePlaces) (h : p.1 ≤ k ∧ k < p.2.1 ∧ k % p.2.2.1 = p.2.2.2) : noisy k = true :=
  List.any_eq_true.2 ⟨p, m, by simp only [h, decide_true, Bool.and_self, BEq.rfl]⟩

theorem Noise.noisy {k : Nat} (h : Noise k) : noisy k = true := by
  cases h with
  | glb_glb_cnt_ovf => rfl
  | ledger_shared_left => rfl
  | ledger_ledger_status_reserve_over => rfl
  | ledger_reserve_over_cnt => rfl
  | couch_pair_status_role => rfl
  | couch_pair_status_link => rfl
  | couch_pair_status_state => rfl
  | couch_pair_status_promotable => rfl
  | couch_pair_status_handover_pending => rfl
  | couch_handover_sheet => rfl
  | couch_link_loss_cnt => rfl
  | hif_hif_status_mb_busy => rfl
  | hif_hif_inflight_cmds => rfl
  | hif_evt_stage => rfl
  | hif_cmd_cnt => rfl
  | hif_event_drop_cnt => rfl
  | hif_dma_err_cnt => rfl
  | vat_vat_status_uncorr => rfl
  | vat_vat_status_deny => rfl
  | vat_uncorr_cnt => rfl
  | vat_region_deny_cnt => rfl
  | vat_uncorr_addr => rfl
  | vat_uncorr_master => rfl
  | vat_uncorr_sheet => rfl
  | vat_deny_addr => rfl
  | vat_deny_master_master => rfl
  | vat_deny_master_write => rfl
  | irq_irq_status_pending => rfl
  | irq_irq_status_int_n => rfl
  | flt_flt_status_timer_run => rfl
  | flt_flt_status_fault_n => rfl
  | flt_flt_status_active_n => rfl
  | flt_wire_cnt => rfl
  | ream_ream_status_ream_loss => rfl
  | ream_ream_status_gap_open => rfl
  | ream_ream_status_full => rfl
  | ream_ream_undrained => rfl
  | ream_ream_seq => rfl
  | ream_ream_lost_cnt => rfl
  | ream_gap_cnt => rfl
  | spare_cand_vat => rfl
  | spare_cand_aes => rfl
  | spare_cand_lanes => rfl
  | spare_cand_lines => rfl
  | ptp_ptp_status_serving => rfl
  | nts_nts_status_serving => rfl
  | sizing_siz_status_running => rfl
  | gnssf_gnssf_status_a_ok => rfl
  | gnssf_gnssf_status_b_ok => rfl
  | syn_syn_status_ramping => rfl
  | refsel_refsel_status_frozen => rfl
  | time_evt_stat_suppressed n h => exact noisy_of (6295682, 6303363, 512, 130) (by decide) (by simp only [TIME.EVT_STAT_SUPPRESSED]; omega)
  | time_evt_stat_level n h => exact noisy_of (6295681, 6303362, 512, 129) (by decide) (by simp only [TIME.EVT_STAT_LEVEL]; omega)
  | ledger_refuse_cnt n h => exact noisy_of (2105344, 2107137, 256, 0) (by decide) (by simp only [LEDGER.REFUSE_CNT]; omega)
  | hif_ring_prod n h => exact noisy_of (62923136, 62987649, 1024, 384) (by decide) (by simp only [HIF.RING_PROD]; omega)
  | hif_ring_cons n h => exact noisy_of (62923264, 62987777, 1024, 512) (by decide) (by simp only [HIF.RING_CONS]; omega)
  | hif_ring_stat_running n h => exact noisy_of (62923392, 62987905, 1024, 640) (by decide) (by simp only [HIF.RING_STAT_RUNNING]; omega)
  | hif_ring_stat_halted n h => exact noisy_of (62923393, 62987906, 1024, 641) (by decide) (by simp only [HIF.RING_STAT_HALTED]; omega)
  | hif_ring_stat_err n h => exact noisy_of (62923394, 62987907, 1024, 642) (by decide) (by simp only [HIF.RING_STAT_ERR]; omega)
  | hif_ring_stat_full n h => exact noisy_of (62923397, 62987910, 1024, 645) (by decide) (by simp only [HIF.RING_STAT_FULL]; omega)
  | irq_vec_stat_state n h => exact noisy_of (67117440, 67182465, 512, 384) (by decide) (by simp only [IRQ.VEC_STAT_STATE]; omega)
  | irq_vec_stat_level n h => exact noisy_of (67117444, 67182469, 512, 388) (by decide) (by simp only [IRQ.VEC_STAT_LEVEL]; omega)
  | irq_vec_stat_depth n h => exact noisy_of (67117448, 67182473, 512, 392) (by decide) (by simp only [IRQ.VEC_STAT_DEPTH]; omega)
  | irq_vec_stat_pba n h => exact noisy_of (67117453, 67182478, 512, 397) (by decide) (by simp only [IRQ.VEC_STAT_PBA]; omega)
  | irq_src_cfg_pending n h => exact noisy_of (67239954, 67305363, 128, 18) (by decide) (by simp only [IRQ.SRC_CFG_PENDING]; omega)
  | irq_src_cfg_raw n h => exact noisy_of (67239956, 67305365, 128, 20) (by decide) (by simp only [IRQ.SRC_CFG_RAW]; omega)
  | flt_flt_active n h => exact noisy_of (69207040, 69207425, 128, 0) (by decide) (by simp only [FLT.FLT_ACTIVE]; omega)
  | flt_flt_acked n h => exact noisy_of (69208064, 69208449, 128, 0) (by decide) (by simp only [FLT.FLT_ACKED]; omega)
  | flt_flt_wire n h => exact noisy_of (69208576, 69208961, 128, 0) (by decide) (by simp only [FLT.FLT_WIRE]; omega)
  | flt_flt_raise_cnt n h => exact noisy_of (69238784, 69271297, 256, 0) (by decide) (by simp only [FLT.FLT_RAISE_CNT]; omega)
  | ream_ream_win n h => exact noisy_of (71311360, 71313281, 128, 0) (by decide) (by simp only [REAM.REAM_WIN]; omega)
  | pmu_pmu_cnt n h => exact noisy_of (73408640, 73424513, 512, 128) (by decide) (by simp only [PMU.PMU_CNT]; omega)
  | syn_out_stat_driven n h => exact noisy_of (39879296, 39894657, 1024, 640) (by decide) (by simp only [SYN.OUT_STAT_DRIVEN]; omega)
  | syn_out_stat_squelched n h => exact noisy_of (39879298, 39894659, 1024, 642) (by decide) (by simp only [SYN.OUT_STAT_SQUELCHED]; omega)
  | syn_pps_stat_no_src n h => exact noisy_of (39895424, 39896961, 512, 384) (by decide) (by simp only [SYN.PPS_STAT_NO_SRC]; omega)
  | syn_pps_stat_squelched n h => exact noisy_of (39895425, 39896962, 512, 385) (by decide) (by simp only [SYN.PPS_STAT_SQUELCHED]; omega)

variable {l : List Fld} {s t u v : State}

theorem Keeps.refl (s : State) : Keeps l s s := ⟨fun _ _ _ => rfl, rfl, List.suffix_refl _⟩

theorem Keeps.trans (a : Keeps l s t) (b : Keeps l t u) : Keeps l s u :=
  ⟨fun f hf hl => (b.get f hf hl).trans (a.get f hf hl), b.core.trans a.core, a.out.trans b.out⟩

theorem Keeps.vat (h : Keeps l s t) : t.vat = s.vat := congrArg Core.vat h.core
theorem Keeps.held (h : Keeps l s t) : t.held = s.held := congrArg Core.held h.core
theorem Keeps.running (h : Keeps l s t) : t.running = s.running := congrArg Core.running h.core
theorem Keeps.inReset (h : Keeps l s t) : t.inReset = s.inReset := congrArg Core.inReset h.core
theorem Keeps.pending (h : Keeps l s t) : t.pending = s.pending := congrArg Core.pending h.core
theorem Keeps.rwtB (h : Keeps l s t) : t.rwtB = s.rwtB := congrArg Core.rwtB h.core
theorem Keeps.rwtC (h : Keeps l s t) : t.rwtC = s.rwtC := congrArg Core.rwtC h.core
theorem Keeps.glb (h : Keeps l s t) : t.glb = s.glb := congrArg Core.glb h.core
theorem Keeps.siz (h : Keeps l s t) : t.siz = s.siz := congrArg Core.siz h.core
theorem Keeps.spare (h : Keeps l s t) : t.spare = s.spare := congrArg Core.spare h.core
theorem Keeps.time (h : Keeps l s t) : t.time = s.time := congrArg Core.time h.core
theorem Keeps.sheet (h : Keeps l s t) : t.sheet = s.sheet := congrArg Core.sheet h.core
theorem Keeps.tdc (h : Keeps l s t) : t.tdc = s.tdc := congrArg Core.tdc h.core
theorem Keeps.gnss (h : Keeps l s t) : t.gnss = s.gnss := congrArg Core.gnss h.core
theorem Keeps.nav (h : Keeps l s t) : t.nav = s.nav := congrArg Core.nav h.core
theorem Keeps.ref (h : Keeps l s t) : t.ref = s.ref := congrArg Core.ref h.core
theorem Keeps.hold (h : Keeps l s t) : t.hold = s.hold := congrArg Core.hold h.core
theorem Keeps.syn (h : Keeps l s t) : { t.syn with clkPins := [], ppsPins := [] } = { s.syn with clkPins := [], ppsPins := [] } :=
  congrArg Core.syn h.core
theorem Keeps.bound (h : Keeps l s t) : t.bound = s.bound := congrArg Core.bound h.core
theorem Keeps.mac (h : Keeps l s t) : t.mac = s.mac := congrArg Core.mac h.core
theorem Keeps.ptp (h : Keeps l s t) : t.ptp = s.ptp := congrArg Core.ptp h.core
theorem Keeps.nts (h : Keeps l s t) : t.nts = s.nts := congrArg Core.nts h.core
theorem Keeps.key (h : Keeps l s t) : t.key = s.key := congrArg Core.key h.core
theorem Keeps.keep (h : Keeps l s t) : t.keep = s.keep := congrArg Core.keep h.core
theorem Keeps.flt_broken (h : Keeps l s t) : t.flt.broken = s.flt.broken := congrArg (fun c => c.flt.broken) h.core
theorem Keeps.flt_keyMismatch (h : Keeps l s t) : t.flt.keyMismatch = s.flt.keyMismatch := congrArg (fun c => c.flt.keyMismatch) h.core
theorem Keeps.flt_sheetLate (h : Keeps l s t) : t.flt.sheetLate = s.flt.sheetLate := congrArg (fun c => c.flt.sheetLate) h.core
theorem Keeps.flt_tempHigh (h : Keeps l s t) : t.flt.tempHigh = s.flt.tempHigh := congrArg (fun c => c.flt.tempHigh) h.core
theorem Keeps.flt_supply (h : Keeps l s t) : t.flt.supply = s.flt.supply := congrArg (fun c => c.flt.supply) h.core
theorem Keeps.flt_squelch (h : Keeps l s t) : t.flt.squelch = s.flt.squelch := congrArg (fun c => c.flt.squelch) h.core
theorem Keeps.flt_squelchLift (h : Keeps l s t) : t.flt.squelchLift = s.flt.squelchLift := congrArg (fun c => c.flt.squelchLift) h.core
theorem Keeps.irq_claims (h : Keeps l s t) : t.irq.claims = s.irq.claims := congrArg (fun c => c.irq.claims) h.core
theorem Keeps.irq_cfgDue (h : Keeps l s t) : t.irq.cfgDue = s.irq.cfgDue := congrArg (fun c => c.irq.cfgDue) h.core
theorem Keeps.irq_masked (h : Keeps l s t) : t.irq.masked = s.irq.masked := congrArg (fun c => c.irq.masked) h.core
theorem Keeps.hif_marks (h : Keeps l s t) : t.hif.marks = s.hif.marks := congrArg (fun c => c.hif.marks) h.core
theorem Keeps.hif_mbDesc (h : Keeps l s t) : t.hif.mbDesc = s.hif.mbDesc := congrArg (fun c => c.hif.mbDesc) h.core
theorem Keeps.hif_mbIrqEn (h : Keeps l s t) : t.hif.mbIrqEn = s.hif.mbIrqEn := congrArg (fun c => c.hif.mbIrqEn) h.core
theorem Keeps.hif_mbData (h : Keeps l s t) : t.hif.mbData = s.hif.mbData := congrArg (fun c => c.hif.mbData) h.core
theorem Keeps.hif_rxBufs (h : Keeps l s t) : t.hif.rxBufs = s.hif.rxBufs := congrArg (fun c => c.hif.rxBufs) h.core
theorem Keeps.hif_rxHeld (h : Keeps l s t) : t.hif.rxHeld = s.hif.rxHeld := congrArg (fun c => c.hif.rxHeld) h.core
theorem Keeps.couch_txSeq (h : Keeps l s t) : t.couch.txSeq = s.couch.txSeq := congrArg (fun c => c.couch.txSeq) h.core
theorem Keeps.couch_promote (h : Keeps l s t) : t.couch.promote = s.couch.promote := congrArg (fun c => c.couch.promote) h.core
theorem Keeps.couch_handing (h : Keeps l s t) : t.couch.handing = s.couch.handing := congrArg (fun c => c.couch.handing) h.core
theorem Keeps.couch_former (h : Keeps l s t) : t.couch.former = s.couch.former := congrArg (fun c => c.couch.former) h.core
theorem Keeps.couch_drillEnd (h : Keeps l s t) : t.couch.drillEnd = s.couch.drillEnd := congrArg (fun c => c.couch.drillEnd) h.core
theorem Keeps.couch_resyncOut (h : Keeps l s t) : t.couch.resyncOut = s.couch.resyncOut := congrArg (fun c => c.couch.resyncOut) h.core
theorem Keeps.couch_fillWait (h : Keeps l s t) : t.couch.fillWait = s.couch.fillWait := congrArg (fun c => c.couch.fillWait) h.core
theorem Keeps.couch_fillSeen (h : Keeps l s t) : t.couch.fillSeen = s.couch.fillSeen := congrArg (fun c => c.couch.fillSeen) h.core
theorem Keeps.couch_quiet (h : Keeps l s t) : t.couch.quiet = s.couch.quiet := congrArg (fun c => c.couch.quiet) h.core
theorem Keeps.couch_actHigh (h : Keeps l s t) : t.couch.actHigh = s.couch.actHigh := congrArg (fun c => c.couch.actHigh) h.core
theorem Keeps.couch_hbGood (h : Keeps l s t) : t.couch.hbGood = s.couch.hbGood := congrArg (fun c => c.couch.hbGood) h.core
theorem Keeps.couch_hbEqual (h : Keeps l s t) : t.couch.hbEqual = s.couch.hbEqual := congrArg (fun c => c.couch.hbEqual) h.core
theorem Keeps.couch_peerId (h : Keeps l s t) : t.couch.peerId = s.couch.peerId := congrArg (fun c => c.couch.peerId) h.core
theorem Keeps.couch_dual (h : Keeps l s t) : t.couch.dual = s.couch.dual := congrArg (fun c => c.couch.dual) h.core
theorem Keeps.couch_block (h : Keeps l s t) : t.couch.block = s.couch.block := congrArg (fun c => c.couch.block) h.core
theorem Keeps.couch_suppress (h : Keeps l s t) : t.couch.suppress = s.couch.suppress := congrArg (fun c => c.couch.suppress) h.core
theorem Keeps.couch_rxLast (h : Keeps l s t) : t.couch.rxLast = s.couch.rxLast := congrArg (fun c => c.couch.rxLast) h.core
theorem Keeps.couch_fwdLast (h : Keeps l s t) : t.couch.fwdLast = s.couch.fwdLast := congrArg (fun c => c.couch.fwdLast) h.core
theorem Keeps.couch_flowing (h : Keeps l s t) : t.couch.flowing = s.couch.flowing := congrArg (fun c => c.couch.flowing) h.core
theorem Keeps.couch_gotFwd (h : Keeps l s t) : t.couch.gotFwd = s.couch.gotFwd := congrArg (fun c => c.couch.gotFwd) h.core
theorem Keeps.vatc_lastPass (h : Keeps l s t) : t.vatc.lastPass = s.vatc.lastPass := congrArg (fun c => c.vatc.lastPass) h.core
theorem Keeps.vatc_thisPass (h : Keeps l s t) : t.vatc.thisPass = s.vatc.thisPass := congrArg (fun c => c.vatc.thisPass) h.core
theorem Keeps.vatc_repair (h : Keeps l s t) : t.vatc.repair = s.vatc.repair := congrArg (fun c => c.vatc.repair) h.core
theorem Keeps.vatc_fuses (h : Keeps l s t) : t.vatc.fuses = s.vatc.fuses := congrArg (fun c => c.vatc.fuses) h.core
theorem Keeps.ledger_overLast (h : Keeps l s t) : t.ledger.overLast = s.ledger.overLast := congrArg (fun c => c.ledger.overLast) h.core
theorem Keeps.ledger_warnStop (h : Keeps l s t) : t.ledger.warnStop = s.ledger.warnStop := congrArg (fun c => c.ledger.warnStop) h.core
theorem Keeps.ledger_exitDue (h : Keeps l s t) : t.ledger.exitDue = s.ledger.exitDue := congrArg (fun c => c.ledger.exitDue) h.core

/-- With no field named, every field that bookkeeping does not write reads the same. -/
theorem Keeps.read (h : Keeps [] s t) (f : Fld) (n : noisy f.key = false) : t.get f = s.get f := h.get f n (by simp)

theorem Keeps.mem (h : Keeps l s t) {o : Out} (m : o ∈ s.out) : o ∈ t.out := h.out.subset m

theorem Keeps.getT (h : Keeps l s t) (f : Fld) (n : noisy f.key = false) (hl : ∀ d ∈ l, f.key ≠ d.key) : t.getT f = s.getT f := by
  have e := h.get f n hl
  unfold State.get at e
  simp only [State.getT, h.glb, h.rwtB, h.rwtC, e]

theorem Keeps.readT (h : Keeps [] s t) (f : Fld) (n : noisy f.key = false) : t.getT f = s.getT f := h.getT f n (by simp)

theorem Keeps.flag (h : Keeps [] s t) (f : Fld) (n : noisy f.key = false) : t.flag f = s.flag f := by
  simp only [State.flag, h.read f n]

theorem Keeps.geti (h : Keeps [] s t) (f : Fld) (n : noisy f.key = false) : t.geti f = s.geti f := by
  simp only [State.geti, h.read f n]

/-- States with the same registers and the same kept parts. -/
theorem Keeps.same (h : Keeps l s t) (r : u.regs = t.regs) (e : u.core = t.core) (o : u.out = t.out) : Keeps l s u :=
  h.trans ⟨fun f _ _ => State.get_congr r f, e, o ▸ List.suffix_refl _⟩

theorem Keeps.put (h : Keeps l s t) (f : Fld) (v : Nat) (n : Noise f.key) : Keeps l s (t.put f v) :=
  h.trans ⟨fun g hg _ => State.get_put_other t f g v (fun e => by rw [e] at hg; exact absurd n.noisy (by simp [hg])), rfl, List.suffix_refl _⟩

theorem Keeps.putIn (h : Keeps l s t) (f : Fld) (v : Nat) (n : f ∈ l) : Keeps l s (t.put f v) :=
  h.trans ⟨fun g _ hl => State.get_put_other t f g v (hl f n), rfl, List.suffix_refl _⟩

/-- Fewer fields named say more. -/
theorem Keeps.more {m : List Fld} (h : Keeps l s t) (n : ∀ f ∈ l, f ∈ m) : Keeps m s t :=
  ⟨fun f hf hl => h.get f hf (fun d hd => hl d (n d hd)), h.core, h.out⟩


theorem Keeps.putB (h : Keeps l s t) (f : Fld) (b : Bool) (n : Noise f.key) : Keeps l s (t.putB f b) := h.put f _ n

theorem Keeps.puts (h : Keeps l s t) (p : List (Fld × Nat)) (n : ∀ q ∈ p, Noise q.1.key) : Keeps l s (t.puts p) := by
  induction p generalizing t with
  | nil => exact h
  | cons q p ih =>
    obtain ⟨f, v⟩ := q
    exact ih (h.put f v (n (f, v) (by simp))) (fun r hr => n r (by simp [hr]))

theorem Keeps.putsIn (h : Keeps l s t) (p : List (Fld × Nat)) (n : ∀ q ∈ p, q.1 ∈ l) : Keeps l s (t.puts p) := by
  induction p generalizing t with
  | nil => exact h
  | cons q p ih =>
    obtain ⟨f, v⟩ := q
    exact ih (h.putIn f v (n (f, v) (by simp))) (fun r hr => n r (by simp [hr]))

theorem Keeps.reamSet (h : Keeps l s t) (x : ReamSt) : Keeps l s { t with ream := x } := h.trans ⟨fun _ _ _ => rfl, rfl, List.suffix_refl _⟩
theorem Keeps.reamVatcSet (h : Keeps l s t) (x : ReamSt) (p : List Nat) : Keeps l s { t with ream := x, vatc := { t.vatc with poison := p } } :=
  h.trans ⟨fun _ _ _ => rfl, rfl, List.suffix_refl _⟩
theorem Keeps.hifSet (h : Keeps l s t) (x : HifSt) (e : ({ t with hif := x } : State).core.hif = t.core.hif := by first | (simp only [State.core]; done) | (simp only [State.core]; rfl)) : Keeps l s { t with hif := x } :=
  h.trans ⟨fun _ _ _ => rfl, congrArg (fun y => ({ t.core with hif := y } : Core)) e, List.suffix_refl _⟩
theorem Keeps.irqSet (h : Keeps l s t) (x : IrqSt) (e : ({ t with irq := x } : State).core.irq = t.core.irq := by first | (simp only [State.core]; done) | (simp only [State.core]; rfl)) : Keeps l s { t with irq := x } :=
  h.trans ⟨fun _ _ _ => rfl, congrArg (fun y => ({ t.core with irq := y } : Core)) e, List.suffix_refl _⟩
theorem Keeps.fltSet (h : Keeps l s t) (x : FltSt) (e : ({ t with flt := x } : State).core.flt = t.core.flt := by first | (simp only [State.core]; done) | (simp only [State.core]; rfl)) : Keeps l s { t with flt := x } :=
  h.trans ⟨fun _ _ _ => rfl, congrArg (fun y => ({ t.core with flt := y } : Core)) e, List.suffix_refl _⟩
theorem Keeps.couchSet (h : Keeps l s t) (x : CouchSt) (e : ({ t with couch := x } : State).core.couch = t.core.couch := by first | (simp only [State.core]; done) | (simp only [State.core]; rfl)) : Keeps l s { t with couch := x } :=
  h.trans ⟨fun _ _ _ => rfl, congrArg (fun y => ({ t.core with couch := y } : Core)) e, List.suffix_refl _⟩
theorem Keeps.vatcSet (h : Keeps l s t) (x : VatSt) (e : ({ t with vatc := x } : State).core.vatc = t.core.vatc := by first | (simp only [State.core]; done) | (simp only [State.core]; rfl)) : Keeps l s { t with vatc := x } :=
  h.trans ⟨fun _ _ _ => rfl, congrArg (fun y => ({ t.core with vatc := y } : Core)) e, List.suffix_refl _⟩
theorem Keeps.ledgerSet (h : Keeps l s t) (x : LedgerSt) (e : ({ t with ledger := x } : State).core.ledger = t.core.ledger := by first | (simp only [State.core]; done) | (simp only [State.core]; rfl)) : Keeps l s { t with ledger := x } :=
  h.trans ⟨fun _ _ _ => rfl, congrArg (fun y => ({ t.core with ledger := y } : Core)) e, List.suffix_refl _⟩
theorem Keeps.synSet (h : Keeps l s t) (x : SynSt) (e : ({ t with syn := x } : State).core.syn = t.core.syn := by first | (simp only [State.core]; done) | (simp only [State.core]; rfl)) : Keeps l s { t with syn := x } :=
  h.trans ⟨fun _ _ _ => rfl, congrArg (fun y => ({ t.core with syn := y } : Core)) e, List.suffix_refl _⟩

theorem Keeps.emit (h : Keeps l s t) (o : Out) : Keeps l s (t.emit o) := h.trans ⟨fun _ _ _ => rfl, rfl, List.suffix_cons _ _⟩

theorem Keeps.ite' {c : Prop} [Decidable c] {a b : State} (ha : Keeps l s a) (hb : Keeps l s b) : Keeps l s (if c then a else b) := by
  split
  · exact ha
  · exact hb

/-! ### The same change of a part on both sides -/

theorem Keeps.with_vat (h : Keeps l s t) (x : Memory) : Keeps l { s with vat := x } { t with vat := x } :=
  ⟨h.get, congrArg (fun c => ({ c with vat := x } : Core)) h.core, h.out⟩
theorem Keeps.with_held (h : Keeps l s t) (x : List Held) : Keeps l { s with held := x } { t with held := x } :=
  ⟨h.get, congrArg (fun c => ({ c with held := x } : Core)) h.core, h.out⟩
theorem Keeps.with_running (h : Keeps l s t) (x : Bool) : Keeps l { s with running := x } { t with running := x } :=
  ⟨h.get, congrArg (fun c => ({ c with running := x } : Core)) h.core, h.out⟩
theorem Keeps.with_inReset (h : Keeps l s t) (x : Bool) : Keeps l { s with inReset := x } { t with inReset := x } :=
  ⟨h.get, congrArg (fun c => ({ c with inReset := x } : Core)) h.core, h.out⟩
theorem Keeps.with_pending (h : Keeps l s t) (x : List Instr) : Keeps l { s with pending := x } { t with pending := x } :=
  ⟨h.get, congrArg (fun c => ({ c with pending := x } : Core)) h.core, h.out⟩
theorem Keeps.with_siz (h : Keeps l s t) (x : SizSt) : Keeps l { s with siz := x } { t with siz := x } :=
  ⟨h.get, congrArg (fun c => ({ c with siz := x } : Core)) h.core, h.out⟩
theorem Keeps.with_spare (h : Keeps l s t) (x : SpareSt) : Keeps l { s with spare := x } { t with spare := x } :=
  ⟨h.get, congrArg (fun c => ({ c with spare := x } : Core)) h.core, h.out⟩
theorem Keeps.with_time (h : Keeps l s t) (x : TimeSt) : Keeps l { s with time := x } { t with time := x } :=
  ⟨h.get, congrArg (fun c => ({ c with time := x } : Core)) h.core, h.out⟩
theorem Keeps.with_sheet (h : Keeps l s t) (x : SheetSt) : Keeps l { s with sheet := x } { t with sheet := x } :=
  ⟨h.get, congrArg (fun c => ({ c with sheet := x } : Core)) h.core, h.out⟩
theorem Keeps.with_tdc (h : Keeps l s t) (x : TdcSt) : Keeps l { s with tdc := x } { t with tdc := x } :=
  ⟨h.get, congrArg (fun c => ({ c with tdc := x } : Core)) h.core, h.out⟩
theorem Keeps.with_gnss (h : Keeps l s t) (x : GnssSt) : Keeps l { s with gnss := x } { t with gnss := x } :=
  ⟨h.get, congrArg (fun c => ({ c with gnss := x } : Core)) h.core, h.out⟩
theorem Keeps.with_nav (h : Keeps l s t) (x : NavSt) : Keeps l { s with nav := x } { t with nav := x } :=
  ⟨h.get, congrArg (fun c => ({ c with nav := x } : Core)) h.core, h.out⟩
theorem Keeps.with_ref (h : Keeps l s t) (x : RefSt) : Keeps l { s with ref := x } { t with ref := x } :=
  ⟨h.get, congrArg (fun c => ({ c with ref := x } : Core)) h.core, h.out⟩
theorem Keeps.with_hold (h : Keeps l s t) (x : HoldSt) : Keeps l { s with hold := x } { t with hold := x } :=
  ⟨h.get, congrArg (fun c => ({ c with hold := x } : Core)) h.core, h.out⟩
theorem Keeps.with_syn (h : Keeps l s t) (x : SynSt) : Keeps l { s with syn := x } { t with syn := x } :=
  ⟨h.get, congrArg (fun c => ({ c with syn := { x with clkPins := [], ppsPins := [] } } : Core)) h.core, h.out⟩
theorem Keeps.with_bound (h : Keeps l s t) (x : BoundSt) : Keeps l { s with bound := x } { t with bound := x } :=
  ⟨h.get, congrArg (fun c => ({ c with bound := x } : Core)) h.core, h.out⟩
theorem Keeps.with_mac (h : Keeps l s t) (x : MacSt) : Keeps l { s with mac := x } { t with mac := x } :=
  ⟨h.get, congrArg (fun c => ({ c with mac := x } : Core)) h.core, h.out⟩
theorem Keeps.with_ptp (h : Keeps l s t) (x : PtpSt) : Keeps l { s with ptp := x } { t with ptp := x } :=
  ⟨h.get, congrArg (fun c => ({ c with ptp := x } : Core)) h.core, h.out⟩
theorem Keeps.with_nts (h : Keeps l s t) (x : NtsSt) : Keeps l { s with nts := x } { t with nts := x } :=
  ⟨h.get, congrArg (fun c => ({ c with nts := x } : Core)) h.core, h.out⟩
theorem Keeps.with_key (h : Keeps l s t) (x : KeySt) : Keeps l { s with key := x } { t with key := x } :=
  ⟨h.get, congrArg (fun c => ({ c with key := x } : Core)) h.core, h.out⟩
theorem Keeps.with_keep (h : Keeps l s t) (x : KeepSt) : Keeps l { s with keep := x } { t with keep := x } :=
  ⟨h.get, congrArg (fun c => ({ c with keep := x } : Core)) h.core, h.out⟩
theorem Keeps.with_glb (h : Keeps l s t) (x : GlbSt) : Keeps l { s with glb := x } { t with glb := x } :=
  ⟨h.get, congrArg (fun c => ({ c with glb := x } : Core)) h.core, h.out⟩
theorem Keeps.with_rwtB (h : Keeps l s t) (x : RegFile) : Keeps l { s with rwtB := x } { t with rwtB := x } :=
  ⟨h.get, congrArg (fun c => ({ c with rwtB := x } : Core)) h.core, h.out⟩
theorem Keeps.with_rwtC (h : Keeps l s t) (x : RegFile) : Keeps l { s with rwtC := x } { t with rwtC := x } :=
  ⟨h.get, congrArg (fun c => ({ c with rwtC := x } : Core)) h.core, h.out⟩

theorem Keeps.foldRange (n : Nat) (g : State → Nat → State) (h : Keeps l s t)
    (k : ∀ (u : State) (i : Nat), i < n → Keeps l s u → Keeps l s (g u i)) : Keeps l s ((List.range n).foldl g t) := by
  suffices H : ∀ (p : List Nat) (u : State), (∀ i ∈ p, i < n) → Keeps l s u → Keeps l s (p.foldl g u) by
    exact H _ t (fun i hi => List.mem_range.1 hi) h
  intro p
  induction p with
  | nil => intro u _ hu; exact hu
  | cons i p ih => intro u hl hu; exact ih _ (fun j hj => hl j (by simp [hj])) (k u i (hl i (by simp)) hu)

theorem Keeps.foldList {α : Type} (p : List α) (g : State → α → State) (h : Keeps l s t)
    (k : ∀ (u : State) (a : α), Keeps l s u → Keeps l s (g u a)) : Keeps l s (p.foldl g t) := by
  induction p generalizing t with
  | nil => exact h
  | cons a p ih => exact ih (k t a h)

/-! ### Stock -/

theorem Keeps.charge0 (h : Keeps l s t) (n : Nat) : Keeps l s (t.charge0 n) := by
  unfold State.charge0
  split
  · exact Keeps.ledgerSet (h.put _ _ .ledger_shared_left) _
  · exact h

theorem Keeps.charge (h : Keeps l s t) {c n : Nat} {u : State} (e : t.charge c n = some u) : Keeps l s u := by
  unfold State.charge at e
  split at e
  · cases e; exact h
  · split at e
    · cases e; exact h.charge0 n
    · split at e
      · cases e
      · dsimp only at e
        split at e
        · cases e
          exact Keeps.ledgerSet (h.put _ _ .ledger_shared_left) _
        · cases e

/-! ### Interrupts -/

theorem State.vecOf_lt (t : State) (x : Nat) : t.vecOf x < 128 := by
  unfold State.vecOf
  split
  · have := State.get_lt t (HIF.RING_CFG_VECTOR x)
    simp only [HIF.RING_CFG_VECTOR] at this ⊢; omega
  · split
    · omega
    · exact State.get_lt t (IRQ.SRC_CFG_VECTOR x)

theorem Keeps.showVec (h : Keeps l s t) (v : Nat) (b : Bool) (hv : v < 128) : Keeps l s (t.showVec v b) := by
  have h1 := h.puts [(IRQ.VEC_STAT_STATE v, if (nth t.irq.claims v []).length ≠ 0 then 2 else if b then 1 else 0),
    (IRQ.VEC_STAT_LEVEL v, min 15 (t.claimGroup v)), (IRQ.VEC_STAT_DEPTH v, (nth t.irq.claims v []).length)] (by
      intro p hp
      simp only [List.mem_cons, List.not_mem_nil, or_false] at hp
      rcases hp with rfl | rfl | rfl
      exacts [.irq_vec_stat_state v hv, .irq_vec_stat_level v hv, .irq_vec_stat_depth v hv])
  unfold State.showVec
  dsimp only
  split
  · exact h1.putB _ _ .irq_irq_status_int_n
  · exact h1

theorem Keeps.sendMsg (h : Keeps l s t) (v : Nat) (hv : v < 128) : Keeps l s (t.sendMsg v) := by
  unfold State.sendMsg
  split
  · exact h
  · split
    · exact h.putB _ _ (.irq_vec_stat_pba v hv)
    · exact (h.charge0 20).emit _

theorem Keeps.vecRefresh (h : Keeps l s t) (v : Nat) (b : Bool) (hv : v < 128) : Keeps l s (t.vecRefresh v b) := by
  unfold State.vecRefresh
  dsimp only
  split
  · exact (Keeps.showVec (h.irqSet _) v _ hv).sendMsg v hv
  · exact Keeps.showVec (h.irqSet _) v _ hv

theorem Keeps.setPending (h : Keeps l s t) (x : Nat) (b : Bool) (hx : x < 512) : Keeps l s (t.setPending x b) := by
  unfold State.setPending
  dsimp only
  split
  · exact h
  · exact Keeps.vecRefresh ((h.putB _ _ (.irq_src_cfg_pending x hx)).put _ _ .irq_irq_status_pending) _ _ (State.vecOf_lt _ _)

theorem Keeps.irqEdge (h : Keeps l s t) (x : Nat) (hx : x < 512) : Keeps l s (t.irqEdge x) := by
  unfold State.irqEdge
  split
  · exact h
  · exact h.setPending x true hx

theorem Keeps.irqLevel (h : Keeps l s t) (x : Nat) (b : Bool) (hx : x < 512) : Keeps l s (t.irqLevel x b) := by
  unfold State.irqLevel
  dsimp only
  have h1 := h.putB (IRQ.SRC_CFG_RAW x) b (.irq_src_cfg_raw x hx)
  refine Keeps.setPending ?_ x _ hx
  split
  · exact h1
  · exact h1.irqSet _

/-! ### Counters -/

theorem Keeps.pmuOne (h : Keeps l s t) (ev q n k : Nat) (hk : k < 32) : Keeps l s (t.pmuOne ev q n k) := by
  unfold State.pmuOne
  dsimp only
  split
  · have h1 := h.put (PMU.PMU_CNT k) ((t.get (PMU.PMU_CNT k) + n) % 2 ^ 48) (.pmu_pmu_cnt k hk)
    split
    · exact h1.irqEdge _ (by omega)
    · exact h1
  · exact h

theorem Keeps.pmu (h : Keeps l s t) (ev q n : Nat) : Keeps l s (t.pmu ev q n) :=
  Keeps.foldRange 32 _ h (fun _ i hi hu => hu.pmuOne ev q n i hi)

theorem blockOf_lt (a : Nat) : blockOf a < 26 := by
  have : (blocks.filter (fun b => decide (b.1 ≤ a))).length ≤ blocks.length := List.length_filter_le _ _
  have h2 : blocks.length = 26 := rfl
  unfold blockOf; omega

theorem Keeps.incBy (h : Keeps l s t) (f : Fld) (n : Nat) (a : Noise f.key) : Keeps l s (t.incBy f n) := by
  unfold State.incBy
  dsimp only
  split
  · exact h
  · split
    · exact h.put f _ a
    · have := blockOf_lt (f.key / 32)
      exact Keeps.irqLevel ((h.put f _ a).put _ _ .glb_glb_cnt_ovf) _ _ (by omega)

theorem Keeps.inc (h : Keeps l s t) (f : Fld) (a : Noise f.key) : Keeps l s (t.inc f) := h.incBy f 1 a

theorem Keeps.pay (h : Keeps l s t) (c n : Nat) (hc : c < 8) : Keeps l s (t.pay c n) := by
  unfold State.pay
  split
  · next e => exact h.charge e
  · exact (h.inc _ (.ledger_refuse_cnt c hc)).charge0 n

/-! ### The ream, rings and events -/

theorem Keeps.vatCount (h : Keeps l s t) (a n : Nat) : Keeps l s (t.vatCount a n) := by
  unfold State.vatCount
  split
  · exact h
  · exact Keeps.foldList _ _ h (fun u i hu => hu.pmu _ _ _)

theorem Keeps.unpoison (h : Keeps l s t) (a n : Nat) : Keeps l s (t.unpoison a n) := h.vatcSet _

theorem Keeps.denyMark (h : Keeps l s t) (m a : Nat) (w : Bool) : Keeps l s (t.denyMark m a w) := by
  refine Keeps.puts (h.inc _ .vat_region_deny_cnt) _ ?_
  intro p hp
  simp only [List.mem_cons, List.not_mem_nil, or_false] at hp
  rcases hp with rfl | rfl | rfl | rfl
  exacts [.vat_deny_addr, .vat_deny_master_master, .vat_deny_master_write, .vat_vat_status_deny]

theorem Keeps.denyDue (h : Keeps l s t) (m a : Nat) (w : Bool) : Keeps l s (t.denyDue m a w) := by
  have h1 := h.denyMark m a w
  unfold State.denyDue
  dsimp only
  exact Keeps.ite' h1 (Keeps.hifSet (Keeps.vatcSet h1 { (t.denyMark m a w).vatc with denied := true }) _)

theorem Keeps.reamWrite (h : Keeps l s t) (e : ReamEntry) : Keeps l s (t.reamWrite e) := by
  unfold State.reamWrite
  dsimp only
  split
  · exact ((h.denyDue _ _ _).charge0 _).inc _ .ream_ream_lost_cnt
  · split
    · exact Keeps.unpoison (Keeps.reamSet ((((h.putB _ _ .ream_ream_status_gap_open).put _ _ .ream_ream_seq).put _ _ .ream_ream_undrained).putB
        _ _ .ream_ream_status_full) _) _ _
    · split
      · exact (Keeps.charge0 (h.reamSet _) _).inc _ .ream_ream_lost_cnt
      · refine Keeps.hifSet (Keeps.inc (Keeps.inc (Keeps.charge0 (Keeps.unpoison (Keeps.reamSet (Keeps.puts h _ ?_) _) _ _) 60)
          _ .ream_ream_lost_cnt) _ .ream_gap_cnt) _
        intro p hp
        simp only [List.mem_cons, List.not_mem_nil, or_false] at hp
        rcases hp with rfl | rfl | rfl | rfl | rfl
        exacts [.ream_ream_status_gap_open, .ream_ream_status_ream_loss, .ream_ream_status_full, .ream_ream_seq, .ream_ream_undrained]

theorem Keeps.journal (h : Keeps l s t) (o : Origin) (k a x y c : Nat) : Keeps l s (t.journal o k a x y c) := by
  unfold State.journal
  dsimp only
  split
  · exact h.reamWrite _
  · exact h.reamSet _

theorem Keeps.ringHalt (h : Keeps l s t) (n e : Nat) (hn : n < 64) : Keeps l s (t.ringHalt n e) := by
  unfold State.ringHalt
  split
  · exact h
  · refine Keeps.hifSet (Keeps.journal (Keeps.puts (h.charge0 300) _ ?_) _ _ _ _ _ _) _
    intro p hp
    simp only [List.mem_cons, List.not_mem_nil, or_false] at hp
    rcases hp with rfl | rfl | rfl
    exacts [.hif_ring_stat_halted n hn, .hif_ring_stat_err n hn, .hif_ring_stat_running n hn]

theorem Keeps.ringFire (h : Keeps l s t) (n : Nat) (hn : n < 64) : Keeps l s (t.ringFire n) := by
  unfold State.ringFire
  dsimp only
  split
  · exact Keeps.irqEdge (h.hifSet _) n (by omega)
  · exact h.hifSet _

theorem Keeps.ringRow (h : Keeps l s t) (n : Nat) (r : RingSt) : Keeps l s { t with hif := { t.hif with rings := setNth t.hif.rings n r } } :=
  h.hifSet _

theorem Keeps.ringPut (h : Keeps l s t) (n : Nat) (d : Desc) (hn : n < 64) : Keeps l s (t.ringPut n d) :=
  (h.emit _).put _ _ (.hif_ring_prod n hn)

theorem Keeps.ringWrite (h : Keeps l s t) (n : Nat) (ds : List Desc) (hn : n < 64) : Keeps l s (t.ringWrite n ds) := by
  have h1 : Keeps l s (ds.foldl (fun s d => s.ringPut n d) t) := Keeps.foldList ds _ h (fun u a hu => hu.ringPut n a hn)
  unfold State.ringWrite
  split
  · exact (h.ringHalt n 3 hn).inc _ .hif_dma_err_cnt
  · dsimp only
    exact Keeps.ite' (Keeps.ringFire (Keeps.putB (Keeps.pmu (h1.ringRow n _) _ _ _) _ _ (.hif_ring_stat_full n hn)) n hn)
      (Keeps.putB (Keeps.pmu (h1.ringRow n _) _ _ _) _ _ (.hif_ring_stat_full n hn))

theorem State.ringOf_lt {t : State} {ty n : Nat} (h : t.ringOf ty = some n) : n < 64 :=
  List.mem_range.1 (List.mem_of_find?_eq_some h)

theorem Keeps.uncorrMark (h : Keeps l s t) (m a : Nat) : Keeps l s (t.uncorrMark m a) := by
  refine Keeps.puts ((h.charge0 300).inc _ .vat_uncorr_cnt) _ ?_
  intro p hp
  simp only [List.mem_cons, List.not_mem_nil, or_false] at hp
  rcases hp with rfl | rfl | rfl | rfl
  exacts [.vat_uncorr_addr, .vat_uncorr_master, .vat_uncorr_sheet, .vat_vat_status_uncorr]

theorem Keeps.uncorrDue (h : Keeps l s t) (m a : Nat) : Keeps l s (t.uncorrDue m a) :=
  Keeps.journal (Keeps.hifSet (h.uncorrMark m a) _) _ _ _ _ _ _

theorem Keeps.denyStage (h : Keeps l s t) (m a : Nat) (w : Bool) : Keeps l s (t.denyStage m a w) :=
  Keeps.ite' (h.denyDue m a w) ((h.denyDue m a w).journal _ _ _ _ _ _)

theorem Keeps.stagePut (h : Keeps l s t) (m a : Nat) : Keeps l s (t.stagePut m a).2 := by
  unfold State.stagePut
  split
  · exact (h.vatCount a 32).unpoison a 32
  · exact h.denyStage m a true

theorem Keeps.stageGet (h : Keeps l s t) (m a : Nat) : Keeps l s (t.stageGet m a).2 := by
  unfold State.stageGet
  split
  · exact h.denyStage m a false
  · split
    · exact (h.vatCount a 32).uncorrDue _ _
    · exact h.vatCount a 32

theorem Keeps.gapGone (h : Keeps l s t) (d : Desc) : Keeps l s (t.gapGone d) := by
  unfold State.gapGone
  split
  · exact h.hifSet _
  · exact h

theorem Keeps.stageDesc (h : Keeps l s t) (d : Desc) : Keeps l s (t.stageDesc d) := by
  unfold State.stageDesc
  split
  · exact Keeps.inc (h.hifSet _) _ .hif_event_drop_cnt
  · have h1 := h.stagePut 11 (t.evSlot t.hif.events.length)
    split
    · next e => rw [e] at h1; exact Keeps.put (h1.hifSet _) _ _ .hif_evt_stage
    · next e => rw [e] at h1; exact Keeps.inc (h1.hifSet _) _ .hif_event_drop_cnt

theorem Keeps.drainEvent (h : Keeps l s t) : Keeps l s t.drainEvent := by
  unfold State.drainEvent
  split
  · next n e es e1 _ =>
    have hn := State.ringOf_lt e1
    split
    · dsimp only
      have h1 := h.stageGet 11 (t.evSlot 0)
      split
      · next e => rw [e] at h1; exact Keeps.ringWrite (Keeps.gapGone (Keeps.put (h1.hifSet _) _ _ .hif_evt_stage) _) n _ hn
      · next e => rw [e] at h1; exact h1.ringHalt n 3 hn
      · next e => rw [e] at h1; exact Keeps.ringHalt (Keeps.put (h1.hifSet _) _ _ .hif_evt_stage) n 4 hn
    · exact h.putB _ _ (.hif_ring_stat_full n hn)
  · exact h

theorem Keeps.sendDesc (h : Keeps l s t) (d : Desc) : Keeps l s (t.sendDesc d) := by
  unfold State.sendDesc
  split
  · next n e => exact Keeps.ite' ((h.gapGone d).ringWrite n _ (State.ringOf_lt e)) (h.stageDesc d).drainEvent
  · exact h.stageDesc d

theorem Keeps.flushDue (h : Keeps l s t) : Keeps l s t.flushDue :=
  Keeps.foldList _ _ (h.hifSet _) (fun _ _ hu => hu.sendDesc _)

theorem Keeps.postEvent (h : Keeps l s t) (e : Event) : Keeps l s (t.postEvent e) := h.flushDue.sendDesc _

theorem Keeps.eventIn (h : Keeps l s t) (c o : Nat) (v : Int) : Keeps l s (t.eventIn c o v) := h.postEvent _

theorem Keeps.event (h : Keeps l s t) (c o : Nat) (v : Int) : Keeps l s (t.event c o v) := (h.charge0 10).eventIn c o v

theorem Keeps.eventJ (h : Keeps l s t) (o : Origin) (c b : Nat) (v : Int) (x y : Nat) : Keeps l s (t.eventJ o c b v x y) :=
  (h.event c b v).journal o 3 b x y c

theorem Keeps.paidEvent (h : Keeps l s t) (c o : Nat) (v : Int) (x y : Nat) : Keeps l s (t.paidEvent c o v x y) :=
  ((h.pay 3 150 (by omega)).eventIn c o v).journal _ _ _ _ _ _

theorem Keeps.journalWrite (h : Keeps l s t) (o : Origin) (a x y : Nat) : Keeps l s (t.journalWrite o a x y) := by
  unfold State.journalWrite
  split
  · exact h
  · exact (h.charge0 60).journal _ _ _ _ _ _

theorem Keeps.journalCmd (hh : Keeps l s t) (h : Hdr) (op a b : Nat) : Keeps l s (t.journalCmd h op a b) := hh.journal _ _ _ _ _ _

theorem Keeps.complete (hh : Keeps l s t) (h : Hdr) (op st r : Nat) (late : Bool) : Keeps l s (t.complete h op st r late) := by
  unfold State.complete State.postCompl
  split
  · dsimp only
    refine Keeps.ite' (Keeps.irqEdge ?_ 304 (by omega)) ?_ <;>
    · refine Keeps.emit (Keeps.puts (Keeps.inc (hh.hifSet _) HIF.CMD_CNT .hif_cmd_cnt) _ ?_) _
      intro p hp
      simp only [List.mem_cons, List.not_mem_nil, or_false] at hp
      rcases hp with rfl | rfl
      exacts [.hif_hif_inflight_cmds, .hif_hif_status_mb_busy]
  · dsimp only
    split
    · exact Keeps.ringWrite ((hh.inc _ .hif_cmd_cnt).put _ _ .hif_hif_inflight_cmds) _ _ (State.get_lt t (HIF.RING_CFG_PAIR h.ring))
    · exact hh.hifSet _

/-! ### The vat -/

theorem Keeps.vatDeny (h : Keeps l s t) (m a : Nat) (w : Bool) : Keeps l s (t.vatDeny m a w) := by
  have h1 := h.denyMark m a w
  unfold State.vatDeny
  dsimp only
  exact Keeps.ite' h1 (Keeps.journal (Keeps.eventIn (Keeps.vatcSet h1 { (t.denyMark m a w).vatc with denied := true }) _ _ _) _ _ _ _ _ _)

theorem Keeps.vatUncorr (h : Keeps l s t) (m a : Nat) : Keeps l s (t.vatUncorr m a) :=
  Keeps.journal (Keeps.eventIn (h.uncorrMark m a) _ _ _) _ _ _ _ _ _

/-- Reading the vat changes nothing but bookkeeping. -/
theorem Keeps.vatRead (h : Keeps l s t) (m a n : Nat) : Keeps l s (t.vatRead m a n).2 := by
  unfold State.vatRead
  split
  · exact h.vatDeny _ _ _
  · split
    · exact (h.vatCount _ _).vatUncorr _ _
    · exact h.vatCount _ _

/-! ### What follows every command -/

theorem Keeps.reserveOver (h : Keeps l s t) : Keeps l s t.reserveOver := by
  unfold State.reserveOver
  split
  · exact (Keeps.inc (Keeps.putB (h.ledgerSet _) _ _ .ledger_ledger_status_reserve_over) _ .ledger_reserve_over_cnt).eventIn _ _ _
  · exact h

theorem Keeps.pairEvent (h : Keeps l s t) (o : Origin) (c b : Nat) (v : Int) (x y : Nat) : Keeps l s (t.pairEvent o c b v x y) :=
  ((h.pay 3 150 (by omega)).eventIn _ _ _).journal _ _ _ _ _ _

theorem Keeps.couchGo (h : Keeps l s t) (n : Nat) : Keeps l s (t.couchGo n) := by
  have h1 := h.put COUCH.PAIR_STATUS_STATE n .couch_pair_status_state
  unfold State.couchGo
  dsimp only
  split
  · exact h1.put _ _ .couch_pair_status_promotable
  · split
    · exact h1.put _ _ .couch_pair_status_promotable
    · exact h1

theorem Keeps.linkLost (h : Keeps l s t) : Keeps l s t.linkLost := by
  unfold State.linkLost
  dsimp only
  refine Keeps.ite' (Keeps.put (h.couchSet _) _ _ .couch_pair_status_link) (Keeps.ite' ?_ ?_)
  · exact ((Keeps.couchGo (Keeps.put (h.couchSet _) _ _ .couch_pair_status_link) 5).inc _ .couch_link_loss_cnt).pairEvent _ _ _ _ _ _
  · exact (Keeps.couchGo (Keeps.put (h.couchSet _) _ _ .couch_pair_status_link) 6).pairEvent _ _ _ _ _ _

theorem Keeps.showPair (h : Keeps l s t) : Keeps l s t.showPair := by
  unfold State.showPair
  dsimp only
  have h1 := h.put COUCH.PAIR_STATUS_ROLE (if (!t.flag COUCH.PAIR_CFG_EN) = true then 0 else if t.mode = 5 then 2 else 1) .couch_pair_status_role
  refine Keeps.ite' (Keeps.ite' h1 (Keeps.put ?_ _ _ .couch_pair_status_link)) (Keeps.ite' (h1.put _ _ .couch_pair_status_link) h1)
  exact Keeps.couchSet (Keeps.ite' h1.linkLost h1) _

theorem Keeps.escHandover (h : Keeps l s t) : Keeps l s t.escHandover := by
  unfold State.escHandover
  dsimp only
  refine Keeps.ite' h (Keeps.ite' ?_ (h.fltSet _))
  refine Keeps.puts (Keeps.couchSet (h.fltSet _) _) _ ?_
  intro p hp
  simp only [List.mem_cons, List.not_mem_nil, or_false] at hp
  rcases hp with rfl | rfl
  exacts [.couch_pair_status_handover_pending, .couch_handover_sheet]

theorem Keeps.setFbit (h : Keeps l s t) (r : Nat → Fld) (f : Nat) (b : Bool) (n : Noise (r (f / 32)).key) : Keeps l s (t.setFbit r f b) :=
  h.put _ _ n

theorem Keeps.judgeWire (h : Keeps l s t) (f : Nat) (hf : f < 24) : Keeps l s (t.judgeWire f) := by
  have h1 := h.setFbit FLT.FLT_WIRE f (t.pairBroken f) (.flt_flt_wire _ (by omega))
  unfold State.judgeWire
  dsimp only
  exact Keeps.ite' h (Keeps.ite' ((h1.inc _ .flt_wire_cnt).event _ _ _) h1)

theorem Keeps.judgeFault (h : Keeps l s t) (f : Nat) (hf : f < 24) : Keeps l s (t.judgeFault f) := by
  unfold State.judgeFault
  dsimp only
  refine Keeps.ite' h (Keeps.ite' ?_ ?_)
  · exact (((((h.charge0 300).setFbit FLT.FLT_ACTIVE f true (.flt_flt_active _ (by omega))).inc _ (.flt_flt_raise_cnt f (by omega))).eventIn
      _ _ _).journal _ _ _ _ _ _).irqLevel _ _ (by omega)
  · exact ((h.setFbit FLT.FLT_ACTIVE f false (.flt_flt_active _ (by omega))).setFbit FLT.FLT_ACKED f false (.flt_flt_acked _ (by omega))).irqLevel
      _ _ (by omega)

theorem Keeps.showFaults (h : Keeps l s t) : Keeps l s t.showFaults := by
  have h1 := h.puts [(FLT.FLT_STATUS_ACTIVE_N, ((List.range 24).filter (t.fbit FLT.FLT_ACTIVE)).length),
    (FLT.FLT_STATUS_FAULT_N, if t.flag FLT.FLT_STATUS_PULSE || t.flag FLT.FAULTN_CFG_HOLD then 1 else 0)] (by
      intro p hp
      simp only [List.mem_cons, List.not_mem_nil, or_false] at hp
      rcases hp with rfl | rfl
      exacts [.flt_flt_status_active_n, .flt_flt_status_fault_n])
  unfold State.showFaults
  dsimp only
  exact Keeps.ite' h1 (Keeps.ite' (Keeps.fltSet (h1.put _ _ .flt_flt_status_timer_run) _) (h1.put _ _ .flt_flt_status_timer_run))

theorem Keeps.judgeFaults (h : Keeps l s t) : Keeps l s t.judgeFaults :=
  (Keeps.foldRange 24 _ (Keeps.foldRange 24 _ h (fun _ f hf hu => hu.judgeWire f hf)) (fun _ f hf hu => hu.judgeFault f hf)).showFaults

theorem Keeps.judgeOvf (h : Keeps l s t) (b : Nat) (hb : b < 26) : Keeps l s (t.judgeOvf b) := by
  unfold State.judgeOvf
  exact Keeps.ite' h (Keeps.ite' h (h.irqLevel _ _ (by omega)))

theorem Keeps.reamRead (h : Keeps l s t) (i : Nat) : Keeps l s (t.reamRead i).2 := by
  unfold State.reamRead
  split
  · exact h
  · dsimp only
    split
    · exact Keeps.reamVatcSet ((((h.vatRead _ _ _).charge0 60).inc _ .ream_ream_lost_cnt).inc _ .ream_gap_cnt) _ _
    · exact h.vatRead _ _ _
    · exact h.vatRead _ _ _

theorem Keeps.reamPosts (h : Keeps l s t) (k : Nat) : Keeps l s (t.reamPosts k) := by
  induction k generalizing t with
  | zero => exact h
  | succ k ih =>
    unfold State.reamPosts
    split
    · exact h
    · next n e =>
      have hn := State.ringOf_lt e
      split
      · exact h
      · split
        · exact h.putB _ _ (.hif_ring_stat_full n hn)
        · have hr := h.reamRead t.ream.posted
          split
          · next e => rw [e] at hr; exact hr.ringHalt n 3 hn
          · next e =>
            rw [e] at hr
            exact ih (Keeps.ringWrite (Keeps.charge0 (hr.reamSet _) 20) n _ hn)

theorem Keeps.reamPost (h : Keeps l s t) : Keeps l s t.reamPost := Keeps.ite' h (h.reamPosts _)

theorem Keeps.showReamWin (h : Keeps l s t) : Keeps l s t.showReamWin := by
  unfold State.showReamWin
  dsimp only
  refine Keeps.ite' (Keeps.foldRange 16 _ ?_ (fun _ i hi hu => hu.put _ _ (.ream_ream_win i hi))) h
  split
  · exact h.reamRead 0
  · exact h

theorem Keeps.showCands (h : Keeps l s t) : Keeps l s t.showCands := by
  refine Keeps.puts h _ ?_
  intro p hp
  simp only [List.mem_cons, List.not_mem_nil, or_false] at hp
  rcases hp with rfl | rfl | rfl | rfl
  exacts [.spare_cand_vat, .spare_cand_aes, .spare_cand_lanes, .spare_cand_lines]

theorem Keeps.showServing (h : Keeps l s t) : Keeps l s t.showServing := by
  refine Keeps.puts h _ ?_
  intro p hp
  simp only [List.mem_cons, List.not_mem_nil, or_false] at hp
  rcases hp with rfl | rfl | rfl
  exacts [.ptp_ptp_status_serving, .nts_nts_status_serving, .sizing_siz_status_running]

theorem Keeps.showOuts (h : Keeps l s t) : Keeps l s t.showOuts := by
  unfold State.showOuts
  dsimp only
  refine Keeps.foldRange 4 _ (Keeps.foldRange 16 _ h ?_) ?_
  · intro u n hn hu
    refine Keeps.synSet (Keeps.puts hu _ ?_) _
    intro p hp
    simp only [List.mem_cons, List.not_mem_nil, or_false] at hp
    rcases hp with rfl | rfl
    exacts [.syn_out_stat_squelched n hn, .syn_out_stat_driven n hn]
  · intro u k hk hu
    refine Keeps.synSet (Keeps.puts hu _ ?_) _
    intro p hp
    simp only [List.mem_cons, List.not_mem_nil, or_false] at hp
    rcases hp with rfl | rfl
    exacts [.syn_pps_stat_squelched k hk, .syn_pps_stat_no_src k hk]

theorem Keeps.showPorts (h : Keeps l s t) : Keeps l s t.showPorts :=
  (h.putB _ _ .gnssf_gnssf_status_a_ok).putB _ _ .gnssf_gnssf_status_b_ok

theorem Keeps.showStrobes (h : Keeps l s t) : Keeps l s t.showStrobes := by
  unfold State.showStrobes
  dsimp only
  exact Keeps.foldRange 16 _ h (fun _ n hn hu => (hu.putB _ _ (.time_evt_stat_suppressed n hn)).putB _ _ (.time_evt_stat_level n hn))

theorem Keeps.showRamp (h : Keeps l s t) : Keeps l s t.showRamp := h.putB _ _ .syn_syn_status_ramping

theorem Keeps.showFrozen (h : Keeps l s t) : Keeps l s t.showFrozen := h.putB _ _ .refsel_refsel_status_frozen

/-- What follows every command is bookkeeping. -/
theorem Keeps.settle (h : Keeps l s t) : Keeps l s t.settle :=
  Keeps.ite' h (((((Keeps.foldRange 26 _ (h.flushDue.reserveOver.showPair.escHandover.judgeFaults.judgeFaults) (fun _ b hb hu => hu.judgeOvf b hb)).reamPost.showReamWin).flushDue).showCands.showServing).showOuts).showPorts.showStrobes.showRamp.showFrozen

theorem State.settle_keeps (s : State) : Keeps [] s s.settle := (Keeps.refl s).settle

/-! ### Counters that a statement names -/

theorem Keeps.incByIn (h : Keeps l s t) (f : Fld) (n : Nat) (m : f ∈ l) : Keeps l s (t.incBy f n) := by
  unfold State.incBy
  dsimp only
  split
  · exact h
  · split
    · exact h.putIn f _ m
    · have := blockOf_lt (f.key / 32)
      exact Keeps.irqLevel ((h.putIn f _ m).put _ _ .glb_glb_cnt_ovf) _ _ (by omega)

theorem Keeps.incIn (h : Keeps l s t) (f : Fld) (m : f ∈ l) : Keeps l s (t.inc f) := h.incByIn f 1 m

/-- A counter counts up to its greatest value (R453). -/
theorem State.incBy_get (s : State) (f : Fld) (n : Nat) (w : f.width = 48) (c : noisy f.key = false) :
    (s.incBy f n).get f = min (s.get f + n) (2 ^ 48 - 1) := by
  have hl := State.get_lt s f
  rw [w] at hl
  unfold State.incBy
  dsimp only
  split
  · omega
  · split
    · rw [State.get_put_fits _ _ _ (by rw [w]; omega)]; omega
    · have hb := blockOf_lt (f.key / 32)
      rw [(((Keeps.refl _).put GLB.GLB_CNT_OVF _ .glb_glb_cnt_ovf).irqLevel (192 + blockOf (f.key / 32)) true (by omega)).read f c]
      rw [State.get_put_fits _ _ _ (by rw [w]; omega)]; omega

end Sys2Proof.Machine
end

