-- ==== Sys2Proof/Laws/Command.lean ====
section
/-! SUPPORT. What an accepted command of the host runs on, and when commands have an effect at all. -/

namespace Sys2Proof.Machine

variable {l : List Fld} {s t u : State}

/-- Out of reset, a meaning is what it runs and what follows. -/
theorem State.awake_eq (h : s.inReset = false) (f : State → State) : s.awake f = f s := by simp [State.awake, h]

theorem State.clocked_eq (h : s.inReset = false) (r : s.running = true) (f : State → State) : s.clocked f = f s := by simp [State.clocked, h, r]

/-! ### Paying in two parts -/

theorem nth_setNth_sub (l : List Nat) (i m : Nat) : nth (setNth l i (nth l i 0 - m)) i 0 = nth l i 0 - m := by
  unfold nth setNth
  by_cases h : i < l.length
  · simp [List.getD_eq_getElem?_getD, h]
  · simp [List.getD_eq_getElem?_getD, h]

theorem nth_setNth_le (l : List Nat) (i a : Nat) : nth (setNth l i a) i 0 ≤ a := by
  unfold nth setNth
  by_cases g : i < l.length
  · simp [List.getD_eq_getElem?_getD, g]
  · simp [List.getD_eq_getElem?_getD, g]

/-- What a class can pay at once it can pay in two parts. -/
theorem State.charge_add {s' : State} {c m n : Nat} (h : s.charge c m = some s') (hc : 0 < c ∧ c < 5) (hs : (s.charge c (m + n)).isSome = true) :
    (s'.charge c n).isSome = true := by
  have hb : (c == 0) = false := by simp; omega
  unfold State.charge at h hs ⊢
  by_cases r : s.running = true
  · simp only [r, Bool.not_true, Bool.false_eq_true, if_false, hb] at h hs
    split at h
    · cases h
    · next w =>
      rw [if_neg w] at hs
      split at h
      · next g =>
        split at hs
        · next g2 =>
          cases h
          have hsh := State.get_lt s LEDGER.SHARED_LEFT
          have hcap : ∀ v, (s.put LEDGER.SHARED_LEFT v).get (LEDGER.CAP c) = s.get (LEDGER.CAP c) := fun v =>
            State.get_put_other _ _ _ _ (by simp only [LEDGER.CAP, LEDGER.SHARED_LEFT]; omega)
          have e1 : ((s.put LEDGER.SHARED_LEFT (s.get LEDGER.SHARED_LEFT - (m - nth s.ledger.floors (c - 1) 0))).get LEDGER.SHARED_LEFT) =
              s.get LEDGER.SHARED_LEFT - (m - nth s.ledger.floors (c - 1) 0) :=
            State.get_put_fits _ _ _ (lt_of_le_of_lt (Nat.sub_le _ _) hsh)
          have hd := nth_setNth_le s.ledger.drawn c (nth s.ledger.drawn c 0 + m)
          have hf := nth_setNth_sub s.ledger.floors (c - 1) m
          simp only [State.put_running, r, Bool.not_true, Bool.false_eq_true, if_false, hb]
          rw [if_neg w, if_pos]
          · rfl
          · show n - nth (setNth s.ledger.floors (c - 1) (nth s.ledger.floors (c - 1) 0 - m)) (c - 1) 0 = 0 ∨
              n - nth (setNth s.ledger.floors (c - 1) (nth s.ledger.floors (c - 1) 0 - m)) (c - 1) 0 ≤
                (s.put LEDGER.SHARED_LEFT (s.get LEDGER.SHARED_LEFT - (m - nth s.ledger.floors (c - 1) 0))).get LEDGER.SHARED_LEFT ∧
              nth (setNth s.ledger.drawn c (nth s.ledger.drawn c 0 + m)) c 0 + n ≤
                (s.put LEDGER.SHARED_LEFT (s.get LEDGER.SHARED_LEFT - (m - nth s.ledger.floors (c - 1) 0))).get (LEDGER.CAP c)
            rw [e1, hcap, hf]
            omega
        · cases hs
      · cases h
  · have r' : s.running = false := by simpa using r
    simp only [r', Bool.not_false, if_true] at h
    cases h
    simp [r']

/-- What a class can pay depends on little of a state. -/
theorem State.charge_congr {a b : State} (r : b.running = a.running) (l : b.ledger = a.ledger) {c : Nat}
    (g : b.get (LEDGER.CAP c) = a.get (LEDGER.CAP c)) (sh : b.get LEDGER.SHARED_LEFT = a.get LEDGER.SHARED_LEFT) (n : Nat) : (b.charge c n).isSome = (a.charge c n).isSome := by
  unfold State.charge
  simp only [r, l, g, sh]
  split
  · rfl
  · split
    · rfl
    · split
      · rfl
      · split <;> rfl

/-- What a class can pay, it can pay a part of. -/
theorem State.charge_mono {c m n : Nat} (h : (s.charge c (m + n)).isSome = true) : (s.charge c m).isSome = true := by
  unfold State.charge at h ⊢
  split
  · rfl
  · next r =>
    rw [if_neg r] at h
    split
    · rfl
    · next z =>
      rw [if_neg z] at h
      split
      · next w => rw [if_pos w] at h; cases h
      · next w =>
        rw [if_neg w] at h
        dsimp only at h ⊢
        split at h
        · next g => rw [if_pos (by omega)]; rfl
        · cases h

/-- A charge leaves the vat's own state, and what left the engine for classes 1 to 4. -/
theorem State.charge_vatc {c n : Nat} (h : s.charge c n = some u) : u.vatc = s.vatc := by
  unfold State.charge at h
  split at h
  · cases h; rfl
  · split at h
    · cases h; unfold State.charge0; split <;> rfl
    · split at h
      · cases h
      · dsimp only at h
        split at h
        · cases h; rfl
        · cases h

/-- Work that its class can pay for goes ahead. -/
theorem State.tryPay_some {c n : Nat} (h : (s.charge c n).isSome = true) :
    ∃ u, Keeps [] s u ∧ (∀ (i : Instr) (k : Nat) (f : State → State) (r : Option Nat), s.tryPay c n i k f r = f u) ∧ u.vatc = s.vatc := by
  obtain ⟨u, e⟩ := Option.isSome_iff_exists.1 h
  exact ⟨u, (Keeps.refl s).charge e, fun i k f r => by simp only [State.tryPay, e], State.charge_vatc e⟩

theorem State.orPause_some {c n : Nat} (h : (s.charge c n).isSome = true) :
    ∃ u, Keeps [] s u ∧ ∀ f : State → State, s.orPause c n f = f u := by
  obtain ⟨u, e⟩ := Option.isSome_iff_exists.1 h
  exact ⟨u, (Keeps.refl s).charge e, fun f => by simp only [State.orPause, e]⟩

/-! ### Accepted commands -/

/-- An accepted command has its effect on a state that is the present one but for bookkeeping, in which class 3 can still pay what it could pay beside
the command. -/
theorem State.Accepts.run {h : Hdr} {pf1 : Bool} {extra : Nat} (a : s.Accepts h pf1 extra) (op : Nat) (self : Instr) (f : State → State) :
    ∃ u, Keeps [] s u ∧ s.command h op pf1 self extra f = f u ∧
      (∀ n, (s.charge 3 ((if h.origin = .mspi then 200 else 110) + extra + n)).isSome = true → (u.charge 3 n).isSome = true) ∧ u.vatc = s.vatc := by
  obtain ⟨s', e⟩ := Option.isSome_iff_exists.1 a.stock
  have k : Keeps [] s s' := (Keeps.refl s).charge e
  have vc : s'.vatc = s.vatc := State.charge_vatc e
  have more := fun n => State.charge_add (n := n) e (by decide)
  have hany : s.held.any (fun w => w.ring == some (cmdSource h)) = false := by
    rw [List.any_eq_false]; intro w hw; simpa using a.order w hw
  have hr : decide (256 ≤ s.get HIF.HIF_INFLIGHT_CMDS) = false := by have := a.room; simp; omega
  by_cases hm : h.origin = .mspi
  · have k1 := Keeps.hifSet ((k.put HIF.HIF_INFLIGHT_CMDS (s'.get HIF.HIF_INFLIGHT_CMDS + 1) .hif_hif_inflight_cmds).putB HIF.HIF_STATUS_MB_BUSY true
      .hif_hif_status_mb_busy) { s'.hif with mbDone := false }
    refine ⟨_, k1, ?_, fun n g => (State.charge_congr ?_ ?_ ?_ ?_ n).trans (more n g), vc⟩
    · have hs : ¬(s.flag HIF.HIF_STATUS_PF0_BME = true ∧ s.flag HIF.HIF_CFG_MSPI_SHARE = false) := fun x => a.share ⟨hm, x.1, x.2⟩
      rw [← k1.flag HIF.HIF_STATUS_PF0_BME (by decide), ← k1.flag HIF.HIF_CFG_MSPI_SHARE (by decide)] at hs
      rw [hm, if_pos rfl] at e
      simp only [State.command, State.tryPay, hm, ne_eq, not_true_eq_false, false_and, if_false, a.running, hany, hr, Bool.not_true, Bool.or_false,
        Bool.false_eq_true, if_true, e, true_and, a.form, reduceCtorEq]
      exact if_neg hs
    · rfl
    · rfl
    · exact (State.get_put_other _ _ _ _ (by decide)).trans
        (State.get_put_other _ _ _ _ (by decide))
    · exact (State.get_put_other _ _ _ _ (by decide)).trans (State.get_put_other _ _ _ _ (by decide))
  · obtain ⟨hn, hh⟩ := a.ring.resolve_left hm
    have k1 := (k.put HIF.HIF_INFLIGHT_CMDS (s'.get HIF.HIF_INFLIGHT_CMDS + 1) .hif_hif_inflight_cmds).put (HIF.RING_CONS h.ring)
      ((s'.put HIF.HIF_INFLIGHT_CMDS (s'.get HIF.HIF_INFLIGHT_CMDS + 1)).get (HIF.RING_CONS h.ring) + 1) (.hif_ring_cons h.ring hn)
    refine ⟨_, k1, ?_, fun n g => (State.charge_congr ?_ ?_ ?_ ?_ n).trans (more n g), vc⟩
    · have hf : ¬(h.origin = .pf1 ∧ pf1 = false) := fun x => by simp [a.fn x.1] at x
      rw [if_neg hm] at e
      simp only [State.command, State.tryPay, hm, ne_eq, not_false_eq_true, true_and, hh, if_false, a.running, hany, hr, Bool.not_true, Bool.or_false,
        Bool.false_eq_true, e, false_and, a.form]
      exact if_neg hf
    · rfl
    · rfl
    · exact (State.get_put_other _ _ _ _ (by simp only [LEDGER.CAP, HIF.RING_CONS]; omega)).trans
        (State.get_put_other _ _ _ _ (by decide))
    · exact (State.get_put_other _ _ _ _ (by simp only [LEDGER.SHARED_LEFT, HIF.RING_CONS]; omega)).trans (State.get_put_other _ _ _ _ (by decide))

/-- The same, for the function that a meaning runs. -/
theorem State.Accepts.elim {h : Hdr} {pf1 : Bool} {extra op : Nat} {self : Instr} {f g : State → State} (a : s.Accepts h pf1 extra)
    (e : g s = s.command h op pf1 self extra f) : ∃ u, Keeps [] s u ∧ s.awake g = f u ∧
      (∀ n, (s.charge 3 ((if h.origin = .mspi then 200 else 110) + extra + n)).isSome = true → (u.charge 3 n).isSome = true) ∧ u.vatc = s.vatc := by
  obtain ⟨u, hu, hf, hp⟩ := a.run op self f
  exact ⟨u, hu, (State.awake_eq a.awake g).trans (e.trans hf), hp⟩

/-- A command that pays in two parts, where class 3 can pay for both. -/
theorem State.Accepts.elim2 {h : Hdr} {pf1 : Bool} {extra more op : Nat} {self : Instr} {f g : State → State} (a : s.Accepts h pf1 (extra + more))
    (e : g s = s.command h op pf1 self extra f) : ∃ u, Keeps [] s u ∧ s.awake g = f u ∧ u.vatc = s.vatc ∧ ∃ v, Keeps [] s v ∧ v.vatc = s.vatc ∧
      ∀ (i : Instr) (k : Nat) (f : State → State) (r : Option Nat), u.tryPay 3 more i k f r = f v := by
  have b : s.Accepts h pf1 extra := { a with stock := State.charge_mono (n := more) (by rw [Nat.add_assoc]; exact a.stock) }
  obtain ⟨u, hu, hf, hp, hc⟩ := b.elim e
  obtain ⟨v, hv, hg, hd⟩ := State.tryPay_some (hp more (by rw [Nat.add_assoc]; exact a.stock))
  exact ⟨u, hu, hf, hc, v, hu.trans hv, hd.trans hc, hg⟩

end Sys2Proof.Machine
end

