-- ==== Sys2Proof/Laws/Memory.lean ====
section
/-! SUPPORT. The vat: every operation keeps its canonical form, and what a read gives after a write. -/

namespace Sys2Proof.Machine

/-- The addresses of a list are above a bound. -/
def Memory.above (a : Nat) (m : Memory) : Prop := ∀ c ∈ m, a < c.1

theorem Memory.wf_iff (k : Nat) (v : Byte) (t : Memory) :
    Memory.wf ((k, v) :: t) = true ↔ v ≠ 0 ∧ Memory.above k t ∧ Memory.wf t = true := by
  induction t generalizing k v with
  | nil => simp [Memory.wf, Memory.above]
  | cons c t ih =>
    obtain ⟨k', v'⟩ := c
    simp only [Memory.wf, Bool.and_eq_true, bne_iff_ne, decide_eq_true_eq, ne_eq]
    constructor
    · rintro ⟨⟨h1, h2⟩, h3⟩
      refine ⟨h1, ?_, h3⟩
      obtain ⟨_, h5, _⟩ := (ih k' v').1 h3
      intro c hc
      rcases List.mem_cons.1 hc with rfl | hc
      · exact h2
      · exact lt_trans h2 (h5 c hc)
    · rintro ⟨h1, h2, h3⟩
      exact ⟨⟨h1, h2 (k', v') (by simp)⟩, h3⟩

theorem Memory.above_drop {a : Nat} {m : Memory} (h : Memory.above a m) (x : Nat) : Memory.above a (m.drop x) := by
  induction m with
  | nil => exact h
  | cons c t ih =>
    obtain ⟨k, v⟩ := c
    have ht : Memory.above a t := fun c hc => h c (by simp [hc])
    by_cases h1 : k = x
    · simpa [Memory.drop, h1] using ht
    · by_cases h2 : x < k
      · simpa [Memory.drop, h1, h2] using h
      · intro c hc
        simp [Memory.drop, h1, h2] at hc
        rcases hc with rfl | hc
        · exact h _ (by simp)
        · exact ih ht c hc

theorem Memory.wf_drop (m : Memory) (x : Nat) (h : m.wf = true) : (m.drop x).wf = true := by
  induction m with
  | nil => rfl
  | cons c t ih =>
    obtain ⟨k, v⟩ := c
    obtain ⟨h1, h2, h3⟩ := (Memory.wf_iff k v t).1 h
    by_cases e : k = x
    · simpa [Memory.drop, e] using h3
    · by_cases l : x < k
      · simpa [Memory.drop, e, l] using h
      · simp only [Memory.drop, e, l, if_false]
        exact (Memory.wf_iff _ _ _).2 ⟨h1, Memory.above_drop h2 x, ih h3⟩

theorem Memory.above_list {a : Nat} {m : Memory} (h : Memory.above a m) (x : Nat) (b : Byte) (hx : a < x) :
    Memory.above a (m.list x b) := by
  induction m with
  | nil => intro c hc; simp [Memory.list] at hc; simp [hc, hx]
  | cons c t ih =>
    obtain ⟨k, v⟩ := c
    have ht : Memory.above a t := fun c hc => h c (by simp [hc])
    intro c hc
    by_cases h1 : k = x
    · simp [Memory.list, h1] at hc
      rcases hc with rfl | hc
      · exact hx
      · exact ht c hc
    · by_cases h2 : x < k
      · simp [Memory.list, h1, h2] at hc
        rcases hc with rfl | rfl | hc
        · exact hx
        · exact h _ (by simp)
        · exact ht c hc
      · simp [Memory.list, h1, h2] at hc
        rcases hc with rfl | hc
        · exact h _ (by simp)
        · exact ih ht c hc

theorem Memory.wf_list (m : Memory) (x : Nat) (b : Byte) (hb : b ≠ 0) (h : m.wf = true) : (m.list x b).wf = true := by
  induction m with
  | nil => simpa [Memory.list, Memory.wf] using hb
  | cons c t ih =>
    obtain ⟨k, v⟩ := c
    obtain ⟨h1, h2, h3⟩ := (Memory.wf_iff k v t).1 h
    by_cases e : k = x
    · subst e
      simpa [Memory.list] using (Memory.wf_iff _ _ _).2 ⟨hb, h2, h3⟩
    · by_cases l : x < k
      · simp only [Memory.list, e, l, if_false, if_true]
        refine (Memory.wf_iff _ _ _).2 ⟨hb, ?_, h⟩
        intro c hc
        rcases List.mem_cons.1 hc with rfl | hc
        · exact l
        · exact lt_trans l (h2 c hc)
      · simp only [Memory.list, e, l, if_false]
        exact (Memory.wf_iff _ _ _).2 ⟨h1, Memory.above_list h2 x b (by omega), ih h3⟩

/-- A write of one byte keeps the canonical form. -/
theorem Memory.wf_write (m : Memory) (x : Nat) (b : Byte) (h : m.wf = true) : (m.write x b).wf = true := by
  unfold Memory.write
  split
  · exact Memory.wf_drop m x h
  · next hb => exact Memory.wf_list m x b hb h

/-- A write of a run of bytes keeps the canonical form. -/
theorem Memory.wf_writes (m : Memory) (x : Nat) (bs : List Byte) (h : m.wf = true) : (m.writes x bs).wf = true := by
  induction bs generalizing m x with
  | nil => simpa [Memory.writes] using h
  | cons b bs ih => exact ih _ _ (Memory.wf_write m x b h)

theorem Memory.read_above {a : Nat} {m : Memory} (h : Memory.above a m) : m.read a = 0 := by
  cases m with
  | nil => rfl
  | cons c t =>
    obtain ⟨k, v⟩ := c
    have hk : a < k := h (k, v) (by simp)
    simp [Memory.read, hk, Nat.ne_of_gt hk]

/-- A byte reads as it was written. -/
theorem Memory.read_write_same (m : Memory) (x : Nat) (b : Byte) (h : m.wf = true) : (m.write x b).read x = b := by
  unfold Memory.write
  by_cases hb : b = 0
  · simp only [hb, if_true]
    induction m with
    | nil => rfl
    | cons c t ih =>
      obtain ⟨k, v⟩ := c
      obtain ⟨_, h2, h3⟩ := (Memory.wf_iff k v t).1 h
      by_cases e : k = x
      · subst e; simpa [Memory.drop] using Memory.read_above h2
      · by_cases l : x < k
        · simp [Memory.drop, Memory.read, e, l]
        · simpa [Memory.drop, Memory.read, e, l] using ih h3
  · simp only [hb, if_false]
    clear h
    induction m with
    | nil => simp [Memory.list, Memory.read]
    | cons c t ih =>
      obtain ⟨k, v⟩ := c
      by_cases e : k = x
      · simp [Memory.list, Memory.read, e]
      · by_cases l : x < k
        · simp [Memory.list, Memory.read, e, l]
        · simpa [Memory.list, Memory.read, e, l] using ih

/-- A write of one byte leaves every other byte as it was. -/
theorem Memory.read_write_other (m : Memory) (x y : Nat) (b : Byte) (h : m.wf = true) (n : y ≠ x) :
    (m.write x b).read y = m.read y := by
  unfold Memory.write
  by_cases hb : b = 0
  · simp only [hb, if_true]
    induction m with
    | nil => rfl
    | cons c t ih =>
      obtain ⟨k, v⟩ := c
      obtain ⟨_, h2, h3⟩ := (Memory.wf_iff k v t).1 h
      by_cases e : k = x
      · subst e
        by_cases l : y < k
        · have : Memory.above y t := fun c hc => lt_trans l (h2 c hc)
          simp [Memory.drop, Memory.read, l, Memory.read_above this, Ne.symm n]
        · simp [Memory.drop, Memory.read, l, Ne.symm n]
      · by_cases l : x < k
        · simp [Memory.drop, e, l]
        · by_cases ey : k = y
          · subst ey; simp [Memory.drop, Memory.read, e, l]
          · by_cases ly : y < k
            · simp [Memory.drop, Memory.read, e, l, ey, ly]
            · simpa [Memory.drop, Memory.read, e, l, ey, ly] using ih h3
  · simp only [hb, if_false]
    clear h
    induction m with
    | nil =>
      simp [Memory.list, Memory.read, Ne.symm n]
    | cons c t ih =>
      obtain ⟨k, v⟩ := c
      by_cases e : k = x
      · simp [Memory.list, Memory.read, e, Ne.symm n]
      · by_cases l : x < k
        · by_cases ly : y < x
          · have h4 : y < k := by omega
            have h5 : k ≠ y := by omega
            simp [Memory.list, Memory.read, e, l, ly, h4, h5, Ne.symm n]
          · simp [Memory.list, Memory.read, e, l, ly, Ne.symm n]
        · by_cases ey : k = y
          · subst ey; simp [Memory.list, Memory.read, e, l]
          · by_cases ly : y < k
            · simp [Memory.list, Memory.read, e, l, ey, ly]
            · simpa [Memory.list, Memory.read, e, l, ey, ly] using ih

/-- A write of a run of bytes leaves the bytes outside the run as they were. -/
theorem Memory.read_writes_other (m : Memory) (x y : Nat) (bs : List Byte) (h : m.wf = true)
    (n : y < x ∨ x + bs.length ≤ y) : (m.writes x bs).read y = m.read y := by
  induction bs generalizing m x with
  | nil => rfl
  | cons b bs ih =>
    have hl : (b :: bs).length = bs.length + 1 := rfl
    rw [hl] at n
    rw [Memory.writes, ih _ _ (Memory.wf_write m x b h) (by omega)]
    exact Memory.read_write_other m x y b h (by omega)

/-- A run of bytes reads as it was written. -/
theorem Memory.read_writes_same (m : Memory) (x : Nat) (bs : List Byte) (h : m.wf = true) (i : Nat) (hi : i < bs.length) :
    (m.writes x bs).read (x + i) = bs[i] := by
  induction bs generalizing m x i with
  | nil => simp at hi
  | cons b bs ih =>
    have hw := Memory.wf_write m x b h
    cases i with
    | zero =>
      rw [Memory.writes, Memory.read_writes_other _ _ _ _ hw (by omega)]
      simpa using Memory.read_write_same m x b h
    | succ i =>
      have hi' : i < bs.length := by simpa using hi
      have e : x + (i + 1) = x + 1 + i := by omega
      rw [Memory.writes, e, ih _ _ hw i hi']
      simp

end Sys2Proof.Machine
end

