-- ==== Sys2Proof/Laws/Only.lean ====
section
/-! SUPPORT. Frames that name parts of the state and blocks of registers, and what they compose to. -/

namespace Sys2Proof.Machine

theorem mem_block {lo hi k : Nat} (h1 : 32 * lo ≤ k) (h2 : k < 32 * hi) : ∃ d ∈ regBlock lo hi, k = d.key :=
  ⟨⟨k, 0, 0⟩, List.mem_map.2 ⟨k - 32 * lo, List.mem_range.2 (by omega), by simp; omega⟩, rfl⟩

theorem not_mem_block {lo hi k : Nat} (h : k < 32 * lo ∨ 32 * hi ≤ k) : ∀ d ∈ regBlock lo hi, k ≠ d.key := by
  intro d hd; simp only [regBlock, List.mem_map, List.mem_range] at hd; obtain ⟨i, hi, rfl⟩ := hd; simp only; omega

theorem Only.refl {ps : List Part} {l : List Fld} (s : State) : Only ps l s s := ⟨fun _ _ _ => rfl, rfl, List.suffix_refl _⟩

theorem Only.trans {ps : List Part} {l : List Fld} {s t u : State} (a : Only ps l s t) (b : Only ps l t u) : Only ps l s u :=
  ⟨fun f n d => (b.get f n d).trans (a.get f n d), b.core.trans a.core, a.out.trans b.out⟩

theorem Keeps.only {ps : List Part} {l : List Fld} {s t : State} (k : Keeps l s t) : Only ps l s t :=
  ⟨k.get, congrArg (·.without ps) k.core, k.out⟩

theorem Only.tail {ps : List Part} {l : List Fld} {s t u : State} (a : Only ps l s t) (k : Keeps l t u) : Only ps l s u := a.trans k.only

theorem Only.more {ps : List Part} {l m : List Fld} {s t : State} (a : Only ps l s t) (h : ∀ k, (∃ d ∈ l, k = d.key) → ∃ d ∈ m, k = d.key) : Only ps m s t :=
  ⟨fun f n d => a.get f n (fun e he x => by obtain ⟨g, hg, y⟩ := h _ ⟨e, he, x⟩; exact d g hg y), a.core, a.out⟩

theorem Keeps.moreK {l m : List Fld} {s t : State} (a : Keeps l s t) (h : ∀ k, (∃ d ∈ l, k = d.key) → ∃ d ∈ m, k = d.key) : Keeps m s t :=
  ⟨fun f n d => a.get f n (fun e he x => by obtain ⟨g, hg, y⟩ := h _ ⟨e, he, x⟩; exact d g hg y), a.core, a.out⟩

theorem Keeps.only0 {ps : List Part} {l : List Fld} {s t : State} (k : Keeps [] s t) : Only ps l s t := (k.more (by simp)).only

theorem Keeps.putK {l : List Fld} {s t : State} (k : Keeps l s t) (f : Fld) (v : Nat) (h : ∃ d ∈ l, f.key = d.key) : Keeps l s (t.put f v) := by
  obtain ⟨d, hd, e⟩ := h
  refine ⟨fun g n x => (State.get_put_other _ _ _ _ (fun y => x d hd (y.trans e))).trans (k.get g n x), k.core, k.out⟩

theorem Only.putK {ps : List Part} {l : List Fld} {s t : State} (k : Only ps l s t) (f : Fld) (v : Nat) (h : ∃ d ∈ l, f.key = d.key) : Only ps l s (t.put f v) :=
  k.tail ((Keeps.refl t).putK f v h)

theorem Only.ite' {ps : List Part} {l : List Fld} {s a b : State} {c : Prop} [Decidable c] (h : Only ps l s a) (g : Only ps l s b) : Only ps l s (if c then a else b) := by
  split <;> assumption

theorem Only.foldl {α : Type} {ps : List Part} {l : List Fld} {s : State} (f : State → α → State) (hf : ∀ x y, Only ps l x (f x y)) (xs : List α) {t : State} (h : Only ps l s t) :
    Only ps l s (xs.foldl f t) := by
  induction xs generalizing t with
  | nil => exact h
  | cons x xs ih => exact ih (h.trans (hf _ _))

theorem Only.foldlMem {α : Type} {ps : List Part} {l : List Fld} {s : State} (f : State → α → State) (xs : List α) (hf : ∀ x, ∀ y ∈ xs, Only ps l x (f x y)) {t : State} (h : Only ps l s t) :
    Only ps l s (xs.foldl f t) := by
  induction xs generalizing t with
  | nil => exact h
  | cons x xs ih => exact ih (fun a b hb => hf a b (by simp [hb])) (h.trans (hf _ _ (by simp)))

theorem Only.putsK {ps : List Part} {l : List Fld} {s t : State} (h : Only ps l s t) (w : List (Fld × Nat)) (hw : ∀ p ∈ w, ∃ d ∈ l, p.1.key = d.key) : Only ps l s (t.puts w) := by
  induction w generalizing t with
  | nil => exact h
  | cons p w ih => exact ih (h.putK p.1 p.2 (hw p (by simp))) (fun q hq => hw q (by simp [hq]))

theorem Only.read {ps : List Part} {l : List Fld} {s t : State} (h : Only ps l s t) (f : Fld) (n : noisy f.key = false) (d : ∀ d ∈ l, f.key ≠ d.key) : t.get f = s.get f := h.get f n d

theorem Only.set_vat {ps : List Part} {l : List Fld} {s t : State} (h : Only ps l s t) (hp : ps.contains .vat = true) (v) : Only ps l s { t with vat := v } :=
  ⟨h.get, by rw [← h.core]; simp only [Core.without, State.core]; simp only [hp, if_true], h.out⟩

theorem Only.vat {ps : List Part} {l : List Fld} {s t : State} (h : Only ps l s t) (hp : ps.contains .vat = false) : t.vat = s.vat := by
  have := congrArg Core.vat h.core; simpa only [Core.without, State.core, hp, Bool.false_eq_true, if_false] using this

theorem Only.set_held {ps : List Part} {l : List Fld} {s t : State} (h : Only ps l s t) (hp : ps.contains .held = true) (v) : Only ps l s { t with held := v } :=
  ⟨h.get, by rw [← h.core]; simp only [Core.without, State.core]; simp only [hp, if_true], h.out⟩

theorem Only.held {ps : List Part} {l : List Fld} {s t : State} (h : Only ps l s t) (hp : ps.contains .held = false) : t.held = s.held := by
  have := congrArg Core.held h.core; simpa only [Core.without, State.core, hp, Bool.false_eq_true, if_false] using this

theorem Only.set_running {ps : List Part} {l : List Fld} {s t : State} (h : Only ps l s t) (hp : ps.contains .running = true) (v) : Only ps l s { t with running := v } :=
  ⟨h.get, by rw [← h.core]; simp only [Core.without, State.core]; simp only [hp, if_true], h.out⟩

theorem Only.running {ps : List Part} {l : List Fld} {s t : State} (h : Only ps l s t) (hp : ps.contains .running = false) : t.running = s.running := by
  have := congrArg Core.running h.core; simpa only [Core.without, State.core, hp, Bool.false_eq_true, if_false] using this

theorem Only.set_inReset {ps : List Part} {l : List Fld} {s t : State} (h : Only ps l s t) (hp : ps.contains .inReset = true) (v) : Only ps l s { t with inReset := v } :=
  ⟨h.get, by rw [← h.core]; simp only [Core.without, State.core]; simp only [hp, if_true], h.out⟩

theorem Only.inReset {ps : List Part} {l : List Fld} {s t : State} (h : Only ps l s t) (hp : ps.contains .inReset = false) : t.inReset = s.inReset := by
  have := congrArg Core.inReset h.core; simpa only [Core.without, State.core, hp, Bool.false_eq_true, if_false] using this

theorem Only.set_rwtB {ps : List Part} {l : List Fld} {s t : State} (h : Only ps l s t) (hp : ps.contains .rwtB = true) (v) : Only ps l s { t with rwtB := v } :=
  ⟨h.get, by rw [← h.core]; simp only [Core.without, State.core]; simp only [hp, if_true], h.out⟩

theorem Only.rwtB {ps : List Part} {l : List Fld} {s t : State} (h : Only ps l s t) (hp : ps.contains .rwtB = false) : t.rwtB = s.rwtB := by
  have := congrArg Core.rwtB h.core; simpa only [Core.without, State.core, hp, Bool.false_eq_true, if_false] using this

theorem Only.set_rwtC {ps : List Part} {l : List Fld} {s t : State} (h : Only ps l s t) (hp : ps.contains .rwtC = true) (v) : Only ps l s { t with rwtC := v } :=
  ⟨h.get, by rw [← h.core]; simp only [Core.without, State.core]; simp only [hp, if_true], h.out⟩

theorem Only.rwtC {ps : List Part} {l : List Fld} {s t : State} (h : Only ps l s t) (hp : ps.contains .rwtC = false) : t.rwtC = s.rwtC := by
  have := congrArg Core.rwtC h.core; simpa only [Core.without, State.core, hp, Bool.false_eq_true, if_false] using this

theorem Only.set_glb {ps : List Part} {l : List Fld} {s t : State} (h : Only ps l s t) (hp : ps.contains .glb = true) (v) : Only ps l s { t with glb := v } :=
  ⟨h.get, by rw [← h.core]; simp only [Core.without, State.core]; simp only [hp, if_true], h.out⟩

theorem Only.glb {ps : List Part} {l : List Fld} {s t : State} (h : Only ps l s t) (hp : ps.contains .glb = false) : t.glb = s.glb := by
  have := congrArg Core.glb h.core; simpa only [Core.without, State.core, hp, Bool.false_eq_true, if_false] using this

theorem Only.set_siz {ps : List Part} {l : List Fld} {s t : State} (h : Only ps l s t) (hp : ps.contains .siz = true) (v) : Only ps l s { t with siz := v } :=
  ⟨h.get, by rw [← h.core]; simp only [Core.without, State.core]; simp only [hp, if_true], h.out⟩

theorem Only.siz {ps : List Part} {l : List Fld} {s t : State} (h : Only ps l s t) (hp : ps.contains .siz = false) : t.siz = s.siz := by
  have := congrArg Core.siz h.core; simpa only [Core.without, State.core, hp, Bool.false_eq_true, if_false] using this

theorem Only.set_spare {ps : List Part} {l : List Fld} {s t : State} (h : Only ps l s t) (hp : ps.contains .spare = true) (v) : Only ps l s { t with spare := v } :=
  ⟨h.get, by rw [← h.core]; simp only [Core.without, State.core]; simp only [hp, if_true], h.out⟩

theorem Only.spare {ps : List Part} {l : List Fld} {s t : State} (h : Only ps l s t) (hp : ps.contains .spare = false) : t.spare = s.spare := by
  have := congrArg Core.spare h.core; simpa only [Core.without, State.core, hp, Bool.false_eq_true, if_false] using this

theorem Only.set_time {ps : List Part} {l : List Fld} {s t : State} (h : Only ps l s t) (hp : ps.contains .time = true) (v) : Only ps l s { t with time := v } :=
  ⟨h.get, by rw [← h.core]; simp only [Core.without, State.core]; simp only [hp, if_true], h.out⟩

theorem Only.time {ps : List Part} {l : List Fld} {s t : State} (h : Only ps l s t) (hp : ps.contains .time = false) : t.time = s.time := by
  have := congrArg Core.time h.core; simpa only [Core.without, State.core, hp, Bool.false_eq_true, if_false] using this

theorem Only.set_sheet {ps : List Part} {l : List Fld} {s t : State} (h : Only ps l s t) (hp : ps.contains .sheet = true) (v) : Only ps l s { t with sheet := v } :=
  ⟨h.get, by rw [← h.core]; simp only [Core.without, State.core]; simp only [hp, if_true], h.out⟩

theorem Only.sheet {ps : List Part} {l : List Fld} {s t : State} (h : Only ps l s t) (hp : ps.contains .sheet = false) : t.sheet = s.sheet := by
  have := congrArg Core.sheet h.core; simpa only [Core.without, State.core, hp, Bool.false_eq_true, if_false] using this

theorem Only.set_tdc {ps : List Part} {l : List Fld} {s t : State} (h : Only ps l s t) (hp : ps.contains .tdc = true) (v) : Only ps l s { t with tdc := v } :=
  ⟨h.get, by rw [← h.core]; simp only [Core.without, State.core]; simp only [hp, if_true], h.out⟩

theorem Only.tdc {ps : List Part} {l : List Fld} {s t : State} (h : Only ps l s t) (hp : ps.contains .tdc = false) : t.tdc = s.tdc := by
  have := congrArg Core.tdc h.core; simpa only [Core.without, State.core, hp, Bool.false_eq_true, if_false] using this

theorem Only.set_gnss {ps : List Part} {l : List Fld} {s t : State} (h : Only ps l s t) (hp : ps.contains .gnss = true) (v) : Only ps l s { t with gnss := v } :=
  ⟨h.get, by rw [← h.core]; simp only [Core.without, State.core]; simp only [hp, if_true], h.out⟩

theorem Only.gnss {ps : List Part} {l : List Fld} {s t : State} (h : Only ps l s t) (hp : ps.contains .gnss = false) : t.gnss = s.gnss := by
  have := congrArg Core.gnss h.core; simpa only [Core.without, State.core, hp, Bool.false_eq_true, if_false] using this

theorem Only.set_nav {ps : List Part} {l : List Fld} {s t : State} (h : Only ps l s t) (hp : ps.contains .nav = true) (v) : Only ps l s { t with nav := v } :=
  ⟨h.get, by rw [← h.core]; simp only [Core.without, State.core]; simp only [hp, if_true], h.out⟩

theorem Only.nav {ps : List Part} {l : List Fld} {s t : State} (h : Only ps l s t) (hp : ps.contains .nav = false) : t.nav = s.nav := by
  have := congrArg Core.nav h.core; simpa only [Core.without, State.core, hp, Bool.false_eq_true, if_false] using this

theorem Only.set_ref {ps : List Part} {l : List Fld} {s t : State} (h : Only ps l s t) (hp : ps.contains .ref = true) (v) : Only ps l s { t with ref := v } :=
  ⟨h.get, by rw [← h.core]; simp only [Core.without, State.core]; simp only [hp, if_true], h.out⟩

theorem Only.ref {ps : List Part} {l : List Fld} {s t : State} (h : Only ps l s t) (hp : ps.contains .ref = false) : t.ref = s.ref := by
  have := congrArg Core.ref h.core; simpa only [Core.without, State.core, hp, Bool.false_eq_true, if_false] using this

theorem Only.set_hold {ps : List Part} {l : List Fld} {s t : State} (h : Only ps l s t) (hp : ps.contains .hold = true) (v) : Only ps l s { t with hold := v } :=
  ⟨h.get, by rw [← h.core]; simp only [Core.without, State.core]; simp only [hp, if_true], h.out⟩

theorem Only.hold {ps : List Part} {l : List Fld} {s t : State} (h : Only ps l s t) (hp : ps.contains .hold = false) : t.hold = s.hold := by
  have := congrArg Core.hold h.core; simpa only [Core.without, State.core, hp, Bool.false_eq_true, if_false] using this

theorem Only.set_syn {ps : List Part} {l : List Fld} {s t : State} (h : Only ps l s t) (hp : ps.contains .syn = true) (v) : Only ps l s { t with syn := v } :=
  ⟨h.get, by rw [← h.core]; simp only [Core.without, State.core]; simp only [hp, if_true], h.out⟩

theorem Only.syn {ps : List Part} {l : List Fld} {s t : State} (h : Only ps l s t) (hp : ps.contains .syn = false) :
    { t.syn with clkPins := [], ppsPins := [] } = { s.syn with clkPins := [], ppsPins := [] } := by
  have := congrArg Core.syn h.core; simpa only [Core.without, State.core, hp, Bool.false_eq_true, if_false] using this

theorem Only.set_bound {ps : List Part} {l : List Fld} {s t : State} (h : Only ps l s t) (hp : ps.contains .bound = true) (v) : Only ps l s { t with bound := v } :=
  ⟨h.get, by rw [← h.core]; simp only [Core.without, State.core]; simp only [hp, if_true], h.out⟩

theorem Only.bound {ps : List Part} {l : List Fld} {s t : State} (h : Only ps l s t) (hp : ps.contains .bound = false) : t.bound = s.bound := by
  have := congrArg Core.bound h.core; simpa only [Core.without, State.core, hp, Bool.false_eq_true, if_false] using this

theorem Only.set_mac {ps : List Part} {l : List Fld} {s t : State} (h : Only ps l s t) (hp : ps.contains .mac = true) (v) : Only ps l s { t with mac := v } :=
  ⟨h.get, by rw [← h.core]; simp only [Core.without, State.core]; simp only [hp, if_true], h.out⟩

theorem Only.mac {ps : List Part} {l : List Fld} {s t : State} (h : Only ps l s t) (hp : ps.contains .mac = false) : t.mac = s.mac := by
  have := congrArg Core.mac h.core; simpa only [Core.without, State.core, hp, Bool.false_eq_true, if_false] using this

theorem Only.set_ptp {ps : List Part} {l : List Fld} {s t : State} (h : Only ps l s t) (hp : ps.contains .ptp = true) (v) : Only ps l s { t with ptp := v } :=
  ⟨h.get, by rw [← h.core]; simp only [Core.without, State.core]; simp only [hp, if_true], h.out⟩

theorem Only.ptp {ps : List Part} {l : List Fld} {s t : State} (h : Only ps l s t) (hp : ps.contains .ptp = false) : t.ptp = s.ptp := by
  have := congrArg Core.ptp h.core; simpa only [Core.without, State.core, hp, Bool.false_eq_true, if_false] using this

theorem Only.set_nts {ps : List Part} {l : List Fld} {s t : State} (h : Only ps l s t) (hp : ps.contains .nts = true) (v) : Only ps l s { t with nts := v } :=
  ⟨h.get, by rw [← h.core]; simp only [Core.without, State.core]; simp only [hp, if_true], h.out⟩

theorem Only.nts {ps : List Part} {l : List Fld} {s t : State} (h : Only ps l s t) (hp : ps.contains .nts = false) : t.nts = s.nts := by
  have := congrArg Core.nts h.core; simpa only [Core.without, State.core, hp, Bool.false_eq_true, if_false] using this

theorem Only.set_key {ps : List Part} {l : List Fld} {s t : State} (h : Only ps l s t) (hp : ps.contains .key = true) (v) : Only ps l s { t with key := v } :=
  ⟨h.get, by rw [← h.core]; simp only [Core.without, State.core]; simp only [hp, if_true], h.out⟩

theorem Only.key {ps : List Part} {l : List Fld} {s t : State} (h : Only ps l s t) (hp : ps.contains .key = false) : t.key = s.key := by
  have := congrArg Core.key h.core; simpa only [Core.without, State.core, hp, Bool.false_eq_true, if_false] using this

theorem Only.set_keep {ps : List Part} {l : List Fld} {s t : State} (h : Only ps l s t) (hp : ps.contains .keep = true) (v) : Only ps l s { t with keep := v } :=
  ⟨h.get, by rw [← h.core]; simp only [Core.without, State.core]; simp only [hp, if_true], h.out⟩

theorem Only.keep {ps : List Part} {l : List Fld} {s t : State} (h : Only ps l s t) (hp : ps.contains .keep = false) : t.keep = s.keep := by
  have := congrArg Core.keep h.core; simpa only [Core.without, State.core, hp, Bool.false_eq_true, if_false] using this

theorem Only.set_hif {ps : List Part} {l : List Fld} {s t : State} (h : Only ps l s t) (hp : ps.contains .hif = true) (v) : Only ps l s { t with hif := v } :=
  ⟨h.get, by rw [← h.core]; simp only [Core.without, State.core]; simp only [hp, if_true], h.out⟩

theorem Only.set_irq {ps : List Part} {l : List Fld} {s t : State} (h : Only ps l s t) (hp : ps.contains .irq = true) (v) : Only ps l s { t with irq := v } :=
  ⟨h.get, by rw [← h.core]; simp only [Core.without, State.core]; simp only [hp, if_true], h.out⟩

theorem Only.set_flt {ps : List Part} {l : List Fld} {s t : State} (h : Only ps l s t) (hp : ps.contains .flt = true) (v) : Only ps l s { t with flt := v } :=
  ⟨h.get, by rw [← h.core]; simp only [Core.without, State.core]; simp only [hp, if_true], h.out⟩

theorem Only.set_couch {ps : List Part} {l : List Fld} {s t : State} (h : Only ps l s t) (hp : ps.contains .couch = true) (v) : Only ps l s { t with couch := v } :=
  ⟨h.get, by rw [← h.core]; simp only [Core.without, State.core]; simp only [hp, if_true], h.out⟩

theorem Only.set_vatc {ps : List Part} {l : List Fld} {s t : State} (h : Only ps l s t) (hp : ps.contains .vatc = true) (v) : Only ps l s { t with vatc := v } :=
  ⟨h.get, by rw [← h.core]; simp only [Core.without, State.core]; simp only [hp, if_true], h.out⟩

theorem Only.set_ledger {ps : List Part} {l : List Fld} {s t : State} (h : Only ps l s t) (hp : ps.contains .ledger = true) (v) : Only ps l s { t with ledger := v } :=
  ⟨h.get, by rw [← h.core]; simp only [Core.without, State.core]; simp only [hp, if_true], h.out⟩

theorem Keeps.get_of {f : Fld} {v t : State} {x : Nat} (k : Keeps [] v t) (n : noisy f.key = false) (h : v.get f = x) : t.get f = x := (k.read f n).trans h

theorem Keeps.flag_of {f : Fld} {v t : State} {x : Bool} (k : Keeps [] v t) (n : noisy f.key = false) (h : v.flag f = x) : t.flag f = x := (k.flag f n).trans h

theorem Keeps.any {l : List Fld} {v t : State} (k : Keeps [] v t) : Keeps l v t := k.more (by simp)

theorem Keeps.mode {l : List Fld} {v t : State} (k : Keeps l v t) : t.mode = v.mode := by unfold State.mode; rw [k.glb]
theorem Keeps.incByK {l : List Fld} {s t : State} (h : Keeps l s t) (f : Fld) (n : Nat) (m : ∃ d ∈ l, f.key = d.key) : Keeps l s (t.incBy f n) := by
  unfold State.incBy
  dsimp only
  split
  · exact h
  · split
    · exact h.putK f _ m
    · have := blockOf_lt (f.key / 32)
      exact Keeps.irqLevel ((h.putK f _ m).put _ _ .glb_glb_cnt_ovf) _ _ (by omega)

theorem Keeps.incK {l : List Fld} {s t : State} (h : Keeps l s t) (f : Fld) (m : ∃ d ∈ l, f.key = d.key) : Keeps l s (t.inc f) := h.incByK f 1 m

theorem Keeps.putBK {l : List Fld} {s t : State} (h : Keeps l s t) (f : Fld) (b : Bool) (m : ∃ d ∈ l, f.key = d.key) : Keeps l s (t.putB f b) := h.putK f _ m

theorem Keeps.putsK {l : List Fld} {s t : State} (h : Keeps l s t) (w : List (Fld × Nat)) (hw : ∀ p ∈ w, ∃ d ∈ l, p.1.key = d.key) : Keeps l s (t.puts w) := by
  induction w generalizing t with
  | nil => exact h
  | cons p w ih => exact ih (h.putK p.1 p.2 (hw p (by simp))) (fun q hq => hw q (by simp [hq]))

theorem Only.complete {ps : List Part} {l : List Fld} {s t : State} (a : Only ps l s t) (h : Hdr) (op st r : Nat) (late : Bool) : Only ps l s (t.complete h op st r late) := a.tail ((Keeps.refl t).complete h op st r late)

theorem Only.journalCmd {ps : List Part} {l : List Fld} {s t : State} (a : Only ps l s t) (h : Hdr) (op b c : Nat) : Only ps l s (t.journalCmd h op b c) := a.tail ((Keeps.refl t).journalCmd h op b c)

theorem Only.journal {ps : List Part} {l : List Fld} {s t : State} (a : Only ps l s t) (o : Origin) (k b x y c : Nat) : Only ps l s (t.journal o k b x y c) := a.tail ((Keeps.refl t).journal o k b x y c)

theorem Only.eventJ {ps : List Part} {l : List Fld} {s t : State} (a : Only ps l s t) (o : Origin) (c b : Nat) (v : Int) (x y : Nat) : Only ps l s (t.eventJ o c b v x y) := a.tail ((Keeps.refl t).eventJ o c b v x y)

theorem Only.event {ps : List Part} {l : List Fld} {s t : State} (a : Only ps l s t) (c b : Nat) (v : Int) : Only ps l s (t.event c b v) := a.tail ((Keeps.refl t).event c b v)

theorem Only.eventIn {ps : List Part} {l : List Fld} {s t : State} (a : Only ps l s t) (c b : Nat) (v : Int) : Only ps l s (t.eventIn c b v) := a.tail ((Keeps.refl t).eventIn c b v)

theorem Only.paidEvent {ps : List Part} {l : List Fld} {s t : State} (a : Only ps l s t) (c o : Nat) (v : Int) (x y : Nat) : Only ps l s (t.paidEvent c o v x y) := a.tail ((Keeps.refl t).paidEvent c o v x y)

theorem Only.pairEvent {ps : List Part} {l : List Fld} {s t : State} (a : Only ps l s t) (o : Origin) (c b : Nat) (v : Int) (x y : Nat) : Only ps l s (t.pairEvent o c b v x y) := a.tail ((Keeps.refl t).pairEvent o c b v x y)

theorem Only.charge0 {ps : List Part} {l : List Fld} {s t : State} (a : Only ps l s t) (n : Nat) : Only ps l s (t.charge0 n) := a.tail ((Keeps.refl t).charge0 n)

theorem Only.emit {ps : List Part} {l : List Fld} {s t : State} (a : Only ps l s t) (o : Out) : Only ps l s (t.emit o) := a.tail ((Keeps.refl t).emit o)

theorem Only.pmu {ps : List Part} {l : List Fld} {s t : State} (a : Only ps l s t) (b c d : Nat) : Only ps l s (t.pmu b c d) := a.tail ((Keeps.refl t).pmu b c d)

theorem Only.settle {ps : List Part} {l : List Fld} {s t : State} (a : Only ps l s t) : Only ps l s t.settle := a.tail (Keeps.refl t).settle

theorem Only.journalWrite {ps : List Part} {l : List Fld} {s t : State} (a : Only ps l s t) (o : Origin) (b x y : Nat) : Only ps l s (t.journalWrite o b x y) := a.tail ((Keeps.refl t).journalWrite o b x y)

theorem Only.vatUncorr {ps : List Part} {l : List Fld} {s t : State} (a : Only ps l s t) (m b : Nat) : Only ps l s (t.vatUncorr m b) := a.tail ((Keeps.refl t).vatUncorr m b)

theorem Only.vatDeny {ps : List Part} {l : List Fld} {s t : State} (a : Only ps l s t) (m b : Nat) (w : Bool) : Only ps l s (t.vatDeny m b w) := a.tail ((Keeps.refl t).vatDeny m b w)

theorem Only.pay {ps : List Part} {l : List Fld} {s t : State} (a : Only ps l s t) (c n : Nat) (hc : c < 8) : Only ps l s (t.pay c n) := a.tail ((Keeps.refl t).pay c n hc)

theorem Only.irqEdge {ps : List Part} {l : List Fld} {s t : State} (a : Only ps l s t) (x : Nat) (hx : x < 512) : Only ps l s (t.irqEdge x) := a.tail ((Keeps.refl t).irqEdge x hx)

theorem Only.putN {ps : List Part} {l : List Fld} {s t : State} (a : Only ps l s t) (f : Fld) (v : Nat) (n : Noise f.key) : Only ps l s (t.put f v) := a.tail ((Keeps.refl t).put f v n)

theorem Only.putBN {ps : List Part} {l : List Fld} {s t : State} (a : Only ps l s t) (f : Fld) (v : Bool) (n : Noise f.key) : Only ps l s (t.putB f v) := a.tail ((Keeps.refl t).putB f v n)

theorem Only.incN {ps : List Part} {l : List Fld} {s t : State} (a : Only ps l s t) (f : Fld) (n : Noise f.key) : Only ps l s (t.inc f) := a.tail ((Keeps.refl t).inc f n)

theorem Only.putBK {ps : List Part} {l : List Fld} {s t : State} (a : Only ps l s t) (f : Fld) (v : Bool) (m : ∃ d ∈ l, f.key = d.key) : Only ps l s (t.putB f v) := a.putK f _ m

theorem Only.putiK {ps : List Part} {l : List Fld} {s t : State} (a : Only ps l s t) (f : Fld) (v : Int) (m : ∃ d ∈ l, f.key = d.key) : Only ps l s (t.puti f v) := a.putK f _ m

theorem Only.incByK {ps : List Part} {l : List Fld} {s t : State} (a : Only ps l s t) (f : Fld) (n : Nat) (m : ∃ d ∈ l, f.key = d.key) : Only ps l s (t.incBy f n) := a.tail ((Keeps.refl t).incByK f n m)

theorem Only.incK {ps : List Part} {l : List Fld} {s t : State} (a : Only ps l s t) (f : Fld) (m : ∃ d ∈ l, f.key = d.key) : Only ps l s (t.inc f) := a.incByK f 1 m

theorem Only.charge {ps : List Part} {l : List Fld} {s t : State} (a : Only ps l s t) {c n : Nat} {u : State} (e : t.charge c n = some u) : Only ps l s u := a.tail ((Keeps.refl t).charge e)

theorem Core.without_without (c : Core) {ps qs : List Part} (h : ∀ p, ps.contains p = true → qs.contains p = true) :
    (c.without ps).without qs = c.without qs := by
  unfold Core.without
  congr 1 <;> (split <;> first | rfl | (rename_i hn; rw [if_neg (fun hp => hn (h _ hp))]))

/-- A frame may name more parts and more fields. -/
theorem Only.parts {ps qs : List Part} {l m : List Fld} {s t : State} (a : Only ps l s t) (hp : ps.all (fun p => qs.contains p) = true)
    (hl : ∀ k, (∃ d ∈ l, k = d.key) → ∃ d ∈ m, k = d.key) : Only qs m s t :=
  by
  have hq : ∀ p, ps.contains p = true → qs.contains p = true := fun p h => List.all_eq_true.1 hp p (by simpa using h)
  exact ⟨(a.more hl).get, by rw [← Core.without_without t.core hq, a.core, Core.without_without s.core hq], a.out⟩

theorem Only.mode {ps : List Part} {l : List Fld} {s t : State} (k : Only ps l s t) (h : ps.contains .glb = false) : t.mode = s.mode := by
  unfold State.mode; rw [k.glb h]

/-- What each step of a loop establishes and the other steps keep holds after the loop. -/
theorem foldRange_est {n : Nat} (f : State → Nat → State) (P : Nat → State → Prop) (est : ∀ x, ∀ j < n, P j (f x j))
    (pres : ∀ x, ∀ i < n, ∀ j < n, i ≠ j → P j x → P j (f x i)) (s : State) : ∀ j < n, P j ((List.range n).foldl f s) := by
  suffices h : ∀ k ≤ n, ∀ j < k, P j ((List.range k).foldl f s) from h n le_rfl
  intro k
  induction k with
  | zero => intro _ j hj; omega
  | succ k ih =>
    intro hk j hj
    rw [List.range_succ, List.foldl_append]
    by_cases e : j = k
    · subst e; exact est _ _ (by omega)
    · exact pres _ k (by omega) j (by omega) (fun x => e x.symm) (ih (by omega) j (by omega))

/-- Work that its class can pay for goes ahead, for the function that a meaning runs. -/
theorem State.paid {s : State} {c n k : Nat} {i : Instr} {r : Option Nat} {f g : State → State} (hr : s.inReset = false) (hc : (s.charge c n).isSome = true)
    (e : g s = s.tryPay c n i k f r) : ∃ u, Keeps [] s u ∧ s.awake g = f u ∧ u.vatc = s.vatc := by
  obtain ⟨u, hu, hf, hv⟩ := State.tryPay_some hc
  exact ⟨u, hu, (State.awake_eq hr g).trans (e.trans (hf i k f r)), hv⟩

theorem State.paidOr {s : State} {c n : Nat} {f g : State → State} (hr : s.inReset = false) (hc : (s.charge c n).isSome = true)
    (e : g s = s.orPause c n f) : ∃ u, Keeps [] s u ∧ s.awake g = f u := by
  obtain ⟨u, hu, hf⟩ := State.orPause_some hc
  exact ⟨u, hu, (State.awake_eq hr g).trans (e.trans (hf f))⟩

theorem regBlock_sub {lo hi a b : Nat} (h1 : lo ≤ a) (h2 : b ≤ hi) {k : Nat} (h : ∃ d ∈ regBlock a b, k = d.key) : ∃ d ∈ regBlock lo hi, k = d.key := by
  obtain ⟨d, hd, rfl⟩ := h
  simp only [regBlock, List.mem_map, List.mem_range] at hd
  obtain ⟨i, hi, rfl⟩ := hd
  exact mem_block (by simp only; omega) (by simp only; omega)

/-- A field outside a block of registers, as a frame asks for it. -/
theorem Only.readB {ps : List Part} {lo hi : Nat} {s t : State} (h : Only ps (regBlock lo hi) s t) (f : Fld) (n : noisy f.key = false)
    (d : f.key < 32 * lo ∨ 32 * hi ≤ f.key) : t.get f = s.get f := h.get f n (not_mem_block d)

/-- Bookkeeping writes no field between two places. -/
theorem noisy_gap (a b : Nat) {k : Nat} (h : noisePlaces.all (fun p => decide (p.2.1 ≤ a) || decide (b ≤ p.1)) = true) (h1 : a ≤ k) (h2 : k < b) : noisy k = false := by
  unfold noisy
  rw [List.any_eq_false]
  intro p hp
  have := List.all_eq_true.1 h p hp
  simp only [Bool.or_eq_true, decide_eq_true_eq] at this
  simp only [Bool.and_eq_true, decide_eq_true_eq, not_and]
  omega

/-- The wide gaps between the places that bookkeeping writes. -/
theorem noisy_gaps {k : Nat} (h : (0 ≤ k ∧ k < 1024)
    ∨ (1025 ≤ k ∧ k < 2097154)
    ∨ (2097155 ≤ k ∧ k < 2099328)
    ∨ (2099329 ≤ k ∧ k < 2105344)
    ∨ (2107137 ≤ k ∧ k < 2107648)
    ∨ (2107649 ≤ k ∧ k < 6295681)
    ∨ (6303363 ≤ k ∧ k < 16777216)
    ∨ (16777218 ≤ k ∧ k < 35651599)
    ∨ (35651600 ≤ k ∧ k < 39845893)
    ∨ (39845894 ≤ k ∧ k < 39879296)
    ∨ (39894659 ≤ k ∧ k < 39895424)
    ∨ (39896962 ≤ k ∧ k < 54525952)
    ∨ (54525953 ≤ k ∧ k < 56623104)
    ∨ (56623105 ≤ k ∧ k < 60817408)
    ∨ (60817425 ≤ k ∧ k < 60819200)
    ∨ (60819201 ≤ k ∧ k < 60823296)
    ∨ (60823297 ≤ k ∧ k < 62914571)
    ∨ (62914572 ≤ k ∧ k < 62914816)
    ∨ (62914817 ≤ k ∧ k < 62914944)
    ∨ (62914945 ≤ k ∧ k < 62916608)
    ∨ (62916609 ≤ k ∧ k < 62918400)
    ∨ (62918401 ≤ k ∧ k < 62918912)
    ∨ (62918913 ≤ k ∧ k < 62923136)
    ∨ (62987910 ≤ k ∧ k < 65011716)
    ∨ (65011718 ≤ k ∧ k < 65012992)
    ∨ (65012993 ≤ k ∧ k < 65013248)
    ∨ (65013249 ≤ k ∧ k < 65014784)
    ∨ (65014785 ≤ k ∧ k < 65014912)
    ∨ (65014913 ≤ k ∧ k < 65015040)
    ∨ (65015041 ≤ k ∧ k < 65015296)
    ∨ (65015297 ≤ k ∧ k < 65015424)
    ∨ (65015429 ≤ k ∧ k < 67108864)
    ∨ (67108881 ≤ k ∧ k < 67117440)
    ∨ (67182478 ≤ k ∧ k < 67239954)
    ∨ (67305365 ≤ k ∧ k < 69206018)
    ∨ (69206025 ≤ k ∧ k < 69207040)
    ∨ (69207425 ≤ k ∧ k < 69208064)
    ∨ (69208449 ≤ k ∧ k < 69208576)
    ∨ (69208961 ≤ k ∧ k < 69210368)
    ∨ (69210369 ≤ k ∧ k < 69238784)
    ∨ (69271297 ≤ k ∧ k < 71303168)
    ∨ (71303171 ≤ k ∧ k < 71303424)
    ∨ (71303425 ≤ k ∧ k < 71303680)
    ∨ (71303681 ≤ k ∧ k < 71304192)
    ∨ (71304193 ≤ k ∧ k < 71304448)
    ∨ (71304449 ≤ k ∧ k < 71311360)
    ∨ (71313281 ≤ k ∧ k < 73408640)
    ∨ (73424513 ≤ k ∧ k < 75497476)
    ∨ (75497477 ≤ k ∧ k < 77595008)
    ∨ (77595029 ≤ k ∧ k < 1000000000)) : noisy k = false := by
  rcases h with h | h | h | h | h | h | h | h | h | h | h | h | h | h | h | h | h | h | h | h | h | h | h | h | h | h | h | h | h | h | h | h | h | h | h | h | h | h | h | h | h | h | h | h | h | h | h | h | h | h
  · exact noisy_gap 0 1024 (by decide) h.1 h.2
  · exact noisy_gap 1025 2097154 (by decide) h.1 h.2
  · exact noisy_gap 2097155 2099328 (by decide) h.1 h.2
  · exact noisy_gap 2099329 2105344 (by decide) h.1 h.2
  · exact noisy_gap 2107137 2107648 (by decide) h.1 h.2
  · exact noisy_gap 2107649 6295681 (by decide) h.1 h.2
  · exact noisy_gap 6303363 16777216 (by decide) h.1 h.2
  · exact noisy_gap 16777218 35651599 (by decide) h.1 h.2
  · exact noisy_gap 35651600 39845893 (by decide) h.1 h.2
  · exact noisy_gap 39845894 39879296 (by decide) h.1 h.2
  · exact noisy_gap 39894659 39895424 (by decide) h.1 h.2
  · exact noisy_gap 39896962 54525952 (by decide) h.1 h.2
  · exact noisy_gap 54525953 56623104 (by decide) h.1 h.2
  · exact noisy_gap 56623105 60817408 (by decide) h.1 h.2
  · exact noisy_gap 60817425 60819200 (by decide) h.1 h.2
  · exact noisy_gap 60819201 60823296 (by decide) h.1 h.2
  · exact noisy_gap 60823297 62914571 (by decide) h.1 h.2
  · exact noisy_gap 62914572 62914816 (by decide) h.1 h.2
  · exact noisy_gap 62914817 62914944 (by decide) h.1 h.2
  · exact noisy_gap 62914945 62916608 (by decide) h.1 h.2
  · exact noisy_gap 62916609 62918400 (by decide) h.1 h.2
  · exact noisy_gap 62918401 62918912 (by decide) h.1 h.2
  · exact noisy_gap 62918913 62923136 (by decide) h.1 h.2
  · exact noisy_gap 62987910 65011716 (by decide) h.1 h.2
  · exact noisy_gap 65011718 65012992 (by decide) h.1 h.2
  · exact noisy_gap 65012993 65013248 (by decide) h.1 h.2
  · exact noisy_gap 65013249 65014784 (by decide) h.1 h.2
  · exact noisy_gap 65014785 65014912 (by decide) h.1 h.2
  · exact noisy_gap 65014913 65015040 (by decide) h.1 h.2
  · exact noisy_gap 65015041 65015296 (by decide) h.1 h.2
  · exact noisy_gap 65015297 65015424 (by decide) h.1 h.2
  · exact noisy_gap 65015429 67108864 (by decide) h.1 h.2
  · exact noisy_gap 67108881 67117440 (by decide) h.1 h.2
  · exact noisy_gap 67182478 67239954 (by decide) h.1 h.2
  · exact noisy_gap 67305365 69206018 (by decide) h.1 h.2
  · exact noisy_gap 69206025 69207040 (by decide) h.1 h.2
  · exact noisy_gap 69207425 69208064 (by decide) h.1 h.2
  · exact noisy_gap 69208449 69208576 (by decide) h.1 h.2
  · exact noisy_gap 69208961 69210368 (by decide) h.1 h.2
  · exact noisy_gap 69210369 69238784 (by decide) h.1 h.2
  · exact noisy_gap 69271297 71303168 (by decide) h.1 h.2
  · exact noisy_gap 71303171 71303424 (by decide) h.1 h.2
  · exact noisy_gap 71303425 71303680 (by decide) h.1 h.2
  · exact noisy_gap 71303681 71304192 (by decide) h.1 h.2
  · exact noisy_gap 71304193 71304448 (by decide) h.1 h.2
  · exact noisy_gap 71304449 71311360 (by decide) h.1 h.2
  · exact noisy_gap 71313281 73408640 (by decide) h.1 h.2
  · exact noisy_gap 73424513 75497476 (by decide) h.1 h.2
  · exact noisy_gap 75497477 77595008 (by decide) h.1 h.2
  · exact noisy_gap 77595029 1000000000 (by decide) h.1 h.2

end Sys2Proof.Machine
end

