-- ==== Sys2Proof/Tests/Slice0.lean ====
section
/-! SUPPORT. Tests: terms that the well-formedness check refuses, states that meet the hypotheses of each clause of each statement, and results
worked out by hand from the manual. -/

namespace Sys2Proof.Tests

set_option Elab.async false
set_option linter.unusedVariables false

open Sys2Proof Sys2Proof.Machine

/-- Whether a command is accepted, as a check. -/
def acceptsB (s : State) (h : Hdr) (pf1 : Bool) (extra : Nat) : Bool :=
  !s.inReset && s.running && (h.origin == .mspi || (decide (h.ring < 64) && s.flag (HIF.RING_STAT_HALTED h.ring) == false)) &&
  decide (s.get HIF.HIF_INFLIGHT_CMDS < 256) && s.held.all (fun w => w.ring != some (cmdSource h)) &&
  (s.charge 3 ((if h.origin = .mspi then 200 else 110) + extra)).isSome &&
  !(h.origin == .mspi && s.flag HIF.HIF_STATUS_PF0_BME && s.flag HIF.HIF_CFG_MSPI_SHARE == false) && (h.origin != .pf1 || pf1) && h.form == .good

theorem accepts_of {s : State} {h : Hdr} {pf1 : Bool} {extra : Nat} (e : acceptsB s h pf1 extra = true) : s.Accepts h pf1 extra := by
  simp only [acceptsB, Bool.and_eq_true, Bool.or_eq_true, Bool.not_eq_true', decide_eq_true_eq, beq_iff_eq, bne_iff_ne, List.all_eq_true,
    Bool.and_eq_false_iff, ne_eq] at e
  obtain ⟨⟨⟨⟨⟨⟨⟨⟨h1, h2⟩, h3⟩, h4⟩, h5⟩, h6⟩, h7⟩, h8⟩, h9⟩ := e
  refine ⟨h1, h2, ?_, h4, fun w hw => by simpa using h5 w hw, h6, ?_, ?_, h9⟩
  · rcases h3 with h | h
    · exact Or.inl h
    · exact Or.inr ⟨h.1, h.2⟩
  · rintro ⟨a, b, c⟩
    rcases h7 with (h | h) | h
    · simp [a] at h
    · simp [b] at h
    · simp [c] at h
  · intro a
    rcases h8 with h | h
    · exact absurd a h
    · exact h

theorem some_getD {α : Type} {x : Option α} (d : α) (h : x.isSome = true) : x = some (x.getD d) := by
  cases x with
  | none => cases h
  | some v => rfl

/-! ### States to begin with -/

def ready : State := { State.reset with running := true, ledger := { floors := [100000, 100000, 100000, 100000] } }
def inMode (m : Nat) : State := { ready with glb := { ready.glb with mode := m } }
def withRegs (l : List (Fld × Nat)) : State := ready.puts l
def mspi : Hdr := { origin := .mspi }
def repairing : State := { ready with vatc := { repair := some ⟨3, 1, 77, 262144, .auto⟩ } }
def bisting : State := { ready with spare := { bist := some ⟨some {}, [(2, 5)], 0⟩ } }
def winState (w : WinSt) (l : List (Fld × Nat)) : State := { withRegs l with tdc := { wins := setNth (List.replicate 64 {}) 5 w } }
def chState (c : TdcCh) (n : Nat) (l : List (Fld × Nat)) : State := { withRegs l with tdc := { chans := setNth (List.replicate 48 {}) n c } }

def searching (r : Search) (l : List (Fld × Nat)) : State := { withRegs l with gnss := { searches := setNth (List.replicate 8 none) 2 (some r) } }
def acq : AcqArgs := { signal := 0, sv := 5, span := 5000, step := 500, coh := 1, noncoh := 4, channel := 7, tag := 9, thresh := 100 }

def eph1 : List Byte := let b : List Byte := [0, 5] ++ List.replicate 250 7; b ++ leBytes 4 (crc32 b)
def surveying (l : List (Fld × Nat)) (est : Option (List Rat)) : State := { withRegs l with nav := { survey := some ⟨.pf0, 0, 100, 0, [[0,0,0],[0,0,0],[0,0,0]], [0,0,0], est⟩ } }

def slots (l : List (Nat × RefSlot)) (r : List (Fld × Nat)) : State := { withRegs r with ref := { slots := l.foldl (fun a p => setNth a p.1 p.2) (List.replicate 16 {}) } }
def unfrozen (r : List (Fld × Nat)) : State := withRegs ((SYN.SYN_STATUS_SP_IN_SERVICE, 1) :: r)
def todFrame : List Byte := let b : List Byte := [1, 16] ++ beBytes 6 77 ++ List.replicate 10 0; beBytes 2 0xC53A ++ b ++ beBytes 2 (crc16 b)
def atomF (t : Nat) (p : List Byte) : List Byte := atomBytes t p
def withHold (x : HoldSt) (r : List (Fld × Nat)) : State := { withRegs r with hold := x }

/-- Bytes of the vat from an address on. -/
def cellsOf (a : Nat) (b : List Byte) : Memory := (b.zipIdx.filter (fun x => x.1 != 0)).map (fun x => (a + x.2, x.1))
/-- a mould in buffer A whose one body holds the entry given -/
def moulded (ent : List Byte) (l : List (Fld × Nat)) : State :=
  let s := withRegs ((SHEET.SHEET_STATUS_EMPTY_SCHED, 0) :: (SHEET.SHEET_STATUS_ACTIVE_BUF, 0) :: l)
  let g := { s.glb with mode := 2 }
  { s with glb := g, vat := cellsOf 0x04000000 (List.replicate 0x1C 0 ++ leBytes 4 256 ++ leBytes 4 512 ++ leBytes 4 0 ++ leBytes 4 1024 ++ List.replicate 212 0 ++
      leBytes 4 0 ++ leBytes 4 0 ++ List.replicate 248 0 ++ leBytes 4 1 ++ List.replicate 12 0 ++ ent) }
def ent (tick op port tc opa opb : Nat) : List Byte := leBytes 4 (tick + op * 2^17 + port * 2^21 + tc * 2^24) ++ leBytes 4 opa ++ leBytes 4 opb ++ leBytes 4 0

def fet (s : State) (i : Nat) : Fetched := ((s.fetchEntry i).1).getD ⟨0, ⟨0,0,0,0,0,0,0,0,0,0,0,0⟩, 0, ⟨0,0,0,0,false,false,false,false,0,0⟩⟩
/-- a port part for port 1 -/
def ported (s : State) (q : PortSt) : State := { s with mac := { s.mac with ports := setNth s.mac.ports 1 q } }
def mem (s : State) (a : Nat) (b : List Byte) : State := { s with vat := s.vat.writes a b }
def ntpQ : NtpMsg := { kind := 0, dest := { transport := 1, dmac := List.replicate 6 1, src := [10,0,0,1], dst := [10,0,0,2] }, req := List.replicate 48 0, time := 65536 }
def at_ (s : State) (u : Nat) : State := { s with time := { s.time with edge := u, next := u + 125000 * 65536, cnt := u * 2^32 } }
def sd : SchedFrame := ⟨0, 1, 100 * 65536 * 1000, List.replicate 60 7, none⟩

def img0 (c : Nat) : List Byte := leBytes 4 0xA7D09648 ++ leBytes 2 1 ++ leBytes 2 256 ++ leBytes 4 512 ++ leBytes 4 c ++ leBytes 8 0x77 ++ leBytes 4 1 ++ leBytes 4 256 ++ leBytes 4 272 ++ leBytes 4 64 ++ leBytes 4 0 ++ leBytes 4 0 ++ List.replicate 464 0
def img : List Byte := img0 (crc32 (img0 0))
def loading (b : Nat) : State := { withRegs [(stateFld b, 1)] with sheet := if b = 0 then { loadA := some ⟨{}, 512⟩ } else { loadB := some ⟨{}, 512⟩ } }
def timed (f : TimeSt → TimeSt) : State := { ready with time := f ready.time }
def op1 : ModOp := ⟨{}, 0xA0, 3, none, [1, 2]⟩
def op2 : ModOp := ⟨{}, 0xA0, 3, some (4096, 2), []⟩
def ident1 : List Byte := let a : List Byte := 3 :: 4 :: 7 :: List.replicate 60 9; let c : List Byte := List.replicate 31 5
  a ++ leBytes 1 ((a.map (·.toNat)).foldl (· + ·) 0 % 256) ++ c ++ leBytes 1 ((c.map (·.toNat)).foldl (· + ·) 0 % 256)

def cl1 : Client := { valid := true, transport := 1, port := 1, ip := [10,0,0,9] ++ List.replicate 12 0, portId := List.replicate 10 4 }
def withRec (n : Nat) (c : Client) : State := ready.setRec n c
def keyed (n : Nat) (k : KeySlot) (l : List (Fld × Nat)) : State := { withRegs l with key := { slots := setNth ready.key.slots n k } }
def aesKey : KeySlot := { state := 1, alg := 3, counted := true, uses := 2, mat := List.replicate 32 9 }

def kdk : KeySlot := { state := 1, alg := 4, counted := true, uses := 2, mat := List.replicate 32 9 }
def dargs : DeriveArgs := ⟨5, 6, 3, 0, 77, 0, false, false, [1, 2], [3]⟩
def unlocked (s : State) (o : Origin) : State := { s with glb := { s.glb with unlocks := [⟨o, 0⟩] } }
def staged : List (Fld × Nat) := [(KEY.KEY_STAGE_D 0, 0x0300), (KEY.KEY_CTRL_WRITE_EN, 1)]
def stagedS (l : List (Fld × Nat)) : State := let s := withRegs l
  let s := s.putT KEY.KEY_CTRL_WRITE_EN 1
  s.put KEY.KEY_STAGE_CRC (crc32 (s.stagedMat ++ s.stagedDesc))

def ring (n ty : Nat) (l : List (Fld × Nat)) : State := withRegs ([(HIF.RING_CFG_ENABLE n, 1), (HIF.RING_CFG_TYPE n, ty), (HIF.RING_CFG_SIZE_LOG2 n, 8), (HIF.RING_STAT_RUNNING n, 1)] ++ l)
def rec1 : MeasRec := ({ owner := 1, start := some 77 } : WinSt).record 3 0 0
def pend (x : Nat) (l : List (Fld × Nat)) : State := (withRegs ([(IRQ.SRC_CFG_EN x, 1), (IRQ.SRC_CFG_VECTOR x, 9), (IRQ.VEC_CFG_EN 9, 1)] ++ l)).irqEdge x

def forced (f : Nat) (l : List (Fld × Nat)) : State := (withRegs ([(FLT.FLT_FORCE_ACT 0, 2^f), (FLT.FLT_ACTIVE 0, 2^f)] ++ l))
def reamE : ReamEntry := ⟨5, false, 0, 0, .auto, 3, 0, 0, 1, 0⟩
def item (n : Nat) : List Byte := let b0 : List Byte := leBytes 2 n ++ leBytes 2 (itemLen n) ++ leBytes 4 1 ++ leBytes 8 99 ++ List.replicate (itemLen n - 20) 3; b0 ++ leBytes 4 (crc32 b0)
def withBuf (s : State) (b : List Byte) : State := (List.range 256).foldl (fun s i => s.put (SIZING.SIZ_BUF i) (leAt b (4 * i) 4)) s

def clocked (l : List (Fld × Nat)) : State :=
  let s := runOscInDetected (List.replicate 8 (ratioOf 1).floor.toNat) { withRegs [(VAT.VAT_STATUS_INIT_DONE, 1)] with running := false }
  let s := (s.puts ([(SYN.CAL_STAT_STATE 0, 2), (SYN.CAL_STAT_STATE 1, 2)] ++ l)).putT SYN.OUT_EN_PPS 15
  let s := s.putT SYN.OUT_EN_TOD 15
  { s with running := true, glb := { s.glb with mode := 2 } }

def up (l : List (Fld × Nat)) : State := withRegs ([(MAC.PORT_STATUS_LINK 1, 2), (MAC.PORT_CFG_RATE 1, 1), (MAC.PORT_CFG_MAX_FRAME 1, 1518)] ++ l)
def upm (m : Nat) (l : List (Fld × Nat)) : State := { up l with glb := { mode := m } }
def eth (d : List Byte) (t : Nat) (b : List Byte) : List Byte := let f := d ++ beBytes 6 0x0202030405 ++ beBytes 2 t ++ b; f ++ List.replicate (60 - f.length) 0
def ucast : List Byte := List.replicate 6 0
def syncMsg (type : Nat) (n : Nat) (tail : List Byte) : List Byte := beBytes 1 type ++ beBytes 1 0x12 ++ beBytes 2 n ++ List.replicate 16 0 ++ beBytes 10 77 ++ beBytes 2 9 ++ beBytes 2 0 ++ tail
def pauseB (n : Nat) : List Byte := eth (List.replicate 6 1) 0x8808 (beBytes 2 1 ++ beBytes 2 n)
def rxd (s : State) (r : RxFrame) : State := { s with mac := { s.mac with ports := setNth s.mac.ports 1 { rx := [r] } } }

def fr (rule : Nat) (b : List Byte) : RxFrame := ⟨rule, b, 65536000, false⟩
def ptpB (type : Nat) (tail : List Byte) : List Byte :=
  let m := beBytes 1 type ++ beBytes 1 0x12 ++ beBytes 2 (34 + tail.length) ++ List.replicate 4 0 ++ beBytes 8 0 ++ List.replicate 4 0 ++ beBytes 10 77 ++ beBytes 2 9 ++ beBytes 2 0 ++ tail
  eth ucast 0x88F7 m
def rec0 : Client := { valid := true, transport := 0, port := 1, mac := beBytes 6 0x0202030405, portId := beBytes 10 77, dresp := { log := 1, exp := 100000 } }
def serve (l : List (Fld × Nat)) (r : RxFrame) : State := rxd (upm 2 l) r
/-- a record in the table and the index -/
def recd (s : State) (n : Nat) (c : Client) : State :=
  let i := (s.index n c).2
  (i.setRec n c)
def served_ (l : List (Fld × Nat)) (r : RxFrame) : State := let s := recd (upm 2 l) 70 rec0; rxd { s with ptp := { s.ptp with byHost := [70] } } r
def sigT (tlv : List Byte) : List Byte := ptpB 0xC (List.replicate 10 0xFF ++ tlv)
def rxRing (l : List (Fld × Nat)) : List (Fld × Nat) := [(HIF.RING_CFG_ENABLE 6, 1), (HIF.RING_CFG_TYPE 6, 10), (HIF.RING_CFG_SIZE_LOG2 6, 8), (HIF.RING_STAT_RUNNING 6, 1), (HIF.RING_CFG_PORT_MASK 6, 2), (HIF.RING_CFG_PAIR 6, 5),
  (HIF.RING_CFG_ENABLE 5, 1), (HIF.RING_CFG_TYPE 5, 9), (HIF.RING_CFG_SIZE_LOG2 5, 8), (HIF.RING_STAT_RUNNING 5, 1), (HIF.HIF_STATUS_PF0_BME, 1)] ++ l
def bufd (s : State) : State := { s with hif := { s.hif with rxBufs := setNth s.hif.rxBufs 5 [⟨4096, 2048, 9⟩] } }
def udp4 (src dst : List Byte) (sp dp : Nat) (b : List Byte) : List Byte :=
  eth ucast 0x0800 ([0x45, 0] ++ beBytes 2 (28 + b.length) ++ [0,0,0,0,64,17,0,0] ++ src ++ dst ++ beBytes 2 sp ++ beBytes 2 dp ++ beBytes 2 (8 + b.length) ++ [0,0] ++ b)
def ta : List (Fld × Nat) := [(MAC.TA_EN_V4 1, 1), (MAC.TA_V4 1 0, 0x0A000002), (MAC.TA_EN_V6 1, 1), (MAC.TA_V6 1 0 0, 5)]
def nsB (src : List Byte) : List Byte := eth ucast 0x86DD ([0x60,0,0,0] ++ beBytes 2 24 ++ [58, 255] ++ src ++ List.replicate 16 1 ++ ([135,0,0,0,0,0,0,0] ++ (beBytes 4 5 ++ List.replicate 12 0)))
def arpReq : List Byte := eth (List.replicate 6 0xFF) 0x0806 (beBytes 8 0x0001080006040001 ++ beBytes 6 0x0202030405 ++ [10,0,0,9] ++ List.replicate 6 0 ++ [10,0,0,2])
def esmcB (ql : Nat) : List Byte := eth (beBytes 6 0x0180C2000002) 0x8809 ([0x0A, 0, 0x19, 0xA7, 0, 1, 0x10, 0, 0, 0, 1, 0, 4] ++ beBytes 1 ql ++ List.replicate 30 0)
def txin : TxIn := ⟨5, 3, 1, 1, 2, 0, 0, 0, 77, List.replicate 60 8, true⟩
def txRing (l : List (Fld × Nat)) : State := up ([(HIF.RING_CFG_ENABLE 5, 1), (HIF.RING_CFG_TYPE 5, 8), (HIF.RING_CFG_SIZE_LOG2 5, 8), (HIF.RING_STAT_RUNNING 5, 1), (HIF.RING_CFG_PORT_MASK 5, 2), (HIF.HIF_STATUS_PF0_BME, 1)] ++ l)

/-- boundary with upstream port 1 over Ethernet, master 2 at the frame source -/
def upst (l : List (Fld × Nat)) (u : UpSt) (r : RxFrame) : State :=
  let s := upm 3 ([(PTP.UP_CFG_EN, 1), (PTP.UP_CFG_PORT, 1), (PTP.UP_CFG_TRANSPORT, 0), (PTP.UP_MCFG_EN 2, 1), (PTP.UP_ADDR 2 0, 0x00020203), (PTP.UP_ADDR 2 1, 0x04050000)] ++ l)
  rxd { s with ptp := { s.ptp with up := u } } r
def upst0 (l : List (Fld × Nat)) (u : UpSt) : State :=
  let s := upm 3 ([(PTP.UP_CFG_EN, 1), (PTP.UP_CFG_PORT, 1), (PTP.UP_CFG_TRANSPORT, 0), (PTP.UP_MCFG_EN 2, 1), (PTP.UP_ADDR 2 0, 0x00020203), (PTP.UP_ADDR 2 1, 0x04050000)] ++ l)
  { s with ptp := { s.ptp with up := u } }
def annB : List Byte := ptpB 0xB (List.replicate 13 0 ++ [1, 6, 0x21, 0x4E, 0x5D, 2] ++ beBytes 8 99 ++ [0, 1, 0x20] ++ List.replicate 0 0)
def chosen2 : List (Fld × Nat) := [(PTP.PTP_STATUS_UP_MASTER, 2), (PTP.PTP_STATUS_UP_MASTER_VALID, 1)]
def ann0 : UpAnn := ⟨1, 6, 0x21, 5, 2, 99, 1, 0x20, true, List.replicate 10 1, 0⟩
def follow (type : Nat) (flags : Nat) : List Byte :=
  let m := beBytes 1 type ++ beBytes 1 0x12 ++ beBytes 2 44 ++ List.replicate 2 0 ++ beBytes 2 flags ++ beBytes 8 0 ++ List.replicate 4 0 ++ beBytes 10 77 ++ beBytes 2 9 ++ beBytes 2 0 ++ List.replicate 10 0
  eth ucast 0x88F7 m
def resp (type : Nat) (pid : List Byte) : List Byte :=
  let m := beBytes 1 type ++ beBytes 1 0x12 ++ beBytes 2 54 ++ List.replicate 2 0 ++ beBytes 2 0 ++ beBytes 8 0 ++ List.replicate 4 0 ++ beBytes 10 77 ++ beBytes 2 9 ++ beBytes 2 0 ++ List.replicate 10 0 ++ pid
  eth ucast 0x88F7 m
def couchS (m : Nat) (l : List (Fld × Nat)) (c : CouchSt) : State :=
  { withRegs ((COUCH.PAIR_CFG_EN, 1) :: (COUCH.PAIR_STATUS_REF_BAD, 0) :: l) with glb := { mode := m }, couch := c }
def hello (h : CouchHead) : List Byte := h.bytes ++ leBytes 8 4242 ++ leBytes 8 0
def ret (h : CouchHead) : List Byte := h.bytes ++ List.replicate 8 0 ++ leBytes 4 7 ++ leBytes 4 8 ++ List.replicate 16 0
def fwdB (h : CouchHead) : List Byte := h.bytes ++ (({ cfg := 5, key := 6 } : Timing)).bytes ++ (CouchEntry.mk 4 0 (List.replicate 32 0)).bytes ++ (CouchEntry.mk 5 0 (List.replicate 128 0)).bytes ++ (CouchEntry.mk 7 0 []).bytes

def sized (s : State) : State := { s with siz := { user := [⟨4, 1, 0, List.replicate 40 0⟩, ⟨0x101, 1, 0, List.replicate 24 0⟩] } }

/-- A state whose next sheet edge is far away. -/
def far (s : State) : State := { s with time := { s.time with next := 10 ^ 16 } }

/-! ### The well-formedness check refuses each ill-formed operand -/

theorem test_refuses_operands_1 : ([
    .deckleNop 4096, .deckleSendPtp 4096, .deckleReplySlot 4096, .deckleGate 4096, .deckleStrobe 4096, .deckleNcoHop 4096 [], .deckleMark 4096,
    .nop { ring := 64 }, .modeSet { ring := 64 } 0, .modeSet {} (2 ^ 8), .statusClear { ring := 64 } 0 0, .statusClear {} (2 ^ 32) 0,
    .statusClear {} 0 (2 ^ 32), .restoreFactorySizing { ring := 64 } 0, .restoreFactorySizing {} (2 ^ 32), .bistRun { ring := 64 } 0 0,
    .bistRun {} (2 ^ 8) 0, .bistRun {} 0 (2 ^ 16), .sparePromote { ring := 64 } 0 0, .sparePromote {} (2 ^ 8) 0, .sparePromote {} 0 (2 ^ 16),
    .mouldLoad { ring := 64 } 0 0 0, .mouldLoad {} (2 ^ 8) 0 0, .mouldLoad {} 0 (2 ^ 64) 0, .mouldLoad {} 0 0 (2 ^ 32), .mouldLoadDone 2 {},
    .mouldActivate { ring := 64 } 0 0, .mouldActivate {} (2 ^ 8) 0, .mouldActivate {} 0 (2 ^ 64), .mouldCancel { ring := 64 },
    .timeSet { ring := 64 } 0, .timeSet {} (2 ^ 96), .timeStep { ring := 64 } 0 false, .timeStep {} (-2 ^ 63 - 1) false,
    .timeSlew { ring := 64 } 0, .timeSlew {} (-2 ^ 63 - 1), .leapSchedule { ring := 64 } 0 0, .leapSchedule {} (2 ^ 64) 0,
    .leapSchedule {} 0 (2 ^ 8), .leapCancel { ring := 64 }, .strobeAt { ring := 64 } 0 0 0, .strobeAt {} (2 ^ 8) 0 0] : List Instr).all (fun i => !WellFormed i) = true := by decide +kernel

theorem test_refuses_operands_2 : ([
    .strobeAt {} 0 (2 ^ 64) 0, .strobeAt {} 0 0 (2 ^ 24), .strobePeriodic { ring := 64 } 0 0 0 0 0, .strobePeriodic {} (2 ^ 8) 0 0 0 0,
    .strobePeriodic {} 0 (2 ^ 24) 0 0 0, .strobePeriodic {} 0 0 (2 ^ 32) 0 0, .strobePeriodic {} 0 0 0 (2 ^ 64) 0,
    .strobePeriodic {} 0 0 0 0 (2 ^ 48), .strobeStop { ring := 64 } 0, .strobeStop {} (2 ^ 8), .strobeTarget 16, .measArm { ring := 64 } 0 0,
    .measArm {} (2 ^ 8) 0, .measArm {} 0 (2 ^ 64), .measDisarm { ring := 64 } 0, .measDisarm {} (2 ^ 8), .tdcSize { ring := 64 } 0,
    .tdcSize {} (2 ^ 64), .tdcSizeDone 48, .tdcTableRead { ring := 64 } 0 0, .tdcTableRead {} (2 ^ 8) 0, .tdcTableRead {} 0 (2 ^ 64),
    .tdcCdcRestart { ring := 64 } 0, .tdcCdcRestart {} (2 ^ 8), .acqStart { ring := 64 } acq, .acqAbort { ring := 64 } 0, .acqAbort {} (2 ^ 8),
    .acqResult 8 ⟨0, 0, 0, 0, 0⟩, .ephLoad { ring := 64 } 0 0 {}, .ephLoad {} (2 ^ 16) 0 {}, .ephLoad {} 0 (2 ^ 64) {},
    .almLoad { ring := 64 } 0 0 {}, .almLoad {} (2 ^ 16) 0 {}, .almLoad {} 0 (2 ^ 64) {}, .ephRead { ring := 64 } 0 0, .ephRead {} (2 ^ 8) 0,
    .ephRead {} 0 (2 ^ 64), .navReset { ring := 64 } 0, .navReset {} (2 ^ 8), .surveyStart { ring := 64 } 0 0, .surveyStart {} (2 ^ 32) 0,
    .surveyStart {} 0 (2 ^ 32)] : List Instr).all (fun i => !WellFormed i) = true := by decide +kernel

theorem test_refuses_operands_3 : ([
    .surveyStop { ring := 64 }, .posSet { ring := 64 } 0 0 0 0, .posSet {} (-2 ^ 63 - 1) 0 0 0, .posSet {} 0 (-2 ^ 63 - 1) 0 0,
    .posSet {} 0 0 (-2 ^ 63 - 1) 0, .posSet {} 0 0 0 (2 ^ 32), .gnssDelaySize { ring := 64 } 0 0, .gnssDelaySize {} (2 ^ 8) 0,
    .gnssDelaySize {} 0 (2 ^ 32), .refSelect { ring := 64 } 0, .refSelect {} (2 ^ 8), .wtrClear { ring := 64 } 0, .wtrClear {} (2 ^ 8),
    .holdHistoryClear { ring := 64 }, .holdHistoryRead { ring := 64 } 0, .holdHistoryRead {} (2 ^ 64), .atomRescan { ring := 64 },
    .calPhaseStep { ring := 64 } 0 0, .calPhaseStep {} (2 ^ 8) 0, .calPhaseStep {} 0 (-2 ^ 63 - 1), .portSize { ring := 64 } 0,
    .portSize {} (2 ^ 8), .portSizeDone 8 0, .portExtSet { ring := 64 } 0 0 0 0, .portExtSet {} (2 ^ 8) 0 0 0,
    .portExtSet {} 0 (-2 ^ 31 - 1) 0 0, .portExtSet {} 0 0 (-2 ^ 31 - 1) 0, .portExtSet {} 0 0 0 (2 ^ 32), .modRead { ring := 64 } 0 0 0 0 0,
    .modRead {} (2 ^ 8) 0 0 0 0, .modRead {} 0 (2 ^ 8) 0 0 0, .modRead {} 0 0 (2 ^ 8) 0 0, .modRead {} 0 0 0 (2 ^ 16) 0,
    .modRead {} 0 0 0 0 (2 ^ 64), .modWrite { ring := 64 } 0 0 0 [], .modWrite {} (2 ^ 8) 0 0 [], .modWrite {} 0 (2 ^ 8) 0 [],
    .modWrite {} 0 0 (2 ^ 8) [], .modWrite {} 0 0 0 (List.replicate 9 0), .modTransferDone 8 false [],
    .modTransferDone 0 false (List.replicate 257 0), .modRescan { ring := 64 } 0] : List Instr).all (fun i => !WellFormed i) = true := by decide +kernel

theorem test_refuses_operands_4 : ([
    .modRescan {} (2 ^ 8), .clientSet { ring := 64 } 0 0 {}, .clientSet {} (2 ^ 32) 0 {}, .clientSet {} 0 (2 ^ 64) {},
    .clientRead { ring := 64 } 0 0, .clientRead {} (2 ^ 32) 0, .clientRead {} 0 (2 ^ 64), .clientDel { ring := 64 } 0, .clientDel {} (2 ^ 32),
    .clientDelTimeout 1048576, .ntsRotate { ring := 64 } 0 0 0, .ntsRotate {} (2 ^ 8) 0 0, .ntsRotate {} 0 (2 ^ 8) 0, .ntsRotate {} 0 0 (2 ^ 32),
    .ntsRetire { ring := 64 } 0, .ntsRetire {} (2 ^ 8), .mintCookie { ring := 64 } 0 false 0 0 {}, .mintCookie {} (2 ^ 8) false 0 0 {},
    .mintCookie {} 0 false (2 ^ 64) 0 {}, .mintCookie {} 0 false 0 (2 ^ 64) {}, .keyDerive { ring := 64 } dargs, .keyInvalidate { ring := 64 } 0,
    .keyInvalidate {} (2 ^ 8), .keyInfo { ring := 64 } 0 0 0, .keyInfo {} (2 ^ 8) 0 0, .keyInfo {} 0 (2 ^ 16) 0, .keyInfo {} 0 0 (2 ^ 64),
    .keyTamperClear { ring := 64 }, .pairSwitchover { ring := 64 } 0, .pairSwitchover {} (2 ^ 16), .pairPromote { ring := 64 } 0,
    .pairPromote {} (2 ^ 8), .pairResync { ring := 64 }, .unknownOpcode { ring := 64 } 0, .unknownOpcode {} (2 ^ 16),
    .glbUnlockWrite .pf0 (2 ^ 32), .registerWrite .pf0 4194304 0, .registerWrite .pf0 2 0, .registerWrite .pf0 0 (2 ^ 32),
    .posWrite .pf0 (2 ^ 32) 0, .posWrite .pf0 0 (2 ^ 32), .keyStageWrite .pf0 (2 ^ 32) 0] : List Instr).all (fun i => !WellFormed i) = true := by decide +kernel

theorem test_refuses_operands_5 : ([
    .keyStageWrite .pf0 0 (2 ^ 32), .keyCommit .pf0 (2 ^ 32), .calApply .pf0 4 0, .calApply .pf0 0 (2 ^ 32), .outDivHiWrite .pf0 16 0,
    .outDivHiWrite .pf0 0 (2 ^ 32), .holdSteerCfgWrite .pf0 (2 ^ 32) 0, .holdSteerCfgWrite .pf0 0 (2 ^ 32), .holdTempWrite .pf0 (2 ^ 32),
    .chCfgWrite .pf0 48 false 0, .chCfgWrite .pf0 0 false (2 ^ 32), .windowDisarmWrite .pf0 64 0, .windowDisarmWrite .pf0 0 (2 ^ 32),
    .refEnable .pf0 16 0, .refEnable .pf0 0 (2 ^ 32), .refDisable .pf0 16 0, .refDisable .pf0 0 (2 ^ 32), .gnssChEnable .pf0 136 0,
    .gnssChEnable .pf0 0 (2 ^ 32), .gnssChDisable .pf0 136 0, .gnssChDisable .pf0 0 (2 ^ 32), .portCfgWrite .pf0 8 0,
    .portCfgWrite .pf0 0 (2 ^ 32), .modTxdisWrite .pf0 8 0, .modTxdisWrite .pf0 0 (2 ^ 32), .taEnWrite .pf0 8 0, .taEnWrite .pf0 0 (2 ^ 32),
    .ringEnable .pf0 64 0 {}, .ringEnable .pf0 0 (2 ^ 32) {}, .ringDisable .pf0 64 0, .ringDisable .pf0 0 (2 ^ 32), .doorbellWrite 2 0 0 {} [],
    .doorbellWrite 0 64 0 {} [], .doorbellWrite 0 0 (2 ^ 32) {} [], .vecClaim 65, .vecComplete .pf0 65 0, .vecComplete .pf0 0 (2 ^ 32),
    .msixUnmask 64, .srcForce .pf0 512 0, .srcForce .pf0 0 (2 ^ 32), .fltAck .pf0 4 0, .fltAck .pf0 0 (2 ^ 32)] : List Instr).all (fun i => !WellFormed i) = true := by decide +kernel

theorem test_refuses_operands_6 : ([
    .fltEscClear .pf0 (2 ^ 32), .fltForceAct .pf0 4 0, .fltForceAct .pf0 0 (2 ^ 32), .fltForceWire .pf0 4 0, .fltForceWire .pf0 0 (2 ^ 32),
    .glbCntClear .pf0 (2 ^ 32), .reamPop .pf0 (2 ^ 32), .sizLoad .pf0 (2 ^ 32), .sizRead .pf0 (2 ^ 32), .mbGo (2 ^ 32),
    .mspiTransfer (2 ^ 8) 0 [] false, .mspiTransfer 0 (2 ^ 24) [] false, .mspiTransfer 0 0 [2 ^ 32] false, .pcieFlr 2, .calenderUnlock 4,
    .outputRelease 16, .ppsPulse 4, .todFrameStart 4, .tamperTrigger {} (2 ^ 48), .kaLatchEdge 16 0, .kaLatchTransfer 16, .modPrsChange 8 false,
    .moduleReadDone 8 false [], .portLinkUp 8, .portLinkDown 8, .frameRx 8 [] false 0, .frameRx 0 (List.replicate 9729 0) false 0, .pauseRx 8,
    .pauseExpire 8, .pauseStorm 8, .pauseHoldoffEnd 8, .delayReqRx 8, .pdelayReqRx 8, .signalingRx 8, .managementRx 8, .upstreamAnnounceRx 8,
    .upstreamSyncRx 8, .upstreamDelayRespRx 8, .upstreamDelayReqTx 4, .upstreamGrantRenew 4 0, .upstreamCandidateTimeout 4, .ntpRequestRx 8] : List Instr).all (fun i => !WellFormed i) = true := by decide +kernel

theorem test_refuses_operands_7 : ([
    .arpRx 8, .ndRx 8, .esmcPduRx 8, .esmcQlTimeout 16, .esmcTxSecond 8, .esmcEventPduTx 8, .lldpRx 8, .hostFrameRx 8, .rxStallTimeout 64,
    .unschedFrameStart 8 0, .lpiEnter 8, .lpiWake 8, .tdcEdge 48 .pin false 0 0 false none none false,
    .tdcEdge 0 .pin false 0 0 false (some 192) none false, .tdcEdge 0 .pin false 0 0 false none (some 192) false, .windowArm 64, .windowClose 64,
    .dllSearchDone 48 false 0, .dllLock 48 false 0, .dllUnlock 48 false, .dllTrackTimeout 48 false false, .tdcDllFault 48 false,
    .cdcTableCompute 48, .correlatorDump 136 {}, .pullInTimeout 136, .steerTimeout 136, .navUnitDecoded 136 0 [] .other, .slotMeasurement 16,
    .todInMessage 2 0 [], .slotTimerExpire 16, .ntsGenAgeExpire 4, .ageingVisit 1048576, .wearMeasure (List.replicate 129 0),
    .faultWireBreak 128 false, .calenderLock 4, .ringTimeUsExpire 64, .postedWriteApplied 4194304, .postedWriteApplied 2] : List Instr).all (fun i => !WellFormed i) = true := by decide +kernel

/-- Each field of the arguments of a search. -/
theorem test_refuses_search_arguments : ([{ acq with signal := 256 }, { acq with sv := 256 }, { acq with k := 128 }, { acq with channel := 256 },
    { acq with doppler := 2 ^ 31 }, { acq with span := 65536 }, { acq with step := 65536 }, { acq with coh := 256 }, { acq with noncoh := 256 },
    { acq with thresh := 65536 }, { acq with tag := 65536 }] : List AcqArgs).all (fun a => !WellFormed (.acqStart {} a) && !WellFormed (.autoAllocation a)) =
    true := by decide +kernel

/-- Each field of the argument block of KEY_DERIVE. -/
theorem test_refuses_derive_arguments : ([{ dargs with parent := 256 }, { dargs with child := 256 }, { dargs with alg := 256 }, { dargs with spp := 256 },
    { dargs with keyId := 2 ^ 32 }, { dargs with uses := 2 ^ 48 }, { dargs with label := List.replicate 17 0 },
    { dargs with context := List.replicate 17 0 }] : List DeriveArgs).all (fun a => !WellFormed (.keyDerive {} a)) = true := by decide +kernel

/-- Each field of a command's header. -/
theorem test_refuses_headers : ([{ ring := 64 }, { index := 65536 }, { tag := 65536 }, { origin := .auto }] : List Hdr).all
    (fun h => !WellFormed (.nop h)) = true := by decide +kernel

/-- What a page scrub found: a corrected word, a corrected bit and a bad word outside the page. -/
theorem test_refuses_page_findings : ([{ fixed := [(512, 0)] }, { fixed := [(0, 72)] }, { bad := [512] }] : List PageFind).all
    (fun f => !WellFormed (.scrubPage f)) = true := by decide +kernel

/-- Operands at the end of their ranges are accepted. -/
theorem test_accepts_boundaries : ([.timeSet {} (2 ^ 96 - 1), .timeStep {} (-2 ^ 63) true, .timeStep {} (2 ^ 63 - 1) false, .strobeTarget 15,
    .deckleMark 4095, .nop { ring := 63, index := 65535, tag := 65535, origin := .mspi }, .registerWrite .mspi 0x3FFFFC (2 ^ 32 - 1),
    .ageingVisit 1048575, .tdcEdge 47 (.pps 3) true 0 0 false (some 191) (some 0) true, .acqStart {} acq, .keyDerive {} dargs,
    .scrubPage { fixed := [(511, 71)], bad := [511] }, .frameRx 7 (List.replicate 9728 0) true 0] : List Instr).all WellFormed = true := by decide +kernel


/-- Sources of edges that the engine does not have; BIST of a delay line, pins and rails beyond those there are. -/
theorem test_refuses_units : ([.tdcEdge 0 (.syncE 8) false 0 0 false none none false, .tdcEdge 0 (.strobe 16) false 0 0 false none none false,
    .tdcEdge 0 (.output 16) false 0 0 false none none false, .tdcEdge 0 (.pps 4) false 0 0 false none none false, .bistDone [] [(96, 160, true)],
    .tamperTrigger {} 0, .supply [800] 0] : List Instr).all (fun i => !WellFormed i) = true := by decide +kernel

/-! ### States that meet the hypotheses of the statements -/

/-- An engine whose queue holds a command. -/
def pushed : State := { ready with pending := [.heldSheetsEnd] }

/-- An engine held in reset. -/
def resetting : State := { ready with inReset := true }

theorem reset_shows : State.reset.Shows where
  clocks := by unfold State.muted; decide +kernel
  driven := by unfold State.muted; decide +kernel
  pps := by unfold State.muted; decide +kernel
  noSource := by decide +kernel
  ptp := by decide +kernel
  nts := by decide +kernel
  sizing := by decide +kernel
  faultN := by decide +kernel
  active := by decide +kernel
  timer := by decide +kernel

/-- The hypotheses of Obligations.TimeCommandsComplete are met. -/
theorem test_time_commands_complete :
    (∃ (s : State) (h : Hdr) (wide : Nat),
      s.Accepts h false 0 ∧
      s.mode = 0 ∧
      wide / 65536 % 2 ^ 32 < 1000000000 ∧
      wide < 2 ^ 96) ∧
    (∃ (s : State) (h : Hdr) (offset : Int) (grant : Bool),
      s.Accepts h false 0 ∧
      offset.natAbs ≤ halfWrap ∧
      (grant = true ∨ s.mode = 0)) ∧
    (∃ (s : State) (h : Hdr) (offset : Int),
      s.Accepts h false 0 ∧
      offset.natAbs ≤ halfWrap ∧
      (s.get REFSEL.REFSEL_STATUS_CLOCK_STATE = 0 ∨ s.get REFSEL.REFSEL_STATUS_CLOCK_STATE = 3)) ∧
    (∃ (s : State) (h : Hdr) (target dir : Nat),
      s.Accepts h false 0 ∧
      dir ≤ 1 ∧
      s.targetOk (s.targetUnits target) = true ∧
      s.targetUnits target % 65536000000000 = 0 ∧
      (s.isLate (s.targetUnits target) = false ∨ s.latePol h SHEET.SHEET_CFG_LEAP_LATE_POL = false)) ∧
    (∃ (s : State) (h : Hdr),
      s.Accepts h false 0) :=
  ⟨⟨ready, {}, 65536,
    accepts_of (by decide +kernel), by decide +kernel, by decide +kernel, by decide +kernel⟩,
   ⟨ready, {}, 5, true,
    accepts_of (by decide +kernel), by decide +kernel, by decide +kernel⟩,
   ⟨ready, {}, 5,
    accepts_of (by decide +kernel), by decide +kernel, by decide +kernel⟩,
   ⟨ready, {}, 65536000000000, 1,
    accepts_of (by decide +kernel), by decide +kernel, by decide +kernel, by decide +kernel, by decide +kernel⟩,
   ⟨ready, {},
    accepts_of (by decide +kernel)⟩⟩

/-- The hypotheses of Obligations.StrobeCommandsComplete are met. -/
theorem test_strobe_commands_complete :
    (∃ (s : State) (h : Hdr) (strobe target width : Nat),
      s.Accepts h false 120 ∧
      strobe ≤ 15 ∧
      0 < width ∧
      width < 2 ^ 24 ∧
      s.targetOk (s.targetUnits target) = true ∧
      (s.isLate (s.targetUnits target) = false ∨ s.latePol h SHEET.SHEET_CFG_STROBE_LATE_POL = false)) ∧
    (∃ (s : State) (h : Hdr) (strobe width count first period : Nat),
      s.Accepts h false 120 ∧
      strobe ≤ 15 ∧
      0 < width ∧
      width < 2 ^ 24 ∧
      6553600 ≤ period ∧
      period < 2 ^ 48 ∧
      width * 524288 < 5 * period ∧
      s.targetOk (s.targetUnits first) = true ∧
      (nth s.time.series strobe none).isSome = false) ∧
    (∃ (s : State) (h : Hdr) (strobe : Nat),
      s.Accepts h false 120 ∧
      strobe ≤ 15) ∧
    (∃ (s : State) (h : Hdr) (cal : Nat) (step : Int),
      s.Accepts h false 120 ∧
      cal ≤ 3 ∧
      step.natAbs ≤ 2 ^ 31 - 1) :=
  ⟨⟨ready, {}, 3, 131072, 10,
    accepts_of (by decide +kernel), by decide +kernel, by decide +kernel, by decide +kernel, by decide +kernel, by decide +kernel⟩,
   ⟨ready, {}, 3, 10, 7, 131072, 6553600,
    accepts_of (by decide +kernel), by decide +kernel, by decide +kernel, by decide +kernel, by decide +kernel, by decide +kernel, by decide +kernel, by decide +kernel, by decide +kernel⟩,
   ⟨ready, {}, 3,
    accepts_of (by decide +kernel), by decide +kernel⟩,
   ⟨ready, {}, 2, (-7),
    accepts_of (by decide +kernel), by decide +kernel, by decide +kernel⟩⟩

/-- The hypotheses of Obligations.MouldCommandsComplete are met. -/
theorem test_mould_commands_complete :
    (∃ (s : State) (h : Hdr) (buf addr len : Nat),
      s.Accepts h false 0 ∧
      buf ≤ 1 ∧
      (h.origin = .mspi → addr + len ≤ 0xC00) ∧
      s.mode ≠ 5 ∧
      s.get (stateFld buf) ≠ 1 ∧
      s.get (stateFld buf) ≠ 3 ∧
      (s.flag SHEET.SHEET_STATUS_PENDING = true → s.get SHEET.SHEET_STATUS_PEND_BUF ≠ buf)) ∧
    (∃ (s : State) (h : Hdr) (buf sheet : Nat),
      s.Accepts h false 0 ∧
      buf ≤ 1 ∧
      s.mode ≠ 5 ∧
      s.flag SHEET.SHEET_STATUS_PENDING = false ∧
      s.get (stateFld buf) = 2 ∧
      sheet ≤ s.sheetNo + 1125899906 ∧
      (s.sheetNo < sheet ∨ s.latePol h SHEET.SHEET_CFG_MOULD_LATE_POL = false)) ∧
    (∃ (s : State) (h : Hdr),
      s.Accepts h false 0 ∧
      s.mode ≠ 5 ∧
      s.flag SHEET.SHEET_STATUS_PENDING = true) :=
  ⟨⟨ready, {}, 1, 0, 64,
    accepts_of (by decide +kernel), by decide +kernel, by decide +kernel, by decide +kernel, by decide +kernel, by decide +kernel, by decide +kernel⟩,
   ⟨(withRegs [(stateFld 1, 2)]), {}, 1, 9,
    accepts_of (by decide +kernel), by decide +kernel, by decide +kernel, by decide +kernel, by decide +kernel, by decide +kernel, by decide +kernel⟩,
   ⟨(withRegs [(SHEET.SHEET_STATUS_PENDING, 1)]), {},
    accepts_of (by decide +kernel), by decide +kernel, by decide +kernel⟩⟩

/-- The hypotheses of Obligations.HostCommandsComplete are met. -/
theorem test_host_commands_complete :
    (∃ (s : State) (h : Hdr),
      s.Accepts h true 0) ∧
    (∃ (s : State) (h : Hdr) (m : Nat),
      s.Accepts h false 0 ∧
      m ≤ 5 ∧
      s.glb.pendMode = none ∧
      s.mayEnter m = true) ∧
    (∃ (s : State) (h : Hdr) (a mask : Nat),
      s.Accepts h false 0 ∧
      a ∈ [0x14, 0x20, 0x2000C, 0x1C0000, 0x1F0000, 0x220000] ∧
      (mask % 2 ^ 32) &&& (stickyAt a).1 = mask % 2 ^ 32) ∧
    (∃ (s : State) (h : Hdr) (scope : Nat),
      s.Accepts h false 400 ∧
      scope ≤ 7 ∧
      s.mode ≤ 1 ∧
      s.sizingRuns = false) ∧
    (∃ (s : State) (h : Hdr) (op : Nat),
      s.Accepts h true 0) :=
  ⟨⟨ready, mspi,
    accepts_of (by decide +kernel)⟩,
   ⟨ready, {}, 1,
    accepts_of (by decide +kernel), by decide +kernel, by decide +kernel, by decide +kernel⟩,
   ⟨(withRegs [(GLB.GLB_STATUS_VOTE_FAIL, 1)]), {}, 0x14, 8,
    accepts_of (by decide +kernel), by decide +kernel, by decide +kernel⟩,
   ⟨ready, {}, 7,
    accepts_of (by decide +kernel), by decide +kernel, by decide +kernel, by decide +kernel⟩,
   ⟨ready, mspi, 0x77,
    accepts_of (by decide +kernel)⟩⟩

/-- The hypotheses of Obligations.SpareCommandsComplete are met. -/
theorem test_spare_commands_complete :
    (∃ (s : State) (h : Hdr) (target index : Nat),
      s.Accepts h false 0 ∧
      s.mode = 0 ∧
      target ≤ 3 ∧
      (index = 0xFFFF ∨ index < targetUnits target) ∧
      s.spare.bist = none) ∧
    (∃ (s : State) (fails : List (Nat × Nat × Nat)) (lines : List (Nat × Nat × Bool)) (r : BistRun),
      s.inReset = false ∧
      s.spare.bist = some r ∧
      (s.charge 4 (bistStock r)).isSome = true) ∧
    (∃ (s : State) (h : Hdr) (target index : Nat),
      s.Accepts h false 0 ∧
      s.mode = 0 ∧
      target ≤ 3 ∧
      index < targetUnits target ∧
      (s.spare.retired.contains (target, unitKey target index (if target = 0 then s.get (VAT.BANK_HARD_BANK_LASTCOL index) else 0)) = false) ∧
      s.vatc.repair = none ∧
      s.spareFor target index = true) ∧
    (∃ (s : State) (ppm : List Int),
      s.inReset = false ∧
      s.spare.wearAt ≠ some (s.units / 67108864000000) ∧
      (s.charge 4 2560).isSome = true) ∧
    (∃ s : State,
      s.inReset = false ∧
      s.flag SPARE.SPARE_CFG_AUTO = true ∧
      s.mode = 0 ∧
      s.spare.pass = false ∧
      (s.spare.passAt.all (fun u => s.reaches (u + 64 * 65536000000000)) = true)) ∧
    (∃ (s : State) (r : Repair),
      s.inReset = false ∧
      s.vatc.repair = some r ∧
      bankWords ≤ r.words ∧
      r.bank < 64 ∧
      r.spare < 4) ∧
    (∃ (s : State) (f : PageFind),
      s.inReset = false ∧
      s.flag VAT.SCRUB_CFG_EN = true ∧
      s.vatc.scrubbed < s.get VAT.SCRUB_CFG_PAGES ∧
      (s.charge 4 200).isSome = true) :=
  ⟨⟨ready, {}, 3, 0xFFFF,
    accepts_of (by decide +kernel), by decide +kernel, by decide +kernel, by decide +kernel, by decide +kernel⟩,
   ⟨bisting, [(2, 5, 0), (1, 1, 1)], [], ⟨some {}, [(2, 5)], 0⟩,
    by decide +kernel, by decide +kernel, by decide +kernel⟩,
   ⟨(withRegs [(SPARE.SPARE_LEFT_VAT, 5)]), {}, 0, 3,
    accepts_of (by decide +kernel), by decide +kernel, by decide +kernel, by decide +kernel, by decide +kernel, by decide +kernel, by decide +kernel⟩,
   ⟨ready, [70000, 3],
    by decide +kernel, by decide +kernel, by decide +kernel⟩,
   ⟨(withRegs [(SPARE.SPARE_CFG_AUTO, 1), (SPARE.WEAR_DUE 80, 1), (SPARE.WEAR_DUE 90, 1)]),
    by decide +kernel, by decide +kernel, by decide +kernel, by decide +kernel, by decide +kernel⟩,
   ⟨repairing, ⟨3, 1, 77, 262144, .auto⟩,
    by decide +kernel, by decide +kernel, by decide +kernel, by decide +kernel, by decide +kernel⟩,
   ⟨ready, ⟨[(3, 4)], [], false⟩,
    by decide +kernel, by decide +kernel, by decide +kernel, by decide +kernel⟩⟩

/-- The hypotheses of Obligations.MeasurementCommandsComplete are met. -/
theorem test_measurement_commands_complete :
    (∃ (s : State) (h : Hdr) (m : Nat),
      s.Accepts h false 0 ∧
      m ≤ 63 ∧
      s.get (TDC.WIN_CFG_ARM m) = 1 ∧
      (s.win m).isOpen = false ∧
      (s.win m).pend = none) ∧
    (∃ (s : State) (h : Hdr) (m target : Nat),
      s.Accepts h false 0 ∧
      m ≤ 63 ∧
      s.get (TDC.WIN_CFG_ARM m) = 1 ∧
      (s.win m).isOpen = false ∧
      (s.win m).pend = none ∧
      target ≠ 0 ∧
      s.targetOk (s.targetUnits target) = true ∧
      (s.isLate (s.targetUnits target) = false ∨ (h.polGiven && h.latePol) = false)) ∧
    (∃ (s : State) (h : Hdr) (m : Nat),
      s.Accepts h false 0 ∧
      m ≤ 63) ∧
    (∃ (s : State) (h : Hdr) (mask : Nat),
      s.Accepts h false 0 ∧
      s.mode = 1 ∧
      s.tdc.sizing = none) ∧
    (∃ (s : State) (n : Nat) (z : TdcSizing),
      s.inReset = false ∧
      s.tdc.sizing = some z ∧
      n < 48 ∧
      n ∈ z.left ∧
      histTotal (s.ch n).histE = sizeCounts ∧
      histTotal (s.ch n).histF = sizeCounts ∧
      (s.charge 4 3000).isSome = true) ∧
    (∃ (s : State) (h : Hdr) (n addr : Nat),
      (s.Accepts h true (if classA n then 88 else 104)) ∧
      n ≤ 47 ∧
      s.flag (TDC.CH_CFG_ENABLE n) = true ∧
      h.origin ≠ .mspi ∧
      h.dmaOk = true ∧
      rangeOk h addr (s.tableBytes n).length = true) ∧
    (∃ (s : State) (h : Hdr) (n addr : Nat),
      (s.Accepts h true (if classA n then 88 else 104)) ∧
      n ≤ 47 ∧
      s.flag (TDC.CH_CFG_ENABLE n) = true ∧
      h.origin = .mspi ∧
      rangeOk h addr (s.tableBytes n).length = true) ∧
    (∃ (s : State) (h : Hdr) (n : Nat),
      s.Accepts h false 0 ∧
      32 ≤ n ∧
      n ≤ 47) ∧
    (∃ s : State,
      s.inReset = false ∧
      s.running = true) :=
  ⟨⟨(withRegs [(TDC.WIN_CFG_ARM 5, 1)]), {}, 5,
    accepts_of (by decide +kernel), by decide +kernel, by decide +kernel, by decide +kernel, by decide +kernel⟩,
   ⟨(withRegs [(TDC.WIN_CFG_ARM 5, 1)]), {}, 5, 131072,
    accepts_of (by decide +kernel), by decide +kernel, by decide +kernel, by decide +kernel, by decide +kernel, by decide +kernel, by decide +kernel, by decide +kernel⟩,
   ⟨(winState { isOpen := true } [(TDC.WIN_CFG_ARM 5, 1)]), {}, 5,
    accepts_of (by decide +kernel), by decide +kernel⟩,
   ⟨(inMode 1), {}, 5,
    accepts_of (by decide +kernel), by decide +kernel, by decide +kernel⟩,
   ⟨{ inMode 1 with tdc := { sizing := some ⟨{}, [3, 40]⟩, chans := setNth (List.replicate 48 {}) 3 { sizing := true, histE := [(2, 2^24)], histF := [(5, 2^23), (6, 2^23)] } } }, 3, ⟨{}, [3, 40]⟩,
    by decide +kernel, by decide +kernel, by decide +kernel, by decide +kernel, by decide +kernel, by decide +kernel, by decide +kernel⟩,
   ⟨(withRegs [(TDC.CH_CFG_ENABLE 33, 1)]), {}, 33, 4096,
    accepts_of (by decide +kernel), by decide +kernel, by decide +kernel, by decide +kernel, by decide +kernel, by decide +kernel⟩,
   ⟨(withRegs [(TDC.CH_CFG_ENABLE 33, 1)]), mspi, 33, 0,
    accepts_of (by decide +kernel), by decide +kernel, by decide +kernel, by decide +kernel, by decide +kernel⟩,
   ⟨(chState { histE := [(3, 4)] } 40 []), {}, 40,
    accepts_of (by decide +kernel), by decide +kernel, by decide +kernel⟩,
   ⟨{ ready with tdc := { closed := [({} : WinSt).record 3 0 0, ({ owner := 1 } : WinSt).record 4 0 0] } },
    by decide +kernel, by decide +kernel⟩⟩

/-- The hypotheses of Obligations.WindowEventsComplete are met. -/
theorem test_window_events_complete :
    (∃ (s : State) (n : Nat) (src : EdgeSrc) (falling : Bool) (gap tc : Nat) (second : Bool) (tE tF : Option Nat) (after : Bool),
      s.inReset = false ∧
      n < 48 ∧
      s.edgeReaches n src falling = false) ∧
    (∃ (s : State) (n : Nat) (src : EdgeSrc) (falling : Bool) (gap tc : Nat) (second : Bool) (tE tF : Option Nat) (after : Bool),
      s.inReset = false ∧
      n < 48 ∧
      s.edgeReaches n src falling = true ∧
      (s.ch n).skip ≠ 0) ∧
    (∃ (s : State) (n : Nat) (src : EdgeSrc) (falling : Bool) (gap tc : Nat) (second : Bool) (tE tF : Option Nat) (after : Bool),
      s.inReset = false ∧
      n < 48 ∧
      s.edgeReaches n src falling = true ∧
      (s.ch n).skip = 0 ∧
      ((s.ch n).passed = false ∨ 3200 ≤ gap) ∧
      (tE.isSome = true ∨ tF.isSome = true) ∧
      (s.charge 3 6).isSome = true) ∧
    (∃ (s : State) (n : Nat) (src : EdgeSrc) (falling : Bool) (gap tc : Nat) (second : Bool) (tE tF : Option Nat) (after : Bool),
      s.inReset = false ∧
      n < 48 ∧
      s.edgeReaches n src falling = true ∧
      (s.ch n).skip = 0 ∧
      ((s.ch n).passed = false ∨ 3200 ≤ gap) ∧
      tE = none ∧
      tF = none) ∧
    (∃ (s : State) (n : Nat) (src : EdgeSrc) (falling : Bool) (gap tc : Nat) (second : Bool) (tE tF : Option Nat) (after : Bool),
      s.inReset = false ∧
      n < 48 ∧
      s.edgeReaches n src falling = true ∧
      (s.ch n).skip = 0 ∧
      (s.ch n).passed = true ∧
      gap < 3200) ∧
    (∃ (s : State) (m u : Nat),
      s.inReset = false ∧
      m < 64 ∧
      ((s.get (TDC.WIN_CFG_ARM m) = 1 ∧ (s.win m).pend = some u ∧ u ≤ s.time.next) ∨ (s.get (TDC.WIN_CFG_ARM m) = 2 ∧ u = s.time.edge + tickUnits (s.get (TDC.WIN_OFF m)) ∧ (s.win m).armAt ≠ u) ∨ (s.get (TDC.WIN_CFG_ARM m) = 3 ∧ u = s.units ∧ (s.win m).isOpen = false) ∨ (s.get (TDC.WIN_CFG_ARM m) = 4 ∧ nth s.time.lead (s.get (TDC.WIN_CFG_STROBE m)) none = some u ∧ (s.win m).armAt ≠ u))) ∧
    (∃ (s : State) (m : Nat),
      s.inReset = false ∧
      m < 64 ∧
      (s.win m).isOpen = true ∧
      (s.win m).endAt ≤ s.time.next ∧
      s.get (TDC.WIN_CFG_ARM m) ≠ 3) ∧
    (∃ (s : State) (m : Nat),
      s.inReset = false ∧
      m < 64 ∧
      (s.win m).isOpen = true ∧
      (s.win m).endAt ≤ s.time.next ∧
      s.get (TDC.WIN_CFG_ARM m) = 3) :=
  ⟨⟨(chState {} 40 []), 40, .pin, false, 5000, 0, false, (some 3), none, false,
    by decide +kernel, by decide +kernel, by decide +kernel⟩,
   ⟨(chState { skip := 2 } 40 [(TDC.CH_CFG_ENABLE 40, 1)]), 40, .pin, false, 5000, 100, true, (some 3), none, false,
    by decide +kernel, by decide +kernel, by decide +kernel, by decide +kernel⟩,
   ⟨{ chState { skip := 0 } 4 [(TDC.CH_CFG_ENABLE 4, 1), (TDC.WIN_STOPA 5, 16), (TDC.WIN_CFG_ARM 5, 3)] with tdc := { chans := List.replicate 48 {}, wins := setNth (List.replicate 64 {}) 5 { isOpen := true, endAt := 10 ^ 20, mask := 16, closeCount := 1 } } }, 4, .pin, false, 5000, 1000000000, true, (some 3), none, false,
    by decide +kernel, by decide +kernel, by decide +kernel, by decide +kernel, by decide +kernel, by decide +kernel, by decide +kernel⟩,
   ⟨(chState { passed := true } 4 [(TDC.CH_CFG_ENABLE 4, 1), (TDC.CH_PRESC 4, 3)]), 4, .pin, false, 3200, 1000000000, true, none, none, true,
    by decide +kernel, by decide +kernel, by decide +kernel, by decide +kernel, by decide +kernel, by decide +kernel, by decide +kernel⟩,
   ⟨(chState { passed := true } 4 [(TDC.CH_CFG_ENABLE 4, 1), (TDC.CH_PRESC 4, 3)]), 4, .pin, false, 3199, 1000000000, true, (some 3), none, true,
    by decide +kernel, by decide +kernel, by decide +kernel, by decide +kernel, by decide +kernel, by decide +kernel⟩,
   ⟨(far <| winState { pend := some 7 } [(TDC.WIN_CFG_ARM 5, 1)]), 5, 7,
    by decide +kernel, by decide +kernel, by decide +kernel⟩,
   ⟨(winState { isOpen := true } [(TDC.WIN_CFG_ARM 5, 1)]), 5,
    by decide +kernel, by decide +kernel, by decide +kernel, by decide +kernel, by decide +kernel⟩,
   ⟨(winState { isOpen := true } [(TDC.WIN_CFG_ARM 5, 3)]), 5,
    by decide +kernel, by decide +kernel, by decide +kernel, by decide +kernel, by decide +kernel⟩⟩

/-- The hypotheses of Obligations.CalibrationEventsComplete are met. -/
theorem test_calibration_events_complete :
    (∃ (s : State) (n coarse : Nat) (line : Bool),
      s.inReset = false ∧
      n < 32 ∧
      (s.line n line).dll = 1) ∧
    (∃ (s : State) (n fine : Nat) (line : Bool),
      s.inReset = false ∧
      n < 32 ∧
      (s.line n line).dll = 2) ∧
    (∃ (s : State) (n : Nat) (line : Bool),
      s.inReset = false ∧
      n < 32 ∧
      (s.line n line).dll = 3) ∧
    (∃ (s : State) (n : Nat) (line fineEnd : Bool),
      s.inReset = false ∧
      n < 32 ∧
      (s.line n line).dll = 2) ∧
    (∃ (s : State) (n : Nat) (line : Bool),
      s.inReset = false ∧
      n < 32 ∧
      8 < (s.line n line).outSheets) ∧
    (∃ (s : State) (n : Nat),
      s.inReset = false ∧
      32 ≤ n ∧
      n ≤ 47 ∧
      2 ^ s.get TDC.TDC_CFG_CAL_TARGET_LOG2 ≤ histTotal (s.ch n).histE ∧
      2 ^ s.get TDC.TDC_CFG_CAL_TARGET_LOG2 ≤ histTotal (s.ch n).histF ∧
      (s.charge 4 3000).isSome = true) :=
  ⟨⟨(chState { lineE := { dll := 1 } } 7 []), 7, 2000, false,
    by decide +kernel, by decide +kernel, by decide +kernel⟩,
   ⟨(chState { lineF := { dll := 2 } } 7 []), 7, 2000, true,
    by decide +kernel, by decide +kernel, by decide +kernel⟩,
   ⟨(chState { lineF := { dll := 3 } } 7 []), 7, true,
    by decide +kernel, by decide +kernel, by decide +kernel⟩,
   ⟨(chState { lineF := { dll := 2 } } 7 []), 7, true, false,
    by decide +kernel, by decide +kernel, by decide +kernel⟩,
   ⟨(chState { lineF := { dll := 2, outSheets := 9 } } 7 []), 7, true,
    by decide +kernel, by decide +kernel, by decide +kernel⟩,
   ⟨(chState { histE := (List.range 160).map (fun i => (i, 1000)), histF := (List.range 160).map (fun i => (i, 1000)) } 40 [(TDC.TDC_CFG_CAL_TARGET_LOG2, 10)]), 40,
    by decide +kernel, by decide +kernel, by decide +kernel, by decide +kernel, by decide +kernel, by decide +kernel⟩⟩

/-- The hypotheses of Obligations.AcquisitionCommandsComplete are met. -/
theorem test_acquisition_commands_complete :
    (∃ (s : State) (h : Hdr) (a : AcqArgs) (i : Nat),
      s.Accepts h false 0 ∧
      s.acqArgsOk a = true ∧
      ((List.range (8 - s.autoSearches)).find? (fun i => (nth s.gnss.searches i none).isNone) = some i)) ∧
    (∃ (s : State) (h : Hdr) (i : Nat),
      s.Accepts h false 0 ∧
      (nth s.gnss.searches i none).isSome = true) ∧
    (∃ (s : State) (i : Nat) (a : AcqIn) (r : Search),
      s.inReset = false ∧
      nth s.gnss.searches i none = some r ∧
      r.left = 0 ∧
      -(8 * (r.span / r.step : Nat) : Int) ≤ a.eighths ∧
      a.eighths ≤ (8 * (r.span / r.step : Nat) : Int)) ∧
    (∃ (s : State) (a : AcqArgs) (i : Nat),
      s.inReset = false ∧
      s.flag GNSSF.ALLOC_CFG_AUTO = true ∧
      bitOf (s.get GNSSF.ALLOC_CFG_SIG_MASK) a.signal = true ∧
      s.acqArgsOk { a with channel := 255, tag := 0 } = true ∧
      s.visible (sigSystem a.signal) a.sv = true ∧
      s.satTaken a.signal a.sv = false ∧
      s.autoChans < s.get GNSSF.ALLOC_CFG_ALLOC_MAX ∧
      (((List.range 8).drop (8 - s.autoSearches)).find? (fun i => (nth s.gnss.searches i none).isNone) = some i)) :=
  ⟨⟨(withRegs [(GNSSF.PORT_CFG_A_EN, 1)]), {}, acq, 0,
    accepts_of (by decide +kernel), by decide +kernel, by decide +kernel⟩,
   ⟨(searching (Search.mk false 0 5 0 7 100 9 0 5000 500 false 0) []), {}, 2,
    accepts_of (by decide +kernel), by decide +kernel⟩,
   ⟨(searching (Search.mk false 0 5 0 7 100 9 0 5000 500 false 0) []), 2, ⟨4096, 77, 200, -5, 4000⟩, (Search.mk false 0 5 0 7 100 9 0 5000 500 false 0),
    by decide +kernel, by decide +kernel, by decide +kernel, by decide +kernel, by decide +kernel⟩,
   ⟨(withRegs [(GNSSF.PORT_CFG_A_EN, 1), (GNSSF.ALLOC_CFG_AUTO, 1), (GNSSF.ALLOC_CFG_SIG_MASK, 1), (GNSSF.ALLOC_CFG_ALLOC_MAX, 8), (GNSSF.ACQ_CFG, 3)]), acq, 5,
    by decide +kernel, by decide +kernel, by decide +kernel, by decide +kernel, by decide +kernel, by decide +kernel, by decide +kernel, by decide +kernel⟩⟩

/-- The hypotheses of Obligations.TrackingCommandsComplete are met. -/
theorem test_tracking_commands_complete :
    (∃ (s : State) (o : Origin) (n v : Nat),
      s.inReset = false ∧
      o ≠ .pf1 ∧
      n < 136 ∧
      s.glb.voteFailed = [] ∧
      s.flag (GNSSC.CH_CTRL_ENABLE n) = false ∧
      s.flag (GNSSC.CH_STAT_RETIRED n) = false ∧
      s.enabledChans + s.gnss.handoffs.length < 128) ∧
    (∃ (s : State) (o : Origin) (n v : Nat),
      s.inReset = false ∧
      o ≠ .pf1 ∧
      n < 136 ∧
      s.glb.voteFailed = []) ∧
    (∃ (s : State) (n : Nat),
      s.inReset = false ∧
      n < 136 ∧
      s.get (GNSSC.CH_STAT_STATE n) = 1 ∧
      s.reaches ((s.chan n).pullAt + (2 * secU : Nat)) = true) ∧
    (∃ (s : State),
      s.inReset = false) ∧
    (∃ (s : State) (n : Nat) (d : DumpIn),
      s.inReset = false ∧
      n < 136 ∧
      s.get (GNSSC.CH_STAT_STATE n) ≠ 0 ∧
      s.get (GNSSC.CH_STAT_STATE n) ≠ 4 ∧
      sigKnown (s.chSig n) = true ∧
      s.dumpPeriods n ≤ (s.chan n).since ∧
      (∀ m < 136, (s.chan m).steer = none)) ∧
    (∃ (s : State) (n : Nat),
      s.inReset = false ∧
      n < 136 ∧
      s.get (GNSSC.CH_STAT_STATE n) = 5 ∧
      s.get GNSSF.STEER_CFG ≤ (s.chan n).steerGap) :=
  ⟨⟨(withRegs [(GNSSC.CODE_RATE_INIT 9, 77)]), .pf0, 9, 1,
    by decide +kernel, by decide +kernel, by decide +kernel, by decide +kernel, by decide +kernel, by decide +kernel, by decide +kernel⟩,
   ⟨(withRegs [(GNSSC.CH_CTRL_ENABLE 9, 1), (GNSSC.CH_STAT_STATE 9, 3)]), .mspi, 9, 0,
    by decide +kernel, by decide +kernel, by decide +kernel, by decide +kernel⟩,
   ⟨{ withRegs [(GNSSC.CH_STAT_STATE 9, 1)] with gnss := { chans := setNth (List.replicate 136 {}) 9 { pullAt := -(2 * secU : Nat) } } }, 9,
    by decide +kernel, by decide +kernel, by decide +kernel, by decide +kernel⟩,
   ⟨(withRegs [(GNSSF.PORT_CFG_A_EN, 1), (GNSSC.CH_STAT_STATE 9, 3), (GNSSC.CH_CTRL_ENABLE 9, 1)]),
    by decide +kernel⟩,
   ⟨{ withRegs [(GNSSC.CH_STAT_STATE 9, 3), (GNSSC.CH_CTRL_ENABLE 9, 1)] with gnss := { chans := setNth (List.replicate 136 {}) 9 { since := 1 } } }, 9, { samples := [3, 5, 9], bitSync := true },
    by decide +kernel, by decide +kernel, by decide +kernel, by decide +kernel, by decide +kernel, by decide +kernel, by decide +kernel⟩,
   ⟨{ withRegs [(GNSSC.CH_STAT_STATE 9, 5), (GNSSC.CH_CTRL_STEER 9, 1)] with gnss := { chans := List.replicate 136 { steerGap := 200 } } }, 9,
    by decide +kernel, by decide +kernel, by decide +kernel, by decide +kernel⟩⟩

/-- The hypotheses of Obligations.NavigationDataCommandsComplete are met. -/
theorem test_navigation_data_commands_complete :
    (∃ (s : State) (h : Hdr) (count addr : Nat) (d : DmaIn),
      s.Accepts h false (count * 120 + dmaStock (256 * count)) ∧
      rangeOk h addr (256 * count) = true ∧
      (s.dataIn h addr (256 * count) d).isSome = true ∧
      s.vat.wf = true) ∧
    (∃ (s : State) (h : Hdr) (addr slot : Nat) (d : DmaIn) (b : List Byte),
      s.Accepts h false (120 + dmaStock 256) ∧
      rangeOk h addr 256 = true ∧
      s.dataIn h addr 256 d = some b ∧
      ephSlot (leAt b 0 1) (leAt b 1 1) = some slot ∧
      ephCrcOk b = true ∧
      s.vat.wf = true ∧
      s.vatMay 4 (ephAddr slot) 256 false = true ∧
      s.vatMay 11 (ephAddr slot) 256 true = true ∧
      s.vatMay 11 (ephAddr slot + 256) 256 true = true ∧
      s.vatc.poison = []) ∧
    (∃ (s : State) (h : Hdr) (count addr : Nat) (d : DmaIn) (b : List Byte),
      s.Accepts h false (count * 120 + dmaStock (64 * count)) ∧
      count ≤ 165 ∧
      rangeOk h addr (64 * count) = true ∧
      s.dataIn h addr (64 * count) d = some b ∧
      b.length = 64 * count ∧
      s.vat.wf = true ∧
      s.vatMay 11 (almAddr 0) (64 * count) true = true) ∧
    (∃ (s : State) (h : Hdr) (slot addr : Nat),
      s.Accepts h true (dmaStock 512) ∧
      slot ≤ 164 ∧
      s.vatMay 11 (ephAddr slot) 512 false = true ∧
      s.vatc.poison = [] ∧
      h.origin ≠ .mspi ∧
      h.dmaOk = true) ∧
    (∃ (s : State) (h : Hdr) (mask : Nat),
      s.Accepts h false 0 ∧
      s.mode ≤ 1 ∧
      s.vat.wf = true) ∧
    (∃ (s : State) (n ty : Nat) (raw : List Bool) (item : NavItem),
      s.inReset = false ∧
      n < 136 ∧
      s.flag (GNSSC.CH_CTRL_ENABLE n) = true ∧
      unitKnown (s.chSig n) (s.get (GNSSC.CH_SIG_SV n)) ty = true ∧
      (unitOk (s.chSig n) (if (s.chan n).invert then raw.map (!·) else raw) = false)) ∧
    (∃ (s : State) (n ty e : Nat) (raw : List Bool) (tx : Rat),
      s.inReset = false ∧
      n < 136 ∧
      s.flag (GNSSC.CH_CTRL_ENABLE n) = true ∧
      unitKnown (s.chSig n) (s.get (GNSSC.CH_SIG_SV n)) ty = true ∧
      (unitOk (s.chSig n) (if (s.chan n).invert then raw.map (!·) else raw) = true) ∧
      n < s.nav.align.length) ∧
    (∃ (s : State) (n ty : Nat) (raw : List Bool) (item : NavItem),
      s.inReset = false ∧
      n < 136 ∧
      s.flag (GNSSC.CH_CTRL_ENABLE n) = true ∧
      unitKnown (s.chSig n) (s.get (GNSSC.CH_SIG_SV n)) ty = true ∧
      (unitOk (s.chSig n) (if (s.chan n).invert then raw.map (!·) else raw) = true) ∧
      s.vat.wf = true ∧
      (∀ y ps, item = .offset y ps → y < 5)) :=
  ⟨⟨ready, {}, 1, 0, ⟨true, eph1⟩,
    accepts_of (by decide +kernel), by decide +kernel, by decide +kernel, by decide +kernel⟩,
   ⟨ready, {}, 0, 4, ⟨true, eph1⟩, ((ready.dataIn {} 0 256 ⟨true, eph1⟩).getD []),
    accepts_of (by decide +kernel), by decide +kernel, some_getD [] (by decide +kernel), by decide +kernel, by decide +kernel, by decide +kernel, by decide +kernel, by decide +kernel, by decide +kernel, by decide +kernel⟩,
   ⟨ready, {}, 2, 0, ⟨true, List.replicate 128 5⟩, (List.replicate 128 5),
    accepts_of (by decide +kernel), by decide +kernel, by decide +kernel, by decide +kernel, by decide +kernel, by decide +kernel, by decide +kernel⟩,
   ⟨{ ready with vat := Memory.writes [] (ephAddr 4) eph1 }, {}, 4, 0,
    accepts_of (by decide +kernel), by decide +kernel, by decide +kernel, by decide +kernel, by decide +kernel, by decide +kernel⟩,
   ⟨ready, {}, 3,
    accepts_of (by decide +kernel), by decide +kernel, by decide +kernel⟩,
   ⟨(withRegs [(GNSSC.CH_CTRL_ENABLE 7, 1), (GNSSC.CH_SIG_SIGNAL 7, 0), (GNSSC.CH_SIG_SV 7, 5)]), 7, 1, [true, false, true], .other,
    by decide +kernel, by decide +kernel, by decide +kernel, by decide +kernel, by decide +kernel⟩,
   ⟨{ withRegs [(GNSSC.CH_CTRL_ENABLE 7, 1), (GNSSC.CH_SIG_SIGNAL 7, 0), (GNSSC.CH_SIG_SV 7, 5)] with nav := { passes := List.replicate 136 1, align := List.replicate 136 none, sync := List.replicate 136 none } }, 7, 1, 5, (List.replicate 32 false), 3,
    by decide +kernel, by decide +kernel, by decide +kernel, by decide +kernel, by decide +kernel, by decide +kernel⟩,
   ⟨(withRegs [(GNSSC.CH_CTRL_ENABLE 7, 1), (GNSSC.CH_SIG_SIGNAL 7, 0), (GNSSC.CH_SIG_SV 7, 5)]), 7, 1, (List.replicate 32 false), (.eph 5 9 0 1 6 (List.replicate 240 3)),
    by decide +kernel, by decide +kernel, by decide +kernel, by decide +kernel, by decide +kernel, by decide +kernel, by rintro y ps ⟨⟩⟩⟩

/-- The hypotheses of Obligations.PositionCommandsComplete are met. -/
theorem test_position_commands_complete :
    (∃ (s : State) (h : Hdr) (dur target : Nat),
      s.Accepts h false 0 ∧
      s.mode ≤ 1 ∧
      s.nav.survey = none ∧
      600 ≤ dur ∧
      dur ≤ 604800) ∧
    (∃ (s : State) (h : Hdr),
      s.Accepts h false 0 ∧
      s.nav.survey.isSome = true) ∧
    (∃ (s : State) (h : Hdr),
      s.Accepts h false 0 ∧
      s.nav.survey = none) ∧
    (∃ (s : State) (v : Survey),
      s.inReset = false ∧
      s.nav.survey = some v ∧
      s.epochDue 1000 = true ∧
      (s.charge 4 2000).isSome = true) ∧
    (∃ (s : State) (v : Survey) (p : List Rat),
      s.inReset = false ∧
      s.nav.survey = some v ∧
      v.start + v.dur ≤ s.monoSec ∧
      v.est = some p ∧
      s.get GNSSN.SURVEY_SIGMA ≤ v.target) ∧
    (∃ (s : State) (v : Survey),
      s.inReset = false ∧
      s.nav.survey = some v ∧
      v.start + v.dur ≤ s.monoSec ∧
      (v.est = none ∨ v.target < s.get GNSSN.SURVEY_SIGMA)) ∧
    (∃ (s : State) (h : Hdr) (x y z : Int) (sigma : Nat),
      s.Accepts h false (dmaStock 28) ∧
      s.mode ≤ 1 ∧
      x * x + y * y + z * z ≤ 10 ^ 16) ∧
    (∃ (s : State) (o : Origin) (a v : Nat),
      s.inReset = false ∧
      o ≠ .pf1 ∧
      a ∈ [0x100020, 0x100028, 0x100030]) ∧
    (∃ (s : State) (o : Origin) (a v : Nat),
      s.inReset = false ∧
      o ≠ .pf1 ∧
      a ∈ [0x100024, 0x10002C, 0x100034] ∧
      s.mode ≤ 1 ∧
      (s.useUnlock o).1 = true ∧
      s.glb.voteFailed = []) ∧
    (∃ (s : State) (h : Hdr) (n dur : Nat),
      s.Accepts h false 0 ∧
      s.mode = 1 ∧
      n ≤ 31 ∧
      600 ≤ dur ∧
      dur ≤ 86400 ∧
      s.nav.sizing = none) ∧
    (∃ (s : State) (z : DelaySize),
      s.inReset = false ∧
      s.nav.sizing = some z ∧
      z.start + z.dur ≤ s.monoSec ∧
      z.n ≠ 0) ∧
    (∃ s : State,
      s.inReset = false ∧
      s.nav.survey = none ∧
      s.epochDue (s.get GNSSN.SOL_CFG_SOL_PERIOD_MS) = true) :=
  ⟨⟨ready, {}, 600, 10,
    accepts_of (by decide +kernel), by decide +kernel, by decide +kernel, by decide +kernel, by decide +kernel⟩,
   ⟨(surveying [] none), {},
    accepts_of (by decide +kernel), by decide +kernel⟩,
   ⟨ready, {},
    accepts_of (by decide +kernel), by decide +kernel⟩,
   ⟨(surveying [] none), ⟨.pf0, 0, 100, 0, [[0,0,0],[0,0,0],[0,0,0]], [0,0,0], none⟩,
    by decide +kernel, by decide +kernel, by decide +kernel, by decide +kernel⟩,
   ⟨(surveying [(GNSSN.SURVEY_SIGMA, 50)] (some [6371000, 5, 6])), ⟨.pf0, 0, 100, 0, [[0,0,0],[0,0,0],[0,0,0]], [0,0,0], some [6371000, 5, 6]⟩, [6371000, 5, 6],
    by decide +kernel, by decide +kernel, by decide +kernel, by decide +kernel, by decide +kernel⟩,
   ⟨(surveying [] none), ⟨.pf0, 0, 100, 0, [[0,0,0],[0,0,0],[0,0,0]], [0,0,0], none⟩,
    by decide +kernel, by decide +kernel, by decide +kernel, by decide +kernel⟩,
   ⟨ready, {}, 6371000, (-5), 6, 9,
    accepts_of (by decide +kernel), by decide +kernel, by decide +kernel⟩,
   ⟨ready, .pf0, 0x100028, 77,
    by decide +kernel, by decide +kernel, by decide +kernel⟩,
   ⟨{ ready with glb := { unlocks := [⟨.pf0, 0⟩], stagedLo := [(0x100028, 5)] } }, .pf0, 0x10002C, 77,
    by decide +kernel, by decide +kernel, by decide +kernel, by decide +kernel, by decide +kernel, by decide +kernel⟩,
   ⟨(inMode 1), {}, 3, 600,
    accepts_of (by decide +kernel), by decide +kernel, by decide +kernel, by decide +kernel, by decide +kernel, by decide +kernel⟩,
   ⟨{ inMode 1 with nav := { sizing := some ⟨.pf0, 3, 0, 0, 2, 6, 20, 5⟩ } }, ⟨.pf0, 3, 0, 0, 2, 6, 20, 5⟩,
    by decide +kernel, by decide +kernel, by decide +kernel, by decide +kernel⟩,
   ⟨ready,
    by decide +kernel, by decide +kernel, by decide +kernel⟩⟩

/-- The hypotheses of Obligations.ReferenceCommandsComplete are met. -/
theorem test_reference_commands_complete :
    (∃ (s : State) (h : Hdr) (slot : Nat),
      s.Accepts h false 0 ∧
      slot ≤ 15 ∧
      s.mode ≠ 4 ∧
      s.mode ≠ 5 ∧
      timeSlot slot = true ∧
      s.qualified slot = true ∧
      s.lockedOut slot = false ∧
      (s.getT REFSEL.REF_OVERRIDE_FORCE_EN = 0 ∨ s.getT REFSEL.REF_OVERRIDE_FORCE_SLOT = slot)) ∧
    (∃ (s : State) (h : Hdr) (slot : Nat),
      s.Accepts h false 0 ∧
      slot ≤ 15 ∧
      s.slotState slot = 3) ∧
    (∃ (s : State) (o : Origin) (slot v : Nat),
      s.inReset = false ∧
      o ≠ .pf1 ∧
      slot < 16 ∧
      s.glb.voteFailed = [] ∧
      s.slotState slot = 0) ∧
    (∃ (s : State) (o : Origin) (slot v : Nat),
      s.inReset = false ∧
      o ≠ .pf1 ∧
      slot < 16 ∧
      s.glb.voteFailed = []) ∧
    (∃ (s : State) (sol : NavSol),
      s.inReset = false ∧
      s.nav.deliver = some sol ∧
      sol.sheet ≠ s.sheetNo) ∧
    (∃ (s : State) (u : UpSample),
      s.inReset = false ∧
      s.ref.up = some u ∧
      s.ref.upNew = true) ∧
    (∃ (s : State) (u : PeerSample),
      s.inReset = false ∧
      s.ref.peer = some u ∧
      s.ref.peerNew = true) ∧
    (∃ (s : State) (slot : Nat) (r : MeasRec),
      s.inReset = false ∧
      slot ∈ [1, 2, 3, 4, 5, 6, 7, 8, 9, 10, 11, 12, 14] ∧
      s.slotRecord slot = some r) ∧
    (∃ (s : State) (input : Nat) (frame : List Byte) (m : TodMsg),
      s.inReset = false ∧
      input < 2 ∧
      s.flag (REFSEL.TOD_CFG_ENABLE input) = true ∧
      todParse frame = some m) ∧
    (∃ s : State,
      s.inReset = false ∧
      s.refFrozen = false) ∧
    (∃ (s : State) (slot : Nat),
      s.inReset = false ∧
      s.refFrozen = false ∧
      slot ≤ 15 ∧
      s.get (REFSEL.REF_TIMER slot) = 0 ∧
      (s.slotState slot = 2 ∨ s.slotState slot = 3)) ∧
    (∃ (s : State) (slot : Nat),
      s.inReset = false ∧
      synceSlot slot = true ∧
      ((s.slot slot).qlAt.all (fun t => s.reaches (t + (5 * secU : Nat))) = true)) :=
  ⟨⟨(withRegs [(REFSEL.REF_STAT_STATE 1, 4)]), {}, 1,
    accepts_of (by decide +kernel), by decide +kernel, by decide +kernel, by decide +kernel, by decide +kernel, by decide +kernel, by decide +kernel, by decide +kernel⟩,
   ⟨(withRegs [(REFSEL.REF_STAT_STATE 3, 3)]), {}, 3,
    accepts_of (by decide +kernel), by decide +kernel, by decide +kernel⟩,
   ⟨ready, .mspi, 3, 0,
    by decide +kernel, by decide +kernel, by decide +kernel, by decide +kernel, by decide +kernel⟩,
   ⟨(withRegs [(REFSEL.REF_STAT_STATE 3, 3), (REFSEL.REF_STAT_CAUSE 3, 3)]), .pf0, 3, 1,
    by decide +kernel, by decide +kernel, by decide +kernel, by decide +kernel⟩,
   ⟨{ unfrozen [(REFSEL.REF_STAT_STATE 0, 2)] with nav := { deliver := some ⟨65536, 700, 5, 6, 7, 0, 0, 9⟩ } }, ⟨65536, 700, 5, 6, 7, 0, 0, 9⟩,
    by decide +kernel, by decide +kernel, by decide +kernel⟩,
   ⟨{ unfrozen [(REFSEL.REF_STAT_STATE 13, 2)] with ref := { up := some ⟨700, 65536, none, 5, 1, 0x20, true, 6⟩, upNew := true } }, ⟨700, 65536, none, 5, 1, 0x20, true, 6⟩,
    by decide +kernel, by decide +kernel, by decide +kernel⟩,
   ⟨{ unfrozen [(REFSEL.REF_STAT_STATE 15, 2)] with ref := { peer := some ⟨700, 65536, 80, 1, 9⟩, peerNew := true } }, ⟨700, 65536, 80, 1, 9⟩,
    by decide +kernel, by decide +kernel, by decide +kernel⟩,
   ⟨{ unfrozen [(REFSEL.REF_STAT_STATE 5, 4), (REFSEL.REF_PERIOD 5, 65536), (REFSEL.REF_CFG_WIN 5, 3)] with tdc := { inbox := [({ owner := 1, start := some 77 } : WinSt).record 3 0 0] } }, 5, (({ owner := 1, start := some 77 } : WinSt).record 3 0 0),
    by decide +kernel, by decide +kernel, by decide +kernel⟩,
   ⟨(withRegs [(REFSEL.TOD_CFG_ENABLE 1, 1)]), 1, todFrame, ⟨77, false⟩,
    by decide +kernel, by decide +kernel, by decide +kernel, by decide +kernel⟩,
   ⟨(slots [(5, { arr := some 0, first := some 0, hist := [(0, 5), (65536, 8)] })] [(SYN.SYN_STATUS_SP_IN_SERVICE, 1), (REFSEL.REF_STAT_STATE 5, 2), (REFSEL.REF_STAT_STATE 6, 4)]),
    by decide +kernel, by decide +kernel⟩,
   ⟨(unfrozen [(REFSEL.REF_STAT_STATE 5, 2)]), 5,
    by decide +kernel, by decide +kernel, by decide +kernel, by decide +kernel, by decide +kernel⟩,
   ⟨(unfrozen [(REFSEL.REF_STAT_STATE 5, 2)]), 5,
    by decide +kernel, by decide +kernel, by decide +kernel⟩⟩

/-- The hypotheses of Obligations.HoldoverCommandsComplete are met. -/
theorem test_holdover_commands_complete :
    (∃ (s : State) (h : Hdr),
      s.Accepts h false 0 ∧
      s.mode = 0) ∧
    (∃ (s : State) (h : Hdr) (addr : Nat) (b : List Byte),
      s.Accepts h true (4 * s.hold.bins.length + dmaStock (16 * s.hold.bins.length)) ∧
      (s.binData s.hold.bins).1 = some b ∧
      h.origin ≠ .mspi ∧
      h.dmaOk = true) ∧
    (∃ (s : State) (o : Origin) (v : Nat),
      s.inReset = false ∧
      o ≠ .pf1 ∧
      s.glb.voteFailed = []) ∧
    (∃ (s : State) (o : Origin) (v : Nat),
      s.inReset = false ∧
      o ≠ .pf1 ∧
      s.glb.voteFailed = [] ∧
      s.mode ≠ 0 ∧
      s.oscBad = false) ∧
    (∃ (s : State) (o : Origin) (v : Nat),
      s.inReset = false ∧
      o ≠ .pf1 ∧
      s.glb.voteFailed = []) ∧
    (∃ s : State,
      s.inReset = false ∧
      s.vat.wf = true) ∧
    (∃ s : State,
      s.inReset = false ∧
      s.get HOLD.OSC_GOOD_S ≤ s.hold.goodS) ∧
    (∃ s : State,
      s.inReset = false) :=
  ⟨⟨(withHold { bins := [⟨0, 1, 2⟩] } []), {},
    accepts_of (by decide +kernel), by decide +kernel⟩,
   ⟨(withHold { bins := [⟨0, 1, 2⟩] } []), {}, 64, (List.replicate 16 0),
    accepts_of (by decide +kernel), by decide +kernel, by decide +kernel, by decide +kernel⟩,
   ⟨(withRegs [(HOLD.EFC_CODE, 77)]), .pf0, 5,
    by decide +kernel, by decide +kernel, by decide +kernel⟩,
   ⟨{ withRegs [(SYN.SYN_STATUS_OSC_ACT, 1)] with glb := { mode := 2 } }, .pf0, 0x805,
    by decide +kernel, by decide +kernel, by decide +kernel, by decide +kernel, by decide +kernel⟩,
   ⟨ready, .pf0, 300,
    by decide +kernel, by decide +kernel, by decide +kernel⟩,
   ⟨(withHold { ok := true, n := 8000, sumU := 5 } []),
    by decide +kernel, by decide +kernel⟩,
   ⟨(withHold { goodS := 5000 } [(HOLD.HOLD_STATUS_OSC_FAIL, 1)]),
    by decide +kernel, by decide +kernel⟩,
   ⟨(withRegs [(HOLD.HOLD_CFG_TEMP_SRC, 2)]),
    by decide +kernel⟩⟩

/-- The hypotheses of Obligations.AtomCommandsComplete are met. -/
theorem test_atom_commands_complete :
    (∃ (s : State) (h : Hdr),
      s.Accepts h false 0 ∧
      s.get HOLD.ATOM_STATUS_STATE = 5 ∧
      s.flag HOLD.ATOM_CFG_ENABLE = true) ∧
    (∃ s : State,
      s.inReset = false ∧
      s.get HOLD.ATOM_STATUS_STATE = 0 ∧
      s.flag HOLD.ATOM_CFG_ENABLE = true) ∧
    (∃ s : State,
      s.inReset = false ∧
      s.get HOLD.ATOM_STATUS_STATE ≠ 0) ∧
    (∃ (s : State) (f p : List Byte),
      s.inReset = false ∧
      s.flag HOLD.ATOM_CFG_ENABLE = true ∧
      s.oscBad = false ∧
      atomParse f = some (0x81, p) ∧
      s.get HOLD.ATOM_STATUS_STATE = 1) ∧
    (∃ (s : State) (f p : List Byte),
      s.inReset = false ∧
      s.flag HOLD.ATOM_CFG_ENABLE = true ∧
      atomParse f = some (0x82, p)) ∧
    (∃ (s : State) (f p : List Byte) (r : SteerOut),
      s.inReset = false ∧
      s.flag HOLD.ATOM_CFG_ENABLE = true ∧
      s.oscBad = false ∧
      atomParse f = some (0x83, p) ∧
      s.hold.steer = some r ∧
      r.seq = leAt p 0 1) ∧
    (∃ (s : State) (f : List Byte),
      s.inReset = false ∧
      s.flag HOLD.ATOM_CFG_ENABLE = true ∧
      atomParse f = none) ∧
    (∃ s : State,
      s.inReset = false ∧
      s.get HOLD.ATOM_STATUS_STATE = 1 ∧
      s.hold.identTries < 5 ∧
      s.flag HOLD.ATOM_CFG_ENABLE = true ∧
      s.reaches (s.hold.identAt + (secU : Nat)) = true) ∧
    (∃ s : State,
      s.inReset = false ∧
      s.get HOLD.ATOM_STATUS_STATE = 1 ∧
      5 ≤ s.hold.identTries ∧
      s.reaches (s.hold.identAt + (secU : Nat)) = true) ∧
    (∃ s : State,
      s.inReset = false ∧
      s.get HOLD.ATOM_STATUS_STATE ≠ 0 ∧
      s.reaches (s.hold.statusAt + (3 * secU : Nat)) = true) ∧
    (∃ (s : State) (r : SteerOut),
      s.inReset = false ∧
      s.hold.steer = some r ∧
      r.tries < 2 ∧
      s.flag HOLD.ATOM_CFG_ENABLE = true ∧
      s.reaches (r.sentAt + (secU / 2 : Nat)) = true) ∧
    (∃ (s : State) (r : SteerOut),
      s.inReset = false ∧
      s.hold.steer = some r ∧
      2 ≤ r.tries ∧
      s.reaches (r.sentAt + (secU / 2 : Nat)) = true) :=
  ⟨⟨(withRegs [(HOLD.ATOM_STATUS_STATE, 5)]), {},
    accepts_of (by decide +kernel), by decide +kernel, by decide +kernel⟩,
   ⟨(withRegs [(HOLD.ATOM_CFG_ENABLE, 1)]),
    by decide +kernel, by decide +kernel, by decide +kernel⟩,
   ⟨(withRegs [(HOLD.ATOM_STATUS_STATE, 3)]),
    by decide +kernel, by decide +kernel⟩,
   ⟨(withRegs [(HOLD.ATOM_STATUS_STATE, 1), (HOLD.ATOM_CFG_ENABLE, 1), (SYN.SYN_STATUS_OSC_ACT, 1)]), (atomF 0x81 (List.replicate 19 7)), (List.replicate 19 7),
    by decide +kernel, by decide +kernel, by decide +kernel, by decide +kernel, by decide +kernel⟩,
   ⟨(withRegs [(HOLD.ATOM_STATUS_STATE, 2)]), (atomF 0x82 (2 :: List.replicate 10 7)), (2 :: List.replicate 10 7),
    by decide +kernel, by decide +kernel, by decide +kernel⟩,
   ⟨(withHold { steer := some ⟨7, 5, 1, 0⟩ } [(HOLD.ATOM_CFG_ENABLE, 1), (SYN.SYN_STATUS_OSC_ACT, 1)]), (atomF 0x83 (List.replicate 7 7)), (List.replicate 7 7), ⟨7, 5, 1, 0⟩,
    by decide +kernel, by decide +kernel, by decide +kernel, by decide +kernel, by decide +kernel, by decide +kernel⟩,
   ⟨ready, [1, 2, 3],
    by decide +kernel, by decide +kernel, by decide +kernel⟩,
   ⟨(withHold { identAt := -(secU : Nat) } [(HOLD.ATOM_STATUS_STATE, 1), (HOLD.ATOM_CFG_ENABLE, 1), (SYN.SYN_STATUS_OSC_ACT, 1)]),
    by decide +kernel, by decide +kernel, by decide +kernel, by decide +kernel, by decide +kernel⟩,
   ⟨(withHold { identTries := 5, identAt := -(secU : Nat) } [(HOLD.ATOM_STATUS_STATE, 1)]),
    by decide +kernel, by decide +kernel, by decide +kernel, by decide +kernel⟩,
   ⟨(withHold { statusAt := -(4 * secU : Nat) } [(HOLD.ATOM_STATUS_STATE, 1)]),
    by decide +kernel, by decide +kernel, by decide +kernel⟩,
   ⟨(withHold { steer := some ⟨7, 5, 1, -(secU : Nat)⟩ } [(HOLD.ATOM_CFG_ENABLE, 1), (SYN.SYN_STATUS_OSC_ACT, 1)]), ⟨7, 5, 1, -(secU : Nat)⟩,
    by decide +kernel, by decide +kernel, by decide +kernel, by decide +kernel, by decide +kernel⟩,
   ⟨(withHold { steer := some ⟨7, 5, 2, -(secU : Nat)⟩ } []), ⟨7, 5, 2, -(secU : Nat)⟩,
    by decide +kernel, by decide +kernel, by decide +kernel, by decide +kernel⟩⟩

/-- The hypotheses of Obligations.DeckleEntriesComplete are met. -/
theorem test_deckle_entries_complete :
    (∃ (s : State) (i : Nat) (f : Fetched),
      s.inReset = false ∧
      s.running = true ∧
      (s.fetchEntry i).1 = some f ∧
      f.entry.op = 0 ∧
      s.tickRuns f.entry.tick = true) ∧
    (∃ (s : State) (i : Nat) (f : Fetched) (x : SchedFrame),
      s.inReset = false ∧
      s.running = true ∧
      (s.fetchEntry i).1 = some f ∧
      f.entry.op = 1 ∧
      s.tickRuns f.entry.tick = true ∧
      s.aloneAt i f.entry.tick = true ∧
      s.mac.skipped.contains i = false ∧
      (s.mac.sched.find? (fun y => y.entry == i) = some x) ∧
      x.cancels = none ∧
      s.get (MAC.PORT_CFG_RATE x.port) ≠ 3 ∧
      s.get (MAC.PORT_STATUS_LINK x.port) = 2 ∧
      s.mayLaunch x.port f.entry.tc x.launch (x.bytes.length + 4) = true) ∧
    (∃ (s : State) (i : Nat) (f : Fetched),
      s.inReset = false ∧
      s.running = true ∧
      (s.fetchEntry i).1 = some f ∧
      f.entry.op = 2 ∧
      s.tickRuns f.entry.tick = true ∧
      s.aloneAt i f.entry.tick = true ∧
      servingMode s.execMode = true ∧
      (s.paused f.entry.port (s.launchAt f.entry.port f.entry.tick) = true ∨ (s.port f.entry.port).replies.find? (fun r => r.fits (s.launchAt f.entry.port f.entry.tick) (bits f.entry.opa 0 11)) = none)) ∧
    (∃ (s : State) (i : Nat) (f : Fetched) (r : Reply) (m : NtpMsg),
      s.inReset = false ∧
      s.running = true ∧
      (s.fetchEntry i).1 = some f ∧
      f.entry.op = 2 ∧
      s.tickRuns f.entry.tick = true ∧
      s.aloneAt i f.entry.tick = true ∧
      servingMode s.execMode = true ∧
      s.paused f.entry.port (s.launchAt f.entry.port f.entry.tick) = false ∧
      ((s.port f.entry.port).replies.find? (fun r => r.fits (s.launchAt f.entry.port f.entry.tick) (bits f.entry.opa 0 11)) = some r) ∧
      s.flag SHEET.SHEET_STATUS_THIN = false ∧
      r.body = .ntp m ∧
      r.cls < 5 ∧
      (s.key.fails = none ∨ m.kind ≠ 1) ∧
      (s.charge r.cls 440).isSome = true) ∧
    (∃ (s : State) (i : Nat) (f : Fetched),
      s.inReset = false ∧
      s.running = true ∧
      (s.fetchEntry i).1 = some f ∧
      f.entry.op = 3 ∧
      s.tickRuns f.entry.tick = true ∧
      s.vatc.poison = [] ∧
      s.vatMay 0 (bufAddr f.buf + (0x30 + 8 * f.entry.port)) 8 false = true ∧
      s.vatMay 0 (bufAddr f.buf + (leAt (s.vat.reads (bufAddr f.buf + (0x30 + 8 * f.entry.port)) 8) 0 4 + 4 * bits f.entry.opa 0 10)) 4 false = true) ∧
    (∃ (s : State) (i : Nat) (f : Fetched),
      s.inReset = false ∧
      s.running = true ∧
      (s.fetchEntry i).1 = some f ∧
      f.entry.op = 4 ∧
      s.tickRuns f.entry.tick = true) ∧
    (∃ (s : State) (i : Nat) (samples : List Nat) (f : Fetched),
      s.inReset = false ∧
      s.running = true ∧
      (s.fetchEntry i).1 = some f ∧
      f.entry.op = 5 ∧
      s.tickRuns f.entry.tick = true ∧
      s.vatc.poison = [] ∧
      s.vatMay 0 (bufAddr f.buf + (f.hdr.loopOff + 16 * bits f.entry.opa 0 16)) 16 false = true ∧
      leAt (s.vat.reads (bufAddr f.buf + (f.hdr.loopOff + 16 * bits f.entry.opa 0 16)) 16) 0 1 = 2 ∧
      bits f.entry.opa 16 8 < 4) ∧
    (∃ (s : State) (i : Nat) (samples : List Nat) (f : Fetched),
      s.inReset = false ∧
      s.running = true ∧
      (s.fetchEntry i).1 = some f ∧
      f.entry.op = 5 ∧
      s.tickRuns f.entry.tick = true ∧
      s.vatc.poison = [] ∧
      s.vatMay 0 (bufAddr f.buf + (f.hdr.loopOff + 16 * bits f.entry.opa 0 16)) 16 false = true ∧
      leAt (s.vat.reads (bufAddr f.buf + (f.hdr.loopOff + 16 * bits f.entry.opa 0 16)) 16) 0 1 ≤ 1 ∧
      bits f.entry.opa 16 8 ≤ 135 ∧
      s.chState (bits f.entry.opa 16 8) ≠ 0 ∧
      s.flag (GNSSC.CH_STAT_RETIRED (bits f.entry.opa 16 8)) = false) ∧
    (∃ (s : State) (i : Nat) (f : Fetched),
      s.inReset = false ∧
      s.running = true ∧
      (s.fetchEntry i).1 = some f ∧
      f.entry.op = 6 ∧
      s.tickRuns f.entry.tick = true ∧
      s.aloneAt i f.entry.tick = true ∧
      s.hif.marks = [] ∧
      (s.charge 3 40).isSome = true ∧
      s.hif.eventsDue = [] ∧
      s.ringOf 3 = none ∧
      s.hif.events.length < 4096 ∧
      s.vatMay 11 (s.evSlot s.hif.events.length) 32 true = true) :=
  ⟨⟨(moulded (ent 5000 0 0 0 0 0) []), 0, (fet (moulded (ent 5000 0 0 0 0 0) []) 0),
    by decide +kernel, by decide +kernel, by decide +kernel, by decide +kernel, by decide +kernel⟩,
   ⟨(sized { moulded (ent 5000 1 1 0 0 0) [(MAC.PORT_STATUS_LINK 1, 2), (MAC.PORT_CFG_RATE 1, 1)] with mac := { sched := [sd] } }), 0, (fet (moulded (ent 5000 1 1 0 0 0) []) 0), sd,
    by decide +kernel, by decide +kernel, by decide +kernel, by decide +kernel, by decide +kernel, by decide +kernel, by decide +kernel, by decide +kernel, by decide +kernel, by decide +kernel, by decide +kernel, by decide +kernel⟩,
   ⟨(moulded (ent 5000 2 1 0 100 0) []), 0, (fet (moulded (ent 5000 2 1 0 100 0) []) 0),
    by decide +kernel, by decide +kernel, by decide +kernel, by decide +kernel, by decide +kernel, by decide +kernel, by decide +kernel, by decide +kernel⟩,
   ⟨(sized (ported (moulded (ent 5000 2 1 0 200 0) [(MAC.PORT_STATUS_LINK 1, 2), (MAC.PORT_CFG_RATE 1, 1)]) { replies := [{ cls := 2, since := 0, len := 94, body := .ntp ntpQ }] })), 0, (fet (moulded (ent 5000 2 1 0 200 0) []) 0), { cls := 2, since := 0, len := 94, body := .ntp ntpQ }, ntpQ,
    by decide +kernel, by decide +kernel, by decide +kernel, by decide +kernel, by decide +kernel, by decide +kernel, by decide +kernel, by decide +kernel, by decide +kernel, by decide +kernel, by decide +kernel, by decide +kernel, by decide +kernel, by decide +kernel⟩,
   ⟨(mem (mem (moulded (ent 5000 3 1 0 2 0) []) 0x04000038 (leBytes 4 4096)) 0x04001008 [0xA5]), 0, (fet (moulded (ent 5000 3 1 0 2 0) []) 0),
    by decide +kernel, by decide +kernel, by decide +kernel, by decide +kernel, by decide +kernel, by decide +kernel, by decide +kernel, by decide +kernel⟩,
   ⟨(moulded (ent 5000 4 0 0 3 100) []), 0, (fet (moulded (ent 5000 4 0 0 3 100) []) 0),
    by decide +kernel, by decide +kernel, by decide +kernel, by decide +kernel, by decide +kernel⟩,
   ⟨(mem (moulded (ent 5000 5 0 0 0x20003 0) []) 0x04000430 (leBytes 8 2 ++ leBytes 8 777)), 0, [99], (fet (moulded (ent 5000 5 0 0 0x20003 0) []) 0),
    by decide +kernel, by decide +kernel, by decide +kernel, by decide +kernel, by decide +kernel, by decide +kernel, by decide +kernel, by decide +kernel, by decide +kernel⟩,
   ⟨(mem (moulded (ent 5000 5 0 0 0x70003 0) [(GNSSC.CH_STAT_STATE 7, 5)]) 0x04000430 (leBytes 8 0 ++ leBytes 8 777)), 0, [99], (fet (moulded (ent 5000 5 0 0 0x70003 0) []) 0),
    by decide +kernel, by decide +kernel, by decide +kernel, by decide +kernel, by decide +kernel, by decide +kernel, by decide +kernel, by decide +kernel, by decide +kernel, by decide +kernel, by decide +kernel⟩,
   ⟨(moulded (ent 5000 6 0 0 3 100) []), 0, (fet (moulded (ent 5000 6 0 0 3 100) []) 0),
    by decide +kernel, by decide +kernel, by decide +kernel, by decide +kernel, by decide +kernel, by decide +kernel, by decide +kernel, by decide +kernel, by decide +kernel, by decide +kernel, by decide +kernel, by decide +kernel⟩⟩

/-- The hypotheses of Obligations.SlicesComplete are met. -/
theorem test_slices_complete :
    (∃ (s : State) (e : EdgeIn),
      s.inReset = false ∧
      s.running = true ∧
      s.held = [] ∧
      s.hif.marks = [] ∧
      s.glb.edgeWrites = [] ∧
      s.sheetNo + 1 < 2 ^ 64) ∧
    (∃ (s : State) (d : Int),
      s.inReset = false ∧
      s.running = true) ∧
    (∃ s : State,
      s.inReset = false ∧
      s.running = true ∧
      s.time.slewTerm = 0) ∧
    (∃ s : State,
      s.inReset = false ∧
      s.running = true) ∧
    (∃ s : State,
      s.inReset = false ∧
      s.running = true ∧
      s.activeBuf = none) ∧
    (∃ (s : State) (ovr late : Bool),
      s.inReset = false ∧
      s.running = true ∧
      s.flag COUCH.PAIR_CFG_EN = false) :=
  ⟨⟨ready, {},
    by decide +kernel, by decide +kernel, by decide +kernel, by decide +kernel, by decide +kernel, by decide +kernel⟩,
   ⟨ready, 55,
    by decide +kernel, by decide +kernel⟩,
   ⟨(withRegs [(SYN.CAL_CTRL_ENABLE 2, 1), (SYN.CAL_PHASE_PEND 2, 5000), (REFSEL.DPLL_CTRL, 123456)]),
    by decide +kernel, by decide +kernel, by decide +kernel⟩,
   ⟨ready,
    by decide +kernel, by decide +kernel⟩,
   ⟨ready,
    by decide +kernel, by decide +kernel, by decide +kernel⟩,
   ⟨{ ready with held := [⟨.frameRx 1 [1] true 5, 1, 0, 0, none⟩, ⟨.scrubPage {}, 4, 0, 0, none⟩] }, true, true,
    by decide +kernel, by decide +kernel, by decide +kernel⟩⟩

/-- The hypotheses of Obligations.LoadsAndTargetsComplete are met. -/
theorem test_loads_and_targets_complete :
    (∃ (s : State) (buf : Nat) (d : DmaIn) (r : MouldRun),
      s.inReset = false ∧
      s.loadOf buf = some r ∧
      (s.charge 3 ((((r.bytes d).length + 63) / 64) * 14)).isSome = true ∧
      512 ≤ r.len ∧
      r.len ≤ 8388608 ∧
      d.ok = true ∧
      r.len ≤ d.bytes.length ∧
      s.vatMay 11 (bufAddr buf) r.len true = true ∧
      r.len % 8 = 0 ∧
      buf ≤ 1) ∧
    (∃ (s : State) (buf : Nat) (d : DmaIn) (r : MouldRun),
      s.inReset = false ∧
      s.loadOf buf = some r ∧
      (s.charge 3 ((((r.bytes d).length + 63) / 64) * 14)).isSome = true ∧
      (r.len < 512 ∨ 8388608 < r.len ∨ d.ok = false ∨ d.bytes.length < r.len) ∧
      buf ≤ 1) ∧
    (∃ (s : State) (n u w : Nat),
      s.inReset = false ∧
      n ≤ 15 ∧
      s.nextPulse n = some (u, w, true)) ∧
    (∃ (s : State) (n u w : Nat) (p : Series),
      s.inReset = false ∧
      n ≤ 15 ∧
      s.nextPulse n = some (u, w, false) ∧
      nth s.time.series n none = some p ∧
      s.time.series.length = 16) :=
  ⟨⟨(loading 1), 1, ⟨true, img⟩, ⟨{}, 512⟩,
    by decide +kernel, by decide +kernel, by decide +kernel, by decide +kernel, by decide +kernel, by decide +kernel, by decide +kernel, by decide +kernel, by decide +kernel, by decide +kernel⟩,
   ⟨(loading 0), 0, ⟨false, []⟩, ⟨{}, 512⟩,
    by decide +kernel, by decide +kernel, by decide +kernel, by decide +kernel, by decide +kernel⟩,
   ⟨(timed fun t => { t with pulses := [⟨3, 1000000, 7, false, false⟩, ⟨3, 2000000, 7, false, false⟩] }), 3, 1000000, 7,
    by decide +kernel, by decide +kernel, by decide +kernel⟩,
   ⟨(timed fun t => { t with series := setNth t.series 3 (some ⟨1000000, 6553600, 7, 5, 2⟩) }), 3, 14107200, 7, ⟨1000000, 6553600, 7, 5, 2⟩,
    by decide +kernel, by decide +kernel, by decide +kernel, by decide +kernel, by decide +kernel⟩⟩

/-- The hypotheses of Obligations.ModuleCommandsComplete are met. -/
theorem test_module_commands_complete :
    (∃ (s : State) (h : Hdr) (p : Nat),
      s.Accepts h false 0 ∧
      s.mode = 1 ∧
      p ≤ 7 ∧
      (s.port p).sizing = none ∧
      s.mac.ports.length = 8) ∧
    (∃ (s : State) (p trip : Nat) (h : Hdr),
      s.inReset = false ∧
      p ≤ 7 ∧
      (s.port p).sizing = some h ∧
      s.mac.ports.length = 8) ∧
    (∃ (s : State) (h : Hdr) (p : Nat) (tx rx : Int) (u : Nat),
      s.Accepts h false 0 ∧
      s.mode = 1 ∧
      p ≤ 7) ∧
    (∃ (s : State) (h : Hdr) (p dev off len addr : Nat),
      s.Accepts h true (dmaStock len) ∧
      p ≤ 7 ∧
      0 < len ∧
      len ≤ 256 ∧
      s.get (MAC.PORT_STATUS_MOD_STATE p) = 2) ∧
    (∃ (s : State) (h : Hdr) (p dev off : Nat) (b : List Byte),
      s.Accepts h false 0 ∧
      p ≤ 7 ∧
      0 < b.length ∧
      b.length ≤ 8 ∧
      s.get (MAC.PORT_STATUS_MOD_STATE p) = 2) ∧
    (∃ (s : State) (p : Nat) (ok : Bool) (b : List Byte) (m : ModOp) (ms : List ModOp),
      s.inReset = false ∧
      (s.port p).mods = m :: ms ∧
      m.rd = none) ∧
    (∃ (s : State) (p : Nat) (b : List Byte) (m : ModOp) (ms : List ModOp) (addr : Nat),
      s.inReset = false ∧
      (s.port p).mods = m :: ms ∧
      m.rd = some (addr, b.length) ∧
      m.cmd.origin ≠ .mspi ∧
      m.cmd.dmaOk = true ∧
      rangeOk m.cmd addr b.length = true) ∧
    (∃ (s : State) (h : Hdr) (p : Nat),
      s.Accepts h false 0 ∧
      p ≤ 7 ∧
      s.get (MAC.PORT_STATUS_MOD_STATE p) = 3) ∧
    (∃ (s : State) (p : Nat),
      s.inReset = false ∧
      p ≤ 7 ∧
      s.get (MAC.PORT_STATUS_MOD_STATE p) = 0) ∧
    (∃ (s : State) (p : Nat),
      s.inReset = false ∧
      p ≤ 7 ∧
      s.get (MAC.PORT_STATUS_MOD_STATE p) ≠ 0 ∧
      s.mac.ports.length = 8) ∧
    (∃ (s : State) (p : Nat) (b : List Byte),
      s.inReset = false ∧
      p ≤ 7 ∧
      s.get (MAC.PORT_STATUS_MOD_STATE p) = 1 ∧
      identOk b = true ∧
      s.mac.ports.length = 8) ∧
    (∃ (s : State) (p : Nat) (b : List Byte),
      s.inReset = false ∧
      p ≤ 7 ∧
      s.get (MAC.PORT_STATUS_MOD_STATE p) = 1 ∧
      (s.port p).reads < 2) ∧
    (∃ (s : State) (p : Nat) (b : List Byte),
      s.inReset = false ∧
      p ≤ 7 ∧
      s.get (MAC.PORT_STATUS_MOD_STATE p) = 1 ∧
      2 ≤ (s.port p).reads ∧
      s.flag (MAC.MOD_CTRL_FIXED p) = false) ∧
    (∃ (s : State) (p : Nat),
      s.inReset = false ∧
      p ≤ 7 ∧
      s.get (MAC.PORT_STATUS_LINK p) = 1 ∧
      s.get (MAC.PORT_STATUS_MOD_STATE p) = 2) ∧
    (∃ (s : State) (p : Nat),
      s.inReset = false ∧
      p ≤ 7 ∧
      s.get (MAC.PORT_STATUS_LINK p) = 2 ∧
      s.mac.ports.length = 8) :=
  ⟨⟨{ withRegs [(MAC.PORT_STATUS_LINK 1, 2)] with glb := { mode := 1 } }, {}, 1,
    accepts_of (by decide +kernel), by decide +kernel, by decide +kernel, by decide +kernel, by decide +kernel⟩,
   ⟨(ported { withRegs [(MAC.PORT_STATUS_MOD_STATE 1, 2), (MAC.PORT_CFG_RATE 1, 1)] with glb := { mode := 1 } } { sizing := some {} }), 1, 123456, {},
    by decide +kernel, by decide +kernel, by decide +kernel, by decide +kernel⟩,
   ⟨(inMode 1), {}, 1, (-5), 7, 9,
    accepts_of (by decide +kernel), by decide +kernel, by decide +kernel⟩,
   ⟨(withRegs [(MAC.PORT_STATUS_MOD_STATE 1, 2)]), {}, 1, 0xA0, 3, 2, 4096,
    accepts_of (by decide +kernel), by decide +kernel, by decide +kernel, by decide +kernel, by decide +kernel⟩,
   ⟨(withRegs [(MAC.PORT_STATUS_MOD_STATE 1, 2)]), {}, 1, 0xA0, 3, [1, 2],
    accepts_of (by decide +kernel), by decide +kernel, by decide +kernel, by decide +kernel, by decide +kernel⟩,
   ⟨(ported ready { mods := [op1, op2] }), 1, true, [1, 2], op1, [op2],
    by decide +kernel, by decide +kernel, by decide +kernel⟩,
   ⟨(ported ready { mods := [op2, op1] }), 1, [1, 2], op2, [op1], 4096,
    by decide +kernel, by decide +kernel, by decide +kernel, by decide +kernel, by decide +kernel, by decide +kernel⟩,
   ⟨(withRegs [(MAC.PORT_STATUS_MOD_STATE 1, 3)]), {}, 1,
    accepts_of (by decide +kernel), by decide +kernel, by decide +kernel⟩,
   ⟨ready, 1,
    by decide +kernel, by decide +kernel, by decide +kernel⟩,
   ⟨(ported (withRegs [(MAC.PORT_STATUS_MOD_STATE 1, 2), (MAC.PORT_STATUS_LINK 1, 2)]) { mods := [op2, op1] }), 1,
    by decide +kernel, by decide +kernel, by decide +kernel, by decide +kernel⟩,
   ⟨(withRegs [(MAC.PORT_STATUS_MOD_STATE 1, 1), (MAC.PORT_CFG_RATE 1, 1)]), 1, ident1,
    by decide +kernel, by decide +kernel, by decide +kernel, by decide +kernel, by decide +kernel⟩,
   ⟨(withRegs [(MAC.PORT_STATUS_MOD_STATE 1, 1)]), 1, [],
    by decide +kernel, by decide +kernel, by decide +kernel, by decide +kernel⟩,
   ⟨(ported (withRegs [(MAC.PORT_STATUS_MOD_STATE 1, 1)]) { reads := 2 }), 1, [],
    by decide +kernel, by decide +kernel, by decide +kernel, by decide +kernel, by decide +kernel⟩,
   ⟨(withRegs [(MAC.PORT_STATUS_MOD_STATE 1, 2), (MAC.PORT_STATUS_LINK 1, 1)]), 1,
    by decide +kernel, by decide +kernel, by decide +kernel, by decide +kernel⟩,
   ⟨(ported (withRegs [(MAC.PORT_STATUS_MOD_STATE 1, 2), (MAC.PORT_STATUS_LINK 1, 2)]) { replies := [{ cls := 2, since := 0, len := 94, body := .ntp ntpQ }] }), 1,
    by decide +kernel, by decide +kernel, by decide +kernel, by decide +kernel⟩⟩

/-- The hypotheses of Obligations.ClientCommandsComplete are met. -/
theorem test_client_commands_complete :
    (∃ (s : State) (h : Hdr) (n addr : Nat) (d : DmaIn) (b : List Byte),
      s.Accepts h false (dmaStock 64) ∧
      s.mode ≠ 5 ∧
      n < 1048576 ∧
      s.vatc.poison = [] ∧
      (h.origin = .mspi → addr + 64 ≤ mbWindow) ∧
      s.dataIn h addr 64 d = some b ∧
      (Client.ofBytes b).transport ≠ 3 ∧
      ((Client.ofBytes b).dual = true → s.flag (PTP.FLOW_CFG_EN (Client.ofBytes b).flow) = true) ∧
      ((Client.ofBytes b).valid = true → ∀ q ∈ (s.findRec (Client.ofBytes b).port (Client.ofBytes b).transport (Client.ofBytes b).addr (Client.ofBytes b).portId).1, q.1 = n)) ∧
    (∃ (s : State) (h : Hdr) (n addr : Nat),
      s.Accepts h true (dmaStock 64) ∧
      n < 1048576 ∧
      s.vatc.poison = [] ∧
      s.vatMay 11 (64 * n) 64 false = true ∧
      h.origin ≠ .mspi ∧
      h.dmaOk = true) ∧
    (∃ (s : State) (h : Hdr) (n : Nat),
      s.Accepts h false 0 ∧
      s.mode ≠ 5 ∧
      n < 1048576 ∧
      s.vatc.poison = [] ∧
      (s.getRec n).1.valid = true) ∧
    (∃ (s : State) (n : Nat),
      s.inReset = false ∧
      n < 1048576 ∧
      s.vatc.poison = [] ∧
      s.vat.wf = true ∧
      s.vatMay 7 (64 * n) 64 true = true ∧
      (s.ptp.cancels.any (fun q => q.1 == n && s.reaches (q.2 + (2 * secU : Nat))) = true) ∧
      (s.getRec n).1.valid = true) ∧
    (∃ (s : State) (n : Nat),
      s.inReset = false ∧
      n < 1048576 ∧
      s.mode ≠ 5 ∧
      s.couch.handing = false ∧
      (s.charge 4 10).isSome = true ∧
      s.vatc.poison = [] ∧
      s.vat.wf = true ∧
      s.vatMay 7 (64 * n) 64 true = true ∧
      (s.getRec n).1.valid = true ∧
      (s.getRec n).1.pinned = false ∧
      s.anyLive (s.getRec n).1 = false ∧
      s.get PTP.GRANT_CFG_AGE_S ≤ (s.taiSec + 65536 - (s.getRec n).1.seen) % 65536) :=
  ⟨⟨ready, {}, 70, 4096, ⟨true, cl1.bytes⟩, cl1.bytes,
    accepts_of (by decide +kernel), by decide +kernel, by decide +kernel, by decide +kernel, by decide +kernel, by decide +kernel, by decide +kernel, by decide +kernel, by decide +kernel⟩,
   ⟨(withRec 70 cl1), {}, 70, 4096,
    accepts_of (by decide +kernel), by decide +kernel, by decide +kernel, by decide +kernel, by decide +kernel, by decide +kernel⟩,
   ⟨(withRec 70 cl1), {}, 70,
    accepts_of (by decide +kernel), by decide +kernel, by decide +kernel, by decide +kernel, by decide +kernel⟩,
   ⟨(let s := withRec 70 cl1; { s with ptp := { s.ptp with cancels := [(70, -(3 * secU : Nat))] } }), 70,
    by decide +kernel, by decide +kernel, by decide +kernel, by decide +kernel, by decide +kernel, by decide +kernel, by decide +kernel⟩,
   ⟨(at_ (withRec 70 cl1) (60000 * 65536000000000)), 70,
    by decide +kernel, by decide +kernel, by decide +kernel, by decide +kernel, by decide +kernel, by decide +kernel, by decide +kernel, by decide +kernel, by decide +kernel, by decide +kernel, by decide +kernel, by decide +kernel⟩⟩

/-- The hypotheses of Obligations.NtsCommandsComplete are met. -/
theorem test_nts_commands_complete :
    (∃ (s : State) (h : Hdr) (g slot id : Nat),
      s.Accepts h false 0 ∧
      s.mode ≠ 5 ∧
      g ≤ 3 ∧
      s.get (NTS.NTS_GEN_STATE g) ≠ 1 ∧
      s.get (NTS.NTS_GEN_STATE g) ≠ 2 ∧
      s.nts.change = none ∧
      (∀ e ∈ List.range 4, e ≠ g → s.get (NTS.NTS_GEN_STATE e) = 0 ∨ s.get (NTS.NTS_KEYID e) ≠ id) ∧
      (s.keySlot slot).usable = true ∧
      (s.keySlot slot).alg = 3) ∧
    (∃ (s : State) (h : Hdr) (g : Nat),
      s.Accepts h false 0 ∧
      s.mode ≠ 5 ∧
      g ≤ 3 ∧
      (s.get (NTS.NTS_GEN_STATE g) = 1 ∨ s.get (NTS.NTS_GEN_STATE g) = 2) ∧
      s.nts.change = none) ∧
    (∃ (s : State) (h : Hdr) (count g : Nat) (erase : Bool) (keyAddr cookieAddr : Nat) (d : DmaIn) (b : List Byte),
      s.Accepts h true (300 + 250 * min count 8 + dmaStock 68 + dmaStock (104 * min count 8)) ∧
      0 < count ∧
      count ≤ 8 ∧
      h.origin ≠ .mspi ∧
      h.dmaOk = true ∧
      s.dataIn h keyAddr 68 d = some b ∧
      beAt b 0 2 = 15 ∧
      s.key.fails = none ∧
      s.currentGen = some g ∧
      (s.keySlot (s.genSlot g)).usable = true ∧
      ((s.keySlot (s.genSlot g)).counted = false ∨ count ≤ (s.keySlot (s.genSlot g)).uses)) ∧
    (∃ (s : State) (g : Nat),
      s.inReset = false ∧
      g < 4 ∧
      s.get (NTS.NTS_GEN_STATE g) = 2 ∧
      s.reaches ((s.gen g).acceptAt + (s.get NTS.ACCEPT_S * secU : Nat)) = true) :=
  ⟨⟨(keyed 5 aesKey []), {}, 2, 5, 77,
    accepts_of (by decide +kernel), by decide +kernel, by decide +kernel, by decide +kernel, by decide +kernel, by decide +kernel, by decide +kernel, by decide +kernel, by decide +kernel⟩,
   ⟨(withRegs [(NTS.NTS_GEN_STATE 2, 1)]), {}, 2,
    accepts_of (by decide +kernel), by decide +kernel, by decide +kernel, by decide +kernel, by decide +kernel⟩,
   ⟨(keyed 5 aesKey [(NTS.NTS_GEN_STATE 2, 1), (NTS.NTS_GEN_SLOT 2, 5), (NTS.NTS_KEYID 2, 77)]), {}, 2, 2, true, 4096, 8192, ⟨true, [0, 15] ++ List.replicate 66 3⟩, ([0, 15] ++ List.replicate 66 3),
    accepts_of (by decide +kernel), by decide +kernel, by decide +kernel, by decide +kernel, by decide +kernel, by decide +kernel, by decide +kernel, by decide +kernel, by decide +kernel, by decide +kernel, by decide +kernel⟩,
   ⟨(let s := withRegs [(NTS.NTS_GEN_STATE 2, 2), (NTS.ACCEPT_S, 600)]; { s with nts := { s.nts with gens := setNth (List.replicate 4 {}) 2 { acceptAt := -(601 * secU : Nat), nonceKey := some [1] } } }), 2,
    by decide +kernel, by decide +kernel, by decide +kernel, by decide +kernel⟩⟩

/-- The hypotheses of Obligations.KeyCommandsComplete are met. -/
theorem test_key_commands_complete :
    (∃ (s : State) (h : Hdr) (a : DeriveArgs),
      s.Accepts h false (dmaStock 64 + 1500) ∧
      h.origin = .pf0 ∧
      s.getT KEY.KEY_CTRL_DERIVE_EN ≠ 0 ∧
      s.flag KEY.KEY_STATUS_TAMPER = false ∧
      s.key.work = none ∧
      (s.keySlot a.parent).usable = true ∧
      s.deriveOk a = true) ∧
    (∃ (s : State) (h : Hdr) (slot : Nat),
      s.Accepts h false (0 + 150) ∧
      slot ≤ 255 ∧
      (s.keySlot slot).state ≠ 0) ∧
    (∃ (s : State) (h : Hdr) (first count addr : Nat),
      s.Accepts h true (0 + (150 + dmaStock (16 * count))) ∧
      0 < count ∧
      first + count ≤ 256 ∧
      h.origin ≠ .mspi ∧
      h.dmaOk = true) ∧
    (∃ (s : State) (h : Hdr),
      s.Accepts h false 0 ∧
      s.mode = 0 ∧
      s.key.trigger = false) ∧
    (∃ (s : State) (a v : Nat),
      s.inReset = false ∧
      s.flag KEY.KEY_STATUS_BUSY = false ∧
      0x1C0010 ≤ a ∧
      a ≤ 0x1C0040 ∧
      a % 4 = 0) ∧
    (∃ (s : State) (a v : Nat),
      s.inReset = false) ∧
    (∃ (s : State) (o : Origin) (v : Nat),
      s.inReset = false ∧
      o ≠ .pf1 ∧
      s.flag KEY.KEY_STATUS_BUSY = false ∧
      (s.useUnlock o).1 = true ∧
      s.commitResult v = 0 ∧
      (s.charge 3 2000).isSome = true) ∧
    (∃ (s : State) (o : Origin) (v : Nat),
      s.inReset = false ∧
      o ≠ .pf1 ∧
      s.flag KEY.KEY_STATUS_BUSY = false ∧
      (s.useUnlock o).1 = true ∧
      s.commitResult v ≠ 0) ∧
    (∃ (s : State) (w : KeyWork),
      s.inReset = false ∧
      s.key.work = some w ∧
      w.paid = true ∧
      w.done = false) :=
  ⟨⟨((keyed 5 kdk []).putT KEY.KEY_CTRL_DERIVE_EN 1), {}, dargs,
    accepts_of (by decide +kernel), by decide +kernel, by decide +kernel, by decide +kernel, by decide +kernel, by decide +kernel, by decide +kernel⟩,
   ⟨(keyed 5 kdk []), {}, 5,
    accepts_of (by decide +kernel), by decide +kernel, by decide +kernel⟩,
   ⟨(keyed 5 kdk []), {}, 4, 3, 4096,
    accepts_of (by decide +kernel), by decide +kernel, by decide +kernel, by decide +kernel, by decide +kernel⟩,
   ⟨(withRegs [(KEY.KEY_STATUS_TAMPER, 1)]), {},
    accepts_of (by decide +kernel), by decide +kernel, by decide +kernel⟩,
   ⟨ready, 0x1C0014, 77,
    by decide +kernel, by decide +kernel, by decide +kernel, by decide +kernel, by decide +kernel⟩,
   ⟨ready, 0x1C0014, 77,
    by decide +kernel⟩,
   ⟨(unlocked (stagedS [(KEY.KEY_STAGE_D 0, 0x0300)]) .mspi), .mspi, 0xA5C3F807,
    by decide +kernel, by decide +kernel, by decide +kernel, by decide +kernel, by decide +kernel, by decide +kernel⟩,
   ⟨(unlocked (stagedS [(KEY.KEY_STAGE_D 0, 0x0300)]) .pf0), .pf0, 0xA5C3F707,
    by decide +kernel, by decide +kernel, by decide +kernel, by decide +kernel, by decide +kernel⟩,
   ⟨{ ready with key := { work := some ⟨5, aesKey, false, .pf0, true, false⟩ } }, ⟨5, aesKey, false, .pf0, true, false⟩,
    by decide +kernel, by decide +kernel, by decide +kernel, by decide +kernel⟩⟩

/-- The hypotheses of Obligations.PairCommandsComplete are met. -/
theorem test_pair_commands_complete :
    (∃ (s : State) (h : Hdr) (dwell : Nat),
      s.Accepts h false 0 ∧
      servingMode s.mode = true ∧
      s.couch.hand = none) ∧
    (∃ (s : State) (h : Hdr) (m : Nat),
      s.Accepts h false 0 ∧
      s.mode = 5 ∧
      servingMode m = true ∧
      s.flag COUCH.PAIR_STATUS_ACT_I = false) ∧
    (∃ (s : State) (h : Hdr),
      s.Accepts h false 0 ∧
      s.mode = 5 ∧
      (s.pairState = 3 ∨ s.pairState = 4)) :=
  ⟨⟨(inMode 2), {}, 77,
    accepts_of (by decide +kernel), by decide +kernel, by decide +kernel⟩,
   ⟨(inMode 5), {}, 3,
    accepts_of (by decide +kernel), by decide +kernel, by decide +kernel, by decide +kernel⟩,
   ⟨{ withRegs [(COUCH.PAIR_STATUS_STATE, 3)] with glb := { mode := 5 } }, {},
    accepts_of (by decide +kernel), by decide +kernel, by decide +kernel⟩⟩

/-- The hypotheses of Obligations.WriteCommandsComplete are met. -/
theorem test_write_commands_complete :
    (∃ (s : State) (o : Origin) (v : Nat),
      s.inReset = false ∧
      (o = .pf0 ∨ o = .mspi)) ∧
    (∃ (s : State) (o : Origin),
      s.inReset = false ∧
      (s.glb.unlocks.any (fun u => u.origin == o && decide (2 ≤ u.edges)) = true)) ∧
    (∃ (s : State) (o : Origin) (a v : Nat),
      s.inReset = false ∧
      o ≠ .pf1 ∧
      s.glb.voteFailed = [] ∧
      a ∈ [0x10014, 0x10030, 0x20020, 0x30024, 0x30028, 0x300A0, 0x80008, 0xC0010, 0x100010, 0x110008]) ∧
    (∃ (s : State) (o : Origin),
      s.inReset = false ∧
      o ≠ .pf1) ∧
    (∃ (s : State) (o : Origin) (k v : Nat),
      s.inReset = false ∧
      o ≠ .pf1 ∧
      k < 4 ∧
      s.flag SYN.SYN_STATUS_BUSY = false) ∧
    (∃ (s : State) (o : Origin) (n v lo : Nat),
      s.inReset = false ∧
      o ≠ .pf1 ∧
      n < 16 ∧
      s.flag SYN.SYN_STATUS_BUSY = false ∧
      (s.glb.stagedLo.find? (fun q => q.1 == 0x130404 + 0x20 * n) = some (0x130404 + 0x20 * n, lo)) ∧
      4 ≤ v % 4 * 2 ^ 32 + lo ∧
      s.syn.outs.length = 16) ∧
    (∃ (s : State) (o : Origin) (ch v : Nat) (presc : Bool),
      s.inReset = false ∧
      o ≠ .pf1 ∧
      ch < 48 ∧
      s.flag TDC.TDC_STATUS_BUSY = false) ∧
    (∃ (s : State) (o : Origin) (m v : Nat),
      s.inReset = false ∧
      o ≠ .pf1 ∧
      m < 64 ∧
      s.glb.voteFailed = [] ∧
      bits v 20 2 = 0 ∧
      s.tdc.wins.length = 64) ∧
    (∃ (s : State) (o : Origin) (p v : Nat),
      s.inReset = false ∧
      o ≠ .pf1 ∧
      p < 8 ∧
      s.flag (MAC.PORT_STATUS_BUSY p) = false ∧
      s.mac.ports.length = 8) ∧
    (∃ (s : State) (o : Origin) (p v : Nat),
      s.inReset = false ∧
      o ≠ .pf1 ∧
      p < 8 ∧
      s.flag (MAC.PORT_STATUS_BUSY p) = false) ∧
    (∃ (s : State) (o : Origin) (p v : Nat),
      s.inReset = false ∧
      o ≠ .pf1 ∧
      p < 8 ∧
      s.glb.voteFailed = []) ∧
    (∃ (s : State) (o : Origin) (v : Nat),
      s.inReset = false ∧
      o ≠ .pf1 ∧
      bitOf v 31 = true) ∧
    (∃ (s : State) (p : Nat) (w : PostedWrite),
      s.inReset = false ∧
      p < 8 ∧
      (s.glb.posted.find? (fun x => x.addr == 0x1800D0 + 0x4000 * p) = some w)) ∧
    (∃ (s : State) (ch : Nat) (w : PostedWrite),
      s.inReset = false ∧
      ch < 48 ∧
      (s.glb.posted.find? (fun x => x.addr == 0x40100 + 0x20 * ch) = some w)) :=
  ⟨⟨ready, .pf0, 0xC0A7,
    by decide +kernel, by decide +kernel⟩,
   ⟨{ ready with glb := { unlocks := [⟨.mspi, 2⟩, ⟨.pf0, 0⟩] } }, .mspi,
    by decide +kernel, by decide +kernel⟩,
   ⟨ready, .pf0, 0x20020, 0xFFFFFFFF,
    by decide +kernel, by decide +kernel, by decide +kernel, by decide +kernel⟩,
   ⟨(at_ ready 98765432123456), .pf0,
    by decide +kernel, by decide +kernel⟩,
   ⟨ready, .pf0, 2, 3,
    by decide +kernel, by decide +kernel, by decide +kernel, by decide +kernel⟩,
   ⟨{ ready with glb := { stagedLo := [(0x130464, 9)] } }, .pf0, 3, 1, 9,
    by decide +kernel, by decide +kernel, by decide +kernel, by decide +kernel, by decide +kernel, by decide +kernel, by decide +kernel⟩,
   ⟨(winState { isOpen := true, startCh := 7, mask := 255 } [(TDC.WIN_CFG_ARM 5, 1)]), .pf0, 7, 7, true,
    by decide +kernel, by decide +kernel, by decide +kernel, by decide +kernel⟩,
   ⟨(winState { isOpen := true } [(TDC.WIN_CFG_ARM 5, 1)]), .pf0, 5, 7,
    by decide +kernel, by decide +kernel, by decide +kernel, by decide +kernel, by decide +kernel, by decide +kernel⟩,
   ⟨(ported (withRegs [(MAC.PORT_STATUS_LINK 1, 2)]) { replies := [{ cls := 2, since := 0, len := 94, body := .ntp ntpQ }] }), .pf0, 1, 1,
    by decide +kernel, by decide +kernel, by decide +kernel, by decide +kernel, by decide +kernel⟩,
   ⟨(withRegs [(MAC.PORT_STATUS_LINK 1, 2)]), .pf0, 1, 1,
    by decide +kernel, by decide +kernel, by decide +kernel, by decide +kernel⟩,
   ⟨(withRegs [(MAC.PORT_STATUS_LINK 1, 2)]), .pf0, 1, 0xF03,
    by decide +kernel, by decide +kernel, by decide +kernel, by decide +kernel⟩,
   ⟨ready, .pf0, 0x80000003,
    by decide +kernel, by decide +kernel, by decide +kernel⟩,
   ⟨{ withRegs [(MAC.PORT_STATUS_MOD_STATE 1, 3), (MAC.PORT_CFG_RATE 1, 1)] with glb := { posted := [⟨0x1840D0, 2, .pf0⟩] } }, 1, ⟨0x1840D0, 2, .pf0⟩,
    by decide +kernel, by decide +kernel, by decide +kernel⟩,
   ⟨{ ready with glb := { posted := [⟨0x401E0, 0x200, .pf0⟩] } }, 7, ⟨0x401E0, 0x200, .pf0⟩,
    by decide +kernel, by decide +kernel, by decide +kernel⟩⟩

/-- The hypotheses of Obligations.RingCommandsComplete are met. -/
theorem test_ring_commands_complete :
    (∃ (s : State) (o : Origin) (n v : Nat) (view : PcieView),
      s.inReset = false ∧
      o ≠ .pf1 ∧
      n ≤ 63 ∧
      s.glb.voteFailed = [] ∧
      s.flag (HIF.RING_CFG_ENABLE n) = false ∧
      s.ringLegal v = true) ∧
    (∃ (s : State) (o : Origin) (n v : Nat),
      s.inReset = false ∧
      o ≠ .pf1 ∧
      n ≤ 63 ∧
      s.glb.voteFailed = [] ∧
      s.flag (HIF.RING_CFG_ENABLE n) = true) ∧
    (∃ (s : State) (fn n c : Nat) (view : PcieView) (d : List Byte) (block data : DmaIn),
      s.inReset = false ∧
      n ≤ 63 ∧
      s.get (HIF.RING_CFG_FN n) = fn ∧
      s.ringRuns n = true ∧
      s.get (HIF.RING_CFG_TYPE n) = 7 ∧
      fn ≤ 1 ∧
      view.bme0 = true ∧
      view.bme1 = true ∧
      (c + 2 ^ 32 - s.get (HIF.RING_CONS n)) % 2 ^ 32 ≤ s.ringSize n ∧
      (c + 2 ^ 32 - s.get (HIF.RING_PROD n)) % 2 ^ 32 ≤ s.ringSize n ∧
      c < 2 ^ 32 ∧
      c ≠ s.get (HIF.RING_PROD n) ∧
      s.descOk n (s.get (HIF.RING_PROD n)) d = true) ∧
    (∃ (s : State) (fn n c : Nat) (view : PcieView) (ds : List RingIn),
      s.inReset = false ∧
      n ≤ 63 ∧
      s.get (HIF.RING_CFG_FN n) = fn ∧
      s.ringRuns n = true ∧
      hostWrites (s.get (HIF.RING_CFG_TYPE n)) = false ∧
      (s.get (HIF.RING_CFG_TYPE n) = 10 → s.get (HIF.RING_CFG_PAIR n) ≠ n) ∧
      (s.get (HIF.RING_PROD n) + 2 ^ 32 - c) % 2 ^ 32 ≤ s.ringSize n ∧
      (c + 2 ^ 32 - s.get (HIF.RING_CONS n)) % 2 ^ 32 ≤ s.ringSize n ∧
      c < 2 ^ 32) ∧
    (∃ (s : State) (fn n c : Nat) (view : PcieView) (ds : List RingIn),
      s.inReset = false ∧
      (63 < n ∨ s.get (HIF.RING_CFG_FN n) ≠ fn)) ∧
    (∃ (s : State) (n : Nat) (r : MeasRec),
      s.inReset = false ∧
      s.hif.compl = [] ∧
      s.hif.events = [] ∧
      s.ringOf 4 = some n ∧
      s.tdc.staged = [r] ∧
      s.ringRoom n r.entries = true ∧
      s.tdc.gap = false ∧
      s.vatc.poison = [] ∧
      (∀ i < r.entries, s.vatMay 1 (s.measSlot i) 32 false = true) ∧
      (s.charge 3 (40 + 10 * (r.entries - 1))).isSome = true) ∧
    (∃ (s : State) (n : Nat),
      s.inReset = false ∧
      n ≤ 63) :=
  ⟨⟨ready, .pf0, 5, 0x80000C06, {},
    by decide +kernel, by decide +kernel, by decide +kernel, by decide +kernel, by decide +kernel, by decide +kernel⟩,
   ⟨{ ring 5 1 [] with held := [⟨.nop {}, 3, 0, 0, some 5⟩, ⟨.nop {}, 3, 1, 0, some 5⟩, ⟨.nop {}, 3, 0, 0, some 6⟩] }, .pf0, 5, 0,
    by decide +kernel, by decide +kernel, by decide +kernel, by decide +kernel, by decide +kernel⟩,
   ⟨(ring 5 7 [(HIF.RING_CFG_FN 5, 0)]), 0, 5, 1, {}, (let d := List.replicate 18 0 ++ [100, 3] ++ List.replicate 11 0; d ++ leBytes 1 (hostType 7 + if (ring 5 7 []).ringPhase 5 0 then 0x80 else 0)), {}, {},
    by decide +kernel, by decide +kernel, by decide +kernel, by decide +kernel, by decide +kernel, by decide +kernel, by decide +kernel, by decide +kernel, by decide +kernel, by decide +kernel, by decide +kernel, by decide +kernel, by decide +kernel⟩,
   ⟨(ring 5 3 [(HIF.RING_PROD 5, 7), (HIF.RING_CONS 5, 3)]), 0, 5, 6, {}, [],
    by decide +kernel, by decide +kernel, by decide +kernel, by decide +kernel, by decide +kernel, by decide +kernel, by decide +kernel, by decide +kernel, by decide +kernel⟩,
   ⟨ready, 1, 5, 6, {}, [],
    by decide +kernel, by decide +kernel⟩,
   ⟨{ ring 5 4 [(HIF.HIF_STATUS_PF0_BME, 1)] with tdc := { staged := [rec1] } }, 5, rec1,
    by decide +kernel, by decide +kernel, by decide +kernel, by decide +kernel, by decide +kernel, by decide +kernel, by decide +kernel, by decide +kernel, by decide +kernel, by decide +kernel⟩,
   ⟨{ ring 5 10 [(HIF.RING_MOD_TIME_US 5, 5), (HIF.RING_CFG_IRQ_EN 5, 1)] with hif := { rings := setNth ready.hif.rings 5 { unsignalled := 3 } } }, 5,
    by decide +kernel, by decide +kernel⟩⟩

/-- The hypotheses of Obligations.InterruptCommandsComplete are met. -/
theorem test_interrupt_commands_complete :
    (∃ (s : State) (v x : Nat),
      s.inReset = false ∧
      v ≤ 64 ∧
      (s.charge 3 10).isSome = true ∧
      s.topSource v = some x) ∧
    (∃ (s : State) (v : Nat),
      s.inReset = false ∧
      v ≤ 64 ∧
      (s.charge 3 10).isSome = true ∧
      s.topSource v = none) ∧
    (∃ (s : State) (o : Origin) (v n : Nat),
      s.inReset = false ∧
      o ≠ .pf1 ∧
      v ≤ 64 ∧
      ((nth s.irq.claims v []).any (fun c => c.source == n % 512) = true)) ∧
    (∃ (s : State) (v : Nat),
      s.inReset = false ∧
      v ≤ 63) ∧
    (∃ (s : State) (o : Origin) (x v : Nat),
      s.inReset = false ∧
      o ≠ .pf1 ∧
      x < 512 ∧
      s.glb.voteFailed = [] ∧
      s.flag (IRQ.SRC_CFG_CLAIMED x) = false) :=
  ⟨⟨(pend 300 []), 9, 300,
    by decide +kernel, by decide +kernel, by decide +kernel, by decide +kernel⟩,
   ⟨ready, 9,
    by decide +kernel, by decide +kernel, by decide +kernel, by decide +kernel⟩,
   ⟨{ withRegs [(IRQ.SRC_CFG_CLAIMED 300, 1)] with irq := { claims := setNth ready.irq.claims 9 [⟨300, 8⟩] } }, .pf0, 9, 300,
    by decide +kernel, by decide +kernel, by decide +kernel, by decide +kernel⟩,
   ⟨(withRegs [(IRQ.VEC_STAT_PBA 9, 1)]), 9,
    by decide +kernel, by decide +kernel⟩,
   ⟨ready, .pf0, 300, 0x28089,
    by decide +kernel, by decide +kernel, by decide +kernel, by decide +kernel, by decide +kernel⟩⟩

/-- The hypotheses of Obligations.FaultCommandsComplete are met. -/
theorem test_fault_commands_complete :
    (∃ (s : State) (o : Origin) (w v : Nat),
      s.inReset = false ∧
      o ≠ .pf1 ∧
      w ≤ 3) ∧
    (∃ (s : State) (o : Origin) (v : Nat),
      s.inReset = false ∧
      o ≠ .pf1 ∧
      (s.useUnlock o).1 = true ∧
      bitOf v 0 = true ∧
      s.get FLT.FLT_STATUS_STAGE ≠ 0 ∧
      (∀ f ∈ List.range 24, s.fbit FLT.FLT_ACTIVE f = true → s.fbit FLT.FLT_ACKED f = true ∨ s.get (FLT.FLT_CFG f) = 0)) ∧
    (∃ (s : State) (o : Origin) (w v : Nat),
      s.inReset = false ∧
      o ≠ .pf1 ∧
      w ≤ 3 ∧
      s.glb.voteFailed = [] ∧
      (regHas (0x210060 + 4 * w) .rwl = true → (s.useUnlock o).1 = true)) ∧
    (∃ (s : State) (o : Origin) (w v : Nat),
      s.inReset = false ∧
      o ≠ .pf1 ∧
      w ≤ 3 ∧
      s.glb.voteFailed = [] ∧
      (regHas (0x210070 + 4 * w) .rwl = true → (s.useUnlock o).1 = true)) ∧
    (∃ (s : State) (pair : Nat) (equal : Bool),
      s.inReset = false ∧
      1 ≤ pair ∧
      pair ≤ 127) ∧
    (∃ s : State,
      s.inReset = false ∧
      s.flag FLT.FLT_STATUS_TIMER_RUN = true ∧
      s.pressing = true ∧
      s.get FLT.FLT_STATUS_STAGE < 3) ∧
    (∃ s : State,
      s.inReset = false ∧
      s.reaches (s.flt.pulseAt + (s.get FLT.FAULTN_CFG_PULSE_US * 65536000 : Nat)) = true) ∧
    (∃ (s : State) (e : Int),
      s.inReset = false ∧
      s.couch.drillEnd = some e ∧
      s.reaches e = true) :=
  ⟨⟨(forced 5 []), .pf0, 0, 0xFFFFFFFF,
    by decide +kernel, by decide +kernel, by decide +kernel⟩,
   ⟨(unlocked { withRegs [(FLT.FLT_STATUS_STAGE, 2)] with flt := { squelch := true } } .pf0), .pf0, 1,
    by decide +kernel, by decide +kernel, by decide +kernel, by decide +kernel, by decide +kernel, by decide +kernel⟩,
   ⟨(unlocked ready .pf0), .pf0, 0, 0xFF00FF,
    by decide +kernel, by decide +kernel, by decide +kernel, by decide +kernel, by decide +kernel⟩,
   ⟨(unlocked ready .pf0), .pf0, 0, 0xFF00FF,
    by decide +kernel, by decide +kernel, by decide +kernel, by decide +kernel, by decide +kernel⟩,
   ⟨ready, 7, true,
    by decide +kernel, by decide +kernel, by decide +kernel⟩,
   ⟨(forced 5 [(FLT.FLT_STATUS_TIMER_RUN, 1), (FLT.FLT_CFG 5, 3)]),
    by decide +kernel, by decide +kernel, by decide +kernel, by decide +kernel⟩,
   ⟨{ withRegs [(FLT.FLT_STATUS_PULSE, 1), (FLT.FLT_STATUS_FAULT_N, 1)] with flt := { pulseAt := -(secU : Nat) } },
    by decide +kernel, by decide +kernel⟩,
   ⟨{ withRegs [(COUCH.PAIR_STATUS_STATE, 3)] with couch := { drillEnd := some (-5) }, glb := { mode := 2 } }, (-5),
    by decide +kernel, by decide +kernel, by decide +kernel⟩⟩

/-- The hypotheses of Obligations.RecordCommandsComplete are met. -/
theorem test_record_commands_complete :
    (∃ (s : State) (o : Origin) (v : Nat),
      s.inReset = false ∧
      o ≠ .pf1 ∧
      s.flag REAM.REAM_CFG = true ∧
      bitOf v 0 = true ∧
      0 < s.reamReady ∧
      s.flag REAM.REAM_STATUS_GAP_OPEN = false) ∧
    (∃ (s : State) (o : Origin) (v : Nat),
      s.inReset = false ∧
      o ≠ .pf1 ∧
      s.flag SIZING.SIZ_STATUS_BUSY = false ∧
      (s.useUnlock o).1 = true ∧
      s.mode ≤ 1 ∧
      s.sizingRuns = false ∧
      (s.charge 3 400).isSome = true) ∧
    (∃ (s : State) (o : Origin) (v : Nat) (b : List Byte),
      s.inReset = false ∧
      o ≠ .pf1 ∧
      bitOf v 0 = true ∧
      s.flag SIZING.SIZ_STATUS_BUSY = false ∧
      (s.charge 3 400).isSome = true ∧
      s.bankItem (s.flag SIZING.SIZ_ITEM_BANK) (s.get SIZING.SIZ_ITEM_ITEM) = some b) ∧
    (∃ (s : State) (o : Origin) (v : Nat),
      s.inReset = false ∧
      o ≠ .pf1 ∧
      bitOf v 0 = true ∧
      s.flag SIZING.SIZ_STATUS_BUSY = false ∧
      (s.charge 3 400).isSome = true ∧
      s.bankItem (s.flag SIZING.SIZ_ITEM_BANK) (s.get SIZING.SIZ_ITEM_ITEM) = none) :=
  ⟨⟨{ withRegs [(REAM.REAM_CFG, 1)] with ream := { entries := [reamE, reamE] } }, .pf0, 1,
    by decide +kernel, by decide +kernel, by decide +kernel, by decide +kernel, by decide +kernel, by decide +kernel⟩,
   ⟨(unlocked (withBuf ready (item 0x201)) .pf0), .pf0, 0x201,
    by decide +kernel, by decide +kernel, by decide +kernel, by decide +kernel, by decide +kernel, by decide +kernel, by decide +kernel⟩,
   ⟨{ withRegs [(SIZING.SIZ_ITEM_BANK, 1), (SIZING.SIZ_ITEM_ITEM, 0x201)] with siz := { user := [⟨0x201, 5, 9, List.replicate 32 3⟩] } }, .pf0, 1, (itemBytes 0x201 5 9 (List.replicate 32 3)),
    by decide +kernel, by decide +kernel, by decide +kernel, by decide +kernel, by decide +kernel, by decide +kernel⟩,
   ⟨(withRegs [(SIZING.SIZ_ITEM_BANK, 1), (SIZING.SIZ_ITEM_ITEM, 0x201)]), .pf0, 1,
    by decide +kernel, by decide +kernel, by decide +kernel, by decide +kernel, by decide +kernel, by decide +kernel⟩⟩

/-- The hypotheses of Obligations.MspiCommandsComplete are met. -/
theorem test_mspi_commands_complete :
    (∃ (s : State) (v : Nat),
      s.inReset = false ∧
      bitOf v 0 = false) ∧
    (∃ (s : State) (v : Nat) (h : Hdr),
      s.Accepts h true 0 ∧
      h.origin = .mspi ∧
      bitOf v 0 = true ∧
      s.flag HIF.HIF_STATUS_MB_BUSY = false ∧
      s.mbCommand s.hif.mbDesc = .nop h) ∧
    (∃ (s : State) (op a : Nat) (l : List Nat) (ok : Bool),
      s.inReset = false ∧
      (ok = false ∨ a % 4 ≠ 0 ∨ (op ≠ 2 ∧ op ≠ 3))) ∧
    (∃ (s : State) (a v : Nat),
      s.inReset = false ∧
      s.glb.voteFailed = [] ∧
      a ∈ [0x10014, 0x10030, 0x20020, 0x30024, 0x30028, 0x300A0, 0x80008, 0xC0010, 0x100010, 0x110008]) ∧
    (∃ (s : State) (a : Nat),
      s.inReset = false ∧
      a ∈ [0x0, 0x10014, 0x10030, 0x20020, 0x30024, 0x30028, 0x300A0, 0x80008, 0xC0010, 0x100010, 0x110008]) :=
  ⟨⟨ready, 2,
    by decide +kernel, by decide +kernel⟩,
   ⟨{ ready with hif := { mbDesc := [1, 0] ++ List.replicate 30 0 } }, 3, { origin := .mspi },
    accepts_of (by decide +kernel), by decide +kernel, by decide +kernel, by decide +kernel, by decide +kernel⟩,
   ⟨ready, 7, 0, [1], true,
    by decide +kernel, by decide +kernel⟩,
   ⟨ready, 0x20020, 0xFFFFFFFF,
    by decide +kernel, by decide +kernel, by decide +kernel⟩,
   ⟨ready, 0x20020,
    by decide +kernel, by decide +kernel⟩⟩

/-- The hypotheses of Obligations.StartCommandsComplete are met. -/
theorem test_start_commands_complete :
    (∃ s : State,
      s.inReset = false) ∧
    (∃ (s : State) (cold : Bool) (k : KeepIn),
      s.running = false ∧
      s.flag VAT.VAT_STATUS_INIT_DONE = false) ∧
    (∃ (s : State) (ratios : List Nat) (sel : Nat),
      s.inReset = false ∧
      s.running = false ∧
      s.flag VAT.VAT_STATUS_INIT_DONE = true ∧
      s.flag SYN.SYN_STATUS_OSC_ACT = false ∧
      s.oscRow ratios = some sel) ∧
    (∃ (s : State) (e : EdgeIn) (met : Nat) (rest : Int),
      s.inReset = false ∧
      s.mayBegin met = true ∧
      s.held = [] ∧
      s.hif.marks = [] ∧
      s.glb.edgeWrites = []) ∧
    (∃ s : State,
      s.inReset = false) ∧
    (∃ (s : State) (fn : Nat),
      s.inReset = false ∧
      fn ≤ 1) :=
  ⟨⟨(keyed 5 kdk [(HOLD.EFC_INIT, 5)]),
    by decide +kernel⟩,
   ⟨State.reset, true, {},
    by decide +kernel, by decide +kernel⟩,
   ⟨{ withRegs [(VAT.VAT_STATUS_INIT_DONE, 1)] with running := false }, (List.replicate 8 (ratioOf 2).floor.toNat), 2,
    by decide +kernel, by decide +kernel, by decide +kernel, by decide +kernel, by decide +kernel⟩,
   ⟨{ withRegs [(VAT.VAT_STATUS_INIT_DONE, 1), (SYN.SYN_STATUS_OSC_ACT, 1), (SYN.SYN_STATUS_SP_LOCK, 1)] with running := false, syn := { spLockAt := some (-(10 * secU : Nat)) } }, {}, 987654321, 5,
    by decide +kernel, by decide +kernel, by decide +kernel, by decide +kernel, by decide +kernel⟩,
   ⟨(ring 5 3 []),
    by decide +kernel⟩,
   ⟨(ring 5 3 [(HIF.RING_CFG_FN 5, 1)]), 1,
    by decide +kernel, by decide +kernel⟩⟩

/-- The hypotheses of Obligations.ClockEventsComplete are met. -/
theorem test_clock_events_complete :
    (∃ (s : State) (diff : Int),
      s.inReset = false ∧
      s.flag SYN.SYN_STATUS_SP_LOCK = true) ∧
    (∃ s : State,
      s.inReset = false ∧
      s.flag SYN.SYN_STATUS_SP_LOCK = false ∧
      s.flag SYN.SYN_STATUS_OSC_ACT = true) ∧
    (∃ (s : State) (rest : Int),
      s.inReset = false ∧
      s.running = true ∧
      s.flag SYN.SYN_STATUS_SP_LOCK = true ∧
      s.flag SYN.SYN_STATUS_SP_IN_SERVICE = false ∧
      s.lockHeld ((s.time.next : Int) - s.units) = true) ∧
    (∃ s : State,
      s.inReset = false ∧
      s.refFrozen = true ∧
      s.get REFSEL.REFSEL_CFG_FREEZE_SHEETS < s.ref.frozen) ∧
    (∃ (s : State) (ratio : Option Nat),
      s.inReset = false ∧
      s.flag SYN.SYN_STATUS_OSC_ACT = true ∧
      (ratio.any (fun r => !s.oscOff r) = false)) ∧
    (∃ (s : State) (off : Int),
      s.inReset = false ∧
      s.flag SYN.SYN_STATUS_OSC_ACT = false ∧
      s.syn.seenAct = true ∧
      8000 ≤ s.syn.oscClean) ∧
    (∃ (s : State) (k : Nat),
      s.inReset = false ∧
      k < 4 ∧
      s.calLocked k = true) ∧
    (∃ (s : State) (k : Nat),
      s.inReset = false ∧
      k < 4 ∧
      s.get (SYN.CAL_STAT_STATE k) = 1 ∧
      s.flag SYN.SYN_STATUS_OSC_ACT = true) ∧
    (∃ (s : State) (n : Nat),
      s.inReset = false ∧
      n < 16 ∧
      s.flag (SYN.OUT_STAT_HELD_LOW n) = true ∧
      s.calLocked (s.get (SYN.OUT_CFG_SRC n)) = true ∧
      (s.outAligned n = false ∨ (s.flag TIME.TIME_STATUS_COARSE = false ∧ (nth s.syn.outs n {}).since ≤ (s.units + secU / 2) / secU * secU))) ∧
    (∃ (s : State) (k : Nat),
      s.inReset = false ∧
      k < 4 ∧
      ((nth s.syn.ppsHeld k none).all (fun r => !s.flag TIME.TIME_STATUS_COARSE && decide ((r : Int) ≤ ((s.nearSec (unitsOfPs (s.geti (SYN.PPS_OFF k))) * secU : Nat) : Int) + unitsOfPs (s.geti (SYN.PPS_OFF k)))) = true) ∧
      s.wholeHz (s.get (SYN.PPS_CFG_SRC k)) = true ∧
      s.calLocked (s.get (SYN.PPS_CFG_SRC k)) = true ∧
      s.squelchAll = false ∧
      bitOf (s.getT SYN.OUT_EN_PPS) k = true) ∧
    (∃ (s : State) (k sec : Nat),
      s.inReset = false ∧
      k < 4 ∧
      sec = s.nearSec (unitsOfPs (s.geti (SYN.PPS_OFF (s.get (SYN.TOD_CFG_PPS k)))) + nsU (s.get (SYN.TOD_DELAY k) * 1000000)) + 1 ∧
      s.squelchAll = false ∧
      bitOf (s.getT SYN.OUT_EN_TOD) k = true ∧
      s.ppsSends (s.get (SYN.TOD_CFG_PPS k)) = true ∧
      nth s.syn.todNamed k 0 ≠ sec) :=
  ⟨⟨(withRegs [(SYN.SYN_STATUS_SP_LOCK, 1), (SYN.SYN_STATUS_SP_IN_SERVICE, 1)]), 7,
    by decide +kernel, by decide +kernel⟩,
   ⟨(withRegs [(SYN.SYN_STATUS_OSC_ACT, 1)]),
    by decide +kernel, by decide +kernel, by decide +kernel⟩,
   ⟨{ withRegs [(SYN.SYN_STATUS_SP_LOCK, 1), (SYN.SYN_STATUS_SP_IN_SERVICE, 0)] with syn := { spLockAt := some (-(10 * secU : Nat)) } }, 9,
    by decide +kernel, by decide +kernel, by decide +kernel, by decide +kernel, by decide +kernel⟩,
   ⟨{ withRegs [(SYN.SYN_STATUS_SP_IN_SERVICE, 0), (REFSEL.REFSEL_STATUS_CLOCK_STATE, 2), (REFSEL.REFSEL_CFG_FREEZE_SHEETS, 5)] with ref := { frozen := 6 } },
    by decide +kernel, by decide +kernel, by decide +kernel⟩,
   ⟨(withRegs [(SYN.SYN_STATUS_OSC_ACT, 1), (SYN.SYN_STATUS_SP_LOCK, 1), (SYN.CAL_STAT_STATE 2, 2)]), (some 77),
    by decide +kernel, by decide +kernel, by decide +kernel⟩,
   ⟨{ withRegs [(SYN.SYN_STATUS_OSC_ACT, 0)] with syn := { seenAct := true, oscClean := 8000 } }, 77,
    by decide +kernel, by decide +kernel, by decide +kernel, by decide +kernel⟩,
   ⟨(withRegs [(SYN.CAL_STAT_STATE 2, 2), (SYN.OUT_CFG_SRC 3, 2)]), 2,
    by decide +kernel, by decide +kernel, by decide +kernel⟩,
   ⟨(withRegs [(SYN.CAL_STAT_STATE 2, 1), (SYN.SYN_STATUS_OSC_ACT, 1)]), 2,
    by decide +kernel, by decide +kernel, by decide +kernel, by decide +kernel⟩,
   ⟨(withRegs [(SYN.CAL_STAT_STATE 2, 2), (SYN.OUT_CFG_SRC 3, 2), (SYN.OUT_STAT_HELD_LOW 3, 1)]), 3,
    by decide +kernel, by decide +kernel, by decide +kernel, by decide +kernel, by decide +kernel⟩,
   ⟨(at_ (clocked [(REFSEL.REFSEL_STATUS_CLOCK_STATE, 2), (SYN.PPS_WIDTH 1, 5)]) 6553600000000000), 1,
    by decide +kernel, by decide +kernel, by decide +kernel, by decide +kernel, by decide +kernel, by decide +kernel, by decide +kernel⟩,
   ⟨(at_ (clocked [(REFSEL.REFSEL_STATUS_CLOCK_STATE, 2)]) 6553600000000000), 1, 101,
    by decide +kernel, by decide +kernel, by decide +kernel, by decide +kernel, by decide +kernel, by decide +kernel, by decide +kernel⟩⟩

/-- The hypotheses of Obligations.KeepAliveEventsComplete are met. -/
theorem test_keep_alive_events_complete :
    (∃ (s : State) (p : TampIn) (ka : Nat),
      s.tamperArmed p ≠ 0) ∧
    (∃ (s : State) (p : TampIn) (ka : Nat),
      s.tamperArmed p = 0) ∧
    (∃ s : State,
      s.inReset = false ∧
      s.flag LEDGER.WARN_CFG_WARN_EN = true ∧
      s.flag LEDGER.LEDGER_STATUS_EMERG = false) ∧
    (∃ s : State,
      s.inReset = false) ∧
    (∃ s : State,
      s.inReset = false ∧
      s.flag LEDGER.LEDGER_STATUS_EMERG = true ∧
      s.flag LEDGER.LEDGER_STATUS_WARN_PIN = true ∧
      s.reaches (s.ledger.highAt + (s.get LEDGER.WARN_CFG_WARN_HOLD_MS * 65536000000 : Nat)) = true) ∧
    (∃ (s : State) (i ka : Nat),
      i < 16) ∧
    (∃ (s : State) (i : Nat),
      s.inReset = false ∧
      i < 16 ∧
      (nth s.keep.latches i {}).edges ≠ 0 ∧
      (nth s.keep.latches i {}).edges < 256) ∧
    (∃ (s : State) (n a : Nat),
      s.inReset = false ∧
      (s.time.kaCopy.any (fun (p : KaPair) => (p.wide / 65536000000000 : Int) == s.targetUnits (a % 2 ^ 64) / 65536000000000) = false) ∧
      s.flag TIME.TIME_STATUS_SET = true ∧
      s.flag TIME.TIME_STATUS_COARSE = false) ∧
    (∃ (s : State) (n a : Nat),
      s.inReset = false ∧
      (s.time.kaCopy.any (fun (p : KaPair) => (p.wide / 65536000000000 : Int) == s.targetUnits (a % 2 ^ 64) / 65536000000000) = false) ∧
      (s.flag TIME.TIME_STATUS_SET = false ∨ s.flag TIME.TIME_STATUS_COARSE = true)) ∧
    (∃ s : State,
      s.inReset = false) ∧
    (∃ s : State,
      s.inReset = false ∧
      (s.flag LEDGER.WARN_CFG_WARN_EN = false ∨ s.flag LEDGER.LEDGER_STATUS_EMERG = true)) :=
  ⟨⟨(keyed 5 kdk [(KEY.KEY_STAGE 3, 77), (KEEP.TAMP_CFG_EN, 15), (KEEP.TAMP_CFG_MON_VOLT, 1)]), { vkeepMv := 2200 }, 99,
    by decide +kernel⟩,
   ⟨ready, {}, 99,
    by decide +kernel⟩,
   ⟨(withRegs [(LEDGER.WARN_CFG_WARN_EN, 1)]),
    by decide +kernel, by decide +kernel, by decide +kernel⟩,
   ⟨ready,
    by decide +kernel⟩,
   ⟨{ withRegs [(LEDGER.LEDGER_STATUS_EMERG, 1), (LEDGER.LEDGER_STATUS_WARN_PIN, 1), (LEDGER.WARN_CFG_WARN_HOLD_MS, 1)] with ledger := { ready.ledger with highAt := -(secU : Nat) } },
    by decide +kernel, by decide +kernel, by decide +kernel, by decide +kernel⟩,
   ⟨ready, 3, 99,
    by decide +kernel⟩,
   ⟨{ ready with keep := { latches := setNth ready.keep.latches 3 { time := 5, edges := 2 } } }, 3,
    by decide +kernel, by decide +kernel, by decide +kernel, by decide +kernel⟩,
   ⟨(withRegs [(TIME.TIME_STATUS_SET, 1), (TIME.TIME_STATUS_COARSE, 0)]), 5, 9999999,
    by decide +kernel, by decide +kernel, by decide +kernel, by decide +kernel⟩,
   ⟨ready, 5, 9,
    by decide +kernel, by decide +kernel, by decide +kernel⟩,
   ⟨{ ready with time := { kaWinStart := some ⟨5, 900000, 9⟩, kaCopy := some ⟨999, 90000000000, 9⟩ } },
    by decide +kernel⟩,
   ⟨(withRegs [(LEDGER.WARN_CFG_WARN_EN, 0)]),
    by decide +kernel, by decide +kernel⟩⟩

/-- The hypotheses of Obligations.ConditionEventsComplete are met. -/
theorem test_condition_events_complete :
    (∃ s : State,
      s.inReset = false ∧
      s.flag TIME.TIME_STATUS_LEAP_ARMED = true ∧
      s.targetUnits (s.get TIME.LEAP_TARGET) - (s.get TIME.LEAP_WARN : Int) * 65536000000000 ≤ s.time.next) ∧
    (∃ (s : State) (rails : List Nat) (us : Nat),
      s.inReset = false) ∧
    (∃ (s : State) (temp : Int),
      s.inReset = false) :=
  ⟨⟨(withRegs [(TIME.TIME_STATUS_LEAP_ARMED, 1)]),
    by decide +kernel, by decide +kernel, by decide +kernel⟩,
   ⟨ready, [700, 800, 900, 1800, 3300], 1,
    by decide +kernel⟩,
   ⟨ready, 1841,
    by decide +kernel⟩⟩

/-- The hypotheses of Obligations.FrameArrivalsComplete are met. -/
theorem test_frame_arrivals_complete :
    (∃ (s : State) (p : Nat) (b : List Byte) (at_ : Nat),
      s.inReset = false ∧
      p < 8 ∧
      s.get (MAC.PORT_CFG_RATE p) ≠ 3 ∧
      s.get (MAC.PORT_STATUS_LINK p) = 2) ∧
    (∃ (s : State) (p : Nat) (b : List Byte) (at_ : Nat),
      s.inReset = false ∧
      p < 8 ∧
      s.get (MAC.PORT_CFG_RATE p) ≠ 3 ∧
      s.get (MAC.PORT_STATUS_LINK p) = 2 ∧
      (b.length + 4 < 64 ∨ s.get (MAC.PORT_CFG_MAX_FRAME p) < b.length + 4)) ∧
    (∃ (s : State) (p : Nat) (b : List Byte) (at_ : Nat),
      s.inReset = false ∧
      p < 8 ∧
      s.get (MAC.PORT_CFG_RATE p) ≠ 3 ∧
      s.get (MAC.PORT_STATUS_LINK p) = 2 ∧
      64 ≤ b.length + 4 ∧
      b.length + 4 ≤ s.get (MAC.PORT_CFG_MAX_FRAME p) ∧
      s.mac.ports.length = 8 ∧
      s.headRule p b ∈ [1, 3, 8, 9]) ∧
    (∃ (s : State) (p : Nat) (b : List Byte) (at_ : Nat),
      s.inReset = false ∧
      p < 8 ∧
      s.get (MAC.PORT_CFG_RATE p) ≠ 3 ∧
      s.get (MAC.PORT_STATUS_LINK p) = 2 ∧
      64 ≤ b.length + 4 ∧
      b.length + 4 ≤ s.get (MAC.PORT_CFG_MAX_FRAME p) ∧
      s.headRule p b ∈ [2, 10]) ∧
    (∃ (s : State) (p : Nat) (b : List Byte) (at_ : Nat),
      s.inReset = false ∧
      p < 8 ∧
      s.get (MAC.PORT_CFG_RATE p) ≠ 3 ∧
      s.get (MAC.PORT_STATUS_LINK p) = 2 ∧
      64 ≤ b.length + 4 ∧
      b.length + 4 ≤ s.get (MAC.PORT_CFG_MAX_FRAME p) ∧
      s.mac.ports.length = 8 ∧
      4 ≤ s.headRule p b ∧
      s.headRule p b ≤ 7 ∧
      2 ≤ s.mode ∧
      s.execMode ≠ 5 ∧
      (s.headRule p b ≤ 5 → ptpTypes.contains (ptpParse ⟨s.headRule p b, b, ((at_ : Int) - s.portSize p 3).toNat, s.flag TIME.TIME_STATUS_COARSE⟩).type = true) ∧
      (((s.port p).rx.filter (fun x => decide (4 ≤ x.rule) && decide (x.rule ≤ 7))).length < 2048) ∧
      ((((s.port p).rx.filter (fun x => decide (4 ≤ x.rule) && decide (x.rule ≤ 7))).map (fun x => rxRoom x.bytes)).foldl (· + ·) (rxRoom b) ≤ 131072)) ∧
    (∃ (s : State) (p : Nat) (b : List Byte) (at_ : Nat),
      s.inReset = false ∧
      p < 8 ∧
      s.get (MAC.PORT_CFG_RATE p) ≠ 3 ∧
      s.get (MAC.PORT_STATUS_LINK p) = 2 ∧
      64 ≤ b.length + 4 ∧
      b.length + 4 ≤ s.get (MAC.PORT_CFG_MAX_FRAME p) ∧
      4 ≤ s.headRule p b ∧
      s.headRule p b ≤ 7 ∧
      s.mode ≤ 1) :=
  ⟨⟨(up []), 1, [], 65536000,
    by decide +kernel, by decide +kernel, by decide +kernel, by decide +kernel⟩,
   ⟨(up []), 1, [1,2,3], 65536000,
    by decide +kernel, by decide +kernel, by decide +kernel, by decide +kernel, by decide +kernel⟩,
   ⟨(up []), 1, (pauseB 5), 65536000,
    by decide +kernel, by decide +kernel, by decide +kernel, by decide +kernel, by decide +kernel, by decide +kernel, by decide +kernel, by decide +kernel⟩,
   ⟨(up []), 1, (eth ucast 0x8808 [1,1]), 65536000,
    by decide +kernel, by decide +kernel, by decide +kernel, by decide +kernel, by decide +kernel, by decide +kernel, by decide +kernel⟩,
   ⟨(upm 2 [(MAC.HB_CFG_PTP_L2 1, 1)]), 1, (eth ucast 0x88F7 (syncMsg 1 44 (List.replicate 10 0))), 65536000,
    by decide +kernel, by decide +kernel, by decide +kernel, by decide +kernel, by decide +kernel, by decide +kernel, by decide +kernel, by decide +kernel, by decide +kernel, by decide +kernel, by decide +kernel, by decide +kernel, by decide +kernel, by decide +kernel⟩,
   ⟨(up [(MAC.HB_CFG_PTP_L2 1, 1)]), 1, (eth ucast 0x88F7 (syncMsg 1 44 (List.replicate 10 0))), 65536000,
    by decide +kernel, by decide +kernel, by decide +kernel, by decide +kernel, by decide +kernel, by decide +kernel, by decide +kernel, by decide +kernel, by decide +kernel⟩⟩

/-- The hypotheses of Obligations.PauseEventsComplete are met. -/
theorem test_pause_events_complete :
    (∃ (s : State) (p : Nat) (r : RxFrame),
      s.inReset = false ∧
      p < 8 ∧
      s.mac.ports.length = 8 ∧
      (s.port p).rx.find? (isRule 1) = some r ∧
      (s.charge 1 30).isSome = true) ∧
    (∃ (s : State) (p e : Nat),
      s.inReset = false ∧
      p < 8 ∧
      s.mac.ports.length = 8 ∧
      (s.port p).pauseEnd = some e ∧
      e ≤ s.time.next) ∧
    (∃ (s : State) (p e : Nat),
      s.inReset = false ∧
      p < 8 ∧
      s.mac.ports.length = 8 ∧
      s.flag (MAC.PORT_STATUS_PAUSED p) = true ∧
      (s.port p).pauseEnd = some e ∧
      (s.port p).pauseFrom + nsU (1000 * s.get (MAC.PAUSE_CFG_WD_US p)) < e ∧
      (s.port p).pauseFrom + nsU (1000 * s.get (MAC.PAUSE_CFG_WD_US p)) < s.time.next) ∧
    (∃ (s : State) (p e : Nat),
      s.inReset = false ∧
      p < 8 ∧
      s.mac.ports.length = 8 ∧
      (s.port p).overrideEnd = some e ∧
      e ≤ s.time.next) ∧
    (∃ (s : State) (p : Nat),
      s.inReset = false ∧
      p < 8 ∧
      s.flag (MAC.EEE_CFG_EN p) = true ∧
      (s.get (MAC.EEE_CFG_LINK_KIND p) = 1 ∨ s.get (MAC.EEE_CFG_LINK_KIND p) = 2) ∧
      s.get (MAC.PORT_STATUS_LINK p) = 2 ∧
      s.flag (MAC.PORT_STATUS_LPI_TX p) = false ∧
      (s.port p).unsched = [] ∧
      s.flag SHEET.SHEET_STATUS_PENDING = false ∧
      nextLaunch (s.look p) s.units = none ∧
      (s.port p).wireFree ≤ s.units) ∧
    (∃ (s u : State) (p : Nat),
      s.inReset = false ∧
      p < 8 ∧
      s.mac.ports.length = 8 ∧
      s.flag (MAC.PORT_STATUS_LPI_TX p) = true ∧
      u = s.advanceTo (min (s.wakeFrom p) s.time.next)) :=
  ⟨⟨(rxd (up [(MAC.PAUSE_CFG_RX_EN 1, 1)]) ⟨1, pauseB 5, 65536000, false⟩), 1, ⟨1, pauseB 5, 65536000, false⟩,
    by decide +kernel, by decide +kernel, by decide +kernel, by decide +kernel, by decide +kernel⟩,
   ⟨(far <| ported (up [(MAC.PORT_STATUS_PAUSED 1, 1)]) { pauseEnd := some 77777 }), 1, 77777,
    by decide +kernel, by decide +kernel, by decide +kernel, by decide +kernel, by decide +kernel⟩,
   ⟨(far <| ported (up [(MAC.PORT_STATUS_PAUSED 1, 1), (MAC.PAUSE_CFG_WD_US 1, 1)]) { pauseEnd := some 77777000000 }), 1, 77777000000,
    by decide +kernel, by decide +kernel, by decide +kernel, by decide +kernel, by decide +kernel, by decide +kernel, by decide +kernel⟩,
   ⟨(far <| ported (up [(MAC.PORT_STATUS_PAUSE_OVERRIDE 1, 1)]) { overrideEnd := some 777 }), 1, 777,
    by decide +kernel, by decide +kernel, by decide +kernel, by decide +kernel, by decide +kernel⟩,
   ⟨(up [(MAC.EEE_CFG_EN 1, 1), (MAC.EEE_CFG_LINK_KIND 1, 1)]), 1,
    by decide +kernel, by decide +kernel, by decide +kernel, by decide +kernel, by decide +kernel, by decide +kernel, by decide +kernel, by decide +kernel, by decide +kernel, by decide +kernel⟩,
   ⟨(up [(MAC.PORT_STATUS_LPI_TX 1, 1)]), ((up [(MAC.PORT_STATUS_LPI_TX 1, 1)]).advanceTo (min ((up [(MAC.PORT_STATUS_LPI_TX 1, 1)]).wakeFrom 1) (up [(MAC.PORT_STATUS_LPI_TX 1, 1)]).time.next)), 1,
    by decide +kernel, by decide +kernel, by decide +kernel, by decide +kernel, by decide +kernel⟩⟩

/-- The hypotheses of Obligations.RequestMessagesComplete are met. -/
theorem test_request_messages_complete :
    (∃ (s : State) (p n : Nat) (r : RxFrame) (c : Client),
      s.Waiting p (isPtp [1]) 1 300 r ∧
      s.TakesPtp p (ptpParse r) (some (n, c)) ∧
      (ptpParse r).group = false ∧
      c.valid = true ∧
      c.stale = false ∧
      c.dual = false ∧
      s.live c 9 = true ∧
      ((if c.seen = s.taiSec % 65536 then c.dresp.cnt else 0) < drespLimit c.dresp.log) ∧
      n < 1048576 ∧
      s.vat.wf = true ∧
      s.vatMay 7 (64 * n) 64 true = true) ∧
    (∃ (s : State) (p : Nat) (r : RxFrame) (c : Found),
      s.Waiting p (isPtp [2]) 1 300 r ∧
      s.TakesPtp p (ptpParse r) c ∧
      (ptpParse r).transport = 0 ∧
      s.get PTP.PTP_CFG_PROFILE = 0 ∧
      bitOf (s.get PTP.PTP_CFG_P2P_MASK) p = true ∧
      s.ptp.pdelay.length = 8 ∧
      ((if (nth s.ptp.pdelay p (0, 0)).1 = s.taiSec then (nth s.ptp.pdelay p (0, 0)).2 else 0) < s.get PTP.PDELAY_CFG)) ∧
    (∃ (s : State) (p n off : Nat) (v : List Byte) (r : RxFrame) (c : Client),
      s.Waiting p (isPtp [0xC]) 1 300 r ∧
      s.TakesPtp p (ptpParse r) (some (n, c)) ∧
      s.get PTP.PTP_CFG_PROFILE ≠ 1 ∧
      (cut (ptpParse r).msg 34 10 = List.replicate 10 0xFF ∨ cut (ptpParse r).msg 34 10 = s.portId p) ∧
      s.get PTP.NEG_PENDING < 4096 ∧
      c.stale = false ∧
      c.dual = false ∧
      (ptpParse r).tlvs = [(4, off, v)] ∧
      6 ≤ v.length ∧
      beAt v 0 1 / 16 ∈ [0, 9, 0xB] ∧
      s.logOk (beAt v 0 1 / 16) (s8 (beAt v 1 1)) = true ∧
      ((match s.boundPool n c with | some i => s.fits i p (beAt v 0 1 / 16) (s8 (beAt v 1 1)) | none => s.ptp.byHost.contains n) = true)) ∧
    (∃ (s : State) (p n off : Nat) (v : List Byte) (r : RxFrame) (c : Client),
      s.Waiting p (isPtp [0xC]) 1 300 r ∧
      s.TakesPtp p (ptpParse r) (some (n, c)) ∧
      s.get PTP.PTP_CFG_PROFILE ≠ 1 ∧
      (cut (ptpParse r).msg 34 10 = List.replicate 10 0xFF ∨ cut (ptpParse r).msg 34 10 = s.portId p) ∧
      s.get PTP.NEG_PENDING < 4096 ∧
      c.stale = false ∧
      c.dual = false ∧
      (ptpParse r).tlvs = [(6, off, v)] ∧
      beAt v 0 1 / 16 ∈ [0, 9, 0xB] ∧
      s.upFrom p (ptpParse r) = none) ∧
    (∃ (s : State) (p : Nat) (r : RxFrame) (c : Found),
      s.Waiting p (isPtp [0xD]) 1 300 r ∧
      s.TakesPtp p (ptpParse r) c) :=
  ⟨⟨(served_ [] (fr 4 (ptpB 1 (List.replicate 10 0)))), 1, 70, (fr 4 (ptpB 1 (List.replicate 10 0))), rec0,
    by unfold State.Waiting; decide +kernel, by unfold State.TakesPtp; decide +kernel, by decide +kernel, by decide +kernel, by decide +kernel, by decide +kernel, by decide +kernel, by decide +kernel, by decide +kernel, by decide +kernel, by decide +kernel⟩,
   ⟨(serve [(PTP.PTP_CFG_P2P_MASK, 2)] (fr 4 (ptpB 2 (List.replicate 20 0)))), 1, (fr 4 (ptpB 2 (List.replicate 20 0))), none,
    by unfold State.Waiting; decide +kernel, by unfold State.TakesPtp; decide +kernel, by decide +kernel, by decide +kernel, by decide +kernel, by decide +kernel, by decide +kernel⟩,
   ⟨(served_ [] (fr 4 (sigT [0, 4, 0, 6, 0x90, 0, 0, 0, 0, 99]))), 1, 70, 44, [0x90, 0, 0, 0, 0, 99], (fr 4 (sigT [0, 4, 0, 6, 0x90, 0, 0, 0, 0, 99])), rec0,
    by unfold State.Waiting; decide +kernel, by unfold State.TakesPtp; decide +kernel, by decide +kernel, by decide +kernel, by decide +kernel, by decide +kernel, by decide +kernel, by decide +kernel, by decide +kernel, by decide +kernel, by decide +kernel, by decide +kernel⟩,
   ⟨(served_ [] (fr 4 (sigT [0, 6, 0, 2, 0x90, 0]))), 1, 70, 44, [0x90, 0], (fr 4 (sigT [0, 6, 0, 2, 0x90, 0])), rec0,
    by unfold State.Waiting; decide +kernel, by unfold State.TakesPtp; decide +kernel, by decide +kernel, by decide +kernel, by decide +kernel, by decide +kernel, by decide +kernel, by decide +kernel, by decide +kernel, by decide +kernel⟩,
   ⟨(serve [] (fr 4 (ptpB 0xD (List.replicate 14 0)))), 1, (fr 4 (ptpB 0xD (List.replicate 14 0))), none,
    by unfold State.Waiting; decide +kernel, by unfold State.TakesPtp; decide +kernel⟩⟩

/-- The hypotheses of Obligations.AddressMessagesComplete are met. -/
theorem test_address_messages_complete :
    (∃ (s : State) (p : Nat) (r : RxFrame) (u : UdpIn) (x : List (Nat × Nat × List Byte)),
      s.Waiting p (isRule 6) 2 300 r ∧
      servingMode s.mode = true ∧
      udpParse (ethParse r.bytes) = some u ∧
      48 ≤ u.payload.length ∧
      u.payload.length ≤ 1024 ∧
      (beAt u.payload 0 1 / 8 % 8 = 3 ∨ beAt u.payload 0 1 / 8 % 8 = 4) ∧
      beAt u.payload 0 1 % 8 = 3 ∧
      extWalk u.payload u.payload.length 48 = some x ∧
      (x.any (fun f => [0x0104, 0x0204, 0x0304, 0x0404].contains f.1) = false) ∧
      s.flag NTS.NTS_CFG_PLAIN_EN = true ∧
      (s.flag NTS.NTS_CFG_RL_EN = true → s.hasToken (s.rateNow (s.bucketOf u.v6 u.src)).1 = true)) ∧
    (∃ (s : State) (p : Nat) (r : RxFrame),
      s.Waiting p (isArp true) 2 300 r ∧
      servingMode s.mode = true ∧
      beAt (ethParse r.bytes).payload 0 6 = 0x000108000604 ∧
      beAt (ethParse r.bytes).payload 6 2 = 1 ∧
      (s.ta4 p).contains (cut (ethParse r.bytes).payload 24 4) = true ∧
      ((s.ta4 p).contains (cut (ethParse r.bytes).payload 14 4) = false ∨ cut (ethParse r.bytes).payload 8 6 = s.portMac p)) ∧
    (∃ (s : State) (p : Nat) (r : RxFrame) (q : Nat × List Byte × List Byte),
      s.Waiting p (isArp false) 2 300 r ∧
      servingMode s.mode = true ∧
      icmpParse (ethParse r.bytes) = some q ∧
      q.1 = 255 ∧
      (s.ta6 p).contains (cut q.2.2 8 16) = true ∧
      beAt q.2.2 0 1 = 135) ∧
    (∃ (s : State) (p : Nat) (r : RxFrame) (q : Nat × Nat),
      s.Waiting p (isRule 3) 1 500 r ∧
      esmcParse (ethParse r.bytes).payload = some q) ∧
    (∃ (s : State) (p : Nat) (r : RxFrame),
      s.Waiting p (isRule 3) 1 500 r ∧
      esmcParse (ethParse r.bytes).payload = none) ∧
    (∃ (s : State) (p : Nat),
      s.inReset = false ∧
      s.mac.ports.length = 8 ∧
      s.esmcOn p = true ∧
      ((if (s.port p).esmcSec = s.taiSec then (s.port p).esmcN else 0) < 10)) ∧
    (∃ (s : State) (p : Nat),
      s.inReset = false ∧
      s.mac.ports.length = 8 ∧
      s.esmcOn p = true ∧
      (s.port p).qlDue = true ∧
      ((if (s.port p).esmcSec = s.taiSec then (s.port p).esmcN else 0) < 10)) :=
  ⟨⟨(serve ((NTS.NTS_CFG_PLAIN_EN, 1) :: ta) (fr 6 (udp4 [10,0,0,1] [10,0,0,2] 5000 123 (0x23 :: List.replicate 47 0)))), 1, (fr 6 (udp4 [10,0,0,1] [10,0,0,2] 5000 123 (0x23 :: List.replicate 47 0))), ⟨false, [10,0,0,1], [10,0,0,2], 5000, 123, 0x23 :: List.replicate 47 0⟩, [],
    by unfold State.Waiting; decide +kernel, by decide +kernel, by decide +kernel, by decide +kernel, by decide +kernel, by decide +kernel, by decide +kernel, by decide +kernel, by decide +kernel, by decide +kernel, by decide +kernel⟩,
   ⟨(serve ta (fr 7 arpReq)), 1, (fr 7 arpReq),
    by unfold State.Waiting; decide +kernel, by decide +kernel, by decide +kernel, by decide +kernel, by decide +kernel, by decide +kernel⟩,
   ⟨(serve ta (fr 7 (nsB (List.replicate 16 0)))), 1, (fr 7 (nsB (List.replicate 16 0))), (255, List.replicate 16 0, [135,0,0,0,0,0,0,0] ++ (beBytes 4 5 ++ List.replicate 12 0)),
    by unfold State.Waiting; decide +kernel, by decide +kernel, by decide +kernel, by decide +kernel, by decide +kernel, by decide +kernel⟩,
   ⟨(serve [] (fr 3 (esmcB 4))), 1, (fr 3 (esmcB 4)), (4, 255),
    by unfold State.Waiting; decide +kernel, by decide +kernel⟩,
   ⟨(serve [] (fr 3 (eth ucast 0x8809 [10]))), 1, (fr 3 (eth ucast 0x8809 [10])),
    by unfold State.Waiting; decide +kernel, by decide +kernel⟩,
   ⟨(up [(REFSEL.TX_QL_CFG2_ESMC_TX_EN, 2)]), 1,
    by decide +kernel, by decide +kernel, by decide +kernel, by decide +kernel⟩,
   ⟨(ported (up [(REFSEL.TX_QL_CFG2_ESMC_TX_EN, 2)]) { qlDue := true }), 1,
    by decide +kernel, by decide +kernel, by decide +kernel, by decide +kernel, by decide +kernel⟩⟩

/-- The hypotheses of Obligations.HostFramesComplete are met. -/
theorem test_host_frames_complete :
    (∃ (s : State) (p : Nat) (r : RxFrame),
      s.Waiting p (isRule 8) 3 (150 + 8 * ((r.bytes.length + 63) / 64)) r) ∧
    (∃ (s : State) (p : Nat) (r : RxFrame),
      s.Waiting p (isRule 9) 3 (150 + 8 * ((r.bytes.length + 63) / 64)) r) ∧
    (∃ (s : State) (n : Nat) (f : RxHold),
      s.inReset = false ∧
      (s.hif.rxHeld.filter (fun g => g.ring == n) = [f]) ∧
      s.get HIF.HIF_CFG_RX_STALL_SHEETS ≤ f.stall) ∧
    (∃ (s : State) (x : TxIn) (fs : List (List Byte)),
      s.inReset = false ∧
      s.ringRuns x.ring = true ∧
      s.get (HIF.RING_CFG_TYPE x.ring) = 8 ∧
      s.ringBme x.ring = true ∧
      (s.charge 3 (txStock x)).isSome = true ∧
      x.descs ≤ 64 ∧
      x.port < 8 ∧
      s.mac.ports.length = 8 ∧
      bitOf (s.get (HIF.RING_CFG_PORT_MASK x.ring)) x.port = true ∧
      x.dmaOk = true ∧
      s.txFrames x = some fs ∧
      s.get (MAC.PORT_CFG_RATE x.port) ≠ 3 ∧
      s.get (MAC.PORT_STATUS_LINK x.port) = 2) ∧
    (∃ (s u : State) (p time : Nat) (f : UFrame),
      s.inReset = false ∧
      p < 8 ∧
      s.mac.ports.length = 8 ∧
      s.get (MAC.PORT_CFG_RATE p) ≠ 3 ∧
      s.get (MAC.PORT_STATUS_LINK p) = 2 ∧
      u = s.advanceTo (min time s.time.next) ∧
      (((List.range 8).reverse.filterMap (fun tc => (s.port p).head tc)).find? (u.mayStart p u.units) = some f) ∧
      f.kind = .plain) :=
  ⟨⟨(serve [] (fr 8 (eth ucast 0x88CC ([0xFE, 12, 0, 0x12, 0x0F, 5, 0, 17, 0, 18] ++ List.replicate 4 0)))), 1, (fr 8 (eth ucast 0x88CC ([0xFE, 12, 0, 0x12, 0x0F, 5, 0, 17, 0, 18] ++ List.replicate 4 0))),
    by unfold State.Waiting; decide +kernel⟩,
   ⟨(serve [] (fr 9 (eth ucast 0x0800 []))), 1, (fr 9 (eth ucast 0x0800 [])),
    by unfold State.Waiting; decide +kernel⟩,
   ⟨(let s := withRegs (rxRing []); { s with hif := { s.hif with rxHeld := [⟨6, [1,2], [], 1, 0, 5, 0, 0, 9, 2, 90000⟩, ⟨7, [1,2], [], 1, 0, 5, 0, 0, 9, 2, 0⟩] } }), 6, ⟨6, [1,2], [], 1, 0, 5, 0, 0, 9, 2, 90000⟩,
    by decide +kernel, by decide +kernel, by decide +kernel⟩,
   ⟨(txRing []), txin, [List.replicate 60 8],
    by decide +kernel, by decide +kernel, by decide +kernel, by decide +kernel, by decide +kernel, by decide +kernel, by decide +kernel, by decide +kernel, by decide +kernel, by decide +kernel, by decide +kernel, by decide +kernel, by decide +kernel⟩,
   ⟨(ported (up [(MAC.GATE_STATE 1, 255)]) { unsched := [{ tc := 2, engine := false, bytes := List.replicate 60 8 }] }), (((ported (up [(MAC.GATE_STATE 1, 255)]) { unsched := [{ tc := 2, engine := false, bytes := List.replicate 60 8 }] })).advanceTo 0), 1, 0, { tc := 2, engine := false, bytes := List.replicate 60 8 },
    by decide +kernel, by decide +kernel, by decide +kernel, by decide +kernel, by decide +kernel, by decide +kernel, by decide +kernel, by decide +kernel⟩⟩

/-- The hypotheses of Obligations.UpstreamCommandsComplete are met. -/
theorem test_upstream_commands_complete :
    (∃ (s : State) (p k : Nat) (r : RxFrame) (c : Found),
      s.Waiting p (isPtp [0xB]) 1 300 r ∧
      s.TakesPtp p (ptpParse r) c ∧
      s.upFrom p (ptpParse r) = some k ∧
      s.ptp.up.masters.length = 4) ∧
    (∃ (s : State) (p k : Nat) (r : RxFrame) (c : Found),
      s.Waiting p (isPtp [0, 8]) 1 300 r ∧
      s.TakesPtp p (ptpParse r) c ∧
      s.upFrom p (ptpParse r) = some k ∧
      s.upChosen = some k ∧
      (ptpParse r).type = 0 ∧
      msgTwoStep (ptpParse r) = false) ∧
    (∃ (s : State) (p k : Nat) (r : RxFrame) (c : Found),
      s.Waiting p (isPtp [0, 8]) 1 300 r ∧
      s.TakesPtp p (ptpParse r) c ∧
      s.upFrom p (ptpParse r) = some k ∧
      s.upChosen = some k ∧
      (ptpParse r).type = 0 ∧
      msgTwoStep (ptpParse r) = true) ∧
    (∃ (s : State) (p k : Nat) (r : RxFrame) (c : Found) (w : UpSync),
      s.Waiting p (isPtp [0, 8]) 1 300 r ∧
      s.TakesPtp p (ptpParse r) c ∧
      s.upFrom p (ptpParse r) = some k ∧
      s.upChosen = some k ∧
      (ptpParse r).type = 8 ∧
      s.ptp.up.wait = some w ∧
      w.master = k ∧
      w.seq = beAt (ptpParse r).msg 30 2) ∧
    (∃ (s : State) (p k : Nat) (r : RxFrame) (c : Found) (q : UpReq) (f : Int),
      s.Waiting p (isPtp [9, 3, 0xA]) 1 300 r ∧
      s.TakesPtp p (ptpParse r) c ∧
      (ptpParse r).type = 9 ∧
      s.upFrom p (ptpParse r) = some k ∧
      s.ptp.up.req = some q ∧
      s.upP2p = false ∧
      q.master = k ∧
      beAt (ptpParse r).msg 30 2 = q.seq ∧
      cut (ptpParse r).msg 44 10 = s.portId p ∧
      s.ptp.up.fwd = some f) ∧
    (∃ (s : State) (p : Nat) (r : RxFrame) (c : Found) (q : UpReq),
      s.Waiting p (isPtp [9, 3, 0xA]) 1 300 r ∧
      s.TakesPtp p (ptpParse r) c ∧
      (ptpParse r).type = 3 ∧
      (ptpParse r).transport = 0 ∧
      s.upRuns = true ∧
      p = s.get PTP.UP_CFG_PORT ∧
      s.upP2p = true ∧
      s.ptp.up.req = some q ∧
      beAt (ptpParse r).msg 30 2 = q.seq ∧
      cut (ptpParse r).msg 44 10 = s.portId p ∧
      msgTwoStep (ptpParse r) = false) ∧
    (∃ (s : State) (k : Nat),
      s.inReset = false ∧
      s.upRuns = true ∧
      s.get PTP.UP_CFG_PORT < 8 ∧
      s.mac.ports.length = 8 ∧
      s.get (MAC.PORT_STATUS_LINK (s.get PTP.UP_CFG_PORT)) = 2 ∧
      (s.upP2p = true ∨ s.upChosen = some k)) ∧
    (∃ (s : State) (k type : Nat),
      s.inReset = false ∧
      s.upRuns = true ∧
      s.flag PTP.UP_CFG_NEGOTIATE = true ∧
      k ≤ 3 ∧
      s.flag (PTP.UP_MCFG_EN k) = true ∧
      type ∈ [0, 9, 0xB] ∧
      (((upGrantOf type).bind (fun i => nth (s.upM k).grants i none)).any (fun e => !s.reaches (e - ((s.get PTP.UP_CFG2_UP_DURATION * secU / 2 : Nat) : Int))) = false) ∧
      s.get PTP.UP_CFG_PORT < 8 ∧
      s.mac.ports.length = 8 ∧
      s.get (MAC.PORT_STATUS_LINK (s.get PTP.UP_CFG_PORT)) = 2) ∧
    (∃ (s : State) (k : Nat),
      s.inReset = false ∧
      k < 4 ∧
      s.ptp.up.masters.length = 4 ∧
      ((s.upM k).ann.any (fun a => a.log == 127 || s.reaches ((s.upM k).annAt + 3 * a.interval)) = true)) :=
  ⟨⟨(upst [] {} (fr 4 annB)), 1, 2, (fr 4 annB), none,
    by unfold State.Waiting; decide +kernel, by unfold State.TakesPtp; decide +kernel, by decide +kernel, by decide +kernel⟩,
   ⟨(upst chosen2 { masters := [{}, {}, { ann := some ann0 }, {}], delays := [5] } (fr 4 (follow 0 0))), 1, 2, (fr 4 (follow 0 0)), none,
    by unfold State.Waiting; decide +kernel, by unfold State.TakesPtp; decide +kernel, by decide +kernel, by decide +kernel, by decide +kernel, by decide +kernel⟩,
   ⟨(upst chosen2 { masters := [{}, {}, { ann := some ann0 }, {}], delays := [5] } (fr 4 (follow 0 0x200))), 1, 2, (fr 4 (follow 0 0x200)), none,
    by unfold State.Waiting; decide +kernel, by unfold State.TakesPtp; decide +kernel, by decide +kernel, by decide +kernel, by decide +kernel, by decide +kernel⟩,
   ⟨(upst chosen2 { masters := [{}, {}, { ann := some ann0 }, {}], delays := [5], wait := some ⟨2, 9, 65536, 0, none⟩ } (fr 4 (follow 8 0))), 1, 2, (fr 4 (follow 8 0)), none, ⟨2, 9, 65536, 0, none⟩,
    by unfold State.Waiting; decide +kernel, by unfold State.TakesPtp; decide +kernel, by decide +kernel, by decide +kernel, by decide +kernel, by decide +kernel, by decide +kernel, by decide +kernel⟩,
   ⟨(upst chosen2 { fwd := some 6, req := some { master := 2, seq := 9, sent := 77 } } (fr 4 (resp 9 (ready.portId 1)))), 1, 2, (fr 4 (resp 9 (ready.portId 1))), none, { master := 2, seq := 9, sent := 77 }, 6,
    by unfold State.Waiting; decide +kernel, by unfold State.TakesPtp; decide +kernel, by decide +kernel, by decide +kernel, by decide +kernel, by decide +kernel, by decide +kernel, by decide +kernel, by decide +kernel, by decide +kernel⟩,
   ⟨(upst ((PTP.UP_CFG_P2P, 1) :: chosen2) { fwd := some 6, req := some { master := 2, seq := 9, sent := 77 } } (fr 4 (resp 3 (ready.portId 1)))), 1, (fr 4 (resp 3 (ready.portId 1))), none, { master := 2, seq := 9, sent := 77 },
    by unfold State.Waiting; decide +kernel, by unfold State.TakesPtp; decide +kernel, by decide +kernel, by decide +kernel, by decide +kernel, by decide +kernel, by decide +kernel, by decide +kernel, by decide +kernel, by decide +kernel, by decide +kernel⟩,
   ⟨(upst0 chosen2 { reqSeq := 65535 }), 2,
    by decide +kernel, by decide +kernel, by decide +kernel, by decide +kernel, by decide +kernel, by decide +kernel⟩,
   ⟨(upst0 ((PTP.UP_CFG_NEGOTIATE, 1) :: chosen2) { sigSeq := 5 }), 2, 9,
    by decide +kernel, by decide +kernel, by decide +kernel, by decide +kernel, by decide +kernel, by decide +kernel, by decide +kernel, by decide +kernel, by decide +kernel, by decide +kernel⟩,
   ⟨(upst0 chosen2 { masters := [{}, {}, { ann := some ann0, annAt := -(100 * secU : Nat) }, {}] }), 2,
    by decide +kernel, by decide +kernel, by decide +kernel, by decide +kernel⟩⟩

/-- The hypotheses of Obligations.PairEventsComplete are met. -/
theorem test_pair_events_complete :
    (∃ s : State,
      s.inReset = false ∧
      s.flag COUCH.PAIR_CFG_EN = true ∧
      s.flag COUCH.PAIR_STATUS_REF_BAD = false ∧
      s.couch.locked = false) ∧
    (∃ (s : State) (at_ : Nat) (seg b : List Byte) (h : CouchHead),
      s.inReset = false ∧
      s.couch.locked = true ∧
      s.flag COUCH.PAIR_CFG_EN = true ∧
      s.flag COUCH.PAIR_STATUS_REF_BAD = false ∧
      segOpen seg = some b ∧
      CouchHead.ofBytes b = some h ∧
      h.kind = 0 ∧
      h.version = 1 ∧
      h.mode ≠ 5) ∧
    (∃ (s : State) (at_ : Nat) (segs : List (List Byte)),
      s.inReset = false ∧
      s.couch.locked = true ∧
      s.mode ≠ 5) ∧
    (∃ (s : State) (at_ : Nat) (segs : List (List Byte)) (b : List Byte) (h : CouchHead),
      s.inReset = false ∧
      s.couch.locked = true ∧
      s.mode = 5 ∧
      (goodSegs segs).1.head? = some b ∧
      CouchHead.ofBytes b = some h ∧
      h.kind = 1 ∧
      h.version = 1) ∧
    (∃ (s : State) (at_ : Nat) (seg b : List Byte) (h : CouchHead),
      s.inReset = false ∧
      s.couch.locked = true ∧
      s.mode ≠ 5 ∧
      s.flag COUCH.PAIR_CFG_EN = true ∧
      s.flag COUCH.PAIR_STATUS_REF_BAD = false ∧
      segOpen seg = some b ∧
      CouchHead.ofBytes b = some h ∧
      h.kind = 2 ∧
      h.version = 1 ∧
      bitOf h.flags 4 = false) ∧
    (∃ s : State,
      s.inReset = false ∧
      s.frameMissing = true) ∧
    (∃ (s : State) (changed equal : Bool),
      s.inReset = false ∧
      s.mode = 5 ∧
      s.flag COUCH.PAIR_CFG_EN = true ∧
      s.flag COUCH.PAIR_STATUS_REF_BAD = false) ∧
    (∃ (s : State) (readback arb : Bool),
      s.inReset = false ∧
      servingMode s.mode = true ∧
      s.flag COUCH.PAIR_CFG_EN = true ∧
      s.flag COUCH.PAIR_STATUS_CONFLICT = false ∧
      (readback = true ∨ s.couch.foreign = true ∨ s.get COUCH.PAIR_CFG_ACT_CONFLICT ≤ s.couch.actHigh)) ∧
    (∃ (s : State) (readback arb : Bool),
      s.inReset = false ∧
      servingMode s.mode = true ∧
      s.flag COUCH.PAIR_CFG_EN = true ∧
      s.flag COUCH.PAIR_STATUS_CONFLICT = true ∧
      (readback = true ∨ s.couch.foreign = true ∨ s.get COUCH.PAIR_CFG_ACT_CONFLICT ≤ s.couch.actHigh)) ∧
    (∃ (s : State) (arb act : Bool),
      s.inReset = false) :=
  ⟨⟨(couchS 5 [] {}),
    by decide +kernel, by decide +kernel, by decide +kernel, by decide +kernel⟩,
   ⟨(couchS 5 [(COUCH.PAIR_STATUS_STATE, 1), (COUCH.PAIR_STATUS_LINK, 2), (COUCH.PAIR_CFG_PRIO, 1)] { locked := true }), 5, (segBytes (hello { kind := 0, mode := 2, seq := 6 })), (hello { kind := 0, mode := 2, seq := 6 }), { kind := 0, mode := 2, seq := 6 },
    by decide +kernel, by decide +kernel, by decide +kernel, by decide +kernel, by decide +kernel, by decide +kernel, by decide +kernel, by decide +kernel, by decide +kernel⟩,
   ⟨(couchS 2 [] { locked := true }), 5, [],
    by decide +kernel, by decide +kernel, by decide +kernel⟩,
   ⟨(couchS 5 [(COUCH.PAIR_STATUS_STATE, 2), (COUCH.PAIR_STATUS_LINK, 3)] { locked := true }), 5, [segBytes ({ kind := 1, flags := 1, mode := 2, seq := 6 } : CouchHead).bytes], ({ kind := 1, flags := 1, mode := 2, seq := 6 } : CouchHead).bytes, ({ kind := 1, flags := 1, mode := 2, seq := 6 } : CouchHead),
    by decide +kernel, by decide +kernel, by decide +kernel, by decide +kernel, by decide +kernel, by decide +kernel, by decide +kernel⟩,
   ⟨(couchS 2 [(COUCH.PAIR_STATUS_STATE, 1), (COUCH.PAIR_STATUS_LINK, 2)] { locked := true }), 5, (segBytes (ret { kind := 2, mode := 5, state := 2, seq := 6 })), (ret { kind := 2, mode := 5, state := 2, seq := 6 }), { kind := 2, mode := 5, state := 2, seq := 6 },
    by decide +kernel, by decide +kernel, by decide +kernel, by decide +kernel, by decide +kernel, by decide +kernel, by decide +kernel, by decide +kernel, by decide +kernel, by decide +kernel⟩,
   ⟨(couchS 5 [(COUCH.PAIR_STATUS_STATE, 3), (COUCH.PAIR_STATUS_LINK, 3)] { locked := true, flowing := true }),
    by decide +kernel, by decide +kernel⟩,
   ⟨(couchS 5 [(COUCH.PAIR_STATUS_STATE, 3), (COUCH.PAIR_STATUS_LINK, 3)] { locked := true, hbGood := 7 }), true, false,
    by decide +kernel, by decide +kernel, by decide +kernel, by decide +kernel⟩,
   ⟨(couchS 2 [] { foreign := true, peerId := some 5 }), false, true,
    by decide +kernel, by decide +kernel, by decide +kernel, by decide +kernel, by decide +kernel⟩,
   ⟨(couchS 2 [(COUCH.PAIR_STATUS_CONFLICT, 1)] { foreign := true, peerId := some 5 }), false, true,
    by decide +kernel, by decide +kernel, by decide +kernel, by decide +kernel, by decide +kernel⟩,
   ⟨(couchS 5 [(COUCH.PAIR_STATUS_STATE, 6), (COUCH.PAIR_STATUS_PROMOTABLE, 1), (COUCH.PAIR_CFG_AUTO_PROMOTE, 1)] { peerMode := 2 }), true, false,
    by decide +kernel⟩⟩

/-- The hypotheses of Obligations.HandoverEventsComplete are met. -/
theorem test_handover_events_complete :
    (∃ (s : State) (x : HandRun),
      s.inReset = false ∧
      s.couch.hand = some x ∧
      s.sheetNo + 1 = x.sheet ∧
      x.accepted = true ∧
      servingMode s.mode = true) ∧
    (∃ (s : State) (x : HandRun),
      s.inReset = false ∧
      s.couch.hand = some x ∧
      s.sheetNo + 1 = x.sheet ∧
      x.accepted = false) ∧
    (∃ (s : State) (x : HandRun),
      s.inReset = false ∧
      s.mode ≠ 5 ∧
      s.couch.hand = some x ∧
      s.sheetNo = x.sheet ∧
      s.couch.handing = true ∧
      servingMode s.mode = true ∧
      s.flag COUCH.PAIR_CFG_EN = true ∧
      s.flag COUCH.PAIR_STATUS_REF_BAD = false) ∧
    (∃ (s : State) (m dwell : Nat),
      s.inReset = false ∧
      s.mode = 5 ∧
      s.couch.final = some (m, s.taiSheet, dwell) ∧
      servingMode m = true) ∧
    (∃ s : State,
      s.inReset = false ∧
      s.mode = 5 ∧
      s.couch.byHandover = some s.sheetNo ∧
      s.couch.firstReturn = some true) ∧
    (∃ (s : State) (n : Nat),
      s.inReset = false ∧
      s.couch.heldFrom = some n ∧
      n + 2 ≤ s.sheetNo) :=
  ⟨⟨(couchS 2 [] { hand := some ⟨none, .auto, 1, 0, true⟩ }), ⟨none, .auto, 1, 0, true⟩,
    by decide +kernel, by decide +kernel, by decide +kernel, by decide +kernel, by decide +kernel⟩,
   ⟨(couchS 2 [(COUCH.PAIR_STATUS_HANDOVER_PENDING, 1)] { hand := some ⟨some mspi, .mspi, 1, 0, false⟩ }), ⟨some mspi, .mspi, 1, 0, false⟩,
    by decide +kernel, by decide +kernel, by decide +kernel, by decide +kernel⟩,
   ⟨(couchS 2 [(COUCH.PAIR_STATUS_HANDOVER_PENDING, 1)] { hand := some ⟨some mspi, .mspi, 0, 0, true⟩, handing := true }), ⟨some mspi, .mspi, 0, 0, true⟩,
    by decide +kernel, by decide +kernel, by decide +kernel, by decide +kernel, by decide +kernel, by decide +kernel, by decide +kernel, by decide +kernel⟩,
   ⟨(couchS 5 [(COUCH.PAIR_STATUS_STATE, 3)] { final := some (2, 0, 60), block := some {} }), 2, 60,
    by decide +kernel, by decide +kernel, by decide +kernel, by decide +kernel⟩,
   ⟨(couchS 5 [] { byHandover := some 0, firstReturn := some true, former := 3 }),
    by decide +kernel, by decide +kernel, by decide +kernel, by decide +kernel⟩,
   ⟨(couchS 2 [(COUCH.PAIR_STATUS_HELD, 1), (SHEET.SHEET_NUM, 7)] { heldFrom := some 5 }), 5,
    by decide +kernel, by decide +kernel, by decide +kernel⟩⟩

/-- The hypotheses of Obligations.StepRunsTheFrontCommand are met. -/
theorem test_step_runs_the_front_command :
    (∃ (s : State) (c : Instr) (rest : List Instr), s.pending = c :: rest) ∧
    (∃ s : State, s.pending = []) :=
  ⟨⟨pushed, .heldSheetsEnd, [], rfl⟩,
   ⟨State.reset, rfl⟩⟩

/-- The hypotheses of Obligations.RoundingIsAwayFromZero are met. -/
theorem test_rounding_is_away_from_zero :
    (∃ q : Rat,
      |(roundQ q : Rat) - q| = 1 / 2) ∧
    (∃ (a : Int) (b : Nat),
      0 < b) :=
  ⟨⟨(5/2),
    by decide +kernel⟩,
   ⟨(-7), 2,
    by decide +kernel⟩⟩

/-- The hypotheses of Obligations.WideTimeIsJudged are met. -/
theorem test_wide_time_is_judged :
    (∃ (s : State) (h : Hdr) (sec ns frac : Nat),
      s.Accepts h false 0 ∧
      s.mode = 0 ∧
      sec < 281474976710656 ∧
      ns < 4294967296 ∧
      frac < 65536 ∧
      1000000000 ≤ ns) ∧
    (∃ (s : State) (h : Hdr) (sec ns frac : Nat),
      s.Accepts h false 0 ∧
      s.mode = 0 ∧
      sec < 281474976710656 ∧
      frac < 65536 ∧
      ns < 1000000000) :=
  ⟨⟨ready, {}, 5, 1000000000, 3,
    accepts_of (by decide +kernel), by decide +kernel, by decide +kernel, by decide +kernel, by decide +kernel, by decide +kernel⟩,
   ⟨ready, {}, 5, 999999999, 3,
    accepts_of (by decide +kernel), by decide +kernel, by decide +kernel, by decide +kernel, by decide +kernel⟩⟩

/-- The hypotheses of Obligations.ShortTimesNameTheNearestCount are met. -/
theorem test_short_times_name_the_nearest_count :
    ∃ (s : State) (target : Nat),
      target < 2 ^ 64 :=
  ⟨ready, 18446744073709551615,
    by decide +kernel⟩

/-- The hypotheses of Obligations.FarSheetNumbersAreRefused are met. -/
theorem test_far_sheet_numbers_are_refused :
    (∃ (s : State) (h : Hdr) (buf sheet : Nat),
      s.Accepts h false 0 ∧
      buf ≤ 1 ∧
      s.mode ≠ 5 ∧
      s.flag SHEET.SHEET_STATUS_PENDING = false ∧
      s.get (stateFld buf) = 2 ∧
      s.sheetNo + 1125899906 < sheet) ∧
    (∃ (s : State) (h : Hdr) (buf sheet : Nat),
      s.Accepts h false 0 ∧
      buf ≤ 1 ∧
      s.mode ≠ 5 ∧
      s.flag SHEET.SHEET_STATUS_PENDING = false ∧
      s.get (stateFld buf) = 2 ∧
      s.sheetNo < sheet ∧
      sheet ≤ s.sheetNo + 1125899906 ∧
      sheet < 2 ^ 64) :=
  ⟨⟨(withRegs [(stateFld 1, 2)]), mspi, 1, 1125899907,
    accepts_of (by decide +kernel), by decide +kernel, by decide +kernel, by decide +kernel, by decide +kernel, by decide +kernel⟩,
   ⟨(withRegs [(stateFld 1, 2)]), mspi, 1, 1125899906,
    accepts_of (by decide +kernel), by decide +kernel, by decide +kernel, by decide +kernel, by decide +kernel, by decide +kernel, by decide +kernel, by decide +kernel⟩⟩

/-- The hypotheses of Obligations.ModeRequestsAreJudged are met. -/
theorem test_mode_requests_are_judged :
    (∃ (s : State) (h : Hdr) (m : Nat),
      s.Accepts h false 0 ∧
      5 < m) ∧
    (∃ (s : State) (h : Hdr) (m : Nat),
      s.Accepts h false 0 ∧
      m ≤ 5 ∧
      s.glb.pendMode.isSome = true) ∧
    (∃ (s : State) (h : Hdr),
      s.Accepts h false 0 ∧
      s.glb.pendMode = none ∧
      s.mode ≠ 5 ∧
      (s.mode ≠ 0 ∨ s.flag COUCH.PAIR_CFG_EN = false)) ∧
    (∃ (s : State) (h : Hdr),
      s.Accepts h false 0 ∧
      s.glb.pendMode = none ∧
      2 ≤ s.mode) ∧
    (∃ (s : State) (h : Hdr) (m : Nat),
      s.Accepts h false 0 ∧
      s.glb.pendMode = none ∧
      s.mode = 5 ∧
      0 < m ∧
      m ≤ 5) :=
  ⟨⟨ready, mspi, 6,
    accepts_of (by decide +kernel), by decide +kernel⟩,
   ⟨{ ready with glb := { ready.glb with pendMode := some ⟨2, some {}, .pf0⟩ } }, mspi, 0,
    accepts_of (by decide +kernel), by decide +kernel, by decide +kernel⟩,
   ⟨(inMode 2), mspi,
    accepts_of (by decide +kernel), by decide +kernel, by decide +kernel, by decide +kernel⟩,
   ⟨(inMode 2), mspi,
    accepts_of (by decide +kernel), by decide +kernel, by decide +kernel⟩,
   ⟨(inMode 5), mspi, 5,
    accepts_of (by decide +kernel), by decide +kernel, by decide +kernel, by decide +kernel, by decide +kernel⟩⟩

/-- The hypotheses of Obligations.WorkIsRefusedByMode are met. -/
theorem test_work_is_refused_by_mode :
    (∃ (s : State) (h : Hdr) (target index : Nat),
      s.Accepts h false 0 ∧
      s.mode ≠ 0) ∧
    (∃ (s : State) (h : Hdr) (target index : Nat),
      s.Accepts h false 0 ∧
      s.mode ≠ 0) ∧
    (∃ (s : State) (h : Hdr) (mask : Nat),
      s.Accepts h false 0 ∧
      s.mode ≠ 1) ∧
    (∃ (s : State) (h : Hdr) (ch dur : Nat),
      s.Accepts h false 0 ∧
      s.mode ≠ 1) ∧
    (∃ (s : State) (h : Hdr) (port : Nat),
      s.Accepts h false 0 ∧
      s.mode ≠ 1) ∧
    (∃ (s : State) (h : Hdr) (port : Nat) (tx rx : Int) (u : Nat),
      s.Accepts h false 0 ∧
      s.mode ≠ 1) ∧
    (∃ (s : State) (h : Hdr) (dur target : Nat),
      s.Accepts h false 0 ∧
      1 < s.mode) ∧
    (∃ (s : State) (h : Hdr) (scope : Nat),
      s.Accepts h false 400 ∧
      1 < s.mode ∧
      scope ≤ 7) :=
  ⟨⟨(inMode 1), mspi, 9, 9,
    accepts_of (by decide +kernel), by decide +kernel⟩,
   ⟨(inMode 1), mspi, 9, 9,
    accepts_of (by decide +kernel), by decide +kernel⟩,
   ⟨(inMode 0), mspi, 9,
    accepts_of (by decide +kernel), by decide +kernel⟩,
   ⟨(inMode 0), mspi, 99, 1,
    accepts_of (by decide +kernel), by decide +kernel⟩,
   ⟨(inMode 4), mspi, 9,
    accepts_of (by decide +kernel), by decide +kernel⟩,
   ⟨(inMode 0), mspi, 9, 1, 2, 3,
    accepts_of (by decide +kernel), by decide +kernel⟩,
   ⟨(inMode 2), mspi, 9, 1,
    accepts_of (by decide +kernel), by decide +kernel⟩,
   ⟨(inMode 2), mspi, 7,
    accepts_of (by decide +kernel), by decide +kernel, by decide +kernel⟩⟩

/-- The hypotheses of Obligations.Pf1ChangesNothing are met. -/
theorem test_pf1_changes_nothing :
    ∃ (s : State) (i : Instr),
      WellFormed i = true ∧
      senderOf i = some .pf1 ∧
      pf1May i = false :=
  ⟨ready, (.modeSet { origin := .pf1 } 1),
    by decide +kernel, by decide +kernel, by decide +kernel⟩

/-- The hypotheses of Obligations.UnlockIsNeeded are met. -/
theorem test_unlock_is_needed :
    ∃ (s : State) (o : Origin) (a v : Nat),
      s.inReset = false ∧
      o ≠ .pf1 ∧
      (s.useUnlock o).1 = false ∧
      (a ∈ [0x14005C, 0x1A0010, 0x1D0008] ∨ 0x140100 ≤ a ∧ a < 0x140140 ∧ a % 4 = 0) :=
  ⟨ready, .pf0, 0x14005C, 5,
    by decide +kernel, by decide +kernel, by decide +kernel, by decide +kernel⟩

/-- The hypotheses of Obligations.VatReadsWhatWasWritten are met. -/
theorem test_vat_reads_what_was_written :
    (∃ (s : State) (m a : Nat) (b : List Byte),
      b ≠ [] ∧
      s.vatMay m a b.length true = true ∧
      s.vatc.poison = [] ∧
      s.vat.wf = true) ∧
    (∃ (s : State) (m a : Nat) (b : List Byte),
      b ≠ [] ∧
      s.vatMay m a b.length true = false) ∧
    (∃ (s : State) (m a n : Nat),
      s.vatMay m a n false = false) ∧
    (∃ (s : State) (m a w : Nat) (b : List Byte),
      s.vatMay m a b.length true = true ∧
      a ≤ 8 * w ∧
      8 * w + 8 ≤ a + b.length ∧
      (s.vatc.poison.contains (a / 8) = false ∨ a % 8 = 0) ∧
      (s.vatc.poison.contains ((a + b.length - 1) / 8) = false ∨ (a + b.length) % 8 = 0)) ∧
    (∃ (s : State) (m a : Nat) (b : List Byte),
      b ≠ [] ∧
      s.vatMay m a b.length true = true ∧
      a / 8 = (a + b.length - 1) / 8 ∧
      b.length < 8 ∧
      s.vatc.poison.contains (a / 8) = true ∧
      s.vat.wf = true) :=
  ⟨⟨ready, 11, 0x05000005, (List.replicate 21 7),
    by decide +kernel, by decide +kernel, by decide +kernel, by decide +kernel⟩,
   ⟨ready, 0, 5, [1,2],
    by decide +kernel, by decide +kernel⟩,
   ⟨ready, 0, 5, 3,
    by decide +kernel⟩,
   ⟨{ ready with vatc := { poison := [0xA00001] } }, 11, 0x05000005, 0xA00001, (List.replicate 21 7),
    by decide +kernel, by decide +kernel, by decide +kernel, by decide +kernel, by decide +kernel⟩,
   ⟨{ ready with vatc := { poison := [0xA00000] } }, 11, 0x05000005, (List.replicate 2 7),
    by decide +kernel, by decide +kernel, by decide +kernel, by decide +kernel, by decide +kernel, by decide +kernel⟩⟩

/-- The hypotheses of Obligations.ChargingConservesStock are met. -/
theorem test_charging_conserves_stock :
    (∃ (s : State) (c cost : Nat),
      s.running = true ∧
      1 ≤ c ∧
      c ≤ 4) ∧
    (∃ (s u : State) (c cost : Nat),
      s.running = true ∧
      1 ≤ c ∧
      c ≤ 4 ∧
      s.ledger.floors.length = 4 ∧
      s.ledger.drawn.length = 5 ∧
      s.charge c cost = some u) :=
  ⟨⟨ready, 3, 100001,
    by decide +kernel, by decide +kernel, by decide +kernel⟩,
   ⟨ready, ((ready.charge 3 99).getD ready), 3, 99,
    by decide +kernel, by decide +kernel, by decide +kernel, by decide +kernel, by decide +kernel, by decide +kernel⟩⟩

/-- The hypotheses of Obligations.ClassZeroIsNeverRefused are met. -/
theorem test_class_zero_is_never_refused :
    ∃ (s : State) (cost : Nat),
      s.running = true ∧
      s.ledger.floors.length = 4 :=
  ⟨(withRegs [(LEDGER.SHARED_LEFT, 50)]), 100051,
    by decide +kernel, by decide +kernel⟩

/-- The hypotheses of Obligations.ShownConditionsAreKept are met. -/
theorem test_shown_conditions_are_kept :
    ∃ s t : State, (s.inReset = false → s.Shows) ∧ step s = .next t ∧ t.inReset = false :=
  ⟨State.reset, State.reset, fun _ => reset_shows, rfl, rfl⟩

/-- The hypotheses of Obligations.VatStaysCanonical are met. -/
theorem test_vat_stays_canonical :
    ∃ s t : State, s.vat.wf = true ∧ step s = .next t :=
  ⟨State.reset, State.reset, by decide +kernel, rfl⟩

/-- The hypotheses of Obligations.InResetNothingHappens are met. -/
theorem test_in_reset_nothing_happens :
    ∃ (s : State) (i : Instr), s.inReset = true ∧ ungated i = false :=
  ⟨resetting, .heldSheetsEnd, rfl, rfl⟩

/-- The hypotheses of Obligations.MirrorPassesOnlyDualFed are met. -/
theorem test_mirror_passes_only_dual_fed :
    ∃ (s : State) (p : Nat) (b : List Byte) (at_ : Nat),
      s.inReset = false ∧
      p < 8 ∧
      s.get (MAC.PORT_CFG_RATE p) ≠ 3 ∧
      s.get (MAC.PORT_STATUS_LINK p) = 2 ∧
      64 ≤ b.length + 4 ∧
      b.length + 4 ≤ s.get (MAC.PORT_CFG_MAX_FRAME p) ∧
      s.mode = 5 ∧
      (s.headRule p b = 6 ∨ s.headRule p b = 7) :=
  ⟨(upm 5 [(MAC.HB_CFG_NTP 1, 1), (MAC.TA_EN_V4 1, 1)]), 1, (eth ucast 0x0806 (List.replicate 28 0)), 65536000,
    by decide +kernel, by decide +kernel, by decide +kernel, by decide +kernel, by decide +kernel, by decide +kernel, by decide +kernel, by decide +kernel⟩

/-- The hypotheses of Obligations.VectorFunctionIsFixedWhileUsed are met. -/
theorem test_vector_function_is_fixed_while_used :
    (∃ (s : State) (o : Origin) (v w : Nat),
      s.inReset = false ∧
      o ≠ .pf1 ∧
      v ≤ 64 ∧
      s.glb.voteFailed = [] ∧
      (s.flag (IRQ.VEC_CFG_EN v) = true ∨ nth s.irq.claims v [] ≠ [])) ∧
    (∃ (s : State) (o : Origin) (v w : Nat),
      s.inReset = false ∧
      o ≠ .pf1 ∧
      v ≤ 64 ∧
      s.glb.voteFailed = [] ∧
      s.flag (IRQ.VEC_CFG_EN v) = false ∧
      nth s.irq.claims v [] = []) :=
  ⟨⟨(withRegs [(IRQ.VEC_CFG_EN 9, 1)]), .pf0, 9, 6,
    by decide +kernel, by decide +kernel, by decide +kernel, by decide +kernel, by decide +kernel⟩,
   ⟨ready, .mspi, 64, 7,
    by decide +kernel, by decide +kernel, by decide +kernel, by decide +kernel, by decide +kernel, by decide +kernel⟩⟩

/-- The hypotheses of Obligations.PairPinsFollowTheUnit are met. -/
theorem test_pair_pins_follow_the_unit :
    (∃ s : State,
      s.inReset = false) ∧
    (∃ s : State,
      s.inReset = false ∧
      s.flag COUCH.PAIR_CFG_EN = true ∧
      s.mode ≠ 5) ∧
    (∃ s : State,
      s.mode = 5) ∧
    (∃ (s : State) (b : Bool × Bool),
      s.heartbeat = some b) :=
  ⟨⟨(inMode 3),
    by decide +kernel⟩,
   ⟨(withRegs [(COUCH.PAIR_CFG_EN, 1)]),
    by decide +kernel, by decide +kernel, by decide +kernel⟩,
   ⟨(inMode 5),
    by decide +kernel⟩,
   ⟨(withRegs [(COUCH.PAIR_CFG_EN, 1)]), (false, true),
    by decide +kernel⟩⟩

/-! ### Results worked out by hand from the manual -/

/-- The state that a command leaves. -/
def after (i : Instr) (s : State) : State := match exec i s with | .next t => t | _ => s

/-- R502: a value halfway between two units goes away from zero. -/
theorem test_rounds_away_from_zero : roundQ (5 / 2) = 3 ∧ roundQ (-5 / 2) = -3 := by decide +kernel

/-- Chapter 0's example: a strobe one day ahead is accepted, two days are out of range. -/
theorem test_targets_one_and_two_days_ahead : (after (.strobeAt mspi 0 (86400000000000 * 65536) 5) ready).time.pulses.length = 1 ∧
    ready.targetOk (172800000000000 * 65536) = false := by decide +kernel

/-- Chapter 2's worked example: word 0 of the entry of record 300,417 is 0x07224F63, its OPA 0x1A1. -/
theorem test_entry_of_the_worked_example : Entry.ofBytes (leBytes 4 0x07224F63 ++ leBytes 4 0x1A1 ++ leBytes 8 0) =
    ⟨20323, 1, 1, 7, false, false, false, false, 417, 0⟩ := by decide +kernel

/-- R55's example: a step to 3,250,040 ns past the second makes the next edge come at 3,375,000 ns. -/
theorem test_next_edge_after_a_step : stepNext ((1700000000 * 1000000000 + 3250040) * 65536) = (1700000000 * 1000000000 + 3375000) * 65536 := by
  decide +kernel

/-- R55's example: the last TICK that the stepped sheet of 124,960 ns executes is 73,725. -/
theorem test_last_tick_of_a_stepped_sheet : (let s := timed (fun t => { t with stepped := true, next := t.edge + nsU 124960 })
    (s.tickRuns 73725, s.tickRuns 73726)) = (true, false) := by decide +kernel

/-- R75's example: an edge at Tc = 1,600 ps with tE = 62, tF = 143 and D = 1,250 ps lies 836.25 ps past the second, where INL[125] is 0. -/
theorem test_edge_of_the_interpolator : (let d : Rat := 125 * 5 / 2 + 5 / 4; roundQ (psU (1600 + 800 - d - 1250))) = 54804 := by decide +kernel

/-- R79's example: 6,881 of 1,048,576 counts behind taps of 301.2 ps give 19,911. -/
theorem test_tap_entry : (tapEntries [394789, 6881, 646906])[1]? = some 19911 := by decide +kernel

/-- R102's example: bins at 3.98 times the median at twice JAM_REF give JAM = 36. -/
theorem test_jam : logRound 40 (398 * 2) 100 = 36 := by decide +kernel

/-- R132's example: D_IF = 91,974.55 ps. -/
theorem test_ionosphere_free_delay : roundQ ((gammaA * 95000 - gammaB * 97400) * 100) = 9197455 := by decide +kernel

/-- R137's example: T at PFA_SEL 0 with 7 degrees of freedom is 24.322, where 1 − 10⁻³ of the distribution lies below it. -/
theorem test_traim_threshold : decide (chiBelow 7 (243215 / 10000) < 999 / 1000) && decide (999 / 1000 < chiBelow 7 (243225 / 10000)) = true := by
  decide +kernel

/-- Two slots of one rank whose slopes over 64 s are +35 and −310 ppt, and a slot at +20 ppt. -/
def drifting (r : List (Fld × Nat)) : State :=
  let s := slots [(1, { hist := [(0, 0), ((64 * secU : Nat), 2240)] }), (2, { hist := [(0, 0), ((64 * secU : Nat), -19840)] }),
    (14, { hist := [(0, 0), ((64 * secU : Nat), 1280)] })] ((REFSEL.REF_STAT_STATE 1, 4) :: (REFSEL.REF_STAT_STATE 2, 4) :: r)
  { s with time := { s.time with edge := 64 * secU, cnt := 64 * secU * 2 ^ 32 } }

/-- R159's example: without an arbiter both are SUSPECT and DIS_WIDEN is 11,040 ps; with REF14 at +20 ppt REF2 fails with ARBITRATED. -/
theorem test_disagreement : (let s := (drifting []).judgePair 1 2
    (s.get REFSEL.DIS_WIDEN, s.flag (REFSEL.REF_STAT_SUSPECT 1), s.flag (REFSEL.REF_STAT_SUSPECT 2))) = (11040, true, true) ∧
    (let s := (drifting [(REFSEL.REF_STAT_STATE 14, 4)]).judgePair 1 2
    (s.flag (REFSEL.REF_STAT_ARBITRATED 2), s.slotState 1, s.flag (REFSEL.REF_STAT_SUSPECT 1))) = (true, 4, false) := by decide +kernel

/-- R161's example: DPLL_BW 1,000 and a damping of 181 give kp 0.431706 and ki 0.093205. -/
theorem test_loop_gains : (let g := (withRegs [(REFSEL.DPLL_BW, 1000), (REFSEL.DPLL_DAMP, 181)]).loopGains
    (roundQ (g.1 * 1000000), roundQ (g.2 * 1000000))) = (431706, 93205) := by decide +kernel

/-- The fit of R176's example, so many seconds after the entry into HOLDOVER. -/
def held (d : Nat) : State :=
  let s := withHold { model := some ⟨4125 * 1024 / 10, 35 * 1024 / (100 * 86400), 0, 0, 0⟩, e0 := 2000, f0 := 1, g := 1 / 86400, entry := ((33200 * secU : Nat) : Int) } []
  { s with time := { s.time with edge := (33200 + d) * secU, cnt := (33200 + d) * secU * 2 ^ 32 } }

/-- R174's example: u is 422,538 units at entry and 422,896 a day later. -/
theorem test_holdover_model : roundQ (held 0).modelU = 422538 ∧ roundQ (held 86400).modelU = 422896 := by decide +kernel

/-- R176's example: after a day e_h is 131,600 ps. -/
theorem test_holdover_error : (held 86400).stepEh.get HOLD.HOLD_EH = 131600 := by decide +kernel

/-- R180's example: y of 3,000 units at EFC_SENS 49 moves the code to 0x80003D. -/
theorem test_offload : (let s := (withRegs [(REFSEL.REFSEL_STATUS_CLOCK_STATE, 2), (REFSEL.DPLL_CTRL, 3000), (HOLD.EFC_SENS, 49), (HOLD.EFC_CODE, 0x800000),
      (HOLD.HOLD_CFG_STEER_MODE, 1), (HOLD.OFFLOAD_MIN, 100), (HOLD.OFFLOAD_MAX, 100000)]).decideOffload
    ((s.holdEdge false).get HOLD.EFC_CODE, s.hold.offload)) = (0x80003D, some 3000) := by decide +kernel

/-- R205's example: OSC_IN of 20 MHz with CREF 1, N_INT 128 and N_FRAC 0xE800000000 gives 5,156.25 MHz. -/
theorem test_calender_plan : (withRegs [(SYN.SYSPLL_CFG_OSC_SEL, 1)]).planHz ⟨0, 128, 0xE800000000⟩ = 5156250000 := by decide +kernel

/-- An insertion armed for M + 38 with OFFSET at 37, where M is 1,000. -/
def leaping : State := withRegs [(TIME.TAI_UTC, 37), (TIME.TIME_STATUS_LEAP_ARMED, 1), (TIME.LEAP_TARGET, 1038 * 65536000000000), (SYN.TOD_CFG_UTC 0, 1)]

/-- R211's example: the edges at M + 36 and M + 37 are both named M − 1, that at M + 38 M. -/
theorem test_leap_second_in_tod : [1036, 1037, 1038].map (fun t => beNat (cut (leaping.todBytes 0 t false) 4 6)) = [999, 999, 1000] ∧
    (leaping.offsetAt 1037).2 = true := by decide +kernel

/-- R218's example: TPL 3,100 and U_IF 388 give 3,488; 420 ps of phase and 5 ms of age give 3,909; then 4,509 and 6,659 ps. -/
theorem test_bound : (let s := withRegs [(BOUND.PORT_ALLOW 1, 2000), (MAC.TS_UNC 1, 150)]
    let s := { s with
      nav := { forBound := some { epoch := 0, offset := 0, sigma := 0, tpl := 3100, u := 388, flagged := 0, status := 0, sheet := 0 } }
      ref := { slots := setNth (List.replicate 16 {}) 0 { last := some (0, 420) } }
      time := { s.time with edge := nsU 5000000 } }
    let b := s.lockedTime 0 420
    (s.srcBound 0, b, s.coreOf b (some 0) 0, s.portBound (s.coreOf b (some 0) 0) 1)) = (3488, 3909, 4509, 6659) := by decide +kernel

/-- R234's example: TICK 20,323 on a 25 Gb/s port with a grid phase of 1.10 ns launches 32,518.22 ns after the edge. -/
theorem test_launch_instant : ({ withRegs [(MAC.GRID_PHASE 1, 72090), (MAC.PORT_CFG_RATE 1, 0)] with
    siz := { user := [⟨0x101, 1, 0, List.replicate 40 0⟩] } }).launchFrom 1 0 20323 = (3251822 * 65536 + 50) / 100 := by decide +kernel

/-- R252's example: TW_TX of 5 µs against a partner's 4 µs gives a wake time of 5 µs. -/
theorem test_wake_time : (withRegs [(MAC.EEE_CFG_TW_TX 1, 5), (MAC.EEE_PARTNER_RX_TW 1, 4)]).wakeTime 1 = nsU 5000 := by decide +kernel

/-- R298's example: the stamp of TAI second 1,700,000,037 with OFFSET 37. -/
theorem test_ntp_stamp : ({ withRegs [(TIME.TAI_UTC, 37)] with running := true }).ntpStamp (1700000037 * secU + 18782518 * 65536 + 43909) =
    0xE8FE6F8004CEEE5F := by decide +kernel

/-- R304's example: 36 bytes of Unique Identifier, two cookies and the watermark make 384 bytes. -/
theorem test_nts_size : ({ kind := 1, dest := ntpQ.dest, req := [], uid := List.replicate 36 0, cookies := [[], []], mark := true, time := 0 } :
    NtpMsg).size = 384 := by decide +kernel

/-- R353's example: COUCH_ASYM +20 ps and the four times give a theta of −40 ps and a PEER_DELAY of 412.670 ns. -/
theorem test_couch_phase : (let u := fun (ps : Nat) => (ps * 65536 + 500) / 1000
    let s := couchS 2 [(COUCH.COUCH_ASYM, 20)] { fwdLast := some (7, u 118002560, u 118415210), sent := [(9, u 118001280)] }
    let s := s.couchPhase { kind := 1, seq := 8, tRx := u 118413970, rxSeq := 9 } {} 0
    (s.geti COUCH.PEER_THETA, s.get COUCH.PEER_DELAY)) = (-40, 412670) := by decide +kernel

/-- Chapter 16's example: RING_CFG1 = 0xC0000482 is TYPE 2, SIZE_LOG2 8, VECTOR 1, IRQ_EN and ENABLE. -/
theorem test_ring_of_the_bring_up : (let s := runRingEnable .pf0 1 0xC0000482 {} ready
    (s.get (HIF.RING_CFG_TYPE 1), s.get (HIF.RING_CFG_SIZE_LOG2 1), s.get (HIF.RING_CFG_VECTOR 1), s.get (HIF.RING_CFG_IRQ_EN 1),
      s.flag (HIF.RING_CFG_ENABLE 1), s.flag (HIF.RING_STAT_RUNNING 1))) = (2, 8, 1, 1, true, true) := by decide +kernel

/-- Chapter 19's example: at 20 A the budget is 25,000,000; the floors take 7,700,000 of P = 23,500,000 and leave 15,800,000 shared. -/
theorem test_grant : (let s := ({ ready.putT LEDGER.CEILING 200 with ledger := {} }).grant
    (s.get LEDGER.BUDGET, s.ledger.floors, s.get LEDGER.SHARED_LEFT)) = (25000000, [4000000, 3000000, 500000, 200000], 15800000) := by decide +kernel

/-- The check value of the CRC of IEEE 802.3. -/
theorem test_crc32 : crc32 [0x31, 0x32, 0x33, 0x34, 0x35, 0x36, 0x37, 0x38, 0x39] = 0xCBF43926 := by decide +kernel

/-- FIPS 180-4: the digest of "abc". -/
theorem test_sha256 : beNat (sha256 [0x61, 0x62, 0x63]) = 0xba7816bf8f01cfea414140de5dae2223b00361a396177a9cb410ff61f20015ad := by decide +kernel

/-- FIPS 197: S-box values of sections 5.1.1 and appendix A, and the doubling of section 4.2.1. -/
theorem test_aes_bytes : [0x53, 0x00, 0xCF, 0x01].map aesSub = [0xED, 0x63, 0x8A, 0x7C] ∧ [0x57, 0xAE, 0x8E].map aesX = [0xAE, 0x47, 0x07] := by
  decide +kernel

end Sys2Proof.Tests
end

section
/-! Rounding and the wide time of chapter 0 (R8, R502). `roundDiv` and `roundQ` are odd, and on numbers that are not negative they are Mathlib's
`round`, which takes the upper of two equally near integers. -/

namespace Sys2Proof.Machine

/-! ### Rounding (R502) -/

theorem roundDiv_neg (a : Int) (b : Nat) : roundDiv (-a) b = -roundDiv a b := by
  unfold roundDiv
  rcases lt_trichotomy a 0 with ha | rfl | ha
  · rw [if_neg (by omega), if_pos ha, Int.natAbs_neg, neg_neg]
  · have hz : b / (2 * b) = 0 := Nat.div_eq_zero_iff.2 (by omega)
    simp [hz]
  · rw [if_pos (by omega), if_neg (by omega), Int.natAbs_neg]

theorem roundDiv_natCast_eq_round (n : Nat) {b : Nat} (hb : 0 < b) : roundDiv n b = round ((n : Rat) / b) := by
  have hq : (n : Rat) / b + 1 / 2 = ((2 * n + b : Nat) : Rat) / ((2 * b : Nat) : Rat) := by
    push_cast
    field_simp
  rw [round_eq, hq, ← Int.natCast_floor_eq_floor (by positivity), Nat.floor_div_eq_div]
  simp [roundDiv]

theorem roundQ_neg (q : Rat) : roundQ (-q) = -roundQ q := by
  simp only [roundQ, Rat.num_neg_eq_neg_num, Rat.den_neg_eq_den, roundDiv_neg]

theorem roundQ_eq_round {q : Rat} (hq : 0 ≤ q) : roundQ q = round q := by
  obtain ⟨n, hn⟩ := Int.eq_ofNat_of_zero_le (Rat.num_nonneg.2 hq)
  have hv : (n : Rat) / q.den = q := by simpa [hn] using Rat.num_div_den q
  rw [roundQ, hn, roundDiv_natCast_eq_round n q.den_pos, hv]

theorem roundDiv_eq_roundQ (a : Int) {b : Nat} (hb : 0 < b) : roundDiv a b = roundQ ((a : Rat) / b) := by
  have hnat (n : Nat) : roundDiv n b = roundQ (((n : Int) : Rat) / b) := by
    rw [Int.cast_natCast, roundDiv_natCast_eq_round n hb, roundQ_eq_round (by positivity)]
  obtain ⟨n, rfl | rfl⟩ := a.eq_nat_or_neg
  · exact hnat n
  · rw [roundDiv_neg, hnat, Int.cast_neg, neg_div, roundQ_neg]

theorem abs_roundQ_neg_sub (q : Rat) : |(roundQ (-q) : Rat) - -q| = |(roundQ q : Rat) - q| := by
  rw [roundQ_neg, Int.cast_neg, neg_sub_neg, abs_sub_comm]

theorem abs_roundQ_sub_le (q : Rat) : |(roundQ q : Rat) - q| ≤ 1 / 2 := by
  have hpos {r : Rat} (hr : 0 ≤ r) : |(roundQ r : Rat) - r| ≤ 1 / 2 := by
    rw [roundQ_eq_round hr, abs_sub_comm]
    exact abs_sub_round r
  rcases le_total 0 q with hq | hq
  · exact hpos hq
  · exact abs_roundQ_neg_sub q ▸ hpos (neg_nonneg.2 hq)

theorem le_round_of_half {q : Rat} (h : |(round q : Rat) - q| = 1 / 2) : q ≤ round q := by
  have hlow : q - 1 / 2 < round q := by
    have := Int.lt_floor_add_one (q + 1 / 2)
    rw [round_eq]
    linarith
  rcases (abs_eq (by norm_num)).1 h with h | h <;> linarith

theorem abs_le_abs_roundQ_of_half {q : Rat} (h : |(roundQ q : Rat) - q| = 1 / 2) : |q| ≤ |(roundQ q : Rat)| := by
  have hpos {r : Rat} (hr : 0 ≤ r) (hh : |(roundQ r : Rat) - r| = 1 / 2) : |r| ≤ |(roundQ r : Rat)| := by
    rw [roundQ_eq_round hr] at hh ⊢
    exact abs_le_abs_of_nonneg hr (le_round_of_half hh)
  rcases le_total 0 q with hq | hq
  · exact hpos hq h
  · have hneg := hpos (neg_nonneg.2 hq) ((abs_roundQ_neg_sub q).trans h)
    rwa [roundQ_neg, Int.cast_neg, abs_neg, abs_neg] at hneg

/-- Settles O44: both functions are odd and agree with `round` on what is not negative. -/
theorem roundingIsAwayFromZero : Obligations.RoundingIsAwayFromZero :=
  ⟨abs_roundQ_sub_le, fun _ h => abs_le_abs_roundQ_of_half h, fun a _ hb => roundDiv_eq_roundQ a hb⟩

/-! ### The wide time (R8)

`Completes` judges the room of the completion ring before the command is fetched. Fetching counts RING_CONS of the command ring up (R375), which takes
the room away where that ring is its own completion ring and holds no descriptor: the two counts then differ by 2³² − 1, and the completion waits. -/

/-- The engine in QUIET after sheet 0, with an empty ring 0 that is enabled and, as at reset, names itself in PAIR. -/
def selfPaired : State :=
  { State.reset.puts [(HIF.RING_CFG_ENABLE 0, 1), (HIF.HIF_STATUS_PF0_BME, 1)] with
    running := true
    ledger := { floors := [0, 0, 110, 0] } }

theorem selfPaired_accepts : selfPaired.Accepts {} false 0 where
  awake := rfl
  running := rfl
  ring := .inr (by decide +kernel)
  room := by decide +kernel
  order := fun _ hw => absurd hw List.not_mem_nil
  stock := by decide +kernel
  share := fun h => nomatch h.1
  fn := fun h => nomatch h
  form := rfl

theorem selfPaired_mayComplete : selfPaired.ringRoom (selfPaired.get (HIF.RING_CFG_PAIR 0)) 1 = true ∧
    selfPaired.ringBme (selfPaired.get (HIF.RING_CFG_PAIR 0)) = true := by decide +kernel

/-- TIME_SET of second 5 with 10⁹ nanoseconds puts nothing out of the engine. -/
theorem selfPaired_timeSet_out :
    ((selfPaired.awake (runTimeSet {} (5 * 281474976710656 + 1000000000 * 65536 + 0))).settle).out = [] := by decide +kernel

/-- Refutes O45: a TIME_SET from `selfPaired` is to be rejected with RANGE, but its completion finds no room in the ring and waits. -/
theorem not_wideTimeIsJudged : ¬ Obligations.WideTimeIsJudged := by
  rintro ⟨rejected, -⟩
  obtain ⟨t, ht, ⟨-, posted⟩, -⟩ := rejected selfPaired {} 5 1000000000 0 selfPaired_accepts rfl (by decide) (by decide) (by decide) le_rfl
  obtain ⟨hroom, hbme⟩ := selfPaired_mayComplete
  obtain ⟨_, _, hmem⟩ := posted (by decide) hroom hbme
  have hout : t.out = [] := Host.Outcome.next.inj ht ▸ selfPaired_timeSet_out
  exact absurd (hout ▸ hmem) List.not_mem_nil

end Sys2Proof.Machine
end

section
/-! The clock that the bound slice takes (R218), and the completion of MOULD_ACTIVATE (R45). -/

namespace Sys2Proof.Machine

/-! ### The clock that the bound slice takes (R218) -/

@[simp] theorem State.setResidual_bound (s : State) (r : Int) : (s.setResidual r).bound = s.bound := rfl

@[simp] theorem State.dropSlew_bound (s : State) : s.dropSlew.bound = s.bound := rfl

@[simp] theorem State.runTo_bound (s : State) (target maxN : Nat) : (s.runTo target maxN).bound = s.bound := by
  simp only [State.runTo, apply_ite State.bound, State.setResidual_bound, ite_self]

@[simp] theorem State.atSheetTime_bound (s : State) (off : Nat) : (s.atSheetTime off).bound = s.bound := by
  simp only [State.atSheetTime, State.advanceTo, apply_ite State.bound, State.runTo_bound, State.dropSlew_bound, State.setResidual_bound, ite_self]

/-- A view shows the slot that was selected where it was taken. -/
theorem State.withView_clockView_selSlot (s u : State) : (s.withView u.clockView).selSlot = u.selSlot := by
  have shows (f : Fld) (h : f = REFSEL.REFSEL_STATUS_SEL_VALID ∨ f = REFSEL.REFSEL_STATUS_SELECTED) : (s.withView u.clockView).get f = u.get f := by
    have fits : u.regs.get f % 2 ^ f.width = u.regs.get f := Nat.mod_eq_of_lt (u.get_lt f)
    rcases h with rfl | rfl <;>
      simp (disch := decide) [State.withView, State.clockView, clockFields, State.get, RegFile.get_put_same, RegFile.get_put_other, fits]
  unfold State.selSlot State.flag
  rw [shows _ (.inl rfl), shows _ (.inr rfl)]

/-- The bound slice judges the selection by the view that the selection slice left, whatever the registers hold by then. -/
theorem boundNow_hadSel {s u : State} (h : s.bound.picked = some u.clockView) : (boundNow s).bound.hadSel = u.selSlot.isSome := by
  unfold boundNow
  extract_lets _ charged _ carried view clock
  have picked : carried.bound.picked = some u.clockView := by
    have keeps : charged.bound.picked = s.bound.picked := congrArg BoundSt.picked ((Keeps.refl (l := []) s).charge0 _).bound
    rw [← h, ← keeps]
    exact (apply_ite (fun x : State => x.bound.picked) _ _ _).trans (ite_self _)
  have taken : view = u.clockView := by simp [view, picked]
  have seen : clock.selSlot = u.selSlot := by simp only [clock, taken, State.withView_clockView_selSlot]
  exact congrArg Option.isSome seen

/-- A clock with a slot selected. -/
def selecting : State := State.reset.put REFSEL.REFSEL_STATUS_SEL_VALID 1

/-- After sheet 0, with no slot selected since the selection slice of the sheet left `selecting`. -/
def deselected : State := { State.reset with running := true, bound := selecting.pickClock.bound }

/-- Refutes O19: BOUND_SLICE of `deselected` finds a selected slot in the clock that the selection slice left, where the clause reads the registers. -/
theorem not_slicesComplete : ¬ Obligations.SlicesComplete := by
  rintro ⟨-, -, -, boundSlice, -⟩
  obtain ⟨t, ht, hadSel, -⟩ := boundSlice deselected rfl rfl
  have kept : t.bound = (runBoundSlice deselected).bound := Host.Outcome.next.inj ht ▸ (runBoundSlice deselected).settle_keeps.bound
  have taken : t.bound.hadSel = selecting.selSlot.isSome := by
    rw [kept]
    exact boundNow_hadSel (by rw [State.atSheetTime_bound]; rfl)
  exact absurd (hadSel.symm.trans taken) (by decide +kernel)

/-! ### MOULD_ACTIVATE in a ring that completes into itself (R45)

As with TIME_SET above, `Completes` judges the room of the completion ring before the command is fetched, and fetching takes it away. -/

/-- `selfPaired` with a mould READY in buffer A. -/
def selfPairedReady : State := selfPaired.put (stateFld 0) 2

theorem selfPairedReady_accepts : selfPairedReady.Accepts {} false 0 :=
  { selfPaired_accepts with
    ring := .inr (by decide +kernel)
    room := by decide +kernel
    stock := by decide +kernel
    share := fun h => nomatch h.1 }

theorem selfPairedReady_mayComplete : selfPairedReady.ringRoom (selfPairedReady.get (HIF.RING_CFG_PAIR 0)) 1 = true ∧
    selfPairedReady.ringBme (selfPairedReady.get (HIF.RING_CFG_PAIR 0)) = true := by decide +kernel

/-- MOULD_ACTIVATE 1,125,899,907 sheets ahead puts nothing out of the engine. -/
theorem selfPairedReady_mouldActivate_out : ((selfPairedReady.awake (runMouldActivate {} 0 1125899907)).settle).out = [] := by decide +kernel

/-- Refutes O47: a MOULD_ACTIVATE too far ahead of `selfPairedReady` is to be rejected with RANGE, but its completion finds no room in the ring and
waits. -/
theorem not_farSheetNumbersAreRefused : ¬ Obligations.FarSheetNumbersAreRefused := by
  rintro ⟨refused, -⟩
  obtain ⟨t, ht, ⟨-, posted⟩, -⟩ := refused selfPairedReady {} 0 1125899907 selfPairedReady_accepts (by decide) (by decide +kernel) (by decide +kernel)
    (by decide +kernel) (by decide +kernel)
  obtain ⟨hroom, hbme⟩ := selfPairedReady_mayComplete
  obtain ⟨_, _, hmem⟩ := posted (by decide) hroom hbme
  have hout : t.out = [] := Host.Outcome.next.inj ht ▸ selfPairedReady_mouldActivate_out
  exact absurd (hout ▸ hmem) List.not_mem_nil

end Sys2Proof.Machine
end

section
/-! Statements that fail, each with a state that the model carries to the refuting outcome. -/

namespace Sys2Proof.Machine

/-! ### Completions in a ring that completes into itself (R2, R82, R386, R467)

As with TIME_SET above, `Completes` judges the room of the completion ring before the command is fetched, and fetching takes it away. -/

/-- Nothing has left the engine, so a command of the default ring has not been completed where its completion ring has room. -/
theorem State.not_completes_of_out_nil {s t : State} {op status r0 : Nat}
    (room : s.ringRoom (s.get (HIF.RING_CFG_PAIR 0)) 1 = true ∧ s.ringBme (s.get (HIF.RING_CFG_PAIR 0)) = true) (hout : t.out = []) :
    ¬ s.Completes t {} op status r0 := by
  rintro ⟨-, posted⟩
  obtain ⟨_, _, hmem⟩ := posted (by decide) room.1 room.2
  exact absurd (hout ▸ hmem) List.not_mem_nil

theorem selfPaired_modeSet_out : ((selfPaired.awake (runModeSet {} 6)).settle).out = [] := by decide +kernel

/-- Refutes O48: a MODE_SET of mode 6 from `selfPaired` is to be rejected with INVALID, but its completion finds no room in the ring and waits. -/
theorem not_modeRequestsAreJudged : ¬ Obligations.ModeRequestsAreJudged := by
  rintro ⟨invalid, -⟩
  obtain ⟨t, ht, completes, -⟩ := invalid selfPaired {} 6 selfPaired_accepts (by decide)
  exact State.not_completes_of_out_nil selfPaired_mayComplete (Host.Outcome.next.inj ht ▸ selfPaired_modeSet_out) completes

/-- `selfPaired` in SIZING. -/
def selfPairedSizing : State := { selfPaired with glb := { mode := 1 } }

theorem selfPairedSizing_accepts : selfPairedSizing.Accepts {} false 0 :=
  { selfPaired_accepts with
    ring := .inr (by decide +kernel)
    room := by decide +kernel
    stock := by decide +kernel
    share := fun h => nomatch h.1 }

theorem selfPairedSizing_bistRun_out : ((selfPairedSizing.awake (runBistRun {} 0 0)).settle).out = [] := by decide +kernel

/-- Refutes O49: a BIST_RUN from `selfPairedSizing` is to be rejected with MODE_REFUSED, but its completion finds no room in the ring and waits. -/
theorem not_workIsRefusedByMode : ¬ Obligations.WorkIsRefusedByMode := by
  rintro ⟨bist, -⟩
  obtain ⟨t, ht, completes, -⟩ := bist selfPairedSizing {} 0 0 selfPairedSizing_accepts (by decide)
  exact State.not_completes_of_out_nil (by decide +kernel) (Host.Outcome.next.inj ht ▸ selfPairedSizing_bistRun_out) completes

/-! ### A denied access whose journal entry is denied too (R405, R455) -/

/-- After sheet 0, with no region in which master 0 or the ream may write. -/
def unwritable : State := { State.reset.puts [(VAT.PERM_W 0, 0), (VAT.PERM_W 13, 0)] with running := true }

theorem unwritable_denies_twice : (unwritable.vatWrite 0 0 [0]).2.get VAT.REGION_DENY_CNT = 2 := by decide +kernel

/-- Refutes O52: the journal entry of a denied write is denied itself, and REGION_DENY_CNT counts two. -/
theorem not_vatReadsWhatWasWritten : ¬ Obligations.VatReadsWhatWasWritten := by
  rintro ⟨-, denied, -⟩
  obtain ⟨-, -, -, once, -⟩ := denied unwritable 0 0 [0] (List.cons_ne_nil _ _) (by decide +kernel)
  exact absurd (unwritable_denies_twice.symm.trans once) (by decide +kernel)

/-! ### A window written with another arming (R86) -/

/-- The engine before sheet 0. -/
theorem windowWrite_arms : ((State.reset.awake (runWindowDisarmWrite .pf0 0 256)).settle).get (TDC.WIN_CFG_ARM 0) = 1 := by decide +kernel

/-- Refutes O26: a write of WIN_CFG with 1 in ARM and 0 in bits 21 and 20 arms the window. -/
theorem not_writeCommandsComplete : ¬ Obligations.WriteCommandsComplete := by
  rintro ⟨-, -, -, -, -, -, -, disarm, -⟩
  obtain ⟨t, ht, arm, -⟩ := disarm State.reset .pf0 0 256 rfl (by decide) (by decide) rfl (by decide) rfl
  exact absurd (arm.symm.trans (Host.Outcome.next.inj ht ▸ windowWrite_arms)) (by decide)

/-! ### A staged record whose ring may not master the bus (R377) -/

/-- After sheet 0, ring 0 enabled for measurement records while its function may not master the bus, and a record staged for it. -/
def busless : State :=
  { State.reset.puts [(HIF.RING_CFG_ENABLE 0, 1), (HIF.RING_CFG_TYPE 0, 4)] with
    running := true
    ledger := { floors := [0, 0, 40, 0] }
    tdc := { staged := [({} : WinSt).record 0 0 0] } }

theorem busless_posts_nothing : ((busless.awake runStagedEntryPost).settle).out = [] := by decide +kernel

/-- Refutes O27: with the Bus Master Enable of its function 0 the ring halts, and the descriptors of the record leave nothing out of the engine. -/
theorem not_ringCommandsComplete : ¬ Obligations.RingCommandsComplete := by
  rintro ⟨-, -, -, -, -, post, -⟩
  obtain ⟨t, ht, -, posted, -⟩ := post busless 0 (({} : WinSt).record 0 0 0) rfl rfl rfl (by decide +kernel) rfl (by decide +kernel) rfl rfl
    (by decide +kernel) (by decide +kernel)
  have out : t.out = [] := Host.Outcome.next.inj ht ▸ busless_posts_nothing
  have := posted _ List.mem_cons_self
  simp [out] at this

/-! ### A mould whose words are all written whole (R404)

Every write of the vat stores RMW_CNT again, here with 0 added: the register file then lists a field that it did not list before. A frame speaks of
every `Fld`, whatever its reset value, so it tells the two files apart. -/

/-- RMW_CNT with another reset value. -/
def rmwSeen : Fld := { VAT.RMW_CNT with rst := 1 }

/-- Before sheet 0, with a load of 512 bytes into buffer A under way. -/
def mouldLoading : State := { State.reset with sheet := { loadA := some ⟨{}, 512⟩ } }

/-- The data of the load, none of whose bytes makes a mould. -/
def noMould : DmaIn := { bytes := List.replicate 512 0 }

theorem mouldLoadDone_lists_rmw : ((mouldLoading.awake (runMouldLoadDone 0 noMould)).settle).get rmwSeen = 0 := by decide +kernel

/-- Refutes O20: the frame of a load that is done does not name RMW_CNT. -/
theorem not_loadsAndTargetsComplete : ¬ Obligations.LoadsAndTargetsComplete := by
  rintro ⟨done, -⟩
  obtain ⟨t, ht, -, -, -, -, -, only⟩ := done mouldLoading 0 noMould ⟨{}, 512⟩ rfl rfl (by decide +kernel) (by decide) (by decide) rfl (by decide +kernel)
    (by decide +kernel) rfl (by decide)
  have kept : t.get rmwSeen = 1 := only.get rmwSeen (by decide +kernel) (by decide +kernel)
  exact absurd (kept.symm.trans (Host.Outcome.next.inj ht ▸ mouldLoadDone_lists_rmw)) (by decide)

/-! ### The reference of the couch lanes (R233, R342)

REF_BAD of PAIR_STATUS is judged again with that of every port. -/

/-- The pair is enabled, and calender 0 is its locked reference. -/
def paired : State := State.reset.puts [(COUCH.PAIR_CFG_EN, 1), (SYN.CAL_STAT_STATE 0, 2)]

theorem couchRefBad_unnamed :
    ∀ d ∈ regBlock 0x130000 0x140000 ++ (List.range 8).flatMap linkFields, COUCH.PAIR_STATUS_REF_BAD.key ≠ d.key :=
  List.forall_mem_append.2 ⟨not_mem_block (by decide), by decide +kernel⟩

theorem calenderUnlock_marks_couch : (paired.awake (runCalenderUnlock 0)).flag COUCH.PAIR_STATUS_REF_BAD = true := by decide +kernel

/-- Refutes O33: the loss of lock of its calender marks the reference of the couch lanes as bad, and the frame does not name that. -/
theorem not_clockEventsComplete : ¬ Obligations.ClockEventsComplete := by
  rintro ⟨-, -, -, -, -, -, unlock, -⟩
  obtain ⟨t, ht, -, -, -, only⟩ := unlock paired 0 rfl (by decide) (by decide +kernel)
  have kept : t.get COUCH.PAIR_STATUS_REF_BAD = 0 := (only.get _ (by decide +kernel) couchRefBad_unnamed).trans (by decide +kernel)
  have marked : t.flag COUCH.PAIR_STATUS_REF_BAD = true :=
    Host.Outcome.next.inj ht ▸ ((Keeps.refl _).settle.flag _ (by decide)).trans calenderUnlock_marks_couch
  simp [State.flag, kept] at marked

/-- OSC_IN runs at 10 MHz. -/
def tenMHz : List Nat := List.replicate 8 (ratioOf 0).floor.toNat

/-- `paired` with the vat initialised, before OSC_IN is found. -/
def pairedEarly : State := paired.put VAT.VAT_STATUS_INIT_DONE 1

theorem oscInDetected_marks_couch : (pairedEarly.awake (runOscInDetected tenMHz)).flag COUCH.PAIR_STATUS_REF_BAD = true := by decide +kernel

/-- Refutes O32: the start of the calenders marks the reference of the couch lanes as bad, and the frame does not name that. -/
theorem not_startCommandsComplete : ¬ Obligations.StartCommandsComplete := by
  rintro ⟨-, -, detected, -⟩
  obtain ⟨t, ht, -, -, -, -, -, -, only⟩ := detected pairedEarly tenMHz 0 rfl rfl (by decide +kernel) (by decide +kernel) (by decide +kernel)
  have kept : t.get COUCH.PAIR_STATUS_REF_BAD = 0 := (only.get _ (by decide +kernel) couchRefBad_unnamed).trans (by decide +kernel)
  have marked : t.flag COUCH.PAIR_STATUS_REF_BAD = true :=
    Host.Outcome.next.inj ht ▸ ((Keeps.refl _).settle.flag _ (by decide)).trans oscInDetected_marks_couch
  simp [State.flag, kept] at marked

/-! ### The receive time of a frame while the counter is coarse (R62, R240) -/

/-- The link of port 0 is up, at 10 Gb/s, while the counter runs on OSC_IN. -/
def coarseUp : State :=
  State.reset.puts [(MAC.PORT_CFG_RATE 0, 1), (MAC.PORT_STATUS_LINK 0, 2), (MAC.PORT_CFG_MAX_FRAME 0, 1518), (TIME.TIME_STATUS_COARSE, 1)]

/-- A broadcast frame of a type that nothing in the engine takes. -/
def broadcast : List Byte := List.replicate 6 0xFF ++ List.replicate 54 0

theorem frameRx_times_by_cycle :
    (((coarseUp.awake (runFrameRx 0 broadcast true 1)).settle).port 0).rx.map (·.time) = [3276800] := by decide +kernel

/-- Refutes O36: while COARSE is 1 a frame is timed by the first OSC_IN cycle at or after it, not by the instant it came. -/
theorem not_frameArrivalsComplete : ¬ Obligations.FrameArrivalsComplete := by
  rintro ⟨-, -, staged, -⟩
  obtain ⟨t, ht, -, rx, -⟩ := staged coarseUp 0 broadcast 1 rfl (by decide) (by decide +kernel) (by decide +kernel) (by decide) (by decide +kernel) rfl
    (by decide +kernel)
  have timed : (t.port 0).rx.map (·.time) = [3276800] := Host.Outcome.next.inj ht ▸ frameRx_times_by_cycle
  rw [rx] at timed
  exact absurd timed (by decide +kernel)

end Sys2Proof.Machine
end

section
/-! What PF1 may change (R371). -/

namespace Sys2Proof.Machine

/-- Before sheet 0, with no vector masked. -/
def unmasked : State := { State.reset with irq := { masked := [] } }

/-- A write of RING_CFG 0 by PF1, with which the endpoint reports vector 0 as masked. -/
def pf1RingWrite : Instr := .ringEnable .pf1 0 0 { masked := [0] }

theorem pf1RingWrite_masks : ((unmasked.awake (runRingEnable .pf1 0 0 { masked := [0] })).settle).core.irq.masked = [0] := by decide +kernel

/-- Refutes O50: the write of PF1 is ignored, but the vectors masked that come with it are taken over. -/
theorem not_pf1ChangesNothing : ¬ Obligations.Pf1ChangesNothing := by
  intro h
  obtain ⟨t, ht, only⟩ := h unmasked pf1RingWrite (by decide) rfl rfl
  have kept : t.core.irq.masked = [] := congrArg (fun c : Core => c.irq.masked) only.core
  exact absurd (kept.symm.trans (Host.Outcome.next.inj ht ▸ pf1RingWrite_masks)) (by decide)

end Sys2Proof.Machine
end

section
/-! The queue, the reset state, what acts in reset, the pair's pins, and short times. -/

namespace Sys2Proof.Machine

/-! ### The queue and reset -/

/-- Every command answers a state in which what follows every command has been done. -/
theorem exec_settles (i : Instr) (s : State) : ∃ u : State, exec i s = .next u.settle := by
  cases i <;> exact ⟨_, rfl⟩

/-- Settles O1, by the arms of step and of exec. -/
theorem stepRunsTheFrontCommand : Obligations.StepRunsTheFrontCommand := by
  refine ⟨fun s c rest h => ?_, fun s h => ?_, fun s c => ?_⟩
  · simp only [step, h]
  · simp only [step, h]
  · obtain ⟨u, hu⟩ := exec_settles c s
    exact ⟨_, hu⟩

/-- Registers that show other state agree with it after reset. -/
theorem State.reset_shows : State.reset.Shows where
  clocks := by unfold State.muted; decide +kernel
  driven := by unfold State.muted; decide +kernel
  pps := by unfold State.muted; decide +kernel
  noSource := by decide +kernel
  ptp := by decide +kernel
  nts := by decide +kernel
  sizing := by decide +kernel
  faultN := by decide +kernel
  active := by decide +kernel
  timer := by decide +kernel

/-- Settles O2: the register file of the reset state is empty, so every field reads its reset value. -/
theorem resetState : Obligations.ResetState :=
  ⟨fun _ => rfl, rfl, rfl, rfl, rfl, by decide, rfl, rfl, by decide, State.reset_shows⟩

theorem State.settle_inReset {s : State} (h : s.inReset = true) : s.settle = s := by simp [State.settle, h]

theorem State.awake_inReset {s : State} (h : s.inReset = true) (f : State → State) : s.awake f = s := by simp [State.awake, h]

theorem State.clocked_inReset {s : State} (h : s.inReset = true) (f : State → State) : s.clocked f = s := by simp [State.clocked, h]

/-- A command that is not one of the reset and keep-alive domain runs only while the engine is awake or its sheets run. -/
theorem exec_gated (i : Instr) (s : State) (h : ungated i = false) :
    ∃ f : State → State, exec i s = .next (s.awake f).settle ∨ exec i s = .next (s.clocked f).settle := by
  cases i with
  | vkeepLoss | vkeepRise _ | tamperTrigger _ _ | kaLatchEdge _ _ | resetAssert | resetRelease _ _ => cases h
  | _ => first
    | exact ⟨_, .inl rfl⟩
    | exact ⟨_, .inr rfl⟩

/-- Settles O57: in reset neither the gates nor what follows a command change the state. -/
theorem inResetNothingHappens : Obligations.InResetNothingHappens := by
  intro s i r g
  obtain ⟨f, h | h⟩ := exec_gated i s g
  · rw [h, State.awake_inReset r, State.settle_inReset r]
  · rw [h, State.clocked_inReset r, State.settle_inReset r]

/-! ### The pair's pins -/

theorem servingMode_iff (m : Nat) : servingMode m = true ↔ m = 2 ∨ m = 3 ∨ m = 4 := by simp [servingMode, or_assoc]

/-- Settles O60: both pins are read off the mode and the parity of the sheet number. -/
theorem pairPinsFollowTheUnit : Obligations.PairPinsFollowTheUnit := by
  refine ⟨fun s r => ?_, fun s r en m => ?_, fun s m => ?_, fun s b h => ?_⟩
  · rw [State.pairActO, r, Bool.not_false, Bool.and_true]
    exact servingMode_iff s.mode
  · have parity : (s.sheetNo % 2 == 0) = (s.sheetNo % 2 != 1) := by
      rcases Nat.mod_two_eq_zero_or_one s.sheetNo with e | e <;> simp [e]
    rw [State.heartbeat, if_pos (by simp [r, en, m]), parity]
  · simp [State.heartbeat, m]
  · unfold State.heartbeat at h
    split at h
    · cases h
      rcases Nat.mod_two_eq_zero_or_one s.sheetNo with e | e <;> simp [e]
    · cases h

/-! ### Short times -/

/-- Two's complement of 64 bits gives back a number modulo 2^64, from -2^63 to below 2^63. -/
theorem toS_ofS_64 (i : Int) : (2 ^ 64 : Int) ∣ toS 64 (ofS 64 i) - i ∧ -(2 ^ 63 : Int) ≤ toS 64 (ofS 64 i) ∧ toS 64 (ofS 64 i) < 2 ^ 63 := by
  unfold toS ofS
  split <;> omega

/-- Settles O46: the difference of short times is the signed remainder, so the count it names is the nearest. -/
theorem shortTimesNameTheNearestCount : Obligations.ShortTimesNameTheNearestCount := by
  refine ⟨fun s target h => ?_, fun s u => ?_⟩
  · obtain ⟨cong, lo, hi⟩ := toS_ofS_64 ((target : Int) - s.units)
    have e : s.targetUnits target = s.units + toS 64 (ofS 64 ((target : Int) - s.units)) := if_pos h
    rw [e]
    omega
  · rw [State.targetOk, decide_eq_true_iff]
    unfold absI halfWrap
    split <;> omega

end Sys2Proof.Machine
end

section
/-! What is shown after every command: squelch, drive, service, FAULT_N and the reaction timer. -/

namespace Sys2Proof.Machine

variable {s t u : State}

/-! ### What comes after the judging of faults leaves the fault block -/

/-- The fields of the fault block (BAR0 offsets 0x210000 to 0x21FFFF) read the same. -/
def FltSame (s t : State) : Prop := ∀ f : Fld, 69206016 ≤ f.key → f.key < 71303168 → t.get f = s.get f

/-- A field outside the fault block. -/
def OffFlt (k : Nat) : Prop := k < 69206016 ∨ 71303168 ≤ k

theorem FltSame.refl (s : State) : FltSame s s := fun _ _ _ => rfl

theorem FltSame.trans (a : FltSame s t) (b : FltSame t u) : FltSame s u := fun f lo hi => (b f lo hi).trans (a f lo hi)

theorem FltSame.ledgerSet (h : FltSame s t) (x : LedgerSt) : FltSame s { t with ledger := x } := h
theorem FltSame.reamSet (h : FltSame s t) (x : ReamSt) : FltSame s { t with ream := x } := h
theorem FltSame.hifSet (h : FltSame s t) (x : HifSt) : FltSame s { t with hif := x } := h
theorem FltSame.irqSet (h : FltSame s t) (x : IrqSt) : FltSame s { t with irq := x } := h
theorem FltSame.vatcSet (h : FltSame s t) (x : VatSt) : FltSame s { t with vatc := x } := h
theorem FltSame.reamVatcSet (h : FltSame s t) (x : ReamSt) (y : VatSt) : FltSame s { t with ream := x, vatc := y } := h
theorem FltSame.emit (h : FltSame s t) (o : Out) : FltSame s (t.emit o) := h
theorem FltSame.unpoison (h : FltSame s t) (a n : Nat) : FltSame s (t.unpoison a n) := h

theorem FltSame.put (h : FltSame s t) (f : Fld) (v : Nat) (n : OffFlt f.key) : FltSame s (t.put f v) :=
  h.trans (fun g lo hi => State.get_put_other t f g v (by unfold OffFlt at n; omega))

theorem FltSame.putB (h : FltSame s t) (f : Fld) (b : Bool) (n : OffFlt f.key) : FltSame s (t.putB f b) := h.put f _ n

theorem FltSame.puts (h : FltSame s t) (p : List (Fld × Nat)) (n : ∀ q ∈ p, OffFlt q.1.key) : FltSame s (t.puts p) := by
  induction p generalizing t with
  | nil => exact h
  | cons q p ih =>
    obtain ⟨f, v⟩ := q
    exact ih (h.put f v (n (f, v) (by simp))) (fun r hr => n r (by simp [hr]))

theorem FltSame.ite {c : Prop} [Decidable c] {a b : State} (ha : FltSame s a) (hb : FltSame s b) : FltSame s (if c then a else b) := by
  split
  · exact ha
  · exact hb

theorem FltSame.foldList {α : Type} (p : List α) (g : State → α → State) (h : FltSame s t)
    (k : ∀ (u : State) (a : α), a ∈ p → FltSame s u → FltSame s (g u a)) : FltSame s (p.foldl g t) := by
  induction p generalizing t with
  | nil => exact h
  | cons a p ih => exact ih (k t a (by simp) h) (fun u b m => k u b (by simp [m]))

theorem FltSame.foldRange (n : Nat) (g : State → Nat → State) (h : FltSame s t)
    (k : ∀ (u : State) (i : Nat), i < n → FltSame s u → FltSame s (g u i)) : FltSame s ((List.range n).foldl g t) :=
  h.foldList _ g (fun u i m => k u i (List.mem_range.1 m))

theorem FltSame.charge0 (h : FltSame s t) (n : Nat) : FltSame s (t.charge0 n) := by
  unfold State.charge0
  exact FltSame.ite (FltSame.ledgerSet (h.put LEDGER.SHARED_LEFT _ (.inl (by decide))) _) h

theorem FltSame.showVec (h : FltSame s t) (v : Nat) (b : Bool) (hv : v < 128) : FltSame s (t.showVec v b) := by
  have h1 := h.puts [(IRQ.VEC_STAT_STATE v, if (nth t.irq.claims v []).length ≠ 0 then 2 else if b then 1 else 0),
    (IRQ.VEC_STAT_LEVEL v, min 15 (t.claimGroup v)), (IRQ.VEC_STAT_DEPTH v, (nth t.irq.claims v []).length)] (by
      simp only [List.mem_cons, List.not_mem_nil, or_false, forall_eq_or_imp, forall_eq, OffFlt, IRQ.VEC_STAT_STATE, IRQ.VEC_STAT_LEVEL,
        IRQ.VEC_STAT_DEPTH]
      omega)
  unfold State.showVec
  exact FltSame.ite (h1.putB _ _ (.inl (by decide))) h1

theorem FltSame.sendMsg (h : FltSame s t) (v : Nat) (hv : v < 128) : FltSame s (t.sendMsg v) := by
  unfold State.sendMsg
  exact FltSame.ite h (FltSame.ite (h.putB _ _ (by simp only [OffFlt, IRQ.VEC_STAT_PBA]; omega)) ((h.charge0 20).emit _))

theorem FltSame.vecRefresh (h : FltSame s t) (v : Nat) (b : Bool) (hv : v < 128) : FltSame s (t.vecRefresh v b) := by
  have shown (x : IrqSt) (c : Bool) : FltSame s (State.showVec { t with irq := x } v c) := (h.irqSet x).showVec v c hv
  unfold State.vecRefresh
  dsimp only
  split
  · exact (shown _ _).sendMsg v hv
  · exact shown _ _

theorem FltSame.setPending (h : FltSame s t) (x : Nat) (b : Bool) (hx : x < 512) : FltSame s (t.setPending x b) := by
  have h1 := h.putB (IRQ.SRC_CFG_PENDING x) b (by simp only [OffFlt, IRQ.SRC_CFG_PENDING]; omega)
  unfold State.setPending
  exact FltSame.ite h ((h1.put _ _ (.inl (by decide))).vecRefresh _ _ (State.vecOf_lt _ _))

theorem FltSame.irqEdge (h : FltSame s t) (x : Nat) (hx : x < 512) : FltSame s (t.irqEdge x) := FltSame.ite h (h.setPending x true hx)

theorem FltSame.irqLevel (h : FltSame s t) (x : Nat) (b : Bool) (hx : x < 512) : FltSame s (t.irqLevel x b) := by
  have h1 := h.putB (IRQ.SRC_CFG_RAW x) b (by simp only [OffFlt, IRQ.SRC_CFG_RAW]; omega)
  unfold State.irqLevel
  dsimp only
  refine FltSame.setPending ?_ x _ hx
  split
  · exact h1
  · exact h1.irqSet _

theorem FltSame.pmuOne (h : FltSame s t) (ev q n k : Nat) (hk : k < 32) : FltSame s (t.pmuOne ev q n k) := by
  have h1 := h.put (PMU.PMU_CNT k) ((t.get (PMU.PMU_CNT k) + n) % 2 ^ 48) (by simp only [OffFlt, PMU.PMU_CNT]; omega)
  unfold State.pmuOne
  exact FltSame.ite (FltSame.ite (h1.irqEdge _ (by omega)) h1) h

theorem FltSame.pmu (h : FltSame s t) (ev q n : Nat) : FltSame s (t.pmu ev q n) :=
  h.foldRange 32 _ (fun _ i hi hu => hu.pmuOne ev q n i hi)

theorem FltSame.incBy (h : FltSame s t) (f : Fld) (n : Nat) (a : OffFlt f.key) : FltSame s (t.incBy f n) := by
  have hb := blockOf_lt (f.key / 32)
  unfold State.incBy
  exact FltSame.ite h (FltSame.ite (h.put f _ a) (((h.put f _ a).put GLB.GLB_CNT_OVF _ (.inl (by decide))).irqLevel _ _ (by omega)))

theorem FltSame.inc (h : FltSame s t) (f : Fld) (a : OffFlt f.key) : FltSame s (t.inc f) := h.incBy f 1 a

theorem FltSame.vatCount (h : FltSame s t) (a n : Nat) : FltSame s (t.vatCount a n) := by
  unfold State.vatCount
  exact FltSame.ite h (h.foldList _ _ (fun _ _ _ hu => hu.pmu _ _ _))

theorem FltSame.denyMark (h : FltSame s t) (m a : Nat) (w : Bool) : FltSame s (t.denyMark m a w) :=
  (h.inc _ (.inl (by decide))).puts _ (by
    simp only [List.mem_cons, List.not_mem_nil, or_false, forall_eq_or_imp, forall_eq, OffFlt]
    decide)

theorem FltSame.denyDue (h : FltSame s t) (m a : Nat) (w : Bool) : FltSame s (t.denyDue m a w) := by
  unfold State.denyDue
  dsimp only
  exact FltSame.ite (h.denyMark m a w) (FltSame.hifSet (FltSame.vatcSet (h.denyMark m a w) { (t.denyMark m a w).vatc with denied := true }) _)

theorem FltSame.reamWrite (h : FltSame s t) (e : ReamEntry) : FltSame s (t.reamWrite e) := by
  unfold State.reamWrite
  dsimp only
  split
  · exact ((h.denyDue _ _ _).charge0 _).inc REAM.REAM_LOST_CNT (.inr (by decide))
  · split
    · exact FltSame.unpoison (FltSame.reamSet ((((h.putB REAM.REAM_STATUS_GAP_OPEN _ (.inr (by decide))).put REAM.REAM_SEQ _
        (.inr (by decide))).put REAM.REAM_UNDRAINED _ (.inr (by decide))).putB REAM.REAM_STATUS_FULL _ (.inr (by decide))) _) _ _
    · split
      · exact (FltSame.charge0 (h.reamSet _) 60).inc REAM.REAM_LOST_CNT (.inr (by decide))
      · refine FltSame.hifSet (FltSame.inc (FltSame.inc (FltSame.charge0 (FltSame.unpoison (FltSame.reamSet (FltSame.puts h _ ?_) _) _ _) 60)
          REAM.REAM_LOST_CNT (.inr (by decide))) REAM.GAP_CNT (.inr (by decide))) _
        simp only [List.mem_cons, List.not_mem_nil, or_false, forall_eq_or_imp, forall_eq, OffFlt]
        decide

theorem FltSame.journal (h : FltSame s t) (o : Origin) (k a x y c : Nat) : FltSame s (t.journal o k a x y c) := by
  unfold State.journal
  dsimp only
  split
  · exact h.reamWrite _
  · exact h.reamSet _

theorem FltSame.ringHalt (h : FltSame s t) (n e : Nat) (hn : n < 64) : FltSame s (t.ringHalt n e) := by
  unfold State.ringHalt
  refine FltSame.ite h (FltSame.hifSet (FltSame.journal (FltSame.puts (h.charge0 300) _ ?_) _ _ _ _ _ _) _)
  simp only [List.mem_cons, List.not_mem_nil, or_false, forall_eq_or_imp, forall_eq, OffFlt, HIF.RING_STAT_HALTED, HIF.RING_STAT_ERR,
    HIF.RING_STAT_RUNNING]
  omega

theorem FltSame.ringFire (h : FltSame s t) (n : Nat) (hn : n < 64) : FltSame s (t.ringFire n) := by
  unfold State.ringFire
  dsimp only
  split
  · exact FltSame.irqEdge (h.hifSet _) n (by omega)
  · exact h.hifSet _

theorem FltSame.ringPut (h : FltSame s t) (n : Nat) (d : Desc) (hn : n < 64) : FltSame s (t.ringPut n d) :=
  (h.emit _).put _ _ (by simp only [OffFlt, HIF.RING_PROD]; omega)

theorem FltSame.ringWrite (h : FltSame s t) (n : Nat) (ds : List Desc) (hn : n < 64) : FltSame s (t.ringWrite n ds) := by
  have h1 : FltSame s (ds.foldl (fun s d => s.ringPut n d) t) := h.foldList ds _ (fun u a _ hu => hu.ringPut n a hn)
  have row (r : RingSt) (v : State) (hv : FltSame s v) (ev q k : Nat) (b : Bool) :
      FltSame s (((State.pmu { v with hif := { v.hif with rings := setNth v.hif.rings n r } }) ev q k).putB (HIF.RING_STAT_FULL n) b) :=
    FltSame.putB (FltSame.pmu (hv.hifSet _) _ _ _) _ _ (by simp only [OffFlt, HIF.RING_STAT_FULL]; omega)
  unfold State.ringWrite
  split
  · exact (h.ringHalt n 3 hn).inc HIF.DMA_ERR_CNT (.inl (by decide))
  · exact FltSame.ite ((row _ _ h1 _ _ _ _).ringFire n hn) (row _ _ h1 _ _ _ _)

theorem FltSame.uncorrMark (h : FltSame s t) (m a : Nat) : FltSame s (t.uncorrMark m a) :=
  ((h.charge0 300).inc _ (.inl (by decide))).puts _ (by
    simp only [List.mem_cons, List.not_mem_nil, or_false, forall_eq_or_imp, forall_eq, OffFlt]
    decide)

theorem FltSame.uncorrDue (h : FltSame s t) (m a : Nat) : FltSame s (t.uncorrDue m a) :=
  FltSame.journal (FltSame.hifSet (h.uncorrMark m a) _) _ _ _ _ _ _

theorem FltSame.denyStage (h : FltSame s t) (m a : Nat) (w : Bool) : FltSame s (t.denyStage m a w) :=
  FltSame.ite (h.denyDue m a w) ((h.denyDue m a w).journal _ _ _ _ _ _)

theorem FltSame.stagePut (h : FltSame s t) (m a : Nat) : FltSame s (t.stagePut m a).2 := by
  unfold State.stagePut
  split
  · exact (h.vatCount a 32).unpoison a 32
  · exact h.denyStage m a true

theorem FltSame.stageGet (h : FltSame s t) (m a : Nat) : FltSame s (t.stageGet m a).2 := by
  unfold State.stageGet
  split
  · exact h.denyStage m a false
  · split
    · exact (h.vatCount a 32).uncorrDue _ _
    · exact h.vatCount a 32

theorem FltSame.gapGone (h : FltSame s t) (d : Desc) : FltSame s (t.gapGone d) := by
  unfold State.gapGone
  split
  · exact h.hifSet _
  · exact h

theorem FltSame.stageDesc (h : FltSame s t) (d : Desc) : FltSame s (t.stageDesc d) := by
  unfold State.stageDesc
  split
  · exact FltSame.inc (h.hifSet _) HIF.EVENT_DROP_CNT (.inl (by decide))
  · have h1 := h.stagePut 11 (t.evSlot t.hif.events.length)
    split
    · next e => rw [e] at h1; exact FltSame.put (h1.hifSet _) HIF.EVT_STAGE _ (.inl (by decide))
    · next e => rw [e] at h1; exact FltSame.inc (h1.hifSet _) HIF.EVENT_DROP_CNT (.inl (by decide))

theorem FltSame.drainEvent (h : FltSame s t) : FltSame s t.drainEvent := by
  unfold State.drainEvent
  split
  · next n e es e1 _ =>
    have hn := State.ringOf_lt e1
    split
    · dsimp only
      have h1 := h.stageGet 11 (t.evSlot 0)
      split
      · next e =>
        rw [e] at h1
        exact FltSame.ringWrite (FltSame.gapGone (FltSame.put (h1.hifSet _) HIF.EVT_STAGE _ (.inl (by decide))) _) n _ hn
      · next e => rw [e] at h1; exact h1.ringHalt n 3 hn
      · next e => rw [e] at h1; exact FltSame.ringHalt (FltSame.put (h1.hifSet _) HIF.EVT_STAGE _ (.inl (by decide))) n 4 hn
    · exact h.putB _ _ (by simp only [OffFlt, HIF.RING_STAT_FULL]; omega)
  · exact h

theorem FltSame.sendDesc (h : FltSame s t) (d : Desc) : FltSame s (t.sendDesc d) := by
  unfold State.sendDesc
  split
  · next n e => exact FltSame.ite ((h.gapGone d).ringWrite n _ (State.ringOf_lt e)) (h.stageDesc d).drainEvent
  · exact h.stageDesc d

theorem FltSame.flushDue (h : FltSame s t) : FltSame s t.flushDue :=
  FltSame.foldList _ _ (h.hifSet _) (fun _ _ _ hu => hu.sendDesc _)

theorem FltSame.eventIn (h : FltSame s t) (c o : Nat) (v : Int) : FltSame s (t.eventIn c o v) := h.flushDue.sendDesc _

theorem FltSame.vatDeny (h : FltSame s t) (m a : Nat) (w : Bool) : FltSame s (t.vatDeny m a w) := by
  have h1 := h.denyMark m a w
  unfold State.vatDeny
  exact FltSame.ite h1 ((FltSame.eventIn (h1.vatcSet { (t.denyMark m a w).vatc with denied := true }) _ _ _).journal _ _ _ _ _ _)

theorem FltSame.vatUncorr (h : FltSame s t) (m a : Nat) : FltSame s (t.vatUncorr m a) :=
  ((h.uncorrMark m a).eventIn _ _ _).journal _ _ _ _ _ _

theorem FltSame.vatRead (h : FltSame s t) (m a n : Nat) : FltSame s (t.vatRead m a n).2 := by
  unfold State.vatRead
  split
  · exact h.vatDeny _ _ _
  · split
    · exact (h.vatCount _ _).vatUncorr _ _
    · exact h.vatCount _ _

theorem FltSame.reamRead (h : FltSame s t) (i : Nat) : FltSame s (t.reamRead i).2 := by
  unfold State.reamRead
  split
  · exact h
  · dsimp only
    split
    · exact FltSame.reamVatcSet ((((h.vatRead _ _ _).charge0 60).inc REAM.REAM_LOST_CNT (.inr (by decide))).inc REAM.GAP_CNT (.inr (by decide))) _ _
    · exact h.vatRead _ _ _
    · exact h.vatRead _ _ _

theorem FltSame.reamPosts (h : FltSame s t) (k : Nat) : FltSame s (t.reamPosts k) := by
  induction k generalizing t with
  | zero => exact h
  | succ k ih =>
    unfold State.reamPosts
    split
    · exact h
    · next n e =>
      have hn := State.ringOf_lt e
      split
      · exact h
      · split
        · exact h.putB _ _ (by simp only [OffFlt, HIF.RING_STAT_FULL]; omega)
        · have hr := h.reamRead t.ream.posted
          split
          · next e => rw [e] at hr; exact hr.ringHalt n 3 hn
          · next e =>
            rw [e] at hr
            exact ih (FltSame.ringWrite (FltSame.charge0 (hr.reamSet _) 20) n _ hn)

theorem FltSame.reamPost (h : FltSame s t) : FltSame s t.reamPost := FltSame.ite h (h.reamPosts _)

theorem FltSame.showReamWin (h : FltSame s t) : FltSame s t.showReamWin := by
  unfold State.showReamWin
  dsimp only
  refine FltSame.ite (FltSame.foldRange 16 _ ?_ (fun _ i hi hu => hu.put _ _ (by simp only [OffFlt, REAM.REAM_WIN]; omega))) h
  split
  · exact h.reamRead 0
  · exact h

theorem FltSame.judgeOvf (h : FltSame s t) (b : Nat) (hb : b < 26) : FltSame s (t.judgeOvf b) :=
  FltSame.ite h (FltSame.ite h (h.irqLevel _ _ (by omega)))


/-! ### FAULT_N, the count of active faults and the reaction timer -/

/-- What the fault block shows agrees with its state (R430, R432). -/
structure State.FltShows (s : State) : Prop where
  faultN : s.flag FLT.FLT_STATUS_FAULT_N = true ↔ s.flag FLT.FLT_STATUS_PULSE = true ∨ s.flag FLT.FAULTN_CFG_HOLD = true
  active : s.get FLT.FLT_STATUS_ACTIVE_N = ((List.range 24).filter (s.fbit FLT.FLT_ACTIVE)).length
  timer : s.flag FLT.FLT_STATUS_TIMER_RUN = true ↔ s.pressing = true

/-- Whether faults press is read off three registers of each fault. -/
theorem State.pressing_congr (st : t.get FLT.FLT_STATUS_STAGE = s.get FLT.FLT_STATUS_STAGE)
    (k : ∀ f < 24, t.get (FLT.FLT_ACTIVE (f / 32)) = s.get (FLT.FLT_ACTIVE (f / 32)) ∧ t.get (FLT.FLT_ACKED (f / 32)) = s.get (FLT.FLT_ACKED (f / 32)) ∧
      t.get (FLT.FLT_CFG f) = s.get (FLT.FLT_CFG f)) : t.pressing = s.pressing := by
  unfold State.pressing
  rw [Bool.eq_iff_iff, List.any_eq_true, List.any_eq_true]
  refine exists_congr (fun f => and_congr_right (fun hf => ?_))
  obtain ⟨a, b, c⟩ := k f (List.mem_range.1 hf)
  simp only [State.presses, State.fbit, a, b, c, st]

/-- How many faults are active is read off their bits. -/
theorem State.activeN_congr (k : ∀ f < 24, t.get (FLT.FLT_ACTIVE (f / 32)) = s.get (FLT.FLT_ACTIVE (f / 32))) :
    (List.range 24).filter (t.fbit FLT.FLT_ACTIVE) = (List.range 24).filter (s.fbit FLT.FLT_ACTIVE) :=
  List.filter_congr (fun f hf => by simp only [State.fbit, k f (List.mem_range.1 hf)])

theorem FltSame.shows (h : FltSame s t) (k : s.FltShows) : t.FltShows := by
  have act (f : Nat) (hf : f < 24) : t.get (FLT.FLT_ACTIVE (f / 32)) = s.get (FLT.FLT_ACTIVE (f / 32)) :=
    h _ (by simp only [FLT.FLT_ACTIVE]; omega) (by simp only [FLT.FLT_ACTIVE]; omega)
  have press : t.pressing = s.pressing := State.pressing_congr (h _ (by decide) (by decide)) (fun f hf =>
    ⟨act f hf, h _ (by simp only [FLT.FLT_ACKED]; omega) (by simp only [FLT.FLT_ACKED]; omega), h _ (by simp only [FLT.FLT_CFG]; omega)
      (by simp only [FLT.FLT_CFG]; omega)⟩)
  have fl (f : Fld) (lo : 69206016 ≤ f.key) (hi : f.key < 71303168) : t.flag f = s.flag f := by simp only [State.flag, h f lo hi]
  constructor
  · rw [fl _ (by decide) (by decide), fl _ (by decide) (by decide), fl _ (by decide) (by decide)]; exact k.faultN
  · rw [h _ (by decide) (by decide), State.activeN_congr act]; exact k.active
  · rw [fl _ (by decide) (by decide), press]; exact k.timer

/-- A field written with 1 or 0 as a condition holds reads as that condition. -/
theorem State.flag_put_bit (s : State) (f : Fld) (w : f.width = 1) (b : Bool) : (s.put f (if b then 1 else 0)).flag f = b := by
  cases b <;> simp [State.flag, w]

theorem State.flag_put_notBit (s : State) (f : Fld) (w : f.width = 1) (b : Bool) : (s.put f (if b then 0 else 1)).flag f = !b := by
  cases b <;> simp [State.flag, w]

theorem State.showFaults_shows (s : State) : s.showFaults.FltShows := by
  obtain ⟨u, hu⟩ : ∃ u, u = s.puts [(FLT.FLT_STATUS_ACTIVE_N, ((List.range 24).filter (s.fbit FLT.FLT_ACTIVE)).length),
    (FLT.FLT_STATUS_FAULT_N, if s.flag FLT.FLT_STATUS_PULSE || s.flag FLT.FAULTN_CFG_HOLD then 1 else 0)] := ⟨_, rfl⟩
  have kept (f : Fld) (a : f.key ≠ FLT.FLT_STATUS_ACTIVE_N.key) (b : f.key ≠ FLT.FLT_STATUS_FAULT_N.key) : u.get f = s.get f := by
    rw [hu, State.puts_cons, State.puts_cons, State.puts_nil, State.get_put_other _ _ _ _ b, State.get_put_other _ _ _ _ a]
  have act (f : Nat) (hf : f < 24) : u.get (FLT.FLT_ACTIVE (f / 32)) = s.get (FLT.FLT_ACTIVE (f / 32)) :=
    kept _ (by simp only [FLT.FLT_ACTIVE, FLT.FLT_STATUS_ACTIVE_N]; omega) (by simp only [FLT.FLT_ACTIVE, FLT.FLT_STATUS_FAULT_N]; omega)
  have few : ((List.range 24).filter (s.fbit FLT.FLT_ACTIVE)).length ≤ 24 := by
    simpa using List.length_filter_le (s.fbit FLT.FLT_ACTIVE) (List.range 24)
  have activeN : u.get FLT.FLT_STATUS_ACTIVE_N = ((List.range 24).filter (u.fbit FLT.FLT_ACTIVE)).length := by
    rw [State.activeN_congr act, hu, State.puts_cons, State.puts_cons, State.puts_nil, State.get_put_other _ _ _ _ (by decide),
      State.get_put_fits]
    simp only [FLT.FLT_STATUS_ACTIVE_N]; omega
  have faultN : u.flag FLT.FLT_STATUS_FAULT_N = true ↔ u.flag FLT.FLT_STATUS_PULSE = true ∨ u.flag FLT.FAULTN_CFG_HOLD = true := by
    have fl (f : Fld) (a : f.key ≠ FLT.FLT_STATUS_ACTIVE_N.key) (b : f.key ≠ FLT.FLT_STATUS_FAULT_N.key) : u.flag f = s.flag f := by
      simp only [State.flag, kept f a b]
    rw [fl FLT.FLT_STATUS_PULSE (by decide) (by decide), fl FLT.FAULTN_CFG_HOLD (by decide) (by decide), ← Bool.or_eq_true, hu,
      State.puts_cons, State.puts_cons, State.puts_nil, State.flag_put_bit _ _ rfl]
  have timed (v : State) (r : ∀ f : Fld, f.key ≠ FLT.FLT_STATUS_TIMER_RUN.key → v.get f = u.get f)
      (e : v.flag FLT.FLT_STATUS_TIMER_RUN = u.pressing) : v.FltShows := by
    have fl (f : Fld) (a : f.key ≠ FLT.FLT_STATUS_TIMER_RUN.key) : v.flag f = u.flag f := by simp only [State.flag, r f a]
    have act' (f : Nat) (hf : f < 24) : v.get (FLT.FLT_ACTIVE (f / 32)) = u.get (FLT.FLT_ACTIVE (f / 32)) :=
      r _ (by simp only [FLT.FLT_ACTIVE, FLT.FLT_STATUS_TIMER_RUN]; omega)
    have press : v.pressing = u.pressing := State.pressing_congr (r _ (by decide)) (fun f hf =>
      ⟨act' f hf, r _ (by simp only [FLT.FLT_ACKED, FLT.FLT_STATUS_TIMER_RUN]; omega), r _ (by simp only [FLT.FLT_CFG, FLT.FLT_STATUS_TIMER_RUN]; omega)⟩)
    constructor
    · rw [fl _ (by decide), fl _ (by decide), fl _ (by decide)]; exact faultN
    · rw [r _ (by decide), State.activeN_congr act']; exact activeN
    · rw [e, press]
  unfold State.showFaults
  rw [← hu]
  dsimp only
  split
  · next h => exact timed u (fun _ _ => rfl) (beq_iff_eq.1 h).symm
  · split
    · next h => exact timed _ (fun f n => State.get_put_other u _ f 1 n) (by rw [h]; exact State.flag_put_bit u FLT.FLT_STATUS_TIMER_RUN rfl true)
    · next h =>
      exact timed _ (fun f n => State.get_put_other u _ f 0 n)
        (by rw [Bool.eq_false_of_not_eq_true h]; exact State.flag_put_bit u FLT.FLT_STATUS_TIMER_RUN rfl false)

/-! ### Squelch and drive -/

/-- What every step of a loop keeps holds after the loop if it held before it. -/
theorem foldRange_inv {n : Nat} (P : State → Prop) (f : State → Nat → State) (h : P s) (k : ∀ x, ∀ i < n, P x → P (f x i)) :
    P ((List.range n).foldl f s) := by
  induction n with
  | zero => exact h
  | succ n ih =>
    rw [List.range_succ, List.foldl_append]
    exact k _ n (by omega) (ih (fun x i hi => k x i (by omega)))


/-- What `showOuts` does to a clock output, once it is known whether every output is squelched. -/
def State.showClock (sq : Bool) (s : State) (n : Nat) : State :=
  let q := sq || !bitOf (s.getT SYN.OUT_EN_CLK) n
  let s := s.puts [(SYN.OUT_STAT_SQUELCHED n, if q then 1 else 0),
    (SYN.OUT_STAT_DRIVEN n, if !q && !s.flag (SYN.OUT_STAT_HELD_LOW n) && s.calLocked (s.get (SYN.OUT_CFG_SRC n)) then 1 else 0)]
  { s with syn := { s.syn with clkPins := setNth s.syn.clkPins n (s.clockPin n q) } }

/-- What `showOuts` does to a PPS output, once it is known whether every output is squelched. -/
def State.showPps (sq : Bool) (s : State) (k : Nat) : State :=
  let q := sq || !bitOf (s.getT SYN.OUT_EN_PPS) k
  let s := s.puts [(SYN.PPS_STAT_SQUELCHED k, if q then 1 else 0),
    (SYN.PPS_STAT_NO_SRC k, if s.wholeHz (s.get (SYN.PPS_CFG_SRC k)) then 0 else 1)]
  { s with syn := { s.syn with ppsPins := setNth s.syn.ppsPins k (s.ppsPin k q) } }

theorem State.showOuts_eq (s : State) :
    s.showOuts = (List.range 4).foldl (State.showPps s.squelchAll) ((List.range 16).foldl (State.showClock s.squelchAll) s) := rfl

/-- A clock output shows its squelch and its drive. -/
def ClockShown (sq : Bool) (n : Nat) (s : State) : Prop :=
  s.flag (SYN.OUT_STAT_SQUELCHED n) = (sq || !bitOf (s.getT SYN.OUT_EN_CLK) n) ∧
  s.flag (SYN.OUT_STAT_DRIVEN n) = (!(sq || !bitOf (s.getT SYN.OUT_EN_CLK) n) && !s.flag (SYN.OUT_STAT_HELD_LOW n) &&
    s.calLocked (s.get (SYN.OUT_CFG_SRC n)))

/-- A PPS output shows its squelch and whether its source fits. -/
def PpsShown (sq : Bool) (k : Nat) (s : State) : Prop :=
  s.flag (SYN.PPS_STAT_SQUELCHED k) = (sq || !bitOf (s.getT SYN.OUT_EN_PPS) k) ∧
  s.flag (SYN.PPS_STAT_NO_SRC k) = !s.wholeHz (s.get (SYN.PPS_CFG_SRC k))

theorem State.showClock_get (sq : Bool) (n : Nat) (f : Fld) (a : f.key ≠ (SYN.OUT_STAT_SQUELCHED n).key) (b : f.key ≠ (SYN.OUT_STAT_DRIVEN n).key) :
    (s.showClock sq n).get f = s.get f := (State.get_put_other _ _ f _ b).trans (State.get_put_other _ _ f _ a)

theorem State.showPps_get (sq : Bool) (k : Nat) (f : Fld) (a : f.key ≠ (SYN.PPS_STAT_SQUELCHED k).key) (b : f.key ≠ (SYN.PPS_STAT_NO_SRC k).key) :
    (s.showPps sq k).get f = s.get f := (State.get_put_other _ _ f _ b).trans (State.get_put_other _ _ f _ a)

theorem State.showClock_keeps (sq : Bool) (n : Nat) (hn : n < 16) (s : State) : Keeps [] s (s.showClock sq n) := by
  refine Keeps.synSet (Keeps.puts (Keeps.refl s) _ ?_) _
  simp only [List.mem_cons, List.not_mem_nil, or_false, forall_eq_or_imp, forall_eq]
  exact ⟨.syn_out_stat_squelched n hn, .syn_out_stat_driven n hn⟩

theorem State.showPps_keeps (sq : Bool) (k : Nat) (hk : k < 4) (s : State) : Keeps [] s (s.showPps sq k) := by
  refine Keeps.synSet (Keeps.puts (Keeps.refl s) _ ?_) _
  simp only [List.mem_cons, List.not_mem_nil, or_false, forall_eq_or_imp, forall_eq]
  exact ⟨.syn_pps_stat_squelched k hk, .syn_pps_stat_no_src k hk⟩

theorem Keeps.squelchAll (k : Keeps [] s t) : t.squelchAll = s.squelchAll := by
  simp only [State.squelchAll, k.mode, k.flag SYN.SYN_STATUS_OSC_ACT (by decide), k.read REFSEL.REFSEL_STATUS_CLOCK_STATE (by decide),
    k.readT SYN.OUT_EN_SQ_LOST (by decide), k.readT SYN.OUT_EN_SQ_FREE (by decide), k.flt_squelch]

theorem Keeps.wholeHz (k : Keeps [] s t) (c : Nat) : t.wholeHz c = s.wholeHz c := by
  have plans : t.syn.plans = s.syn.plans := congrArg (fun c => c.syn.plans) k.core
  simp only [State.wholeHz, State.planHz, State.plan, State.oscHz, plans, k.read SYN.SYSPLL_CFG_OSC_SEL (by decide)]

theorem ClockShown.congr {sq : Bool} {n : Nat} (hn : n < 16) (h : ClockShown sq n s) (k : Keeps [] s t)
    (a : t.get (SYN.OUT_STAT_SQUELCHED n) = s.get (SYN.OUT_STAT_SQUELCHED n)) (b : t.get (SYN.OUT_STAT_DRIVEN n) = s.get (SYN.OUT_STAT_DRIVEN n)) :
    ClockShown sq n t := by
  have quiet : ∀ n < 16, noisy (SYN.OUT_STAT_HELD_LOW n).key = false ∧ noisy (SYN.OUT_CFG_SRC n).key = false := by decide
  have states : ∀ c < 4, noisy (SYN.CAL_STAT_STATE c).key = false := by decide
  simp only [ClockShown, State.flag, State.calLocked, a, b, k.readT SYN.OUT_EN_CLK (by decide), k.read _ (quiet n hn).1, k.read _ (quiet n hn).2,
    k.read _ (states _ (State.get_lt s (SYN.OUT_CFG_SRC n)))] at h ⊢
  exact h

theorem PpsShown.congr {sq : Bool} {c : Nat} (hc : c < 4) (h : PpsShown sq c s) (k : Keeps [] s t)
    (a : t.get (SYN.PPS_STAT_SQUELCHED c) = s.get (SYN.PPS_STAT_SQUELCHED c)) (b : t.get (SYN.PPS_STAT_NO_SRC c) = s.get (SYN.PPS_STAT_NO_SRC c)) :
    PpsShown sq c t := by
  have quiet : ∀ c < 4, noisy (SYN.PPS_CFG_SRC c).key = false := by decide
  simp only [PpsShown, State.flag, a, b, k.readT SYN.OUT_EN_PPS (by decide), k.read _ (quiet c hc), k.wholeHz] at h ⊢
  exact h

theorem State.showClock_shown (sq : Bool) (n : Nat) (hn : n < 16) (s : State) : ClockShown sq n (s.showClock sq n) := by
  have apart : (SYN.OUT_STAT_SQUELCHED n).key ≠ (SYN.OUT_STAT_DRIVEN n).key := by simp only [SYN.OUT_STAT_SQUELCHED, SYN.OUT_STAT_DRIVEN]; omega
  have quiet : ∀ n < 16, noisy (SYN.OUT_STAT_HELD_LOW n).key = false ∧ noisy (SYN.OUT_CFG_SRC n).key = false := by decide
  have states : ∀ c < 4, noisy (SYN.CAL_STAT_STATE c).key = false := by decide
  have k := s.showClock_keeps sq n hn
  refine ⟨?_, ?_⟩
  · rw [k.readT SYN.OUT_EN_CLK (by decide)]
    exact (State.flag_put_other _ _ _ _ apart).trans (State.flag_put_bit s _ rfl _)
  · rw [k.readT SYN.OUT_EN_CLK (by decide), k.flag _ (quiet n hn).1, k.read _ (quiet n hn).2, State.calLocked,
      k.read _ (states _ (State.get_lt s (SYN.OUT_CFG_SRC n)))]
    exact State.flag_put_bit _ _ rfl _

theorem State.showPps_shown (sq : Bool) (c : Nat) (hc : c < 4) (s : State) : PpsShown sq c (s.showPps sq c) := by
  have apart : (SYN.PPS_STAT_SQUELCHED c).key ≠ (SYN.PPS_STAT_NO_SRC c).key := by simp only [SYN.PPS_STAT_SQUELCHED, SYN.PPS_STAT_NO_SRC]; omega
  have quiet : ∀ c < 4, noisy (SYN.PPS_CFG_SRC c).key = false := by decide
  have k := s.showPps_keeps sq c hc
  refine ⟨?_, ?_⟩
  · rw [k.readT SYN.OUT_EN_PPS (by decide)]
    exact (State.flag_put_other _ _ _ _ apart).trans (State.flag_put_bit s _ rfl _)
  · rw [k.read _ (quiet c hc), k.wholeHz]
    exact State.flag_put_notBit _ _ rfl _

/-- After the loops over the outputs every output shows what it does. -/
theorem State.showOuts_shown (s : State) : (∀ n < 16, ClockShown s.squelchAll n s.showOuts) ∧ ∀ c < 4, PpsShown s.squelchAll c s.showOuts := by
  rw [State.showOuts_eq]
  refine ⟨fun n hn => ?_, ?_⟩
  · have clocks : ∀ n < 16, ClockShown s.squelchAll n ((List.range 16).foldl (State.showClock s.squelchAll) s) := by
      refine foldRange_est _ (ClockShown s.squelchAll) (fun x j hj => x.showClock_shown _ j hj) (fun x i hi j hj ne p => ?_) s
      exact p.congr hj (x.showClock_keeps _ i hi)
        (State.showClock_get _ _ _ (by simp only [SYN.OUT_STAT_SQUELCHED]; omega) (by simp only [SYN.OUT_STAT_SQUELCHED, SYN.OUT_STAT_DRIVEN]; omega))
        (State.showClock_get _ _ _ (by simp only [SYN.OUT_STAT_SQUELCHED, SYN.OUT_STAT_DRIVEN]; omega) (by simp only [SYN.OUT_STAT_DRIVEN]; omega))
    refine foldRange_inv (ClockShown s.squelchAll n) _ (clocks n hn) (fun x i hi p => p.congr hn (x.showPps_keeps _ i hi) ?_ ?_)
    · exact State.showPps_get _ _ _ (by simp only [SYN.OUT_STAT_SQUELCHED, SYN.PPS_STAT_SQUELCHED]; omega)
        (by simp only [SYN.OUT_STAT_SQUELCHED, SYN.PPS_STAT_NO_SRC]; omega)
    · exact State.showPps_get _ _ _ (by simp only [SYN.OUT_STAT_DRIVEN, SYN.PPS_STAT_SQUELCHED]; omega)
        (by simp only [SYN.OUT_STAT_DRIVEN, SYN.PPS_STAT_NO_SRC]; omega)
  · refine foldRange_est _ (PpsShown s.squelchAll) (fun x j hj => x.showPps_shown _ j hj) (fun x i hi j hj ne p => ?_) _
    exact p.congr hj (x.showPps_keeps _ i hi)
      (State.showPps_get _ _ _ (by simp only [SYN.PPS_STAT_SQUELCHED]; omega) (by simp only [SYN.PPS_STAT_SQUELCHED, SYN.PPS_STAT_NO_SRC]; omega))
      (State.showPps_get _ _ _ (by simp only [SYN.PPS_STAT_SQUELCHED, SYN.PPS_STAT_NO_SRC]; omega) (by simp only [SYN.PPS_STAT_NO_SRC]; omega))

/-! ### The last of what follows every command -/

/-- What is shown last: ports, strobes, the frequency ramp and the freeze. -/
def State.showRest (s : State) : State := s.showPorts.showStrobes.showRamp.showFrozen

theorem State.showRest_keeps (s : State) : Keeps [] s s.showRest := (Keeps.refl s).showPorts.showStrobes.showRamp.showFrozen

/-- A field that what is shown last does not write. -/
def OffRest (k : Nat) : Prop := (k < 6295681 ∨ 6303363 ≤ k) ∧ k ≠ GNSSF.GNSSF_STATUS_A_OK.key ∧ k ≠ GNSSF.GNSSF_STATUS_B_OK.key ∧
  k ≠ SYN.SYN_STATUS_RAMPING.key ∧ k ≠ REFSEL.REFSEL_STATUS_FROZEN.key

theorem offRest_of_late {k : Nat} (h : 39896962 ≤ k) : OffRest k := by
  simp only [OffRest, GNSSF.GNSSF_STATUS_A_OK, GNSSF.GNSSF_STATUS_B_OK, SYN.SYN_STATUS_RAMPING, REFSEL.REFSEL_STATUS_FROZEN]
  omega

/-- A status register of the outputs. -/
theorem offRest_of_outs {k : Nat} (lo : 39879296 ≤ k) (hi : k < 39896962) : OffRest k := by
  simp only [OffRest, GNSSF.GNSSF_STATUS_A_OK, GNSSF.GNSSF_STATUS_B_OK, SYN.SYN_STATUS_RAMPING, REFSEL.REFSEL_STATUS_FROZEN]
  omega

theorem State.showStrobes_get (s : State) (f : Fld) (h : f.key < 6295681 ∨ 6303363 ≤ f.key) : s.showStrobes.get f = s.get f := by
  unfold State.showStrobes
  dsimp only
  refine foldRange_inv (fun x => x.get f = s.get f) _ rfl (fun x i hi p => ?_)
  refine (State.get_put_other _ _ f _ ?_).trans ((State.get_put_other _ _ f _ ?_).trans p)
  · simp only [TIME.EVT_STAT_LEVEL]; omega
  · simp only [TIME.EVT_STAT_SUPPRESSED]; omega

theorem State.showRest_get (s : State) (f : Fld) (h : OffRest f.key) : s.showRest.get f = s.get f := by
  obtain ⟨strobes, a, b, ramp, frozen⟩ := h
  calc s.showRest.get f
    _ = s.showPorts.showStrobes.showRamp.get f := State.get_put_other _ _ f _ frozen
    _ = s.showPorts.showStrobes.get f := State.get_put_other _ _ f _ ramp
    _ = s.showPorts.get f := State.showStrobes_get _ f strobes
    _ = s.get f := (State.get_put_other _ _ f _ b).trans (State.get_put_other _ _ f _ a)


/-- The outputs write their status registers only. -/
theorem State.showOuts_get (s : State) (f : Fld) (h : f.key < 39879296 ∨ 39896962 ≤ f.key) : s.showOuts.get f = s.get f := by
  rw [State.showOuts_eq]
  refine foldRange_inv (fun x => x.get f = s.get f) _ ?_ (fun x i hi p => Eq.trans ?_ p)
  · refine foldRange_inv (fun x => x.get f = s.get f) _ rfl (fun x i hi p => Eq.trans ?_ p)
    exact State.showClock_get _ _ f (by simp only [SYN.OUT_STAT_SQUELCHED]; omega) (by simp only [SYN.OUT_STAT_DRIVEN]; omega)
  · exact State.showPps_get _ _ f (by simp only [SYN.PPS_STAT_SQUELCHED]; omega) (by simp only [SYN.PPS_STAT_NO_SRC]; omega)

/-- Registers that stand after the last status and before the performance counters are left by what is shown last. -/
theorem State.shown_get (s : State) (f : Fld) (lo : 39896962 ≤ f.key) (hi : f.key < 77595008)
    (ne : f.key ≠ PTP.PTP_STATUS_SERVING.key ∧ f.key ≠ NTS.NTS_STATUS_SERVING.key ∧ f.key ≠ SIZING.SIZ_STATUS_RUNNING.key) :
    s.showCands.showServing.showOuts.showRest.get f = s.get f := by
  obtain ⟨p, n, z⟩ := ne
  have cands : s.showCands.get f = s.get f :=
    (State.get_put_other _ _ f _ (Nat.ne_of_lt (hi.trans_le (by decide)))).trans <| (State.get_put_other _ _ f _ (Nat.ne_of_lt (hi.trans_le (by decide)))).trans <|
    (State.get_put_other _ _ f _ (Nat.ne_of_lt (hi.trans_le (by decide)))).trans (State.get_put_other _ _ f _ (Nat.ne_of_lt (hi.trans_le (by decide))))
  have serving : s.showCands.showServing.get f = s.showCands.get f :=
    (State.get_put_other _ _ f _ z).trans ((State.get_put_other _ _ f _ n).trans (State.get_put_other _ _ f _ p))
  rw [State.showRest_get _ f (offRest_of_late lo), State.showOuts_get _ f (.inr lo), serving, cands]

/-! ### What is shown after every command -/

/-- What every command runs before registers show its effect, from the judging of faults on. -/
def State.afterFaults (s : State) : State := ((List.range 26).foldl State.judgeOvf s).reamPost.showReamWin.flushDue

theorem State.afterFaults_flt (s : State) : FltSame s s.afterFaults :=
  ((FltSame.refl s).foldRange 26 _ (fun _ b hb hu => hu.judgeOvf b hb)).reamPost.showReamWin.flushDue

/-- Out of reset what follows a command judges the faults and then shows the state. -/
theorem State.settle_eq (h : s.inReset = false) :
    ∃ u : State, s.settle = u.judgeFaults.afterFaults.showCands.showServing.showOuts.showRest := by
  rw [State.settle, h]
  exact ⟨_, rfl⟩

theorem State.judgeFaults_shows (s : State) : s.judgeFaults.FltShows := State.showFaults_shows _

/-- SERVING and RUNNING show the mode, the handover and the measurements that run. -/
theorem State.shown_serving (s : State) :
    s.showServing.flag PTP.PTP_STATUS_SERVING = servingMode s.mode ∧
    s.showServing.flag NTS.NTS_STATUS_SERVING = (servingMode s.mode && !s.couch.handing) ∧
    s.showServing.flag SIZING.SIZ_STATUS_RUNNING = s.sizingRuns := by
  refine ⟨?_, ?_, ?_⟩
  · exact (State.flag_put_other _ _ _ _ (by decide)).trans ((State.flag_put_other _ _ _ _ (by decide)).trans (State.flag_put_bit s _ rfl _))
  · exact (State.flag_put_other _ _ _ _ (by decide)).trans (State.flag_put_bit _ _ rfl _)
  · exact State.flag_put_bit _ _ rfl _

theorem Keeps.sizingRuns (k : Keeps [] s t) : t.sizingRuns = s.sizingRuns := by
  simp only [State.sizingRuns, State.port, k.tdc, k.nav, k.mac]

/-- What is shown last shows the state, if the fault block does before it. -/
theorem State.shown_shows (u : State) (h : u.FltShows) : u.showCands.showServing.showOuts.showRest.Shows := by
  obtain ⟨v, hv⟩ : ∃ v, v = u.showCands.showServing := ⟨_, rfl⟩
  obtain ⟨t, ht⟩ : ∃ t, t = v.showOuts.showRest := ⟨_, rfl⟩
  have cands : Keeps [] u.showCands t := by
    rw [ht, hv]; exact (Keeps.refl u.showCands).showServing.showOuts.trans (State.showRest_keeps _)
  have outs : Keeps [] v t := ht ▸ (Keeps.refl v).showOuts.trans (State.showRest_keeps _)
  have late (f : Fld) (lo : 39896962 ≤ f.key) : t.flag f = v.flag f := by
    simp only [State.flag, ht, State.showRest_get _ f (offRest_of_late lo), State.showOuts_get _ f (.inr lo)]
  have flt : FltSame u t := fun f lo hi => by
    rw [ht, hv]
    refine State.shown_get u f (by omega) (by omega) ?_
    simp only [PTP.PTP_STATUS_SERVING, NTS.NTS_STATUS_SERVING, SIZING.SIZ_STATUS_RUNNING]
    omega
  obtain ⟨faultN, active, timer⟩ := flt.shows h
  obtain ⟨ptp, nts, sizing⟩ := State.shown_serving u.showCands
  rw [← hv] at ptp nts sizing
  obtain ⟨clocks, pps⟩ := v.showOuts_shown
  have restKeeps : Keeps [] v.showOuts t := ht ▸ State.showRest_keeps _
  have restGet (f : Fld) (r : OffRest f.key) : t.get f = v.showOuts.get f := ht ▸ State.showRest_get _ f r
  have clock (n : Nat) (hn : n < 16) : ClockShown t.squelchAll n t := by
    rw [outs.squelchAll]
    refine (clocks n hn).congr hn restKeeps (restGet _ (offRest_of_outs ?_ ?_)) (restGet _ (offRest_of_outs ?_ ?_)) <;>
      simp only [SYN.OUT_STAT_SQUELCHED, SYN.OUT_STAT_DRIVEN] <;> omega
  have ppsOut (c : Nat) (hc : c < 4) : PpsShown t.squelchAll c t := by
    rw [outs.squelchAll]
    refine (pps c hc).congr hc restKeeps (restGet _ (offRest_of_outs ?_ ?_)) (restGet _ (offRest_of_outs ?_ ?_)) <;>
      simp only [SYN.PPS_STAT_SQUELCHED, SYN.PPS_STAT_NO_SRC] <;> omega
  rw [← hv, ← ht]
  exact {
    clocks := fun n hn => by rw [(clock n hn).1]; simp [State.muted]
    driven := fun n hn => by rw [(clock n hn).2]; simp [State.muted, and_assoc]
    pps := fun c hc => by rw [(ppsOut c hc).1]; simp [State.muted]
    noSource := fun c hc => by rw [(ppsOut c hc).2]; simp
    ptp := by rw [late _ (by decide), ptp, cands.mode]
    nts := by rw [late _ (by decide), nts, cands.mode, cands.couch_handing]; simp
    sizing := by rw [late _ (by decide), sizing, cands.sizingRuns]
    faultN, active, timer }

theorem State.settle_shows (h : s.inReset = false) : s.settle.Shows := by
  obtain ⟨u, hu⟩ := State.settle_eq h
  rw [hu]
  exact State.shown_shows _ ((State.afterFaults_flt _).shows (State.judgeFaults_shows u))

/-- Settles O55: what follows every command shows the state anew, and an empty queue leaves it. -/
theorem shownConditionsAreKept : Obligations.ShownConditionsAreKept := by
  intro s t shown run awake
  cases q : s.pending with
  | nil =>
    rw [step, q] at run
    cases run
    exact shown awake
  | cons c rest =>
    rw [step, q] at run
    obtain ⟨u, hu⟩ := exec_settles c { s with pending := rest }
    obtain rfl : t = u.settle := Host.Outcome.next.inj (run.symm.trans hu)
    exact State.settle_shows ((State.settle_keeps u).inReset.symm.trans awake)

end Sys2Proof.Machine
end

section
/-! The ledger: what a charge draws and from where (R439, R440). -/

namespace Sys2Proof.Machine

variable {s u : State}

theorem nth_setNth_same {α : Type} (l : List α) (i : Nat) (a d : α) (h : i < l.length) : nth (setNth l i a) i d = a := by
  simp [nth, setNth, List.getD_eq_getElem?_getD, h]

theorem nth_setNth_other {α : Type} (l : List α) (i j : Nat) (a d : α) (h : j ≠ i) : nth (setNth l i a) j d = nth l j d := by
  simp [nth, setNth, List.getD_eq_getElem?_getD, List.getElem?_set_ne h.symm]

/-! ### Classes 1 to 4 -/

/-- A class can pay from its floor, or from its floor and the shared stock within its cap. -/
def State.CanPay (s : State) (c cost : Nat) : Prop :=
  cost ≤ nth s.ledger.floors (c - 1) 0 ∨
    cost ≤ nth s.ledger.floors (c - 1) 0 + s.get LEDGER.SHARED_LEFT ∧ nth s.ledger.drawn c 0 + cost ≤ s.get (LEDGER.CAP c)

/-- The state after a class has paid from its floor and the shared stock. -/
def State.paidFrom (s : State) (c cost : Nat) : State :=
  { (s.put LEDGER.SHARED_LEFT (s.get LEDGER.SHARED_LEFT - (cost - nth s.ledger.floors (c - 1) 0))) with
    ledger := { s.ledger with
      floors := setNth s.ledger.floors (c - 1) (nth s.ledger.floors (c - 1) 0 - cost)
      drawn := setNth s.ledger.drawn c (nth s.ledger.drawn c 0 + cost) } }

/-- While sheets run a charge of class 1 to 4 succeeds exactly if no warning stops the class and it can pay. -/
theorem State.charge_eq_some (r : s.running = true) {c cost : Nat} (hc : 1 ≤ c) :
    s.charge c cost = some u ↔ ¬(s.ledger.warnStop = true ∧ 2 ≤ c) ∧ s.CanPay c cost ∧ u = s.paidFrom c cost := by
  have nz : (c == 0) = false := by simp; omega
  have pay : (cost - nth s.ledger.floors (c - 1) 0 = 0 ∨ cost - nth s.ledger.floors (c - 1) 0 ≤ s.get LEDGER.SHARED_LEFT ∧
      nth s.ledger.drawn c 0 + cost ≤ s.get (LEDGER.CAP c)) ↔ s.CanPay c cost := by unfold State.CanPay; omega
  unfold State.charge
  simp only [r, Bool.not_true, Bool.false_eq_true, if_false, nz, Bool.and_eq_true, decide_eq_true_eq]
  split
  · next w => simp [w]
  · next w =>
    split
    · next p => exact ⟨fun h => ⟨w, pay.1 p, (Option.some.inj h).symm⟩, fun h => congrArg some h.2.2.symm⟩
    · next p => exact ⟨fun h => (nomatch h), fun h => absurd (pay.2 h.2.1) p⟩

theorem State.paidFrom_shared (s : State) (c cost : Nat) :
    (s.paidFrom c cost).get LEDGER.SHARED_LEFT = s.get LEDGER.SHARED_LEFT - (cost - nth s.ledger.floors (c - 1) 0) :=
  State.get_put_fits s _ _ (lt_of_le_of_lt (Nat.sub_le _ _) (State.get_lt s _))

/-- Settles O53: the floor pays what it can, and the shared stock the rest. -/
theorem chargingConservesStock : Obligations.ChargingConservesStock := by
  refine ⟨fun s c cost r lo _ => ?_, fun s u c cost r lo hi fl dr h => ?_⟩
  · rw [Option.isSome_iff_exists]
    simp [State.charge_eq_some r lo, State.CanPay]
  · have keeps : Keeps [] s u := (Keeps.refl s).charge h
    obtain ⟨-, pays, rfl⟩ := (State.charge_eq_some r lo).1 h
    have floor : nth (s.paidFrom c cost).ledger.floors (c - 1) 0 = nth s.ledger.floors (c - 1) 0 - cost :=
      nth_setNth_same _ _ _ _ (by omega)
    refine ⟨floor, ?_, nth_setNth_same _ _ _ _ (by omega), fun i _ ne => nth_setNth_other _ _ _ _ _ ne, fun i _ ne => nth_setNth_other _ _ _ _ _ ne,
      keeps⟩
    rw [floor, State.paidFrom_shared]
    unfold State.CanPay at pays
    omega

/-! ### Class 0 -/

/-- What the floors leave unpaid. -/
theorem drawFloors_unpaid (need : Nat) (l : List Nat) : (drawFloors need l).1 = need - l.sum := by
  induction l with
  | nil => rfl
  | cons f l ih => simp only [drawFloors, ih, List.sum_cons]; omega

theorem drawFloors_sum (need : Nat) (l : List Nat) : (drawFloors need l).2.sum = l.sum - need := by
  induction l with
  | nil => simp [drawFloors]
  | cons f l ih => simp only [drawFloors, ih, drawFloors_unpaid, List.sum_cons]; omega

/-- Floors that leave something unpaid are used up. -/
theorem drawFloors_used {need : Nat} {l : List Nat} (h : 0 < (drawFloors need l).1) (j : Nat) : nth (drawFloors need l).2 j 0 = 0 := by
  induction l generalizing j with
  | nil => rfl
  | cons f l ih =>
    simp only [drawFloors] at h ⊢
    cases j with
    | zero => show f - (drawFloors need l).1 = 0; omega
    | succ j => exact ih (by omega) j

/-- A floor falls only when every later one is used up, and only if something is needed. -/
theorem drawFloors_order {need i : Nat} {l : List Nat} (h : nth (drawFloors need l).2 i 0 < nth l i 0) :
    0 < need ∧ ∀ j, i < j → nth (drawFloors need l).2 j 0 = 0 := by
  induction l generalizing i with
  | nil => exact absurd h (Nat.not_lt_zero _)
  | cons f l ih =>
    cases i with
    | zero =>
      have unpaid : 0 < (drawFloors need l).1 := by
        have : f - (drawFloors need l).1 < f := h
        omega
      refine ⟨by rw [drawFloors_unpaid] at unpaid; omega, fun j hj => ?_⟩
      obtain ⟨k, rfl⟩ : ∃ k, j = k + 1 := ⟨j - 1, by omega⟩
      exact drawFloors_used unpaid k
    | succ i =>
      obtain ⟨pos, later⟩ := ih (i := i) h
      refine ⟨pos, fun j hj => ?_⟩
      obtain ⟨k, rfl⟩ : ∃ k, j = k + 1 := ⟨j - 1, by omega⟩
      exact later k (by omega)

theorem State.charge0_shared (r : s.running = true) (cost : Nat) :
    (s.charge0 cost).get LEDGER.SHARED_LEFT = s.get LEDGER.SHARED_LEFT - (cost - s.ledger.reserve) := by
  rw [State.charge0, if_pos r]
  exact State.get_put_fits s _ _ (lt_of_le_of_lt (Nat.sub_le _ _) (State.get_lt s _))

theorem State.charge0_ledger (r : s.running = true) (cost : Nat) : (s.charge0 cost).ledger = { s.ledger with
    reserve := s.ledger.reserve - cost
    floors := (drawFloors (cost - s.ledger.reserve - s.get LEDGER.SHARED_LEFT) s.ledger.floors).2
    drawn := setNth s.ledger.drawn 0 (nth s.ledger.drawn 0 0 + cost)
    beyondReserve := s.ledger.beyondReserve || decide (0 < cost - s.ledger.reserve)
    beyondBudget := s.ledger.beyondBudget || decide (0 < (drawFloors (cost - s.ledger.reserve - s.get LEDGER.SHARED_LEFT) s.ledger.floors).1) } := by
  rw [State.charge0, if_pos r]

/-- Settles O54: the floors are asked for what the reserve and the shared stock leave, the last first. -/
theorem classZeroIsNeverRefused : Obligations.ClassZeroIsNeverRefused := by
  intro s cost r _
  simp only [State.charge0_ledger r, State.charge0_shared r, drawFloors_sum, drawFloors_unpaid, Bool.or_eq_true, decide_eq_true_eq, true_and]
  refine ⟨by omega, fun i _ falls => ?_, or_congr_right (by omega), or_congr_right (by omega)⟩
  obtain ⟨needed, later⟩ := drawFloors_order falls
  exact ⟨by omega, fun j _ hj => later j hj⟩

end Sys2Proof.Machine
end

section
/-! Statements whose frames leave out a part that their command writes. -/

namespace Sys2Proof.Machine

/-! ### A slew that ends at once (R56) -/

/-- After sheet 0 in QUIET, with a slew term of 1 and no residual left. -/
def slewing : State :=
  { State.reset with
    running := true
    ledger := { floors := [0, 0, 110, 0] }
    time := { slewTerm := 1 } }

theorem slewing_accepts : slewing.Accepts {} false 0 where
  awake := rfl
  running := rfl
  ring := .inr (by decide +kernel)
  room := by decide +kernel
  order := fun _ hw => absurd hw List.not_mem_nil
  stock := by decide +kernel
  share := fun h => nomatch h.1
  fn := fun h => nomatch h
  form := rfl

theorem slewing_slewTerm : ((slewing.awake (runTimeSlew {} 0)).settle).time.slewTerm = 0 := by decide +kernel

/-- Refutes O3: a TIME_SLEW that leaves the slew term on the wrong side of the residual drops it, which the frame leaves out. -/
theorem not_timeCommandsComplete : ¬ Obligations.TimeCommandsComplete := by
  rintro ⟨-, -, slew, -⟩
  obtain ⟨t, ht, -, keeps⟩ := slew slewing {} 0 slewing_accepts (by decide) (.inl (by decide +kernel))
  have kept : t.time.slewTerm = 1 := congrArg TimeSt.slewTerm keeps.time
  exact absurd (kept.symm.trans (Host.Outcome.next.inj ht ▸ slewing_slewTerm)) (by decide)

/-! ### A channel that loses its message synchronisation (R125) -/

/-- Before sheet 0, with message checks passed on channel 0. -/
def synced : State := { State.reset with nav := { passes := [1] } }

theorem synced_passes : ((synced.awake (runGnssChDisable .pf0 0 0)).settle).nav.passes = [0] := by decide +kernel

/-- Refutes O12: a channel that goes IDLE drops its message synchronisation, which stands in a part that the frame does not name. -/
theorem not_trackingCommandsComplete : ¬ Obligations.TrackingCommandsComplete := by
  rintro ⟨-, disable, -⟩
  obtain ⟨t, ht, -, -, -, only⟩ := disable synced .pf0 0 0 rfl (by decide) (by decide) rfl
  have kept : t.nav.passes = [1] := congrArg NavSt.passes (only.nav (by decide))
  exact absurd (kept.symm.trans (Host.Outcome.next.inj ht ▸ synced_passes)) (by decide)

/-! ### A cookie without key material (R307) -/

/-- After sheet 0, with generation 0 CURRENT on a slot that is usable and holds no bytes. -/
def bareGeneration : State :=
  { State.reset.put (NTS.NTS_GEN_STATE 0) 1 with
    running := true
    ledger := { floors := [0, 0, 692, 0] }
    key := { slots := [{ state := 1 }] } }

/-- 68 bytes that begin with the algorithm number 15. -/
def cookieKeys : DmaIn := { ok := true, bytes := [0, 15] ++ List.replicate 66 0 }

theorem bareGeneration_accepts : bareGeneration.Accepts {} true (300 + 250 * min 1 8 + dmaStock 68 + dmaStock (104 * min 1 8)) where
  awake := rfl
  running := rfl
  ring := .inr (by decide +kernel)
  room := by decide +kernel
  order := fun _ hw => absurd hw List.not_mem_nil
  stock := by decide +kernel
  share := fun h => nomatch h.1
  fn := fun h => nomatch h
  form := rfl

theorem bareGeneration_mints : ((bareGeneration.awake (runMintCookie {} 1 false 0 0 cookieKeys)).settle).get NTS.MINT_CNT = 0 := by decide +kernel

/-- Refutes O23: a key of no bytes seals nothing, so no cookie is minted and MINT_CNT stays. -/
theorem not_ntsCommandsComplete : ¬ Obligations.NtsCommandsComplete := by
  rintro ⟨-, -, mint, -⟩
  obtain ⟨t, ht, minted, -⟩ := mint bareGeneration {} 1 0 false 0 0 cookieKeys cookieKeys.bytes bareGeneration_accepts (by decide) (by decide)
    (by decide) rfl (by decide +kernel) (by decide +kernel) rfl (by decide +kernel) (by decide +kernel) (.inl (by decide +kernel))
  exact absurd (minted.symm.trans (Host.Outcome.next.inj ht ▸ bareGeneration_mints)) (by decide +kernel)

end Sys2Proof.Machine
end

section
/-! Strobes and the phase of the calenders: STROBE_AT, STROBE_PERIODIC, STROBE_STOP, CAL_PHASE_STEP. -/

namespace Sys2Proof.Machine

variable {l : List Fld} {s t u : State}

/-! ### What bookkeeping leaves of the time base -/

theorem Keeps.units (k : Keeps l s t) : t.units = s.units := by simp only [State.units, k.time]

theorem Keeps.mono (k : Keeps l s t) : t.mono = s.mono := by simp only [State.mono, k.units, k.time]

theorem Keeps.reaches (k : Keeps l s t) (n : Int) : t.reaches n = s.reaches n := by
  simp only [State.reaches, k.running, k.mono, k.units, k.time]

theorem Keeps.targetUnits (k : Keeps l s t) (n : Nat) : t.targetUnits n = s.targetUnits n := by simp only [State.targetUnits, k.units]

theorem Keeps.targetOk (k : Keeps l s t) (n : Int) : t.targetOk n = s.targetOk n := by simp only [State.targetOk, k.units]

theorem Keeps.isLate (k : Keeps l s t) (n : Int) : t.isLate n = s.isLate n := by simp only [State.isLate, k.time]

theorem Keeps.lateSlot (k : Keeps l s t) : t.lateSlot = s.lateSlot := by simp only [State.lateSlot, k.time]

theorem Keeps.latePol (k : Keeps [] s t) (h : Hdr) (f : Fld) (n : noisy f.key = false) : t.latePol h f = s.latePol h f := by
  simp only [State.latePol, k.flag f n]

theorem late_and_pol {a b : Bool} (h : a = false ∨ b = false) : (a && b) = false := by rcases h with rfl | rfl <;> simp

/-- A signed field reads the number written to it, where it can hold it. -/
theorem State.geti_puti (s : State) (f : Fld) (w : Nat) (i : Int) (hw : f.width = w + 1) (lo : -(2 ^ w : Nat) ≤ i) (hi : i < (2 ^ w : Nat)) :
    (s.puti f i).geti f = i := by
  have fit : toS f.width (ofS f.width i) = i := toS_ofS _ _ (by omega) (by rw [hw]; exact lo) (by rw [hw]; exact hi)
  have mod : ofS f.width i % 2 ^ f.width = ofS f.width i := by
    refine Nat.mod_eq_of_lt ?_
    unfold ofS
    have := Int.emod_lt_of_pos i (b := ((2 ^ f.width : Nat) : Int)) (by exact_mod_cast Nat.two_pow_pos _)
    have := Int.emod_nonneg i (b := ((2 ^ f.width : Nat) : Int)) (by exact_mod_cast (Nat.two_pow_pos _).ne')
    omega
  simp only [State.geti, State.puti, State.get_put_same, mod, fit]

theorem evtStatPeriodic_quiet : ∀ n < 16, noisy (TIME.EVT_STAT_PERIODIC n).key = false := by decide

/-! ### Commands -/

theorem State.commandAt_zero (s : State) (h : Hdr) (op : Nat) (pf1 : Bool) (self : Instr) (f : State → State) :
    s.commandAt h op pf1 self 0 f = s.command h op pf1 self 0 f := rfl

/-- A pulse whose target is not discarded as late is listed with its target, or with the late slot. -/
theorem strobeAt_lists (h : Hdr) (strobe target width : Nat) (a : s.Accepts h false 120) (n : strobe ≤ 15) (w0 : 0 < width) (w1 : width < 2 ^ 24)
    (ok : s.targetOk (s.targetUnits target) = true)
    (late : s.isLate (s.targetUnits target) = false ∨ s.latePol h SHEET.SHEET_CFG_STROBE_LATE_POL = false) :
    Keeps [SHEET.LATE_CNT] { s with time := { s.time with pulses := s.time.pulses ++ [⟨strobe,
      if s.isLate (s.targetUnits target) then s.lateSlot else (s.targetUnits target).toNat, width, s.latePol h SHEET.SHEET_CFG_STROBE_LATE_POL,
      s.isLate (s.targetUnits target)⟩] } } (s.awake (runStrobeAt h strobe target width 0)) := by
  obtain ⟨u, hu, run, -, v, hv, -, pay⟩ := a.elim2 (extra := 0) (more := 120) (g := runStrobeAt h strobe target width 0) (State.commandAt_zero ..)
  have inRange : ¬(15 < strobe ∨ width = 0 ∨ 2 ^ 24 ≤ width ∨ s.targetOk (s.targetUnits target) = false) := by rw [ok]; simp; omega
  rw [run]
  simp only [hu.targetUnits, hu.targetOk, hu.isLate, hu.latePol h SHEET.SHEET_CFG_STROBE_LATE_POL (by decide), pay, late_and_pol late,
    if_neg inRange, Bool.false_eq_true, if_false, hv.isLate]
  have counted : Keeps [SHEET.LATE_CNT] s (if s.isLate (s.targetUnits target) = true then v.inc SHEET.LATE_CNT else v) :=
    Keeps.ite' (hv.any.incIn _ (by simp)) hv.any
  have listed := counted.with_time { s.time with pulses := s.time.pulses ++ [⟨strobe,
    if s.isLate (s.targetUnits target) then s.lateSlot else (s.targetUnits target).toNat, width, s.latePol h SHEET.SHEET_CFG_STROBE_LATE_POL,
    s.isLate (s.targetUnits target)⟩] }
  rw [counted.time, counted.lateSlot]
  exact (listed.journalCmd _ _ _ _).complete _ _ _ _ _

/-- One state is another but for bookkeeping, the series of the strobes, and what a series of one strobe shows. -/
def SeriesKept (n : Nat) (s t : State) : Prop :=
  Keeps [TIME.EVT_STAT_PERIODIC n, TIME.LATE_DISCARD_CNT] { s with time := { s.time with series := t.time.series } } t

theorem Keeps.series (k : Keeps [] s t) (n : Nat) : SeriesKept n s t := by
  have e : { s with time := { s.time with series := t.time.series } } = s := by rw [k.time]
  unfold SeriesKept
  rw [e]
  exact k.any

theorem SeriesKept.step {n : Nat} (h : SeriesKept n s t) (k : Keeps [TIME.EVT_STAT_PERIODIC n, TIME.LATE_DISCARD_CNT] t u) : SeriesKept n s u := by
  have e : u.time.series = t.time.series := congrArg TimeSt.series k.time
  unfold SeriesKept at h ⊢
  rw [e]
  exact h.trans k

theorem SeriesKept.setSeries {n : Nat} (h : SeriesKept n s t) (x : List (Option Series)) :
    SeriesKept n s { t with time := { t.time with series := x } } := by
  have e : t.time = { s.time with series := t.time.series } := Keeps.time h
  have k := Keeps.with_time h { t.time with series := x }
  unfold SeriesKept
  convert k using 2
  rw [e]

theorem SeriesKept.resume {n : Nat} (h : SeriesKept n s t) (u : Nat) : SeriesKept n s (t.resumeSeries n u) := by
  unfold State.resumeSeries
  split
  · exact h
  · next p _ =>
    have counted (j : Nat) : SeriesKept n s (t.incBy TIME.LATE_DISCARD_CNT j) := h.step ((Keeps.refl t).incByIn _ _ (by simp))
    dsimp only
    generalize (if p.count = 0 then p.firstFrom u else min (p.firstFrom u) p.count) = j
    split
    · exact SeriesKept.step ((counted _).setSeries _) ((Keeps.refl _).putIn _ _ (by simp))
    · exact (counted _).setSeries _

/-- A series that begins in the future resumes at its first pulse. -/
theorem State.resumeSeries_future (s : State) (n u : Nat) (p : Series) (later : u ≤ p.first) (first : p.next = 0)
    (here : s.time.series = setNth s.time.series n (some p)) : (s.resumeSeries n u).time.series = s.time.series := by
  unfold State.resumeSeries
  split
  · rfl
  · next q e =>
    have len : n < s.time.series.length := by
      by_contra gone
      rw [nth, List.getD_eq_default _ _ (Nat.le_of_not_lt gone)] at e
      cases e
    obtain rfl : p = q := by
      rw [here, nth_setNth_same _ _ _ _ len] at e
      exact Option.some.inj e
    have zero : (if p.count = 0 then p.firstFrom u else min (p.firstFrom u) p.count) = 0 := by simp [Series.firstFrom, later]
    have same : { p with next := 0 } = p := by rw [← first]
    have kept : (s.incBy TIME.LATE_DISCARD_CNT (0 - p.next)).time = s.time :=
      ((Keeps.refl (l := [TIME.LATE_DISCARD_CNT]) s).incByIn TIME.LATE_DISCARD_CNT (0 - p.next) (by simp)).time
    simp only [zero]
    rw [if_neg (by omega)]
    simp only [kept, same, ← here]

theorem strobePeriodic_starts (h : Hdr) (strobe width count first period : Nat) (a : s.Accepts h false 120) (n : strobe ≤ 15) (w0 : 0 < width)
    (w1 : width < 2 ^ 24) (p0 : 6553600 ≤ period) (p1 : period < 2 ^ 48) (duty : width * 524288 < 5 * period)
    (ok : s.targetOk (s.targetUnits first) = true) (free : (nth s.time.series strobe none).isSome = false) :
    SeriesKept strobe s (s.awake (runStrobePeriodic h strobe width count first period 0)) ∧
    (s.isLate (s.targetUnits first) = false → (s.awake (runStrobePeriodic h strobe width count first period 0)).time.series =
      setNth s.time.series strobe (some ⟨(s.targetUnits first).toNat, period, width, count, 0⟩)) := by
  obtain ⟨u, hu, run, -, v, hv, -, pay⟩ :=
    a.elim2 (extra := 0) (more := 120) (g := runStrobePeriodic h strobe width count first period 0) (State.commandAt_zero ..)
  have inRange : ¬(15 < strobe ∨ width = 0 ∨ 2 ^ 24 ≤ width ∨ period < 6553600 ∨ 2 ^ 48 ≤ period ∨ 5 * period ≤ width * 524288 ∨
      s.targetOk (s.targetUnits first) = false) := by rw [ok]; simp; omega
  rw [run]
  simp only [hu.targetUnits, hu.targetOk, hu.time, pay, if_neg inRange, free, Bool.false_eq_true, if_false]
  generalize hk : (if s.targetUnits first < 0 then ((-s.targetUnits first).toNat + period - 1) / period else 0) = k
  have counted (j : Nat) : SeriesKept strobe s (v.incBy TIME.LATE_DISCARD_CNT j) := (hv.series strobe).step ((Keeps.refl v).incByIn _ _ (by simp))
  refine ⟨SeriesKept.step (t := if count ≠ 0 ∧ count ≤ k then _ else _) ?_ (((Keeps.refl _).journalCmd _ _ _ _).complete _ _ _ _ _), fun soon => ?_⟩
  · split
    · exact counted _
    · exact SeriesKept.resume (SeriesKept.step ((counted _).setSeries _) ((Keeps.refl _).putIn _ _ (by simp))) _
  · have future : (s.time.next : Int) ≤ s.targetUnits first := by simpa [State.isLate] using soon
    obtain rfl : k = 0 := by rw [← hk, if_neg (by omega)]
    have zero : (if count = 0 then (0 : Nat) else count - 0) = count := by split <;> omega
    have lists : (setNth s.time.series strobe (some ⟨(s.targetUnits first).toNat, period, width, count, 0⟩)) =
      setNth (setNth s.time.series strobe (some ⟨(s.targetUnits first).toNat, period, width, count, 0⟩)) strobe
        (some ⟨(s.targetUnits first).toNat, period, width, count, 0⟩) := by simp [setNth]
    have same : (v.incBy TIME.LATE_DISCARD_CNT (if count = 0 then 0 else min 0 count)).time = s.time :=
      ((Keeps.any hv (l := [TIME.LATE_DISCARD_CNT])).incByIn TIME.LATE_DISCARD_CNT _ (by simp)).time
    simp only [zero, same, Int.add_zero, Int.zero_mul, Nat.cast_zero]
    rw [(((Keeps.refl (l := []) _).journalCmd h 0x26 _ _).complete _ _ _ _ _).time]
    rw [if_neg (by omega)]
    refine (State.resumeSeries_future _ strobe s.time.next ⟨(s.targetUnits first).toNat, period, width, count, 0⟩ (by simp only; omega) rfl ?_).trans ?_
    · exact lists
    · rfl

theorem strobeStop_stops (h : Hdr) (strobe : Nat) (a : s.Accepts h false 120) (n : strobe ≤ 15) :
    (s.awake (runStrobeStop h strobe 0)).flag (TIME.EVT_STAT_PERIODIC strobe) = false ∧
    Keeps [TIME.EVT_STAT_PERIODIC strobe] { s with time := { s.time with series := setNth s.time.series strobe none } }
      (s.awake (runStrobeStop h strobe 0)) := by
  obtain ⟨u, hu, run, -, v, hv, -, pay⟩ := a.elim2 (extra := 0) (more := 120) (g := runStrobeStop h strobe 0) (State.commandAt_zero ..)
  have inRange : ¬15 < strobe := by omega
  rw [run]
  simp only [pay, if_neg inRange]
  have journalled : Keeps [] s (if (nth v.time.series strobe none).isSome = true then v.journalCmd h 0x27 strobe 0 else v) :=
    Keeps.ite' (hv.journalCmd _ _ _ _) hv
  have unlisted := (journalled.with_time { s.time with series := setNth s.time.series strobe none }).any (l := [TIME.EVT_STAT_PERIODIC strobe])
  rw [journalled.time]
  have completed {x : State} : Keeps [] x (x.complete h 0x27 stOK 0) := (Keeps.refl x).complete _ _ _ _ _
  refine ⟨?_, ((unlisted.putIn _ _ (by simp)).complete _ _ _ _ _)⟩
  rw [completed.flag _ (evtStatPeriodic_quiet strobe (by omega))]
  exact State.flag_putB_same _ _ _ rfl

theorem calPhaseStep_adds (h : Hdr) (cal : Nat) (step : Int) (a : s.Accepts h false 120) (n : cal ≤ 3) (small : step.natAbs ≤ 2 ^ 31 - 1) :
    (s.awake (runCalPhaseStep h cal step 0)).geti (SYN.CAL_PHASE_PEND cal) = satS 32 (s.geti (SYN.CAL_PHASE_PEND cal) + step) ∧
    Keeps [SYN.CAL_PHASE_PEND cal] s (s.awake (runCalPhaseStep h cal step 0)) := by
  obtain ⟨u, hu, run, -, v, hv, -, pay⟩ := a.elim2 (extra := 0) (more := 120) (g := runCalPhaseStep h cal step 0) (State.commandAt_zero ..)
  have quiet : noisy (SYN.CAL_PHASE_PEND cal).key = false := noisy_gaps (by simp only [SYN.CAL_PHASE_PEND]; omega)
  rw [run]
  simp only [pay, if_neg (show ¬3 < cal by omega), if_neg (show ¬2 ^ 31 - 1 < step.natAbs by omega), State.addPhase, hv.geti _ quiet]
  have done {x : State} : Keeps [] x ((x.journalCmd h 0x80 cal (ofS 64 step)).complete h 0x80 stOK 0) :=
    ((Keeps.refl x).journalCmd _ _ _ _).complete _ _ _ _ _
  obtain ⟨lo, hi⟩ := satS_range 32 (s.geti (SYN.CAL_PHASE_PEND cal) + step)
  refine ⟨?_, Keeps.trans (hv.any.putIn _ _ (by simp)) done.any⟩
  rw [done.geti _ quiet]
  exact State.geti_puti _ _ 31 _ rfl lo (by omega)

/-- Settles O4. -/
theorem strobeCommandsComplete : Obligations.StrobeCommandsComplete := by
  refine ⟨?_, ?_, ?_, ?_⟩
  · intro s h strobe target width a n w0 w1 ok late
    exact ⟨_, rfl, (strobeAt_lists h strobe target width a n w0 w1 ok late).settle⟩
  · intro s h strobe width count first period a n w0 w1 p0 p1 duty ok free
    obtain ⟨kept, starts⟩ := strobePeriodic_starts h strobe width count first period a n w0 w1 p0 p1 duty ok free
    have settled := Keeps.settle (Keeps.refl (l := []) (s.awake (runStrobePeriodic h strobe width count first period 0)))
    exact ⟨_, rfl, fun soon => (congrArg TimeSt.series settled.time).trans (starts soon), SeriesKept.step kept settled.any⟩
  · intro s h strobe a n
    obtain ⟨stopped, kept⟩ := strobeStop_stops h strobe a n
    have settled := Keeps.settle (Keeps.refl (l := []) (s.awake (runStrobeStop h strobe 0)))
    exact ⟨_, rfl, (settled.flag _ (evtStatPeriodic_quiet strobe (by omega))).trans stopped, kept.settle⟩
  · intro s h cal step a n small
    obtain ⟨adds, kept⟩ := calPhaseStep_adds h cal step a n small
    have settled := Keeps.settle (Keeps.refl (l := []) (s.awake (runCalPhaseStep h cal step 0)))
    exact ⟨_, rfl, (settled.geti _ (noisy_gaps (by simp only [SYN.CAL_PHASE_PEND]; omega))).trans adds, kept.settle⟩

end Sys2Proof.Machine
end

section
/-! The counter runs on, and the headbox in MIRROR. -/

namespace Sys2Proof.Machine

variable {ps : List Part} {l : List Fld} {s t : State}

/-! ### The counter runs on -/

/-- What changes when the counter runs on: the time, the residual, and y where the slew term ends. -/
def Ran (s t : State) : Prop := Only [.time] timeFields s t

theorem Ran.refl (s : State) : Ran s s := Only.refl s

theorem Ran.setTime (h : Ran s t) (x : TimeSt) : Ran s { t with time := x } := Only.set_time h rfl x

theorem Ran.setResidual (h : Ran s t) (r : Int) : Ran s (t.setResidual r) :=
  Ran.setTime (Only.putiK h TIME.SLEW_RESID _ ⟨_, by simp [timeFields], rfl⟩) _

theorem Ran.dropSlew (h : Ran s t) : Ran s t.dropSlew :=
  Only.putBK (Only.putiK (h.setTime _) TIME.STEER _ ⟨TIME.STEER, by simp [timeFields], rfl⟩) _ _ ⟨TIME.TIME_STATUS_SLEWING, by simp [timeFields], rfl⟩

theorem Ran.runTo (h : Ran s t) (target maxN : Nat) : Ran s (t.runTo target maxN) := by
  unfold State.runTo
  exact Only.ite' (h.setTime _) ((h.setTime _).setResidual _)

theorem Ran.advanceTo (h : Ran s t) (u : Nat) : Ran s (t.advanceTo u) := by
  unfold State.advanceTo
  have dropped : Ran s (((t.runTo (u * 2 ^ 32) t.cyclesToZero).setResidual 0).dropSlew) := ((h.runTo _ _).setResidual _).dropSlew
  exact Only.ite' h (Only.ite' (h.runTo _ _) (Only.ite' (h.runTo _ _) (Only.ite' dropped (dropped.runTo _ _))))

theorem State.advanceTo_ran (s : State) (u : Nat) : Ran s (s.advanceTo u) := (Ran.refl s).advanceTo u

theorem Ran.read (h : Ran s t) (f : Fld) (n : noisy f.key = false) (off : f.key < TIME.TIME_STATUS_SLEWING.key ∨ TIME.STEER.key < f.key) :
    t.get f = s.get f := by
  refine Only.read h f n ?_
  simp only [TIME.TIME_STATUS_SLEWING, TIME.STEER] at off
  simp only [timeFields, List.forall_mem_cons, List.not_mem_nil, TIME.SLEW_RESID, TIME.STEER, TIME.TIME_STATUS_SLEWING]
  refine ⟨?_, ?_, ?_, fun _ x => x.elim⟩ <;> omega

theorem Ran.mode (h : Ran s t) : t.mode = s.mode := Only.mode h rfl

/-! ### The headbox -/

/-- Two states whose headboxes at a port read the same. -/
def SameHead (p : Nat) (s t : State) : Prop :=
  (∀ f ∈ [MAC.MAC_ADDR p, MAC.HB_CFG_PTP_L2 p, MAC.HB_CFG_PTP_P2P p, MAC.HB_CFG_PTP_UDP p, MAC.HB_CFG_NTP p, MAC.HB_CFG_VLAN_ID p,
    MAC.HB_CFG_VLAN_EN p, MAC.HB_MCAST p, MAC.TA_EN_V4 p, MAC.TA_EN_V6 p], t.get f = s.get f) ∧
  (∀ i < 4, t.get (MAC.TA_V4 p i) = s.get (MAC.TA_V4 p i)) ∧ ∀ i < 4, ∀ j < 4, t.get (MAC.TA_V6 p i j) = s.get (MAC.TA_V6 p i j)

theorem lt_of_mem_bitsOf {w m i : Nat} (h : i ∈ bitsOf w m) : i < w := by simp [bitsOf] at h; exact h.1

theorem SameHead.ta4 {p : Nat} (h : SameHead p s t) : t.ta4 p = s.ta4 p := by
  obtain ⟨fields, v4, -⟩ := h
  unfold State.ta4
  rw [fields _ (by simp)]
  exact List.map_congr_left fun i m => by rw [v4 i (lt_of_mem_bitsOf m)]

theorem SameHead.ta6 {p : Nat} (h : SameHead p s t) : t.ta6 p = s.ta6 p := by
  obtain ⟨fields, -, v6⟩ := h
  unfold State.ta6
  rw [fields _ (by simp)]
  refine List.map_congr_left fun i m => List.flatMap_congr fun j n => ?_
  rw [v6 i (lt_of_mem_bitsOf m) j (List.mem_range.1 n)]

theorem SameHead.headRule {p : Nat} (h : SameHead p s t) (b : List Byte) : t.headRule p b = s.headRule p b := by
  have fields := h.1
  simp only [List.forall_mem_cons, List.not_mem_nil] at fields
  obtain ⟨mac, l2, p2p, udp, ntp, vid, ven, mcast, en4, en6, -⟩ := fields
  simp only [State.headRule, State.portMac, State.flag, State.isTa, h.ta4, h.ta6, mac, l2, p2p, udp, ntp, vid, ven, mcast]
  rfl

theorem Ran.sameHead (h : Ran s t) {p : Nat} (lt : p < 8) : SameHead p s t := by
  have reads (f : Fld) (lo : 50331648 ≤ f.key) (hi : f.key < 54525952) : t.get f = s.get f :=
    h.read f (noisy_gaps (by omega)) (by simp only [TIME.TIME_STATUS_SLEWING, TIME.STEER]; omega)
  refine ⟨?_, fun i hi => reads _ ?_ ?_, fun i hi j hj => reads _ ?_ ?_⟩
  · simp only [List.forall_mem_cons, List.not_mem_nil]
    refine ⟨reads _ ?_ ?_, reads _ ?_ ?_, reads _ ?_ ?_, reads _ ?_ ?_, reads _ ?_ ?_, reads _ ?_ ?_, reads _ ?_ ?_, reads _ ?_ ?_,
      reads _ ?_ ?_, reads _ ?_ ?_, fun _ x => x.elim⟩ <;>
      simp only [MAC.MAC_ADDR, MAC.HB_CFG_PTP_L2, MAC.HB_CFG_PTP_P2P, MAC.HB_CFG_PTP_UDP, MAC.HB_CFG_NTP, MAC.HB_CFG_VLAN_ID, MAC.HB_CFG_VLAN_EN,
        MAC.HB_MCAST, MAC.TA_EN_V4, MAC.TA_EN_V6] <;> omega
  all_goals simp only [MAC.TA_V4, MAC.TA_V6]; omega

/-- A field of a port's registers outside the counters of frames. -/
theorem SameHead.inc {p : Nat} (h : SameHead p s t) (lt : p < 8) (f : Fld) (d : 32 * (0x180100 + 0x4000 * p) ≤ f.key)
    (e : f.key < 32 * (0x180008 + 0x4000 * (p + 1))) : SameHead p s (t.inc f) := by
  have reads (g : Fld) (lo : 32 * (0x180008 + 0x4000 * p) ≤ g.key) (hi : g.key < 32 * (0x180100 + 0x4000 * p)) : (t.inc f).get g = t.get g :=
    ((Keeps.refl t).incIn f (l := [f]) (by simp)).get g (noisy_gaps (by omega)) (by simp; omega)
  obtain ⟨fields, v4, v6⟩ := h
  refine ⟨fun g m => (reads g ?_ ?_).trans (fields g m), fun i hi => (reads _ ?_ ?_).trans (v4 i hi), fun i hi j hj => (reads _ ?_ ?_).trans (v6 i hi j hj)⟩
  · simp only [List.mem_cons, List.not_mem_nil, or_false] at m
    rcases m with rfl | rfl | rfl | rfl | rfl | rfl | rfl | rfl | rfl | rfl <;>
      simp only [MAC.MAC_ADDR, MAC.HB_CFG_PTP_L2, MAC.HB_CFG_PTP_P2P, MAC.HB_CFG_PTP_UDP, MAC.HB_CFG_NTP, MAC.HB_CFG_VLAN_ID, MAC.HB_CFG_VLAN_EN,
        MAC.HB_MCAST, MAC.TA_EN_V4, MAC.TA_EN_V6] <;> omega
  · simp only [List.mem_cons, List.not_mem_nil, or_false] at m
    rcases m with rfl | rfl | rfl | rfl | rfl | rfl | rfl | rfl | rfl | rfl <;>
      simp only [MAC.MAC_ADDR, MAC.HB_CFG_PTP_L2, MAC.HB_CFG_PTP_P2P, MAC.HB_CFG_PTP_UDP, MAC.HB_CFG_NTP, MAC.HB_CFG_VLAN_ID, MAC.HB_CFG_VLAN_EN,
        MAC.HB_MCAST, MAC.TA_EN_V4, MAC.TA_EN_V6] <;> omega
  all_goals simp only [MAC.TA_V4, MAC.TA_V6]; omega

theorem State.countTiming_kept (s : State) (p : Nat) :
    Keeps [MAC.RX_FRAMES p, MAC.RX_TIMING p] s (((s.inc (MAC.RX_FRAMES p)).inc (MAC.RX_TIMING p)).pmu 6 p 1) :=
  (((Keeps.refl s).incIn _ (by simp)).incIn _ (by simp)).pmu _ _ _

/-- In MIRROR a frame of the NTP service or of address resolution is counted three times and discarded. -/
theorem frameRx_mirror (p : Nat) (b : List Byte) (time : Nat) (lt : p < 8) (rate : s.get (MAC.PORT_CFG_RATE p) ≠ 3) (link : s.get (MAC.PORT_STATUS_LINK p) = 2)
    (long : 64 ≤ b.length + 4) (fits : b.length + 4 ≤ s.get (MAC.PORT_CFG_MAX_FRAME p)) (mode : s.mode = 5)
    (rule : s.headRule p b = 6 ∨ s.headRule p b = 7) :
    ∃ u, Ran s u ∧ runFrameRx p b true time s = (((u.inc (MAC.RX_FRAMES p)).inc (MAC.RX_TIMING p)).pmu 6 p 1).inc (MAC.RX_NOT_SERVING p) := by
  have taken : ¬(7 < p ∨ s.get (MAC.PORT_CFG_RATE p) = 3 ∨ s.get (MAC.PORT_STATUS_LINK p) ≠ 2) := by omega
  unfold runFrameRx
  simp only [if_neg taken, Bool.not_true, Bool.false_eq_true, if_false]
  have ran := s.advanceTo_ran (min (time + wireUnits (s.get (MAC.PORT_CFG_RATE p)) (b.length + 4)) s.time.next)
  refine ⟨_, ran, ?_⟩
  generalize s.advanceTo _ = u at ran ⊢
  have maxFrame : u.get (MAC.PORT_CFG_MAX_FRAME p) = s.get (MAC.PORT_CFG_MAX_FRAME p) :=
    ran.read _ (noisy_gaps (by simp only [MAC.PORT_CFG_MAX_FRAME]; omega)) (by simp only [MAC.PORT_CFG_MAX_FRAME, TIME.STEER]; omega)
  have good : ¬(b.length + 4 < 64 ∨ u.get (MAC.PORT_CFG_MAX_FRAME p) < b.length + 4) := by omega
  have mirror : (((u.inc (MAC.RX_FRAMES p)).inc (MAC.RX_TIMING p)).pmu 6 p 1).mode = 5 := (u.countTiming_kept p).mode.trans (ran.mode.trans mode)
  have same : (u.inc (MAC.RX_FRAMES p)).headRule p b = s.headRule p b :=
    ((ran.sameHead lt).inc lt _ (by simp only [MAC.RX_FRAMES]; omega) (by simp only [MAC.RX_FRAMES]; omega)).headRule b
  rw [if_neg good]
  simp only [same]
  rcases rule with rule | rule <;> simp [rule, State.execMode, mirror, State.dualFrame]

/-- Settles O58: rules 6 and 7 name no dual-fed flow. -/
theorem mirrorPassesOnlyDualFed : Obligations.MirrorPassesOnlyDualFed := by
  intro s p b time awake lt rate link long fits mode rule
  obtain ⟨u, ran, run⟩ := frameRx_mirror p b time lt rate link long fits mode rule
  have quiet : noisy (MAC.RX_NOT_SERVING p).key = false := noisy_gaps (by simp only [MAC.RX_NOT_SERVING]; omega)
  have before : (((u.inc (MAC.RX_FRAMES p)).inc (MAC.RX_TIMING p)).pmu 6 p 1).get (MAC.RX_NOT_SERVING p) = s.get (MAC.RX_NOT_SERVING p) := by
    rw [(u.countTiming_kept p).get _ quiet (by simp [MAC.RX_NOT_SERVING, MAC.RX_FRAMES, MAC.RX_TIMING])]
    exact ran.read _ quiet (by simp only [MAC.RX_NOT_SERVING, TIME.STEER]; omega)
  have settled : Keeps [] (runFrameRx p b true time s) (s.awake (runFrameRx p b true time)).settle := by
    rw [State.awake_eq awake]
    exact (Keeps.refl _).settle
  refine ⟨_, rfl, ?_, ?_⟩
  · rw [settled.read _ quiet, run]
    exact (State.incBy_get _ _ _ rfl quiet).trans (by rw [before])
  · refine Only.tail ?_ settled.any
    rw [run]
    have time : Only [.time] ([MAC.RX_FRAMES p, MAC.RX_TIMING p, MAC.RX_NOT_SERVING p] ++ timeFields) s u :=
      Only.more ran fun k ⟨d, m, e⟩ => ⟨d, List.mem_append_right _ m, e⟩
    exact (((time.incK _ ⟨_, by simp, rfl⟩).incK _ ⟨_, by simp, rfl⟩).pmu _ _ _).incK _ ⟨MAC.RX_NOT_SERVING p, by simp, rfl⟩

end Sys2Proof.Machine
end

section
/-! The commands of the moulds: MOULD_LOAD, MOULD_ACTIVATE and MOULD_CANCEL. -/

namespace Sys2Proof.Machine

variable {l : List Fld} {s t u : State}

theorem State.settle_kept (s : State) : Keeps [] s s.settle := (Keeps.refl s).settle

theorem Keeps.sheetNo (k : Keeps [] s t) : t.sheetNo = s.sheetNo := k.read _ (by decide)

theorem State.puts_core (s : State) (w : List (Fld × Nat)) : (s.puts w).core = s.core := by
  induction w generalizing s with
  | nil => rfl
  | cons p w ih => exact ih (s.put p.1 p.2)

@[simp] theorem State.puts_sheet (s : State) (w : List (Fld × Nat)) : (s.puts w).sheet = s.sheet := congrArg Core.sheet (s.puts_core w)

/-! ### Moulds -/

theorem stateFld_quiet (buf : Nat) : noisy (stateFld buf).key = false := by unfold stateFld; split <;> decide

theorem Keeps.setLoad (k : Keeps l s t) (buf : Nat) (r : Option MouldRun) : Keeps l (s.setLoad buf r) (t.setLoad buf r) := by
  unfold State.setLoad
  rw [k.sheet]
  split
  · exact k.with_sheet _
  · exact k.with_sheet _

theorem State.setLoad_get (s : State) (buf : Nat) (r : Option MouldRun) (f : Fld) : (s.setLoad buf r).get f = s.get f := by
  unfold State.setLoad
  split <;> rfl

theorem mouldLoad_loads (h : Hdr) (buf addr len : Nat) (a : s.Accepts h false 0) (b : buf ≤ 1) (short : h.origin = .mspi → addr + len ≤ 0xC00)
    (mode : s.mode ≠ 5) (idle : s.get (stateFld buf) ≠ 1) (inactive : s.get (stateFld buf) ≠ 3)
    (free : s.flag SHEET.SHEET_STATUS_PENDING = true → s.get SHEET.SHEET_STATUS_PEND_BUF ≠ buf) :
    ∃ v, Keeps [] s v ∧
      s.awake (runMouldLoad h buf addr len) = ((v.put (stateFld buf) 1).setLoad buf (some ⟨h, len⟩)).journalCmd h 0x10 buf addr := by
  obtain ⟨v, hv, run, -⟩ := a.elim (g := runMouldLoad h buf addr len) rfl
  refine ⟨v, hv, ?_⟩
  have accepted : ¬(v.get (stateFld buf) = 1 ∨ v.get (stateFld buf) = 3 ∨
      (v.flag SHEET.SHEET_STATUS_PENDING = true ∧ v.get SHEET.SHEET_STATUS_PEND_BUF = buf)) := by
    rw [hv.read _ (stateFld_quiet buf), hv.flag _ (by decide), hv.read _ (by decide)]
    rintro (x | x | ⟨x, y⟩)
    exacts [idle x, inactive x, free x y]
  rw [run, if_neg (by omega), if_neg (fun x => by have := short x.1; omega), if_neg (by rw [hv.mode]; exact mode)]
  exact if_neg accepted

/-- The fields that an activation shows. -/
def pendingFields : List Fld := [SHEET.SHEET_STATUS_PENDING, SHEET.SHEET_STATUS_PEND_BUF, SHEET.PEND_SHEET]

theorem State.puts_pending (s : State) (b buf sheet : Nat) :
    (s.puts [(SHEET.SHEET_STATUS_PENDING, b), (SHEET.SHEET_STATUS_PEND_BUF, buf), (SHEET.PEND_SHEET, sheet)]).flag SHEET.SHEET_STATUS_PENDING =
      (b % 2 != 0) ∧
    (s.puts [(SHEET.SHEET_STATUS_PENDING, b), (SHEET.SHEET_STATUS_PEND_BUF, buf), (SHEET.PEND_SHEET, sheet)]).get SHEET.SHEET_STATUS_PEND_BUF =
      buf % 2 ∧
    (s.puts [(SHEET.SHEET_STATUS_PENDING, b), (SHEET.SHEET_STATUS_PEND_BUF, buf), (SHEET.PEND_SHEET, sheet)]).get SHEET.PEND_SHEET = sheet % 2 ^ 64 := by
  simp only [State.puts, State.flag]
  refine ⟨?_, ?_, State.get_put_same _ _ _⟩
  · rw [State.get_put_other _ _ _ _ (by decide), State.get_put_other _ _ _ _ (by decide), State.get_put_same]
    rfl
  · rw [State.get_put_other _ _ _ _ (by decide), State.get_put_same]
    rfl

theorem mouldActivate_pends (h : Hdr) (buf sheet : Nat) (a : s.Accepts h false 0) (b : buf ≤ 1) (mode : s.mode ≠ 5)
    (none : s.flag SHEET.SHEET_STATUS_PENDING = false) (ready : s.get (stateFld buf) = 2) (near : sheet ≤ s.sheetNo + 1125899906)
    (late : s.sheetNo < sheet ∨ s.latePol h SHEET.SHEET_CFG_MOULD_LATE_POL = false) :
    ∃ v, Keeps [SHEET.LATE_CNT] s v ∧ s.awake (runMouldActivate h buf sheet) = (State.journalCmd { v.puts [(SHEET.SHEET_STATUS_PENDING, 1),
      (SHEET.SHEET_STATUS_PEND_BUF, buf), (SHEET.PEND_SHEET, if s.sheetNo < sheet then sheet else s.sheetNo + 1)] with
      sheet := { s.sheet with act := some ⟨h.origin⟩ } } h 0x11 buf sheet).complete h 0x11 stOK 0 (decide (sheet ≤ s.sheetNo)) := by
  obtain ⟨v, hv, run, -⟩ := a.elim (g := runMouldActivate h buf sheet) rfl
  have counted : Keeps [SHEET.LATE_CNT] s (if decide (sheet ≤ s.sheetNo) = true then v.inc SHEET.LATE_CNT else v) :=
    Keeps.ite' (hv.any.incIn _ (by simp)) hv.any
  have number : (if decide (sheet ≤ s.sheetNo) = true then v.inc SHEET.LATE_CNT else v).sheetNo = s.sheetNo :=
    counted.get _ (by decide) (by decide)
  have kept : (decide (sheet ≤ s.sheetNo) && s.latePol h SHEET.SHEET_CFG_MOULD_LATE_POL) = false :=
    late_and_pol (late.imp_left fun x => by simpa using x)
  have shown : (if decide (sheet ≤ s.sheetNo) = true then s.sheetNo + 1 else sheet) = if s.sheetNo < sheet then sheet else s.sheetNo + 1 := by
    simp only [decide_eq_true_eq]; split_ifs <;> omega
  refine ⟨_, counted, ?_⟩
  rw [run]
  simp only [hv.mode, hv.flag SHEET.SHEET_STATUS_PENDING (by decide), hv.read _ (stateFld_quiet buf), hv.sheetNo,
    hv.latePol h SHEET.SHEET_CFG_MOULD_LATE_POL (by decide), mode, none, ready, kept, if_neg (show ¬1 < buf by omega),
    if_neg (show ¬s.sheetNo + 1125899906 < sheet by omega), ne_eq, not_true_eq_false, Bool.false_eq_true, if_false, number, shown, State.puts_sheet,
    counted.sheet]

theorem mouldCancel_cancels (h : Hdr) (a : s.Accepts h false 0) (mode : s.mode ≠ 5) (pending : s.flag SHEET.SHEET_STATUS_PENDING = true) :
    ∃ v, Keeps [] s v ∧ s.awake (runMouldCancel h) = (State.journalCmd { v.puts [(SHEET.SHEET_STATUS_PENDING, 0),
      (SHEET.SHEET_STATUS_PEND_BUF, 0), (SHEET.PEND_SHEET, 0)] with sheet := { s.sheet with act := none } } h 0x12 0 0).complete h 0x12 stOK 0 := by
  obtain ⟨v, hv, run, -⟩ := a.elim (g := runMouldCancel h) rfl
  refine ⟨v, hv, ?_⟩
  rw [run]
  simp only [hv.mode, hv.flag SHEET.SHEET_STATUS_PENDING (by decide), mode, pending, Bool.not_true, Bool.false_eq_true, if_false, State.puts_sheet,
    hv.sheet]

theorem Keeps.putsPending (k : Keeps [SHEET.LATE_CNT] s t) (b buf sheet : Nat) :
    Keeps [SHEET.SHEET_STATUS_PENDING, SHEET.SHEET_STATUS_PEND_BUF, SHEET.PEND_SHEET, SHEET.LATE_CNT] s
      (t.puts [(SHEET.SHEET_STATUS_PENDING, b), (SHEET.SHEET_STATUS_PEND_BUF, buf), (SHEET.PEND_SHEET, sheet)]) :=
  (k.more (by simp)).putsIn _ (by simp)

/-- Settles O5. -/
theorem mouldCommandsComplete : Obligations.MouldCommandsComplete := by
  refine ⟨?_, ?_, ?_⟩
  · intro s h buf addr len a b short mode idle inactive free
    obtain ⟨v, hv, run⟩ := mouldLoad_loads h buf addr len a b short mode idle inactive free
    have after : Keeps [] ((v.put (stateFld buf) 1).setLoad buf (some ⟨h, len⟩)) (s.awake (runMouldLoad h buf addr len)).settle := by
      rw [run]
      exact ((Keeps.refl _).journalCmd _ _ _ _).settle
    refine ⟨_, rfl, ?_, Keeps.trans ((hv.any.putIn _ _ (by simp)).setLoad buf _) after.any⟩
    rw [after.read _ (stateFld_quiet buf), State.setLoad_get]
    exact State.get_put_fits _ _ _ (by unfold stateFld; split <;> decide)
  · intro s h buf sheet a b mode none ready near late
    obtain ⟨v, hv, run⟩ := mouldActivate_pends h buf sheet a b mode none ready near late
    have after : Keeps [] { v.puts [(SHEET.SHEET_STATUS_PENDING, 1), (SHEET.SHEET_STATUS_PEND_BUF, buf),
        (SHEET.PEND_SHEET, if s.sheetNo < sheet then sheet else s.sheetNo + 1)] with sheet := { s.sheet with act := some ⟨h.origin⟩ } }
        (s.awake (runMouldActivate h buf sheet)).settle := by
      rw [run]
      exact (((Keeps.refl _).journalCmd _ _ _ _).complete _ _ _ _ _).settle
    obtain ⟨pending, inBuf, number⟩ := v.puts_pending 1 buf (if s.sheetNo < sheet then sheet else s.sheetNo + 1)
    refine ⟨_, rfl, (after.flag _ (by decide)).trans pending, (after.read _ (by decide)).trans (inBuf.trans (Nat.mod_eq_of_lt (by omega))),
      fun fits next => (after.read _ (by decide)).trans (number.trans (Nat.mod_eq_of_lt (by split <;> omega))),
      Keeps.trans ((hv.putsPending _ _ _).with_sheet _) after.any⟩
  · intro s h a mode pending
    obtain ⟨v, hv, run⟩ := mouldCancel_cancels h a mode pending
    have after : Keeps [] { v.puts [(SHEET.SHEET_STATUS_PENDING, 0), (SHEET.SHEET_STATUS_PEND_BUF, 0), (SHEET.PEND_SHEET, 0)] with
        sheet := { s.sheet with act := none } } (s.awake (runMouldCancel h)).settle := by
      rw [run]
      exact (((Keeps.refl _).journalCmd _ _ _ _).complete _ _ _ _ _).settle
    obtain ⟨notPending, -, number⟩ := v.puts_pending 0 0 0
    exact ⟨_, rfl, (after.flag _ (by decide)).trans notPending, (after.read _ (by decide)).trans number,
      Keeps.trans ((hv.any.putsIn _ (by simp)).with_sheet _) after.any⟩

end Sys2Proof.Machine
end

section
/-! The commands of the host: NOP, MODE_SET, STATUS_CLEAR, RESTORE_FACTORY_SIZING and an unknown opcode. -/

namespace Sys2Proof.Machine

variable {l : List Fld} {s t u : State}

/-- A completion of the mailbox leaves the engine. -/
theorem State.complete_out (s : State) (h : Hdr) (op st r : Nat) (late : Bool) (m : h.origin = .mspi) :
    Out.mailbox ⟨op, h.tag, st, late, .mspi, h.ring, r % 2 ^ 64, s.sheetNo, h.index⟩ ∈ (s.complete h op st r late).out := by
  unfold State.complete State.postCompl
  rw [if_pos m]
  dsimp only
  rw [m]
  split
  · exact ((Keeps.refl (l := []) _).irqEdge 304 (by decide)).mem (List.mem_cons_self ..)
  · exact List.mem_cons_self ..

/-- A row takes its bits out of its field. -/
def State.clearRow (m a : Nat) (s : State) (p : Row × Nat) : State :=
  s.put (p.1.fld a p.2) (s.get (p.1.fld a p.2) - (s.get (p.1.fld a p.2) &&& bits m p.1.lsb p.1.w))

theorem State.clearBits_eq (s : State) (a m : Nat) : s.clearBits a m = (rowsAt a).foldl (State.clearRow m a) s := rfl

/-- Rows of other fields leave a field as it is. -/
theorem clearRows_other (m a : Nat) (rows : List (Row × Nat)) (f : Fld) (off : ∀ p ∈ rows, f.key ≠ (p.1.fld a p.2).key) (s : State) :
    (rows.foldl (State.clearRow m a) s).get f = s.get f := by
  induction rows generalizing s with
  | nil => rfl
  | cons p rows ih =>
    exact (ih (fun q hq => off q (by simp [hq])) _).trans (State.get_put_other _ _ _ _ (off p (by simp)))

/-- Each of some rows with fields of their own takes its bits out. -/
theorem clearRows_get (m a : Nat) (rows : List (Row × Nat)) (own : (rows.map (fun p => (p.1.fld a p.2).key)).Nodup) (s : State) :
    ∀ p ∈ rows, (rows.foldl (State.clearRow m a) s).get (p.1.fld a p.2) =
      s.get (p.1.fld a p.2) - (s.get (p.1.fld a p.2) &&& bits m p.1.lsb p.1.w) := by
  induction rows generalizing s with
  | nil => simp
  | cons q rows ih =>
    rw [List.map_cons, List.nodup_cons] at own
    obtain ⟨apart, own⟩ := own
    have alone : ∀ p ∈ rows, (p.1.fld a p.2).key ≠ (q.1.fld a q.2).key := fun p hp e => apart (e ▸ List.mem_map.2 ⟨p, hp, rfl⟩)
    intro p hp
    rcases List.mem_cons.1 hp with rfl | hp
    · refine (clearRows_other m a rows _ (fun r hr e => alone r hr e.symm) _).trans ?_
      exact State.get_put_fits _ _ _ (lt_of_le_of_lt (Nat.sub_le _ _) (State.get_lt _ _))
    · refine (ih own _ p hp).trans ?_
      rw [State.clearRow, State.get_put_other _ _ _ _ (alone p hp)]

/-- The addresses of the registers with sticky bits that STATUS_CLEAR clears. -/
def stickyRegisters : List Nat := [0x14, 0x20, 0x2000C, 0x1C0000, 0x1F0000, 0x220000]

theorem stickyRows_own : ∀ a ∈ stickyRegisters, ((rowsAt a).map (fun p => (p.1.fld a p.2).key)).Nodup := by decide +kernel

theorem Keeps.clearBits (k : Keeps [] s t) (a m : Nat) : Keeps ((rowsAt a).map (fun p => p.1.fld a p.2)) s (t.clearBits a m) := by
  rw [State.clearBits_eq]
  have listed : ∀ p ∈ rowsAt a, p.1.fld a p.2 ∈ (rowsAt a).map (fun p => p.1.fld a p.2) := fun p hp => List.mem_map.2 ⟨p, hp, rfl⟩
  generalize (rowsAt a).map (fun p => p.1.fld a p.2) = l at listed
  have start : Keeps l s t := k.any
  clear k
  generalize rowsAt a = rows at listed ⊢
  induction rows generalizing t with
  | nil => exact start
  | cons p rows ih => exact ih (start.putIn _ _ (listed p (by simp))) (fun q hq => listed q (by simp [hq]))

theorem statusClear_clears (h : Hdr) (a mask : Nat) (acc : s.Accepts h false 0) (sticky : (mask % 2 ^ 32) &&& (stickyAt a).1 = mask % 2 ^ 32) :
    ∃ v, Keeps [] s v ∧ Keeps [] (v.clearBits a (mask % 2 ^ 32 &&& (stickyAt a).2)) (s.awake (runStatusClear h a mask)) := by
  obtain ⟨v, hv, run, -⟩ := acc.elim (g := runStatusClear h a mask) rfl
  refine ⟨v, hv, ?_⟩
  rw [run]
  simp only [sticky, ne_eq, not_true_eq_false, if_false]
  exact ((Keeps.refl _).journalCmd _ _ _ _).complete _ _ _ _ _

theorem modeSet_pends (h : Hdr) (m : Nat) (a : s.Accepts h false 0) (known : m ≤ 5) (free : s.glb.pendMode = none) (may : s.mayEnter m = true) :
    ∃ v, Keeps [] s v ∧ Keeps [] (State.puts { v with glb := { s.glb with pendMode := some ⟨m, some h, h.origin⟩ } }
      [(GLB.GLB_MODE_PEND_MODE, m), (GLB.GLB_MODE_PENDING, 1)]) (s.awake (runModeSet h m)) := by
  obtain ⟨v, hv, run, -⟩ := a.elim (g := runModeSet h m) rfl
  have may' : v.mayEnter m = true := by rw [← may]; simp only [State.mayEnter, hv.mode, hv.flag COUCH.PAIR_CFG_EN (by decide)]
  refine ⟨v, hv, ?_⟩
  rw [run]
  simp only [if_neg (show ¬5 < m by omega), hv.glb, free, may', Option.isSome_none, Bool.not_true, Bool.false_eq_true, if_false, State.showMode]
  exact (Keeps.refl _).journalCmd _ _ _ _

theorem restoreFactory_waits (h : Hdr) (scope : Nat) (a : s.Accepts h false 400) (known : scope ≤ 7) (mode : s.mode ≤ 1) (idle : s.sizingRuns = false) :
    Keeps [] { s with siz := { s.siz with due := s.siz.due ++ [.restore h.origin scope] } } (s.awake (runRestoreFactorySizing h scope)) := by
  obtain ⟨v, hv, run, -⟩ := a.elim (g := runRestoreFactorySizing h scope) rfl
  rw [run]
  simp only [if_neg (show ¬7 < scope by omega), hv.mode, if_neg (show ¬1 < s.mode by omega), hv.sizingRuns, idle, Bool.false_eq_true, if_false, hv.siz]
  exact ((hv.with_siz _).journalCmd _ _ _ _).complete _ _ _ _ _

/-- Settles O6. -/
theorem hostCommandsComplete : Obligations.HostCommandsComplete := by
  refine ⟨?_, ?_, ?_, ?_, ?_⟩
  · intro s h a
    obtain ⟨v, hv, run, -⟩ := a.elim (g := runNop h) rfl
    have kept : Keeps [] s (s.awake (runNop h)) := by rw [run]; exact hv.complete _ _ _ _ _
    refine ⟨_, rfl, kept.settle, fun m => (s.awake (runNop h)).settle_kept.mem ?_⟩
    have out := v.complete_out h 0x01 stOK v.sheetNo false m
    rw [hv.sheetNo] at out
    rw [run, hv.sheetNo]
    exact out
  · intro s h m a known free may
    obtain ⟨v, hv, after⟩ := modeSet_pends h m a known free may
    have shown := after.settle
    refine ⟨_, rfl, ?_, ?_, Keeps.trans (Keeps.putsIn (hv.any.with_glb _) _ (by simp)) shown.any⟩
    · rw [shown.read _ (by decide)]
      refine (State.get_put_other _ _ _ _ (by decide)).trans (State.get_put_fits _ _ _ ?_)
      simp only [GLB.GLB_MODE_PEND_MODE]
      omega
    · rw [shown.flag _ (by decide)]
      exact State.flag_putB_same _ GLB.GLB_MODE_PENDING true rfl
  · intro s h a mask acc ha sticky
    obtain ⟨v, hv, after⟩ := statusClear_clears h a mask acc sticky
    refine ⟨_, rfl, Keeps.trans (hv.clearBits a _) after.settle.any, fun p hp quiet => ?_⟩
    rw [after.settle.read _ quiet, State.clearBits_eq, clearRows_get _ a _ (stickyRows_own a ha) v p hp, hv.read _ quiet]
  · intro s h scope a known mode idle
    exact ⟨_, rfl, (restoreFactory_waits h scope a known mode idle).settle⟩
  · intro s h op a
    obtain ⟨v, hv, run, -⟩ := a.elim (g := runUnknownOpcode h op) rfl
    have kept : Keeps [] s (s.awake (runUnknownOpcode h op)) := by rw [run]; exact hv.complete _ _ _ _ _
    refine ⟨_, rfl, kept.settle, fun m => (s.awake (runUnknownOpcode h op)).settle_kept.mem ?_⟩
    have out := v.complete_out h (op % 2 ^ 16) stUNKNOWN 0 false m
    rw [hv.sheetNo] at out
    rw [run]
    exact out

end Sys2Proof.Machine
end

section
/-! An edge whose counter overflows takes the stock of its measurement. -/

namespace Sys2Proof.Machine

theorem roundQ_intCast (i : Int) : roundQ (i : Rat) = i := by
  rw [roundQ, Rat.num_intCast, Rat.den_intCast, roundDiv]
  split <;> omega

/-- With COARSE 1 an edge is placed at its cycle without an interval (R64). -/
theorem State.edgeTime_coarse (s : State) (n tc : Nat) (second : Bool) (tE tF : Option Nat) (after : Bool)
    (coarse : s.flag TIME.TIME_STATUS_COARSE = true) :
    s.edgeTime n tc second tE tF after = ((tc : Int) - (s.chDelay n + s.spareOff n)).toNat := by
  have whole : (tc : Rat) + 0 - ((s.chDelay n + s.spareOff n : Int) : Rat) = (((tc : Int) - (s.chDelay n + s.spareOff n) : Int) : Rat) := by
    push_cast
    ring
  simp only [State.edgeTime, coarse, if_true, whole, roundQ_intCast]

/-- The first edge on a pin is counted and measured. -/
theorem runTdcEdge_first (s : State) (n gap tc e : Nat) (reaches : s.edgeReaches n .pin false = true) (skip : (s.ch n).skip = 0)
    (first : (s.ch n).passed = false) :
    runTdcEdge n .pin false gap tc false (some e) none false 0 s =
      ((s.setCh n { s.ch n with skip := s.get (TDC.CH_PRESC n), passed := true }).inc (TDC.CH_CNT n)).interpolate n
        (((s.setCh n { s.ch n with skip := s.get (TDC.CH_PRESC n), passed := true }).inc (TDC.CH_CNT n)).edgeTime n tc false (some e) none false)
        true (.tdcEdge n .pin false gap tc false (some e) none false) := by
  simp [runTdcEdge, reaches, State.tookLoop, skip, first]

/-- After sheet 0, with the overflow interrupt of the time-interval block enabled and unmasked, channel 0 enabled and one edge short of its
greatest count, a window open on it, no delay sized, COARSE 1, and in class 3 the stock of one edge. -/
def nearlyFull : State :=
  { State.reset.puts [(TDC.CH_CNT 0, 2 ^ 48 - 2), (TDC.CH_CFG_ENABLE 0, 1), (TIME.TIME_STATUS_COARSE, 1), (IRQ.SRC_CFG_EN 196, 1), (IRQ.VEC_CFG_EN 0, 1)] with
    running := true
    ledger := { floors := [0, 0, 6, 0] }
    irq := { masked := [] }
    siz := { user := [⟨0, 0, 0, []⟩] }
    tdc := { chans := [{}], wins := [{ isOpen := true, endAt := 2 ^ 60 }] } }

/-- The edge has been counted. -/
def counted : State := (nearlyFull.setCh 0 { passed := true }).inc (TDC.CH_CNT 0)

/-- An edge on the pin of channel 0. -/
def nextEdge : Instr := .tdcEdge 0 .pin false 3200 65536000 false (some 0) none false

theorem nearlyFull_runs :
    runTdcEdge 0 .pin false 3200 65536000 false (some 0) none false 0 nearlyFull = counted.interpolate 0 65536000 true nextEdge := by
  have placed : counted.edgeTime 0 65536000 false (some 0) none false = 65536000 :=
    (State.edgeTime_coarse _ _ _ _ _ _ _ (by decide +kernel)).trans (by decide +kernel)
  have presc : nearlyFull.get (TDC.CH_PRESC 0) = 0 := by decide +kernel
  refine (runTdcEdge_first nearlyFull 0 3200 65536000 0 (by decide +kernel) rfl rfl).trans ?_
  rw [presc]
  exact congrArg (fun u => counted.interpolate 0 u true nextEdge) placed

theorem counted_chans : (counted.interpolate 0 65536000 true nextEdge).settle.tdc.chans.map (·.lastPass) = [none] := by decide +kernel

/-- Refutes O9: the message of the overflow interrupt draws the stock that class 3 needs for the measurement (R439, R419), so the edge waits and
is not placed. -/
theorem not_windowEventsComplete : ¬ Obligations.WindowEventsComplete := by
  rintro ⟨-, -, placed, -⟩
  obtain ⟨t, ht, -, chans, -⟩ := placed nearlyFull 0 .pin false 3200 65536000 false (some 0) none false rfl (by decide) (by decide +kernel) rfl
    (.inl rfl) (.inl rfl) (by decide +kernel)
  obtain rfl : (counted.interpolate 0 65536000 true nextEdge).settle = t := by
    rw [← nearlyFull_runs]
    exact Host.Outcome.next.inj ((congrArg (fun x : State => Host.Outcome.next x.settle) (State.awake_eq (s := nearlyFull) rfl _)).symm.trans ht)
  have passes := congrArg (List.map (·.lastPass)) chans
  rw [counted_chans] at passes
  exact absurd passes (by simp [nearlyFull, setNth])

end Sys2Proof.Machine
end

section
/-! The time-interval block: its windows, its delivery slice and its commands. -/

namespace Sys2Proof.Machine

variable {l : List Fld} {s t u : State}

/-! ### What the operations of the block change -/

/-- Only the time-interval block and its registers differ, but for bookkeeping. -/
def InTdc (s t : State) : Prop := Only [.tdc] (regBlock 0x40000 0x80000) s t

theorem InTdc.refl (s : State) : InTdc s s := Only.refl s

theorem InTdc.trans (a : InTdc s t) (b : InTdc t u) : InTdc s u := Only.trans a b

theorem InTdc.tail (a : InTdc s t) (k : Keeps [] t u) : InTdc s u := Only.tail a k.any

theorem InTdc.of (k : Keeps [] s t) : InTdc s t := k.only0

theorem InTdc.setTdc (h : InTdc s t) (x : TdcSt) : InTdc s { t with tdc := x } := Only.set_tdc h rfl x

theorem InTdc.put (h : InTdc s t) (f : Fld) (v : Nat) (lo : 32 * 0x40000 ≤ f.key) (hi : f.key < 32 * 0x80000) : InTdc s (t.put f v) :=
  Only.putK h f v (mem_block lo hi)

theorem InTdc.inc (h : InTdc s t) (f : Fld) (lo : 32 * 0x40000 ≤ f.key) (hi : f.key < 32 * 0x80000) : InTdc s (t.inc f) :=
  Only.incK h f (mem_block lo hi)

theorem InTdc.puts (h : InTdc s t) (w : List (Fld × Nat)) (b : ∀ p ∈ w, 32 * 0x40000 ≤ p.1.key ∧ p.1.key < 32 * 0x80000) : InTdc s (t.puts w) :=
  Only.putsK h w fun p hp => mem_block (b p hp).1 (b p hp).2

theorem InTdc.ite {a b : State} {c : Prop} [Decidable c] (h : InTdc s a) (g : InTdc s b) : InTdc s (if c then a else b) := Only.ite' h g

theorem InTdc.mode (h : InTdc s t) : t.mode = s.mode := Only.mode h rfl

theorem InTdc.read (h : InTdc s t) (f : Fld) (n : noisy f.key = false) (d : f.key < 32 * 0x40000 ∨ 32 * 0x80000 ≤ f.key) : t.get f = s.get f :=
  Only.readB h f n d

theorem InTdc.setCh (h : InTdc s t) (n : Nat) (c : TdcCh) : InTdc s (t.setCh n c) := h.setTdc _

theorem winStat_inTdc (m : Nat) (hm : m < 64) (a b c : Nat) : ∀ p ∈ [(TDC.WIN_STAT_OPEN m, a), (TDC.WIN_STAT_PENDING m, b), (TDC.WIN_STAT_STOPS m, c)],
    32 * 0x40000 ≤ p.1.key ∧ p.1.key < 32 * 0x80000 := by
  simp only [List.forall_mem_cons, List.not_mem_nil, TDC.WIN_STAT_OPEN, TDC.WIN_STAT_PENDING, TDC.WIN_STAT_STOPS]
  exact ⟨by omega, by omega, by omega, fun _ x => x.elim⟩

theorem InTdc.setWin (h : InTdc s t) (m : Nat) (w : WinSt) (hm : m < 64) : InTdc s (t.setWin m w) :=
  (h.setTdc _).puts _ (winStat_inTdc m hm _ _ _)

theorem InTdc.closeWin (h : InTdc s t) (m extra : Nat) (hm : m < 64) : InTdc s (t.closeWin m extra) :=
  InTdc.ite ((h.setWin m _ hm).setTdc _) h

theorem InTdc.armWin (h : InTdc s t) (m u : Nat) (late : Bool) (hm : m < 64) : InTdc s (t.armWin m u late) :=
  (h.closeWin m _ hm).setWin m _ hm

theorem InTdc.disarmWin (h : InTdc s t) (m : Nat) (hm : m < 64) : InTdc s (t.disarmWin m) := (h.closeWin m _ hm).setWin m _ hm

theorem InTdc.abortWindows (h : InTdc s t) (n : Nat) : InTdc s (t.abortWindows n) :=
  Only.foldlMem _ _ (fun x m hm => InTdc.ite ((InTdc.refl x).closeWin m _ (List.mem_range.1 hm)) (InTdc.refl x)) h

/-! ### Windows -/

theorem State.setWin_tdc (s : State) (m : Nat) (w : WinSt) : (s.setWin m w).tdc = { s.tdc with wins := setNth s.tdc.wins m w } :=
  rfl

theorem State.setWin_open (s : State) (m : Nat) (w : WinSt) : (s.setWin m w).flag (TDC.WIN_STAT_OPEN m) = w.isOpen := by
  simp only [State.setWin, State.puts, State.flag]
  rw [State.get_put_other _ _ _ _ (by simp only [TDC.WIN_STAT_OPEN, TDC.WIN_STAT_STOPS]; omega),
    State.get_put_other _ _ _ _ (by simp only [TDC.WIN_STAT_OPEN, TDC.WIN_STAT_PENDING]; omega), State.get_put_same]
  cases w.isOpen <;> rfl

theorem State.setWin_pending (s : State) (m : Nat) (w : WinSt) : (s.setWin m w).flag (TDC.WIN_STAT_PENDING m) = w.pend.isSome := by
  simp only [State.setWin, State.puts, State.flag]
  rw [State.get_put_other _ _ _ _ (by simp only [TDC.WIN_STAT_PENDING, TDC.WIN_STAT_STOPS]; omega), State.get_put_same]
  cases w.pend <;> rfl

theorem State.armWin_open (s : State) (m u : Nat) (late : Bool) : (s.armWin m u late).flag (TDC.WIN_STAT_OPEN m) = true := State.setWin_open _ _ _

/-- A window replaced is the one given, or none stands there and it is as at reset. -/
theorem State.win_setWin (s : State) (m : Nat) (w : WinSt) : (s.setWin m w).win m = w ∨ (s.setWin m w).win m = {} := by
  unfold State.win
  rw [State.setWin_tdc]
  by_cases h : m < s.tdc.wins.length
  · exact .inl (nth_setNth_same _ _ _ _ h)
  · exact .inr (by simp [nth, setNth, Nat.le_of_not_lt h])

theorem State.closeWin_closed (s : State) (m extra : Nat) :
    (s.closeWin m extra).tdc.closed = s.tdc.closed ++ (if (s.win m).isOpen then [(s.win m).record m s.sheetNo extra] else []) := by
  unfold State.closeWin
  by_cases h : (s.win m).isOpen = true <;> simp [h, State.setWin_tdc]

theorem State.closeWin_shut (s : State) (m extra : Nat) : ((s.closeWin m extra).win m).isOpen = false := by
  unfold State.closeWin
  dsimp only
  split
  · rcases s.win_setWin m { s.win m with isOpen := false, stops := [], start := none, ovf := 0, count := 0, flags := 0 } with e | e
    · exact congrArg WinSt.isOpen e
    · exact congrArg WinSt.isOpen e
  · next h => simpa using h

theorem State.disarmWin_shut (s : State) (m : Nat) :
    (s.disarmWin m).flag (TDC.WIN_STAT_OPEN m) = false ∧ (s.disarmWin m).flag (TDC.WIN_STAT_PENDING m) = false :=
  ⟨(State.setWin_open _ _ _).trans (State.closeWin_shut s m _), State.setWin_pending _ _ _⟩

theorem State.disarmWin_closed (s : State) (m : Nat) :
    (s.disarmWin m).tdc.closed = s.tdc.closed ++ (if (s.win m).isOpen then [(s.win m).record m s.sheetNo (2 ^ flAborted)] else []) := by
  unfold State.disarmWin
  simp only [State.setWin_tdc, State.closeWin_closed]

theorem State.setWin_get (s : State) (m : Nat) (w : WinSt) (f : Fld) (o : f.key ≠ (TDC.WIN_STAT_OPEN m).key) (p : f.key ≠ (TDC.WIN_STAT_PENDING m).key)
    (q : f.key ≠ (TDC.WIN_STAT_STOPS m).key) : (s.setWin m w).get f = s.get f :=
  (State.get_put_other _ _ _ _ q).trans ((State.get_put_other _ _ _ _ p).trans (State.get_put_other _ _ _ _ o))

theorem State.disarmWin_arm (s : State) (m : Nat) : (s.disarmWin m).get (TDC.WIN_CFG_ARM m) = s.get (TDC.WIN_CFG_ARM m) := by
  have other (x : State) (w : WinSt) : (x.setWin m w).get (TDC.WIN_CFG_ARM m) = x.get (TDC.WIN_CFG_ARM m) :=
    x.setWin_get m w _ (by simp only [TDC.WIN_CFG_ARM, TDC.WIN_STAT_OPEN]; omega) (by simp only [TDC.WIN_CFG_ARM, TDC.WIN_STAT_PENDING]; omega)
      (by simp only [TDC.WIN_CFG_ARM, TDC.WIN_STAT_STOPS]; omega)
  have closed : (s.closeWin m (2 ^ flAborted)).get (TDC.WIN_CFG_ARM m) = s.get (TDC.WIN_CFG_ARM m) := by
    unfold State.closeWin
    dsimp only
    split
    · exact other s _
    · rfl
  exact (other _ _).trans closed

/-! ### MEAS_ARM and MEAS_DISARM -/

theorem winCfgArm_quiet {m : Nat} (hm : m ≤ 63) : noisy (TDC.WIN_CFG_ARM m).key = false := noisy_gaps (by simp only [TDC.WIN_CFG_ARM]; omega)

theorem winStatOpen_quiet {m : Nat} (hm : m ≤ 63) : noisy (TDC.WIN_STAT_OPEN m).key = false := noisy_gaps (by simp only [TDC.WIN_STAT_OPEN]; omega)

theorem winStatPending_quiet {m : Nat} (hm : m ≤ 63) : noisy (TDC.WIN_STAT_PENDING m).key = false :=
  noisy_gaps (by simp only [TDC.WIN_STAT_PENDING]; omega)

theorem Keeps.win (k : Keeps l s t) (m : Nat) : t.win m = s.win m := by simp only [State.win, k.tdc]

theorem Keeps.ch (k : Keeps l s t) (n : Nat) : t.ch n = s.ch n := by simp only [State.ch, k.tdc]

theorem measArm_now (h : Hdr) (m : Nat) (a : s.Accepts h false 0) (hm : m ≤ 63) (arm : s.get (TDC.WIN_CFG_ARM m) = 1) (shut : (s.win m).isOpen = false) :
    ∃ v w, Keeps [] s v ∧ Keeps [] (v.armWin m w false) (s.awake (runMeasArm h m 0)) := by
  obtain ⟨v, hv, run, -⟩ := a.elim (g := runMeasArm h m 0) rfl
  refine ⟨v, v.units, hv, ?_⟩
  rw [run]
  simp only [if_neg (show ¬63 < m by omega), hv.read _ (winCfgArm_quiet hm), arm, hv.win, shut, ne_eq, not_true_eq_false, if_false, if_true,
    Bool.false_eq_true]
  exact ((Keeps.refl _).journalCmd _ _ _ _).complete _ _ _ _ _

/-- A target in force is late, or in the future. -/
theorem measArm_later (h : Hdr) (m target : Nat) (a : s.Accepts h false 0) (hm : m ≤ 63) (arm : s.get (TDC.WIN_CFG_ARM m) = 1)
    (shut : (s.win m).isOpen = false) (later : target ≠ 0) (ok : s.targetOk (s.targetUnits target) = true)
    (late : s.isLate (s.targetUnits target) = false ∨ (h.polGiven && h.latePol) = false) :
    ∃ v, Keeps [SHEET.LATE_CNT] s v ∧ Keeps [] (v.setWin m { s.win m with
        pend := some (if s.isLate (s.targetUnits target) then s.time.next else (s.targetUnits target).toNat),
        pendLate := s.isLate (s.targetUnits target), pendPol := h.polGiven && h.latePol }) (s.awake (runMeasArm h m target)) := by
  obtain ⟨v, hv, run, -⟩ := a.elim (g := runMeasArm h m target) rfl
  have counted : Keeps [SHEET.LATE_CNT] s (if s.isLate (s.targetUnits target) = true then v.inc SHEET.LATE_CNT else v) :=
    Keeps.ite' (hv.any.incIn _ (by simp)) hv.any
  refine ⟨_, counted, ?_⟩
  rw [run]
  simp only [if_neg (show ¬63 < m by omega), hv.read _ (winCfgArm_quiet hm), arm, hv.win, shut, ne_eq, not_true_eq_false, if_false, later,
    Bool.false_eq_true, hv.targetUnits, hv.targetOk, hv.isLate, ok, Bool.true_eq_false, late_and_pol late, counted.win, counted.time]
  exact ((Keeps.refl _).journalCmd _ _ _ _).complete _ _ _ _ _

theorem measDisarm_disarms (h : Hdr) (m : Nat) (a : s.Accepts h false 0) (hm : m ≤ 63) :
    ∃ v, Keeps [] s v ∧ Keeps [] ((v.put (TDC.WIN_CFG_ARM m) 0).disarmWin m) (s.awake (runMeasDisarm h m)) := by
  obtain ⟨v, hv, run, -⟩ := a.elim (g := runMeasDisarm h m) rfl
  refine ⟨v, hv, ?_⟩
  rw [run, if_neg (show ¬63 < m by omega)]
  exact ((Keeps.refl _).journalCmd _ _ _ _).complete _ _ _ _ _

/-! ### Sizing -/

theorem InTdc.sizeChannels (h : InTdc s t) (chs : List Nat) : InTdc s (chs.foldl (fun s n =>
    (s.abortWindows n).setCh n { (s.abortWindows n).ch n with sizing := true, histE := [], histF := [] }) t) :=
  Only.foldl _ (fun x n => ((InTdc.refl x).abortWindows n).setCh n _) chs h

theorem State.closeWin_sizing (s : State) (m extra : Nat) : (s.closeWin m extra).tdc.sizing = s.tdc.sizing := by
  unfold State.closeWin
  by_cases h : (s.win m).isOpen = true <;> simp [h, State.setWin_tdc]

theorem State.abortWindows_sizing (s : State) (n : Nat) : (s.abortWindows n).tdc.sizing = s.tdc.sizing := by
  unfold State.abortWindows
  refine foldRange_inv (s := s) (fun x => x.tdc.sizing = s.tdc.sizing) _ rfl (fun x m _ hx => ?_)
  split
  · exact (x.closeWin_sizing m _).trans hx
  · exact hx

theorem State.setCh_sizing (s : State) (n : Nat) (c : TdcCh) : (s.setCh n c).tdc.sizing = s.tdc.sizing := rfl

theorem State.sizeChannels_sizing (s : State) (chs : List Nat) : (chs.foldl (fun s n =>
    (s.abortWindows n).setCh n { (s.abortWindows n).ch n with sizing := true, histE := [], histF := [] }) s).tdc.sizing = s.tdc.sizing := by
  induction chs generalizing s with
  | nil => rfl
  | cons n chs ih =>
    rw [List.foldl_cons, ih, State.setCh_sizing, s.abortWindows_sizing n]

theorem tdcSize_starts (h : Hdr) (mask : Nat) (a : s.Accepts h false 0) (mode : s.mode = 1) (idle : s.tdc.sizing = none) :
    ∃ v, InTdc s v ∧ v.tdc.sizing = none ∧ Keeps [] (if bitsOf 48 mask = [] then v else
      State.puts { v with tdc := { v.tdc with sizing := some ⟨h, bitsOf 48 mask⟩ } } [(TDC.TDC_STATUS_SIZING_RUN, 1), (SIZING.SIZ_STATUS_RUNNING, 1)])
      (s.awake (runTdcSize h mask)) := by
  obtain ⟨v, hv, run, -⟩ := a.elim (g := runTdcSize h mask) rfl
  have sized := State.sizeChannels_sizing v (bitsOf 48 mask)
  have inTdc := (InTdc.of hv).sizeChannels (bitsOf 48 mask)
  rw [run]
  simp only [hv.mode, mode, hv.tdc, idle, ne_eq, not_true_eq_false, if_false, Option.isSome_none, Bool.false_eq_true, List.isEmpty_iff]
  rw [hv.tdc, idle] at sized
  generalize List.foldl _ v _ = x at sized inTdc ⊢
  have journalled : Keeps [] x (x.journalCmd h 0x32 (mask % 2 ^ 64) 0) := (Keeps.refl x).journalCmd _ _ _ _
  refine ⟨_, inTdc.tail journalled, (congrArg TdcSt.sizing journalled.tdc).trans sized, ?_⟩
  split
  · exact (Keeps.refl _).complete _ _ _ _ _
  · exact Keeps.refl _

/-- The sizing item of a channel (R82, Table 20-6). -/
def State.sizedBody (s : State) (n : Nat) : List Byte :=
  let e := histList (s.ch n).histE
  let f := histList (s.ch n).histF
  let gen := s.get (TDC.CH_STAT_GEN n) + 1
  leBytes 4 (ofS 32 (s.chDelay n)) ++ leBytes 4 (s.chU n) ++
    if classA n then inlBytes n ⟨gen, sizeCounts, (List.range 320).map (Config.inlOf n e f)⟩
    else binBytes n ⟨gen, sizeCounts, sizeCounts, tapsUsed e, tapsUsed f, tapEntries e, tapEntries f⟩

/-- A channel has been sized: its item is due, and it measures again. -/
def State.sized (s : State) (n : Nat) (o : Origin) : State :=
  ((s.sizeItem o n s.taiSec (s.sizedBody n)).setCh n { s.ch n with sizing := false, histE := [], histF := [], skip := 0 }).putB (TDC.CH_STAT_SPARED n) false

/-- The sizing goes on with the channels left, or ends. -/
def State.sizesOn (s : State) (cmd : Hdr) (left : List Nat) : State :=
  if left = [] then ({ s with tdc := { s.tdc with sizing := none } } : State).putB TDC.TDC_STATUS_SIZING_RUN false
  else { s with tdc := { s.tdc with sizing := some ⟨cmd, left⟩ } }

theorem tdcSizeDone_sizes (n : Nat) (z : TdcSizing) (awake : s.inReset = false) (running : s.tdc.sizing = some z) (left : n ∈ z.left)
    (full : histTotal (s.ch n).histE = sizeCounts) (full' : histTotal (s.ch n).histF = sizeCounts) (stock : (s.charge 4 3000).isSome = true) :
    ∃ v, Keeps [] s v ∧
      Keeps [] ((v.sized n z.cmd.origin).sizesOn z.cmd (z.left.filter (· != n))) (s.awake (runTdcSizeDone n)) := by
  have begun : ¬((!z.left.contains n || histTotal (s.ch n).histE != sizeCounts || histTotal (s.ch n).histF != sizeCounts) = true) := by
    simp [left, full, full']
  obtain ⟨v, hv, pay, -⟩ := State.tryPay_some stock
  refine ⟨v, hv, ?_⟩
  rw [State.awake_eq awake]
  unfold runTdcSizeDone
  simp only [running]
  rw [if_neg begun, pay]
  unfold State.sizesOn
  simp only [List.isEmpty_iff]
  split
  · exact (Keeps.refl _).complete _ _ _ _ _
  · exact Keeps.refl _

theorem InTdcSiz.sizesOn {s t : State} (h : Only [.tdc, .siz] (regBlock 0x40000 0x80000) s t) (cmd : Hdr) (left : List Nat) :
    Only [.tdc, .siz] (regBlock 0x40000 0x80000) s (t.sizesOn cmd left) :=
  Only.ite' ((h.set_tdc rfl _).putBK _ _ (mem_block (by decide) (by decide))) (h.set_tdc rfl _)

theorem State.sizesOn_siz (s : State) (cmd : Hdr) (left : List Nat) : (s.sizesOn cmd left).siz = s.siz := by unfold State.sizesOn; split <;> rfl

theorem State.sizesOn_sizing (s : State) (cmd : Hdr) (left : List Nat) :
    (s.sizesOn cmd left).tdc.sizing = if left = [] then none else some ⟨cmd, left⟩ := by unfold State.sizesOn; split <;> rfl

theorem State.sizesOn_ch (s : State) (cmd : Hdr) (left : List Nat) (n : Nat) : (s.sizesOn cmd left).ch n = s.ch n := by
  unfold State.sizesOn; split <;> rfl

theorem State.sizesOn_get (s : State) (cmd : Hdr) (left : List Nat) (f : Fld) (off : f.key ≠ TDC.TDC_STATUS_SIZING_RUN.key) :
    (s.sizesOn cmd left).get f = s.get f := by
  unfold State.sizesOn
  split
  · exact State.get_put_other _ _ _ _ off
  · rfl

/-! ### Tables and histograms -/

theorem Keeps.mbData (k : Keeps l s t) (d : List Byte) :
    Keeps l { s with hif := { s.hif with mbData := d } } { t with hif := { t.hif with mbData := d } } :=
  ⟨k.get, congrArg (fun c => ({ c with hif := { c.hif with mbData := d } } : Core)) k.core, k.out⟩

theorem Keeps.chs (k : Keeps l s t) (n : Nat) (c : TdcCh) : Keeps l (s.setCh n c) (t.setCh n c) := by
  unfold State.setCh
  rw [k.tdc]
  exact k.with_tdc _

theorem Keeps.tableBytes (k : Keeps l s t) (n : Nat) : t.tableBytes n = s.tableBytes n := by simp only [State.tableBytes, k.ch]

/-- Data that a command sends to host memory leaves the engine. -/
theorem State.dataOut_host (s : State) (h : Hdr) (op addr : Nat) (b : List Byte) (r : Nat) (ring : h.origin ≠ .mspi) (ok : h.dmaOk = true)
    (range : rangeOk h addr b.length = true) :
    Out.hostWrite addr b ∈ (s.dataOut h op addr b r).out ∧ Keeps [] s (s.dataOut h op addr b r) := by
  simp only [State.dataOut, range, Bool.not_true, Bool.false_eq_true, if_false, ring, ok, if_true]
  exact ⟨((Keeps.refl (l := []) (s.emit (.hostWrite addr b))).complete h op 0 r false).mem (List.mem_cons_self ..),
    ((Keeps.refl _).emit _).complete _ _ _ _ _⟩

/-- Data that a command sends to the mailbox goes to the data window. -/
theorem State.dataOut_mailbox (s : State) (h : Hdr) (op addr : Nat) (b : List Byte) (r : Nat) (mailbox : h.origin = .mspi)
    (range : rangeOk h addr b.length = true) :
    Keeps [] { s with hif := { s.hif with mbData := s.hif.mbData.take addr ++ b ++ s.hif.mbData.drop (addr + b.length) } } (s.dataOut h op addr b r) := by
  simp only [State.dataOut, range, Bool.not_true, Bool.false_eq_true, if_false, mailbox, if_true]
  exact (Keeps.refl _).complete _ _ _ _ _

theorem tdcTableRead_reads (h : Hdr) (n addr : Nat) (a : s.Accepts h true (if classA n then 88 else 104)) (hn : n ≤ 47)
    (enabled : s.flag (TDC.CH_CFG_ENABLE n) = true) :
    ∃ v r, Keeps [] s v ∧ s.awake (runTdcTableRead h n addr) = v.dataOut h 0x33 addr (s.tableBytes n) r := by
  obtain ⟨v, hv, run, -⟩ := a.elim (g := runTdcTableRead h n addr) rfl
  have on : v.flag (TDC.CH_CFG_ENABLE n) = true := (hv.flag _ (noisy_gaps (by simp only [TDC.CH_CFG_ENABLE]; omega))).trans enabled
  refine ⟨v, if classA n then 704 else 832, hv, ?_⟩
  rw [run, if_neg (show ¬(47 < n ∨ v.flag (TDC.CH_CFG_ENABLE n) = false) by simp [on]; omega), hv.tableBytes]

theorem tdcCdcRestart_discards (h : Hdr) (n : Nat) (a : s.Accepts h false 0) (lo : 32 ≤ n) (hi : n ≤ 47) :
    Keeps [] (s.setCh n { s.ch n with histE := [], histF := [] }) (s.awake (runTdcCdcRestart h n)) := by
  obtain ⟨v, hv, run, -⟩ := a.elim (g := runTdcCdcRestart h n) rfl
  rw [run, if_neg (show ¬(n < 32 ∨ 47 < n) by omega), hv.ch]
  exact ((hv.chs n _).journalCmd _ _ _ _).complete _ _ _ _ _

/-! ### Delivery -/

/-- One state is another but for bookkeeping, the records staged for the host, and their counter. -/
def Delivered (s t : State) : Prop :=
  Keeps [TDC.MEAS_DROP_CNT] { s with tdc := { s.tdc with staged := t.tdc.staged, head := t.tdc.head, gap := t.tdc.gap } } t

theorem Delivered.of (k : Keeps [] s t) : Delivered s t := by
  have e : { s with tdc := { s.tdc with staged := t.tdc.staged, head := t.tdc.head, gap := t.tdc.gap } } = s := by rw [k.tdc]
  unfold Delivered
  rw [e]
  exact k.any

theorem Delivered.step (h : Delivered s t) (k : Keeps [TDC.MEAS_DROP_CNT] t u) : Delivered s u := by
  unfold Delivered at h ⊢
  rw [show u.tdc = t.tdc from k.tdc]
  exact h.trans k

theorem Delivered.tail (h : Delivered s t) (k : Keeps [] t u) : Delivered s u := h.step k.any

theorem Delivered.tdc (h : Delivered s t) : t.tdc = { s.tdc with staged := t.tdc.staged, head := t.tdc.head, gap := t.tdc.gap } := Keeps.tdc h

theorem Delivered.set (h : Delivered s t) (a : List MeasRec) (b : Nat) (g : Bool) :
    Delivered s { t with tdc := { t.tdc with staged := a, head := b, gap := g } } := by
  have k := Keeps.with_tdc h { t.tdc with staged := a, head := b, gap := g }
  unfold Delivered
  convert k using 2
  rw [h.tdc]

theorem Delivered.gap (h : Delivered s t) (g : Bool) : Delivered s { t with tdc := { t.tdc with gap := g } } := h.set t.tdc.staged t.tdc.head g

theorem Delivered.inTdc (h : Delivered s t) : InTdc s t :=
  Only.trans (Only.set_tdc (Only.refl s) rfl _)
    ((Keeps.moreK h fun k ⟨d, m, e⟩ => by simp only [List.mem_singleton] at m; subst m; rw [e]; exact mem_block (by decide) (by decide)).only)

theorem Keeps.putMeas (k : Keeps l s t) (i n : Nat) : Keeps l s (t.putMeas i n).2 := by
  induction n generalizing i t with
  | zero => exact k
  | succ n ih =>
    have staged := k.stagePut 1 (t.measSlot i)
    unfold State.putMeas
    split
    · next e => rw [e] at staged; exact ih staged (i + 1)
    · next e => rw [e] at staged; exact staged

theorem Keeps.getMeas (k : Keeps l s t) (i n : Nat) : Keeps l s (t.getMeas i n).2 := by
  induction n generalizing i t with
  | zero => exact k
  | succ n ih =>
    have staged := k.stageGet 1 (t.measSlot i)
    unfold State.getMeas
    split
    · next e => rw [e] at staged; exact ih staged (i + 1)
    · exact staged

theorem Delivered.sendMeas (h : Delivered s t) (n : Nat) (r : MeasRec) (hn : n < 64) : Delivered s (t.sendMeas n r) :=
  (h.gap false).tail ((Keeps.refl _).ringWrite n _ hn)

theorem Delivered.stageMeas (h : Delivered s t) (r : MeasRec) : Delivered s (t.stageMeas r) := by
  have lost {x : State} (hx : Delivered s x) : Delivered s (({ x with tdc := { x.tdc with gap := true } } : State).inc TDC.MEAS_DROP_CNT) :=
    (hx.gap true).step ((Keeps.refl _).incIn _ (by simp))
  unfold State.stageMeas
  dsimp only
  split
  · have staged := h.tail ((Keeps.refl t).putMeas t.stagedEntries r.entries)
    split
    · next x e => rw [e] at staged; exact staged.set _ x.tdc.head x.tdc.gap
    · next e => rw [e] at staged; exact lost staged
  · exact lost h

theorem Delivered.postMeas (h : Delivered s t) (r : MeasRec) : Delivered s (t.postMeas r) := by
  unfold State.postMeas
  split
  · next n e =>
    split
    · split
      · next x paid => exact (h.tail ((Keeps.refl _).charge paid)).sendMeas n r (State.ringOf_lt e)
      · exact h.stageMeas r
    · exact h.stageMeas r
  · exact h.stageMeas r

theorem Delivered.drainMeas (h : Delivered s t) (k : Nat) : Delivered s (t.drainMeas k) := by
  induction k generalizing t with
  | zero => exact h
  | succ k ih =>
    unfold State.drainMeas
    split
    · next n r rs ring staged =>
      have hn := State.ringOf_lt ring
      split
      · split
        · next x paid =>
          have got := h.tail (((Keeps.refl _).charge paid).getMeas 0 r.entries)
          dsimp only
          split
          · exact ih ((got.set rs _ _).sendMeas n r hn)
          · exact got.tail ((Keeps.refl _).ringHalt n 3 hn)
          · exact ih (got.set rs _ true)
        · exact h
      · exact h.tail ((Keeps.refl t).putB _ _ (.hif_ring_stat_full n hn))
    · exact h

/-- The records of the sheets before the present one leave the windows. -/
def State.collect (s : State) : State :=
  { s with tdc := { s.tdc with
    closed := s.tdc.closed.filter (fun r => !decide (r.sheet < s.sheetNo)),
    inbox := (s.tdc.closed.filter (fun r => decide (r.sheet < s.sheetNo))).filter (fun r => r.owner != 0) } }

theorem measDelivery_delivers (s : State) : ∃ v, Ran s.collect v ∧ Delivered v (runMeasDeliverySlice s) := by
  unfold runMeasDeliverySlice
  refine ⟨s.collect.atSheetTime (nsU 250), s.collect.advanceTo_ran _, ?_⟩
  have charged {x : State} (n : Nat) : Delivered x (x.charge0 n) := Delivered.of ((Keeps.refl x).charge0 n)
  have posts (rs : List MeasRec) {x y : State} (h : Delivered x y) : Delivered x (rs.foldl (fun s r => s.postMeas r) y) := by
    induction rs generalizing y with
    | nil => exact h
    | cons r rs ih => exact ih (h.postMeas r)
  exact posts _ ((charged _).drainMeas _)

/-! ### The statement -/

/-- Settles O8. -/
theorem measurementCommandsComplete : Obligations.MeasurementCommandsComplete := by
  refine ⟨?_, ?_, ?_, ?_, ?_, ?_, ?_, ?_, ?_⟩
  · intro s h m a hm arm shut _
    obtain ⟨v, w, hv, after⟩ := measArm_now h m a hm arm shut
    exact ⟨_, rfl, (after.settle.flag _ (winStatOpen_quiet hm)).trans (v.armWin_open m w false),
      ((InTdc.of hv).armWin m w false (by omega)).tail after.settle⟩
  · intro s h m target a hm arm shut _ later ok late
    obtain ⟨v, hv, after⟩ := measArm_later h m target a hm arm shut later ok late
    refine ⟨_, rfl, (after.settle.flag _ (winStatPending_quiet hm)).trans (State.setWin_pending _ _ _), ?_, ?_⟩
    · rw [after.settle.tdc, State.setWin_tdc, hv.tdc]
    · have wide : Only [.tdc] (regBlock 0x40000 0x80000 ++ [SHEET.LATE_CNT]) s v :=
        Only.more hv.only fun k ⟨d, m, e⟩ => ⟨d, List.mem_append_right _ m, e⟩
      refine Only.tail ?_ after.settle.any
      exact (wide.set_tdc rfl _).putsK _ fun p hp =>
        have ⟨d, hd, e⟩ := mem_block (winStat_inTdc m (by omega) _ _ _ p hp).1 (winStat_inTdc m (by omega) _ _ _ p hp).2
        ⟨d, List.mem_append_left _ hd, e⟩
  · intro s h m a hm
    obtain ⟨v, hv, after⟩ := measDisarm_disarms h m a hm
    obtain ⟨shut, free⟩ := (v.put (TDC.WIN_CFG_ARM m) 0).disarmWin_shut m
    refine ⟨_, rfl, ?_, (after.settle.flag _ (winStatOpen_quiet hm)).trans shut, (after.settle.flag _ (winStatPending_quiet hm)).trans free, ?_, ?_⟩
    · rw [after.settle.read _ (winCfgArm_quiet hm), State.disarmWin_arm, State.get_put_same]
      exact Nat.zero_mod _
    · have number : (v.put (TDC.WIN_CFG_ARM m) 0).sheetNo = s.sheetNo :=
        (State.get_put_other _ _ _ _ (by simp only [SHEET.SHEET_NUM, TDC.WIN_CFG_ARM]; omega)).trans hv.sheetNo
      have window : (v.put (TDC.WIN_CFG_ARM m) 0).win m = s.win m := hv.win m
      rw [after.settle.tdc, State.disarmWin_closed, number, window, State.put_tdc, hv.tdc]
    · exact (((InTdc.of hv).put _ _ (by simp only [TDC.WIN_CFG_ARM]; omega) (by simp only [TDC.WIN_CFG_ARM]; omega)).disarmWin m (by omega)).tail
        after.settle
  · intro s h mask a mode idle
    obtain ⟨v, hv, sized, after⟩ := tdcSize_starts h mask a mode idle
    have settled := after.settle
    refine ⟨_, rfl, ?_, fun some => ?_, ?_⟩
    · rw [settled.tdc]
      split
      · exact sized
      · rfl
    · rw [settled.flag _ (by decide), if_neg some]
      exact (congrArg (· != 0) (State.get_put_other _ _ _ _ (by decide))).trans (State.flag_putB_same _ TDC.TDC_STATUS_SIZING_RUN true rfl)
    · refine InTdc.tail ?_ settled
      have run := (hv.setTdc { v.tdc with sizing := some ⟨h, bitsOf 48 mask⟩ }).put TDC.TDC_STATUS_SIZING_RUN 1 (by decide) (by decide)
      exact InTdc.ite hv (run.tail ((Keeps.refl _).put _ _ .sizing_siz_status_running))
  · intro s n z awake running hn left full full' stock
    obtain ⟨v, hv, after⟩ := tdcSizeDone_sizes n z awake running left full full' stock
    have settled := after.settle
    have there : n < s.tdc.chans.length := by
      by_contra gone
      have none : s.ch n = {} := by simp [State.ch, nth, Nat.le_of_not_lt gone]
      rw [none] at full
      exact absurd full (by decide)
    have ch : ((v.sized n z.cmd.origin).sizesOn z.cmd (z.left.filter (· != n))).ch n = { v.ch n with sizing := false, histE := [], histF := [], skip := 0 } := by
      rw [State.sizesOn_ch]
      exact nth_setNth_same _ _ _ _ (by rw [show (v.sizeItem _ _ _ _).tdc = s.tdc from hv.tdc]; exact there)
    have due : ∃ item, ((v.sized n z.cmd.origin).sizesOn z.cmd (z.left.filter (· != n))).siz.due = s.siz.due ++ [item] := by
      rw [State.sizesOn_siz]
      exact ⟨_, congrArg (fun x : SizSt => x.due ++ _) hv.siz⟩
    obtain ⟨item, due⟩ := due
    refine ⟨_, rfl, ?_, ?_, ?_, ?_, ?_, ?_, ?_, ?_⟩
    · rw [settled.tdc, State.sizesOn_sizing]
    · rw [settled.ch, ch]
    · rw [settled.ch, ch]
    · rw [settled.ch, ch]
    · have quiet : noisy (TDC.CH_STAT_SPARED n).key = false := noisy_gaps (by simp only [TDC.CH_STAT_SPARED]; omega)
      rw [settled.flag _ quiet, State.flag, State.sizesOn_get _ _ _ _ (by simp only [TDC.CH_STAT_SPARED, TDC.TDC_STATUS_SIZING_RUN]; omega)]
      exact State.flag_putB_same _ (TDC.CH_STAT_SPARED n) false rfl
    · rw [settled.siz, due, List.length_append, List.length_singleton]
    · rw [settled.siz, due]
      exact List.prefix_append _ _
    · refine Only.tail (InTdcSiz.sizesOn ?_ _ _) settled.any
      exact (((Keeps.only0 hv).set_siz rfl _).set_tdc rfl _).putBK _ _
        (mem_block (by simp only [TDC.CH_STAT_SPARED]; omega) (by simp only [TDC.CH_STAT_SPARED]; omega))
  · intro s h n addr a hn enabled ring ok range
    obtain ⟨v, r, hv, run⟩ := tdcTableRead_reads h n addr a hn enabled
    obtain ⟨out, kept⟩ := v.dataOut_host h 0x33 addr (s.tableBytes n) r ring ok range
    rw [← run] at out kept
    exact ⟨_, rfl, (State.settle_kept _).mem out, (hv.trans kept).settle⟩
  · intro s h n addr a hn enabled mailbox range
    obtain ⟨v, r, hv, run⟩ := tdcTableRead_reads h n addr a hn enabled
    have kept := v.dataOut_mailbox h 0x33 addr (s.tableBytes n) r mailbox range
    rw [← run, hv.hif_mbData] at kept
    exact ⟨_, rfl, ((hv.mbData _).trans kept).settle⟩
  · intro s h n a lo hi
    exact ⟨_, rfl, (tdcCdcRestart_discards h n a lo hi).settle⟩
  · intro s awake running
    obtain ⟨v, ran, done⟩ := measDelivery_delivers s
    rw [← State.clocked_eq awake running runMeasDeliverySlice] at done
    have settled := (s.clocked runMeasDeliverySlice).settle_kept
    have whole : (s.clocked runMeasDeliverySlice).tdc.closed = s.collect.tdc.closed ∧ (s.clocked runMeasDeliverySlice).tdc.inbox = s.collect.tdc.inbox := by
      rw [done.tdc, Only.tdc ran rfl]
      exact ⟨rfl, rfl⟩
    refine ⟨_, rfl, ?_, ?_, ?_⟩
    · rw [settled.tdc]; exact whole.1
    · rw [settled.tdc]; exact whole.2
    · have wide {x y : State} (o : InTdc x y) : Only [.tdc, .time] (regBlock 0x30000 0x80000) x y :=
        Only.parts o (by decide) fun _ m => regBlock_sub (by decide) (by decide) m
      have timed : Only [.tdc, .time] (regBlock 0x30000 0x80000) s.collect v :=
        Only.parts ran (by decide) fun k ⟨d, m, e⟩ => by
          simp only [timeFields, List.mem_cons, List.not_mem_nil, or_false] at m
          rcases m with rfl | rfl | rfl <;> exact e ▸ mem_block (by decide) (by decide)
      exact (((Only.set_tdc (Only.refl s) rfl _).trans timed).trans (wide done.inTdc)).tail settled.any

end Sys2Proof.Machine
end

section
/-! The DLLs and the bin tables of the time-interval channels. -/

namespace Sys2Proof.Machine

variable {l : List Fld} {s t u : State}

/-! ### Lines -/

theorem InTdc.showDll (h : InTdc s t) (n : Nat) (hn : n < 32) : InTdc s (t.showDll n) := by
  refine (h.puts _ ?_).put _ _ (by decide) (by decide)
  simp only [List.forall_mem_cons, List.not_mem_nil, TDC.CH_STAT_CAL_STATE, TDC.CH_STAT_CAL_OK, TDC.CH_DLL_COARSE, TDC.CH_DLL_FINE, TDC.CH_DLL_COARSE_F]
  exact ⟨by omega, by omega, by omega, by omega, by omega, fun _ x => x.elim⟩

theorem InTdc.setLine (h : InTdc s t) (n : Nat) (line : Bool) (x : LineSt) (hn : n < 32) : InTdc s (t.setLine n line x) :=
  (h.setCh n _).showDll n hn

/-- A line shows itself in none of the counters of the block. -/
theorem State.setLine_get (s : State) (n : Nat) (line : Bool) (x : LineSt) (f : Fld) (lo : TDC.CAL_OK_A.key < f.key) (hi : f.key < 32 * 0x40100) :
    (s.setLine n line x).get f = s.get f := by
  simp only [TDC.CAL_OK_A] at lo
  simp only [State.setLine, State.showDll, State.puts]
  rw [State.get_put_other, State.get_put_other, State.get_put_other, State.get_put_other, State.get_put_other, State.get_put_other]
  · rfl
  all_goals simp only [TDC.CAL_OK_A, TDC.CH_STAT_CAL_STATE, TDC.CH_STAT_CAL_OK, TDC.CH_DLL_COARSE, TDC.CH_DLL_FINE, TDC.CH_DLL_COARSE_F]; omega

theorem classA_of_lt {n : Nat} (h : n < 32) : classA n = true := by simp [classA, h]

theorem dllSearchDone_eq (n coarse : Nat) (line : Bool) (hn : n < 32) (search : (s.line n line).dll = 1) :
    runDllSearchDone n line coarse s = s.setLine n line { s.line n line with dll := 2, coarse := coarse % 1024 } := by
  simp [runDllSearchDone, classA_of_lt hn, search]

theorem dllLock_eq (n fine : Nat) (line : Bool) (hn : n < 32) (track : (s.line n line).dll = 2) :
    runDllLock n line fine s =
      (s.setLine n line { s.line n line with dll := 3, fine := fine % 64, outSheets := 0, fault := false }).event 0x0301 n 3 := by
  simp [runDllLock, classA_of_lt hn, track]

theorem dllUnlock_eq (n : Nat) (line : Bool) (hn : n < 32) (locked : (s.line n line).dll = 3) :
    runDllUnlock n line s = ((s.setLine n line { s.line n line with dll := 2 }).inc TDC.DLL_UNLOCK_CNT).event 0x0302 n 2 := by
  simp [runDllUnlock, classA_of_lt hn, locked]

theorem dllTrackTimeout_eq (n : Nat) (line fineEnd : Bool) (hn : n < 32) (track : (s.line n line).dll = 2) :
    runDllTrackTimeout n line fineEnd s = if fineEnd = true then s.setLine n line { s.line n line with dll := 1 }
      else (s.setLine n line { s.line n line with dll := 1 }).inc TDC.DLL_FAIL_CNT := by
  simp [runDllTrackTimeout, classA_of_lt hn, track]

theorem tdcDllFault_eq (n : Nat) (line : Bool) (hn : n < 32) (long : 8 < (s.line n line).outSheets) :
    runTdcDllFault n line s =
      (s.setLine n line { s.line n line with fault := true }).addCandidate 3 (2 * n + (if line then 1 else 0)) 0 := by
  simp [runTdcDllFault, classA_of_lt hn, long]

/-- A unit is a candidate after it became one, or is retired. -/
theorem State.addCandidate_mem (s : State) (target unit column : Nat) :
    (target, unit, column) ∈ (s.addCandidate target unit column).spare.cands ∨ (target, unitKey target unit column) ∈ s.spare.retired := by
  by_cases known : s.spare.cands.any (fun c => c.1 == target && c.2.1 == unit && c.2.2 == column) = true
  · left
    obtain ⟨⟨a, b, c⟩, m, e⟩ := List.any_eq_true.1 known
    simp only [Bool.and_eq_true, beq_iff_eq] at e
    obtain ⟨⟨rfl, rfl⟩, rfl⟩ := e
    simp only [State.addCandidate, known, Bool.true_or, if_true]
    exact m
  · by_cases retired : s.spare.retired.contains (target, unitKey target unit column) = true
    · exact .inr (List.contains_iff_mem.1 retired)
    · left
      rw [Bool.not_eq_true] at known retired
      simp only [State.addCandidate, known, retired, Bool.or_self, Bool.false_eq_true, if_false]
      exact List.mem_append_right _ (List.mem_singleton_self _)

theorem State.addCandidate_tdc (s : State) (target unit column : Nat) : (s.addCandidate target unit column).tdc = s.tdc := by
  unfold State.addCandidate
  split <;> rfl

/-! ### Tables -/

/-- Whether a line has enough taps in use (R79). -/
def tapsOk (h : List (Nat × Nat)) : Bool := decide (150 ≤ tapsUsed (histList h)) && decide (tapsUsed (histList h) ≤ 190)

/-- The table that a channel's histograms give (R79). -/
def TdcCh.newTable (c : TdcCh) : BinTable :=
  ⟨(c.bin.map (·.gen)).getD 0 + 1, histTotal c.histE, histTotal c.histF, tapsUsed (histList c.histE), tapsUsed (histList c.histF),
    tapEntries (histList c.histE), tapEntries (histList c.histF)⟩

theorem cdcTableCompute_eq (n : Nat) (awake : s.inReset = false) (lo : 32 ≤ n) (hi : n ≤ 47)
    (fullE : 2 ^ s.get TDC.TDC_CFG_CAL_TARGET_LOG2 ≤ histTotal (s.ch n).histE)
    (fullF : 2 ^ s.get TDC.TDC_CFG_CAL_TARGET_LOG2 ≤ histTotal (s.ch n).histF) (stock : (s.charge 4 3000).isSome = true) :
    ∃ v, Keeps [] s v ∧ Keeps [] (if (tapsOk (s.ch n).histE && tapsOk (s.ch n).histF) = true then
        (v.setCh n { s.ch n with histE := [], histF := [] }).setCh n
          { (v.setCh n { s.ch n with histE := [], histF := [] }).ch n with due := some (s.ch n).newTable }
      else v.setCh n { s.ch n with histE := [], histF := [] }) (s.awake (runCdcTableCompute n)) := by
  have begun : ¬((classA n || decide (47 < n) || decide (histTotal (s.ch n).histE < 2 ^ s.get TDC.TDC_CFG_CAL_TARGET_LOG2) ||
      decide (histTotal (s.ch n).histF < 2 ^ s.get TDC.TDC_CFG_CAL_TARGET_LOG2)) = true) := by
    simp only [classA, Bool.or_eq_true, decide_eq_true_eq]
    omega
  obtain ⟨v, hv, pay, -⟩ := State.tryPay_some stock
  refine ⟨v, hv, ?_⟩
  rw [State.awake_eq awake]
  unfold runCdcTableCompute
  dsimp only
  rw [if_neg begun, pay]
  unfold tapsOk
  split
  · exact Keeps.refl _
  · exact (Keeps.refl _).event _ _ _

/-- Settles O10. -/
theorem calibrationEventsComplete : Obligations.CalibrationEventsComplete := by
  refine ⟨?_, ?_, ?_, ?_, ?_, ?_⟩
  · intro s n coarse line awake hn search
    have settled := (s.awake (runDllSearchDone n line coarse)).settle_kept
    rw [State.awake_eq awake, dllSearchDone_eq n coarse line hn search] at settled
    refine ⟨_, rfl, ?_, ?_⟩ <;> rw [State.awake_eq awake, dllSearchDone_eq n coarse line hn search]
    · exact settled.tdc
    · exact ((InTdc.refl s).setLine n line _ hn).tail settled
  · intro s n fine line awake hn track
    have kept := ((Keeps.refl (l := []) (s.setLine n line { s.line n line with dll := 3, fine := fine % 64, outSheets := 0, fault := false })).event
      0x0301 n 3).settle
    refine ⟨_, rfl, ?_, ?_⟩ <;> rw [State.awake_eq awake, dllLock_eq n fine line hn track]
    · exact kept.tdc
    · exact ((InTdc.refl s).setLine n line _ hn).tail kept
  · intro s n line awake hn locked
    have kept := ((Keeps.refl (l := []) ((s.setLine n line { s.line n line with dll := 2 }).inc TDC.DLL_UNLOCK_CNT)).event 0x0302 n 2).settle
    refine ⟨_, rfl, ?_, ?_, ?_⟩ <;> rw [State.awake_eq awake, dllUnlock_eq n line hn locked]
    · exact kept.tdc.trans ((Keeps.refl _).incIn (l := [TDC.DLL_UNLOCK_CNT]) _ (by simp)).tdc
    · rw [kept.read _ (by decide), State.inc, State.incBy_get _ _ _ rfl (by decide), State.setLine_get _ _ _ _ _ (by decide) (by decide)]
    · exact (((InTdc.refl s).setLine n line _ hn).inc _ (by decide) (by decide)).tail kept
  · intro s n line fineEnd awake hn track
    have settled := (runDllTrackTimeout n line fineEnd s).settle_kept
    refine ⟨_, rfl, ?_, ?_, ?_⟩ <;> rw [State.awake_eq awake]
    all_goals rw [dllTrackTimeout_eq n line fineEnd hn track] at settled ⊢; cases fineEnd
    · exact settled.tdc.trans ((Keeps.refl _).incIn (l := [TDC.DLL_FAIL_CNT]) _ (by simp)).tdc
    · exact settled.tdc
    · exact (settled.read _ (by decide)).trans
        ((State.incBy_get _ _ _ rfl (by decide)).trans (by rw [State.setLine_get _ _ _ _ _ (by decide) (by decide)]; rfl))
    · exact (settled.read _ (by decide)).trans (State.setLine_get _ _ _ _ _ (by decide) (by decide))
    · exact (((InTdc.refl s).setLine n line _ hn).inc _ (by decide) (by decide)).tail settled
    · exact ((InTdc.refl s).setLine n line _ hn).tail settled
  · intro s n line awake hn long
    have settled := (runTdcDllFault n line s).settle_kept
    refine ⟨_, rfl, ?_, ?_, ?_⟩ <;> rw [State.awake_eq awake]
    all_goals rw [tdcDllFault_eq n line hn long] at settled ⊢
    · exact settled.tdc.trans (State.addCandidate_tdc _ _ _ _)
    · rw [settled.spare]
      exact State.addCandidate_mem _ _ _ _
    · refine Only.tail ?_ settled.any
      have lined : Only [.tdc, .spare] (regBlock 0x40000 0x80000) s (s.setLine n line { s.line n line with fault := true }) :=
        Only.parts ((InTdc.refl s).setLine n line _ hn) (by decide) fun _ m => m
      unfold State.addCandidate
      exact Only.ite' lined (lined.set_spare rfl _)
  · intro s n awake lo hi fullE fullF stock
    obtain ⟨v, hv, after⟩ := cdcTableCompute_eq n awake lo hi fullE fullF stock
    have settled := after.settle
    have there : n < v.tdc.chans.length := by
      by_contra gone
      have none : s.ch n = {} := by rw [← hv.ch]; simp [State.ch, nth, Nat.le_of_not_lt gone]
      rw [none] at fullE
      exact absurd fullE (by simp [histTotal])
    have first : (v.setCh n { s.ch n with histE := [], histF := [] }).ch n = { s.ch n with histE := [], histF := [] } := nth_setNth_same _ _ _ _ there
    have second (c : TdcCh) : ((v.setCh n { s.ch n with histE := [], histF := [] }).setCh n c).ch n = c :=
      nth_setNth_same _ _ _ _ (by simpa [State.setCh, setNth] using there)
    refine ⟨_, rfl, ?_, ?_, ?_, ?_⟩
    · rw [settled.ch]
      split
      · rw [second, first]
      · rw [first]
    · rw [settled.ch]
      split
      · rw [second, first]
      · rw [first]
    · intro e0 e1 f0 f1
      have ok : (tapsOk (s.ch n).histE && tapsOk (s.ch n).histF) = true := by simp [tapsOk, e0, e1, f0, f1]
      rw [settled.ch, if_pos ok, second]
      exact ⟨rfl, rfl⟩
    · refine Only.tail ?_ settled
      exact Only.ite' ((hv.only.set_tdc rfl _).set_tdc rfl _) (hv.only.set_tdc rfl _)

end Sys2Proof.Machine
end

section
/-! Searches start, end, deliver and hand off. -/

namespace Sys2Proof.Machine

variable {l : List Fld} {s t u : State}

/-- A channel's register of the tracking block, which bookkeeping leaves alone. -/
theorem gnssc_quiet (f : Fld) (lo : 25165824 ≤ f.key) (hi : f.key < 33554432) : noisy f.key = false := noisy_gaps (by omega)

/-! ### What a search shows -/

theorem State.setSearch_gnss (s : State) (i : Nat) (r : Option Search) :
    (s.setSearch i r).gnss = { s.gnss with searches := setNth s.gnss.searches i r } := rfl

theorem Keeps.setSearch (k : Keeps l s t) (i : Nat) (r : Option Search) (m : GNSSF.GNSSF_STATUS_ACQ_BUSY ∈ l) :
    Keeps l { s with gnss := { s.gnss with searches := setNth s.gnss.searches i r } } (t.setSearch i r) := by
  unfold State.setSearch State.showSearches
  rw [k.gnss]
  exact (k.with_gnss _).putIn _ _ m

theorem Keeps.postAcq (k : Keeps l s t) (r : AcqRes) : Keeps l s (t.postAcq r) := ((k.charge0 10).flushDue).sendDesc _

theorem Keeps.autoSearches (k : Keeps [] s t) : t.autoSearches = s.autoSearches := by
  simp only [State.autoSearches, k.flag GNSSF.ALLOC_CFG_AUTO (by decide), k.read GNSSF.ACQ_CFG (by decide)]

theorem Keeps.acqArgsOk (k : Keeps [] s t) (a : AcqArgs) : t.acqArgsOk a = s.acqArgsOk a := by
  simp only [State.acqArgsOk, State.bandEn, k.flag GNSSF.PORT_CFG_A_EN (by decide), k.flag GNSSF.PORT_CFG_B_EN (by decide)]

theorem sclkOk_quiet (b : Nat) (h : b ≤ 1) : noisy (GNSSF.BAND_STAT_SCLK_OK b).key = false :=
  noisy_gaps (by simp only [GNSSF.BAND_STAT_SCLK_OK]; omega)

theorem sigBand_le (c : Nat) : sigBand c ≤ 1 := by unfold sigBand; split <;> omega

/-- The search that a set of arguments starts (R103). -/
def State.newSearch (s : State) (a : AcqArgs) (auto : Bool) : Search :=
  Search.mk auto a.signal a.sv a.k a.channel a.thresh a.tag a.doppler a.span a.step (!s.flag (GNSSF.BAND_STAT_SCLK_OK (sigBand a.signal))) (searchSheets a)

theorem Keeps.startSearch (k : Keeps [] s t) (i : Nat) (a : AcqArgs) (auto : Bool) : Keeps [GNSSF.GNSSF_STATUS_ACQ_BUSY]
    { s with gnss := { s.gnss with searches := setNth s.gnss.searches i (some (s.newSearch a auto)) } } (t.startSearch i a auto) := by
  unfold State.newSearch
  rw [← k.flag _ (sclkOk_quiet _ (sigBand_le a.signal))]
  exact k.any.setSearch i _ (by simp)

/-- The frame of a search that starts or ends. -/
theorem Keeps.searched {x : GnssSt} (k : Keeps l { s with gnss := x } t) : t.gnss = x ∧ Only [.gnss] l s t :=
  ⟨k.gnss, ((Only.refl s).set_gnss rfl x).tail k⟩

/-! ### Commands -/

theorem acqStart_starts (h : Hdr) (a : AcqArgs) (i : Nat) (acc : s.Accepts h false 0) (ok : s.acqArgsOk a = true)
    (free : (List.range (8 - s.autoSearches)).find? (fun i => (nth s.gnss.searches i none).isNone) = some i) :
    Keeps [GNSSF.GNSSF_STATUS_ACQ_BUSY] { s with gnss := { s.gnss with searches := setNth s.gnss.searches i (some (s.newSearch a false)) } }
      (s.awake (runAcqStart h a)) := by
  obtain ⟨v, hv, run, -⟩ := acc.elim (g := runAcqStart h a) rfl
  rw [run]
  simp only [hv.acqArgsOk, ok, Bool.not_true, Bool.false_eq_true, if_false, hv.autoSearches, hv.gnss, free]
  exact ((hv.startSearch i a false).journalCmd _ _ _ _).complete _ _ _ _ _

theorem acqAbort_aborts (h : Hdr) (i : Nat) (acc : s.Accepts h false 0) (runs : (nth s.gnss.searches i none).isSome = true) :
    ∃ v, Keeps [GNSSF.GNSSF_STATUS_ACQ_BUSY] { s with gnss := { s.gnss with searches := setNth s.gnss.searches i none } } v ∧
      Keeps [] (v.inc GNSSF.ACQ_CNT) (s.awake (runAcqAbort h i)) := by
  obtain ⟨v, hv, run, -⟩ := acc.elim (g := runAcqAbort h i) rfl
  obtain ⟨r, found⟩ := Option.isSome_iff_exists.1 runs
  rw [run]
  simp only [hv.gnss, found]
  exact ⟨_, (hv.any.setSearch i none (by simp)).postAcq _, ((Keeps.refl _).journalCmd _ _ _ _).complete _ _ _ _ _⟩

/-! ### Results -/

/-- The state in which the result of a search is posted. -/
def State.searchEnds (s : State) (i : Nat) : State := (s.setSearch i none).inc GNSSF.ACQ_CNT

theorem State.searchEnds_kept (s : State) (i : Nat) : Keeps [GNSSF.GNSSF_STATUS_ACQ_BUSY, GNSSF.ACQ_CNT]
    { s with gnss := { s.gnss with searches := setNth s.gnss.searches i none } } (s.searchEnds i) :=
  ((Keeps.refl s).setSearch i none (by simp)).incIn _ (by simp)

theorem State.searchEnds_count (s : State) (i : Nat) : (s.searchEnds i).get GNSSF.ACQ_CNT = min (s.get GNSSF.ACQ_CNT + 1) (2 ^ 48 - 1) := by
  refine (State.incBy_get _ _ _ rfl (by decide)).trans ?_
  rw [show (s.setSearch i none).get GNSSF.ACQ_CNT = s.get GNSSF.ACQ_CNT from State.get_put_other _ _ _ _ (by decide)]

theorem State.searchEnds_flag (s : State) (i : Nat) (f : Fld) (lo : 25165824 ≤ f.key) (hi : f.key < 33554432) :
    (s.searchEnds i).flag f = s.flag f :=
  congrArg (· != 0) ((s.searchEnds_kept i).get f (gnssc_quiet f lo hi)
    (by simp only [List.forall_mem_cons, List.not_mem_nil, GNSSF.GNSSF_STATUS_ACQ_BUSY, GNSSF.ACQ_CNT]; exact ⟨by omega, by omega, fun _ x => x.elim⟩))

theorem State.searchEnds_enabledChans (s : State) (i : Nat) : (s.searchEnds i).enabledChans = s.enabledChans := by
  unfold State.enabledChans
  congr 1
  refine List.filter_congr fun n hn => s.searchEnds_flag i _ ?_ ?_ <;>
    · have := List.mem_range.1 hn
      simp only [GNSSC.CH_CTRL_ENABLE]
      omega

theorem State.searchEnds_chanFree (s : State) (i n : Nat) (hn : n < 136) : (s.searchEnds i).chanFree n = s.chanFree n := by
  simp only [State.chanFree, (s.searchEnds_kept i).gnss]
  rw [s.searchEnds_flag i _ (by simp only [GNSSC.CH_CTRL_ENABLE]; omega) (by simp only [GNSSC.CH_CTRL_ENABLE]; omega),
    s.searchEnds_flag i _ (by simp only [GNSSC.CH_STAT_RETIRED]; omega) (by simp only [GNSSC.CH_STAT_RETIRED]; omega)]

/-- A found signal's handoff, where its named channel is free (R104). -/
theorem State.searchEnds_handTo (s : State) (i : Nat) (r : Search) (room : s.enabledChans + s.gnss.handoffs.length < 128) (byHost : r.auto = false)
    (named : r.channel < 136) (free : s.chanFree r.channel = true) : (s.searchEnds i).handTo r = some r.channel := by
  simp only [State.handTo, s.searchEnds_enabledChans, (s.searchEnds_kept i).gnss, byHost, s.searchEnds_chanFree i _ named, free,
    if_neg (show ¬128 ≤ s.enabledChans + s.gnss.handoffs.length by omega), if_neg (show ¬r.channel = 255 by omega), Bool.false_eq_true, false_and,
    if_false, if_true]

/-- The handoff that a found signal gives. -/
def Search.handoff (r : Search) (a : AcqIn) : Handoff :=
  ⟨r.channel, r.signal, r.sv, r.k, a.epoch % 2 ^ 64, a.codePhase, r.doppler + a.eighths * (32 * (r.step : Int)), r.auto⟩

theorem acqResult_posts (i : Nat) (a : AcqIn) (r : Search) (found : nth s.gnss.searches i none = some r) (full : r.left = 0)
    (lo : -(8 * (r.span / r.step : Nat) : Int) ≤ a.eighths) (hi : a.eighths ≤ (8 * (r.span / r.step : Nat) : Int)) :
    ∃ v, Keeps [GNSSF.SV_NO_CHANNEL_CNT] (s.searchEnds i) v ∧ ∃ hs, Keeps [] { v with gnss := { v.gnss with handoffs := hs } } (runAcqResult i a s) ∧
      (r.fell = true ∨ a.pnr ≤ r.thresh ∨ r.channel = 254 → hs = s.gnss.handoffs) ∧
      (r.fell = false → r.thresh < a.pnr → r.channel < 136 → s.chanFree r.channel = true → r.auto = false →
        s.enabledChans + s.gnss.handoffs.length < 128 → hs = s.gnss.handoffs ++ [r.handoff a]) := by
  have ends : (s.searchEnds i).gnss.handoffs = s.gnss.handoffs := by rw [(s.searchEnds_kept i).gnss]
  have begun : ¬(r.left ≠ 0 ∨ a.eighths < -(8 * (r.span / r.step : Nat) : Int) ∨ (8 * (r.span / r.step : Nat) : Int) < a.eighths) := by omega
  have posted {x : State} (e : x.gnss.handoffs = s.gnss.handoffs) (q : AcqRes) :
      Keeps [] { x with gnss := { x.gnss with handoffs := s.gnss.handoffs } } (x.postAcq q) := by
    rw [← e]
    exact (Keeps.refl x).postAcq q
  unfold runAcqResult
  simp only [found]
  rw [if_neg begun]
  by_cases other : (if r.fell = true then 3 else if r.thresh < a.pnr then 0 else 1) ≠ 0 ∨ r.channel = 254
  · rw [if_pos other]
    refine ⟨_, Keeps.refl _, _, posted ends _, fun _ => rfl, fun fell strong named _ _ _ => ?_⟩
    rcases other with other | other
    · exact absurd (by simp [fell, strong]) other
    · omega
  · rw [if_neg other]
    have present : r.fell = false ∧ r.thresh < a.pnr ∧ r.channel ≠ 254 := by
      rw [not_or, not_not] at other
      obtain ⟨status, named⟩ := other
      split at status
      · cases status
      · next fell =>
        split at status
        · next strong => exact ⟨by simpa using fell, strong, named⟩
        · cases status
    have never (x : r.fell = true ∨ a.pnr ≤ r.thresh ∨ r.channel = 254) : False := by
      obtain ⟨fell, strong, named⟩ := present
      rcases x with x | x | x
      · rw [fell] at x; cases x
      · omega
      · exact named x
    split
    · next none =>
      have counted := (Keeps.refl (l := [GNSSF.SV_NO_CHANNEL_CNT]) (s.searchEnds i)).incIn GNSSF.SV_NO_CHANNEL_CNT (by simp)
      refine ⟨_, counted, _, posted ((congrArg GnssSt.handoffs counted.gnss).trans ends) _, fun x => (never x).elim, fun _ _ named free byHost room => ?_⟩
      exact absurd ((s.searchEnds_handTo i r room byHost named free).symm.trans none) (by simp)
    · next ch some =>
      refine ⟨_, Keeps.refl _, _, (Keeps.refl _).postAcq _, fun x => (never x).elim, fun _ _ named free byHost room => ?_⟩
      obtain rfl : r.channel = ch := Option.some.inj ((s.searchEnds_handTo i r room byHost named free).symm.trans some)
      exact congrArg (· ++ _) ends

/-- Settles O11. -/
theorem acquisitionCommandsComplete : Obligations.AcquisitionCommandsComplete := by
  refine ⟨?_, ?_, ?_, ?_⟩
  · intro s h a i acc ok free
    exact ⟨_, rfl, (acqStart_starts h a i acc ok free).settle.searched⟩
  · intro s h i acc runs
    obtain ⟨v, hv, after⟩ := acqAbort_aborts h i acc runs
    have count : v.get GNSSF.ACQ_CNT = s.get GNSSF.ACQ_CNT := hv.get _ (by decide) (by decide)
    have kept : Keeps [GNSSF.GNSSF_STATUS_ACQ_BUSY, GNSSF.ACQ_CNT] { s with gnss := { s.gnss with searches := setNth s.gnss.searches i none } }
        (s.awake (runAcqAbort h i)).settle := ((hv.more (by simp)).incIn _ (by simp)).trans after.settle.any
    obtain ⟨gnss, only⟩ := kept.searched
    exact ⟨_, rfl, gnss, (after.settle.read _ (by decide)).trans ((State.incBy_get _ _ _ rfl (by decide)).trans (by rw [count])), only⟩
  · intro s i a r awake found full lo hi
    obtain ⟨v, hv, hs, after, same, promised⟩ := acqResult_posts i a r found full lo hi
    have settled := after.settle
    rw [← State.awake_eq awake (runAcqResult i a)] at settled
    refine ⟨_, rfl, ?_, ?_, ?_, ?_, ?_⟩
    · rw [settled.gnss, hv.gnss, (s.searchEnds_kept i).gnss]
    · rw [settled.read _ (by decide)]
      exact (hv.get _ (by decide) (by decide)).trans (s.searchEnds_count i)
    · intro x
      rw [settled.gnss]
      exact same x
    · intro fell strong named free byHost room
      rw [settled.gnss]
      refine (promised fell strong named free byHost room).trans ?_
      rw [Search.handoff, byHost]
    · have ended : Only [.gnss] [GNSSF.GNSSF_STATUS_ACQ_BUSY, GNSSF.ACQ_CNT, GNSSF.SV_NO_CHANNEL_CNT] s (s.searchEnds i) :=
        ((Only.refl s).set_gnss rfl _).tail ((s.searchEnds_kept i).more (by simp))
      exact ((ended.tail (hv.more (by simp))).set_gnss rfl _).tail settled.any
  · intro s a i awake auto mask ok visible free few found
    have run : s.awake (runAutoAllocation a) = s.startSearch i { a with channel := 255, tag := 0 } true := by
      rw [State.awake_eq awake]
      simp only [runAutoAllocation, auto, mask, ok, visible, free, few, Bool.and_true, Bool.not_false, decide_true, if_true, found]
    refine ⟨_, rfl, ?_⟩
    rw [run]
    exact ((Keeps.refl s).startSearch i { a with channel := 255, tag := 0 } true).settle.searched

end Sys2Proof.Machine
end

section
/-! SUPPORT. Accesses to the vat: what a write changes, when it is performed, and what is read after it. -/

namespace Sys2Proof.Machine

variable {l : List Fld} {ps : List Part} {s t u : State}

/-! ### Runs of bytes -/

theorem Memory.length_reads (m : Memory) (a n : Nat) : (m.reads a n).length = n := by
  induction n generalizing a with
  | zero => rfl
  | succ n ih => simp [Memory.reads, ih]

theorem Memory.reads_congr {m p : Memory} {a n : Nat} (h : ∀ x, a ≤ x → x < a + n → p.read x = m.read x) : p.reads a n = m.reads a n := by
  induction n generalizing a with
  | zero => rfl
  | succ n ih => rw [Memory.reads, Memory.reads, h a (by omega) (by omega), ih fun x lo hi => h x (by omega) (by omega)]

theorem Memory.reads_append (m : Memory) (a n k : Nat) : m.reads a (n + k) = m.reads a n ++ m.reads (a + n) k := by
  induction n generalizing a with
  | zero => simp [Memory.reads]
  | succ n ih => rw [Nat.succ_add, Memory.reads, ih, Memory.reads, List.cons_append, Nat.add_right_comm, Nat.add_assoc]

/-- A run of bytes reads whole as it was written. -/
theorem Memory.reads_writes (m : Memory) (a : Nat) (b : List Byte) (h : m.wf = true) : (m.writes a b).reads a b.length = b := by
  refine List.ext_getElem (Memory.length_reads _ _ _) fun i hi hb => ?_
  have at_ : ∀ (p : Memory) (x n j : Nat) (hj : j < (p.reads x n).length), (p.reads x n)[j] = p.read (x + j) := by
    intro p x n
    induction n generalizing x with
    | zero => intro j hj; exact absurd hj (by simp [Memory.reads])
    | succ n ih =>
      intro j hj
      cases j with
      | zero => rfl
      | succ j =>
        have := ih (x + 1) j (by simpa [Memory.reads] using hj)
        simpa [Memory.reads, Nat.add_assoc, Nat.add_comm 1 j] using this
  rw [at_]
  exact Memory.read_writes_same m a b h i hb

/-! ### The vat's own state under bookkeeping -/

@[simp] theorem State.charge0_vatc (s : State) (n : Nat) : (s.charge0 n).vatc = s.vatc := by unfold State.charge0; split <;> rfl

@[simp] theorem State.sendMsg_vatc (s : State) (v : Nat) : (s.sendMsg v).vatc = s.vatc := by
  unfold State.sendMsg
  split
  · rfl
  · split
    · rfl
    · exact s.charge0_vatc 20

@[simp] theorem State.showVec_vatc (s : State) (v : Nat) (b : Bool) : (s.showVec v b).vatc = s.vatc := by
  unfold State.showVec
  dsimp only
  split <;> rfl

@[simp] theorem State.vecRefresh_vatc (s : State) (v : Nat) (b : Bool) : (s.vecRefresh v b).vatc = s.vatc := by
  unfold State.vecRefresh
  dsimp only
  split
  · rw [State.sendMsg_vatc, State.showVec_vatc]
  · rw [State.showVec_vatc]

@[simp] theorem State.setPending_vatc (s : State) (x : Nat) (b : Bool) : (s.setPending x b).vatc = s.vatc := by
  unfold State.setPending
  dsimp only
  split
  · rfl
  · rw [State.vecRefresh_vatc]; rfl

@[simp] theorem State.irqEdge_vatc (s : State) (x : Nat) : (s.irqEdge x).vatc = s.vatc := by
  unfold State.irqEdge
  split
  · rfl
  · exact s.setPending_vatc x true

@[simp] theorem State.irqLevel_vatc (s : State) (x : Nat) (b : Bool) : (s.irqLevel x b).vatc = s.vatc := by
  unfold State.irqLevel
  dsimp only
  rw [State.setPending_vatc]
  split <;> rfl

@[simp] theorem State.incBy_vatc (s : State) (f : Fld) (n : Nat) : (s.incBy f n).vatc = s.vatc := by
  unfold State.incBy
  dsimp only
  split
  · rfl
  · split
    · rfl
    · rw [State.irqLevel_vatc]; rfl

@[simp] theorem State.pmuOne_vatc (s : State) (ev q n k : Nat) : (s.pmuOne ev q n k).vatc = s.vatc := by
  unfold State.pmuOne
  dsimp only
  split
  · split
    · rw [State.irqEdge_vatc]; rfl
    · rfl
  · rfl

@[simp] theorem State.pmu_vatc (s : State) (ev q n : Nat) : (s.pmu ev q n).vatc = s.vatc := by
  unfold State.pmu
  exact foldRange_inv (s := s) (fun x => x.vatc = s.vatc) _ rfl fun x k _ hx => (x.pmuOne_vatc ev q n k).trans hx

@[simp] theorem State.vatCount_vatc (s : State) (a n : Nat) : (s.vatCount a n).vatc = s.vatc := by
  unfold State.vatCount
  split
  · rfl
  · exact foldRange_inv (s := s) (fun x => x.vatc = s.vatc) _ rfl fun x k _ hx => (x.pmu_vatc _ _ _).trans hx

/-! ### What may be accessed -/

/-- Two states whose regions and permissions read the same. -/
def RegionsSame (s t : State) : Prop := ∀ f : Fld, 32 * 0x1F0100 ≤ f.key → f.key < 32 * 0x200000 → t.get f = s.get f

theorem Only.regions (h : Only ps l s t) (off : ∀ d ∈ l, d.key < 32 * 0x1F0100 ∨ 32 * 0x200000 ≤ d.key) : RegionsSame s t :=
  fun f lo hi => h.get f (noisy_gaps (by omega)) fun d m e => by have := off d m; omega

theorem Keeps.regions (k : Keeps [] s t) : RegionsSame s t := Only.regions (ps := []) k.only (by simp)

theorem RegionsSame.trans (a : RegionsSame s t) (b : RegionsSame t u) : RegionsSame s u := fun f lo hi => (b f lo hi).trans (a f lo hi)

/-- The regions permit the same accesses where their registers read the same. -/
theorem RegionsSame.vatMay (h : RegionsSame s t) {m : Nat} (hm : m < 16) (a n : Nat) (w : Bool) : t.vatMay m a n w = s.vatMay m a n w := by
  have permR : t.get (VAT.PERM_R m) = s.get (VAT.PERM_R m) := h _ (by simp only [VAT.PERM_R]; omega) (by simp only [VAT.PERM_R]; omega)
  have permW : t.get (VAT.PERM_W m) = s.get (VAT.PERM_W m) := h _ (by simp only [VAT.PERM_W]; omega) (by simp only [VAT.PERM_W]; omega)
  unfold State.vatMay
  congr 2
  rw [Bool.eq_iff_iff, List.any_eq_true, List.any_eq_true]
  refine exists_congr fun r => and_congr_right fun mr => ?_
  have hr := List.mem_range.1 mr
  have en : t.get (VAT.REG_LIMIT_EN r) = s.get (VAT.REG_LIMIT_EN r) := h _ (by simp only [VAT.REG_LIMIT_EN]; omega) (by simp only [VAT.REG_LIMIT_EN]; omega)
  have base : t.get (VAT.REG_BASE r) = s.get (VAT.REG_BASE r) := h _ (by simp only [VAT.REG_BASE]; omega) (by simp only [VAT.REG_BASE]; omega)
  have limit : t.get (VAT.REG_LIMIT_LIMIT r) = s.get (VAT.REG_LIMIT_LIMIT r) :=
    h _ (by simp only [VAT.REG_LIMIT_LIMIT]; omega) (by simp only [VAT.REG_LIMIT_LIMIT]; omega)
  rw [State.flag, State.flag, en, base, limit, permR, permW]

/-! ### Writes -/

/-- A canonical vat stays canonical, and only the bytes of some ranges differ. -/
def Bytes (r : List (Nat × Nat)) (s t : State) : Prop := s.vat.wf = true → t.vat.wf = true ∧ VatSame r s t

/-- Every range of one list lies in one of another. -/
def Within (r q : List (Nat × Nat)) : Prop := ∀ p ∈ r, ∃ x ∈ q, x.1 ≤ p.1 ∧ p.2 ≤ x.2

theorem Bytes.of {r : List (Nat × Nat)} (e : t.vat = s.vat) : Bytes r s t := fun w => by rw [VatSame, e]; exact ⟨w, fun _ _ => rfl⟩

theorem Bytes.trans {r : List (Nat × Nat)} (a : Bytes r s t) (b : Bytes r t u) : Bytes r s u := fun w => by
  obtain ⟨wt, st⟩ := a w
  obtain ⟨wu, su⟩ := b wt
  exact ⟨wu, fun x off => (su x off).trans (st x off)⟩

theorem Bytes.tail {r : List (Nat × Nat)} (a : Bytes r s t) (e : u.vat = t.vat) : Bytes r s u := a.trans (Bytes.of e)

theorem Bytes.within {r q : List (Nat × Nat)} (h : Bytes r s t) (w : Within r q) : Bytes q s t := fun wf =>
  ⟨(h wf).1, fun a off => (h wf).2 a fun p m => by
    obtain ⟨x, mx, lo, hi⟩ := w p m
    have := off x mx
    omega⟩

theorem Bytes.ite {r : List (Nat × Nat)} {a b : State} {c : Prop} [Decidable c] (h : Bytes r s a) (g : Bytes r s b) : Bytes r s (if c then a else b) := by
  split <;> assumption

/-- Only the bytes of some ranges differ, and the count of narrow writes, but for bookkeeping. -/
def Wrote (r : List (Nat × Nat)) (s t : State) : Prop := Only [.vat] [VAT.RMW_CNT] s t ∧ Bytes r s t

theorem Wrote.of {r : List (Nat × Nat)} (k : Keeps [] s t) : Wrote r s t := ⟨k.only0, Bytes.of k.vat⟩

theorem Wrote.refl {r : List (Nat × Nat)} (s : State) : Wrote r s s := Wrote.of (Keeps.refl s)

theorem Wrote.trans {r : List (Nat × Nat)} (a : Wrote r s t) (b : Wrote r t u) : Wrote r s u := ⟨a.1.trans b.1, a.2.trans b.2⟩

theorem Wrote.tail {r : List (Nat × Nat)} (a : Wrote r s t) (k : Keeps [] t u) : Wrote r s u := a.trans (Wrote.of k)

theorem Wrote.within {r q : List (Nat × Nat)} (a : Wrote r s t) (w : Within r q) : Wrote q s t := ⟨a.1, a.2.within w⟩

theorem Wrote.regions {r : List (Nat × Nat)} (a : Wrote r s t) : RegionsSame s t := a.1.regions (by decide)

theorem Wrote.writes (s : State) {a n : Nat} (x : Nat) (b : List Byte) (p : List Nat) (lo : a ≤ x) (hi : x + b.length ≤ a + n) :
    Wrote [(a, a + n)] s { s with vat := s.vat.writes x b, vatc := { s.vatc with poison := p } } :=
  ⟨⟨fun _ _ _ => rfl, rfl, List.suffix_refl _⟩, fun wf => ⟨Memory.wf_writes _ _ _ wf, fun y off => by
    have := off _ (List.mem_singleton_self _)
    exact Memory.read_writes_other _ _ _ _ wf (by simp only at this; omega)⟩⟩

theorem Wrote.inc {r : List (Nat × Nat)} (h : Wrote r s t) (n : Nat) : Wrote r s (t.incBy VAT.RMW_CNT n) :=
  have k : Keeps [VAT.RMW_CNT] t (t.incBy VAT.RMW_CNT n) := (Keeps.refl t).incByIn _ _ (by simp)
  h.trans ⟨k.only, fun wf => by rw [VatSame, k.vat]; exact ⟨wf, fun _ _ => rfl⟩⟩

/-- A write changes its own bytes at most. -/
theorem State.vatWrite_wrote (s : State) (m a : Nat) (b : List Byte) : Wrote [(a, a + b.length)] s (s.vatWrite m a b).2 := by
  have base (x : Nat) (k : List Byte) (p : List Nat) (j : Nat) (lo : a ≤ x) (hi : x + k.length ≤ a + b.length) :
      Wrote [(a, a + b.length)] s (({ s.vatCount a b.length with
        vat := (s.vatCount a b.length).vat.writes x k, vatc := { (s.vatCount a b.length).vatc with poison := p } } : State).incBy VAT.RMW_CNT j) :=
    ((Wrote.of ((Keeps.refl s).vatCount a b.length)).trans (Wrote.writes _ x k p lo hi)).inc j
  unfold State.vatWrite
  dsimp only
  split
  · exact Wrote.refl s
  · split
    · exact Wrote.of ((Keeps.refl s).vatDeny m a true)
    · split
      · refine (base _ _ _ _ (by omega) ?_).tail ((Keeps.refl _).vatUncorr _ _)
        rw [List.length_take, List.length_drop]
        omega
      · split
        · refine (base _ _ _ _ (by omega) ?_).tail ((Keeps.refl _).vatUncorr _ _)
          rw [List.length_take, List.length_drop]
          omega
        · refine base _ _ _ _ (by omega) ?_
          rw [List.length_take, List.length_drop]
          omega

theorem Wrote.vatWrite {r : List (Nat × Nat)} (h : Wrote r s t) (m a : Nat) (b : List Byte) (w : ∃ x ∈ r, x.1 ≤ a ∧ a + b.length ≤ x.2) :
    Wrote r s (t.vatWrite m a b).2 :=
  h.trans ((t.vatWrite_wrote m a b).within fun p mp => by rw [List.mem_singleton] at mp; exact mp ▸ w)

/-- Whether a write has a narrow word at its first or its last end that holds a poison. -/
def State.spoiled (s : State) (a n : Nat) : Bool :=
  ((a % 8 != 0 || (decide (n < 8) && a / 8 == (a + n - 1) / 8)) && s.vatc.poison.contains (a / 8)) ||
    ((a + n) % 8 != 0 && (a + n - 1) / 8 != a / 8 && s.vatc.poison.contains ((a + n - 1) / 8))

theorem State.spoiled_clean (clean : s.vatc.poison = []) (a n : Nat) : s.spoiled a n = false := by simp [State.spoiled, clean]

theorem State.spoiled_words (s : State) {a n : Nat} (start : a % 8 = 0) (len : n % 8 = 0) (some : n ≠ 0) : s.spoiled a n = false := by
  have long : ¬n < 8 := by omega
  have whole : (a + n) % 8 = 0 := by omega
  simp [State.spoiled, start, long, whole]

/-- A permitted write that meets no poison in a narrow word is done whole. -/
theorem State.vatWrite_done (s : State) (m a : Nat) (b : List Byte) (may : s.vatMay m a b.length true = true) (sound : s.spoiled a b.length = false) :
    (s.vatWrite m a b).1 = .ok ∧ (s.vatWrite m a b).2.vat = s.vat.writes a b ∧ (s.vatc.poison = [] → (s.vatWrite m a b).2.vatc.poison = []) := by
  obtain ⟨bad0, bad1⟩ := Bool.or_eq_false_iff.1 sound
  unfold State.vatWrite
  by_cases none : b.length = 0
  · rw [List.length_eq_zero_iff.1 none]
    exact ⟨rfl, rfl, id⟩
  · simp only [none, if_false, may, Bool.not_true, Bool.false_eq_true, bad0, bad1, Nat.add_zero, List.drop_zero, Nat.sub_zero, List.take_length]
    have counted : Keeps [] s (s.vatCount a b.length) := (Keeps.refl s).vatCount _ _
    refine ⟨trivial, ?_, fun clean => ?_⟩
    · exact ((Keeps.refl (l := [VAT.RMW_CNT]) _).incByIn VAT.RMW_CNT _ (by simp)).vat.trans (by rw [counted.vat])
    · rw [State.incBy_vatc, State.vatCount_vatc, clean]
      rfl

/-! ### Reads -/

/-- A permitted read of words without a poison gives their bytes, and changes nothing but bookkeeping. -/
theorem State.vatRead_clean (s : State) (m a n : Nat) (may : s.vatMay m a n false = true) (clean : s.vatc.poison = []) :
    (s.vatRead m a n).1 = .ok (s.vat.reads a n) ∧ (s.vatRead m a n).2.vatc = s.vatc := by
  simp [State.vatRead, may, clean]

end Sys2Proof.Machine
end

section
/-! Ephemerides and almanacs are loaded, read, decoded and reset. -/

namespace Sys2Proof.Machine

variable {l : List Fld} {ps : List Part} {s t u : State}

@[simp] theorem length_leBytes (n v : Nat) : (leBytes n v).length = n := by
  induction n generalizing v with
  | zero => rfl
  | succ n ih => simp [leBytes, ih]

theorem ephSlot_lt {sys sv slot : Nat} (h : ephSlot sys sv = some slot) : slot < 165 := by
  unfold ephSlot at h
  split_ifs at h <;> simp only [Option.some.injEq] at h <;> omega

/-! ### Accesses by navigation -/

theorem Wrote.navWrite {r : List (Nat × Nat)} (h : Wrote r s t) (a : Nat) (b : List Byte) (w : ∃ x ∈ r, x.1 ≤ a ∧ a + b.length ≤ x.2) :
    Wrote r s (t.navWrite a b) := h.vatWrite 4 a b w

theorem Wrote.navRead {r : List (Nat × Nat)} (h : Wrote r s t) (a n : Nat) (w : ∃ x ∈ r, x.1 ≤ a ∧ a + n ≤ x.2) : Wrote r s (t.navRead a n).2 := by
  have read : Wrote r s (t.vatRead 4 a n).2 := h.tail ((Keeps.refl t).vatRead 4 a n)
  unfold State.navRead
  dsimp only
  split
  · exact read
  · exact read
  · exact read.vatWrite 4 a _ (by rw [List.length_replicate]; exact w)

theorem State.navRead_length (s : State) (a n : Nat) : (s.navRead a n).1.length = n := by
  unfold State.navRead State.vatRead
  dsimp only
  by_cases may : s.vatMay 4 a n false = true
  · simp only [may, Bool.not_true, Bool.false_eq_true, if_false]
    cases s.vatc.poison.find? _ with
    | none => exact Memory.length_reads _ _ _
    | some w => exact List.length_replicate
  · rw [Bool.not_eq_true] at may
    simp only [may, Bool.not_false, if_true]
    exact List.length_replicate

theorem Wrote.ephReplace {r : List (Nat × Nat)} (h : Wrote r s t) (slot : Nat) (cur new : List Byte) (m : Nat) (lc : cur.length ≤ 256)
    (ln : new.length ≤ 256) (w : ∃ x ∈ r, x.1 ≤ ephAddr slot ∧ ephAddr slot + 512 ≤ x.2) : Wrote r s (t.ephReplace slot cur new m) := by
  obtain ⟨x, mx, lo, hi⟩ := w
  unfold State.ephReplace
  dsimp only
  split
  · exact (h.vatWrite m _ cur ⟨x, mx, by omega, by omega⟩).vatWrite m _ new ⟨x, mx, lo, by omega⟩
  · exact h.vatWrite m _ new ⟨x, mx, lo, by omega⟩

/-! ### EPH_LOAD -/

/-- Only the ephemeris store differs, and its counters. -/
def EphKept (s t : State) : Prop := Only [.vat] [GNSSN.EPH_NEW_CNT, VAT.RMW_CNT] s t ∧ Bytes [(ephAddr 0, ephAddr 165)] s t

theorem EphKept.wrote (h : EphKept s t) (w : Wrote [(ephAddr 0, ephAddr 165)] t u) : EphKept s u :=
  ⟨h.1.trans (w.1.more fun _ ⟨d, m, e⟩ => ⟨d, List.mem_cons_of_mem _ m, e⟩), h.2.trans w.2⟩

theorem EphKept.tail (h : EphKept s t) (k : Keeps [GNSSN.EPH_NEW_CNT] t u) : EphKept s u :=
  ⟨h.1.tail (k.more (by simp)), h.2.tail k.vat⟩

theorem EphKept.of (k : Keeps [] s t) : EphKept s t := ⟨k.only0, Bytes.of k.vat⟩

/-- What holds of the state of a fold that also counts. -/
theorem foldl_state {α : Type} (P : State → Prop) (f : Nat × Bool × State → α → Nat × Bool × State) (h : ∀ a x, P a.2.2 → P (f a x).2.2)
    (l : List α) (a : Nat × Bool × State) (base : P a.2.2) : P (l.foldl f a).2.2 := by
  induction l generalizing a with
  | nil => exact base
  | cons x l ih => exact ih _ (h a x base)

theorem length_take_le (n : Nat) (l : List Byte) : (l.take n).length ≤ n := by rw [List.length_take]; omega

/-- The record that EPH_LOAD stores: the host's, with SOURCE 1 and its CRC made again (R128). -/
def hostRecord (rec_ : List Byte) : List Byte :=
  (rec_.take 2 ++ leBytes 1 1 ++ (rec_.drop 3).take 0xF9) ++ leBytes 4 (crc32 (rec_.take 2 ++ leBytes 1 1 ++ (rec_.drop 3).take 0xF9))

theorem hostRecord_length (rec_ : List Byte) : (hostRecord rec_).length ≤ 256 := by
  have := length_take_le 2 rec_
  have := length_take_le 0xF9 (rec_.drop 3)
  simp only [hostRecord, List.length_append, length_leBytes]
  omega

theorem EphKept.store (h : EphKept s t) (slot : Nat) (rec_ : List Byte) (hs : slot < 165) (c : Nat) :
    EphKept s (((((t.navRead (ephAddr slot) 256).2.ephReplace slot (t.navRead (ephAddr slot) 256).1 (hostRecord rec_) 11).event 0x0501 slot c)).inc
      GNSSN.EPH_NEW_CNT) := by
  have inStore : ephAddr 0 ≤ ephAddr slot ∧ ephAddr slot + 512 ≤ ephAddr 165 := by simp only [ephAddr]; omega
  have read : Wrote [(ephAddr 0, ephAddr 165)] t (t.navRead (ephAddr slot) 256).2 :=
    (Wrote.refl t).navRead _ _ ⟨_, List.mem_singleton_self _, inStore.1, by have := inStore.2; omega⟩
  have replaced := read.ephReplace slot (t.navRead (ephAddr slot) 256).1 (hostRecord rec_) 11 (by rw [State.navRead_length]) (hostRecord_length rec_)
    ⟨_, List.mem_singleton_self _, inStore⟩
  exact (h.wrote replaced).tail (((Keeps.refl _).event _ _ _).incIn _ (by simp))

theorem Keeps.dataIn (k : Keeps l s t) (h : Hdr) (addr n : Nat) (d : DmaIn) : t.dataIn h addr n d = s.dataIn h addr n d := by
  simp only [State.dataIn, k.hif_mbData]

theorem ephLoad_kept (h : Hdr) (count addr : Nat) (d : DmaIn) (a : s.Accepts h false (count * 120 + dmaStock (256 * count)))
    (range : rangeOk h addr (256 * count) = true) (some : (s.dataIn h addr (256 * count) d).isSome = true) :
    EphKept s (s.awake (runEphLoad h count addr d)) := by
  obtain ⟨v, hv, run, -⟩ := a.elim (g := runEphLoad h count addr d) rfl
  obtain ⟨b, data⟩ := Option.isSome_iff_exists.1 some
  rw [run]
  simp only [range, Bool.not_true, Bool.false_eq_true, if_false, hv.dataIn, data]
  refine EphKept.tail ?_ (((Keeps.refl _).journalCmd _ _ _ _).complete _ _ _ _ _)
  refine foldl_state (EphKept s) _ (fun acc i kept => ?_) _ _ (EphKept.of hv)
  split
  · next slot found =>
    split
    · exact kept.store slot _ (ephSlot_lt found) _
    · exact kept
  · exact kept

/-- The bytes of the store after a record has replaced the current one of its slot (R127). -/
theorem State.ephReplace_vat (s : State) (slot : Nat) (cur new : List Byte) (m : Nat) (hm : m < 16) (clean : s.vatc.poison = [])
    (may : s.vatMay m (ephAddr slot) new.length true = true) (may' : s.vatMay m (ephAddr slot + 256) cur.length true = true) :
    (s.ephReplace slot cur new m).vat =
      (if ephCrcOk cur = true then s.vat.writes (ephAddr slot + 256) cur else s.vat).writes (ephAddr slot) new := by
  unfold State.ephReplace
  dsimp only
  split
  · obtain ⟨-, vat, clean'⟩ := s.vatWrite_done m (ephAddr slot + 256) cur may' (State.spoiled_clean clean _ _)
    have same := (s.vatWrite_wrote m (ephAddr slot + 256) cur).regions
    obtain ⟨-, vat', -⟩ := (s.vatWrite m (ephAddr slot + 256) cur).2.vatWrite_done m (ephAddr slot) new ((same.vatMay hm _ _ _).trans may)
      (State.spoiled_clean (clean' clean) _ _)
    rw [vat', vat]
  · exact (s.vatWrite_done m (ephAddr slot) new may (State.spoiled_clean clean _ _)).2.1

theorem hostRecord_lengths {rec_ : List Byte} (h : rec_.length = 256) :
    (rec_.take 2 ++ leBytes 1 1 ++ (rec_.drop 3).take 0xF9).length = 252 ∧ (hostRecord rec_).length = 256 := by
  simp only [hostRecord, List.length_append, length_leBytes, List.length_take, List.length_drop, h]
  omega

/-- A command that loads one record runs its store on it alone. -/
theorem ephLoad_one (h : Hdr) (addr slot : Nat) (d : DmaIn) (b : List Byte) (a : s.Accepts h false (120 + dmaStock 256))
    (range : rangeOk h addr 256 = true) (data : s.dataIn h addr 256 d = some b) (known : ephSlot (leAt b 0 1) (leAt b 1 1) = some slot)
    (sound : ephCrcOk b = true) (may : s.vatMay 4 (ephAddr slot) 256 false = true) (clean : s.vatc.poison = []) :
    ∃ v w, Keeps [] s v ∧ v.vatc = s.vatc ∧ Keeps [] (v.ephReplace slot (s.vat.reads (ephAddr slot) 256) (hostRecord b) 11) w ∧
      Keeps [] (w.inc GNSSN.EPH_NEW_CNT) (s.awake (runEphLoad h 1 addr d)) := by
  obtain ⟨v, hv, run, -, vatc⟩ := a.elim (g := runEphLoad h 1 addr d) rfl
  have whole : (b.drop (256 * 0)).take 256 = b := by
    have := (Bool.and_eq_true_iff.1 sound).1
    rw [beq_iff_eq] at this
    rw [Nat.mul_zero, List.drop_zero, List.take_of_length_le (by omega)]
  have read : v.navRead (ephAddr slot) 256 = (s.vat.reads (ephAddr slot) 256, v.vatCount (ephAddr slot) 256) := by
    have may' : v.vatMay 4 (ephAddr slot) 256 false = true := (hv.regions.vatMay (by decide) _ _ _).trans may
    simp [State.navRead, State.vatRead, may', vatc, clean, hv.vat]
  refine ⟨v.vatCount (ephAddr slot) 256, _, hv.vatCount _ _, (State.vatCount_vatc _ _ _).trans vatc, (Keeps.refl _).event 0x0501 slot (leAt b 4 2), ?_⟩
  rw [run]
  simp only [Nat.mul_one, range, Bool.not_true, Bool.false_eq_true, if_false, hv.dataIn, data, List.range_one, List.foldl_cons, List.foldl_nil, whole,
    known, sound, if_true, read]
  exact ((Keeps.refl _).journalCmd _ _ _ _).complete _ _ _ _ _

/-! ### ALM_LOAD and EPH_READ -/

theorem almLoad_writes (h : Hdr) (count addr : Nat) (d : DmaIn) (b : List Byte) (a : s.Accepts h false (count * 120 + dmaStock (64 * count)))
    (few : count ≤ 165) (range : rangeOk h addr (64 * count) = true) (data : s.dataIn h addr (64 * count) d = some b)
    (long : b.length = 64 * count) (may : s.vatMay 11 (almAddr 0) (64 * count) true = true) :
    ∃ v, Keeps [] s v ∧ (v.vatWrite 11 (almAddr 0) b).2.vat = s.vat.writes (almAddr 0) b ∧
      Keeps [] (v.vatWrite 11 (almAddr 0) b).2 (s.awake (runAlmLoad h count addr d)) := by
  obtain ⟨v, hv, run, -⟩ := a.elim (g := runAlmLoad h count addr d) rfl
  have sound : v.spoiled (almAddr 0) b.length = false := by
    rcases Nat.eq_zero_or_pos count with rfl | some
    · have none : b.length = 0 := by omega
      rw [none]
      simp [State.spoiled, almAddr]
    · exact v.spoiled_words (by decide) (by omega) (by omega)
  obtain ⟨done, vat, -⟩ := v.vatWrite_done 11 (almAddr 0) b ((hv.regions.vatMay (by decide) _ _ _).trans (by rw [long]; exact may)) sound
  refine ⟨v, hv, by rw [vat, hv.vat], ?_⟩
  have result : v.vatWrite 11 (almAddr 0) b = (.ok, (v.vatWrite 11 (almAddr 0) b).2) := Prod.ext done rfl
  rw [run, if_neg (show ¬(165 < count ∨ rangeOk h addr (64 * count) = false) by simp [range]; omega)]
  simp only [hv.dataIn, data]
  rw [result]
  exact ((Keeps.refl _).journalCmd _ _ _ _).complete _ _ _ _ _

/-- Data of the vat that a command sends to host memory leaves the engine. -/
theorem State.vatOut_host (s : State) (h : Hdr) (op addr a n r : Nat) (may : s.vatMay 11 a n false = true) (clean : s.vatc.poison = [])
    (ring : h.origin ≠ .mspi) (ok : h.dmaOk = true) :
    Out.hostWrite addr (s.vat.reads a n) ∈ (s.vatOut h op addr a n r).out ∧ Keeps [] s (s.vatOut h op addr a n r) := by
  have range : rangeOk h addr (s.vat.reads a n).length = true := by simp [rangeOk, ring]
  obtain ⟨read, -⟩ := s.vatRead_clean 11 a n may clean
  obtain ⟨out, kept⟩ := (s.vatRead 11 a n).2.dataOut_host h op addr (s.vat.reads a n) r ring ok range
  simp only [State.vatOut, read]
  exact ⟨out, ((Keeps.refl s).vatRead 11 a n).trans kept⟩

theorem ephRead_reads (h : Hdr) (slot addr : Nat) (a : s.Accepts h true (dmaStock 512)) (hs : slot ≤ 164) (may : s.vatMay 11 (ephAddr slot) 512 false = true)
    (clean : s.vatc.poison = []) (ring : h.origin ≠ .mspi) (ok : h.dmaOk = true) :
    Out.hostWrite addr (s.vat.reads (ephAddr slot) 512) ∈ (s.awake (runEphRead h slot addr)).out ∧ Keeps [] s (s.awake (runEphRead h slot addr)) := by
  obtain ⟨v, hv, run, -, vatc⟩ := a.elim (g := runEphRead h slot addr) rfl
  obtain ⟨out, kept⟩ := v.vatOut_host h 0x52 addr (ephAddr slot) 512 0 ((hv.regions.vatMay (by decide) _ _ _).trans may) (by rw [vatc, clean]) ring ok
  rw [run, if_neg (show ¬164 < slot by omega)]
  rw [hv.vat] at out
  exact ⟨out, hv.trans kept⟩

/-! ### NAV_RESET -/

/-- The ranges of the vat that hold navigation data. -/
def navRanges : List (Nat × Nat) := [(ephAddr 0, almAddr 165), (globAddr 0, globAddr 5), (navBuf 0, navBuf 165)]

theorem Wrote.eph (h : Wrote navRanges s t) (slot off : Nat) (b : List Byte) (hs : slot < 165) (fits : off + b.length ≤ 512) :
    Wrote navRanges s (t.navWrite (ephAddr slot + off) b) :=
  h.navWrite _ _ ⟨(ephAddr 0, almAddr 165), by simp [navRanges], by simp only [ephAddr, almAddr]; omega⟩

theorem Wrote.alm (h : Wrote navRanges s t) (slot : Nat) (b : List Byte) (hs : slot < 165) (fits : b.length ≤ 64) :
    Wrote navRanges s (t.navWrite (almAddr slot) b) :=
  h.navWrite _ _ ⟨(ephAddr 0, almAddr 165), by simp [navRanges], by simp only [ephAddr, almAddr]; omega⟩

theorem Wrote.glob (h : Wrote navRanges s t) (sys off : Nat) (b : List Byte) (hs : sys < 5) (fits : off + b.length ≤ 128) :
    Wrote navRanges s (t.navWrite (globAddr sys + off) b) :=
  h.navWrite _ _ ⟨(globAddr 0, globAddr 5), by simp [navRanges], by simp only [globAddr]; omega⟩

theorem Wrote.buf (h : Wrote navRanges s t) (slot off : Nat) (b : List Byte) (hs : slot < 165) (fits : off + b.length ≤ 1024) :
    Wrote navRanges s (t.navWrite (navBuf slot + off) b) :=
  h.navWrite _ _ ⟨(navBuf 0, navBuf 165), by simp [navRanges], by simp only [navBuf]; omega⟩

/-- The records of the satellites of the systems in a mask are erased (R145). -/
def State.eraseSats (s : State) (mask : Nat) : State :=
  (List.range 165).foldl (fun s i =>
    if bitOf mask (slotSystem i) then
      ((s.navWrite (ephAddr i) (List.replicate 512 0)).navWrite (almAddr i) (List.replicate 64 0)).navWrite (navBuf i) (List.replicate 1024 0)
    else s) s

/-- The parameters of the systems in a mask are replaced (R145). -/
def State.eraseGlobs (s : State) (mask : Nat) (z : List Byte) (n : Nat) : State :=
  (List.range n).foldl (fun s i => if bitOf mask i then s.navWrite (globAddr i) z else s) s

theorem foldRange_wrote {r : List (Nat × Nat)} {n : Nat} (f : State → Nat → State) (step : ∀ x, ∀ i < n, Wrote r x (f x i)) (s : State) :
    Wrote r s ((List.range n).foldl f s) := by
  induction n with
  | zero => exact Wrote.refl s
  | succ n ih =>
    rw [List.range_succ, List.foldl_append]
    exact (ih fun x i hi => step x i (by omega)).trans (step _ n (by omega))

theorem zeros_le' (n : Nat) : (List.replicate n (0 : Byte)).length ≤ n := by rw [List.length_replicate]

theorem zeros_le (n : Nat) : 0 + (List.replicate n (0 : Byte)).length ≤ n := by rw [List.length_replicate, Nat.zero_add]

theorem State.eraseSats_wrote (s : State) (mask : Nat) : Wrote navRanges s (s.eraseSats mask) := by
  refine foldRange_wrote _ (fun x i hi => ?_) s
  split
  · exact (((Wrote.refl x).eph i 0 _ hi (zeros_le 512)).alm i _ hi (zeros_le' 64)).buf i 0 _ hi (zeros_le 1024)
  · exact Wrote.refl x

theorem State.eraseGlobs_wrote (s : State) (mask : Nat) (z : List Byte) (n : Nat) (hz : z.length = 128) (hn : n ≤ 5) :
    Wrote navRanges s (s.eraseGlobs mask z n) := by
  refine foldRange_wrote _ (fun x i hi => ?_) s
  split
  · exact (Wrote.refl x).glob i 0 _ (by omega) (by omega)
  · exact Wrote.refl x

/-- The parameters of a system that may be written are replaced. -/
theorem State.eraseGlobs_reads (s : State) (mask : Nat) (z : List Byte) (n : Nat) (hz : z.length = 128) (hn : n ≤ 5) (wf : s.vat.wf = true) :
    ∀ i < n, bitOf mask i = true → s.vatMay 4 (globAddr i) 128 true = true → (s.eraseGlobs mask z n).vat.reads (globAddr i) 128 = z := by
  induction n with
  | zero => intro i hi; omega
  | succ n ih =>
    intro i hi named may
    have before := s.eraseGlobs_wrote mask z n hz (by omega)
    have wf' := (before.2 wf).1
    have next : s.eraseGlobs mask z (n + 1) = if bitOf mask n = true then (s.eraseGlobs mask z n).navWrite (globAddr n) z else s.eraseGlobs mask z n := by
      unfold State.eraseGlobs
      rw [List.range_succ, List.foldl_append, List.foldl_cons, List.foldl_nil]
    rw [next]
    by_cases last : i = n
    · subst last
      obtain ⟨-, vat, -⟩ := (s.eraseGlobs mask z i).vatWrite_done 4 (globAddr i) z ((before.regions.vatMay (by decide) _ _ _).trans (by rw [hz]; exact may))
        (State.spoiled_words _ (by simp only [globAddr]; omega) (by omega) (by omega))
      rw [if_pos named]
      refine (congrArg (fun m : Memory => m.reads (globAddr i) 128) vat).trans ?_
      rw [← hz]
      exact Memory.reads_writes _ _ _ wf'
    · refine Eq.trans (Memory.reads_congr fun x lo hi' => ?_) (ih (by omega) i (by omega) named may)
      split
      · refine (((s.eraseGlobs mask z n).vatWrite_wrote 4 (globAddr n) z).2 wf').2 x fun p mp => ?_
        rw [List.mem_singleton] at mp
        simp only [mp, hz, globAddr] at lo hi' ⊢
        omega
      · rfl

/-- The fields that show what the navigation block knows. -/
def navShown : List Fld := [GNSSN.NAV_STATUS_SOL_MODE, GNSSN.NAV_STATUS_SURVEY_RUN, GNSSN.NAV_STATUS_NEPH]

theorem Keeps.showNav (k : Keeps navShown s t) : Keeps navShown s t.showNav := k.putsIn _ (by simp [navShown])

theorem navReset_erases (h : Hdr) (mask : Nat) (a : s.Accepts h false 0) (mode : s.mode ≤ 1) :
    ∃ v, Keeps [] s v ∧ Keeps navShown
      { (v.eraseSats mask).eraseGlobs mask (List.replicate 128 0) 5 with
        nav := { s.nav with
          smooth := s.nav.smooth.filter (fun p => !bitOf mask (slotSystem p.slot))
          align := (List.range 136).map (fun i => if bitOf mask (sigSystem (s.chSig i)) then none else nth s.nav.align i none)
          sync := (List.range 136).map (fun i => if bitOf mask (sigSystem (s.chSig i)) then none else nth s.nav.sync i none)
          passes := (List.range 136).map (fun i => if bitOf mask (sigSystem (s.chSig i)) then 0 else nth s.nav.passes i 0) } }
      (s.awake (runNavReset h mask)) := by
  obtain ⟨v, hv, run, -⟩ := a.elim (g := runNavReset h mask) rfl
  refine ⟨v, hv, ?_⟩
  have wrote := ((Wrote.of hv).trans (v.eraseSats_wrote mask)).trans ((v.eraseSats mask).eraseGlobs_wrote mask (List.replicate 128 0) 5 List.length_replicate le_rfl)
  have sig (i : Nat) (hi : i < 136) : ((v.eraseSats mask).eraseGlobs mask (List.replicate 128 0) 5).chSig i = s.chSig i :=
    wrote.1.get _ (gnssc_quiet _ (by simp only [GNSSC.CH_SIG_SIGNAL]; omega) (by simp only [GNSSC.CH_SIG_SIGNAL]; omega))
      (by simp only [List.forall_mem_cons, List.not_mem_nil, VAT.RMW_CNT, GNSSC.CH_SIG_SIGNAL]; exact ⟨by omega, fun _ x => x.elim⟩)
  have nav := wrote.1.nav rfl
  have systems {α : Type} (none : α) (f : Nat → α) : (List.range 136).map (fun i =>
      if (!bitOf mask (sigSystem (((v.eraseSats mask).eraseGlobs mask (List.replicate 128 0) 5).chSig i))) = true then f i else none) =
      (List.range 136).map (fun i => if bitOf mask (sigSystem (s.chSig i)) = true then none else f i) := by
    refine List.map_congr_left fun i mi => ?_
    rw [sig i (List.mem_range.1 mi)]
    cases bitOf mask (sigSystem (s.chSig i)) <;> rfl
  rw [run, if_neg (by rw [hv.mode]; omega), ← systems, ← systems, ← systems, ← nav]
  exact ((Keeps.refl _).showNav.journalCmd _ _ _ _).complete _ _ _ _ _

/-! ### NAV_UNIT_DECODED -/

/-- What a unit of a navigation message changes at most. -/
def navFields : List Fld := regBlock 0x100000 0x110000 ++ regBlock 0x30000 0x40000 ++ [SHEET.LATE_CNT, VAT.RMW_CNT]

def NavKept (s t : State) : Prop := Only [.vat, .nav, .time, .gnss] navFields s t ∧ Bytes navRanges s t ∧ t.nav.passes = s.nav.passes

theorem NavKept.of (k : Keeps [] s t) : NavKept s t := ⟨k.only0, Bytes.of k.vat, by rw [k.nav]⟩

theorem NavKept.trans (a : NavKept s t) (b : NavKept t u) : NavKept s u := ⟨a.1.trans b.1, a.2.1.trans b.2.1, b.2.2.trans a.2.2⟩

theorem NavKept.tail (a : NavKept s t) (k : Keeps [] t u) : NavKept s u := a.trans (NavKept.of k)

theorem NavKept.wrote (a : NavKept s t) (w : Wrote navRanges t u) : NavKept s u :=
  a.trans ⟨w.1.parts rfl fun k ⟨d, m, e⟩ => by
    rw [List.mem_singleton] at m
    exact ⟨d, List.mem_append_right _ (by rw [m]; simp), e⟩, w.2, by rw [w.1.nav rfl]⟩

theorem navFields_gnssn {k : Nat} (lo : 32 * 0x100000 ≤ k) (hi : k < 32 * 0x110000) : ∃ d ∈ navFields, k = d.key := by
  obtain ⟨d, m, e⟩ := mem_block lo hi
  exact ⟨d, List.mem_append_left _ (List.mem_append_left _ m), e⟩

theorem navFields_time {k : Nat} (lo : 32 * 0x30000 ≤ k) (hi : k < 32 * 0x40000) : ∃ d ∈ navFields, k = d.key := by
  obtain ⟨d, m, e⟩ := mem_block lo hi
  exact ⟨d, List.mem_append_left _ (List.mem_append_right _ m), e⟩

theorem NavKept.put (a : NavKept s t) (f : Fld) (v : Nat) (m : ∃ d ∈ navFields, f.key = d.key) : NavKept s (t.put f v) :=
  ⟨a.1.putK f v m, a.2.1.tail rfl, a.2.2⟩

theorem NavKept.inc (a : NavKept s t) (f : Fld) (m : ∃ d ∈ navFields, f.key = d.key) : NavKept s (t.inc f) :=
  have k : Keeps navFields t (t.inc f) := (Keeps.refl t).incK f m
  ⟨a.1.tail k, a.2.1.tail k.vat, by rw [k.nav]; exact a.2.2⟩

theorem NavKept.setTime (a : NavKept s t) (x : TimeSt) : NavKept s { t with time := x } := ⟨a.1.set_time rfl x, a.2.1.tail rfl, a.2.2⟩

theorem NavKept.navWrite (a : NavKept s t) {x : Nat} {b : List Byte} (w : Wrote navRanges t (t.navWrite x b)) : NavKept s (t.navWrite x b) := a.wrote w

/-- A record is accepted (R127). -/
theorem NavKept.accept (a : NavKept s t) (slot : Nat) (cur new : List Byte) (hs : slot < 165) (lc : cur.length ≤ 256) (ln : new.length ≤ 256) :
    NavKept s ((((t.navWrite (navBuf slot + 512) [0]).ephReplace slot cur new 4).event 0x0501 slot (leAt new 4 2)).inc GNSSN.EPH_NEW_CNT) := by
  have written : Wrote navRanges t ((t.navWrite (navBuf slot + 512) [0]).ephReplace slot cur new 4) :=
    ((Wrote.refl t).buf slot 512 [0] hs (by decide)).ephReplace slot cur new 4 lc ln
      ⟨(ephAddr 0, almAddr 165), by simp [navRanges], by simp only [ephAddr, almAddr]; omega⟩
  exact ((a.wrote written).tail ((Keeps.refl _).event _ _ _)).inc _ (navFields_gnssn (by decide) (by decide))

theorem NavKept.ephNew (a : NavKept s t) (slot : Nat) (new : List Byte) (hs : slot < 165) (ln : new.length ≤ 256) : NavKept s (t.ephNew slot new) := by
  have first : Wrote navRanges t ((t.charge0 900).navRead (ephAddr slot) 256).2 :=
    (Wrote.of ((Keeps.refl t).charge0 900)).navRead _ _ ⟨(ephAddr 0, almAddr 165), by simp [navRanges], by simp only [ephAddr, almAddr]; omega⟩
  have read := a.wrote (first.navRead (navBuf slot + 512) 272 ⟨(navBuf 0, navBuf 165), by simp [navRanges], by simp only [navBuf]; omega⟩)
  have lc := ((t.charge0 900).navRead_length (ephAddr slot) 256).le
  have accepted := read.accept slot _ new hs lc ln
  unfold State.ephNew
  dsimp only
  split
  · exact accepted.tail ((Keeps.refl _).event _ _ _)
  · split
    · exact accepted
    · split
      · split
        · have long : (leBytes 16 1 ++ new).length ≤ 272 := by rw [List.length_append, length_leBytes]; omega
          exact ((read.navWrite ((Wrote.refl _).buf slot 512 _ hs (by omega))).tail ((Keeps.refl _).event _ _ _)).inc _
            (navFields_gnssn (by decide) (by decide))
        · exact accepted
      · exact accepted

theorem NavKept.ephPart (a : NavKept s t) (slot iod part of_ off : Nat) (b : List Byte) (hs : slot < 165) : NavKept s (t.ephPart slot iod part of_ off b) := by
  have read := a.wrote ((Wrote.refl t).navRead (navBuf slot) 272 ⟨(navBuf 0, navBuf 165), by simp [navRanges], by simp only [navBuf]; omega⟩)
  have written (x : Nat) (r : List Byte) :
      NavKept s ((t.navRead (navBuf slot) 272).2.navWrite (navBuf slot) (leBytes 2 iod ++ leBytes 2 of_ ++ leBytes 12 x ++ r.take 256)) := by
    have := length_take_le 256 r
    exact read.navWrite ((Wrote.refl _).buf slot 0 _ hs (by simp only [List.length_append, length_leBytes]; omega))
  have crcd (x : Nat) (r new : List Byte) (all : Prop) [Decidable all] :
      NavKept s (if all then ((t.navRead (navBuf slot) 272).2.navWrite (navBuf slot)
        (leBytes 2 iod ++ leBytes 2 of_ ++ leBytes 12 x ++ r.take 256)).ephNew slot (new.take 0xFC ++ leBytes 4 (crc32 (new.take 0xFC)))
        else (t.navRead (navBuf slot) 272).2.navWrite (navBuf slot) (leBytes 2 iod ++ leBytes 2 of_ ++ leBytes 12 x ++ r.take 256)) := by
    split
    · refine (written x r).ephNew slot _ hs ?_
      rw [List.length_append, length_leBytes]
      exact Nat.add_le_add_right (length_take_le 0xFC new) 4
    · exact written x r
  exact crcd _ (_ ++ b ++ _) _ _

theorem NavKept.globPut (a : NavKept s t) (sys bit off : Nat) (b : List Byte) (fits : off + b.length ≤ 128) : NavKept s (t.globPut sys bit off b) := by
  unfold State.globPut
  split
  · exact a
  · exact (a.navWrite ((Wrote.refl _).glob sys off b (by omega) fits)).navWrite ((Wrote.refl _).glob sys 0 _ (by omega) (by rw [length_leBytes]; decide))

theorem NavKept.armLeap (a : NavKept s t) (u : Int) (dir : Nat) (pol late : Bool) (o : Origin) : NavKept s (t.armLeap u dir pol late o) := by
  have time (f : Fld) (lo : 32 * 0x30000 ≤ f.key) (hi : f.key < 32 * 0x40000) : ∃ d ∈ navFields, f.key = d.key := navFields_time lo hi
  exact ((((a.put TIME.LEAP_TARGET _ (time _ (by decide) (by decide))).put TIME.TIME_STATUS_LEAP_ARMED _ (time _ (by decide) (by decide))).put
    TIME.TIME_STATUS_LEAP_DIR _ (time _ (by decide) (by decide))).setTime _).put TIME.TIME_STATUS_LEAP_WARNING _ (time _ (by decide) (by decide))

theorem NavKept.announceLeap (a : NavKept s t) (sec dir : Nat) : NavKept s (t.announceLeap sec dir) := by
  unfold State.announceLeap
  dsimp only
  split
  · exact a
  · split
    · exact a
    · split
      · exact a.setTime _
      · exact a.armLeap _ _ _ _ _

theorem NavKept.takeUtc (a : NavKept s t) (leap : Int) : NavKept s (t.takeUtc leap) := by
  unfold State.takeUtc
  split
  · split
    · exact a
    · exact a.tail ((Keeps.refl t).event _ _ _)
  · split
    · exact ((a.put TIME.TAI_UTC _ (navFields_time (by decide) (by decide))).put TIME.TIME_STATUS_UTC_VALID _ (navFields_time (by decide) (by decide))).put
        TIME.TIME_STATUS_UTC_SRC _ (navFields_time (by decide) (by decide))
    · exact a

theorem leSigned_length (n : Nat) (i : Int) : (leSigned n i).length = n := length_leBytes _ _

theorem ionoBytes_length (p : List Int) : ((List.range 8).map (fun i => leSigned 4 (nth p i 0))).flatten.length = 32 := by
  have four : List.length ∘ (fun i => leSigned 4 (nth p i 0)) = fun _ => 4 := funext fun i => leSigned_length 4 _
  rw [List.length_flatten, List.map_map, four, List.map_const', List.sum_replicate, List.length_range]
  rfl

theorem sigSystem_lt (c : Nat) : sigSystem c < 5 := by unfold sigSystem; split_ifs <;> omega

/-- What a checked unit brings changes navigation data alone (Table 6-1). -/
theorem NavKept.navUse (a : NavKept s t) (n : Nat) (item : NavItem) (known : ∀ y ps, item = .offset y ps → y < 5) : NavKept s (t.navUse n item) := by
  unfold State.navUse
  dsimp only
  split
  · exact ⟨a.1.set_nav rfl _, a.2.1.tail rfl, a.2.2⟩
  · exact ⟨a.1.set_gnss rfl _, a.2.1.tail rfl, a.2.2⟩
  · split
    · next slot found => exact a.ephPart slot _ _ _ _ _ (ephSlot_lt found)
    · exact a
  · split
    · next slot b fits => exact a.navWrite ((Wrote.refl _).alm slot b fits.1 (by omega))
    · exact a
  · next a0 a1 tot leap ann =>
    have put := a.globPut (sigSystem (t.chSig n)) 0 8 (leSigned 8 a0 ++ leSigned 8 a1 ++ leBytes 8 tot ++ leSigned 4 leap)
      (by simp only [List.length_append, leSigned_length, length_leBytes]; decide)
    split
    · split
      · split
        · exact (put.takeUtc leap).announceLeap _ _
        · exact put.takeUtc leap
      · exact put.takeUtc leap
    · exact put
  · next p => exact a.globPut _ 1 48 _ (by rw [ionoBytes_length]; decide)
  · exact a.globPut _ 2 40 _ (by rw [leSigned_length]; decide)
  · exact a

/-- Keeping the sync of a channel changes no other part. -/
theorem NavKept.synced (a : NavKept s t) (n : Nat) (c : Prop) [Decidable c] :
    NavKept s (if c then { t with nav := { t.nav with sync := setNth t.nav.sync n (nth t.nav.align n none) } } else t) := by
  split
  · exact ⟨a.1.set_nav rfl _, a.2.1.tail rfl, a.2.2⟩
  · exact a

/-! ### The statement -/

/-- A unit that the channel decodes. -/
def Decodes (s : State) (n ty : Nat) : Prop :=
  n < 136 ∧ s.flag (GNSSC.CH_CTRL_ENABLE n) = true ∧ unitKnown (s.chSig n) (s.get (GNSSC.CH_SIG_SV n)) ty = true

theorem Decodes.fails {n ty : Nat} (d : Decodes s n ty) (raw : List Bool) (item : NavItem)
    (bad : unitOk (s.chSig n) (if (s.chan n).invert then raw.map (!·) else raw) = false) :
    runNavUnitDecoded n ty raw item s = State.inc { s with nav := { s.nav with passes := setNth s.nav.passes n 0 } } GNSSN.PARITY_FAIL_CNT := by
  obtain ⟨hn, on, known⟩ := d
  unfold runNavUnitDecoded
  rw [if_neg (by simp [on, known]; omega)]
  simp only [bad, Bool.not_false, if_true]

/-- The state in which a checked unit of a channel is used. -/
def State.passed (s : State) (n : Nat) : State := { s with nav := { s.nav with passes := setNth s.nav.passes n (nth s.nav.passes n 0 + 1) } }

theorem Decodes.passes {n ty : Nat} (d : Decodes s n ty) (raw : List Bool) (item : NavItem)
    (good : unitOk (s.chSig n) (if (s.chan n).invert then raw.map (!·) else raw) = true) :
    runNavUnitDecoded n ty raw item s =
      let u := (s.passed n).navUse n item
      if (nth u.nav.align n none).isSome = true ∧ (2 ≤ nth s.nav.passes n 0 + 1 ∨ (nth u.nav.sync n none).isSome = true)
      then { u with nav := { u.nav with sync := setNth u.nav.sync n (nth u.nav.align n none) } } else u := by
  obtain ⟨hn, on, known⟩ := d
  unfold runNavUnitDecoded
  rw [if_neg (by simp [on, known]; omega)]
  simp only [good, Bool.not_true, Bool.false_eq_true, if_false]
  rfl

/-- What the two halves of a slot hold once a host's record is stored over a record `cur`. -/
theorem hostRecord_stored {t : State} {b : List Byte} (a : Nat) (wf : s.vat.wf = true) (long : b.length = 256)
    (final : t.vat = (if ephCrcOk (s.vat.reads a 256) = true then s.vat.writes (a + 256) (s.vat.reads a 256) else s.vat).writes a (hostRecord b)) :
    t.vat.reads a 252 = b.take 2 ++ leBytes 1 1 ++ (b.drop 3).take 0xF9 ∧
    t.vat.reads (a + 252) 4 = leBytes 4 (crc32 (b.take 2 ++ leBytes 1 1 ++ (b.drop 3).take 0xF9)) ∧
    t.vat.reads (a + 256) 256 = if ephCrcOk (s.vat.reads a 256) then s.vat.reads a 256 else s.vat.reads (a + 256) 256 := by
  obtain ⟨body, whole⟩ := hostRecord_lengths long
  have wfUpper : (if ephCrcOk (s.vat.reads a 256) = true then s.vat.writes (a + 256) (s.vat.reads a 256) else s.vat).wf = true := by
    split
    · exact Memory.wf_writes _ _ _ wf
    · exact wf
  have stored := Memory.reads_writes _ a (hostRecord b) wfUpper
  rw [← final, whole, Memory.reads_append _ _ 252 4] at stored
  obtain ⟨front, back⟩ := List.append_inj stored (by rw [Memory.length_reads, body])
  refine ⟨front, back, ?_⟩
  rw [final, Memory.reads_congr fun x lo hi => Memory.read_writes_other _ _ _ _ wfUpper (by rw [whole]; omega)]
  split
  · simpa only [Memory.length_reads] using Memory.reads_writes _ (a + 256) (s.vat.reads a 256) wf
  · rfl

/-- Settles O13. -/
theorem navigationDataCommandsComplete : Obligations.NavigationDataCommandsComplete := by
  refine ⟨?_, ?_, ?_, ?_, ?_, ?_, ?_, ?_⟩
  · intro s h count addr d a range data wf
    obtain ⟨only, bytes⟩ := (ephLoad_kept h count addr d a range data).tail (State.settle_kept _).any
    exact ⟨_, rfl, (bytes wf).2, only⟩
  · intro s h addr slot d b a range data known sound wf may may' may'' clean
    obtain ⟨v, w, hv, vatc, hw, after⟩ := ephLoad_one h addr slot d b a range data known sound may clean
    have settled := after.settle
    have long : b.length = 256 := by simpa using (Bool.and_eq_true_iff.1 sound).1
    obtain ⟨body, whole⟩ := hostRecord_lengths long
    have vat := v.ephReplace_vat slot (s.vat.reads (ephAddr slot) 256) (hostRecord b) 11 (by decide) (vatc ▸ clean)
      ((hv.regions.vatMay (by decide) _ _ _).trans (by rw [whole]; exact may'))
      ((hv.regions.vatMay (by decide) _ _ _).trans (by rw [Memory.length_reads]; exact may''))
    have final : (s.awake (runEphLoad h 1 addr d)).settle.vat =
        (if ephCrcOk (s.vat.reads (ephAddr slot) 256) = true then s.vat.writes (ephAddr slot + 256) (s.vat.reads (ephAddr slot) 256) else s.vat).writes
          (ephAddr slot) (hostRecord b) := by
      rw [settled.vat, ((Keeps.refl (l := [GNSSN.EPH_NEW_CNT]) w).incIn _ (by simp)).vat, hw.vat, vat, hv.vat]
    obtain ⟨front, back, upper⟩ := hostRecord_stored (ephAddr slot) wf long final
    refine ⟨_, rfl, front, back, upper, ?_⟩
    have start : w.get GNSSN.EPH_NEW_CNT = s.get GNSSN.EPH_NEW_CNT := by
      have stored := (Wrote.of (r := [(ephAddr slot, ephAddr slot + 512)]) hv).ephReplace slot (s.vat.reads (ephAddr slot) 256) (hostRecord b) 11
        (by rw [Memory.length_reads]) whole.le ⟨_, List.mem_singleton_self _, le_rfl, le_rfl⟩
      rw [hw.read _ (by decide), stored.1.read _ (by decide) (by decide)]
    rw [settled.read _ (by decide), ← start]
    exact State.incBy_get _ _ _ rfl (by decide)
  · intro s h count addr d b a few range data long wf may
    obtain ⟨v, hv, vat, after⟩ := almLoad_writes h count addr d b a few range data long may
    have settled := after.settle
    have wrote := (Wrote.of hv).trans (v.vatWrite_wrote 11 (almAddr 0) b)
    refine ⟨_, rfl, ?_, ?_, (wrote.tail settled).1⟩
    · rw [settled.vat, vat, ← long]
      exact Memory.reads_writes _ _ _ wf
    · have ends : almAddr 0 + b.length = almAddr count := by simp only [almAddr]; omega
      rw [ends] at wrote
      exact ((wrote.tail settled).2 wf).2
  · intro s h slot addr a hs may clean ring ok
    obtain ⟨out, kept⟩ := ephRead_reads h slot addr a hs may clean ring ok
    exact ⟨_, rfl, (State.settle_kept _).mem out, kept.settle⟩
  · intro s h mask a mode wf
    obtain ⟨v, hv, after⟩ := navReset_erases h mask a mode
    have settled := after.settle
    have first := (Wrote.of hv).trans (v.eraseSats_wrote mask)
    have wrote := first.trans ((v.eraseSats mask).eraseGlobs_wrote mask (List.replicate 128 0) 5 List.length_replicate le_rfl)
    refine ⟨_, rfl, settled.nav, fun i hi named may => ?_, ?_, ?_⟩
    · rw [settled.vat]
      exact (v.eraseSats mask).eraseGlobs_reads mask (List.replicate 128 0) 5 List.length_replicate le_rfl (first.2 wf).1 i hi named
        ((first.regions.vatMay (by decide) _ _ _).trans may)
    · exact ((wrote.2.tail settled.vat) wf).2
    · exact ((wrote.1.parts rfl (by simp)).set_nav rfl _).tail (settled.more (by simp +contextual [navShown]))
  · intro s n ty raw item awake hn on known bad
    have run := Decodes.fails ⟨hn, on, known⟩ raw item bad
    have settled := (s.awake (runNavUnitDecoded n ty raw item)).settle_kept
    rw [State.awake_eq awake, run] at settled
    refine ⟨_, rfl, ?_, ?_⟩ <;> rw [State.awake_eq awake, run]
    · rw [settled.read _ (by decide)]
      exact State.incBy_get _ _ _ rfl (by decide)
    · exact Keeps.trans ((Keeps.refl _).incIn _ (by simp)) settled.any
  · intro s n ty e raw tx awake hn on known good there
    have run := Decodes.passes ⟨hn, on, known⟩ raw (.align e tx) good
    have settled := (s.awake (runNavUnitDecoded n ty raw (.align e tx))).settle_kept
    rw [State.awake_eq awake, run] at settled
    refine ⟨_, rfl, ?_⟩
    rw [State.awake_eq awake, run]
    refine Keeps.trans ?_ settled.any
    have aligned : nth ((s.passed n).navUse n (.align e tx)).nav.align n none = some (e, tx) := nth_setNth_same _ _ _ _ there
    simp only [aligned, Option.isSome_some, true_and]
    show Keeps [] _ (if 2 ≤ nth s.nav.passes n 0 + 1 ∨ (nth s.nav.sync n none).isSome = true then _ else _)
    split_ifs <;> exact Keeps.refl _
  · intro s n ty raw item awake hn on known good wf offset
    have run := Decodes.passes ⟨hn, on, known⟩ raw item good
    have settled := (s.awake (runNavUnitDecoded n ty raw item)).settle_kept
    rw [State.awake_eq awake, run] at settled
    have used := NavKept.navUse (NavKept.of (Keeps.refl (s.passed n))) n item offset
    obtain ⟨only, bytes, passes⟩ := used.synced n ((nth ((s.passed n).navUse n item).nav.align n none).isSome = true ∧
      (2 ≤ nth s.nav.passes n 0 + 1 ∨ (nth ((s.passed n).navUse n item).nav.sync n none).isSome = true))
    refine ⟨_, rfl, ?_⟩
    rw [State.awake_eq awake, run]
    refine ⟨(congrArg NavSt.passes settled.nav).trans passes, ((bytes.tail settled.vat) wf).2, ?_⟩
    exact Only.tail (Only.trans ((Only.refl s).set_nav rfl _) only) settled.any

end Sys2Proof.Machine
end

section
/-! A position register whose low half was staged with more than 32 bits. -/

namespace Sys2Proof.Machine

/-- After reset, with an unlock of PF0 and a value of 33 bits staged for the low half of POS_X. -/
def wideHalf : State :=
  { State.reset with glb := { State.reset.glb with unlocks := [⟨.pf0, 0⟩], stagedLo := [(0x100020, 2 ^ 32)] } }

theorem wideHalf_stores : ((wideHalf.awake (runPosWrite .pf0 0x100024 0)).settle).get ⟨32 * 0x100020, 64, 0⟩ / 2 ^ 32 = 1 := by decide +kernel

/-- Refutes O14: a staged low half is joined whole (R5), so that one of more than 32 bits carries into the high half that is written. -/
theorem not_positionCommandsComplete : ¬ Obligations.PositionCommandsComplete := by
  rintro ⟨-, -, -, -, -, -, -, -, write, -⟩
  obtain ⟨t, ht, -, -, high, -⟩ := write wideHalf .pf0 0x100024 0 rfl (by decide) (by decide) (by decide +kernel) (by decide +kernel) rfl
  have stored : t.get ⟨32 * 0x100020, 64, 0⟩ / 2 ^ 32 = 1 := Host.Outcome.next.inj ht ▸ wideHalf_stores
  exact absurd (stored.symm.trans high) (by decide)

end Sys2Proof.Machine
end

section
/-! Bus writes of registers that need no unlock (R5, R450, R455). -/

namespace Sys2Proof.Machine

variable {ps : List Part} {l : List Fld} {s t u : State}

/-- A field of a register that any write stores whole, unless it is read-only. -/
def plainRow (p : Row × Nat) : Bool := p.1.half == .whole && p.1.acc != .rwl && p.1.acc != .rwt && decide (p.1.lsb < 32)

theorem plainRow_iff (p : Row × Nat) : plainRow p = true ↔ p.1.half = .whole ∧ p.1.acc ≠ .rwl ∧ p.1.acc ≠ .rwt ∧ p.1.lsb < 32 := by
  simp [plainRow, and_assoc]

theorem Row.fld_whole {r : Row} (whole : r.half = .whole) (a i : Nat) : r.fld a i = ⟨32 * a + r.lsb, r.w, rstAt r.rst i⟩ := by
  unfold Row.fld
  rw [whole]

theorem plain_not_rwl {rows : List (Row × Nat)} (plain : rows.all plainRow = true) : rows.any (fun p => p.1.acc == .rwl) = false := by
  refine List.any_eq_false.2 fun p mp => ?_
  obtain ⟨-, unlocked, -, -⟩ := (plainRow_iff p).1 (List.all_eq_true.1 plain p mp)
  simpa using unlocked

theorem State.useUnlock_only (s : State) (o : Origin) : Only [.glb] unlockFlags s (s.useUnlock o).2 := by
  unfold State.useUnlock
  dsimp only
  have cleared : Only [.glb] unlockFlags s { s with glb := { s.glb with unlocks := s.glb.unlocks.filter (fun u => u.origin != o) } } :=
    (Only.refl s).set_glb rfl _
  split
  · exact cleared.putBK _ _ ⟨_, by simp [unlockFlags], rfl⟩
  · split
    · exact cleared.putBK _ _ ⟨_, by simp [unlockFlags], rfl⟩
    · exact cleared

theorem State.useUnlock_votes (s : State) (o : Origin) : (s.useUnlock o).2.glb.voteFailed = s.glb.voteFailed := by
  unfold State.useUnlock
  dsimp only
  split_ifs <;> rfl

/-- The state in which a write's fields are stored and its change is journaled. -/
def State.stored (s : State) (o : Origin) (a v : Nat) : State :=
  let x := (s.useUnlock o).2.storeFields a v
  let y := { x with glb := { x.glb with stagedLo := x.glb.stagedLo.filter (fun q => q.1 != a - 4) } }
  y.journalWrite o a ((s.useUnlock o).2.wholeReg a) (y.wholeReg a)

theorem State.stored_only (s : State) (o : Origin) (a v : Nat) : Only [.glb] [] ((s.useUnlock o).2.storeFields a v) (s.stored o a v) :=
  ((Only.refl _).set_glb rfl _).journalWrite _ _ _ _

/-- A write of a register of plain fields stores them, and what it does beside runs in the state that holds them. -/
theorem State.busStore_plain {o : Origin} {a : Nat} {rows : List (Row × Nat)} (v : Nat) (after : State → State) (read : rowsAt a = rows) (some : rows ≠ [])
    (plain : rows.all plainRow = true) (ho : o ≠ .pf1) (votes : s.glb.voteFailed = []) :
    s.busStore o a v true true after = after (s.stored o a v) := by
  have held : (rowsAt a).any (fun p => (s.useUnlock o).2.glb.voteFailed.contains (p.1.fld a p.2).key) = false := by
    rw [s.useUnlock_votes, votes]
    exact List.any_eq_false.2 fun _ _ => Bool.false_ne_true
  have unlocked : regHas a .rwl = false := by rw [regHas, read, plain_not_rwl plain]
  unfold State.busStore
  refine (if_neg ho).trans ((if_neg (by rw [read]; simpa using some)).trans ((if_neg (by rw [unlocked, Bool.and_false]; exact Bool.false_ne_true)).trans
    ((if_neg fun low => ?_).trans ((if_neg (by rw [unlocked, held]; exact Bool.false_ne_true)).trans (if_neg Bool.false_ne_true)))))
  obtain ⟨p, mp, low⟩ := List.any_eq_true.1 low
  obtain ⟨whole, -⟩ := (plainRow_iff p).1 (List.all_eq_true.1 plain p (read ▸ mp))
  rw [whole] at low
  exact Bool.false_ne_true low

/-! ### The fields that such a write stores -/

/-- A write's effect on one plain field. -/
def storeRow (a v : Nat) (s : State) (p : Row × Nat) : State :=
  if p.1.ok.ok (bits v p.1.lsb p.1.w) = true ∧ p.1.acc = .rw then s.put (p.1.fld a p.2) (bits v p.1.lsb p.1.w) else s

theorem State.storeFields_plain (s : State) {a : Nat} {rows : List (Row × Nat)} (v : Nat) (read : rowsAt a = rows) (plain : rows.all plainRow = true) :
    s.storeFields a v = rows.foldl (storeRow a v) s := by
  unfold State.storeFields
  rw [read]
  clear read
  induction rows generalizing s with
  | nil => rfl
  | cons p rows ih =>
    obtain ⟨mine, rest⟩ := Bool.and_eq_true_iff.1 plain
    obtain ⟨whole, unlocked, single, -⟩ := (plainRow_iff p).1 mine
    rw [List.foldl_cons, List.foldl_cons, ← ih _ rest]
    congr 1
    unfold storeRow
    simp only [whole]
    split
    · next fits => cases h : p.1.acc <;> simp_all
    · next none => rw [if_neg fun h => none h.1]

theorem storeRow_only (a v : Nat) (s : State) {p : Row × Nat} (plain : plainRow p = true) : Only ps (regBlock a (a + 1)) s (storeRow a v s p) := by
  obtain ⟨whole, -, -, low⟩ := (plainRow_iff p).1 plain
  unfold storeRow
  split
  · refine (Only.refl s).putK _ _ (mem_block ?_ ?_) <;> rw [Row.fld_whole whole] <;> dsimp only <;> omega
  · exact Only.refl s

theorem State.storeFields_only (s : State) {a : Nat} {rows : List (Row × Nat)} (v : Nat) (read : rowsAt a = rows) (plain : rows.all plainRow = true) :
    Only ps (regBlock a (a + 1)) s (s.storeFields a v) := by
  rw [s.storeFields_plain v read plain]
  exact Only.foldlMem _ _ (fun x p mp => storeRow_only a v x (List.all_eq_true.1 plain p mp)) (Only.refl s)

/-- A field keeps its value where the later fields of the register lie elsewhere. -/
theorem foldl_storeRow_other (a v : Nat) (s : State) (f : Fld) {rows : List (Row × Nat)} (plain : rows.all plainRow = true)
    (other : ∀ p ∈ rows, f.key ≠ 32 * a + p.1.lsb) : (rows.foldl (storeRow a v) s).get f = s.get f := by
  induction rows generalizing s with
  | nil => rfl
  | cons p rows ih =>
    obtain ⟨mine, rest⟩ := Bool.and_eq_true_iff.1 plain
    obtain ⟨whole, -⟩ := (plainRow_iff p).1 mine
    rw [List.foldl_cons, ih _ rest fun q mq => other q (List.mem_cons_of_mem _ mq)]
    unfold storeRow
    split
    · rw [Row.fld_whole whole]
      exact State.get_put_other _ _ _ _ (other p List.mem_cons_self)
    · rfl

/-- A writable field of the register takes its bits of the value, where the map allows them. -/
theorem State.storeFields_row (s : State) {a : Nat} {rows pre post : List (Row × Nat)} {p : Row × Nat} (v : Nat) (f : Fld) (read : rowsAt a = rows)
    (plain : rows.all plainRow = true) (at_ : rows = pre ++ p :: post) (others : ∀ q ∈ pre ++ post, q.1.lsb ≠ p.1.lsb) (writable : p.1.acc = .rw)
    (key : f.key = 32 * a + p.1.lsb) (width : f.width = p.1.w) :
    (s.storeFields a v).get f = if p.1.ok.ok (bits v p.1.lsb p.1.w) = true then bits v p.1.lsb p.1.w else s.get f := by
  have mine := List.all_eq_true.1 plain p (by rw [at_]; simp)
  have before : pre.all plainRow = true := List.all_eq_true.2 fun q mq => List.all_eq_true.1 plain q (by rw [at_]; simp [mq])
  have behind : post.all plainRow = true := List.all_eq_true.2 fun q mq => List.all_eq_true.1 plain q (by rw [at_]; simp [mq])
  have apart {q : Row × Nat} (mq : q ∈ pre ++ post) : f.key ≠ 32 * a + q.1.lsb := by rw [key]; exact fun e => others q mq (by omega)
  obtain ⟨whole, -⟩ := (plainRow_iff p).1 mine
  rw [s.storeFields_plain v read plain, at_, List.foldl_append, List.foldl_cons,
    foldl_storeRow_other a v _ f behind fun q mq => apart (List.mem_append_right _ mq)]
  unfold storeRow
  by_cases fits : p.1.ok.ok (bits v p.1.lsb p.1.w) = true
  · rw [if_pos fits, if_pos ⟨fits, writable⟩, Row.fld_whole whole, ← key]
    simp only [State.get, State.put, RegFile.get, RegFile.put, RegFile.find_insert_same, Option.getD_some, width, bits, Nat.mod_mod]
  · rw [if_neg fits, if_neg fun h => fits h.1]
    exact foldl_storeRow_other a v _ f before fun q mq => apart (List.mem_append_left _ mq)

/-- A field that any value fits reads what was written to it. -/
theorem State.storeFields_get (s : State) {a : Nat} {rows pre post : List (Row × Nat)} {p : Row × Nat} (v : Nat) (f : Fld) (read : rowsAt a = rows)
    (plain : rows.all plainRow = true) (at_ : rows = pre ++ p :: post) (others : ∀ q ∈ pre ++ post, q.1.lsb ≠ p.1.lsb) (writable : p.1.acc = .rw)
    (free : p.1.ok = .any) (key : f.key = 32 * a + p.1.lsb) (width : f.width = p.1.w) : (s.storeFields a v).get f = bits v p.1.lsb p.1.w :=
  (s.storeFields_row v f read plain at_ others writable key width).trans (if_pos (by rw [free]; rfl))

/-- What a plain write leaves: a field of no other place changes. -/
theorem State.stored_plain (s : State) (o : Origin) {a : Nat} {rows : List (Row × Nat)} (v : Nat) (read : rowsAt a = rows) (plain : rows.all plainRow = true) :
    Only [.glb] (regBlock a (a + 1) ++ unlockFlags) s (s.stored o a v) := by
  refine ((s.useUnlock_only o).more ?_).trans ((((s.useUnlock o).2.storeFields_only v read plain).more ?_).trans ((s.stored_only o a v).more (by simp)))
  · exact fun k ⟨d, m, e⟩ => ⟨d, List.mem_append_right _ m, e⟩
  · exact fun k ⟨d, m, e⟩ => ⟨d, List.mem_append_left _ m, e⟩

end Sys2Proof.Machine
end

section
/-! Reference slots. -/

namespace Sys2Proof.Machine

variable {ps : List Part} {l : List Fld} {s t u : State}

/-! ### What a slot shows -/

/-- A field of the reference block behind REFSEL_STATUS, which bookkeeping leaves alone. -/
theorem refsel_quiet {k : Nat} (lo : 32 * 0x110004 ≤ k) (hi : k < 32 * 0x120000) : noisy k = false := noisy_gaps (by omega)

theorem refsel_mem {k : Nat} (lo : 32 * 0x110000 ≤ k) (hi : k < 32 * 0x120000) : ∃ d ∈ regBlock 0x110000 0x120000, k = d.key := mem_block lo hi

/-- The fields of a slot that its judgement writes. -/
def slotShown (n : Nat) : List Fld := [REFSEL.REF_STAT_CAUSE n, REFSEL.REF_STAT_STATE n, REFSEL.REF_TIMER n]

theorem slotShown_block {n : Nat} (hn : n < 16) {k : Nat} (m : ∃ d ∈ slotShown n, k = d.key) : ∃ d ∈ regBlock 0x110000 0x120000, k = d.key := by
  obtain ⟨d, m, rfl⟩ := m
  simp only [slotShown, List.mem_cons, List.not_mem_nil, or_false] at m
  rcases m with rfl | rfl | rfl <;>
    exact refsel_mem (by simp only [REFSEL.REF_STAT_CAUSE, REFSEL.REF_STAT_STATE, REFSEL.REF_TIMER]; omega)
      (by simp only [REFSEL.REF_STAT_CAUSE, REFSEL.REF_STAT_STATE, REFSEL.REF_TIMER]; omega)

/-- The reference block's state but for the stores of the slots. -/
def RefSt.bare (r : RefSt) : RefSt := { r with slots := [] }

/-- Beside the fields named, only the stores of the slots change. -/
def InSlots (l : List Fld) (s t : State) : Prop := Only [.ref] l s t ∧ t.ref.bare = s.ref.bare

theorem InSlots.refl (s : State) : InSlots l s s := ⟨Only.refl s, rfl⟩

theorem InSlots.trans (h : InSlots l s t) (g : InSlots l t u) : InSlots l s u := ⟨h.1.trans g.1, g.2.trans h.2⟩

theorem InSlots.tail (h : InSlots l s t) (k : Keeps l t u) : InSlots l s u := ⟨h.1.tail k, by rw [k.ref]; exact h.2⟩

theorem InSlots.setSlot (h : InSlots l s t) (n : Nat) (r : RefSlot) : InSlots l s (t.setSlot n r) := ⟨h.1.set_ref rfl _, h.2⟩

theorem InSlots.putK (h : InSlots l s t) (f : Fld) (v : Nat) (m : ∃ d ∈ l, f.key = d.key) : InSlots l s (t.put f v) := h.tail ((Keeps.refl t).putK f v m)

theorem InSlots.ite {c : Prop} [Decidable c] {a b : State} (h : InSlots l s a) (g : InSlots l s b) : InSlots l s (if c then a else b) := by
  split <;> assumption

theorem InSlots.slotGo (h : InSlots l s t) (n state timer : Nat) (m : ∃ d ∈ l, (REFSEL.REF_STAT_STATE n).key = d.key)
    (m' : ∃ d ∈ l, (REFSEL.REF_TIMER n).key = d.key) : InSlots l s (t.slotGo n state timer) := by
  have put (x : State) (hx : InSlots l s x) : InSlots l s (x.puts [(REFSEL.REF_STAT_STATE n, state), (REFSEL.REF_TIMER n, timer)]) :=
    (hx.putK _ _ m).putK _ _ m'
  unfold State.slotGo
  exact put _ (InSlots.ite (h.setSlot _ _) h)

theorem InSlots.slotFail (h : InSlots l s t) (n : Nat) (m : ∃ d ∈ l, (REFSEL.REF_STAT_STATE n).key = d.key)
    (m' : ∃ d ∈ l, (REFSEL.REF_TIMER n).key = d.key) : InSlots l s (t.slotFail n) := by
  unfold State.slotFail
  exact InSlots.ite (((h.setSlot _ _).slotGo n 1 0 m m').tail ((Keeps.refl _).paidEvent _ _ _ _ _)) (h.slotGo n 1 0 m m')

theorem InSlots.slotJudge (h : InSlots l s t) (n : Nat) (m : ∀ k, (∃ d ∈ slotShown n, k = d.key) → ∃ d ∈ l, k = d.key) :
    InSlots l s (t.slotJudge n) := by
  have cause := m _ ⟨REFSEL.REF_STAT_CAUSE n, by simp [slotShown], rfl⟩
  have state := m _ ⟨REFSEL.REF_STAT_STATE n, by simp [slotShown], rfl⟩
  have timer := m _ ⟨REFSEL.REF_TIMER n, by simp [slotShown], rfl⟩
  have judged (x : State) (hx : InSlots l s x) (mask : Nat) :
      InSlots l s ((x.put (REFSEL.REF_STAT_CAUSE n) mask).setSlot n { x.slot n with fail := mask }) := (hx.putK _ _ cause).setSlot _ _
  have started : InSlots l s (if t.slotLos n then t.restartWindow n else t) := InSlots.ite (h.setSlot _ _) h
  unfold State.slotJudge
  split
  · exact h
  · dsimp only
    refine InSlots.ite (InSlots.slotFail ?_ n state timer) ?_ <;> exact InSlots.ite ((judged _ started _).setSlot _ _) (judged _ started _)

theorem State.slotJudge_shown (s : State) (n : Nat) : InSlots (slotShown n) s (s.slotJudge n) := (InSlots.refl s).slotJudge n fun _ m => m

/-! ### Measurements (R149) -/

/-- A measurement leaves what waits for the other slots. -/
def SameSamples (s t : State) : Prop :=
  t.ref.up = s.ref.up ∧ t.ref.upNew = s.ref.upNew ∧ t.ref.upUsed = s.ref.upUsed ∧ t.ref.peer = s.ref.peer ∧ t.ref.peerNew = s.ref.peerNew ∧
    t.ref.peerUsed = s.ref.peerUsed

theorem InSlots.samples (h : InSlots l s t) : SameSamples s t := by
  have same {α : Type} (g : RefSt → α) : g t.ref.bare = g s.ref.bare := congrArg g h.2
  exact ⟨same RefSt.up, same RefSt.upNew, same RefSt.upUsed, same RefSt.peer, same RefSt.peerNew, same RefSt.peerUsed⟩

theorem SameSamples.trans (h : SameSamples s t) (g : SameSamples t u) : SameSamples s u := by
  obtain ⟨a1, a2, a3, a4, a5, a6⟩ := h
  obtain ⟨b1, b2, b3, b4, b5, b6⟩ := g
  exact ⟨b1.trans a1, b2.trans a2, b3.trans a3, b4.trans a4, b5.trans a5, b6.trans a6⟩

/-- What a measurement does to the registers and the store of its slot. -/
theorem State.takeTheta_eq (s : State) (n : Nat) (event theta : Int) :
    ∃ r x, s.takeTheta n event theta = { (((s.setSlot n r).charge0 15).puti (REFSEL.REF_PHASE n) (satS 40 theta)) with ref := x } ∧
      SameSamples s (s.takeTheta n event theta) := by
  unfold State.takeTheta SameSamples
  dsimp only
  split_ifs <;> refine ⟨_, _, rfl, ?_⟩ <;> simp [State.setSlot, State.puti, State.put, ((Keeps.refl (l := []) _).charge0 _).ref]

theorem State.takeTheta_only (s : State) (n : Nat) (event theta : Int) : Only [.ref] [REFSEL.REF_PHASE n] s (s.takeTheta n event theta) := by
  obtain ⟨r, x, e, -⟩ := s.takeTheta_eq n event theta
  rw [e]
  exact ((((InSlots.refl s).setSlot n r).1.charge0 15).putiK _ _ ⟨_, List.mem_singleton_self _, rfl⟩).set_ref rfl x

theorem State.takeTheta_phase (s : State) (n : Nat) (event theta : Int) : (s.takeTheta n event theta).geti (REFSEL.REF_PHASE n) = satS 40 theta := by
  obtain ⟨r, x, e, -⟩ := s.takeTheta_eq n event theta
  rw [e]
  exact State.geti_puti _ _ 39 _ rfl (satS_range 40 theta).1 (satS_range 40 theta).2

theorem phase_block {n : Nat} (hn : n < 16) {k : Nat} (m : ∃ d ∈ [REFSEL.REF_PHASE n], k = d.key) : ∃ d ∈ regBlock 0x110000 0x120000, k = d.key := by
  obtain ⟨d, m, rfl⟩ := m
  rw [List.mem_singleton.1 m]
  exact refsel_mem (by simp only [REFSEL.REF_PHASE]; omega) (by simp only [REFSEL.REF_PHASE]; omega)

/-- A slot's measurement is taken in and judged. -/
theorem State.measured (s : State) {n : Nat} (hn : n < 16) (event theta : Int) :
    Only [.ref] (regBlock 0x110000 0x120000) s ((s.takeTheta n event theta).slotJudge n) ∧
      ((s.takeTheta n event theta).slotJudge n).geti (REFSEL.REF_PHASE n) = satS 40 theta ∧ SameSamples s ((s.takeTheta n event theta).slotJudge n) := by
  have judged := (s.takeTheta n event theta).slotJudge_shown n
  obtain ⟨-, -, -, samples⟩ := s.takeTheta_eq n event theta
  refine ⟨((s.takeTheta_only n event theta).more fun _ => phase_block hn).trans (judged.1.more fun _ => slotShown_block hn), ?_, samples.trans judged.samples⟩
  rw [← s.takeTheta_phase n event theta, State.geti, State.geti, judged.1.read _ (refsel_quiet _ _)] <;>
    simp only [slotShown, List.forall_mem_cons, List.not_mem_nil, REFSEL.REF_STAT_CAUSE, REFSEL.REF_STAT_STATE, REFSEL.REF_TIMER, REFSEL.REF_PHASE]
  · exact ⟨by omega, by omega, by omega, fun _ x => x.elim⟩
  all_goals omega

/-- An edge of a slot's source is taken in and judged. -/
theorem State.edgeMeasured_only (s : State) {n : Nat} (hn : n < 16) (r : MeasRec) :
    Only [.ref] (regBlock 0x110000 0x120000) { s with tdc := { s.tdc with inbox := s.tdc.inbox.erase r } } (s.edgeMeasured n r) := by
  have taken (x : State) (e theta : Int) : Only [.ref] (regBlock 0x110000 0x120000) x (x.takeTheta n e theta) :=
    (x.takeTheta_only n e theta).more fun _ => phase_block hn
  unfold State.edgeMeasured
  dsimp only
  split
  · split
    · exact ((InSlots.refl _).tail ((Keeps.refl _).charge0 15)).1.set_ref rfl _
    · exact (taken _ _ _).set_ref rfl _
  · split
    · exact Only.refl _
    · exact ((InSlots.refl _).setSlot _ _).1.trans (taken _ _ _)

/-! ### Whole seconds (R151, R159) -/

/-- Beside the reference block nothing changes, and a disabled slot stays disabled. -/
def SecondKept (s t : State) : Prop := Only [.ref] (regBlock 0x110000 0x120000) s t ∧ ∀ n < 16, s.slotState n = 0 → t.slotState n = 0

theorem SecondKept.refl (s : State) : SecondKept s s := ⟨Only.refl s, fun _ _ h => h⟩

/-- Fields of the block that are no slot's state. -/
def offStates (l : List Fld) : Prop :=
  ∀ d ∈ l, 32 * 0x110000 ≤ d.key ∧ d.key < 32 * 0x120000 ∧ ∀ n < 16, (REFSEL.REF_STAT_STATE n).key ≠ d.key

theorem SecondKept.trans (h : SecondKept s t) (g : SecondKept t u) : SecondKept s u := ⟨h.1.trans g.1, fun n hn e => g.2 n hn (h.2 n hn e)⟩

theorem state_quiet {n : Nat} (hn : n < 16) : noisy (REFSEL.REF_STAT_STATE n).key = false :=
  refsel_quiet (by simp only [REFSEL.REF_STAT_STATE]; omega) (by simp only [REFSEL.REF_STAT_STATE]; omega)

theorem SecondKept.tail (h : SecondKept s t) (g : Only [.ref] l t u) (off : offStates l) : SecondKept s u :=
  h.trans ⟨g.more fun _ ⟨d, m, e⟩ => e ▸ refsel_mem (off d m).1 (off d m).2.1,
    fun n hn e => (g.read _ (state_quiet hn) fun d m => (off d m).2.2 n hn).trans e⟩

/-- The fields of a slot that a whole second writes. -/
def slotSecondFields (n : Nat) : List Fld := REFSEL.REF_FREQ n :: REFSEL.REF_STAT_ARBITRATED n :: slotShown n

/-- A slot that is not disabled changes. -/
theorem SecondKept.slot (h : SecondKept s t) {n : Nat} (hn : n < 16) (alive : t.slotState n ≠ 0) (g : Only [.ref] (slotSecondFields n) t u) :
    SecondKept s u := by
  refine h.trans ⟨g.more fun k ⟨d, m, e⟩ => e ▸ ?_, fun m hm e => ?_⟩
  · simp only [slotSecondFields, slotShown, List.mem_cons, List.not_mem_nil, or_false] at m
    rcases m with rfl | rfl | rfl | rfl | rfl <;>
      simp only [REFSEL.REF_FREQ, REFSEL.REF_STAT_ARBITRATED, REFSEL.REF_STAT_CAUSE, REFSEL.REF_STAT_STATE, REFSEL.REF_TIMER] <;>
      exact refsel_mem (by omega) (by omega)
  · have other : m ≠ n := fun x => alive (x ▸ e)
    refine (g.read _ (state_quiet hm) ?_).trans e
    simp only [slotSecondFields, slotShown, List.forall_mem_cons, List.not_mem_nil, REFSEL.REF_FREQ, REFSEL.REF_STAT_ARBITRATED, REFSEL.REF_STAT_CAUSE,
      REFSEL.REF_STAT_STATE, REFSEL.REF_TIMER]
    exact ⟨by omega, by omega, by omega, by omega, by omega, fun _ x => x.elim⟩

theorem shown_second {n : Nat} {k : Nat} (h : ∃ d ∈ slotShown n, k = d.key) : ∃ d ∈ slotSecondFields n, k = d.key := by
  obtain ⟨d, m, e⟩ := h
  exact ⟨d, by simp [slotSecondFields, m], e⟩

theorem SecondKept.slotSecond (h : SecondKept s t) {n : Nat} (hn : n < 16) : SecondKept s (t.slotSecond n) := by
  unfold State.slotSecond
  split
  · exact h
  · next alive =>
    have timer : ∃ d ∈ slotSecondFields n, (REFSEL.REF_TIMER n).key = d.key := shown_second ⟨_, by simp [slotShown], rfl⟩
    have state : ∃ d ∈ slotSecondFields n, (REFSEL.REF_STAT_STATE n).key = d.key := shown_second ⟨_, by simp [slotShown], rfl⟩
    have after (x : State) (hx : InSlots (slotSecondFields n) t x) : InSlots (slotSecondFields n) t
        (if x.slotState n = 1 ∧ (x.slot n).fail = 0 then x.slotGo n 2 (x.get REFSEL.QUAL_CFG_QUAL_S)
        else if x.slotState n = 2 ∨ x.slotState n = 3 then x.put (REFSEL.REF_TIMER n) (x.get (REFSEL.REF_TIMER n) - 1) else x) :=
      InSlots.ite (hx.slotGo _ _ _ state timer) (InSlots.ite (hx.putK _ _ timer) hx)
    refine h.slot hn alive (after _ (InSlots.slotJudge ?_ n fun _ => shown_second)).1
    split
    · exact ((InSlots.refl t).putK _ _ ⟨REFSEL.REF_FREQ n, by simp [slotSecondFields], rfl⟩).setSlot _ _
    · exact InSlots.refl t

/-- The fields that show the pairs in disagreement. -/
def pairsShown : List Fld := REFSEL.REFSEL_STATUS_DISAGREE :: REFSEL.DIS_WIDEN :: REFSEL.DISAGREE_CNT :: (List.range 16).map REFSEL.REF_STAT_SUSPECT

theorem pairsShown_off : offStates pairsShown := by
  simp only [offStates, pairsShown, List.forall_mem_cons, List.forall_mem_map, List.mem_range]
  refine ⟨⟨by decide, by decide, by decide⟩, ⟨by decide, by decide, by decide⟩, ⟨by decide, by decide, by decide⟩, fun j hj => ?_⟩
  simp only [REFSEL.REF_STAT_SUSPECT, REFSEL.REF_STAT_STATE]
  exact ⟨by omega, by omega, fun n hn => by omega⟩

theorem State.showPairs_only (s : State) (p : List DisPair) : Only [.ref] pairsShown s (s.showPairs p) := by
  unfold State.showPairs
  refine Only.putsK (Only.foldlMem _ _ (fun x n hn => ?_) ((Only.refl s).set_ref rfl _)) _ ?_
  · exact (Only.refl x).putBK _ _ ⟨_, by simp only [pairsShown, List.mem_cons, List.mem_map]; exact .inr (.inr (.inr ⟨n, hn, rfl⟩)), rfl⟩
  · simp only [List.forall_mem_cons, List.not_mem_nil]
    exact ⟨⟨_, by simp [pairsShown], rfl⟩, ⟨_, by simp [pairsShown], rfl⟩, fun _ x => x.elim⟩

theorem SecondKept.showPairs (h : SecondKept s t) (p : List DisPair) : SecondKept s (t.showPairs p) := h.tail (t.showPairs_only p) pairsShown_off

theorem qualified_alive {n : Nat} (q : s.qualified n = true) : s.slotState n ≠ 0 := by
  rw [State.qualified, beq_iff_eq] at q
  omega

/-- The loser of a pair fails (R159). -/
theorem SecondKept.loser (h : SecondKept s t) {n : Nat} (hn : n < 16) (q : t.qualified n = true) :
    SecondKept s ((t.putB (REFSEL.REF_STAT_ARBITRATED n) true).slotFail n) := by
  refine h.slot hn (qualified_alive q) (((InSlots.refl t).putK _ _ ⟨REFSEL.REF_STAT_ARBITRATED n, by simp [slotSecondFields], rfl⟩).slotFail n ?_ ?_).1
  · exact ⟨_, by simp [slotSecondFields, slotShown], rfl⟩
  · exact ⟨_, by simp [slotSecondFields, slotShown], rfl⟩

theorem SecondKept.wanted (h : SecondKept s t) (x : RefSt) : SecondKept s { t with ref := x } :=
  h.tail (l := []) ((Only.refl t).set_ref rfl x) fun _ m => absurd m List.not_mem_nil

theorem SecondKept.judgePair (h : SecondKept s t) {a q : Nat} (ha : a < 16) (hq : q < 16) (qa : t.qualified a = true) (qq : t.qualified q = true) :
    SecondKept s (t.judgePair a q) := by
  unfold State.judgePair
  dsimp only
  split
  · split
    · exact h.showPairs _
    · split
      · next loser judged =>
        have either : loser = a ∨ loser = q := by
          split at judged
          · cases judged
          · split at judged
            · cases judged
            · split_ifs at judged
              · exact .inl (Option.some.inj judged).symm
              · exact .inr (Option.some.inj judged).symm
        have lost : SecondKept s ((t.putB (REFSEL.REF_STAT_ARBITRATED loser) true).slotFail loser) := by
          rcases either with rfl | rfl
          · exact h.loser ha qa
          · exact h.loser hq qq
        split
        · exact (lost.wanted _).showPairs _
        · exact lost.showPairs _
      · exact (h.showPairs _).tail (((Only.refl _).incK REFSEL.DISAGREE_CNT ⟨_, by simp [pairsShown], rfl⟩).paidEvent _ _ _ _ _) pairsShown_off
  · exact h.showPairs _

theorem runRefWholeSecond_kept (s : State) : SecondKept s (runRefWholeSecond s) := by
  unfold runRefWholeSecond
  split
  · exact SecondKept.refl s
  · have seconds : SecondKept s ((List.range 16).foldl State.slotSecond s) :=
      foldRange_inv (SecondKept s) _ (SecondKept.refl s) fun x i hi hx => hx.slotSecond hi
    have pruned : SecondKept s ((List.range 16).foldl State.slotSecond s).prunePairs := by
      unfold State.prunePairs
      dsimp only
      split
      · exact seconds
      · exact seconds.showPairs _
    have agreed : SecondKept s ((List.range 16).foldl State.slotSecond s).prunePairs.agreedPairs := by
      unfold State.agreedPairs
      dsimp only
      split
      · exact pruned
      · exact pruned.showPairs _
    dsimp only
    split
    · exact agreed
    · have selected := State.get_lt ((List.range 16).foldl State.slotSecond s).prunePairs.agreedPairs REFSEL.REFSEL_STATUS_SELECTED
      refine foldRange_inv (SecondKept s) _ agreed fun x i hi hx => ?_
      split
      · next both =>
        simp only [Bool.and_eq_true] at both
        exact hx.judgePair selected hi both.1.1.2 both.1.2
      · exact hx

/-! ### Writes of REF_CFGn (R152) -/

/-- The fields of REF_CFGn (Table 7-7). -/
def refCfgRows : List Row :=
  [⟨0x110100, 0x20, 16, 0x0, 1, 0, 1, .rw, [0], .any, .whole, false⟩,
   ⟨0x110100, 0x20, 16, 0x0, 1, 1, 4, .rw, [0, 2, 2, 4, 4, 6, 6, 6, 6, 6, 6, 6, 6, 3, 1, 0], .any, .whole, false⟩,
   ⟨0x110100, 0x20, 16, 0x0, 1, 5, 6, .rw, [0], .any, .whole, false⟩,
   ⟨0x110100, 0x20, 16, 0x0, 1, 12, 4, .rw, [15], .any, .whole, false⟩,
   ⟨0x110100, 0x20, 16, 0x0, 1, 16, 16, .rw, [1000, 1500, 1500, 2, 2, 2, 2, 2, 2, 2, 2, 2, 2, 3000, 2, 1], (.range 1 65535), .whole, false⟩]

theorem rowsAt_refCfg : ∀ n < 16, rowsAt (0x110100 + 0x20 * n) = refCfgRows.map (·, n) := by decide +kernel

/-- A write of a REF_CFGn stores its fields, and the slot follows ENABLE. -/
theorem refCfgWrite_stores {o : Origin} {n : Nat} (v : Nat) (hn : n < 16) (ho : o ≠ .pf1) (votes : s.glb.voteFailed = []) :
    ∃ w, Only [.ref, .glb] (regBlock 0x110000 0x120000 ++ unlockFlags) s w ∧ w.flag (REFSEL.REF_CFG_ENABLE n) = (v % 2 == 1) ∧
      w.slotState n = s.slotState n ∧ s.refCfgWrite o n v = w.afterRefCfg n := by
  have rows := rowsAt_refCfg n hn
  have plain : (refCfgRows.map (·, n)).all plainRow = true := by rw [List.all_map]; rfl
  have used := s.useUnlock_only o
  have fields := (s.useUnlock o).2.storeFields_only (ps := []) v rows plain
  have stored := s.stored_only o (0x110100 + 0x20 * n) v
  have enable := (s.useUnlock o).2.storeFields_get (pre := []) v (REFSEL.REF_CFG_ENABLE n) rows plain rfl
    (by simp) rfl rfl rfl rfl
  have quiet {k : Nat} (lo : 32 * (0x110100 + 0x20 * n) ≤ k) (hi : k < 32 * (0x110100 + 0x20 * n) + 1024) : noisy k = false :=
    refsel_quiet (by omega) (by omega)
  refine ⟨s.stored o (0x110100 + 0x20 * n) v, ?_, ?_, ?_, State.busStore_plain v _ rows (by simp [refCfgRows]) plain ho votes⟩
  · refine (used.parts rfl ?_).trans ((fields.parts rfl ?_).trans (stored.parts rfl (by simp)))
    · exact fun k ⟨d, m, e⟩ => ⟨d, List.mem_append_right _ m, e⟩
    · intro k h
      obtain ⟨d, m, e⟩ := regBlock_sub (lo := 0x110000) (hi := 0x120000) (by omega) (by omega) h
      exact ⟨d, List.mem_append_left _ m, e⟩
  · rw [State.flag, stored.read _ (quiet (by simp only [REFSEL.REF_CFG_ENABLE]; omega) (by simp only [REFSEL.REF_CFG_ENABLE]; omega)) (by simp), enable]
    simp [bits]
  · have away : ∀ d ∈ unlockFlags, (REFSEL.REF_STAT_STATE n).key ≠ d.key := by
      simp only [unlockFlags, List.forall_mem_cons, List.not_mem_nil, REFSEL.REF_STAT_STATE, GLB.GLB_STATUS_UNLOCK_PF0, GLB.GLB_STATUS_UNLOCK_MSPI]
      exact ⟨by omega, by omega, fun _ x => x.elim⟩
    rw [State.slotState, stored.read _ (state_quiet hn) (by simp), fields.readB _ (state_quiet hn) (by simp only [REFSEL.REF_STAT_STATE]; omega),
      used.read _ (state_quiet hn) away]
    rfl

/-- The block's fields within a frame that also names the unlock flags. -/
theorem refsel_frame {k : Nat} (lo : 32 * 0x110000 ≤ k) (hi : k < 32 * 0x120000) : ∃ d ∈ regBlock 0x110000 0x120000 ++ unlockFlags, k = d.key := by
  obtain ⟨d, m, e⟩ := refsel_mem lo hi
  exact ⟨d, List.mem_append_left _ m, e⟩

/-- REF_STATn shows the assigned quality level of a slot that is not SyncE. -/
def State.showQl (s : State) (n : Nat) : State := if synceSlot n then s else s.put (REFSEL.REF_STAT_RX_SSM n) (s.get (REFSEL.REF_CFG_QL_ASSIGN n))

theorem State.showQl_only (s : State) (n : Nat) : Only ps [REFSEL.REF_STAT_RX_SSM n] s (s.showQl n) :=
  Only.ite' (Only.refl s) ((Only.refl s).putK _ _ ⟨_, List.mem_singleton_self _, rfl⟩)

theorem showQl_quiet {n : Nat} (f : Fld) (q : noisy f.key = false) (off : f.key ≠ (REFSEL.REF_STAT_RX_SSM n).key) : (s.showQl n).get f = s.get f :=
  (s.showQl_only (ps := []) n).read f q fun _ m => List.mem_singleton.1 m ▸ off

theorem State.slotGo_shows (s : State) (n state timer : Nat) (hs : state < 8) (ht : timer < 2 ^ 16) :
    (s.slotGo n state timer).slotState n = state ∧ (s.slotGo n state timer).get (REFSEL.REF_TIMER n) = timer := by
  unfold State.slotGo State.slotState
  simp only [State.puts_cons, State.puts_nil]
  refine ⟨?_, State.get_put_fits _ _ _ ht⟩
  rw [State.get_put_other _ _ _ _ (by simp only [REFSEL.REF_STAT_STATE, REFSEL.REF_TIMER]; omega)]
  exact State.get_put_fits _ _ _ hs

theorem State.slotGo_only (s : State) (n state timer : Nat) :
    Only [.ref] [REFSEL.REF_STAT_STATE n, REFSEL.REF_TIMER n] s (s.slotGo n state timer) :=
  ((InSlots.refl s).slotGo n state timer ⟨_, by simp, rfl⟩ ⟨_, by simp, rfl⟩).1

/-- The fields of a slot that a write of REF_CFGn changes beside those it stores. -/
theorem slotCfg_block {n : Nat} (hn : n < 16) {d : Fld}
    (m : d ∈ [REFSEL.REF_STAT_RX_SSM n, REFSEL.REF_STAT_ARBITRATED n, REFSEL.REF_STAT_CAUSE n, REFSEL.REF_STAT_STATE n, REFSEL.REF_TIMER n]) :
    32 * 0x110004 ≤ d.key ∧ d.key < 32 * 0x120000 ∧ d.key ≠ (REFSEL.REF_CFG_ENABLE n).key := by
  simp only [List.mem_cons, List.not_mem_nil, or_false] at m
  rcases m with rfl | rfl | rfl | rfl | rfl <;>
    simp only [REFSEL.REF_STAT_RX_SSM, REFSEL.REF_STAT_ARBITRATED, REFSEL.REF_STAT_CAUSE, REFSEL.REF_STAT_STATE, REFSEL.REF_TIMER, REFSEL.REF_CFG_ENABLE] <;>
    omega

/-- What a write of REF_CFGn does beside storing its fields. -/
theorem State.afterRefCfg_only (s : State) {n : Nat} :
    Only [.ref] [REFSEL.REF_STAT_RX_SSM n, REFSEL.REF_STAT_ARBITRATED n, REFSEL.REF_STAT_CAUSE n, REFSEL.REF_STAT_STATE n, REFSEL.REF_TIMER n] s
      (s.afterRefCfg n) := by
  have shown : InSlots [REFSEL.REF_STAT_RX_SSM n, REFSEL.REF_STAT_ARBITRATED n, REFSEL.REF_STAT_CAUSE n, REFSEL.REF_STAT_STATE n, REFSEL.REF_TIMER n] s
      (s.showQl n) := InSlots.ite (InSlots.refl s) ((InSlots.refl s).putK _ _ ⟨_, by simp, rfl⟩)
  unfold State.afterRefCfg
  refine (InSlots.ite (InSlots.ite ((shown.setSlot _ _).slotGo _ _ _ ⟨_, by simp, rfl⟩ ⟨_, by simp, rfl⟩) shown) ?_).1
  exact ((((shown.setSlot _ _).putK _ _ ⟨REFSEL.REF_STAT_STATE n, by simp, rfl⟩).putK _ _ ⟨REFSEL.REF_TIMER n, by simp, rfl⟩).putK _ _
    ⟨REFSEL.REF_STAT_CAUSE n, by simp, rfl⟩).putK _ _ ⟨REFSEL.REF_STAT_ARBITRATED n, by simp, rfl⟩

theorem afterRefCfg_enable {n : Nat} (hn : n < 16) : (s.afterRefCfg n).flag (REFSEL.REF_CFG_ENABLE n) = s.flag (REFSEL.REF_CFG_ENABLE n) := by
  refine congrArg (· != 0) (s.afterRefCfg_only.read _ (refsel_quiet ?_ ?_) fun d m => (slotCfg_block hn m).2.2.symm) <;>
    simp only [REFSEL.REF_CFG_ENABLE] <;> omega

theorem showQl_enable {n : Nat} (hn : n < 16) : (s.showQl n).flag (REFSEL.REF_CFG_ENABLE n) = s.flag (REFSEL.REF_CFG_ENABLE n) := by
  refine congrArg (· != 0) (showQl_quiet _ (refsel_quiet ?_ ?_) ?_) <;> simp only [REFSEL.REF_CFG_ENABLE, REFSEL.REF_STAT_RX_SSM] <;> omega

theorem showQl_state {n : Nat} (hn : n < 16) : (s.showQl n).slotState n = s.slotState n :=
  showQl_quiet _ (state_quiet hn) (by simp only [REFSEL.REF_STAT_STATE, REFSEL.REF_STAT_RX_SSM]; omega)

theorem afterRefCfg_enables {n : Nat} (hn : n < 16) (on : s.flag (REFSEL.REF_CFG_ENABLE n) = true) (idle : s.slotState n = 0) :
    (s.afterRefCfg n).slotState n = 1 ∧ (s.afterRefCfg n).get (REFSEL.REF_TIMER n) = 0 := by
  have e : s.afterRefCfg n = (s.showQl n).slotEnable n := if_pos ((showQl_enable hn).trans on)
  rw [e, State.slotEnable, if_pos ((showQl_state hn).trans idle)]
  exact State.slotGo_shows _ n 1 0 (by decide) (by decide)

theorem afterRefCfg_disables {n : Nat} (hn : n < 16) (off : s.flag (REFSEL.REF_CFG_ENABLE n) = false) :
    (s.afterRefCfg n).slotState n = 0 ∧ (s.afterRefCfg n).get (REFSEL.REF_STAT_CAUSE n) = 0 := by
  have e : s.afterRefCfg n = (s.showQl n).slotDisable n := if_neg (by rw [Bool.not_eq_true]; exact (showQl_enable hn).trans off)
  rw [e, State.slotDisable, State.slotState]
  simp only [State.puts_cons, State.puts_nil]
  constructor
  · rw [State.get_put_other _ _ _ _ (by simp only [REFSEL.REF_STAT_STATE, REFSEL.REF_STAT_ARBITRATED]; omega),
      State.get_put_other _ _ _ _ (by simp only [REFSEL.REF_STAT_STATE, REFSEL.REF_STAT_CAUSE]; omega),
      State.get_put_other _ _ _ _ (by simp only [REFSEL.REF_STAT_STATE, REFSEL.REF_TIMER]; omega)]
    exact State.get_put_fits _ _ _ (Nat.two_pow_pos _)
  · rw [State.get_put_other _ _ _ _ (by simp only [REFSEL.REF_STAT_CAUSE, REFSEL.REF_STAT_ARBITRATED]; omega)]
    exact State.get_put_fits _ _ _ (Nat.two_pow_pos _)

/-- A slot's register, read after the command has settled. -/
theorem settle_slot (x : State) {f : Fld} (lo : 32 * 0x110004 ≤ f.key) (hi : f.key < 32 * 0x120000) : x.settle.get f = x.get f :=
  (State.settle_kept x).read f (refsel_quiet lo hi)

theorem refCfg_frame {w : State} {n : Nat} (hn : n < 16) (h : Only [.ref, .glb] (regBlock 0x110000 0x120000 ++ unlockFlags) s w) :
    Only [.ref, .glb] (regBlock 0x110000 0x120000 ++ unlockFlags) s (w.afterRefCfg n).settle :=
  (h.trans (w.afterRefCfg_only.parts rfl fun k ⟨d, m, e⟩ =>
    e ▸ refsel_frame (Nat.le_trans (by decide) (slotCfg_block hn m).1) (slotCfg_block hn m).2.1)).settle

/-! ### Commands, and the timers of a slot (R152, R155, R169) -/

theorem Keeps.slotState (k : Keeps [] s t) {n : Nat} (hn : n < 16) : t.slotState n = s.slotState n := k.read _ (state_quiet hn)

theorem Keeps.qualified (k : Keeps [] s t) {n : Nat} (hn : n < 16) : t.qualified n = s.qualified n := by rw [State.qualified, k.slotState hn]; rfl

theorem Keeps.lockedOut (k : Keeps [] s t) (n : Nat) : t.lockedOut n = s.lockedOut n := by
  rw [State.lockedOut, k.getT _ (by decide) (by simp)]
  rfl

theorem refSelect_wants (h : Hdr) (slot : Nat) (a : s.Accepts h false 0) (hs : slot ≤ 15) (m4 : s.mode ≠ 4) (m5 : s.mode ≠ 5) (time : timeSlot slot = true)
    (qual : s.qualified slot = true) (free : s.lockedOut slot = false)
    (force : s.getT REFSEL.REF_OVERRIDE_FORCE_EN = 0 ∨ s.getT REFSEL.REF_OVERRIDE_FORCE_SLOT = slot) :
    Keeps [] { s with ref := { s.ref with wanted := some slot } } (s.awake (runRefSelect h slot)) := by
  obtain ⟨v, hv, run, -⟩ := a.elim (g := runRefSelect h slot) rfl
  have unforced : (s.getT REFSEL.REF_OVERRIDE_FORCE_EN == 1 && s.getT REFSEL.REF_OVERRIDE_FORCE_SLOT != slot) = false := by
    rcases force with off | same
    · rw [off]; rfl
    · rw [same, bne_self_eq_false, Bool.and_false]
  rw [run]
  simp only [hv.mode, hv.qualified (show slot < 16 by omega), hv.lockedOut, hv.getT REFSEL.REF_OVERRIDE_FORCE_EN (by decide) (by simp),
    hv.getT REFSEL.REF_OVERRIDE_FORCE_SLOT (by decide) (by simp), time, qual, free, unforced, m4, m5, if_neg (show ¬15 < slot by omega), or_self, Bool.not_true,
    Bool.or_self, Bool.false_eq_true, if_false, hv.ref]
  exact ((hv.with_ref _).journalCmd _ _ _ _).complete _ _ _ _ _

theorem wtrClear_marks (h : Hdr) (slot : Nat) (a : s.Accepts h false 0) (hs : slot ≤ 15) (wait : s.slotState slot = 3) :
    Keeps [] (s.setSlot slot { s.slot slot with wtrClear := true }) (s.awake (runWtrClear h slot)) := by
  obtain ⟨v, hv, run, -⟩ := a.elim (g := runWtrClear h slot) rfl
  rw [run]
  simp only [hv.slotState (show slot < 16 by omega), wait, if_neg (show ¬15 < slot by omega), ne_eq, not_true_eq_false, if_false, State.setSlot, State.slot, hv.ref]
  exact ((hv.with_ref _).journalCmd _ _ _ _).complete _ _ _ _ _

/-- What a slot's timer may change. -/
theorem State.slotQualify_only (s : State) (n : Nat) :
    Only [.ref] [REFSEL.REF_STAT_STATE n, REFSEL.REF_TIMER n, REFSEL.REF_STAT_ARBITRATED n] s (s.slotQualify n) :=
  (((InSlots.refl s).slotGo n 4 0 ⟨_, by simp, rfl⟩ ⟨_, by simp, rfl⟩).1.putBK _ _ ⟨REFSEL.REF_STAT_ARBITRATED n, by simp, rfl⟩).paidEvent _ _ _ _ _

theorem State.slotQualify_shows (s : State) {n : Nat} (hn : n < 16) :
    (s.slotQualify n).slotState n = 4 ∧ (s.slotQualify n).flag (REFSEL.REF_STAT_ARBITRATED n) = false := by
  have posted := (Keeps.refl (l := []) ((s.slotGo n 4 0).putB (REFSEL.REF_STAT_ARBITRATED n) false)).paidEvent 0x0601 n ((4 : Nat) : Int)
    (((s.slotGo n 4 0).putB (REFSEL.REF_STAT_ARBITRATED n) false).get (REFSEL.REF_STAT_CAUSE n))
    (ofS 64 (((s.slotGo n 4 0).putB (REFSEL.REF_STAT_ARBITRATED n) false).geti (REFSEL.REF_PHASE n)))
  constructor
  · refine (posted.slotState hn).trans ?_
    refine (State.get_put_other _ _ _ _ ?_).trans (s.slotGo_shows n 4 0 (by decide) (by decide)).1
    simp only [REFSEL.REF_STAT_STATE, REFSEL.REF_STAT_ARBITRATED]
    omega
  · refine (posted.flag _ (refsel_quiet ?_ ?_)).trans (State.flag_putB_same _ _ _ rfl) <;> simp only [REFSEL.REF_STAT_ARBITRATED] <;> omega

/-- A disabled slot and a frozen block discard what waits. -/
def State.discards (s : State) (n : Nat) : Bool := s.refFrozen || s.slotState n == 0

theorem discards_iff {n : Nat} : s.discards n = true ↔ s.refFrozen = true ∨ s.slotState n = 0 := by simp [State.discards]

theorem takes_iff {n : Nat} : s.discards n = false ↔ s.refFrozen = false ∧ s.slotState n ≠ 0 := by simp [State.discards]

theorem slotMeasurement_gnss {sol : NavSol} (due : s.nav.deliver = some sol) (other : sol.sheet ≠ s.sheetNo) :
    runSlotMeasurement 0 s =
      if s.discards 0 = true then { s with nav := { s.nav with deliver := none } }
      else (({ s with nav := { s.nav with deliver := none, forBound := some sol } } : State).takeTheta 0 sol.epoch (psOfUnits sol.offset)).slotJudge 0 := by
  simp only [runSlotMeasurement, if_true, due, if_neg other]
  rfl

theorem slotMeasurement_up {u : UpSample} (due : s.ref.up = some u) (new : s.ref.upNew = true) :
    runSlotMeasurement 13 s =
      if s.discards 13 = true then { s with ref := { s.ref with upNew := false } }
      else (({ s with ref := { s.ref with upNew := false, upUsed := some u } } : State).takeTheta 13 (s.longTime u.event) u.theta).slotJudge 13 := by
  simp only [runSlotMeasurement, due, new, Bool.not_true, Bool.false_eq_true, if_false, if_true, show ¬(13 = 0) from by decide]
  rfl

theorem slotMeasurement_peer {u : PeerSample} (due : s.ref.peer = some u) (new : s.ref.peerNew = true) :
    runSlotMeasurement 15 s =
      if s.discards 15 = true then { s with ref := { s.ref with peerNew := false } }
      else (({ s with ref := { s.ref with peerNew := false, peerUsed := some u } } : State).takeTheta 15 (s.longTime u.event) u.theta).slotJudge 15 := by
  simp only [runSlotMeasurement, due, new, Bool.not_true, Bool.false_eq_true, if_false, if_true, show ¬(15 = 0) from by decide, show ¬(15 = 13) from by decide]
  rfl

theorem edge_slots : ∀ n ∈ [1, 2, 3, 4, 5, 6, 7, 8, 9, 10, 11, 12, 14], n ≠ 0 ∧ n ≠ 13 ∧ n ≠ 15 ∧ ¬15 < n := by decide

theorem slotMeasurement_edge {slot : Nat} {r : MeasRec} (hs : slot ∈ [1, 2, 3, 4, 5, 6, 7, 8, 9, 10, 11, 12, 14]) (found : s.slotRecord slot = some r) :
    runSlotMeasurement slot s =
      if s.discards slot = true then ({ s with tdc := { s.tdc with inbox := s.tdc.inbox.erase r } } : State).setSlot slot { s.slot slot with msg := none }
      else (s.edgeMeasured slot r).slotJudge slot := by
  obtain ⟨n0, n13, n15, few⟩ := edge_slots slot hs
  simp only [runSlotMeasurement, if_neg n0, if_neg n13, if_neg n15, if_neg few, found]
  rfl

/-- The frame of an edge that a slot takes. -/
theorem slotMeasurement_edge_only {slot : Nat} {r : MeasRec} (hs : slot ∈ [1, 2, 3, 4, 5, 6, 7, 8, 9, 10, 11, 12, 14]) (found : s.slotRecord slot = some r) :
    Only [.ref] (regBlock 0x110000 0x120000) { s with tdc := { s.tdc with inbox := s.tdc.inbox.erase r } } (runSlotMeasurement slot s) := by
  have few : slot < 16 := by have := (edge_slots slot hs).2.2.2; omega
  rw [slotMeasurement_edge hs found]
  refine Only.ite' ?_ ((s.edgeMeasured_only few r).trans ((State.slotJudge_shown _ slot).1.more fun _ => slotShown_block few))
  exact ((InSlots.refl _).setSlot _ _).1

/-- A slot's measured phase, read after the command has settled. -/
theorem settle_phase (x : State) {n : Nat} (hn : n < 16) : x.settle.geti (REFSEL.REF_PHASE n) = x.geti (REFSEL.REF_PHASE n) := by
  rw [State.geti, State.geti, settle_slot _ (by simp only [REFSEL.REF_PHASE]; omega) (by simp only [REFSEL.REF_PHASE]; omega)]

/-- A slot whose timer has run out moves on (R152). -/
theorem slotTimerExpire_moves {slot : Nat} (live : s.refFrozen = false) (hs : slot ≤ 15) (out : s.get (REFSEL.REF_TIMER slot) = 0)
    (st : s.slotState slot = 2 ∨ s.slotState slot = 3) :
    runSlotTimerExpire slot s =
      if s.slotState slot = 2 ∧ (s.slot slot).qualBefore = true ∧ s.get REFSEL.QUAL_CFG_WTR_S ≠ 0 then s.slotGo slot 3 (s.get REFSEL.QUAL_CFG_WTR_S)
      else s.slotQualify slot := by
  unfold runSlotTimerExpire
  rw [if_neg (by simp [live, out]; omega)]
  rcases st with two | three
  · simp only [two, if_true, true_and]
  · simp only [three, if_true, show ¬(3 = 2) from by decide, if_false, false_and]

/-! ### The statement -/

/-- Settles O15: what is stored for a slot and what its registers show change together, one slot at a time. -/
theorem referenceCommandsComplete : Obligations.ReferenceCommandsComplete := by
  refine ⟨?_, ?_, ?_, ?_, ?_, ?_, ?_, ?_, ?_, ?_, ?_, ?_⟩
  · exact fun s h slot a hs m4 m5 time qual free force => ⟨_, rfl, (refSelect_wants h slot a hs m4 m5 time qual free force).settle⟩
  · exact fun s h slot a hs wait => ⟨_, rfl, (wtrClear_marks h slot a hs wait).settle⟩
  · intro s o slot v awake ho hs votes idle
    obtain ⟨w, frame, on, state, run⟩ := refCfgWrite_stores (if v % 2 = 1 then v else v + 1) hs ho votes
    have on' : w.flag (REFSEL.REF_CFG_ENABLE slot) = true := by rw [on, beq_iff_eq]; split <;> omega
    obtain ⟨one, timer⟩ := afterRefCfg_enables hs on' (state.trans idle)
    refine ⟨_, rfl, ?_⟩
    rw [State.awake_eq awake, runRefEnable, if_neg (by omega), run]
    refine ⟨?_, ?_, ?_, refCfg_frame hs frame⟩
    · rw [State.flag, settle_slot _ (by simp only [REFSEL.REF_CFG_ENABLE]; omega) (by simp only [REFSEL.REF_CFG_ENABLE]; omega)]
      exact (afterRefCfg_enable hs).trans on'
    · exact ((State.settle_kept _).slotState hs).trans one
    · rw [settle_slot _ (by simp only [REFSEL.REF_TIMER]; omega) (by simp only [REFSEL.REF_TIMER]; omega)]
      exact timer
  · intro s o slot v awake ho hs votes
    obtain ⟨w, frame, off, state, run⟩ := refCfgWrite_stores (if v % 2 = 1 then v - 1 else v) hs ho votes
    have off' : w.flag (REFSEL.REF_CFG_ENABLE slot) = false := by rw [off, beq_eq_false_iff_ne]; split <;> omega
    obtain ⟨zero, cause⟩ := afterRefCfg_disables hs off'
    refine ⟨_, rfl, ?_⟩
    rw [State.awake_eq awake, runRefDisable, if_neg (by omega), run]
    refine ⟨?_, ?_, ?_, refCfg_frame hs frame⟩
    · rw [State.flag, settle_slot _ (by simp only [REFSEL.REF_CFG_ENABLE]; omega) (by simp only [REFSEL.REF_CFG_ENABLE]; omega)]
      exact (afterRefCfg_enable hs).trans off'
    · exact ((State.settle_kept _).slotState hs).trans zero
    · rw [settle_slot _ (by simp only [REFSEL.REF_STAT_CAUSE]; omega) (by simp only [REFSEL.REF_STAT_CAUSE]; omega)]
      exact cause
  · intro s sol awake due other
    refine ⟨_, rfl, ?_⟩
    rw [State.awake_eq awake, slotMeasurement_gnss due other]
    split
    · next drops =>
      have settled := (({ s with nav := { s.nav with deliver := none } } : State)).settle_kept
      refine ⟨congrArg NavSt.deliver settled.nav, fun live on => ?_, fun _ => settled.any, ((Only.refl s).set_nav rfl _).tail settled.any⟩
      rcases discards_iff.1 drops with e | e
      · exact absurd (live.symm.trans e) Bool.false_ne_true
      · exact absurd e on
    · next takes =>
      obtain ⟨live, on⟩ := takes_iff.1 (Bool.not_eq_true _ ▸ takes)
      obtain ⟨only, phase, -⟩ := State.measured { s with nav := { s.nav with deliver := none, forBound := some sol } } (show 0 < 16 by decide) sol.epoch
        (psOfUnits sol.offset)
      have nav := only.settle.nav rfl
      refine ⟨congrArg NavSt.deliver nav, fun _ _ => ⟨(settle_phase _ (by decide)).trans phase, nav⟩, fun no => ?_,
        ((Only.refl s).set_nav rfl _).trans (only.settle.parts rfl fun _ h => h)⟩
      rcases no with e | e
      · exact absurd (live.symm.trans e) Bool.false_ne_true
      · exact absurd e on
  · intro s u awake due new
    refine ⟨_, rfl, ?_⟩
    rw [State.awake_eq awake, slotMeasurement_up due new]
    split
    · next drops =>
      have settled := (({ s with ref := { s.ref with upNew := false } } : State)).settle_kept
      refine ⟨congrArg RefSt.upNew settled.ref, fun live on => ?_, ((Only.refl s).set_ref rfl _).tail settled.any⟩
      rcases discards_iff.1 drops with e | e
      · exact absurd (live.symm.trans e) Bool.false_ne_true
      · exact absurd e on
    · obtain ⟨only, phase, samples⟩ := State.measured { s with ref := { s.ref with upNew := false, upUsed := some u } } (show 13 < 16 by decide)
        (s.longTime u.event) u.theta
      obtain ⟨-, new', used, -⟩ := samples
      have settled := (((({ s with ref := { s.ref with upNew := false, upUsed := some u } } : State).takeTheta 13 (s.longTime u.event) u.theta)).slotJudge 13).settle_kept
      exact ⟨(congrArg RefSt.upNew settled.ref).trans new', fun _ _ => ⟨(settle_phase _ (by decide)).trans phase, (congrArg RefSt.upUsed settled.ref).trans used⟩,
        ((Only.refl s).set_ref rfl _).trans only.settle⟩
  · intro s u awake due new
    refine ⟨_, rfl, ?_⟩
    rw [State.awake_eq awake, slotMeasurement_peer due new]
    split
    · next drops =>
      have settled := (({ s with ref := { s.ref with peerNew := false } } : State)).settle_kept
      refine ⟨congrArg RefSt.peerNew settled.ref, fun live on => ?_, ((Only.refl s).set_ref rfl _).tail settled.any⟩
      rcases discards_iff.1 drops with e | e
      · exact absurd (live.symm.trans e) Bool.false_ne_true
      · exact absurd e on
    · obtain ⟨only, phase, samples⟩ := State.measured { s with ref := { s.ref with peerNew := false, peerUsed := some u } } (show 15 < 16 by decide)
        (s.longTime u.event) u.theta
      obtain ⟨-, -, -, -, new', used⟩ := samples
      have settled := (((({ s with ref := { s.ref with peerNew := false, peerUsed := some u } } : State).takeTheta 15 (s.longTime u.event) u.theta)).slotJudge 15).settle_kept
      exact ⟨(congrArg RefSt.peerNew settled.ref).trans new', fun _ _ => ⟨(settle_phase _ (by decide)).trans phase, (congrArg RefSt.peerUsed settled.ref).trans used⟩,
        ((Only.refl s).set_ref rfl _).trans only.settle⟩
  · intro s slot r awake hs found
    have only := slotMeasurement_edge_only hs found
    refine ⟨_, rfl, ?_⟩
    rw [State.awake_eq awake]
    exact ⟨only.settle.tdc rfl, ((Only.refl s).set_tdc rfl _).trans (only.settle.parts rfl fun _ h => h)⟩
  · intro s input frame m awake hi on parsed
    refine ⟨_, rfl, ?_⟩
    rw [State.awake_eq awake, runTodInMessage, if_neg (by simp; omega), if_neg (by simp [on]), parsed]
    exact (Keeps.refl _).settle
  · intro s awake live
    have settled := (runRefWholeSecond s).settle_kept
    obtain ⟨frame, idle⟩ := runRefWholeSecond_kept s
    refine ⟨_, rfl, ?_⟩
    rw [State.awake_eq awake]
    exact ⟨fun n hn e => (settled.slotState (List.mem_range.1 hn)).trans (idle n (List.mem_range.1 hn) e), frame.settle⟩
  · intro s slot awake live hs out st
    have few : slot < 16 := by omega
    refine ⟨_, rfl, ?_⟩
    rw [State.awake_eq awake, slotTimerExpire_moves live hs out st]
    split
    · have settled := (s.slotGo slot 3 (s.get REFSEL.QUAL_CFG_WTR_S)).settle_kept
      obtain ⟨state, timer⟩ := s.slotGo_shows slot 3 _ (by decide) (s.get_lt REFSEL.QUAL_CFG_WTR_S)
      refine ⟨⟨(settled.slotState few).trans state, ?_⟩, ((s.slotGo_only slot 3 _).more ?_).settle⟩
      · rw [settle_slot _ (by simp only [REFSEL.REF_TIMER]; omega) (by simp only [REFSEL.REF_TIMER]; omega)]
        exact timer
      · rintro k ⟨d, m, e⟩
        exact ⟨d, by simp only [List.mem_cons, List.not_mem_nil, or_false] at m ⊢; exact m.imp id .inl, e⟩
    · have settled := (s.slotQualify slot).settle_kept
      obtain ⟨state, arb⟩ := s.slotQualify_shows few
      refine ⟨⟨(settled.slotState few).trans state, (settled.flag _ (refsel_quiet ?_ ?_)).trans arb⟩, (s.slotQualify_only slot).settle⟩ <;>
        simp only [REFSEL.REF_STAT_ARBITRATED] <;> omega
  · intro s slot awake synce late
    have run : runEsmcQlTimeout slot s = s.setSlot slot { s.slot slot with qlOut := true } := if_pos (by rw [synce, late]; rfl)
    refine ⟨_, rfl, ?_⟩
    rw [State.awake_eq awake, run]
    have settled := (s.setSlot slot { s.slot slot with qlOut := true }).settle_kept
    refine ⟨?_, (((InSlots.refl s).setSlot _ _).1).settle⟩
    rw [settled.ref]
    exact List.map_set

end Sys2Proof.Machine
end

section
/-! The history, the temperature and the oscillator's health. -/

namespace Sys2Proof.Machine

variable {ps : List Part} {l : List Fld} {s t u : State}

/-- A field of the holdover block, which bookkeeping leaves alone. -/
theorem hold_quiet {k : Nat} (lo : 32 * 0x120000 ≤ k) (hi : k < 32 * 0x130000) : noisy k = false := noisy_gaps (by omega)

theorem hold_mem {k : Nat} (lo : 32 * 0x110000 ≤ k) (hi : k < 32 * 0x130000) : ∃ d ∈ regBlock 0x110000 0x130000, k = d.key := mem_block lo hi

/-! ### A failed oscillator (R178) -/

/-- The holdover fields that a failure of the oscillator writes. -/
def failFields : List Fld :=
  [HOLD.HOLD_STATUS_OSC_FAIL, HOLD.OSC_FAIL_CNT, HOLD.HIST_USABLE_S, HOLD.HOLD_STATUS_HIST_VALID, HOLD.HOLD_EH, HOLD.HOLD_STATUS_CATEGORY,
    HOLD.HOLD_STATUS_DEGRADED, HOLD.HOLD_STATUS_IN_HOLD]

/-- What a failure of the oscillator changes: what is stored for holdover and the clock, and the registers that show it. -/
def FailKept (s t : State) : Prop := Only [.hold, .ref] (regBlock 0x110000 0x120000 ++ failFields) s t

theorem failFields_refsel {k : Nat} (lo : 32 * 0x110000 ≤ k) (hi : k < 32 * 0x120000) : ∃ d ∈ regBlock 0x110000 0x120000 ++ failFields, k = d.key := by
  obtain ⟨d, m, e⟩ := refsel_mem lo hi
  exact ⟨d, List.mem_append_left _ m, e⟩

theorem failFields_hold {f : Fld} (m : f ∈ failFields) : ∃ d ∈ regBlock 0x110000 0x120000 ++ failFields, f.key = d.key := ⟨f, List.mem_append_right _ m, rfl⟩

/-- A holdover field that a failure does not write. -/
theorem FailKept.read (h : FailKept s t) (f : Fld) (lo : 32 * 0x120000 ≤ f.key) (hi : f.key < 32 * 0x130000) (off : ∀ d ∈ failFields, f.key ≠ d.key) :
    t.get f = s.get f :=
  Only.read h f (hold_quiet lo hi) fun d m => (List.mem_append.1 m).elim (not_mem_block (.inr lo) d) (off d)

theorem FailKept.block (h : FailKept s t) : Only [.hold, .ref] (regBlock 0x110000 0x130000) s t := by
  refine h.more fun k ⟨d, m, e⟩ => ?_
  rcases List.mem_append.1 m with m | m
  · exact regBlock_sub (by decide) (by decide) ⟨d, m, e⟩
  · have inside : ∀ d ∈ failFields, 32 * 0x110000 ≤ d.key ∧ d.key < 32 * 0x130000 := by decide
    exact e ▸ hold_mem (inside d m).1 (inside d m).2

theorem Only.showHist (h : Only ps l s t) (m : ∃ d ∈ l, HOLD.HIST_USABLE_S.key = d.key) (m' : ∃ d ∈ l, HOLD.HOLD_STATUS_HIST_VALID.key = d.key) :
    Only ps l s t.showHist := (h.putK _ _ m).putBK _ _ m'

theorem FailKept.emptyHist (h : FailKept s t) : FailKept s t.emptyHist :=
  ((h.set_hold rfl _).journal _ _ _ _ _ _).showHist (failFields_hold (by simp [failFields])) (failFields_hold (by simp [failFields]))

theorem FailKept.oscFail (h : FailKept s t) : FailKept s t.oscFail := by
  have failed : FailKept s { t with hold := { t.hold with bad := true, goodS := 0, ok := false } } := h.set_hold rfl _
  unfold State.oscFail
  dsimp only
  split
  · exact failed
  · exact FailKept.emptyHist (((Only.putBK failed _ _ (failFields_hold (by simp [failFields]))).incK HOLD.OSC_FAIL_CNT
      (failFields_hold (by simp [failFields]))).paidEvent _ _ _ _ _)

theorem FailKept.setCat (h : FailKept s t) (c : Nat) : FailKept s (t.setCat c) := by
  unfold State.setCat
  dsimp only
  split
  · exact h
  · exact (Only.putK h _ _ (failFields_hold (by simp [failFields]))).paidEvent _ _ _ _ _

theorem FailKept.leaveHold (h : FailKept s t) (discard : Bool) : FailKept s (t.leaveHold discard) := by
  have left : FailKept s ((t.put HOLD.HOLD_EH 0).setCat 0) := FailKept.setCat (Only.putK h _ _ (failFields_hold (by simp [failFields]))) 0
  cases discard
  · exact left
  · exact ((Only.putBK left _ _ (failFields_hold (by simp [failFields]))).putBK _ _ (failFields_hold (by simp [failFields]))).set_hold rfl _

theorem FailKept.setSel (h : FailKept s t) (n : Option Nat) : FailKept s (t.setSel n) := by
  refine (Only.putsK h _ ?_).set_ref rfl _
  simp only [List.forall_mem_cons, List.not_mem_nil]
  exact ⟨failFields_refsel (by decide) (by decide), failFields_refsel (by decide) (by decide), failFields_refsel (by decide) (by decide), fun _ x => x.elim⟩

/-- The clock goes to LOST (Table 7-4). -/
theorem FailKept.toLost (h : FailKept s t) : FailKept s (t.toClock 4 false) := by
  unfold State.toClock
  refine Only.ite' h (Only.paidEvent (Only.putK (FailKept.setSel ?_ none) _ _ (failFields_refsel (by decide) (by decide))) _ _ _ _ _)
  exact Only.ite' (h.leaveHold _) (Only.ite' (h.leaveHold true) h)

theorem FailKept.showSel (h : FailKept s t) : FailKept s t.showSel := by
  unfold State.showSel
  refine Only.foldlMem _ _ (fun x n hn => ?_) (Only.putBK h _ _ (failFields_refsel (by decide) (by decide)))
  have few := List.mem_range.1 hn
  refine (Only.refl x).putsK _ ?_
  simp only [List.forall_mem_cons, List.not_mem_nil, REFSEL.REF_STAT_SELECTED, REFSEL.REF_STAT_ASSIST, REFSEL.REF_STAT_LOCKED_OUT]
  exact ⟨failFields_refsel (by omega) (by omega), failFields_refsel (by omega) (by omega), failFields_refsel (by omega) (by omega), fun _ x => x.elim⟩

theorem FailKept.lostNow (h : FailKept s t) : FailKept s t.lostNow := by
  unfold State.lostNow
  split
  · exact h.toLost.showSel
  · exact h

theorem FailKept.oscJudge (h : FailKept s t) : FailKept s t.oscJudge := by
  unfold State.oscJudge
  split
  · exact h.oscFail.lostNow
  · exact h

theorem State.oscJudge_good (good : s.oscBad = false) : s.oscJudge = s := by rw [State.oscJudge, good, Bool.and_false, if_neg Bool.false_ne_true]

/-! ### Pull (R181) -/

/-- The fields that show the pull. -/
def pullFields : List Fld := [HOLD.PULL, HOLD.HOLD_STATUS_STEER_CFG_BAD]

theorem State.showPull_only (s : State) : Only ps pullFields s s.showPull :=
  ((Only.refl s).putiK _ _ ⟨HOLD.PULL, by simp [pullFields], rfl⟩).putBK _ _ ⟨HOLD.HOLD_STATUS_STEER_CFG_BAD, by simp [pullFields], rfl⟩

theorem State.latchBase_only (s : State) : Only ps (HOLD.EFC_BASE :: pullFields) s s.latchBase :=
  ((Only.refl s).putK _ _ ⟨HOLD.EFC_BASE, by simp, rfl⟩).trans ((State.showPull_only _).more fun k ⟨d, m, e⟩ => ⟨d, List.mem_cons_of_mem _ m, e⟩)

theorem State.latchBase_base (s : State) : s.latchBase.get HOLD.EFC_BASE = s.get HOLD.EFC_CODE :=
  (((s.put HOLD.EFC_BASE (s.get HOLD.EFC_CODE)).showPull_only (ps := [])).read HOLD.EFC_BASE (by decide) (by decide)).trans
    (State.get_put_fits _ _ _ (s.get_lt HOLD.EFC_CODE))

/-! ### Writes of HOLD_CFG, EFC_SENS and HOLD_TEMP (R175, R181) -/

/-- The fields of HOLD_CFG (Table 8-8). -/
def holdCfgRows : List (Row × Nat) :=
  [(⟨0x120004, 0x0, 1, 0x0, 1, 0, 5, .rw, [16], (.range 10 22), .whole, false⟩, 0),
   (⟨0x120004, 0x0, 1, 0x0, 1, 5, 1, .rw, [1], .any, .whole, false⟩, 0),
   (⟨0x120004, 0x0, 1, 0x0, 1, 6, 2, .rw, [0], .any, .whole, false⟩, 0),
   (⟨0x120004, 0x0, 1, 0x0, 1, 8, 1, .rw, [0], .any, .whole, false⟩, 0),
   (⟨0x120004, 0x0, 1, 0x0, 1, 9, 2, .rw, [0], (.range 0 2), .whole, false⟩, 0),
   (⟨0x120004, 0x0, 1, 0x0, 1, 11, 1, .rw, [0], .any, .whole, false⟩, 0)]

theorem rowsAt_holdCfg : rowsAt 0x120004 = holdCfgRows := by decide +kernel

theorem rowsAt_efcSens : rowsAt 0x12004C = [(⟨0x12004C, 0x0, 1, 0x0, 1, 0, 32, .rw, [0], .any, .whole, false⟩, 0)] := by decide +kernel

theorem rowsAt_holdTemp : rowsAt 0x12007C = [(⟨0x12007C, 0x0, 1, 0x0, 1, 0, 16, .rw, [0], .any, .whole, false⟩, 0)] := by decide +kernel

/-- A field of another register than the one written. -/
theorem Only.read_stored {a : Nat} {w : State} (h : Only ps (regBlock a (a + 1) ++ unlockFlags) s w) (f : Fld) (lo : 32 * 0x110004 ≤ f.key)
    (hi : f.key < 32 * 0x130000) (off : f.key < 32 * a ∨ 32 * (a + 1) ≤ f.key) : w.get f = s.get f := by
  have quiet : noisy f.key = false := noisy_gaps (by omega)
  have unlocks : ∀ d ∈ unlockFlags, d.key < 32 * 0x110000 := by decide
  refine h.read f quiet fun d m => ?_
  rcases List.mem_append.1 m with m | m
  · exact not_mem_block off d m
  · have := unlocks d m
    omega

/-- What the write of HOLD_CFG or EFC_SENS does once its fields are stored. -/
def State.afterHoldCfg (s : State) (log0 osc0 mode0 sens0 : Nat) : State :=
  let x := if s.get HOLD.HOLD_CFG_HIST_LOG2 ≠ log0 ∨ s.get HOLD.HOLD_CFG_OSC_SRC ≠ osc0 then s.emptyHist else s
  let y := if (x.get HOLD.HOLD_CFG_STEER_MODE = 1 ∧ mode0 ≠ 1) ∨ x.get HOLD.EFC_SENS ≠ sens0 then x.latchBase else x
  y.showPull.oscJudge

theorem holdSteerCfgWrite_sens (o : Origin) (v : Nat) : runHoldSteerCfgWrite o 0x12004C v s =
    s.busStore o 0x12004C v true true (fun w => w.afterHoldCfg (s.get HOLD.HOLD_CFG_HIST_LOG2) (s.get HOLD.HOLD_CFG_OSC_SRC) (s.get HOLD.HOLD_CFG_STEER_MODE)
      (s.get HOLD.EFC_SENS)) := rfl

theorem holdSteerCfgWrite_cfg (o : Origin) (v : Nat) (outside : s.mode ≠ 0) : runHoldSteerCfgWrite o 0x120004 v s =
    s.busStore o 0x120004 (putBits (putBits v 0 5 (s.get HOLD.HOLD_CFG_HIST_LOG2)) 11 1 (s.get HOLD.HOLD_CFG_OSC_SRC)) true true
      (fun w => w.afterHoldCfg (s.get HOLD.HOLD_CFG_HIST_LOG2) (s.get HOLD.HOLD_CFG_OSC_SRC) (s.get HOLD.HOLD_CFG_STEER_MODE) (s.get HOLD.EFC_SENS)) := by
  unfold runHoldSteerCfgWrite
  rw [if_pos (.inl rfl)]
  unfold State.holdCfgWrite
  extract_lets log0 osc0 mode0 sens0 v'
  rw [show v' = putBits (putBits v 0 5 log0) 11 1 osc0 from if_pos ⟨rfl, outside⟩]
  rfl

/-- The pull follows the configuration once it is stored. -/
def State.steered (s : State) (mode0 sens0 : Nat) : State :=
  (if (s.get HOLD.HOLD_CFG_STEER_MODE = 1 ∧ mode0 ≠ 1) ∨ s.get HOLD.EFC_SENS ≠ sens0 then s.latchBase else s).showPull

theorem afterHoldCfg_eq {log0 osc0 : Nat} (mode0 sens0 : Nat) (log : s.get HOLD.HOLD_CFG_HIST_LOG2 = log0) (osc : s.get HOLD.HOLD_CFG_OSC_SRC = osc0) :
    s.afterHoldCfg log0 osc0 mode0 sens0 = (s.steered mode0 sens0).oscJudge := by
  unfold State.afterHoldCfg
  dsimp only
  rw [if_neg (show ¬(s.get HOLD.HOLD_CFG_HIST_LOG2 ≠ log0 ∨ s.get HOLD.HOLD_CFG_OSC_SRC ≠ osc0) from fun h => h.elim (· log) (· osc))]
  rfl

theorem State.steered_only (s : State) (mode0 sens0 : Nat) : Only ps (HOLD.EFC_BASE :: pullFields) s (s.steered mode0 sens0) :=
  (Only.ite' s.latchBase_only (Only.refl s)).trans ((State.showPull_only _).more fun _ ⟨d, m, e⟩ => ⟨d, List.mem_cons_of_mem _ m, e⟩)

/-- EFC_BASE is latched where the sensitivity has changed, or steering by the EFC begins. -/
theorem State.steered_base (s : State) (mode0 sens0 : Nat) : (s.steered mode0 sens0).get HOLD.EFC_BASE =
    if (s.get HOLD.HOLD_CFG_STEER_MODE = 1 ∧ mode0 ≠ 1) ∨ s.get HOLD.EFC_SENS ≠ sens0 then s.get HOLD.EFC_CODE else s.get HOLD.EFC_BASE := by
  refine ((State.showPull_only (ps := []) _).read HOLD.EFC_BASE (by decide) (by decide)).trans ?_
  split
  · exact s.latchBase_base
  · rfl

/-- A write of EFC_SENS stores it, and the base follows a change (R181). -/
theorem holdSteerCfgWrite_stores {o : Origin} (v : Nat) (ho : o ≠ .pf1) (votes : s.glb.voteFailed = []) :
    ∃ t, runHoldSteerCfgWrite o 0x12004C v s = t ∧ t.get HOLD.EFC_SENS = v % 2 ^ 32 ∧
      (t.get HOLD.EFC_SENS ≠ s.get HOLD.EFC_SENS → t.get HOLD.EFC_BASE = s.get HOLD.EFC_CODE) ∧
      (t.get HOLD.EFC_SENS = s.get HOLD.EFC_SENS → t.get HOLD.EFC_BASE = s.get HOLD.EFC_BASE) ∧
      Only [.hold, .ref, .glb] (regBlock 0x110000 0x130000 ++ unlockFlags) s t := by
  have plain : [((⟨0x12004C, 0x0, 1, 0x0, 1, 0, 32, .rw, [0], .any, .whole, false⟩ : Row), 0)].all plainRow = true := rfl
  have frame := s.stored_plain o v rowsAt_efcSens plain
  have sens : (s.stored o 0x12004C v).get HOLD.EFC_SENS = v % 2 ^ 32 := by
    rw [(s.stored_only o 0x12004C v).read _ (by decide) (by simp),
      (s.useUnlock o).2.storeFields_get (pre := []) v HOLD.EFC_SENS rowsAt_efcSens plain rfl (by simp) rfl rfl rfl rfl]
    simp [bits]
  have other (f : Fld) (lo : 32 * 0x110004 ≤ f.key) (hi : f.key < 32 * 0x130000) (off : f.key < 32 * 0x12004C ∨ 32 * (0x12004C + 1) ≤ f.key) :=
    frame.read_stored f lo hi off
  have run := holdSteerCfgWrite_sens (s := s) o v
  rw [State.busStore_plain v _ rowsAt_efcSens (by simp) plain ho votes,
    afterHoldCfg_eq _ _ (other _ (by decide) (by decide) (by decide)) (other _ (by decide) (by decide) (by decide))] at run
  have judged : FailKept _ _ := (Only.refl ((s.stored o 0x12004C v).steered (s.get HOLD.HOLD_CFG_STEER_MODE) (s.get HOLD.EFC_SENS)) |> FailKept.oscJudge)
  have steered := (s.stored o 0x12004C v).steered_only (ps := [.hold, .ref, .glb]) (s.get HOLD.HOLD_CFG_STEER_MODE) (s.get HOLD.EFC_SENS)
  have base := (s.stored o 0x12004C v).steered_base (s.get HOLD.HOLD_CFG_STEER_MODE) (s.get HOLD.EFC_SENS)
  rw [other HOLD.HOLD_CFG_STEER_MODE (by decide) (by decide) (by decide), other HOLD.EFC_CODE (by decide) (by decide) (by decide),
    other HOLD.EFC_BASE (by decide) (by decide) (by decide), ← judged.read _ (by decide) (by decide) (by decide)] at base
  have sens' : ((s.stored o 0x12004C v).steered (s.get HOLD.HOLD_CFG_STEER_MODE) (s.get HOLD.EFC_SENS)).oscJudge.get HOLD.EFC_SENS =
      (s.stored o 0x12004C v).get HOLD.EFC_SENS := by
    rw [judged.read _ (by decide) (by decide) (by decide), steered.read _ (by decide) (by decide)]
  refine ⟨_, run, sens'.trans sens, fun changed => ?_, fun same => ?_, ?_⟩
  · rw [base, if_pos (.inr (sens' ▸ changed))]
  · rw [base, if_neg]
    rintro (⟨one, not⟩ | changed)
    · exact not one
    · exact changed (sens'.symm.trans same)
  · refine (frame.parts rfl ?_).trans ((steered.more ?_).trans ((FailKept.block judged).parts rfl ?_))
    · rintro k ⟨d, m, e⟩
      rcases List.mem_append.1 m with m | m
      · obtain ⟨d', m', e'⟩ := regBlock_sub (lo := 0x110000) (hi := 0x130000) (by decide) (by decide) ⟨d, m, e⟩
        exact ⟨d', List.mem_append_left _ m', e'⟩
      · exact ⟨d, List.mem_append_right _ m, e⟩
    · have inside : ∀ d ∈ HOLD.EFC_BASE :: pullFields, 32 * 0x110000 ≤ d.key ∧ d.key < 32 * 0x130000 := by decide
      rintro k ⟨d, m, e⟩
      obtain ⟨d', m', e'⟩ := hold_mem (inside d m).1 (inside d m).2
      exact ⟨d', List.mem_append_left _ m', e.trans e'⟩
    · exact fun k ⟨d, m, e⟩ => ⟨d, List.mem_append_left _ m, e⟩

theorem putBits_log (v : Nat) {log osc : Nat} (hl : log < 2 ^ 5) (ho : osc < 2 ^ 1) :
    bits (putBits (putBits v 0 5 log) 11 1 osc) 0 5 = log ∧ bits (putBits (putBits v 0 5 log) 11 1 osc) 11 1 = osc := by
  simp only [putBits, bits]
  norm_num at hl ho ⊢
  omega

/-- What the oscillator is judged by. -/
theorem oscBad_congr (run : t.running = s.running) (act : t.get SYN.SYN_STATUS_OSC_ACT = s.get SYN.SYN_STATUS_OSC_ACT)
    (limit : t.get HOLD.OSC_LIMIT = s.get HOLD.OSC_LIMIT) (value : t.get HOLD.HOLD_VALUE = s.get HOLD.HOLD_VALUE)
    (src : t.get HOLD.HOLD_CFG_OSC_SRC = s.get HOLD.HOLD_CFG_OSC_SRC) (atom : t.get HOLD.ATOM_STATUS_STATE = s.get HOLD.ATOM_STATUS_STATE) :
    t.oscBad = s.oscBad := by
  unfold State.oscBad State.flag State.geti
  rw [run, act, limit, value, src, atom]

/-- Outside QUIET a write of HOLD_CFG keeps HIST_LOG2 and OSC_SRC (R190). -/
theorem holdSteerCfgWrite_keeps {o : Origin} (v : Nat) (ho : o ≠ .pf1) (votes : s.glb.voteFailed = []) (outside : s.mode ≠ 0) (good : s.oscBad = false) :
    ∃ t, runHoldSteerCfgWrite o 0x120004 v s = t ∧ t.get HOLD.HOLD_CFG_HIST_LOG2 = s.get HOLD.HOLD_CFG_HIST_LOG2 ∧
      t.get HOLD.HOLD_CFG_OSC_SRC = s.get HOLD.HOLD_CFG_OSC_SRC ∧ t.hold = s.hold ∧ Only [.glb] (regBlock 0x120000 0x130000 ++ unlockFlags) s t := by
  have plain : holdCfgRows.all plainRow = true := rfl
  have run := holdSteerCfgWrite_cfg o v outside
  obtain ⟨logBits, oscBits⟩ := putBits_log v (s.get_lt HOLD.HOLD_CFG_HIST_LOG2) (s.get_lt HOLD.HOLD_CFG_OSC_SRC)
  generalize putBits (putBits v 0 5 (s.get HOLD.HOLD_CFG_HIST_LOG2)) 11 1 (s.get HOLD.HOLD_CFG_OSC_SRC) = x at run logBits oscBits
  have frame := s.stored_plain o x rowsAt_holdCfg plain
  have other (f : Fld) (lo : 32 * 0x110004 ≤ f.key) (hi : f.key < 32 * 0x130000) (off : f.key < 32 * 0x120004 ∨ 32 * (0x120004 + 1) ≤ f.key) :=
    frame.read_stored f lo hi off
  have log : (s.stored o 0x120004 x).get HOLD.HOLD_CFG_HIST_LOG2 = s.get HOLD.HOLD_CFG_HIST_LOG2 := by
    rw [(s.stored_only o 0x120004 x).read _ (by decide) (by simp),
      (s.useUnlock o).2.storeFields_row (pre := []) x HOLD.HOLD_CFG_HIST_LOG2 rowsAt_holdCfg plain rfl (by decide) rfl rfl rfl]
    split
    · exact logBits
    · exact (s.useUnlock_only o).read _ (by decide) (by decide)
  have osc : (s.stored o 0x120004 x).get HOLD.HOLD_CFG_OSC_SRC = s.get HOLD.HOLD_CFG_OSC_SRC := by
    rw [(s.stored_only o 0x120004 x).read _ (by decide) (by simp),
      (s.useUnlock o).2.storeFields_get (pre := holdCfgRows.take 5) x HOLD.HOLD_CFG_OSC_SRC rowsAt_holdCfg plain rfl (by decide) rfl rfl rfl rfl]
    exact oscBits
  have steered := (s.stored o 0x120004 x).steered_only (ps := [.glb]) (s.get HOLD.HOLD_CFG_STEER_MODE) (s.get HOLD.EFC_SENS)
  rw [State.busStore_plain x _ rowsAt_holdCfg (by simp [holdCfgRows]) plain ho votes, afterHoldCfg_eq _ _ log osc] at run
  have pull (f : Fld) (lo : 32 * 0x120000 ≤ f.key) (hi : f.key < 32 * 0x130000) (off : ∀ d ∈ HOLD.EFC_BASE :: pullFields, f.key ≠ d.key) :=
    steered.read f (hold_quiet lo hi) off
  have still : ((s.stored o 0x120004 x).steered (s.get HOLD.HOLD_CFG_STEER_MODE) (s.get HOLD.EFC_SENS)).oscBad = false := by
    rw [← good]
    refine oscBad_congr ((steered.running rfl).trans (frame.running rfl))
      ((steered.read _ (by decide) (by decide)).trans (frame.read _ (by decide) fun d m => (List.mem_append.1 m).elim (not_mem_block (by decide) d) ?_))
      ((pull _ (by decide) (by decide) (by decide)).trans (other _ (by decide) (by decide) (by decide)))
      ((pull _ (by decide) (by decide) (by decide)).trans (other _ (by decide) (by decide) (by decide)))
      ((pull _ (by decide) (by decide) (by decide)).trans osc)
      ((pull _ (by decide) (by decide) (by decide)).trans (other _ (by decide) (by decide) (by decide)))
    revert d
    decide
  rw [State.oscJudge_good still] at run
  refine ⟨_, run, (pull _ (by decide) (by decide) (by decide)).trans log, (pull _ (by decide) (by decide) (by decide)).trans osc,
    (steered.hold rfl).trans (frame.hold rfl), (frame.more ?_).trans (steered.more ?_)⟩
  · rintro k ⟨d, m, e⟩
    rcases List.mem_append.1 m with m | m
    · obtain ⟨d', m', e'⟩ := regBlock_sub (lo := 0x120000) (hi := 0x130000) (by decide) (by decide) ⟨d, m, e⟩
      exact ⟨d', List.mem_append_left _ m', e'⟩
    · exact ⟨d, List.mem_append_right _ m, e⟩
  · have inside : ∀ d ∈ HOLD.EFC_BASE :: pullFields, 32 * 0x120000 ≤ d.key ∧ d.key < 32 * 0x130000 := by decide
    rintro k ⟨d, m, e⟩
    obtain ⟨d', m', e'⟩ := mem_block (inside d m).1 (inside d m).2
    exact ⟨d', List.mem_append_left _ m', e.trans e'⟩

/-! ### HOLD_SECOND_SAMPLE (R170, R172) -/

/-- The records of the history in the vat. -/
def histRange : List (Nat × Nat) := [(0x07800000, 0x07810000)]

def SampleKept (s t : State) : Prop := Only [.hold, .ref, .vat] (regBlock 0x110000 0x130000 ++ [VAT.RMW_CNT]) s t ∧ Bytes histRange s t

theorem SampleKept.trans (h : SampleKept s t) (g : SampleKept t u) : SampleKept s u := ⟨h.1.trans g.1, h.2.trans g.2⟩

theorem SampleKept.of (h : Only [.hold, .ref] (regBlock 0x110000 0x130000) s t) : SampleKept s t :=
  ⟨h.parts rfl fun _ ⟨d, m, e⟩ => ⟨d, List.mem_append_left _ m, e⟩, Bytes.of (h.vat rfl)⟩

theorem SampleKept.wrote (h : Wrote histRange s t) : SampleKept s t :=
  ⟨h.1.parts rfl fun _ ⟨d, m, e⟩ => ⟨d, List.mem_append_right _ m, e⟩, h.2⟩

theorem binBytes16_length (start count : Nat) (u temp : Int) (flags : Nat) : (binBytes16 start count u temp flags).length = 16 := by
  simp only [binBytes16, List.length_append, length_leBytes]

theorem State.binAddr_range (s : State) (start : Nat) : 0x07800000 ≤ s.binAddr start ∧ s.binAddr start + 16 ≤ 0x07810000 := by
  have few : 2 ^ s.get HOLD.HOLD_CFG_HIST_LOG2 / s.binLen ≤ 4096 := by
    unfold State.binLen
    rcases Nat.lt_or_ge (s.get HOLD.HOLD_CFG_HIST_LOG2) 12 with low | high
    · have := Nat.pow_lt_pow_right (a := 2) (by decide) low
      rw [Nat.sub_eq_zero_of_le low.le, Nat.pow_zero, Nat.div_one]
      omega
    · rw [Nat.pow_div (Nat.sub_le _ _) (by decide), show s.get HOLD.HOLD_CFG_HIST_LOG2 - (s.get HOLD.HOLD_CFG_HIST_LOG2 - 12) = 12 by omega]
  have some : 0 < 2 ^ s.get HOLD.HOLD_CFG_HIST_LOG2 / s.binLen :=
    Nat.div_pos (Nat.pow_le_pow_right (by decide) (Nat.sub_le _ _)) (Nat.two_pow_pos _)
  have := Nat.mod_lt (start / s.binLen) some
  unfold State.binAddr
  omega

theorem State.storeSample_kept (s : State) (sec : Nat) (u temp : Rat) (valid asst : Bool) : SampleKept s (s.storeSample sec u temp valid asst) := by
  unfold State.storeSample
  refine SampleKept.trans (SampleKept.of ((Only.refl s).set_hold rfl _)) (SampleKept.wrote (Wrote.vatWrite (Wrote.refl _) _ _ _ ?_))
  refine ⟨_, List.mem_singleton_self _, ?_⟩
  rw [binBytes16_length]
  exact State.binAddr_range _ _

/-- The sample of the second just ended is stored, or fails the oscillator. -/
def State.sampled (s : State) : State :=
  if s.hold.ok = true ∧ s.hold.n = 8000 ∧ s.flag HOLD.HOLD_STATUS_OSC_FAIL = false then
    if s.hold.prev.elim false (fun p => decide (((s.get HOLD.OSC_JUMP * 1024 : Nat) : Rat) < absQ ((s.hold.sumU : Rat) / (s.hold.n : Rat) - p))) ||
        decide (((s.get HOLD.OSC_LIMIT * 1024 : Nat) : Rat) < absQ ((s.hold.sumU : Rat) / (s.hold.n : Rat))) then s.oscFail.lostNow
    else ({ s with hold := { s.hold with prev := some ((s.hold.sumU : Rat) / (s.hold.n : Rat)) } } : State).storeSample s.edgeSec
      ((s.hold.sumU : Rat) / (s.hold.n : Rat)) ((s.hold.sumT : Rat) / (s.hold.n : Rat)) (!s.hold.stale) s.hold.assisted
  else s

/-- A second ends: the oscillator is judged, old bins go, and the sums are emptied. -/
def State.closeSecond (s : State) (sec : Nat) : State :=
  let x := s.oscJudge
  let y : State := { x with hold := { x.hold with goodS := if x.hold.bad then 0 else x.hold.goodS + 1, bad := false } }
  ((y.ageBins sec).newSecond).showHist

theorem runHoldSecondSample_eq (s : State) : runHoldSecondSample s = s.sampled.closeSecond s.edgeSec := by
  unfold runHoldSecondSample State.sampled
  cases s.hold.prev <;> rfl

theorem State.sampled_kept (s : State) : SampleKept s s.sampled := by
  unfold State.sampled
  split
  · split
    · exact SampleKept.of (FailKept.block (FailKept.lostNow (FailKept.oscFail (Only.refl s))))
    · exact SampleKept.trans (SampleKept.of ((Only.refl s).set_hold rfl _)) (State.storeSample_kept _ _ _ _ _ _)
  · exact SampleKept.of (Only.refl s)

theorem State.closeSecond_only (s : State) (sec : Nat) : Only [.hold, .ref] (regBlock 0x110000 0x130000) s (s.closeSecond sec) :=
  ((((FailKept.block (FailKept.oscJudge (Only.refl s))).set_hold rfl _).set_hold rfl _).set_hold rfl _).showHist (hold_mem (by decide) (by decide))
    (hold_mem (by decide) (by decide))

/-! ### HOLD_HISTORY_READ (R188) -/

/-- States that a reader of the vat sees alike: the same bytes, regions and poison. -/
structure SeenSame (s t : State) : Prop where
  vat : t.vat = s.vat
  regions : RegionsSame s t
  vatc : t.vatc = s.vatc

theorem Keeps.seen (k : Keeps [] s t) (vatc : t.vatc = s.vatc) : SeenSame s t := ⟨k.vat, k.regions, vatc⟩

theorem SeenSame.symm (a : SeenSame s t) : SeenSame t s := ⟨a.vat.symm, fun f lo hi => (a.regions f lo hi).symm, a.vatc.symm⟩

theorem SeenSame.trans (a : SeenSame s t) (b : SeenSame t u) : SeenSame s u :=
  ⟨b.vat.trans a.vat, a.regions.trans b.regions, b.vatc.trans a.vatc⟩

/-- A read that succeeds leaves what the next reader sees. -/
theorem vatRead_seen {x : List Byte} {m a n : Nat} (read : (s.vatRead m a n).1 = .ok x) : SeenSame s (s.vatRead m a n).2 := by
  refine Keeps.seen ((Keeps.refl s).vatRead m a n) ?_
  unfold State.vatRead at read ⊢
  by_cases may : s.vatMay m a n false = true
  · simp only [may, Bool.not_true, Bool.false_eq_true, if_false] at read ⊢
    cases found : s.vatc.poison.find? (fun w => decide (a < 8 * w + 8) && decide (8 * w < a + n)) with
    | none => exact State.vatCount_vatc _ _ _
    | some w =>
      rw [found] at read
      cases read
  · rw [Bool.not_eq_true] at may
    simp only [may, Bool.not_false, if_true] at read
    cases read

/-- A read gives the same where the same is seen. -/
theorem SeenSame.read (k : SeenSame s t) {m : Nat} (hm : m < 16) (a n : Nat) : (t.vatRead m a n).1 = (s.vatRead m a n).1 := by
  unfold State.vatRead
  rw [k.regions.vatMay hm, k.vatc, k.vat]
  by_cases may : s.vatMay m a n false = true
  · simp only [may, Bool.not_true, Bool.false_eq_true, if_false]
    cases s.vatc.poison.find? (fun w => decide (a < 8 * w + 8) && decide (8 * w < a + n)) <;> rfl
  · rw [Bool.not_eq_true] at may
    simp only [may, Bool.not_false, if_true]

theorem Keeps.binAddr (k : Keeps [] s t) (start : Nat) : t.binAddr start = s.binAddr start := by
  simp only [State.binAddr, State.binLen, k.read HOLD.HOLD_CFG_HIST_LOG2 (by decide)]

/-- The records of the history read the same in a state in which the same is seen. -/
theorem binData_same {b : List Byte} (bins : List HistBin) (k : SeenSame s t) (place : ∀ x, t.binAddr x = s.binAddr x)
    (read : (s.binData bins).1 = some b) : (t.binData bins).1 = some b ∧ Keeps [] t (t.binData bins).2 := by
  induction bins generalizing s t b with
  | nil => exact ⟨read, Keeps.refl t⟩
  | cons x xs ih =>
    have ht := (Keeps.refl (l := []) t).vatRead 11 (s.binAddr x.start) 16
    have hs := (Keeps.refl (l := []) s).vatRead 11 (s.binAddr x.start) 16
    have same := k.read (show 11 < 16 by decide) (s.binAddr x.start) 16
    unfold State.binData at read ⊢
    rw [place]
    dsimp only at read ⊢
    cases head : (s.vatRead 11 (s.binAddr x.start) 16).1 with
    | ok y =>
      cases rest : (State.binData (s.vatRead 11 (s.binAddr x.start) 16).2 xs).1 with
      | none => simp [head, rest] at read
      | some z =>
        obtain ⟨rest', kept⟩ := ih (((vatRead_seen head).symm.trans k).trans (vatRead_seen (same.trans head)))
          (fun p => (ht.binAddr p).trans ((place p).trans (hs.binAddr p).symm)) rest
        rw [head, rest] at read
        rw [same.trans head, rest']
        exact ⟨read, ht.trans kept⟩
    | denied y => simp [head] at read
    | uncorr => simp [head] at read

/-- An emptied history shows no usable second (R171, R172). -/
theorem State.emptyHist_shows (s : State) : s.emptyHist.get HOLD.HIST_USABLE_S = 0 ∧ Keeps [HOLD.HIST_USABLE_S, HOLD.HOLD_STATUS_HIST_VALID]
    { s with hold := { s.hold with bins := [], sums := {}, prev := none } } s.emptyHist := by
  have noted := (Keeps.refl (l := [HOLD.HIST_USABLE_S, HOLD.HOLD_STATUS_HIST_VALID])
    ({ s with hold := { s.hold with bins := [], sums := {}, prev := none } } : State)).journal .auto 3 0 s.hold.bins.length 0 0
  refine ⟨?_, (noted.putIn HOLD.HIST_USABLE_S _ (by simp)).putIn HOLD.HOLD_STATUS_HIST_VALID _ (by simp)⟩
  unfold State.emptyHist State.showHist State.usable
  simp only [noted.hold]
  exact (State.get_put_other _ _ _ _ (by decide)).trans (State.get_put_same _ _ _)

/-- A temperature of the host is fresh. -/
def State.freshTemp (s : State) : State := ({ s with hold := { s.hold with hostAt := some s.mono } } : State).showStale

theorem runHoldTempWrite_eq (o : Origin) (v : Nat) : runHoldTempWrite o v s = s.busStore o 0x12007C v true true State.freshTemp := rfl

theorem State.freshTemp_hold (s : State) : s.freshTemp.hold = { s.hold with hostAt := some s.mono } := rfl

theorem State.freshTemp_only (s : State) : Only [.hold, .glb] [HOLD.HOLD_STATUS_TEMP_STALE] s s.freshTemp :=
  ((Only.refl s).set_hold rfl _).putBK _ _ ⟨HOLD.HOLD_STATUS_TEMP_STALE, by simp, rfl⟩

/-- A write of HOLD_TEMP is fresh (R175). -/
theorem holdTempWrite_stores {o : Origin} (v : Nat) (ho : o ≠ .pf1) (votes : s.glb.voteFailed = []) :
    ∃ t, runHoldTempWrite o v s = t ∧ t.get HOLD.HOLD_TEMP = v % 2 ^ 16 ∧ t.hold = { s.hold with hostAt := some s.mono } ∧
      Only [.hold, .glb] (HOLD.HOLD_TEMP :: HOLD.HOLD_STATUS_TEMP_STALE :: unlockFlags) s t := by
  have plain : [((⟨0x12007C, 0x0, 1, 0x0, 1, 0, 16, .rw, [0], .any, .whole, false⟩ : Row), 0)].all plainRow = true := rfl
  have run := (runHoldTempWrite_eq o v).trans (State.busStore_plain (s := s) v State.freshTemp rowsAt_holdTemp (by simp) plain ho votes)
  have stored := s.stored_only o 0x12007C v
  have temp : (s.stored o 0x12007C v).get HOLD.HOLD_TEMP = v % 2 ^ 16 := by
    rw [stored.read _ (by decide) (by simp),
      (s.useUnlock o).2.storeFields_get (pre := []) v HOLD.HOLD_TEMP rowsAt_holdTemp plain rfl (by simp) rfl rfl rfl rfl]
    simp [bits]
  have fields : Only [.glb] [HOLD.HOLD_TEMP] (s.useUnlock o).2 ((s.useUnlock o).2.storeFields 0x12007C v) := by
    rw [(s.useUnlock o).2.storeFields_plain v rowsAt_holdTemp plain]
    exact (Only.refl _).putK _ _ ⟨HOLD.HOLD_TEMP, by simp, rfl⟩
  have frame : Only [.glb] (HOLD.HOLD_TEMP :: HOLD.HOLD_STATUS_TEMP_STALE :: unlockFlags) s (s.stored o 0x12007C v) :=
    ((s.useUnlock_only o).more fun _ ⟨d, m, e⟩ => ⟨d, by simp [m], e⟩).trans
      ((fields.more fun _ ⟨d, m, e⟩ => ⟨d, by simp only [List.mem_singleton] at m; simp [m], e⟩).trans (stored.more (by simp)))
  have fresh := (s.stored o 0x12007C v).freshTemp_only
  refine ⟨_, run, (fresh.read _ (by decide) (by decide)).trans temp, ?_, (frame.parts rfl fun _ h => h).trans (fresh.more ?_)⟩
  · have mono : (s.stored o 0x12007C v).mono = s.mono := by simp only [State.mono, State.units, frame.time rfl]
    rw [State.freshTemp_hold, mono, frame.hold rfl]
  · exact fun _ ⟨d, m, e⟩ => ⟨d, by simp only [List.mem_singleton] at m; simp [m], e⟩

/-! ### The statement -/

/-- Settles O16: a failure of the oscillator changes holdover and the clock alone, and a write of a steering register latches the base last. -/
theorem holdoverCommandsComplete : Obligations.HoldoverCommandsComplete := by
  refine ⟨?_, ?_, ?_, ?_, ?_, ?_, ?_, ?_⟩
  · intro s h a mode
    obtain ⟨v, hv, run, -⟩ := a.elim (g := runHoldHistoryClear h) rfl
    obtain ⟨usable, kept⟩ := (v.journalCmd h 0x70 0 0).emptyHist_shows
    have done := ((Keeps.refl (l := []) (v.journalCmd h 0x70 0 0).emptyHist).complete h 0x70 stOK 0 false).settle
    have hold : (v.journalCmd h 0x70 0 0).hold = s.hold := (hv.journalCmd _ _ _ _).hold
    refine ⟨_, rfl, ?_⟩
    rw [run, if_neg (by rw [hv.mode]; exact not_not.2 mode)]
    refine ⟨?_, (done.read _ (by decide)).trans usable, ?_⟩
    · rw [done.hold, kept.hold, hold]
    · exact ((hv.journalCmd h 0x70 0 0).only0.set_hold rfl _).tail (kept.trans done.any)
  · intro s h addr b a read ring ok
    obtain ⟨v, hv, run, -, vatc⟩ := a.elim (g := runHoldHistoryRead h addr) rfl
    obtain ⟨read', kept⟩ := binData_same s.hold.bins (hv.seen vatc) hv.binAddr read
    obtain ⟨out, sent⟩ := (v.binData s.hold.bins).2.dataOut_host h 0x71 addr b s.hold.bins.length ring ok (by simp [rangeOk, ring])
    refine ⟨_, rfl, ?_⟩
    rw [run]
    simp only [hv.hold, read']
    exact ⟨(State.settle_kept _).mem out, ((hv.trans kept).trans sent).settle⟩
  · intro s o v awake ho votes
    obtain ⟨t, run, sens, changed, same, frame⟩ := holdSteerCfgWrite_stores v ho votes
    have settled := t.settle_kept
    refine ⟨_, rfl, ?_⟩
    rw [State.awake_eq awake, run, settled.read _ (by decide), settled.read _ (by decide)]
    exact ⟨sens, changed, same, frame.settle⟩
  · intro s o v awake ho votes outside good
    obtain ⟨t, run, log, osc, hold, frame⟩ := holdSteerCfgWrite_keeps v ho votes outside good
    have settled := t.settle_kept
    refine ⟨_, rfl, ?_⟩
    rw [State.awake_eq awake, run, settled.read _ (by decide), settled.read _ (by decide), settled.hold]
    exact ⟨log, osc, hold, frame.settle⟩
  · intro s o v awake ho votes
    obtain ⟨t, run, temp, hold, frame⟩ := holdTempWrite_stores v ho votes
    have settled := t.settle_kept
    refine ⟨_, rfl, ?_⟩
    rw [State.awake_eq awake, run, settled.read _ (by decide), settled.hold]
    exact ⟨temp, hold, frame.settle⟩
  · intro s awake wf
    obtain ⟨wrote, bytes⟩ := s.sampled_kept.trans (SampleKept.of (s.sampled.closeSecond_only s.edgeSec))
    have settled := (s.sampled.closeSecond s.edgeSec).settle_kept
    refine ⟨_, rfl, ?_⟩
    rw [State.awake_eq awake, runHoldSecondSample_eq, settled.hold]
    exact ⟨rfl, rfl, rfl, rfl, ((bytes.tail settled.vat) wf).2, wrote.settle⟩
  · intro s awake clean
    refine ⟨_, rfl, ?_⟩
    rw [State.awake_eq awake, runOscGoodExpire, if_pos clean]
    have settled := (s.putB HOLD.HOLD_STATUS_OSC_FAIL false).settle_kept
    exact ⟨(settled.flag _ (by decide)).trans (State.flag_putB_same _ _ _ rfl), ((Keeps.refl s).putIn _ _ (by simp)).settle⟩
  · intro s awake
    refine ⟨_, rfl, ?_⟩
    rw [State.awake_eq awake]
    have settled := s.showStale.settle_kept
    exact ⟨(settled.flag _ (by decide)).trans (State.flag_putB_same _ _ _ rfl), ((Keeps.refl s).putIn _ _ (by simp)).settle⟩

end Sys2Proof.Machine
end

section
/-! The atomic port. -/

namespace Sys2Proof.Machine

variable {ps : List Part} {l : List Fld} {s t u : State}

/-! ### Numbers spelled by bytes -/

theorem leNat_lt (b : List Byte) : leNat b < 256 ^ b.length := by
  induction b with
  | nil => exact Nat.one_pos
  | cons x xs ih =>
    have := x.isLt
    rw [leNat, List.length_cons, Nat.pow_succ]
    omega

theorem beNat_take_lt (b : List Byte) (n : Nat) : beNat (b.take n) < 256 ^ n :=
  (leNat_lt _).trans_le (Nat.pow_le_pow_right (by decide) (by rw [List.length_reverse]; exact List.length_take_le _ _))

theorem leAt_lt (b : List Byte) (off n : Nat) : leAt b off n < 256 ^ n :=
  (leNat_lt _).trans_le (Nat.pow_le_pow_right (by decide) (List.length_take_le _ _))

/-! ### A failure of the oscillator leaves the module's temperature (R178) -/

theorem State.emptyHist_atomAt (s : State) : s.emptyHist.hold.atomAt = s.hold.atomAt := by rw [s.emptyHist_shows.2.hold]

theorem State.oscFail_atomAt (s : State) : s.oscFail.hold.atomAt = s.hold.atomAt := by
  unfold State.oscFail
  dsimp only
  split
  · rfl
  · have noted := (((Keeps.refl (l := [HOLD.HOLD_STATUS_OSC_FAIL, HOLD.OSC_FAIL_CNT])
      ({ s with hold := { s.hold with bad := true, goodS := 0, ok := false } } : State)).putIn HOLD.HOLD_STATUS_OSC_FAIL 1 (by simp)).incIn HOLD.OSC_FAIL_CNT
        (by simp)).paidEvent 0x0702 0 1 0 1
    rw [State.emptyHist_atomAt]
    exact (congrArg HoldSt.atomAt noted.hold :)

theorem State.setCat_hold (s : State) (c : Nat) : (s.setCat c).hold = s.hold := by
  unfold State.setCat
  dsimp only
  split
  · rfl
  · exact (((Keeps.refl (l := [HOLD.HOLD_STATUS_CATEGORY]) s).putIn HOLD.HOLD_STATUS_CATEGORY c (by simp)).paidEvent _ _ _ _ _).hold

/-- The time of the module's temperature is the same. -/
def SameAtomAt (s t : State) : Prop := t.hold.atomAt = s.hold.atomAt

theorem SameAtomAt.ite {c : Prop} [Decidable c] {a b : State} (h : SameAtomAt s a) (g : SameAtomAt s b) : SameAtomAt s (if c then a else b) := by
  split <;> assumption

theorem State.leaveHold_atomAt (s : State) (discard : Bool) : SameAtomAt s (s.leaveHold discard) := by
  have left : SameAtomAt s ((s.put HOLD.HOLD_EH 0).setCat 0) := by
    unfold SameAtomAt
    rw [State.setCat_hold]
    rfl
  cases discard <;> exact left

theorem State.toLost_atomAt (s : State) : SameAtomAt s (s.toClock 4 false) := by
  have sent (x : State) (h : SameAtomAt s x) :
      SameAtomAt s (((x.setSel none).put REFSEL.REFSEL_STATUS_CLOCK_STATE 4).paidEvent 0x0605 0 4 (s.get REFSEL.REFSEL_STATUS_CLOCK_STATE) 4) := by
    unfold SameAtomAt
    rw [((Keeps.refl (l := []) _).paidEvent _ _ _ _ _).hold]
    exact h
  unfold State.toClock
  exact SameAtomAt.ite rfl (sent _ (SameAtomAt.ite (s.leaveHold_atomAt _) (SameAtomAt.ite (s.leaveHold_atomAt _) rfl)))

theorem State.showSel_hold (s : State) : s.showSel.hold = s.hold :=
  foldRange_inv (fun x => x.hold = s.hold) _ rfl fun _ _ _ h => h

theorem State.oscJudge_atomAt (s : State) : s.oscJudge.hold.atomAt = s.hold.atomAt := by
  unfold State.oscJudge
  split
  · unfold State.lostNow
    split
    · rw [State.showSel_hold]
      exact (State.toLost_atomAt _).trans s.oscFail_atomAt
    · exact s.oscFail_atomAt
  · rfl

/-! ### States of the module (R184) -/

theorem State.atomGo_only (s : State) (st : Nat) : Only [.hold] [HOLD.ATOM_STATUS_STATE] s (s.atomGo st) := by
  have put : Only [.hold] [HOLD.ATOM_STATUS_STATE] s (s.put HOLD.ATOM_STATUS_STATE st) := (Only.refl s).putK _ _ ⟨_, List.mem_singleton_self _, rfl⟩
  exact Only.ite' (put.set_hold rfl _) (Only.ite' (put.set_hold rfl _) put)

theorem State.atomGo_state (s : State) {st : Nat} (h : st < 8) : (s.atomGo st).get HOLD.ATOM_STATUS_STATE = st := by
  unfold State.atomGo
  dsimp only
  split_ifs <;> exact State.get_put_fits _ _ _ h

/-- Between states other than READY nothing else changes. -/
theorem State.atomGo_plain {st : Nat} (was : s.get HOLD.ATOM_STATUS_STATE ≠ 3) (h : st ≠ 3) : s.atomGo st = s.put HOLD.ATOM_STATUS_STATE st := by
  unfold State.atomGo
  dsimp only
  rw [if_neg fun e => was e.1, if_neg fun e => h e.1]

theorem State.atomGo_atomAt (s : State) (st : Nat) : (s.atomGo st).hold.atomAt = s.hold.atomAt := by
  unfold State.atomGo
  dsimp only
  split_ifs <;> rfl

/-! ### Frames to the module (R182) -/

theorem State.atomSend_sends (s : State) (type : Nat) (payload : List Byte) (on : s.flag HOLD.ATOM_CFG_ENABLE = true) :
    Out.atom (s.get HOLD.ATOM_CFG_BAUD * 100) (atomBytes type payload) ∈ (s.atomSend type payload).out ∧ Keeps [] s (s.atomSend type payload) := by
  unfold State.atomSend
  rw [if_pos on]
  exact ⟨List.mem_cons_self .., ((Keeps.refl s).charge0 40).emit _⟩

/-- Identification starts from a state other than READY. -/
theorem atomIdentStart_asks (was : s.get HOLD.ATOM_STATUS_STATE ≠ 3) (on : s.flag HOLD.ATOM_CFG_ENABLE = true) :
    s.atomIdentStart.get HOLD.ATOM_STATUS_STATE = 1 ∧ Out.atom (s.get HOLD.ATOM_CFG_BAUD * 100) (atomBytes 0x01 []) ∈ s.atomIdentStart.out ∧
      Keeps [HOLD.ATOM_STATUS_STATE] { s with hold := { s.hold with identTries := 1, identAt := s.mono, statusAt := s.mono } } s.atomIdentStart := by
  have e : s.atomIdentStart =
      State.atomSend { s.put HOLD.ATOM_STATUS_STATE 1 with hold := { s.hold with identTries := 1, identAt := s.mono, statusAt := s.mono } } 0x01 [] := by
    unfold State.atomIdentStart
    rw [State.atomGo_plain was (by decide)]
    rfl
  have before : (s.put HOLD.ATOM_STATUS_STATE 1).flag HOLD.ATOM_CFG_ENABLE = true := (State.flag_put_other _ _ _ _ (by decide)).trans on
  obtain ⟨out, kept⟩ := State.atomSend_sends
    { s.put HOLD.ATOM_STATUS_STATE 1 with hold := { s.hold with identTries := 1, identAt := s.mono, statusAt := s.mono } } 0x01 [] before
  rw [← e] at out kept
  refine ⟨(kept.read _ (by decide)).trans (State.get_put_same _ _ _), ?_, Keeps.trans ((Keeps.refl _).putIn _ _ (List.mem_singleton_self _)) kept.any⟩
  have baud : (s.put HOLD.ATOM_STATUS_STATE 1).get HOLD.ATOM_CFG_BAUD = s.get HOLD.ATOM_CFG_BAUD := State.get_put_other _ _ _ _ (by decide)
  exact baud ▸ out

/-- The module is lost, and the oscillator is judged. -/
theorem atomAbsent_only (s : State) : Only [.hold, .ref] (regBlock 0x110000 0x130000) s s.atomAbsent.oscJudge ∧
    s.atomAbsent.oscJudge.get HOLD.ATOM_STATUS_STATE = 0 := by
  have judged := FailKept.oscJudge (Only.refl s.atomAbsent)
  have absent : Only [.hold] [HOLD.ATOM_STATUS_STATE] s s.atomAbsent ∧ s.atomAbsent.get HOLD.ATOM_STATUS_STATE = 0 := by
    unfold State.atomAbsent
    split
    · next zero => exact ⟨Only.refl s, zero⟩
    · have sent := (Keeps.refl (l := []) (s.atomGo 0)).paidEvent 0x0704 0 0 (s.get HOLD.ATOM_STATUS_STATE) 0
      exact ⟨(s.atomGo_only 0).tail sent.any, (sent.read _ (by decide)).trans (s.atomGo_state (by decide))⟩
  refine ⟨(absent.1.parts rfl ?_).trans judged.block, (judged.read _ (by decide) (by decide) (by decide)).trans absent.2⟩
  rintro k ⟨d, m, e⟩
  rw [List.mem_singleton.1 m] at e
  exact e ▸ hold_mem (by decide) (by decide)

/-! ### Frames from the module (R182 to R186) -/

/-- The oscillator is good while nothing it is judged by turns bad. -/
theorem oscBad_still (run : t.running = s.running) (act : t.get SYN.SYN_STATUS_OSC_ACT = s.get SYN.SYN_STATUS_OSC_ACT)
    (limit : t.get HOLD.OSC_LIMIT = s.get HOLD.OSC_LIMIT) (value : t.get HOLD.HOLD_VALUE = s.get HOLD.HOLD_VALUE)
    (atom : t.get HOLD.ATOM_STATUS_STATE ≠ 0 ∧ t.get HOLD.ATOM_STATUS_STATE ≠ 4) (good : s.oscBad = false) : t.oscBad = false := by
  unfold State.oscBad State.flag State.geti at good ⊢
  obtain ⟨rest, -⟩ := Bool.or_eq_false_iff.1 good
  rw [run, act, limit, value, rest, Bool.false_or, beq_false_of_ne atom.1, beq_false_of_ne atom.2, Bool.or_self, Bool.and_false]

theorem Keeps.oscBad (k : Keeps [] s t) : t.oscBad = s.oscBad :=
  oscBad_congr k.running (k.read _ (by decide)) (k.read _ (by decide)) (k.read _ (by decide)) (k.read _ (by decide)) (k.read _ (by decide))

theorem atomRx_takes {f p : List Byte} {ty : Nat} (on : s.flag HOLD.ATOM_CFG_ENABLE = true) (parsed : atomParse f = some (ty, p)) :
    s.atomRx f = (if ty = 0x81 then (s.charge0 40).atomIdentRx p else if ty = 0x82 then (s.charge0 40).atomStatusRx p else (s.charge0 40).atomAckRx p).oscJudge := by
  unfold State.atomRx
  rw [on, if_neg (by decide), parsed]

theorem State.get_puts_other (s : State) (p : List (Fld × Nat)) (f : Fld) (off : ∀ q ∈ p, f.key ≠ q.1.key) : (s.puts p).get f = s.get f := by
  induction p generalizing s with
  | nil => rfl
  | cons q p ih =>
    rw [State.puts_cons, ih _ fun r mr => off r (List.mem_cons_of_mem _ mr)]
    exact State.get_put_other _ _ _ _ (off q List.mem_cons_self)

/-- A field of a list of distinct ones reads what the list gives it. -/
theorem State.get_puts_mem (s : State) {p : List (Fld × Nat)} {f : Fld} {v : Nat} (distinct : (p.map (fun q => q.1.key)).Nodup) (m : (f, v) ∈ p)
    (fits : v < 2 ^ f.width) : (s.puts p).get f = v := by
  induction p generalizing s with
  | nil => exact absurd m List.not_mem_nil
  | cons q p ih =>
    obtain ⟨first, rest⟩ := List.nodup_cons.1 distinct
    rw [State.puts_cons]
    rcases List.mem_cons.1 m with rfl | m
    · rw [State.get_puts_other _ _ _ fun r mr e => first (List.mem_map.2 ⟨r, mr, e.symm⟩)]
      exact State.get_put_fits _ _ _ fits
    · exact ih _ rest m

/-- What an IDENT frame says of the module (Table 8-3). -/
def identFields (p : List Byte) : List (Fld × Nat) :=
  [(HOLD.ATOM_ID_VENDOR, beNat (p.take 2)), (HOLD.ATOM_ID_MODEL, beNat ((p.drop 2).take 2)), (HOLD.ATOM_SERIAL, beNat ((p.drop 4).take 4)),
    (HOLD.ATOM_FW_FW, beNat ((p.drop 8).take 2)), (HOLD.ATOM_STATUS_CAPS, leAt p 10 1), (HOLD.ATOM_RANGE, beNat ((p.drop 11).take 4)),
    (HOLD.ATOM_FW_STEER_RES, beNat ((p.drop 15).take 2))]

theorem identFields_hold (p : List Byte) : ∀ q ∈ identFields p, ∃ d ∈ regBlock 0x120000 0x130000, q.1.key = d.key := by
  simp only [identFields, List.forall_mem_cons, List.not_mem_nil]
  exact ⟨mem_block (by decide) (by decide), mem_block (by decide) (by decide), mem_block (by decide) (by decide), mem_block (by decide) (by decide),
    mem_block (by decide) (by decide), mem_block (by decide) (by decide), mem_block (by decide) (by decide), fun _ x => x.elim⟩

theorem identFields_distinct (p : List Byte) : ((identFields p).map (fun q => q.1.key)).Nodup := by
  rw [show (identFields p).map (fun q => q.1.key) = (identFields []).map (fun q => q.1.key) from rfl]
  decide

theorem identFields_off (p : List Byte) {k : Nat} (h : ∀ q ∈ identFields [], k ≠ q.1.key) : ∀ q ∈ identFields p, k ≠ q.1.key := by
  simpa only [identFields, List.forall_mem_cons] using h

/-- An IDENT frame names the module, which warms up. -/
theorem atomIdentRx_names (p : List Byte) (asked : s.get HOLD.ATOM_STATUS_STATE = 1) :
    Keeps [] ((s.puts (identFields p)).put HOLD.ATOM_STATUS_STATE 2) (s.atomIdentRx p) := by
  have still : (s.puts (identFields p)).get HOLD.ATOM_STATUS_STATE = 1 := (s.get_puts_other _ _ (identFields_off p (by decide))).trans asked
  have e : (s.puts (identFields p)).atomGo 2 = (s.puts (identFields p)).put HOLD.ATOM_STATUS_STATE 2 :=
    State.atomGo_plain (by rw [still]; decide) (by decide)
  unfold State.atomIdentRx
  rw [if_neg (not_not.2 asked)]
  exact e ▸ (Keeps.refl _).paidEvent _ _ _ _ _

/-- A field of the identity reads what the frame says. -/
theorem State.identified (s : State) (p : List Byte) {f : Fld} {v : Nat} (m : (f, v) ∈ identFields p) (fits : v < 2 ^ f.width)
    (off : f.key ≠ HOLD.ATOM_STATUS_STATE.key) : ((s.puts (identFields p)).put HOLD.ATOM_STATUS_STATE 2).get f = v :=
  (State.get_put_other _ _ _ _ off).trans (s.get_puts_mem (identFields_distinct p) m fits)

theorem atomIdent_names {f p : List Byte} (on : s.flag HOLD.ATOM_CFG_ENABLE = true) (good : s.oscBad = false) (parsed : atomParse f = some (0x81, p))
    (asked : s.get HOLD.ATOM_STATUS_STATE = 1) :
    ∃ v, Keeps [] s v ∧ Keeps [] ((v.puts (identFields p)).put HOLD.ATOM_STATUS_STATE 2) (s.atomRx f) := by
  have hv := (Keeps.refl (l := []) s).charge0 40
  have kept := atomIdentRx_names p ((hv.read HOLD.ATOM_STATUS_STATE (by decide)).trans asked)
  have same (g : Fld) (off : ∀ q ∈ identFields [], g.key ≠ q.1.key) (off' : g.key ≠ HOLD.ATOM_STATUS_STATE.key) :
      (((s.charge0 40).puts (identFields p)).put HOLD.ATOM_STATUS_STATE 2).get g = (s.charge0 40).get g :=
    (State.get_put_other _ _ _ _ off').trans (State.get_puts_other _ _ _ (identFields_off p off))
  have still : (((s.charge0 40).puts (identFields p)).put HOLD.ATOM_STATUS_STATE 2).oscBad = false :=
    oscBad_still (s := s.charge0 40) rfl (same _ (by decide) (by decide)) (same _ (by decide) (by decide)) (same _ (by decide) (by decide))
      (by rw [State.get_put_same]; decide) (hv.oscBad.trans good)
  refine ⟨s.charge0 40, hv, ?_⟩
  rw [atomRx_takes on parsed, if_pos rfl, State.oscJudge_good (kept.oscBad.trans still)]
  exact kept

/-- What a STATUS frame changes (Table 8-4). -/
def statusFields : List Fld := [HOLD.ATOM_STATUS_LOCK, HOLD.ATOM_STATUS_ALARMS, HOLD.ATOM_TEMP, HOLD.ATOM_STATUS_STATE, HOLD.HOLD_STATUS_TEMP_STALE]

/-- The registers and the store of a STATUS frame, before the state of the module follows. -/
def State.statusTaken (s : State) (p : List Byte) : State :=
  { s.puts [(HOLD.ATOM_STATUS_LOCK, leAt p 0 1 % 8), (HOLD.ATOM_STATUS_ALARMS, beNat ((p.drop 1).take 2)), (HOLD.ATOM_TEMP, beNat ((p.drop 3).take 2))] with
    hold := { s.hold with atomAt := some s.mono, statusAt := s.mono, statusPull := toS 40 (beNat ((p.drop 5).take 5)) } }

/-- The state of the module follows the lock of a STATUS frame. -/
def State.statusGoes (s : State) (lock : Nat) : State :=
  let st := s.get HOLD.ATOM_STATUS_STATE
  if (st = 2 ∨ st = 4) ∧ lock = 2 then (s.atomGo 3).event 0x0706 0 3
  else if st = 3 ∧ (lock = 0 ∨ lock = 1 ∨ lock = 3) then (s.atomGo 2).event 0x0707 0 2
  else if (st = 2 ∨ st = 3) ∧ lock = 4 then (s.atomGo 4).paidEvent 0x0708 0 4 st 4
  else s

theorem atomStatusRx_eq (p : List Byte) : s.atomStatusRx p = ((s.statusTaken p).statusGoes (leAt p 0 1)).showStale := rfl

theorem State.statusTaken_get (s : State) (p : List Byte) {f : Fld} {v : Nat} (m : (f, v) ∈ [(HOLD.ATOM_STATUS_LOCK, leAt p 0 1 % 8),
    (HOLD.ATOM_STATUS_ALARMS, beNat ((p.drop 1).take 2)), (HOLD.ATOM_TEMP, beNat ((p.drop 3).take 2))]) (fits : v < 2 ^ f.width) :
    (s.statusTaken p).get f = v :=
  State.get_puts_mem _ (show [HOLD.ATOM_STATUS_LOCK.key, HOLD.ATOM_STATUS_ALARMS.key, HOLD.ATOM_TEMP.key].Nodup by decide) m fits

theorem State.statusTaken_state (s : State) (p : List Byte) : (s.statusTaken p).get HOLD.ATOM_STATUS_STATE = s.get HOLD.ATOM_STATUS_STATE :=
  State.get_puts_other _ _ _ (by simp only [List.forall_mem_cons, List.not_mem_nil]; exact ⟨by decide, by decide, by decide, fun _ x => x.elim⟩)

theorem State.statusTaken_only (s : State) (p : List Byte) : Only [.hold] statusFields s (s.statusTaken p) := by
  refine ((Only.refl s).putsK _ ?_).set_hold rfl _
  simp only [List.forall_mem_cons, List.not_mem_nil]
  exact ⟨⟨HOLD.ATOM_STATUS_LOCK, by simp [statusFields], rfl⟩, ⟨HOLD.ATOM_STATUS_ALARMS, by simp [statusFields], rfl⟩,
    ⟨HOLD.ATOM_TEMP, by simp [statusFields], rfl⟩, fun _ x => x.elim⟩

theorem SameAtomAt.keeps (h : SameAtomAt s t) (k : Keeps [] t u) : SameAtomAt s u := (congrArg HoldSt.atomAt k.hold).trans h

theorem State.statusGoes_only (s : State) (lock : Nat) : Only [.hold] [HOLD.ATOM_STATUS_STATE] s (s.statusGoes lock) ∧ SameAtomAt s (s.statusGoes lock) := by
  have goes (st : Nat) := s.atomGo_only st
  have kept (st : Nat) : SameAtomAt s (s.atomGo st) := s.atomGo_atomAt st
  unfold State.statusGoes
  exact ⟨Only.ite' ((goes 3).event _ _ _) (Only.ite' ((goes 2).event _ _ _) (Only.ite' ((goes 4).paidEvent _ _ _ _ _) (Only.refl s))),
    SameAtomAt.ite ((kept 3).keeps ((Keeps.refl _).event _ _ _)) (SameAtomAt.ite ((kept 2).keeps ((Keeps.refl _).event _ _ _))
      (SameAtomAt.ite ((kept 4).keeps ((Keeps.refl _).paidEvent _ _ _ _ _)) rfl))⟩

theorem State.statusGoes_ready (s : State) {lock : Nat} (was : s.get HOLD.ATOM_STATUS_STATE = 2) (locked : lock = 2) :
    (s.statusGoes lock).get HOLD.ATOM_STATUS_STATE = 3 := by
  unfold State.statusGoes
  rw [if_pos ⟨.inl was, locked⟩, ((Keeps.refl (l := []) (s.atomGo 3)).event 0x0706 0 3).read _ (by decide)]
  exact s.atomGo_state (by decide)

theorem State.statusGoes_failed (s : State) {lock : Nat} (was : s.get HOLD.ATOM_STATUS_STATE = 3) (lost : lock = 4) :
    (s.statusGoes lock).get HOLD.ATOM_STATUS_STATE = 4 := by
  unfold State.statusGoes
  rw [if_neg (by rw [was]; omega), if_neg (by omega), if_pos ⟨.inr was, lost⟩,
    ((Keeps.refl (l := []) (s.atomGo 4)).paidEvent 0x0708 0 4 (s.get HOLD.ATOM_STATUS_STATE) 4).read _ (by decide)]
  exact s.atomGo_state (by decide)

/-- What a STATUS frame shows, before the oscillator is judged. -/
theorem atomStatusRx_shows (s : State) (p : List Byte) :
    (s.atomStatusRx p).get HOLD.ATOM_STATUS_LOCK = leAt p 0 1 % 8 ∧ (s.atomStatusRx p).get HOLD.ATOM_TEMP = beNat ((p.drop 3).take 2) ∧
      (s.atomStatusRx p).hold.atomAt = some s.mono ∧
      (s.get HOLD.ATOM_STATUS_STATE = 2 → leAt p 0 1 = 2 → (s.atomStatusRx p).get HOLD.ATOM_STATUS_STATE = 3) ∧
      (s.get HOLD.ATOM_STATUS_STATE = 3 → leAt p 0 1 = 4 → (s.atomStatusRx p).get HOLD.ATOM_STATUS_STATE = 4) ∧
      Only [.hold] statusFields s (s.atomStatusRx p) := by
  obtain ⟨goes, at_⟩ := (s.statusTaken p).statusGoes_only (leAt p 0 1)
  have shown (x : State) (f : Fld) (off : f.key ≠ HOLD.HOLD_STATUS_TEMP_STALE.key) : x.showStale.get f = x.get f := State.get_put_other _ _ _ _ off
  have state := s.statusTaken_state p
  rw [atomStatusRx_eq]
  refine ⟨?_, ?_, at_, fun was lock => ?_, fun was lock => ?_, ?_⟩
  · rw [shown _ _ (by decide), goes.read _ (by decide) (by decide)]
    exact s.statusTaken_get p (by simp) (Nat.mod_lt _ (by decide))
  · rw [shown _ _ (by decide), goes.read _ (by decide) (by decide)]
    exact s.statusTaken_get p (by simp) (beNat_take_lt _ 2)
  · exact (shown _ _ (by decide)).trans ((s.statusTaken p).statusGoes_ready (state.trans was) lock)
  · exact (shown _ _ (by decide)).trans ((s.statusTaken p).statusGoes_failed (state.trans was) lock)
  · refine Only.putBK ((s.statusTaken_only p).trans (goes.more ?_)) _ _ ⟨HOLD.HOLD_STATUS_TEMP_STALE, by simp [statusFields], rfl⟩
    exact fun _ ⟨d, m, e⟩ => ⟨d, by rw [List.mem_singleton.1 m]; simp [statusFields], e⟩

theorem statusFields_block {k : Nat} (h : ∃ d ∈ statusFields, k = d.key) : ∃ d ∈ regBlock 0x110000 0x130000, k = d.key := by
  have inside : ∀ d ∈ statusFields, 32 * 0x110000 ≤ d.key ∧ d.key < 32 * 0x130000 := by decide
  obtain ⟨d, m, rfl⟩ := h
  exact hold_mem (inside d m).1 (inside d m).2

/-- A STEER_ACK of the frame outstanding (R186). -/
theorem atomAckRx_takes {p : List Byte} {r : SteerOut} (out : s.hold.steer = some r) (seq : r.seq = leAt p 0 1) :
    s.atomAckRx p = if leAt p 6 1 ≤ 1 then
        State.inc { s with hold := { s.hold with steer := none, pullDue := some (toS 40 (beNat ((p.drop 1).take 5))) } } HOLD.OFFLOAD_CNT
      else { s with hold := { s.hold with steer := none, refused := true } } := by
  unfold State.atomAckRx
  rw [out]
  dsimp only
  rw [if_neg (not_not.2 seq)]

/-- A judgement follows where the oscillator is good: nothing more changes. -/
theorem steerAck_takes {f p : List Byte} {r : SteerOut} (on : s.flag HOLD.ATOM_CFG_ENABLE = true) (good : s.oscBad = false)
    (parsed : atomParse f = some (0x83, p)) (out : s.hold.steer = some r) (seq : r.seq = leAt p 0 1) :
    ∃ v, Keeps [] s v ∧ s.atomRx f = v.atomAckRx p := by
  have hv := (Keeps.refl (l := []) s).charge0 40
  refine ⟨s.charge0 40, hv, ?_⟩
  rw [atomRx_takes on parsed, if_neg (by decide), if_neg (by decide)]
  refine State.oscJudge_good ?_
  have good' := hv.oscBad.trans good
  rw [atomAckRx_takes ((congrArg HoldSt.steer hv.hold).trans out) seq]
  split
  · have counted := (Keeps.refl (l := [HOLD.OFFLOAD_CNT]) ({ s.charge0 40 with hold := { (s.charge0 40).hold with
        steer := none, pullDue := some (toS 40 (beNat ((p.drop 1).take 5))) } } : State)).incIn HOLD.OFFLOAD_CNT (by simp)
    exact (oscBad_congr counted.running (counted.get _ (by decide) (by decide)) (counted.get _ (by decide) (by decide))
      (counted.get _ (by decide) (by decide)) (counted.get _ (by decide) (by decide)) (counted.get _ (by decide) (by decide))).trans good'
  · exact good'

/-! ### The statement -/

/-- Settles O17: each event takes the module from one state of Table 8-4 to the next, and then the oscillator is judged. -/
theorem atomCommandsComplete : Obligations.AtomCommandsComplete := by
  refine ⟨?_, ?_, ?_, ?_, ?_, ?_, ?_, ?_, ?_, ?_, ?_, ?_⟩
  · intro s h a st on
    obtain ⟨v, hv, run, -⟩ := a.elim (g := runAtomRescan h) rfl
    have st' : v.get HOLD.ATOM_STATUS_STATE = 5 := (hv.read _ (by decide)).trans st
    obtain ⟨one, out, kept⟩ := atomIdentStart_asks (by rw [st']; decide) ((hv.flag _ (by decide)).trans on)
    have done := (((Keeps.refl (l := []) v.atomIdentStart).journalCmd h 0x72 0 0).complete h 0x72 stOK 0 false).settle
    refine ⟨_, rfl, ?_⟩
    rw [run, if_neg (not_not.2 st')]
    rw [hv.mono, hv.hold] at kept
    exact ⟨(done.read _ (by decide)).trans one, done.mem (hv.read HOLD.ATOM_CFG_BAUD (by decide) ▸ out), ((hv.any.with_hold _).trans kept).trans done.any⟩
  · intro s awake st on
    obtain ⟨one, out, kept⟩ := atomIdentStart_asks (s := s) (by rw [st]; decide) on
    have settled := s.atomIdentStart.settle_kept
    have run : runAtomPresentChange true s = s.atomIdentStart := (if_neg Bool.false_ne_true).trans (if_pos ⟨st, on⟩)
    refine ⟨_, rfl, ?_⟩
    rw [State.awake_eq awake, run]
    exact ⟨(settled.read _ (by decide)).trans one, settled.mem out, kept.settle⟩
  · intro s awake st
    obtain ⟨only, zero⟩ := atomAbsent_only s
    have settled := s.atomAbsent.oscJudge.settle_kept
    refine ⟨_, rfl, ?_⟩
    rw [State.awake_eq awake]
    exact ⟨(settled.read _ (by decide)).trans zero, only.settle⟩
  · intro s f p awake on good parsed asked
    obtain ⟨v, hv, kept⟩ := atomIdent_names on good parsed asked
    have done := kept.settle
    refine ⟨_, rfl, ?_⟩
    rw [State.awake_eq awake]
    refine ⟨(done.read _ (by decide)).trans (State.get_put_same _ _ _), (done.read _ (by decide)).trans (v.identified p (by simp [identFields]) (beNat_take_lt _ 2)
      (by decide)), (done.read _ (by decide)).trans (v.identified p (by simp [identFields]) (beNat_take_lt _ 2) (by decide)),
      (done.read _ (by decide)).trans (v.identified p (by simp [identFields]) (beNat_take_lt _ 4) (by decide)), done.hold.trans hv.hold, ?_⟩
    exact ((hv.only0.putsK _ (identFields_hold p)).putK _ _ (mem_block (by decide) (by decide))).tail done.any
  · intro s f p awake on parsed
    have hv := (Keeps.refl (l := []) s).charge0 40
    obtain ⟨lock, temp, at_, ready, failed, only⟩ := atomStatusRx_shows (s.charge0 40) p
    have judged := FailKept.oscJudge (Only.refl ((s.charge0 40).atomStatusRx p))
    have run : runAtomStatus f s = ((s.charge0 40).atomStatusRx p).oscJudge := atomRx_takes on parsed
    have settled := ((s.charge0 40).atomStatusRx p).oscJudge.settle_kept
    have read (g : Fld) (lo : 32 * 0x120000 ≤ g.key) (hi : g.key < 32 * 0x130000) (off : ∀ d ∈ failFields, g.key ≠ d.key) :=
      (settled.read g (hold_quiet lo hi)).trans (judged.read g lo hi off)
    refine ⟨_, rfl, ?_⟩
    rw [State.awake_eq awake, run]
    refine ⟨(read _ (by decide) (by decide) (by decide)).trans lock, (read _ (by decide) (by decide) (by decide)).trans temp, ?_, fun was e => ?_,
      fun was e => ?_, ((hv.only0.trans (only.more fun _ => statusFields_block)).parts rfl fun _ h => h).trans (judged.block.settle)⟩
    · rw [settled.hold, State.oscJudge_atomAt, at_, hv.mono]
    · exact (read _ (by decide) (by decide) (by decide)).trans (ready ((hv.read _ (by decide)).trans was) e)
    · exact (read _ (by decide) (by decide) (by decide)).trans (failed ((hv.read _ (by decide)).trans was) e)
  · intro s f p r awake on good parsed out seq
    obtain ⟨v, hv, run⟩ := steerAck_takes on good parsed out seq
    have settled := (v.atomAckRx p).settle_kept
    refine ⟨_, rfl, ?_⟩
    rw [State.awake_eq awake, runSteerAck, run]
    rw [atomAckRx_takes ((congrArg HoldSt.steer hv.hold).trans out) seq] at settled ⊢
    by_cases ack : leAt p 6 1 ≤ 1
    · rw [if_pos ack] at settled ⊢
      have counted := (Keeps.refl (l := [HOLD.OFFLOAD_CNT]) ({ v with hold := { v.hold with
        steer := none, pullDue := some (toS 40 (beNat ((p.drop 1).take 5))) } } : State)).incIn HOLD.OFFLOAD_CNT (by simp)
      rw [if_pos ack, settled.hold, counted.hold]
      refine ⟨rfl, ⟨rfl, ?_⟩, (hv.only0.set_hold rfl _).tail (counted.trans settled.any)⟩
      rw [settled.read _ (by decide), ← hv.read HOLD.OFFLOAD_CNT (by decide)]
      exact State.incBy_get _ _ _ rfl (by decide)
    · rw [if_neg ack] at settled ⊢
      rw [if_neg ack, settled.hold]
      exact ⟨rfl, ⟨rfl, (settled.read _ (by decide)).trans (hv.read HOLD.OFFLOAD_CNT (by decide))⟩, (hv.only0.set_hold rfl _).tail settled.any⟩
  · intro s f awake on bad
    have hv := (Keeps.refl (l := []) s).charge0 40
    have run : runAtomBadFrame f s = (s.charge0 40).inc HOLD.ATOM_BAD_CNT := by
      unfold runAtomBadFrame State.atomRx
      rw [on, if_neg (by decide), bad]
    refine ⟨_, rfl, ?_⟩
    rw [State.awake_eq awake, run]
    have settled := ((s.charge0 40).inc HOLD.ATOM_BAD_CNT).settle_kept
    exact ⟨(settled.read _ (by decide)).trans ((State.incBy_get _ _ _ rfl (by decide)).trans (by rw [hv.read _ (by decide)])),
      (hv.any.incIn _ (by simp)).settle⟩
  · intro s awake asked few on late
    have run : runAtomIdentRetry s =
        State.atomSend { s with hold := { s.hold with identTries := s.hold.identTries + 1, identAt := s.mono } } 0x01 [] := by
      unfold runAtomIdentRetry
      rw [if_neg (by simp [asked, late]), if_neg (by omega)]
    obtain ⟨out, kept⟩ := State.atomSend_sends { s with hold := { s.hold with identTries := s.hold.identTries + 1, identAt := s.mono } } 0x01 [] on
    refine ⟨_, rfl, ?_⟩
    rw [State.awake_eq awake, run]
    exact ⟨(State.settle_kept _).mem out, kept.settle⟩
  · intro s awake asked many late
    have run : runAtomIdentRetry s = (s.put HOLD.ATOM_STATUS_STATE 5).event 0x0705 0 5 := by
      unfold runAtomIdentRetry
      rw [if_neg (by simp [asked, late]), if_pos many, State.atomGo_plain (by rw [asked]; decide) (by decide)]
    have done := ((Keeps.refl (l := []) (s.put HOLD.ATOM_STATUS_STATE 5)).event 0x0705 0 5).settle
    refine ⟨_, rfl, ?_⟩
    rw [State.awake_eq awake, run]
    exact ⟨(done.read _ (by decide)).trans (State.get_put_same _ _ _), ((Keeps.refl s).putIn _ _ (by simp)).trans done.any⟩
  · intro s awake st late
    obtain ⟨only, zero⟩ := atomAbsent_only s
    have settled := s.atomAbsent.oscJudge.settle_kept
    refine ⟨_, rfl, ?_⟩
    rw [State.awake_eq awake, runAtomStatusTimeout, if_pos late]
    exact ⟨(settled.read _ (by decide)).trans zero, only.settle⟩
  · intro s r awake out few on late
    have run : runAtomSteerTimeout s = s.sendSteer { r with tries := r.tries + 1 } := by
      unfold runAtomSteerTimeout
      rw [out]
      dsimp only
      rw [if_neg (by rw [late]; decide), if_pos few]
    obtain ⟨sent, kept⟩ := State.atomSend_sends { s with hold := { s.hold with steer := some { r with tries := r.tries + 1, sentAt := s.mono } } } 0x02
      (leBytes 1 r.seq ++ beBytes 5 (ofS 40 r.freq)) on
    refine ⟨_, rfl, ?_⟩
    rw [State.awake_eq awake, run]
    exact ⟨(State.settle_kept _).mem sent, kept.settle⟩
  · intro s r awake out many late
    have run : runAtomSteerTimeout s = State.inc { s with hold := { s.hold with steer := none } } HOLD.ATOM_STEER_FAIL_CNT := by
      unfold runAtomSteerTimeout
      rw [out]
      dsimp only
      rw [if_neg (by rw [late]; decide), if_neg (by omega)]
    have settled := (State.inc { s with hold := { s.hold with steer := none } } HOLD.ATOM_STEER_FAIL_CNT).settle_kept
    refine ⟨_, rfl, ?_⟩
    rw [State.awake_eq awake, run]
    exact ⟨(settled.read _ (by decide)).trans (State.incBy_get _ _ _ rfl (by decide)), ((Keeps.refl _).incIn _ (by simp)).settle⟩

end Sys2Proof.Machine
end

section
/-! A reply that is sealed with no key. -/

namespace Sys2Proof.Machine

/-- An NTS response for which no server-to-client key was taken from the request. -/
def keyless : NtpMsg := { kind := 1, dest := { transport := 1, dmac := [] }, req := [], time := 0 }

/-- The reply that carries it. -/
def keylessQueued : Reply := { cls := 0, since := 0, len := 0, body := .ntp keyless }

/-- In GRANDMASTER, with a deckle of one REPLY_SLOT in buffer 0 and the response queued at port 0, whose delays are sized 0. -/
def keylessReply : State :=
  { State.reset.put SHEET.SHEET_STATUS_EMPTY_SCHED 0 with
    running := true
    vat := [(0x04000000, 0x10), (0x04000100, 1), (0x04000112, 0x04)]
    glb := { mode := 2 }
    time := { cnt := 2 ^ 40, edge := 2 ^ 40 }
    mac := { ports := [{ replies := [keylessQueued] }] }
    siz := { user := [⟨0x100, 0, 0, []⟩] } }

/-- The entry of the deckle. -/
def replySlot : Entry := ⟨0, 2, 0, 0, false, false, false, false, 0, 0⟩

/-- What the executor fetches of it: of the header, the first word alone is not 0. -/
def replySlotFetched : Fetched := ⟨0, ⟨16, 0, 0, 0, 0, 0, 0, 0, 0, 0, 0, 0⟩, 0, replySlot⟩

theorem keylessReply_discards : ((keylessReply.awake (runDeckleReplySlot 0)).settle).get NTS.NTS_RESP_CNT = 0 := by decide +kernel

/-- Refutes O18: a response that has no key is sealed to no bytes and leaves without being counted (R307). -/
theorem not_deckleEntriesComplete : ¬ Obligations.DeckleEntriesComplete := by
  rintro ⟨-, -, -, reply, -⟩
  obtain ⟨t, ht, -, -, counted, -⟩ := reply keylessReply 0 replySlotFetched keylessQueued keyless rfl rfl (by decide +kernel) rfl rfl (by decide +kernel)
    (by decide +kernel) (by decide +kernel) (by decide +kernel) (by decide +kernel) rfl (by decide) (.inl rfl) rfl
  have shown : t.get NTS.NTS_RESP_CNT = 0 := Host.Outcome.next.inj ht ▸ keylessReply_discards
  exact absurd (shown.symm.trans counted) (by decide +kernel)

end Sys2Proof.Machine
end

section
/-! Ports, modules and links. -/

namespace Sys2Proof.Machine

variable {ps : List Part} {l : List Fld} {s t u : State}

/-! ### Ports -/

theorem State.flag_putB (s : State) (f : Fld) (b : Bool) (w : f.width = 1) : (s.putB f b).flag f = b := by
  unfold State.flag State.putB
  rw [State.get_put_same, w]
  cases b <;> rfl

theorem Keeps.port (k : Keeps l s t) (p : Nat) : t.port p = s.port p := by simp only [State.port, k.mac]

theorem Keeps.setPort (k : Keeps l s t) (p : Nat) (q : PortSt) : Keeps l (s.setPort p q) (t.setPort p q) := by
  unfold State.setPort
  rw [k.mac]
  exact k.with_mac _

theorem State.port_setPort (s : State) {p : Nat} (q : PortSt) (there : p < s.mac.ports.length) : (s.setPort p q).port p = q :=
  nth_setNth_same _ _ _ _ there

theorem State.setPort_length (s : State) (p : Nat) (q : PortSt) : (s.setPort p q).mac.ports.length = s.mac.ports.length := List.length_set

/-- The fields of the ports lie in a gap of what bookkeeping writes. -/
theorem port_quiet {k : Nat} (lo : 32 * 0x180000 ≤ k) (hi : k < 32 * 0x1A0000) : noisy k = false := noisy_gaps (by omega)

/-! ### What a change of the link shows -/

theorem linkFields_mem {p : Nat} {f : Fld} (m : f ∈ linkFields p) : ∃ d ∈ linkFields p, f.key = d.key := ⟨f, m, rfl⟩

/-- What an exit from LINKING or UP shows. -/
def downFields (p : Nat) : List Fld := [MAC.PORT_STATUS_LINK p, MAC.PORT_STATUS_FEC_LOCK p, MAC.PORT_STATUS_LPI_TX p, MAC.PORT_STATUS_LPI_RX p,
  MAC.LINK_DOWN_CNT p, PTP.NEG_PENDING]

theorem downFields_mem {p : Nat} {f : Fld} (m : f ∈ downFields p) : ∃ d ∈ downFields p, f.key = d.key := ⟨f, m, rfl⟩

theorem downFields_link (p : Nat) : ∀ f ∈ downFields p, f ∈ linkFields p := by simp [downFields, linkFields]

/-- The state with the link of a port shown in a state of Table 11-4, without FEC lock and low power. -/
def State.linkShown (s : State) (p dest : Nat) : State :=
  s.puts [(MAC.PORT_STATUS_LINK p, dest), (MAC.PORT_STATUS_FEC_LOCK p, 0), (MAC.PORT_STATUS_LPI_TX p, 0), (MAC.PORT_STATUS_LPI_RX p, 0)]

theorem State.linkShown_keeps (s : State) (p dest : Nat) : Keeps (downFields p) s (s.linkShown p dest) := by
  refine (Keeps.refl s).putsK _ ?_
  simp only [List.forall_mem_cons, List.not_mem_nil]
  exact ⟨downFields_mem (by simp [downFields]), downFields_mem (by simp [downFields]), downFields_mem (by simp [downFields]),
    downFields_mem (by simp [downFields]), fun _ x => x.elim⟩

theorem State.linkShown_link (s : State) (p : Nat) {dest : Nat} (h : dest < 4) : (s.linkShown p dest).get (MAC.PORT_STATUS_LINK p) = dest := by
  simp only [State.linkShown, State.puts]
  rw [State.get_put_other _ _ _ _ (by simp [MAC.PORT_STATUS_LINK, MAC.PORT_STATUS_LPI_RX]),
    State.get_put_other _ _ _ _ (by simp [MAC.PORT_STATUS_LINK, MAC.PORT_STATUS_LPI_TX]),
    State.get_put_other _ _ _ _ (by simp [MAC.PORT_STATUS_LINK, MAC.PORT_STATUS_FEC_LOCK])]
  exact State.get_put_fits _ _ _ h

theorem Keeps.txDone (k : Keeps l s t) (d : TxDone) (status : Nat) : Keeps l s (t.txDone d status) := by
  unfold State.txDone
  exact Keeps.ite' ((k.pay 3 10 (by decide)).ringWrite _ _ (State.get_lt t (HIF.RING_CFG_PAIR d.ring))) ((k.pay 3 10 (by decide)).hifSet _)

/-- A port without frames that wait to be sent. -/
def PortSt.silent (q : PortSt) : PortSt := { q with replies := [], unsched := [] }

theorem State.dropTx_keeps (s : State) (p : Nat) : Keeps [PTP.NEG_PENDING] (s.setPort p (s.port p).silent) (s.dropTx p) := by
  unfold State.dropTx
  refine Keeps.foldList _ _ (((Keeps.refl (s.setPort p (s.port p).silent)).putIn PTP.NEG_PENDING _ (by simp))) ?_
  intro x f k
  split
  · exact k.txDone _ _
  · exact k

theorem Keeps.linkEvent (k : Keeps l s t) (code p old new : Nat) : Keeps l s (t.linkEvent code p old new) := by
  unfold State.linkEvent
  exact ((k.pay 3 2000 (by decide)).eventIn _ _ _).journal _ _ _ _ _ _

/-- An exit from UP discards what waits at the port and is counted (R232, R256). -/
theorem State.linkDrop_up {p : Nat} (dest : Nat) (up : s.get (MAC.PORT_STATUS_LINK p) = 2) :
    s.linkDrop p dest = (((s.linkShown p dest).dropTx p).inc (MAC.LINK_DOWN_CNT p)).linkEvent 0x0805 p 2 dest := if_pos up

theorem State.linkDrop_notUp {p : Nat} (dest : Nat) (up : s.get (MAC.PORT_STATUS_LINK p) ≠ 2) : s.linkDrop p dest = s.linkShown p dest := if_neg up

/-- What an exit from LINKING or UP keeps of the ports. -/
theorem State.linkDrop_keeps (s : State) (p dest : Nat) :
    Keeps (downFields p) (if s.get (MAC.PORT_STATUS_LINK p) = 2 then s.setPort p (s.port p).silent else s) (s.linkDrop p dest) := by
  have shown := s.linkShown_keeps p dest
  by_cases up : s.get (MAC.PORT_STATUS_LINK p) = 2
  · rw [if_pos up, State.linkDrop_up dest up]
    have dropped := (s.linkShown p dest).dropTx_keeps p
    rw [shown.port] at dropped
    exact (((shown.setPort p _).trans (dropped.more (by simp [downFields]))).incIn _ (by simp [downFields])).linkEvent _ _ _ _
  · rw [if_neg up, State.linkDrop_notUp dest up]
    exact shown

/-- A port in which only what waits to be sent may be gone. -/
def PortSt.Drops (q r : PortSt) : Prop := r = q ∨ r = q.silent

theorem State.linkDrop_only (s : State) (p dest : Nat) : Only [.mac] (linkFields p) s (s.linkDrop p dest) := by
  have start : Only [.mac] (linkFields p) s (if s.get (MAC.PORT_STATUS_LINK p) = 2 then s.setPort p (s.port p).silent else s) :=
    Only.ite' ((Only.refl s).set_mac rfl _) (Only.refl s)
  exact start.tail ((s.linkDrop_keeps p dest).more (downFields_link p))

theorem State.linkDrop_length (s : State) (p dest : Nat) : (s.linkDrop p dest).mac.ports.length = s.mac.ports.length := by
  rw [(s.linkDrop_keeps p dest).mac]
  split
  · exact s.setPort_length p _
  · rfl

theorem State.linkDrop_port (s : State) {p : Nat} (dest : Nat) (there : p < s.mac.ports.length) : PortSt.Drops (s.port p) ((s.linkDrop p dest).port p) := by
  rw [(s.linkDrop_keeps p dest).port]
  split
  · exact .inr (s.port_setPort _ there)
  · exact .inl rfl

theorem State.linkDrop_module (s : State) {p : Nat} (hp : p ≤ 7) (dest : Nat) :
    (s.linkDrop p dest).get (MAC.PORT_STATUS_MOD_STATE p) = s.get (MAC.PORT_STATUS_MOD_STATE p) := by
  have quiet : noisy (MAC.PORT_STATUS_MOD_STATE p).key = false :=
    port_quiet (by simp only [MAC.PORT_STATUS_MOD_STATE]; omega) (by simp only [MAC.PORT_STATUS_MOD_STATE]; omega)
  refine ((s.linkDrop_keeps p dest).get _ quiet ?_).trans (by split <;> rfl)
  simp only [downFields, List.forall_mem_cons, List.not_mem_nil, false_implies, implies_true, and_true, MAC.PORT_STATUS_MOD_STATE, MAC.PORT_STATUS_LINK, MAC.PORT_STATUS_FEC_LOCK,
    MAC.PORT_STATUS_LPI_TX, MAC.PORT_STATUS_LPI_RX, MAC.LINK_DOWN_CNT, PTP.NEG_PENDING]
  omega

theorem State.linkDrop_link (s : State) {p dest : Nat} (hp : p ≤ 7) (h : dest < 4) : (s.linkDrop p dest).get (MAC.PORT_STATUS_LINK p) = dest := by
  have quiet : noisy (MAC.PORT_STATUS_LINK p).key = false :=
    port_quiet (by simp only [MAC.PORT_STATUS_LINK]; omega) (by simp only [MAC.PORT_STATUS_LINK]; omega)
  have off : (MAC.PORT_STATUS_LINK p).key ≠ PTP.NEG_PENDING.key := by simp only [MAC.PORT_STATUS_LINK, PTP.NEG_PENDING]; omega
  have off' : (MAC.PORT_STATUS_LINK p).key ≠ (MAC.LINK_DOWN_CNT p).key := by simp only [MAC.PORT_STATUS_LINK, MAC.LINK_DOWN_CNT]; omega
  by_cases up : s.get (MAC.PORT_STATUS_LINK p) = 2
  · have counted := ((Keeps.refl (l := [MAC.LINK_DOWN_CNT p]) ((s.linkShown p dest).dropTx p)).incIn (MAC.LINK_DOWN_CNT p) (by simp)).linkEvent 0x0805 p 2 dest
    rw [State.linkDrop_up dest up, counted.get _ quiet (by simpa using off'), ((s.linkShown p dest).dropTx_keeps p).get _ quiet (by simpa using off)]
    exact s.linkShown_link p h
  · rw [State.linkDrop_notUp dest up]
    exact s.linkShown_link p h

theorem downCnt_quiet {p : Nat} (hp : p ≤ 7) : noisy (MAC.LINK_DOWN_CNT p).key = false :=
  port_quiet (by simp only [MAC.LINK_DOWN_CNT]; omega) (by simp only [MAC.LINK_DOWN_CNT]; omega)

theorem State.linkDrop_counts (s : State) {p : Nat} (hp : p ≤ 7) (dest : Nat) (up : s.get (MAC.PORT_STATUS_LINK p) = 2) :
    (s.linkDrop p dest).get (MAC.LINK_DOWN_CNT p) = min (s.get (MAC.LINK_DOWN_CNT p) + 1) (2 ^ 48 - 1) := by
  have quiet := downCnt_quiet hp
  have event := (Keeps.refl (l := []) (((s.linkShown p dest).dropTx p).inc (MAC.LINK_DOWN_CNT p))).linkEvent 0x0805 p 2 dest
  have dropped := (s.linkShown p dest).dropTx_keeps p
  have shown : (s.linkShown p dest).get (MAC.LINK_DOWN_CNT p) = s.get (MAC.LINK_DOWN_CNT p) := by
    refine State.get_puts_other _ _ _ ?_
    simp only [List.forall_mem_cons, List.not_mem_nil, false_implies, implies_true, and_true, MAC.LINK_DOWN_CNT, MAC.PORT_STATUS_LINK,
      MAC.PORT_STATUS_FEC_LOCK, MAC.PORT_STATUS_LPI_TX, MAC.PORT_STATUS_LPI_RX]
    omega
  rw [State.linkDrop_up dest up, event.read _ quiet, State.inc, State.incBy_get _ _ _ rfl quiet,
    dropped.get _ quiet (by simp only [List.forall_mem_cons, List.not_mem_nil, false_implies, implies_true, and_true, MAC.LINK_DOWN_CNT, PTP.NEG_PENDING]; omega)]
  exact congrArg (fun x => min (x + 1) _) shown

/-! ### The rows between PRESENT and LINKING -/

theorem State.portEval_only (s : State) (p : Nat) : Only [.mac] (linkFields p) s (s.portEval p) := by
  have bad := (Only.refl (ps := [.mac]) (l := linkFields p) s).putBK (MAC.PORT_STATUS_REF_BAD p)
    (s.get (MAC.PORT_CFG_RATE p) != 3 && !s.calFive (s.get (MAC.PORT_CFG_REF_CAL p))) (linkFields_mem (by simp [linkFields]))
  unfold State.portEval
  exact Only.ite' bad (Only.ite' (Only.ite' (bad.putK _ _ (linkFields_mem (by simp [linkFields]))) bad)
    (Only.ite' bad (bad.trans (State.linkDrop_only _ p 0))))

theorem State.portEval_length (s : State) (p : Nat) : (s.portEval p).mac.ports.length = s.mac.ports.length := by
  unfold State.portEval
  dsimp only
  split
  · rfl
  · split
    · split <;> rfl
    · split
      · rfl
      · exact State.linkDrop_length _ _ _

theorem State.portEval_port (s : State) {p : Nat} (there : p < s.mac.ports.length) : PortSt.Drops (s.port p) ((s.portEval p).port p) := by
  unfold State.portEval
  dsimp only
  split
  · exact .inl rfl
  · split
    · split <;> exact .inl rfl
    · split
      · exact .inl rfl
      · exact State.linkDrop_port _ _ there

/-- The state of a module is left to the events of the module. -/
theorem State.portEval_module (s : State) {p : Nat} (hp : p ≤ 7) :
    (s.portEval p).get (MAC.PORT_STATUS_MOD_STATE p) = s.get (MAC.PORT_STATUS_MOD_STATE p) := by
  have quiet : noisy (MAC.PORT_STATUS_MOD_STATE p).key = false :=
    port_quiet (by simp only [MAC.PORT_STATUS_MOD_STATE]; omega) (by simp only [MAC.PORT_STATUS_MOD_STATE]; omega)
  have bad (b : Bool) : (s.putB (MAC.PORT_STATUS_REF_BAD p) b).get (MAC.PORT_STATUS_MOD_STATE p) = s.get (MAC.PORT_STATUS_MOD_STATE p) :=
    State.get_put_other _ _ _ _ (by simp [MAC.PORT_STATUS_MOD_STATE, MAC.PORT_STATUS_REF_BAD])
  unfold State.portEval
  dsimp only
  split
  · exact bad _
  · split
    · split
      · exact (State.get_put_other _ _ _ _ (by simp [MAC.PORT_STATUS_MOD_STATE, MAC.PORT_STATUS_LINK])).trans (bad _)
      · exact bad _
    · split
      · exact bad _
      · exact (State.linkDrop_module _ hp 0).trans (bad _)

/-! ### Fields of a port -/

theorem link_quiet {p : Nat} (hp : p ≤ 7) : noisy (MAC.PORT_STATUS_LINK p).key = false :=
  port_quiet (by simp only [MAC.PORT_STATUS_LINK]; omega) (by simp only [MAC.PORT_STATUS_LINK]; omega)

theorem module_quiet {p : Nat} (hp : p ≤ 7) : noisy (MAC.PORT_STATUS_MOD_STATE p).key = false :=
  port_quiet (by simp only [MAC.PORT_STATUS_MOD_STATE]; omega) (by simp only [MAC.PORT_STATUS_MOD_STATE]; omega)

theorem Keeps.portSize (k : Keeps l s t) (p f : Nat) : t.portSize p f = s.portSize p f := by simp only [State.portSize, State.userItem, k.siz]

theorem Keeps.taiSec (k : Keeps l s t) : t.taiSec = s.taiSec := by simp only [State.taiSec, k.units]

theorem Keeps.sizeItem (k : Keeps l s t) (o : Origin) (i a : Nat) (b : List Byte) : Keeps l (s.sizeItem o i a b) (t.sizeItem o i a b) := by
  unfold State.sizeItem
  rw [k.siz]
  exact k.with_siz _

/-! ### The sizing of a port (R258) -/

/-- Sizing of a port takes its link down and waits for the round trip. -/
def State.sizesPort (s : State) (h : Hdr) (p : Nat) : State :=
  let t := if s.get (MAC.PORT_STATUS_LINK p) = 0 then s else s.linkDrop p 0
  t.setPort p { t.port p with sizing := some h }

theorem portSize_sizes (h : Hdr) {p : Nat} (a : s.Accepts h false 0) (mode : s.mode = 1) (hp : p ≤ 7) (idle : (s.port p).sizing = none) :
    ∃ v, Keeps [] s v ∧ s.awake (runPortSize h p) = (v.sizesPort h p).journalCmd h 0x90 p 0 := by
  obtain ⟨v, hv, run, -⟩ := a.elim (g := runPortSize h p) rfl
  refine ⟨v, hv, ?_⟩
  rw [run, if_neg (by rw [hv.mode]; omega), if_neg (by omega), if_neg (by rw [hv.port, idle]; decide)]
  rfl

theorem State.sizesPort_only (s : State) (h : Hdr) (p : Nat) : Only [.mac] (linkFields p) s (s.sizesPort h p) := by
  unfold State.sizesPort
  exact (Only.ite' (Only.refl s) (s.linkDrop_only p 0)).set_mac rfl _

theorem State.sizesPort_link (s : State) (h : Hdr) {p : Nat} (hp : p ≤ 7) : (s.sizesPort h p).get (MAC.PORT_STATUS_LINK p) = 0 := by
  have link : (if s.get (MAC.PORT_STATUS_LINK p) = 0 then s else s.linkDrop p 0).get (MAC.PORT_STATUS_LINK p) = 0 := by
    split
    · assumption
    · exact s.linkDrop_link hp (by decide)
  exact link

theorem State.sizesPort_sizing (s : State) (h : Hdr) {p : Nat} (there : p < s.mac.ports.length) : ((s.sizesPort h p).port p).sizing = some h := by
  unfold State.sizesPort
  dsimp only
  rw [State.port_setPort]
  split
  · exact there
  · rwa [s.linkDrop_length]

/-- The delays that a round trip gives a port, as the body of its item. -/
def State.tripBody (s : State) (p trip : Nat) : List Byte :=
  let a := Config.factoryPort p 0
  let b := Config.factoryPort p 1
  let share : Rat := if a + b = 0 then Config.factoryShare p else (a : Rat) / ((a + b : Int) : Rat)
  let tx := roundQ (psU ((trip : Rat) * share))
  let rx := roundQ (psU (trip : Rat)) - tx
  portBody [tx, rx, s.portSize p 2, s.portSize p 3] [Config.sizedUInt p trip, (s.portSize p 5).toNat]

/-- The round trip has come: the sizing ends and its item is due. -/
def State.tripTaken (s : State) (h : Hdr) (p trip : Nat) : State :=
  let t := s.setPort p { s.port p with sizing := none }
  t.sizeItem h.origin (0x100 + p) t.taiSec (t.tripBody p trip)

theorem runPortSizeDone_sizing {p trip : Nat} {h : Hdr} (running : (s.port p).sizing = some h) :
    runPortSizeDone p trip s = ((s.tripTaken h p trip).portEval p).complete h 0x90 stOK trip := by
  unfold runPortSizeDone
  rw [running]
  rfl

theorem State.tripTaken_only (s : State) (h : Hdr) (p trip : Nat) : Only [.mac, .siz] (linkFields p) s (s.tripTaken h p trip) :=
  ((Only.refl s).set_mac rfl _).set_siz rfl _

theorem PortSt.Drops.sizing {q r : PortSt} (h : q.Drops r) : r.sizing = q.sizing := by rcases h with rfl | rfl <;> rfl

theorem PortSt.Drops.ident {q r : PortSt} (h : q.Drops r) : r.ident = q.ident := by rcases h with rfl | rfl <;> rfl

theorem leNat_leBytes (n v : Nat) : leNat (leBytes n v) = v % 256 ^ n := by
  induction n generalizing v with
  | zero => simp [leBytes, leNat, Nat.mod_one]
  | succ n ih =>
    rw [leBytes, leNat, ih, BitVec.toNat_ofNat, show 256 ^ (n + 1) = 256 * 256 ^ n from Nat.pow_succ']
    exact Nat.mod_mul.symm

theorem ofS_lt (w : Nat) (i : Int) : ofS w i < 2 ^ w := by
  have pos : (0 : Int) < (2 ^ w : Nat) := by positivity
  have := Int.emod_lt_of_pos i pos
  have := Int.emod_nonneg i pos.ne'
  unfold ofS
  omega

theorem leAt_leBytes_head (n v : Nat) (b : List Byte) : leAt (leBytes n v ++ b) 0 n = v % 256 ^ n := by
  rw [leAt, List.drop_zero, List.take_left' (length_leBytes n v), leNat_leBytes]

theorem leAt_skip {x b : List Byte} {k n : Nat} (len : x.length = k) (off : Nat) : leAt (x ++ b) (k + off) n = leAt b off n := by
  subst len
  rw [leAt, leAt, List.drop_append, List.drop_eq_nil_of_le (by omega), Nat.add_sub_cancel_left, List.nil_append]

/-- The two internal delays of an item add up to the round trip. -/
theorem portBody_sum (tx trip a b : Int) (u : List Nat) :
    (leAt (portBody [tx, trip - tx, a, b] u) 0 4 + leAt (portBody [tx, trip - tx, a, b] u) 4 4) % 2 ^ 32 = ofS 32 trip := by
  have first : leAt (portBody [tx, trip - tx, a, b] u) 0 4 = ofS 32 tx := by
    simp only [portBody, List.flatMap_cons, List.append_assoc]
    exact (leAt_leBytes_head _ _ _).trans (Nat.mod_eq_of_lt (ofS_lt 32 tx))
  have second : leAt (portBody [tx, trip - tx, a, b] u) 4 4 = ofS 32 (trip - tx) := by
    simp only [portBody, List.flatMap_cons, List.append_assoc]
    exact (leAt_skip (length_leBytes 4 _) 0).trans ((leAt_leBytes_head _ _ _).trans (Nat.mod_eq_of_lt (ofS_lt 32 _)))
  rw [first, second]
  simp only [ofS]
  omega

/-! ### Announcements -/

theorem State.announce_only (s : State) (p : Nat) (v4 v6 : List (List Byte)) : Only [.mac] [NTS.ARP_ANS_CNT, NTS.ND_ANS_CNT] s (s.announce p v4 v6) := by
  unfold State.announce
  refine Only.foldl _ (fun x _ => ?_) _ (Only.foldl _ (fun x _ => ?_) _ (Only.refl s))
  · exact ((((Only.refl x).pay 2 250 (by decide)).incK NTS.ND_ANS_CNT ⟨_, by simp, rfl⟩).set_mac rfl _)
  · exact ((((Only.refl x).pay 2 250 (by decide)).incK NTS.ARP_ANS_CNT ⟨_, by simp, rfl⟩).set_mac rfl _)

/-! ### Modules come and go (Table 11-4) -/

/-- The module of a port is gone, with its transfers. -/
def State.moduleGone (s : State) (p : Nat) : State :=
  let t := (s.linkDrop p 0).put (MAC.PORT_STATUS_MOD_STATE p) 0
  t.setPort p { t.port p with mods := [], ident := [] }

theorem modPrsChange_gone {p : Nat} (present : s.get (MAC.PORT_STATUS_MOD_STATE p) ≠ 0) :
    Keeps [] (s.moduleGone p) (runModPrsChange p true s) := by
  unfold runModPrsChange
  rw [if_pos rfl, if_neg present]
  exact Keeps.linkEvent (Keeps.foldList _ _ (Keeps.refl (s.moduleGone p)) fun _ _ k => k.complete _ _ _ _ _) _ _ _ _

theorem State.moduleGone_only (s : State) (p : Nat) : Only [.mac] (linkFields p) s (s.moduleGone p) :=
  ((s.linkDrop_only p 0).putK _ _ (linkFields_mem (by simp [linkFields]))).set_mac rfl _

theorem State.moduleGone_link (s : State) {p : Nat} (hp : p ≤ 7) : (s.moduleGone p).get (MAC.PORT_STATUS_LINK p) = 0 :=
  (State.get_put_other _ _ _ _ (by simp [MAC.PORT_STATUS_MOD_STATE, MAC.PORT_STATUS_LINK])).trans (s.linkDrop_link hp (by decide))

theorem State.moduleGone_port (s : State) {p : Nat} (there : p < s.mac.ports.length) :
    ((s.moduleGone p).port p).mods = [] ∧ ((s.moduleGone p).port p).ident = [] := by
  unfold State.moduleGone
  dsimp only
  rw [State.port_setPort _ _ (by rw [State.put_mac, s.linkDrop_length]; exact there)]
  exact ⟨rfl, rfl⟩

/-- The link of a port is shown UP. -/
def State.linkUp (s : State) (p : Nat) : State := (s.put (MAC.PORT_STATUS_LINK p) 2).putB (MAC.PORT_STATUS_FEC_LOCK p) (s.fecOn p)

theorem State.linkUp_link (s : State) (p : Nat) : (s.linkUp p).get (MAC.PORT_STATUS_LINK p) = 2 :=
  (State.get_put_other _ _ _ _ (by simp [MAC.PORT_STATUS_LINK, MAC.PORT_STATUS_FEC_LOCK])).trans (State.get_put_same _ _ _)

theorem State.linkUp_fec (s : State) (p : Nat) :
    (s.linkUp p).flag (MAC.PORT_STATUS_FEC_LOCK p) = (s.flag (MAC.PORT_CFG_FEC p) && s.get (MAC.PORT_CFG_RATE p) == 0) :=
  State.flag_putB _ _ _ rfl

theorem State.linkUp_only (s : State) (p : Nat) : Only [.mac] ([MAC.PORT_STATUS_LINK p, MAC.PORT_STATUS_FEC_LOCK p] ++ [NTS.ARP_ANS_CNT, NTS.ND_ANS_CNT])
    s (s.linkUp p) :=
  ((Only.refl s).putK _ _ ⟨_, List.mem_cons_self .., rfl⟩).putBK _ _ ⟨MAC.PORT_STATUS_FEC_LOCK p, by simp, rfl⟩

/-- The module of a port has been read: its identity is shown. -/
def State.moduleRead (s : State) (p : Nat) (b : List Byte) : State :=
  (s.setPort p { s.port p with ident := b, reads := 0 }).puts [(MAC.PORT_STATUS_MOD_STATE p, 2), (MAC.MOD_INFO_IDENT p, leAt b 0 1),
    (MAC.MOD_INFO_EXT_IDENT p, leAt b 1 1), (MAC.MOD_INFO_CONNECTOR p, leAt b 2 1)]

theorem State.moduleRead_mac (s : State) (p : Nat) (b : List Byte) :
    (s.moduleRead p b).mac = (s.setPort p { s.port p with ident := b, reads := 0 }).mac := rfl

/-- The fields of the identity. -/
def moduleFields (p : Nat) : List Fld := [MAC.MOD_INFO_IDENT p, MAC.MOD_INFO_EXT_IDENT p, MAC.MOD_INFO_CONNECTOR p]

theorem moduleReadDone_reads {p : Nat} {b : List Byte} (reading : s.get (MAC.PORT_STATUS_MOD_STATE p) = 1) (good : identOk b = true) :
    runModuleReadDone p true b s = ((s.moduleRead p b).linkEvent 0x0801 p 1 2).portEval p := by
  unfold runModuleReadDone
  rw [if_neg (not_not.2 reading), Bool.true_and, if_pos good]
  rfl

theorem State.moduleRead_only (s : State) (p : Nat) (b : List Byte) : Only [.mac] (moduleFields p ++ linkFields p) s (s.moduleRead p b) := by
  refine ((Only.refl s).set_mac rfl _).putsK _ ?_
  simp only [List.forall_mem_cons, List.not_mem_nil]
  exact ⟨⟨MAC.PORT_STATUS_MOD_STATE p, by simp [moduleFields, linkFields], rfl⟩, ⟨MAC.MOD_INFO_IDENT p, by simp [moduleFields], rfl⟩,
    ⟨MAC.MOD_INFO_EXT_IDENT p, by simp [moduleFields], rfl⟩, ⟨MAC.MOD_INFO_CONNECTOR p, by simp [moduleFields], rfl⟩, fun _ x => x.elim⟩

theorem State.moduleRead_get (s : State) (p : Nat) (b : List Byte) {f : Fld} {v : Nat} (m : (f, v) ∈ [(MAC.PORT_STATUS_MOD_STATE p, 2),
    (MAC.MOD_INFO_IDENT p, leAt b 0 1), (MAC.MOD_INFO_EXT_IDENT p, leAt b 1 1), (MAC.MOD_INFO_CONNECTOR p, leAt b 2 1)]) (fits : v < 2 ^ f.width) :
    (s.moduleRead p b).get f = v := by
  refine State.get_puts_mem _ ?_ m fits
  simp [MAC.PORT_STATUS_MOD_STATE, MAC.MOD_INFO_IDENT, MAC.MOD_INFO_EXT_IDENT, MAC.MOD_INFO_CONNECTOR]
  omega

/-- The identity stays as the port is judged. -/
theorem moduleFields_off {p : Nat} (hp : p ≤ 7) {f : Fld} (m : f ∈ moduleFields p) : noisy f.key = false ∧ ∀ d ∈ linkFields p, f.key ≠ d.key := by
  simp only [moduleFields, List.mem_cons, List.not_mem_nil, or_false] at m
  rcases m with rfl | rfl | rfl <;>
    refine ⟨port_quiet (by simp only [MAC.MOD_INFO_IDENT, MAC.MOD_INFO_EXT_IDENT, MAC.MOD_INFO_CONNECTOR]; omega)
      (by simp only [MAC.MOD_INFO_IDENT, MAC.MOD_INFO_EXT_IDENT, MAC.MOD_INFO_CONNECTOR]; omega), ?_⟩ <;>
    simp only [linkFields, List.forall_mem_cons, List.not_mem_nil, false_implies, implies_true, and_true, MAC.PORT_STATUS_LINK, MAC.PORT_STATUS_FEC_LOCK,
      MAC.PORT_STATUS_LPI_TX, MAC.PORT_STATUS_LPI_RX, MAC.LINK_DOWN_CNT, MAC.PORT_STATUS_REF_BAD, MAC.PORT_STATUS_MOD_STATE, PTP.NEG_PENDING,
      MAC.MOD_INFO_IDENT, MAC.MOD_INFO_EXT_IDENT, MAC.MOD_INFO_CONNECTOR] <;> omega

/-! ### The statement -/

/-- Settles O21: each command and event moves a port along Table 11-4, and what it leaves alone follows from the frames of the link's exits. -/
theorem moduleCommandsComplete : Obligations.ModuleCommandsComplete := by
  refine ⟨?_, ?_, ?_, ?_, ?_, ?_, ?_, ?_, ?_, ?_, ?_, ?_, ?_, ?_, ?_⟩
  · intro s h p a mode hp idle ports
    obtain ⟨v, hv, run⟩ := portSize_sizes h a mode hp idle
    have done := ((Keeps.refl (l := []) (v.sizesPort h p)).journalCmd h 0x90 p 0).settle
    refine ⟨_, rfl, ?_⟩
    rw [run]
    exact ⟨(done.read _ (link_quiet hp)).trans (v.sizesPort_link h hp), by
      rw [done.port]; exact v.sizesPort_sizing h (by rw [hv.mac, ports]; omega), (hv.only0.trans (v.sizesPort_only h p)).tail done.any⟩
  · intro s p trip h awake hp running ports
    have done := ((Keeps.refl (l := []) ((s.tripTaken h p trip).portEval p)).complete h 0x90 stOK trip false).settle
    have judged := (s.tripTaken h p trip).portEval_only p
    have there : p < s.mac.ports.length := by omega
    have taken : (s.tripTaken h p trip).port p = { s.port p with sizing := none } := s.port_setPort _ there
    have due := congrArg SizSt.due (done.siz.trans (judged.siz rfl))
    refine ⟨_, rfl, ?_⟩
    rw [State.awake_eq awake, runPortSizeDone_sizing running, due]
    refine ⟨?_, List.prefix_append _ _, List.length_append, ?_, ((s.tripTaken_only h p trip).trans (judged.parts rfl fun _ m => m)).tail done.any⟩
    · rw [done.port, ((s.tripTaken h p trip).portEval_port (p := p) (by rwa [State.tripTaken, State.sizeItem, State.setPort_length])).sizing, taken]
    · have items : (s.tripTaken h p trip).siz.due.drop s.siz.due.length = [.load h.origin (0x100 + p) s.taiSec
          ((s.setPort p { s.port p with sizing := none }).tripBody p trip)] := List.drop_left
      have sum := portBody_sum (roundQ (psU ((trip : Rat) * (if Config.factoryPort p 0 + Config.factoryPort p 1 = 0 then Config.factoryShare p
        else (Config.factoryPort p 0 : Rat) / ((Config.factoryPort p 0 + Config.factoryPort p 1 : Int) : Rat))))) (roundQ (psU (trip : Rat)))
        (s.portSize p 2) (s.portSize p 3) [Config.sizedUInt p trip, (s.portSize p 5).toNat]
      rw [items]
      simp only [List.all_cons, List.all_nil, Bool.and_true, beq_self_eq_true, Bool.true_and, beq_iff_eq]
      exact sum
  · intro s h p tx rx u a mode hp
    obtain ⟨v, hv, run, -⟩ := a.elim (g := runPortExtSet h p tx rx u) rfl
    refine ⟨_, rfl, ?_⟩
    rw [run, if_neg (by rw [hv.mode]; omega), if_neg (by omega)]
    have item := hv.sizeItem h.origin (0x100 + p) s.taiSec (portBody [s.portSize p 0, s.portSize p 1, tx, rx] [(s.portSize p 4).toNat, u])
    simp only [hv.portSize, hv.taiSec]
    exact ((item.journalCmd _ _ _ _).complete _ _ _ _ _).settle
  · intro s h p dev off len addr a hp pos short present
    obtain ⟨v, hv, run, -⟩ := a.elim (g := runModRead h p dev off len addr) rfl
    have ready : v.modReady p = true := by rw [State.modReady, hv.read _ (module_quiet hp), present]; rfl
    refine ⟨_, rfl, ?_⟩
    rw [run, if_neg (by omega), if_neg (by rw [ready]; decide)]
    simp only [hv.port]
    exact (hv.setPort _ _).settle
  · intro s h p dev off b a hp pos short present
    obtain ⟨v, hv, run, -⟩ := a.elim (g := runModWrite h p dev off b) rfl
    have ready : v.modReady p = true := by rw [State.modReady, hv.read _ (module_quiet hp), present]; rfl
    refine ⟨_, rfl, ?_⟩
    rw [run, if_neg (by omega), if_neg (by rw [ready]; decide)]
    simp only [hv.port]
    exact ((hv.setPort _ _).journalCmd _ _ _ _).settle
  · intro s p ok b m ms awake first write
    have run : runModTransferDone p ok b s = if ok then ((s.setPort p { s.port p with mods := ms }).emit (.module p m.dev m.off m.data)).complete m.cmd 0x93 stOK 0
        else (s.setPort p { s.port p with mods := ms }).complete m.cmd 0x93 stABORTED 0 := by
      unfold runModTransferDone
      rw [first]
      dsimp only
      rw [write]
    have wrote := ((Keeps.refl (l := []) ((s.setPort p { s.port p with mods := ms }).emit (.module p m.dev m.off m.data))).complete m.cmd 0x93 stOK 0 false).settle
    refine ⟨_, rfl, ?_⟩
    rw [State.awake_eq awake, run]
    cases ok
    · exact ⟨(fun x => nomatch x), ((Keeps.refl _).complete _ _ _ _ _).settle⟩
    · exact ⟨fun _ => wrote.mem (List.mem_cons_self ..), (((Keeps.refl _).emit _).complete _ _ _ _ _).settle⟩
  · intro s p b m ms addr awake first read ring ok range
    have run : runModTransferDone p true b s = (s.setPort p { s.port p with mods := ms }).dataOut m.cmd 0x92 addr b 0 := by
      unfold runModTransferDone
      rw [first]
      dsimp only
      rw [read]
      exact if_pos (by simp)
    obtain ⟨out, kept⟩ := (s.setPort p { s.port p with mods := ms }).dataOut_host m.cmd 0x92 addr b 0 ring ok range
    refine ⟨_, rfl, ?_⟩
    rw [State.awake_eq awake, run]
    exact ⟨(State.settle_kept _).mem out, kept.settle⟩
  · intro s h p a hp unread
    obtain ⟨v, hv, run, -⟩ := a.elim (g := runModRescan h p) rfl
    have again := ((hv.setPort p { s.port p with reads := 0 }).more (m := [MAC.PORT_STATUS_MOD_STATE p]) (by simp)).putIn (MAC.PORT_STATUS_MOD_STATE p) 1 (by simp)
    have done := ((Keeps.refl (l := []) ((v.setPort p { s.port p with reads := 0 }).put (MAC.PORT_STATUS_MOD_STATE p) 1)).journalCmd h 0x94 p 0).complete h 0x94
      stOK 0 false
    refine ⟨_, rfl, ?_⟩
    rw [run, if_neg (by omega), if_neg (by rw [hv.read _ (module_quiet hp)]; exact not_not.2 unread), hv.port]
    exact ⟨(done.settle.read _ (module_quiet hp)).trans (State.get_put_same _ _ _), again.trans done.settle.any⟩
  · intro s p awake hp absent
    have run : runModPrsChange p false s = (s.setPort p { s.port p with reads := 0 }).put (MAC.PORT_STATUS_MOD_STATE p) 1 := by
      unfold runModPrsChange
      rw [if_neg Bool.false_ne_true, if_pos absent]
    refine ⟨_, rfl, ?_⟩
    rw [State.awake_eq awake, run]
    exact ⟨((State.settle_kept _).read _ (module_quiet hp)).trans (State.get_put_same _ _ _), ((Keeps.refl _).putIn _ _ (by simp)).settle⟩
  · intro s p awake hp present ports
    have done := (modPrsChange_gone present).settle
    have gone := s.moduleGone_port (p := p) (by omega)
    refine ⟨_, rfl, ?_⟩
    rw [State.awake_eq awake, done.port]
    exact ⟨(done.read _ (module_quiet hp)).trans (State.get_put_same _ _ _), (done.read _ (link_quiet hp)).trans (s.moduleGone_link hp), gone.1, gone.2,
      (s.moduleGone_only p).tail done.any⟩
  · intro s p b awake hp reading good ports
    have event := (Keeps.refl (l := []) (s.moduleRead p b)).linkEvent 0x0801 p 1 2
    have judged := ((s.moduleRead p b).linkEvent 0x0801 p 1 2).portEval_only p
    have settled := (((s.moduleRead p b).linkEvent 0x0801 p 1 2).portEval p).settle_kept
    have there : p < s.mac.ports.length := by omega
    have one (n : Nat) : leAt b n 1 < 2 ^ 8 := leAt_lt b n 1
    have info {f : Fld} {v : Nat} (m : f ∈ moduleFields p) (m' : (f, v) ∈ [(MAC.PORT_STATUS_MOD_STATE p, 2), (MAC.MOD_INFO_IDENT p, leAt b 0 1),
        (MAC.MOD_INFO_EXT_IDENT p, leAt b 1 1), (MAC.MOD_INFO_CONNECTOR p, leAt b 2 1)]) (fits : v < 2 ^ f.width) :
        (((s.moduleRead p b).linkEvent 0x0801 p 1 2).portEval p).settle.get f = v := by
      obtain ⟨quiet, off⟩ := moduleFields_off hp m
      rw [settled.read _ quiet, judged.read _ quiet off, event.read _ quiet]
      exact s.moduleRead_get p b m' fits
    refine ⟨_, rfl, ?_⟩
    rw [State.awake_eq awake, moduleReadDone_reads reading good]
    refine ⟨?_, info (by simp [moduleFields]) (by simp) (one 0), info (by simp [moduleFields]) (by simp) (one 1),
      info (by simp [moduleFields]) (by simp) (one 2), ?_, ?_⟩
    · rw [settled.read _ (module_quiet hp), State.portEval_module _ hp, event.read _ (module_quiet hp)]
      exact s.moduleRead_get p b (List.mem_cons_self ..) (show 2 < 2 ^ 3 by decide)
    · have drops := ((s.moduleRead p b).linkEvent 0x0801 p 1 2).portEval_port (p := p) (by
        rw [event.mac, State.moduleRead_mac, State.setPort_length]; exact there)
      rw [settled.port, drops.ident, event.port, State.port, State.moduleRead_mac]
      exact congrArg PortSt.ident (s.port_setPort _ there)
    · exact ((s.moduleRead_only p b).tail event.any).trans ((judged.more fun _ ⟨d, m, e⟩ => ⟨d, List.mem_append_right _ m, e⟩).settle)
  · intro s p b awake hp reading few
    have run : runModuleReadDone p false b s = s.setPort p { s.port p with reads := (s.port p).reads + 1 } := by
      unfold runModuleReadDone
      rw [if_neg (not_not.2 reading), Bool.false_and, if_neg Bool.false_ne_true, if_pos (by omega)]
    refine ⟨_, rfl, ?_⟩
    rw [State.awake_eq awake, run]
    exact State.settle_kept _
  · intro s p b awake hp reading many free
    have run : runModuleReadDone p false b s =
        (((s.setPort p { s.port p with reads := 0 }).put (MAC.PORT_STATUS_MOD_STATE p) 3).pay 3 2000).eventIn 0x0803 p 3 := by
      unfold runModuleReadDone
      rw [if_neg (not_not.2 reading), Bool.false_and, if_neg Bool.false_ne_true, if_neg (by omega)]
      exact if_neg (fun x => Bool.false_ne_true (free.symm.trans x))
    have put := (Keeps.refl (l := [MAC.PORT_STATUS_MOD_STATE p]) (s.setPort p { s.port p with reads := 0 })).putIn (MAC.PORT_STATUS_MOD_STATE p) 3 (by simp)
    have done := (((Keeps.refl (l := []) ((s.setPort p { s.port p with reads := 0 }).put (MAC.PORT_STATUS_MOD_STATE p) 3)).pay 3 2000 (by decide)).eventIn
      0x0803 p 3).settle
    refine ⟨_, rfl, ?_⟩
    rw [State.awake_eq awake, run]
    exact ⟨(done.read _ (module_quiet hp)).trans (State.get_put_same _ _ _), put.trans done.any⟩
  · intro s p awake hp linking present
    have run : runPortLinkUp p s = ((s.linkUp p).linkEvent 0x0804 p 1 2).announce p (((s.linkUp p).linkEvent 0x0804 p 1 2).ta4 p)
        (((s.linkUp p).linkEvent 0x0804 p 1 2).ta6 p) := by
      unfold runPortLinkUp
      rw [if_pos (And.intro linking present)]
      rfl
    have event := (Keeps.refl (l := []) (s.linkUp p)).linkEvent 0x0804 p 1 2
    have announced := (((s.linkUp p).linkEvent 0x0804 p 1 2).announce_only p (((s.linkUp p).linkEvent 0x0804 p 1 2).ta4 p)
      (((s.linkUp p).linkEvent 0x0804 p 1 2).ta6 p)).settle
    have read {f : Fld} (lo : 32 * 0x180000 ≤ f.key) (hi : f.key < 32 * 0x1A0000) := (announced.read f (port_quiet lo hi)
      (by simp only [List.forall_mem_cons, List.not_mem_nil, false_implies, implies_true, and_true, NTS.ARP_ANS_CNT, NTS.ND_ANS_CNT]; omega)).trans
      (event.read f (port_quiet lo hi))
    refine ⟨_, rfl, ?_⟩
    rw [State.awake_eq awake, run]
    refine ⟨(read (by simp only [MAC.PORT_STATUS_LINK]; omega) (by simp only [MAC.PORT_STATUS_LINK]; omega)).trans (s.linkUp_link p),
      (congrArg (· != 0) (read (by simp only [MAC.PORT_STATUS_FEC_LOCK]; omega) (by simp only [MAC.PORT_STATUS_FEC_LOCK]; omega))).trans (s.linkUp_fec p), ?_⟩
    exact ((s.linkUp_only p).tail event.any).trans (announced.more (m := [MAC.PORT_STATUS_LINK p, MAC.PORT_STATUS_FEC_LOCK p] ++ [NTS.ARP_ANS_CNT, NTS.ND_ANS_CNT])
      fun _ x => x.imp fun _ y => ⟨List.mem_append_right _ y.1, y.2⟩)
  · intro s p awake hp up ports
    have run : runPortLinkDown p s = s.linkDrop p 1 := if_pos up
    have settled := (s.linkDrop p 1).settle_kept
    refine ⟨_, rfl, ?_⟩
    rw [State.awake_eq awake, run]
    have there : p < s.mac.ports.length := by omega
    have silent : (s.linkDrop p 1).port p = (s.port p).silent := by
      rw [(s.linkDrop_keeps p 1).port, if_pos up]
      exact s.port_setPort _ there
    rw [settled.port, silent]
    refine ⟨(settled.read _ (link_quiet hp)).trans (s.linkDrop_link hp (by decide)), rfl, rfl, ?_, (s.linkDrop_only p 1).settle⟩
    rw [settled.read _ (downCnt_quiet hp)]
    exact s.linkDrop_counts hp 1 up


end Sys2Proof.Machine
end

section
/-! Vat accesses while no word is poisoned. -/

namespace Sys2Proof.Machine

variable {ps : List Part} {l : List Fld} {s t u : State}

/-! ### No word is poisoned (R403) -/

/-- No word of the vat is poisoned. -/
def Sound (s : State) : Prop := s.vatc.poison = []

theorem Sound.same (h : Sound s) (e : t.vatc = s.vatc) : Sound t := by rw [Sound, e]; exact h

theorem Sound.ite {c : Prop} [Decidable c] {a b : State} (h : Sound a) (g : Sound b) : Sound (if c then a else b) := by
  split <;> assumption

@[simp] theorem State.puts_vatc (s : State) (p : List (Fld × Nat)) : (s.puts p).vatc = s.vatc := by
  induction p generalizing s with
  | nil => rfl
  | cons q p ih => exact ih _

theorem Sound.hifSet (h : Sound s) (x : HifSt) : Sound { s with hif := x } := h

theorem Sound.put (h : Sound s) (f : Fld) (v : Nat) : Sound (s.put f v) := h

theorem Sound.inc (h : Sound s) (f : Fld) : Sound (s.inc f) := h.same (State.incBy_vatc s f 1)

theorem Sound.deniedSet (h : Sound s) : Sound { s with vatc := { s.vatc with denied := true } } := h

theorem Sound.unpoison (h : Sound s) (a n : Nat) : Sound (s.unpoison a n) := by simp [Sound, State.unpoison, show s.vatc.poison = [] from h]

theorem Sound.denyMark (h : Sound s) (m a : Nat) (w : Bool) : Sound (s.denyMark m a w) := h.same (by simp [State.denyMark, State.inc])

theorem Sound.denyDue (h : Sound s) (m a : Nat) (w : Bool) : Sound (s.denyDue m a w) := by
  have marked : (s.denyMark m a w).vatc.poison = [] := h.denyMark m a w
  unfold State.denyDue
  exact Sound.ite marked marked

theorem Sound.reamWrite (h : Sound s) (e : ReamEntry) : Sound (s.reamWrite e) := by
  have slot := h.unpoison (reamSlot (s.get REAM.REAM_SEQ)) 64
  unfold State.reamWrite
  exact Sound.ite ((h.denyDue 13 (reamSlot (s.get REAM.REAM_SEQ)) true).same (by simp [State.inc])) (Sound.ite (slot.same (by simp [State.unpoison]))
    (Sound.ite (h.same (by simp [State.inc])) (slot.same (by simp [State.inc, State.unpoison]))))

theorem Sound.journal (h : Sound s) (o : Origin) (k a x y c : Nat) : Sound (s.journal o k a x y c) := by
  unfold State.journal
  exact Sound.ite (h.reamWrite _) h

theorem Sound.ringHalt (h : Sound s) (n e : Nat) : Sound (s.ringHalt n e) := by
  unfold State.ringHalt
  exact Sound.ite h (Sound.journal (h.same (by simp)) _ _ _ _ _ _)

theorem State.ringPut_vatc (s : State) (n : Nat) (ds : List Desc) : (ds.foldl (fun s d => s.ringPut n d) s).vatc = s.vatc := by
  induction ds generalizing s with
  | nil => rfl
  | cons d ds ih => exact ih _

theorem Sound.ringWrite (h : Sound s) (n : Nat) (ds : List Desc) : Sound (s.ringWrite n ds) := by
  unfold State.ringWrite
  have put := h.same (s.ringPut_vatc n ds)
  refine Sound.ite ((h.ringHalt n 3).same (by simp [State.inc])) (Sound.ite ?_ (put.same (by simp)))
  unfold State.ringFire
  exact Sound.ite (put.same (by simp)) (put.same (by simp))

theorem Sound.denyStage (h : Sound s) (m a : Nat) (w : Bool) : Sound (s.denyStage m a w) := by
  unfold State.denyStage
  exact Sound.ite (h.denyDue _ _ _) ((h.denyDue _ _ _).journal _ _ _ _ _ _)

theorem Sound.stagePut (h : Sound s) (m a : Nat) : Sound (s.stagePut m a).2 := by
  unfold State.stagePut
  split
  · exact Sound.unpoison (h.same (by simp)) _ _
  · exact h.denyStage _ _ _

theorem Sound.stageGet (h : Sound s) (m a : Nat) : Sound (s.stageGet m a).2 := by
  unfold State.stageGet
  rw [show s.vatc.poison = [] from h]
  split
  · exact h.denyStage _ _ _
  · exact h.same (by simp)

theorem Sound.gapGone (h : Sound s) (d : Desc) : Sound (s.gapGone d) := by cases d <;> exact h

theorem Sound.stageDesc (h : Sound s) (d : Desc) : Sound (s.stageDesc d) := by
  unfold State.stageDesc
  split
  · exact (h.hifSet _).inc _
  · have put := h.stagePut 11 (s.evSlot s.hif.events.length)
    split
    · next e => rw [e] at put; exact Sound.put (Sound.hifSet put _) _ _
    · next e => rw [e] at put; exact Sound.inc (Sound.hifSet put _) _

theorem Sound.drainEvent (h : Sound s) : Sound s.drainEvent := by
  unfold State.drainEvent
  split
  · split
    · dsimp only
      have get := h.stageGet 11 (s.evSlot 0)
      split
      · next e => rw [e] at get; exact Sound.ringWrite (Sound.gapGone (Sound.put (Sound.hifSet get _) _ _) _) _ _
      · next e => rw [e] at get; exact Sound.ringHalt get _ _
      · next e => rw [e] at get; exact Sound.ringHalt (Sound.put (Sound.hifSet get _) _ _) _ _
    · exact h
  · exact h

theorem Sound.sendDesc (h : Sound s) (d : Desc) : Sound (s.sendDesc d) := by
  unfold State.sendDesc
  split
  · exact Sound.ite ((h.gapGone d).ringWrite _ _) (h.stageDesc d).drainEvent
  · exact h.stageDesc d

theorem Sound.foldl {α : Type} (f : State → α → State) (step : ∀ x a, Sound x → Sound (f x a)) (h : Sound s) (xs : List α) : Sound (xs.foldl f s) := by
  induction xs generalizing s with
  | nil => exact h
  | cons x xs ih => exact ih (step _ _ h)

theorem Sound.flushDue (h : Sound s) : Sound s.flushDue := by
  unfold State.flushDue
  exact Sound.foldl _ (fun _ _ k => k.sendDesc _) (h.hifSet _) _

theorem Sound.eventIn (h : Sound s) (c o : Nat) (v : Int) : Sound (s.eventIn c o v) := h.flushDue.sendDesc _

theorem Sound.vatDeny (h : Sound s) (m a : Nat) (w : Bool) : Sound (s.vatDeny m a w) := by
  have marked := h.denyMark m a w
  unfold State.vatDeny
  exact Sound.ite marked ((marked.deniedSet.eventIn _ _ _).journal _ _ _ _ _ _)

/-! ### What a reader sees -/

/-- What readers see of two states is the same, and no word is poisoned in either. -/
structure Alike (s t : State) : Prop where
  vat : t.vat = s.vat
  regions : RegionsSame s t
  sound : Sound s
  sound' : Sound t

theorem Alike.of (k : Keeps [] s t) (h : Sound s) (h' : Sound t) : Alike s t := ⟨k.vat, k.regions, h, h'⟩

/-- The bytes that a reader works from: zeros where the regions deny them. -/
theorem State.vatRead_sound (h : Sound s) (m a n : Nat) : (s.vatRead m a n).1 =
    if s.vatMay m a n false then .ok (s.vat.reads a n) else .denied (List.replicate n 0) := by
  unfold State.vatRead
  rw [show s.vatc.poison = [] from h]
  cases s.vatMay m a n false <;> rfl

theorem Sound.vatRead (h : Sound s) (m a n : Nat) : Sound (s.vatRead m a n).2 := by
  unfold State.vatRead
  rw [show s.vatc.poison = [] from h]
  split
  · exact h.vatDeny _ _ _
  · exact h.same (by simp)

theorem Alike.read (k : Alike s t) {m : Nat} (hm : m < 16) (a n : Nat) :
    (t.vatRead m a n).1 = (s.vatRead m a n).1 ∧ Alike (s.vatRead m a n).2 (t.vatRead m a n).2 := by
  have hs := (Keeps.refl (l := []) s).vatRead m a n
  have ht := (Keeps.refl (l := []) t).vatRead m a n
  refine ⟨by rw [State.vatRead_sound k.sound, State.vatRead_sound k.sound', k.regions.vatMay hm, k.vat], by rw [ht.vat, hs.vat, k.vat],
    fun f lo hi => ?_, k.sound.vatRead m a n, k.sound'.vatRead m a n⟩
  rw [ht.regions f lo hi, hs.regions f lo hi, k.regions f lo hi]

/-! ### Records and buckets where no word is poisoned -/

theorem State.bucket_sound (h : Sound s) (b : Nat) : (s.bucket b).2 = (s.vatRead 7 (bucketAddr b) 4).2 ∧
    (s.bucket b).1 = leNat (if s.vatMay 7 (bucketAddr b) 4 false then s.vat.reads (bucketAddr b) 4 else List.replicate 4 0) := by
  unfold State.bucket
  dsimp only
  rw [State.vatRead_sound h]
  cases s.vatMay 7 (bucketAddr b) 4 false <;> exact ⟨rfl, rfl⟩

theorem State.getRec_sound (h : Sound s) (n : Nat) : (s.getRec n).2 = (s.vatRead 7 (64 * n) 64).2 ∧
    (s.getRec n).1 = Client.ofBytes (if s.vatMay 7 (64 * n) 64 false then s.vat.reads (64 * n) 64 else List.replicate 64 0) := by
  unfold State.getRec
  dsimp only
  rw [State.vatRead_sound h]
  cases s.vatMay 7 (64 * n) 64 false <;> exact ⟨rfl, rfl⟩

theorem Keeps.bucket (h : Sound s) (b : Nat) : Keeps [] s (s.bucket b).2 := (State.bucket_sound h b).1 ▸ (Keeps.refl s).vatRead _ _ _

theorem Keeps.getRec (h : Sound s) (n : Nat) : Keeps [] s (s.getRec n).2 := (State.getRec_sound h n).1 ▸ (Keeps.refl s).vatRead _ _ _

theorem Alike.bucket (k : Alike s t) (b : Nat) : (t.bucket b).1 = (s.bucket b).1 ∧ Alike (s.bucket b).2 (t.bucket b).2 := by
  rw [(State.bucket_sound k.sound b).1, (State.bucket_sound k.sound' b).1, (State.bucket_sound k.sound b).2, (State.bucket_sound k.sound' b).2,
    k.regions.vatMay (by decide), k.vat]
  exact ⟨rfl, (k.read (by decide) _ _).2⟩

theorem Alike.getRec (k : Alike s t) (n : Nat) : (t.getRec n).1 = (s.getRec n).1 ∧ Alike (s.getRec n).2 (t.getRec n).2 := by
  rw [(State.getRec_sound k.sound n).1, (State.getRec_sound k.sound' n).1, (State.getRec_sound k.sound n).2, (State.getRec_sound k.sound' n).2,
    k.regions.vatMay (by decide), k.vat]
  exact ⟨rfl, (k.read (by decide) _ _).2⟩

/-- The search for a key finds the same record, and reading leaves the rest alone. -/
theorem Alike.seekRec (k : Alike s t) (key : List Byte) (h : Nat) (bs : List Nat) :
    (t.seekRec key h bs).1 = (s.seekRec key h bs).1 ∧ Keeps [] t (t.seekRec key h bs).2 ∧ Alike (s.seekRec key h bs).2 (t.seekRec key h bs).2 := by
  induction bs generalizing s t with
  | nil => exact ⟨rfl, Keeps.refl t, k⟩
  | cons b bs ih =>
    obtain ⟨same, k1⟩ := k.bucket b
    obtain ⟨same', k2⟩ := k1.getRec (bits (s.bucket b).1 0 20)
    have kt := Keeps.bucket k.sound' b
    have kq := kt.trans (Keeps.getRec k1.sound' (bits (s.bucket b).1 0 20))
    unfold State.seekRec
    dsimp only
    rw [same, same']
    split
    · split
      · exact ⟨rfl, kq, k2⟩
      · obtain ⟨e, kept, alike⟩ := ih k2
        exact ⟨e, kq.trans kept, alike⟩
    · obtain ⟨e, kept, alike⟩ := ih k1
      exact ⟨e, kt.trans kept, alike⟩

theorem Alike.findRec (k : Alike s t) (port transport : Nat) (addr portId : List Byte) :
    (t.findRec port transport addr portId).1 = (s.findRec port transport addr portId).1 ∧
      Keeps [] t (t.findRec port transport addr portId).2 ∧ Alike (s.findRec port transport addr portId).2 (t.findRec port transport addr portId).2 :=
  k.seekRec _ _ _

end Sys2Proof.Machine
end

section
/-! Client records. -/

namespace Sys2Proof.Machine

variable {ps : List Part} {l : List Fld} {s t u : State} {r : List (Nat × Nat)}

/-! ### The index and the bitmap -/

/-- The ranges of the index and of the bitmap. -/
def indexRanges : List (Nat × Nat) := [(0x07000000, 0x07800000), (mapAddr, mapAddr + 131072)]

/-- What a change of the client table leaves alone: every part but the vat and the clients, the fields it does not show, and the bytes outside
some ranges. -/
def TableKept (r : List (Nat × Nat)) (s t : State) : Prop := Only [.vat, .ptp] clientFields s t ∧ Bytes r s t

theorem TableKept.of (k : Keeps [] s t) : TableKept r s t := ⟨k.only0, Bytes.of k.vat⟩

theorem TableKept.refl (s : State) : TableKept r s s := TableKept.of (Keeps.refl s)

theorem TableKept.trans (a : TableKept r s t) (b : TableKept r t u) : TableKept r s u := ⟨a.1.trans b.1, a.2.trans b.2⟩

theorem TableKept.tail (a : TableKept r s t) (k : Keeps [] t u) : TableKept r s u := a.trans (TableKept.of k)

theorem TableKept.within {q : List (Nat × Nat)} (a : TableKept r s t) (w : Within r q) : TableKept q s t := ⟨a.1, a.2.within w⟩

theorem TableKept.setPtp (a : TableKept r s t) (x : PtpSt) : TableKept r s { t with ptp := x } := ⟨a.1.set_ptp rfl x, a.2.tail rfl⟩

theorem TableKept.wrote (a : TableKept r s t) (w : Wrote r t u) : TableKept r s u :=
  a.trans ⟨w.1.parts rfl fun _ ⟨d, m, e⟩ => ⟨d, by rw [List.mem_singleton.1 m]; simp [clientFields], e⟩, w.2⟩

theorem TableKept.vatWrite (a : TableKept r s t) (m x : Nat) (b : List Byte) (w : ∃ p ∈ r, p.1 ≤ x ∧ x + b.length ≤ p.2) :
    TableKept r s (t.vatWrite m x b).2 := a.wrote ((Wrote.refl t).vatWrite m x b w)

theorem TableKept.put (a : TableKept r s t) {f : Fld} (v : Nat) (m : f ∈ clientFields) : TableKept r s (t.put f v) :=
  a.trans ⟨(Only.refl t).putK f v ⟨f, m, rfl⟩, Bytes.of rfl⟩

theorem TableKept.regions (a : TableKept r s t) : RegionsSame s t := a.1.regions fun d m => by
  simp only [clientFields, List.mem_append, List.mem_cons, List.not_mem_nil, or_false, List.mem_map, List.mem_range] at m
  rcases m with (rfl | rfl | rfl) | ⟨i, hi, rfl⟩ <;>
    simp only [PTP.PTP_STATUS_TABLE_FULL, PTP.CLIENTS_LIVE, VAT.RMW_CNT, PTP.POOL_LOG_FREE] <;> omega

theorem TableKept.foldl {α : Type} (f : State → α → State) (xs : List α) (step : ∀ x, ∀ y ∈ xs, TableKept r x (f x y)) (a : TableKept r s t) :
    TableKept r s (xs.foldl f t) := by
  induction xs generalizing t with
  | nil => exact a
  | cons y ys ih => exact ih (fun x z m => step x z (List.mem_cons_of_mem _ m)) (a.trans (step t y (List.mem_cons_self ..)))

theorem TableKept.noteChange (a : TableKept r s t) (bucket : Bool) (n : Nat) : TableKept r s (t.noteChange bucket n) := by
  unfold State.noteChange
  split
  · exact a
  · split
    · exact a
    · exact a.setPtp _

/-! ### Buckets -/

theorem probes_lt {h b : Nat} (m : b ∈ probes h) : b < 2 ^ 21 := by
  simp only [probes, List.mem_map] at m
  obtain ⟨j, -, rfl⟩ := m
  exact Nat.mod_lt _ (by decide)

theorem TableKept.setBucket (a : TableKept r s t) (w : Within indexRanges r) {b : Nat} (hb : b < 2 ^ 21) (v : Nat) : TableKept r s (t.setBucket b v) := by
  obtain ⟨p, m, lo, hi⟩ := w (0x07000000, 0x07800000) (by simp [indexRanges])
  refine (a.vatWrite 7 _ _ ⟨p, m, ?_, ?_⟩).noteChange _ _
  · simp only [bucketAddr] at *; omega
  · simp only [bucketAddr, length_leBytes] at *; omega

theorem TableKept.bucket (a : TableKept r s t) (w : Within indexRanges r) {b : Nat} (hb : b < 2 ^ 21) : TableKept r s (t.bucket b).2 := by
  have read := a.tail ((Keeps.refl t).vatRead 7 (bucketAddr b) 4)
  obtain ⟨p, m, lo, hi⟩ := w (0x07000000, 0x07800000) (by simp [indexRanges])
  unfold State.bucket
  dsimp only
  split
  · exact read
  · exact read
  · refine ((read.vatWrite 7 _ _ ⟨p, m, ?_, ?_⟩).noteChange _ _).noteChange _ _
    · simp only [bucketAddr] at *; omega
    · simp only [bucketAddr, length_leBytes] at *; omega

theorem TableKept.seekBucket (a : TableKept r s t) (w : Within indexRanges r) (p : Nat → Bool) (bs : List Nat) (hb : ∀ b ∈ bs, b < 2 ^ 21) :
    TableKept r s (t.seekBucket p bs).2 ∧ ∀ b ∈ (t.seekBucket p bs).1, b < 2 ^ 21 := by
  induction bs generalizing t with
  | nil => exact ⟨a, fun _ x => nomatch x⟩
  | cons b bs ih =>
    have read := a.bucket w (hb b (List.mem_cons_self ..))
    unfold State.seekBucket
    dsimp only
    split
    · exact ⟨read, fun c x => Option.mem_some.1 x ▸ hb b (List.mem_cons_self ..)⟩
    · exact ih read fun c m => hb c (List.mem_cons_of_mem _ m)

theorem TableKept.unindex (a : TableKept r s t) (w : Within indexRanges r) (n : Nat) (c : Client) : TableKept r s (t.unindex n c) := by
  have seek := a.seekBucket w (fun v => bitOf v 31 && bits v 0 20 == n) (probes (crc32 (clientKey c.port c.transport c.addr c.portId)))
    fun b m => probes_lt m
  unfold State.unindex
  dsimp only
  split
  · next b x e =>
    rw [e] at seek
    exact seek.1.setBucket w (seek.2 b rfl) 0
  · next x e =>
    rw [e] at seek
    exact seek.1

/-! ### The bitmap and the pools -/

theorem TableKept.mendMap (a : TableKept r s t) (w : Within indexRanges r) : TableKept r s t.mendMap := by
  obtain ⟨p, m, lo, hi⟩ := w (mapAddr, mapAddr + 131072) (by simp [indexRanges])
  unfold State.mendMap
  refine a.foldl _ _ fun x y my => ?_
  simp only [List.mem_filter, Bool.and_eq_true, decide_eq_true_eq] at my
  obtain ⟨-, ylo, yhi⟩ := my
  simp only [mapAddr] at lo hi ylo yhi
  refine (TableKept.of ((Keeps.refl x).vatUncorr 7 (8 * y))).vatWrite 7 _ _ ⟨p, m, by omega, ?_⟩
  rw [length_leBytes]
  omega

theorem TableKept.mapSet (a : TableKept r s t) (w : Within indexRanges r) {c : Nat} (hc : c < 1048576) (b : Bool) : TableKept r s (t.mapSet c b) := by
  obtain ⟨p, m, lo, hi⟩ := w (mapAddr, mapAddr + 131072) (by simp [indexRanges])
  refine (a.mendMap w).vatWrite 7 _ _ ⟨p, m, ?_, ?_⟩
  · simp only [mapAddr] at *; omega
  · simp only [mapAddr, length_leBytes] at *; omega

theorem State.showPools_keeps (s : State) : Keeps clientFields s s.showPools := by
  unfold State.showPools
  refine Keeps.putIn (Keeps.putIn (Keeps.foldRange _ _ (Keeps.refl s) fun x i m k => k.putIn _ _ ?_) _ _ ?_) _ _ ?_
  · exact List.mem_append_right _ (List.mem_map_of_mem (List.mem_range.2 m))
  · simp [clientFields]
  · simp [clientFields]

theorem TableKept.showPools (a : TableKept r s t) : TableKept r s t.showPools :=
  a.trans ⟨t.showPools_keeps.only, Bytes.of t.showPools_keeps.vat⟩

/-! ### A record is freed (R281) -/

theorem TableKept.setRec (a : TableKept r s t) {n : Nat} {c : Client} (len : c.bytes.length = 64) (rec_ : ∃ p ∈ r, p.1 ≤ 64 * n ∧ 64 * n + 64 ≤ p.2) :
    TableKept r s (t.setRec n c) := (a.vatWrite 7 _ _ (by rw [len]; exact rec_)).noteChange _ _

/-- What the block keeps of a record is dropped. -/
def State.dropRec (s : State) (n : Nat) : State :=
  { s with ptp := { s.ptp with
    cancels := s.ptp.cancels.filter (fun q => q.1 != n)
    byHost := s.ptp.byHost.filter (· != n)
    due := s.ptp.due.filter (fun (d : ClientDue) => match d with
      | .grant r _ _ _ _ => r != n
      | .cancel r _ => r != n
      | .del r => r != n
      | .image _ _ => true) } }

theorem State.recGone_eq (s : State) (n port : Nat) : s.recGone n port =
    (((((s.mapSet n false).dropRec n).pay 1 1500).eventIn 0x0902 n port).journal .auto 3 n port 0 0x0902).showPools := rfl

theorem TableKept.recGone (a : TableKept r s t) (w : Within indexRanges r) {n : Nat} (hn : n < 1048576) (port : Nat) :
    TableKept r s (t.recGone n port) := by
  have dropped : TableKept r s ((t.mapSet n false).dropRec n) := (a.mapSet w hn false).setPtp _
  rw [State.recGone_eq]
  exact (dropped.tail ((((Keeps.refl _).pay 1 1500 (by decide)).eventIn _ _ _).journal _ _ _ _ _ _)).showPools

theorem State.dropRec_ptp (s : State) (n : Nat) : (s.dropRec n).ptp.cancels = s.ptp.cancels.filter (fun q => q.1 != n) := rfl

theorem State.recGone_cancels (s : State) (n port : Nat) : (s.recGone n port).ptp.cancels = (s.mapSet n false).ptp.cancels.filter (fun q => q.1 != n) := by
  have kept := ((((Keeps.refl (l := []) ((s.mapSet n false).dropRec n)).pay 1 1500 (by decide)).eventIn 0x0902 n port).journal .auto 3 n port 0 0x0902)
  have shown (x : State) : x.showPools.ptp = x.ptp := x.showPools_keeps.ptp
  rw [State.recGone_eq, shown, kept.ptp]
  rfl

theorem State.noteChange_vat (s : State) (bucket : Bool) (n : Nat) : (s.noteChange bucket n).vat = s.vat := by
  unfold State.noteChange
  split
  · rfl
  · split <;> rfl

/-- Beside the notes of what changed, the index and the bitmap leave the clients' store alone. -/
def SameCancels (s t : State) : Prop := t.ptp.cancels = s.ptp.cancels

theorem SameCancels.of (k : Keeps l s t) : SameCancels s t := congrArg PtpSt.cancels k.ptp

theorem SameCancels.refl (s : State) : SameCancels s s := rfl

theorem SameCancels.trans (a : SameCancels s t) (b : SameCancels t u) : SameCancels s u := Eq.trans b a

theorem SameCancels.noteChange (a : SameCancels s t) (bucket : Bool) (n : Nat) : SameCancels s (t.noteChange bucket n) := by
  unfold State.noteChange
  split
  · exact a
  · split
    · exact a
    · exact a

theorem SameCancels.wrote (a : SameCancels s t) (w : Wrote r t u) : SameCancels s u := a.trans (congrArg PtpSt.cancels (w.1.ptp rfl))

theorem SameCancels.vatWrite (a : SameCancels s t) (m x : Nat) (b : List Byte) : SameCancels s (t.vatWrite m x b).2 := a.wrote (t.vatWrite_wrote m x b)

theorem SameCancels.bucket (a : SameCancels s t) (b : Nat) : SameCancels s (t.bucket b).2 := by
  have read := a.trans (SameCancels.of ((Keeps.refl (l := []) t).vatRead 7 (bucketAddr b) 4))
  unfold State.bucket
  dsimp only
  split
  · exact read
  · exact read
  · exact ((read.vatWrite 7 _ _).noteChange _ _).noteChange _ _

theorem SameCancels.seekBucket (a : SameCancels s t) (p : Nat → Bool) (bs : List Nat) : SameCancels s (t.seekBucket p bs).2 := by
  induction bs generalizing t with
  | nil => exact a
  | cons b bs ih =>
    unfold State.seekBucket
    dsimp only
    split
    · exact a.bucket b
    · exact ih (a.bucket b)

theorem SameCancels.unindex (a : SameCancels s t) (n : Nat) (c : Client) : SameCancels s (t.unindex n c) := by
  have seek := a.seekBucket (fun v => bitOf v 31 && bits v 0 20 == n) (probes (crc32 (clientKey c.port c.transport c.addr c.portId)))
  unfold State.unindex
  dsimp only
  split
  · next b x e =>
    rw [e] at seek
    exact (seek.vatWrite 7 _ _).noteChange _ _
  · next x e =>
    rw [e] at seek
    exact seek

theorem SameCancels.foldl {α : Type} (f : State → α → State) (step : ∀ x y, SameCancels x (f x y)) (a : SameCancels s t) (xs : List α) :
    SameCancels s (xs.foldl f t) := by
  induction xs generalizing t with
  | nil => exact a
  | cons y ys ih => exact ih (a.trans (step t y))

theorem SameCancels.mapSet (a : SameCancels s t) (c : Nat) (b : Bool) : SameCancels s (t.mapSet c b) := by
  have mended : SameCancels s t.mendMap := SameCancels.foldl _
    (fun x y => (SameCancels.of ((Keeps.refl (l := []) x).vatUncorr 7 (8 * y))).vatWrite 7 _ _) a _
  exact mended.vatWrite 7 _ _

/-! ### The bytes of a record -/

theorem Grant.bytes_length (g : Grant) : g.bytes.length = 6 := by simp [Grant.bytes]

theorem cut_length {b : List Byte} {off n : Nat} (h : off + n ≤ b.length) : (cut b off n).length = n := by
  rw [cut, List.length_take, List.length_drop]
  omega

/-- A record that stands in the vat takes 64 bytes again. -/
theorem ofBytes_length {b : List Byte} (h : b.length = 64) (v : Bool) : ({ Client.ofBytes b with valid := v } : Client).bytes.length = 64 := by
  simp only [Client.bytes, Client.ofBytes, List.length_append, length_leBytes, Grant.bytes_length]
  rw [cut_length (by omega), cut_length (by omega), cut_length (by omega)]

/-- The first byte of a record that is not VALID is even. -/
theorem bytes_invalid (c : Client) (h : c.valid = false) : (Client.ofBytes c.bytes).valid = false := by
  have first : leAt c.bytes 0 1 = c.state % 256 := by
    simp only [Client.bytes, List.append_assoc]
    exact leAt_leBytes_head _ _ _
  have even : ∃ k, c.state = 2 * k := by
    simp only [Client.state, h, Bool.false_eq_true, if_false]
    refine ⟨c.transport + (if c.multicast then 4 else 0) + (if c.auth then 8 else 0) + (if c.dual then 16 else 0) + (if c.stale then 32 else 0) +
      (if c.pinned then 64 else 0), ?_⟩
    split_ifs <;> omega
  obtain ⟨k, hk⟩ := even
  simp only [Client.ofBytes, first, bitOf, hk, beq_eq_false_iff_ne]
  omega

/-! ### A record is freed -/

/-- The ranges that the end of a record changes. -/
def freeRanges (n : Nat) : List (Nat × Nat) := [(64 * n, 64 * n + 64), (0x07000000, 0x07800000), (mapAddr, mapAddr + 131072)]

theorem indexRanges_free (n : Nat) : Within indexRanges (freeRanges n) := by
  intro p m
  exact ⟨p, List.mem_cons_of_mem _ m, le_refl _, le_refl _⟩

/-- A record as it stands in the vat, where it can be read. -/
theorem getRec_valid {n : Nat} (clean : Sound s) (valid : (s.getRec n).1.valid = true) : (s.getRec n).1 = Client.ofBytes (s.vat.reads (64 * n) 64) := by
  rw [(State.getRec_sound clean n).2] at valid ⊢
  split at valid
  · next may => rw [if_pos may]
  · exact absurd valid (by decide)

/-- The end of a record: it is no longer VALID, nothing is to be cancelled of it any more, and beside the table nothing changes. -/
theorem freeRec_frees {n : Nat} {c : Client} (hn : n < 1048576) (len : ({ c with valid := false } : Client).bytes.length = 64) (wf : s.vat.wf = true)
    (may : s.vatMay 7 (64 * n) 64 true = true) :
    (Client.ofBytes ((s.freeRec n c).vat.reads (64 * n) 64)).valid = false ∧
      (s.freeRec n c).ptp.cancels = s.ptp.cancels.filter (fun q => q.1 != n) ∧ TableKept (freeRanges n) s (s.freeRec n c) := by
  have w := indexRanges_free n
  have out := (TableKept.refl (r := freeRanges n) s).unindex w n c
  have done := (s.unindex n c).vatWrite_done 7 (64 * n) ({ c with valid := false } : Client).bytes (by rw [len, out.regions.vatMay (by decide)]; exact may)
    (by rw [len]; exact State.spoiled_words _ (by omega) (by decide) (by decide))
  have set := out.setRec len (n := n) ⟨(64 * n, 64 * n + 64), by simp [freeRanges], le_refl _, le_refl _⟩
  have gone := (TableKept.refl (r := indexRanges) ((s.unindex n c).setRec n { c with valid := false })).recGone (fun p m => ⟨p, m, le_refl _, le_refl _⟩)
    hn c.port
  have reads : ((s.unindex n c).setRec n { c with valid := false }).vat.reads (64 * n) 64 = ({ c with valid := false } : Client).bytes := by
    rw [State.setRec, State.noteChange_vat, done.2.1]
    exact len ▸ Memory.reads_writes _ _ _ (out.2 wf).1
  have same : (s.freeRec n c).vat.reads (64 * n) 64 = ({ c with valid := false } : Client).bytes := by
    refine (Memory.reads_congr fun x lo hi => (gone.2 (set.2 wf).1).2 x fun p m => ?_).trans reads
    simp only [indexRanges, List.mem_cons, List.not_mem_nil, or_false] at m
    rcases m with rfl | rfl <;> exact .inl (by simp only [mapAddr]; omega)
  have kept : SameCancels s (((s.unindex n c).setRec n { c with valid := false }).mapSet n false) :=
    SameCancels.mapSet ((((SameCancels.refl s).unindex n c).vatWrite 7 _ _).noteChange _ _) n false
  refine ⟨by rw [same]; exact bytes_invalid _ rfl, ?_, set.trans (gone.within w)⟩
  exact (State.recGone_cancels _ n c.port).trans (congrArg (List.filter _) kept)

theorem Keeps.anyLive (k : Keeps l s t) (c : Client) : t.anyLive c = s.anyLive c := by
  have edge : t.taiEdge = s.taiEdge := by rw [State.taiEdge, k.time, State.taiEdge]
  have live (type : Nat) : t.live c type = s.live c type := by rw [State.live, edge, State.live]
  simp only [State.anyLive, live]

theorem flowEn_quiet {f : Nat} (hf : f < 256) : noisy (PTP.FLOW_CFG_EN f).key = false := noisy_gaps (by simp only [PTP.FLOW_CFG_EN]; omega)

/-! ### The statement -/

theorem clientSet_due (h : Hdr) (n addr : Nat) (d : DmaIn) (b : List Byte) (a : s.Accepts h false (dmaStock 64)) (mode : s.mode ≠ 5) (hn : n < 1048576)
    (clean : Sound s) (window : h.origin = .mspi → addr + 64 ≤ mbWindow) (data : s.dataIn h addr 64 d = some b) (transport : (Client.ofBytes b).transport ≠ 3)
    (dual : (Client.ofBytes b).dual = true → s.flag (PTP.FLOW_CFG_EN (Client.ofBytes b).flow) = true)
    (free : (Client.ofBytes b).valid = true →
      ∀ q ∈ (s.findRec (Client.ofBytes b).port (Client.ofBytes b).transport (Client.ofBytes b).addr (Client.ofBytes b).portId).1, q.1 = n) :
    ∃ v, Keeps [] s v ∧ Keeps [] { v with ptp := { v.ptp with due := v.ptp.due ++ [.image n b] } } (s.awake (runClientSet h n addr d)) := by
  obtain ⟨v, hv, run, -, vatc⟩ := a.elim (g := runClientSet h n addr d) rfl
  have clean' : Sound v := Sound.same clean vatc
  obtain ⟨same, kept, -⟩ := (Alike.of hv clean clean').findRec (Client.ofBytes b).port (Client.ofBytes b).transport (Client.ofBytes b).addr
    (Client.ofBytes b).portId
  have flow : ¬((Client.ofBytes b).transport = 3 ∨ (Client.ofBytes b).dual = true ∧ v.flag (PTP.FLOW_CFG_EN (Client.ofBytes b).flow) = false) := by
    rintro (x | ⟨x, y⟩)
    · exact transport x
    · have small : (Client.ofBytes b).flow < 256 := leAt_lt b 0xA 1
      rw [hv.flag _ (flowEn_quiet small), dual x] at y
      cases y
  rw [run, if_neg (by rw [hv.mode]; exact mode), if_neg (by omega), if_neg fun x => by have := window x.1; omega, hv.dataIn, data]
  dsimp only
  rw [if_neg flow]
  by_cases valid : (Client.ofBytes b).valid = true
  · have none : (v.findRec (Client.ofBytes b).port (Client.ofBytes b).transport (Client.ofBytes b).addr (Client.ofBytes b).portId).1.any (fun q => q.1 != n) =
        false := by
      rw [same]
      cases found : (s.findRec (Client.ofBytes b).port (Client.ofBytes b).transport (Client.ofBytes b).addr (Client.ofBytes b).portId).1 with
      | none => rfl
      | some q => simpa using free valid q found
    rw [if_pos valid, none, if_neg (by decide)]
    exact ⟨_, hv.trans kept, ((Keeps.refl _).journalCmd _ _ _ _).complete _ _ _ _ _⟩
  · rw [if_neg valid]
    exact ⟨v, hv, ((Keeps.refl _).journalCmd _ _ _ _).complete _ _ _ _ _⟩

/-- Settles O22: a client command leaves its change due, and a record that ends is no longer VALID. -/
theorem clientCommandsComplete : Obligations.ClientCommandsComplete := by
  refine ⟨?_, ?_, ?_, ?_, ?_⟩
  · intro s h n addr d b a mode hn clean window data transport dual free
    obtain ⟨v, hv, kept⟩ := clientSet_due h n addr d b a mode hn clean window data transport dual free
    rw [hv.ptp] at kept
    exact ⟨_, rfl, ((hv.with_ptp _).trans kept).settle⟩
  · intro s h n addr a hn clean may ring ok
    obtain ⟨v, hv, run, -, vatc⟩ := a.elim (g := runClientRead h n addr) rfl
    obtain ⟨out, kept⟩ := v.vatOut_host h 0xA1 addr (64 * n) 64 0 ((hv.regions.vatMay (by decide) _ _ _).trans may) (by rw [vatc, clean]) ring ok
    refine ⟨_, rfl, ?_⟩
    rw [run, if_neg (by omega)]
    rw [hv.vat] at out
    exact ⟨(State.settle_kept _).mem out, (hv.trans kept).settle⟩
  · intro s h n a mode hn clean valid
    obtain ⟨v, hv, run, -, vatc⟩ := a.elim (g := runClientDel h n) rfl
    have clean' : Sound v := Sound.same clean vatc
    have valid' : (v.getRec n).1.valid = true := (congrArg Client.valid (Alike.getRec (Alike.of hv clean clean') n).1).trans valid
    have kept := hv.trans (Keeps.getRec clean' n)
    refine ⟨_, rfl, ?_⟩
    rw [run, if_neg (by rw [hv.mode]; exact mode), if_pos hn, if_neg (by rw [valid']; decide)]
    rw [kept.ptp]
    exact (((kept.with_ptp _).journalCmd _ _ _ _).complete _ _ _ _ _).settle
  · intro s n awake hn clean wf may late valid
    have read := Keeps.getRec clean n
    have e := getRec_valid clean valid
    obtain ⟨gone, cancels, kept⟩ := freeRec_frees (s := (s.getRec n).2) (c := (s.getRec n).1) hn
      (by rw [e]; exact ofBytes_length (Memory.length_reads _ _ _) false) (by rw [read.vat]; exact wf) (by rw [read.regions.vatMay (by decide)]; exact may)
    have settled := ((s.getRec n).2.freeRec n (s.getRec n).1).settle_kept
    have run : runClientDelTimeout n s = (s.getRec n).2.freeRec n (s.getRec n).1 := by
      unfold runClientDelTimeout
      rw [if_pos late]
      exact if_pos valid
    have only := ((TableKept.of read).trans kept).tail settled
    refine ⟨_, rfl, ?_⟩
    rw [State.awake_eq awake, run]
    exact ⟨by rw [settled.vat]; exact gone, by rw [settled.ptp, cancels, read.ptp], (only.2 wf).2, only.1⟩
  · intro s n awake hn mode handing pay clean wf may valid free idle old
    obtain ⟨v, paid⟩ := Option.isSome_iff_exists.1 pay
    have hv : Keeps [] s v := (Keeps.refl s).charge paid
    have clean' : Sound v := Sound.same clean (State.charge_vatc paid)
    have same := (Alike.getRec (Alike.of hv clean clean') n).1
    have read := hv.trans (Keeps.getRec clean' n)
    have e := getRec_valid clean valid
    obtain ⟨gone, -, kept⟩ := freeRec_frees (s := (v.getRec n).2) (c := (v.getRec n).1) hn
      (by rw [same, e]; exact ofBytes_length (Memory.length_reads _ _ _) false) (by rw [read.vat]; exact wf) (by rw [read.regions.vatMay (by decide)]; exact may)
    have ends : ((v.getRec n).1.valid && !(v.getRec n).1.pinned && !(v.getRec n).2.anyLive (v.getRec n).1 &&
        decide ((v.getRec n).2.get PTP.GRANT_CFG_AGE_S ≤ ((v.getRec n).2.taiSec + 65536 - (v.getRec n).1.seen) % 65536)) = true := by
      rw [same, read.anyLive, read.taiSec, read.read _ (by decide), valid, free, idle, decide_eq_true old]
      rfl
    have run : runAgeingVisit n s = ((v.getRec n).2.freeRec n (v.getRec n).1).inc PTP.CLIENT_AGED_CNT := by
      unfold runAgeingVisit
      rw [if_neg (by rw [handing]; simp only [Bool.false_eq_true, false_or]; omega), State.orPause, paid]
      exact if_pos ends
    have counted := ((Keeps.refl (l := [PTP.CLIENT_AGED_CNT]) ((v.getRec n).2.freeRec n (v.getRec n).1)).incIn PTP.CLIENT_AGED_CNT (by simp)).settle
    have only := (TableKept.of read).trans kept
    refine ⟨_, rfl, ?_⟩
    rw [State.awake_eq awake, run]
    refine ⟨by rw [counted.vat]; exact gone, ?_, fun x off => by rw [counted.vat]; exact (only.2 wf).2 x off,
      (only.1.more fun _ m => m.imp fun _ y => ⟨List.mem_cons_of_mem _ y.1, y.2⟩).trans ((counted.more (m := PTP.CLIENT_AGED_CNT :: clientFields) (by simp)).only)⟩
    rw [(State.settle_kept _).read _ (by decide), State.inc, State.incBy_get _ _ _ rfl (by decide), only.1.read _ (by decide) (by decide)]

end Sys2Proof.Machine
end

section
/-! A commit whose counter overflows takes the stock of its write. -/

namespace Sys2Proof.Machine

/-- After sheet 0, with a well-formed key staged and an unlock of PF0, COMMIT_CNT one short of its greatest count, the overflow interrupt of the key
block enabled and unmasked, and in class 3 the stock of one commit. -/
def nearlyCommitted : State :=
  { (State.reset.putT KEY.KEY_CTRL_WRITE_EN 1).puts [(KEY.COMMIT_CNT, 2 ^ 48 - 2), (KEY.KEY_STAGE_D 0, 0x0300), (KEY.KEY_STAGE_CRC, 3824540140),
      (IRQ.SRC_CFG_EN 207, 1), (IRQ.VEC_CFG_EN 0, 1)] with
    running := true
    ledger := { floors := [0, 0, 2000, 0] }
    irq := { masked := [] }
    glb := { unlocks := [⟨.pf0, 0⟩] } }

theorem nearlyCommitted_waits : ((nearlyCommitted.awake (runKeyCommit .pf0 0xA5C3FF00 0)).settle).key.work.map (·.paid) = some false := by decide +kernel

/-- Refutes O24: the message of the overflow interrupt draws the stock that class 3 needs for the write (R439, R419), so the accepted commit is not
paid for. -/
theorem not_keyCommandsComplete : ¬ Obligations.KeyCommandsComplete := by
  rintro ⟨-, -, -, -, -, -, commit, -⟩
  obtain ⟨t, ht, -, -, -, -, written, -⟩ := commit nearlyCommitted .pf0 0xA5C3FF00 rfl (by decide) (by decide +kernel) (by decide +kernel)
    (by decide +kernel) (by decide +kernel)
  have waits : t.key.work.map (·.paid) = some false := Host.Outcome.next.inj ht ▸ nearlyCommitted_waits
  obtain ⟨w, work, unpaid⟩ := Option.map_eq_some_iff.1 waits
  obtain ⟨-, -, -, paid, -⟩ := written w work
  exact absurd (unpaid.symm.trans paid) (by decide)

end Sys2Proof.Machine
end

section
/-! Statements that fail on what a write leads to: a waiting write of another register, the stock of the write's own entry, the emergency. -/

namespace Sys2Proof.Machine

/-! ### A claimed source whose waiting write names another field (R416, R422) -/

/-- Out of reset, source 5 is claimed on vector 0, and a write that waits for its completion names CLAIMED. -/
def writeWaits : State :=
  { State.reset with irq := { claims := [[⟨5, 0⟩]], cfgDue := [⟨srcCfg 5, IRQ.SRC_CFG_CLAIMED 5, 1, .pf0⟩] } }

theorem writeWaits_claimed : ((writeWaits.awake (runVecComplete .pf0 0 5)).settle).flag (IRQ.SRC_CFG_CLAIMED 5) = true := by decide +kernel

/-- Refutes O28: the completion clears CLAIMED and then applies what waits, whichever field it names. -/
theorem not_interruptCommandsComplete : ¬ Obligations.InterruptCommandsComplete := by
  rintro ⟨-, -, complete, -⟩
  obtain ⟨t, ht, cleared, -⟩ := complete writeWaits .pf0 0 5 rfl (by decide) (by decide) rfl
  have claimed : t.flag (IRQ.SRC_CFG_CLAIMED 5) = true := Host.Outcome.next.inj ht ▸ writeWaits_claimed
  exact absurd (cleared.symm.trans claimed) (by decide)

/-! ### A load whose journal entry takes its stock (R440, R455, R466) -/

/-- After sheet 0, with an unlock of PF0, no shared stock, and in class 3 the stock of one load. -/
def nearlyLoaded : State :=
  { State.reset with
    running := true
    ledger := { floors := [0, 0, 400, 0] }
    glb := { unlocks := [⟨.pf0, 0⟩] } }

theorem nearlyLoaded_busy : ((nearlyLoaded.awake (runSizLoad .pf0 5 0)).settle).flag SIZING.SIZ_STATUS_BUSY = true := by decide +kernel

/-- Refutes O30: the write of SIZ_LOAD is journaled at the cost of class 0, which draws the floor of class 3, and the load waits. -/
theorem not_recordCommandsComplete : ¬ Obligations.RecordCommandsComplete := by
  rintro ⟨-, load, -⟩
  obtain ⟨t, ht, -, -, idle, -⟩ := load nearlyLoaded .pf0 5 rfl (by decide) (by decide +kernel) rfl (by decide) (by decide +kernel) (by decide +kernel)
  have busy : t.flag SIZING.SIZ_STATUS_BUSY = true := Host.Outcome.next.inj ht ▸ nearlyLoaded_busy
  exact absurd (idle.symm.trans busy) (by decide)

/-! ### A write of WARN_CFG that begins the emergency (R442) -/

/-- Out of reset, with the power-warning pin low. -/
def pinLow : State := State.reset.put LEDGER.LEDGER_STATUS_WARN_PIN 0

theorem pinLow_stops : ((pinLow.awake (runMspiTransfer 2 0x10030 [65536] true)).settle).ledger.warnStop = true := by decide +kernel

/-- Refutes O31: WARN_EN written while the pin is low begins the emergency, which stops classes 2 to 4; the frame names the register and the
unlocks alone. -/
theorem not_mspiCommandsComplete : ¬ Obligations.MspiCommandsComplete := by
  rintro ⟨-, -, -, write, -⟩
  obtain ⟨t, ht, only, -⟩ := write pinLow 0x10030 65536 rfl rfl (by decide)
  have stops : t.ledger.warnStop = true := Host.Outcome.next.inj ht ▸ pinLow_stops
  have kept : t.ledger.warnStop = pinLow.ledger.warnStop := congrArg (fun c => c.ledger.warnStop) only.core
  exact absurd (stops.symm.trans kept) (by decide)

end Sys2Proof.Machine
end

section
/-! A transmit ring without a number. -/

namespace Sys2Proof.Machine

/-- Sheets do not run, ring 64 is no ring of Table 16-3 but has an enabled transmit ring's configuration that names port 0, and the link of port 0
is up. -/
def ringBeyond : State :=
  { State.reset.puts [(HIF.RING_CFG_ENABLE 64, 1), (HIF.RING_CFG_TYPE 64, 8), (HIF.RING_CFG_PORT_MASK 64, 1), (HIF.HIF_STATUS_PF0_BME, 1),
      (MAC.PORT_CFG_RATE 0, 0), (MAC.PORT_STATUS_LINK 0, 2), (MAC.PORT_CFG_MAX_FRAME 0, 1518)] with
    mac := { ports := List.replicate 8 {} } }

/-- One descriptor of an empty frame. -/
def oneDesc : TxIn := { ring := 64, index := 0, descs := 1, cookie := 0, flags := 0, port := 0, tc := 0, hdrLen := 0, mss := 0, bytes := [], dmaOk := true }

theorem ringBeyond_consumes : ((ringBeyond.awake (runTxFrame oneDesc)).settle).get (HIF.RING_CONS 64) = 1 := by decide +kernel

/-- Refutes O40: a transmitted frame moves the consumed count of its ring, which is bookkeeping for rings 0 to 63 alone. -/
theorem not_hostFramesComplete : ¬ Obligations.HostFramesComplete := by
  rintro ⟨-, -, -, transmit, -⟩
  obtain ⟨t, ht, -, only⟩ := transmit ringBeyond oneDesc [[]] rfl (by decide +kernel) (by decide +kernel) (by decide +kernel) (by decide +kernel)
    (by decide) (by decide) rfl (by decide +kernel) rfl (by decide +kernel) (by decide +kernel) (by decide +kernel)
  have kept : t.get (HIF.RING_CONS 64) = ringBeyond.get (HIF.RING_CONS 64) := only.get _ (by decide +kernel) (fun _ h => nomatch h)
  have moved : t.get (HIF.RING_CONS 64) = 1 := Host.Outcome.next.inj ht ▸ ringBeyond_consumes
  exact absurd (moved.symm.trans kept) (by decide +kernel)

end Sys2Proof.Machine
end

section
/-! A counter that does not run. -/

namespace Sys2Proof.Machine

/-- Out of reset the counter counts the PCIe reference at OSC_RATIO 0, and a leap at two seconds is armed with a warning of one; the next event
lies at the beginning of the warning. -/
def standstill : State :=
  { State.reset.puts [(SYN.SYN_STATUS_CNT_SRC, 2), (SYN.OSC_RATIO, 0), (TIME.TIME_STATUS_LEAP_ARMED, 1), (TIME.LEAP_TARGET, 131072000000000),
      (TIME.LEAP_WARN, 1)] with
    time := { next := 65536000000000 } }

theorem standstill_silent : ((standstill.awake runLeapWarningStart).settle).flag TIME.TIME_STATUS_LEAP_WARNING = false := by decide +kernel

/-- Refutes O35: with an increment of 0 the counter does not reach the warning (R198, R199), and LEAP_WARNING stays 0. -/
theorem not_conditionEventsComplete : ¬ Obligations.ConditionEventsComplete := by
  rintro ⟨warning, -⟩
  obtain ⟨t, ht, warned, -⟩ := warning standstill rfl (by decide +kernel) (by decide +kernel)
  have silent : t.flag TIME.TIME_STATUS_LEAP_WARNING = false := Host.Outcome.next.inj ht ▸ standstill_silent
  exact absurd (silent.symm.trans (warned (by decide +kernel) (by decide +kernel))) (by decide)

end Sys2Proof.Machine
end

section
/-! What bookkeeping leaves of the couch link and of the latched edges. -/

namespace Sys2Proof.Machine

variable {s t u : State}

/-! ### The couch link, its registers, and the pending bits of the latches

Keeps says nothing of the fields that `showPair` and a handover write, nor of pending bits; most of bookkeeping leaves them. -/

/-- PENDING of a latch's source, 288 to 303. -/
def LatchPending (k : Nat) : Prop := 67276818 ≤ k ∧ k < 67278866 ∧ k % 128 = 18

/-- The couch link and what escalation asks of it are the same, and but for the fields named its register fields (BAR0 offsets 0x1D0000 to 0x1DFFFF) and PENDING of the latches
read the same. -/
structure Calm (l : List Fld) (s t : State) : Prop where
  couch : t.couch = s.couch
  esc : t.flt.handover = s.flt.handover
  get : ∀ f : Fld, 60817408 ≤ f.key ∧ f.key < 62914560 ∨ LatchPending f.key → (∀ d ∈ l, f.key ≠ d.key) → t.get f = s.get f

/-- A field that Calm does not speak of. -/
@[reducible] def OffCalm (k : Nat) : Prop := (k < 60817408 ∨ 62914560 ≤ k) ∧ (k < 67276818 ∨ 67278866 ≤ k ∨ k % 128 ≠ 18)

variable {l : List Fld}

theorem Calm.refl (s : State) : Calm l s s := ⟨rfl, rfl, fun _ _ _ => rfl⟩

theorem Calm.trans (a : Calm l s t) (b : Calm l t u) : Calm l s u := ⟨b.couch.trans a.couch, b.esc.trans a.esc, fun f hf hl => (b.get f hf hl).trans (a.get f hf hl)⟩

theorem Calm.more {m : List Fld} (h : Calm l s t) (sub : ∀ d ∈ l, d ∈ m) : Calm m s t :=
  ⟨h.couch, h.esc, fun f hf hm => h.get f hf (fun d hd => hm d (sub d hd))⟩

/-- The couch link may be set on both sides. -/
theorem Calm.couchSet (h : Calm l s t) (x : CouchSt) : Calm l { s with couch := x } { t with couch := x } := ⟨rfl, h.esc, h.get⟩

theorem Calm.ledgerSet (h : Calm l s t) (x : LedgerSt) : Calm l s { t with ledger := x } := ⟨h.couch, h.esc, h.get⟩
theorem Calm.reamSet (h : Calm l s t) (x : ReamSt) : Calm l s { t with ream := x } := ⟨h.couch, h.esc, h.get⟩
theorem Calm.hifSet (h : Calm l s t) (x : HifSt) : Calm l s { t with hif := x } := ⟨h.couch, h.esc, h.get⟩
theorem Calm.irqSet (h : Calm l s t) (x : IrqSt) : Calm l s { t with irq := x } := ⟨h.couch, h.esc, h.get⟩
theorem Calm.vatcSet (h : Calm l s t) (x : VatSt) : Calm l s { t with vatc := x } := ⟨h.couch, h.esc, h.get⟩
theorem Calm.reamVatcSet (h : Calm l s t) (x : ReamSt) (y : VatSt) : Calm l s { t with ream := x, vatc := y } := ⟨h.couch, h.esc, h.get⟩
theorem Calm.emit (h : Calm l s t) (o : Out) : Calm l s (t.emit o) := ⟨h.couch, h.esc, h.get⟩
theorem Calm.unpoison (h : Calm l s t) (a n : Nat) : Calm l s (t.unpoison a n) := ⟨h.couch, h.esc, h.get⟩

theorem Calm.put (h : Calm l s t) (f : Fld) (v : Nat) (n : OffCalm f.key) : Calm l s (t.put f v) :=
  h.trans ⟨rfl, rfl, fun g hg _ => State.get_put_other t f g v (by unfold LatchPending at hg; omega)⟩

theorem Calm.putOf (h : Calm l s t) (f : Fld) (v : Nat) (m : f ∈ l) : Calm l s (t.put f v) :=
  h.trans ⟨rfl, rfl, fun g _ hl => State.get_put_other t f g v (hl f m)⟩

theorem Calm.putBOf (h : Calm l s t) (f : Fld) (b : Bool) (m : f ∈ l) : Calm l s (t.putB f b) := h.putOf f _ m

theorem Calm.putB (h : Calm l s t) (f : Fld) (b : Bool) (n : OffCalm f.key) : Calm l s (t.putB f b) := h.put f _ n

theorem Calm.puts (h : Calm l s t) (p : List (Fld × Nat)) (n : ∀ q ∈ p, OffCalm q.1.key) : Calm l s (t.puts p) := by
  induction p generalizing t with
  | nil => exact h
  | cons q p ih =>
    obtain ⟨f, v⟩ := q
    exact ih (h.put f v (n (f, v) (by simp))) (fun r hr => n r (by simp [hr]))

theorem Calm.ite {c : Prop} [Decidable c] {a b : State} (ha : Calm l s a) (hb : Calm l s b) : Calm l s (if c then a else b) := by
  split
  · exact ha
  · exact hb

theorem Calm.foldList {α : Type} (p : List α) (g : State → α → State) (h : Calm l s t)
    (k : ∀ (u : State) (a : α), a ∈ p → Calm l s u → Calm l s (g u a)) : Calm l s (p.foldl g t) := by
  induction p generalizing t with
  | nil => exact h
  | cons a p ih => exact ih (k t a (by simp) h) (fun u b m => k u b (by simp [m]))

theorem Calm.foldRange (n : Nat) (g : State → Nat → State) (h : Calm l s t)
    (k : ∀ (u : State) (i : Nat), i < n → Calm l s u → Calm l s (g u i)) : Calm l s ((List.range n).foldl g t) :=
  h.foldList _ g (fun u i m => k u i (List.mem_range.1 m))

theorem Calm.charge0 (h : Calm l s t) (n : Nat) : Calm l s (t.charge0 n) := by
  unfold State.charge0
  exact Calm.ite (Calm.ledgerSet (h.put LEDGER.SHARED_LEFT _ (by decide)) _) h

theorem Calm.showVec (h : Calm l s t) (v : Nat) (b : Bool) (hv : v < 128) : Calm l s (t.showVec v b) := by
  have h1 := h.puts [(IRQ.VEC_STAT_STATE v, if (nth t.irq.claims v []).length ≠ 0 then 2 else if b then 1 else 0),
    (IRQ.VEC_STAT_LEVEL v, min 15 (t.claimGroup v)), (IRQ.VEC_STAT_DEPTH v, (nth t.irq.claims v []).length)] (by
      simp only [List.mem_cons, List.not_mem_nil, or_false, forall_eq_or_imp, forall_eq, OffCalm, IRQ.VEC_STAT_STATE, IRQ.VEC_STAT_LEVEL,
        IRQ.VEC_STAT_DEPTH]
      omega)
  unfold State.showVec
  exact Calm.ite (h1.putB _ _ (by decide)) h1

theorem Calm.sendMsg (h : Calm l s t) (v : Nat) (hv : v < 128) : Calm l s (t.sendMsg v) := by
  unfold State.sendMsg
  exact Calm.ite h (Calm.ite (h.putB _ _ (by simp only [OffCalm, IRQ.VEC_STAT_PBA]; omega)) ((h.charge0 20).emit _))

theorem Calm.vecRefresh (h : Calm l s t) (v : Nat) (b : Bool) (hv : v < 128) : Calm l s (t.vecRefresh v b) := by
  have shown (x : IrqSt) (c : Bool) : Calm l s (State.showVec { t with irq := x } v c) := (h.irqSet x).showVec v c hv
  unfold State.vecRefresh
  dsimp only
  split
  · exact (shown _ _).sendMsg v hv
  · exact shown _ _

theorem Calm.setPending (h : Calm l s t) (x : Nat) (b : Bool) (hx : x < 512) (out : x < 288 ∨ 304 ≤ x) : Calm l s (t.setPending x b) := by
  have h1 := h.putB (IRQ.SRC_CFG_PENDING x) b (by simp only [OffCalm, IRQ.SRC_CFG_PENDING]; omega)
  unfold State.setPending
  exact Calm.ite h ((h1.put _ _ (by decide)).vecRefresh _ _ (State.vecOf_lt _ _))

theorem Calm.irqEdge (h : Calm l s t) (x : Nat) (hx : x < 512) (out : x < 288 ∨ 304 ≤ x) : Calm l s (t.irqEdge x) :=
  Calm.ite h (h.setPending x true hx out)

theorem Calm.irqLevel (h : Calm l s t) (x : Nat) (b : Bool) (hx : x < 288) : Calm l s (t.irqLevel x b) := by
  have h1 := h.putB (IRQ.SRC_CFG_RAW x) b (by simp only [OffCalm, IRQ.SRC_CFG_RAW]; omega)
  unfold State.irqLevel
  dsimp only
  refine Calm.setPending ?_ x _ (by omega) (.inl hx)
  split
  · exact h1
  · exact h1.irqSet _

theorem Calm.pmuOne (h : Calm l s t) (ev q n k : Nat) (hk : k < 32) : Calm l s (t.pmuOne ev q n k) := by
  have h1 := h.put (PMU.PMU_CNT k) ((t.get (PMU.PMU_CNT k) + n) % 2 ^ 48) (by simp only [OffCalm, PMU.PMU_CNT]; omega)
  unfold State.pmuOne
  exact Calm.ite (Calm.ite (h1.irqEdge _ (by omega) (by omega)) h1) h

theorem Calm.pmu (h : Calm l s t) (ev q n : Nat) : Calm l s (t.pmu ev q n) :=
  h.foldRange 32 _ (fun _ i hi hu => hu.pmuOne ev q n i hi)

theorem Calm.incBy (h : Calm l s t) (f : Fld) (n : Nat) (a : OffCalm f.key) : Calm l s (t.incBy f n) := by
  have hb := blockOf_lt (f.key / 32)
  unfold State.incBy
  exact Calm.ite h (Calm.ite (h.put f _ a) (((h.put f _ a).put GLB.GLB_CNT_OVF _ (by decide)).irqLevel _ _ (by omega)))

theorem Calm.inc (h : Calm l s t) (f : Fld) (a : OffCalm f.key) : Calm l s (t.inc f) := h.incBy f 1 a

theorem Calm.incOf (h : Calm l s t) (f : Fld) (m : f ∈ l) : Calm l s (t.inc f) := by
  have hb := blockOf_lt (f.key / 32)
  unfold State.inc State.incBy
  exact Calm.ite h (Calm.ite (h.putOf f _ m) (((h.putOf f _ m).put GLB.GLB_CNT_OVF _ (by decide)).irqLevel _ _ (by omega)))

theorem Calm.vatCount (h : Calm l s t) (a n : Nat) : Calm l s (t.vatCount a n) := by
  unfold State.vatCount
  exact Calm.ite h (h.foldList _ _ (fun _ _ _ hu => hu.pmu _ _ _))

theorem Calm.denyMark (h : Calm l s t) (m a : Nat) (w : Bool) : Calm l s (t.denyMark m a w) :=
  (h.inc _ (by decide)).puts _ (by
    simp only [List.mem_cons, List.not_mem_nil, or_false, forall_eq_or_imp, forall_eq, OffCalm]
    decide)

theorem Calm.denyDue (h : Calm l s t) (m a : Nat) (w : Bool) : Calm l s (t.denyDue m a w) := by
  unfold State.denyDue
  dsimp only
  exact Calm.ite (h.denyMark m a w) (Calm.hifSet (Calm.vatcSet (h.denyMark m a w) { (t.denyMark m a w).vatc with denied := true }) _)

theorem Calm.reamWrite (h : Calm l s t) (e : ReamEntry) : Calm l s (t.reamWrite e) := by
  unfold State.reamWrite
  dsimp only
  split
  · exact ((h.denyDue _ _ _).charge0 _).inc REAM.REAM_LOST_CNT (by decide)
  · split
    · exact Calm.unpoison (Calm.reamSet ((((h.putB REAM.REAM_STATUS_GAP_OPEN _ (by decide)).put REAM.REAM_SEQ _
        (by decide)).put REAM.REAM_UNDRAINED _ (by decide)).putB REAM.REAM_STATUS_FULL _ (by decide)) _) _ _
    · split
      · exact (Calm.charge0 (h.reamSet _) 60).inc REAM.REAM_LOST_CNT (by decide)
      · refine Calm.hifSet (Calm.inc (Calm.inc (Calm.charge0 (Calm.unpoison (Calm.reamSet (Calm.puts h _ ?_) _) _ _) 60)
          REAM.REAM_LOST_CNT (by decide)) REAM.GAP_CNT (by decide)) _
        simp only [List.mem_cons, List.not_mem_nil, or_false, forall_eq_or_imp, forall_eq, OffCalm]
        decide

theorem Calm.journal (h : Calm l s t) (o : Origin) (k a x y c : Nat) : Calm l s (t.journal o k a x y c) := by
  unfold State.journal
  dsimp only
  split
  · exact h.reamWrite _
  · exact h.reamSet _

theorem Calm.ringHalt (h : Calm l s t) (n e : Nat) (hn : n < 64) : Calm l s (t.ringHalt n e) := by
  unfold State.ringHalt
  refine Calm.ite h (Calm.hifSet (Calm.journal (Calm.puts (h.charge0 300) _ ?_) _ _ _ _ _ _) _)
  simp only [List.mem_cons, List.not_mem_nil, or_false, forall_eq_or_imp, forall_eq, OffCalm, HIF.RING_STAT_HALTED, HIF.RING_STAT_ERR,
    HIF.RING_STAT_RUNNING]
  omega

theorem Calm.ringFire (h : Calm l s t) (n : Nat) (hn : n < 64) : Calm l s (t.ringFire n) := by
  unfold State.ringFire
  dsimp only
  split
  · exact Calm.irqEdge (h.hifSet _) n (by omega) (by omega)
  · exact h.hifSet _

theorem Calm.ringPut (h : Calm l s t) (n : Nat) (d : Desc) (hn : n < 64) : Calm l s (t.ringPut n d) :=
  (h.emit _).put _ _ (by simp only [OffCalm, HIF.RING_PROD]; omega)

theorem Calm.ringWrite (h : Calm l s t) (n : Nat) (ds : List Desc) (hn : n < 64) : Calm l s (t.ringWrite n ds) := by
  have h1 : Calm l s (ds.foldl (fun s d => s.ringPut n d) t) := h.foldList ds _ (fun u a _ hu => hu.ringPut n a hn)
  have row (r : RingSt) (v : State) (hv : Calm l s v) (ev q k : Nat) (b : Bool) :
      Calm l s (((State.pmu { v with hif := { v.hif with rings := setNth v.hif.rings n r } }) ev q k).putB (HIF.RING_STAT_FULL n) b) :=
    Calm.putB (Calm.pmu (hv.hifSet _) _ _ _) _ _ (by simp only [OffCalm, HIF.RING_STAT_FULL]; omega)
  unfold State.ringWrite
  split
  · exact (h.ringHalt n 3 hn).inc HIF.DMA_ERR_CNT (by decide)
  · exact Calm.ite ((row _ _ h1 _ _ _ _).ringFire n hn) (row _ _ h1 _ _ _ _)

theorem Calm.uncorrMark (h : Calm l s t) (m a : Nat) : Calm l s (t.uncorrMark m a) :=
  ((h.charge0 300).inc _ (by decide)).puts _ (by
    simp only [List.mem_cons, List.not_mem_nil, or_false, forall_eq_or_imp, forall_eq, OffCalm]
    decide)

theorem Calm.uncorrDue (h : Calm l s t) (m a : Nat) : Calm l s (t.uncorrDue m a) :=
  Calm.journal (Calm.hifSet (h.uncorrMark m a) _) _ _ _ _ _ _

theorem Calm.denyStage (h : Calm l s t) (m a : Nat) (w : Bool) : Calm l s (t.denyStage m a w) :=
  Calm.ite (h.denyDue m a w) ((h.denyDue m a w).journal _ _ _ _ _ _)

theorem Calm.stagePut (h : Calm l s t) (m a : Nat) : Calm l s (t.stagePut m a).2 := by
  unfold State.stagePut
  split
  · exact (h.vatCount a 32).unpoison a 32
  · exact h.denyStage m a true

theorem Calm.stageGet (h : Calm l s t) (m a : Nat) : Calm l s (t.stageGet m a).2 := by
  unfold State.stageGet
  split
  · exact h.denyStage m a false
  · split
    · exact (h.vatCount a 32).uncorrDue _ _
    · exact h.vatCount a 32

theorem Calm.gapGone (h : Calm l s t) (d : Desc) : Calm l s (t.gapGone d) := by
  unfold State.gapGone
  split
  · exact h.hifSet _
  · exact h

theorem Calm.stageDesc (h : Calm l s t) (d : Desc) : Calm l s (t.stageDesc d) := by
  unfold State.stageDesc
  split
  · exact Calm.inc (h.hifSet _) HIF.EVENT_DROP_CNT (by decide)
  · have h1 := h.stagePut 11 (t.evSlot t.hif.events.length)
    split
    · next e => rw [e] at h1; exact Calm.put (h1.hifSet _) HIF.EVT_STAGE _ (by decide)
    · next e => rw [e] at h1; exact Calm.inc (h1.hifSet _) HIF.EVENT_DROP_CNT (by decide)

theorem Calm.drainEvent (h : Calm l s t) : Calm l s t.drainEvent := by
  unfold State.drainEvent
  split
  · next n e es e1 _ =>
    have hn := State.ringOf_lt e1
    split
    · dsimp only
      have h1 := h.stageGet 11 (t.evSlot 0)
      split
      · next e =>
        rw [e] at h1
        exact Calm.ringWrite (Calm.gapGone (Calm.put (h1.hifSet _) HIF.EVT_STAGE _ (by decide)) _) n _ hn
      · next e => rw [e] at h1; exact h1.ringHalt n 3 hn
      · next e => rw [e] at h1; exact Calm.ringHalt (Calm.put (h1.hifSet _) HIF.EVT_STAGE _ (by decide)) n 4 hn
    · exact h.putB _ _ (by simp only [OffCalm, HIF.RING_STAT_FULL]; omega)
  · exact h

theorem Calm.sendDesc (h : Calm l s t) (d : Desc) : Calm l s (t.sendDesc d) := by
  unfold State.sendDesc
  split
  · next n e => exact Calm.ite ((h.gapGone d).ringWrite n _ (State.ringOf_lt e)) (h.stageDesc d).drainEvent
  · exact h.stageDesc d

theorem Calm.flushDue (h : Calm l s t) : Calm l s t.flushDue :=
  Calm.foldList _ _ (h.hifSet _) (fun _ _ _ hu => hu.sendDesc _)

theorem Calm.eventIn (h : Calm l s t) (c o : Nat) (v : Int) : Calm l s (t.eventIn c o v) := h.flushDue.sendDesc _

theorem Calm.vatDeny (h : Calm l s t) (m a : Nat) (w : Bool) : Calm l s (t.vatDeny m a w) := by
  have h1 := h.denyMark m a w
  unfold State.vatDeny
  exact Calm.ite h1 ((Calm.eventIn (h1.vatcSet { (t.denyMark m a w).vatc with denied := true }) _ _ _).journal _ _ _ _ _ _)

theorem Calm.vatUncorr (h : Calm l s t) (m a : Nat) : Calm l s (t.vatUncorr m a) :=
  ((h.uncorrMark m a).eventIn _ _ _).journal _ _ _ _ _ _

theorem Calm.vatRead (h : Calm l s t) (m a n : Nat) : Calm l s (t.vatRead m a n).2 := by
  unfold State.vatRead
  split
  · exact h.vatDeny _ _ _
  · split
    · exact (h.vatCount _ _).vatUncorr _ _
    · exact h.vatCount _ _

theorem Calm.reamRead (h : Calm l s t) (i : Nat) : Calm l s (t.reamRead i).2 := by
  unfold State.reamRead
  split
  · exact h
  · dsimp only
    split
    · exact Calm.reamVatcSet ((((h.vatRead _ _ _).charge0 60).inc REAM.REAM_LOST_CNT (by decide)).inc REAM.GAP_CNT (by decide)) _ _
    · exact h.vatRead _ _ _
    · exact h.vatRead _ _ _

theorem Calm.reamPosts (h : Calm l s t) (k : Nat) : Calm l s (t.reamPosts k) := by
  induction k generalizing t with
  | zero => exact h
  | succ k ih =>
    unfold State.reamPosts
    split
    · exact h
    · next n e =>
      have hn := State.ringOf_lt e
      split
      · exact h
      · split
        · exact h.putB _ _ (by simp only [OffCalm, HIF.RING_STAT_FULL]; omega)
        · have hr := h.reamRead t.ream.posted
          split
          · next e => rw [e] at hr; exact hr.ringHalt n 3 hn
          · next e =>
            rw [e] at hr
            exact ih (Calm.ringWrite (Calm.charge0 (hr.reamSet _) 20) n _ hn)

theorem Calm.reamPost (h : Calm l s t) : Calm l s t.reamPost := Calm.ite h (h.reamPosts _)

theorem Calm.showReamWin (h : Calm l s t) : Calm l s t.showReamWin := by
  unfold State.showReamWin
  dsimp only
  refine Calm.ite (Calm.foldRange 16 _ ?_ (fun _ i hi hu => hu.put _ _ (by simp only [OffCalm, REAM.REAM_WIN]; omega))) h
  split
  · exact h.reamRead 0
  · exact h

theorem Calm.judgeOvf (h : Calm l s t) (b : Nat) (hb : b < 26) : Calm l s (t.judgeOvf b) :=
  Calm.ite h (Calm.ite h (h.irqLevel _ _ (by omega)))



/-! ### What follows every command -/

theorem Calm.charge (h : Calm l s t) {c n : Nat} (e : t.charge c n = some u) : Calm l s u := by
  unfold State.charge at e
  split at e
  · cases e; exact h
  · split at e
    · cases e; exact h.charge0 n
    · split at e
      · cases e
      · dsimp only at e
        split at e
        · cases e
          exact Calm.ledgerSet (h.put LEDGER.SHARED_LEFT _ (by decide)) _
        · cases e

theorem Calm.pay (h : Calm l s t) (c n : Nat) (hc : c < 8) : Calm l s (t.pay c n) := by
  unfold State.pay
  split
  · next e => exact h.charge e
  · exact (h.inc _ (by simp only [OffCalm, LEDGER.REFUSE_CNT]; omega)).charge0 n

theorem Calm.event (h : Calm l s t) (c o : Nat) (v : Int) : Calm l s (t.event c o v) := (h.charge0 10).eventIn c o v

theorem Calm.eventJ (h : Calm l s t) (o : Origin) (c b : Nat) (v : Int) (x y : Nat) : Calm l s (t.eventJ o c b v x y) := (h.event c b v).journal o 3 b x y c

theorem Calm.pairEvent (h : Calm l s t) (o : Origin) (c b : Nat) (v : Int) (x y : Nat) : Calm l s (t.pairEvent o c b v x y) :=
  ((h.pay 3 150 (by omega)).eventIn _ _ _).journal _ _ _ _ _ _

theorem Calm.complete (hh : Calm l s t) (h : Hdr) (op st r : Nat) (late : Bool) : Calm l s (t.complete h op st r late) := by
  unfold State.complete State.postCompl
  split
  · have h1 (x : HifSt) (p : List (Fld × Nat)) (hp : ∀ q ∈ p, OffCalm q.1.key) (o : Out) :
        Calm l s (State.emit (State.puts (State.inc { t with hif := x } HIF.CMD_CNT) p) o) :=
      Calm.emit (Calm.puts (Calm.inc (hh.hifSet x) HIF.CMD_CNT (by decide)) p hp) o
    dsimp only
    split
    · refine Calm.irqEdge (h1 _ _ ?_ _) 304 (by omega) (by omega)
      simp only [List.mem_cons, List.not_mem_nil, or_false, forall_eq_or_imp, forall_eq]
      decide
    · refine h1 _ _ ?_ _
      simp only [List.mem_cons, List.not_mem_nil, or_false, forall_eq_or_imp, forall_eq]
      decide
  · dsimp only
    split
    · exact Calm.ringWrite ((hh.inc _ (by decide)).put _ _ (by decide)) _ _ (State.get_lt t (HIF.RING_CFG_PAIR h.ring))
    · exact hh.hifSet _

theorem Calm.reserveOver (h : Calm l s t) : Calm l s t.reserveOver := by
  unfold State.reserveOver
  split
  · exact (Calm.inc (Calm.putB (h.ledgerSet _) _ _ (by decide)) _ (by decide)).eventIn _ _ _
  · exact h

theorem Calm.judgeWire (h : Calm l s t) (f : Nat) (_hf : f < 24) : Calm l s (t.judgeWire f) := by
  have h1 : Calm l s (t.setFbit FLT.FLT_WIRE f (t.pairBroken f)) := h.put _ _ (by simp only [OffCalm, FLT.FLT_WIRE]; omega)
  unfold State.judgeWire
  exact Calm.ite h (Calm.ite ((h1.inc FLT.WIRE_CNT (by decide)).event _ _ _) h1)

theorem Calm.judgeFault (h : Calm l s t) (f : Nat) (hf : f < 24) : Calm l s (t.judgeFault f) := by
  unfold State.judgeFault
  refine Calm.ite h (Calm.ite ?_ ?_)
  · exact (((((h.charge0 300).put _ _ (by simp only [OffCalm, FLT.FLT_ACTIVE]; omega)).inc _ (by simp only [OffCalm, FLT.FLT_RAISE_CNT]; omega)).eventIn
      _ _ _).journal _ _ _ _ _ _).irqLevel _ _ (by omega)
  · exact Calm.irqLevel ((h.put _ _ (by simp only [OffCalm, FLT.FLT_ACTIVE]; omega)).put _ _ (by simp only [OffCalm, FLT.FLT_ACKED]; omega)) _ _ (by omega)

theorem Calm.showFaults (h : Calm l s t) : Calm l s t.showFaults := by
  have h1 := h.puts [(FLT.FLT_STATUS_ACTIVE_N, ((List.range 24).filter (t.fbit FLT.FLT_ACTIVE)).length),
    (FLT.FLT_STATUS_FAULT_N, if t.flag FLT.FLT_STATUS_PULSE || t.flag FLT.FAULTN_CFG_HOLD then 1 else 0)] (by
      simp only [List.mem_cons, List.not_mem_nil, or_false, forall_eq_or_imp, forall_eq]
      decide)
  have run (n : Nat) := h1.put FLT.FLT_STATUS_TIMER_RUN n (by decide)
  unfold State.showFaults
  exact Calm.ite h1 (Calm.ite ⟨(run 1).couch, (run 1).esc, (run 1).get⟩ (run 0))

theorem Calm.judgeFaults (h : Calm l s t) : Calm l s t.judgeFaults :=
  (Calm.foldRange 24 _ (Calm.foldRange 24 _ h (fun _ f hf hu => hu.judgeWire f hf)) (fun _ f hf hu => hu.judgeFault f hf)).showFaults

theorem Calm.showOuts (h : Calm l s t) : Calm l s t.showOuts := by
  unfold State.showOuts
  refine Calm.foldRange 4 _ (Calm.foldRange 16 _ h (fun u n hn hu => ?_)) (fun u k hk hu => ?_)
  · have h1 := hu.puts [(SYN.OUT_STAT_SQUELCHED n, if (t.squelchAll || !bitOf (u.getT SYN.OUT_EN_CLK) n) = true then 1 else 0),
      (SYN.OUT_STAT_DRIVEN n, if (!(t.squelchAll || !bitOf (u.getT SYN.OUT_EN_CLK) n) && !u.flag (SYN.OUT_STAT_HELD_LOW n) &&
        u.calLocked (u.get (SYN.OUT_CFG_SRC n))) = true then 1 else 0)] (by
        simp only [List.mem_cons, List.not_mem_nil, or_false, forall_eq_or_imp, forall_eq, OffCalm, SYN.OUT_STAT_SQUELCHED, SYN.OUT_STAT_DRIVEN]
        omega)
    exact ⟨h1.couch, h1.esc, h1.get⟩
  · have h1 := hu.puts [(SYN.PPS_STAT_SQUELCHED k, if (t.squelchAll || !bitOf (u.getT SYN.OUT_EN_PPS) k) = true then 1 else 0),
      (SYN.PPS_STAT_NO_SRC k, if u.wholeHz (u.get (SYN.PPS_CFG_SRC k)) = true then 0 else 1)] (by
        simp only [List.mem_cons, List.not_mem_nil, or_false, forall_eq_or_imp, forall_eq, OffCalm, SYN.PPS_STAT_SQUELCHED, SYN.PPS_STAT_NO_SRC]
        omega)
    exact ⟨h1.couch, h1.esc, h1.get⟩

theorem Calm.showCands (h : Calm l s t) : Calm l s t.showCands := by
  refine Calm.puts h _ ?_
  simp only [List.mem_cons, List.not_mem_nil, or_false, forall_eq_or_imp, forall_eq]
  decide

theorem Calm.showServing (h : Calm l s t) : Calm l s t.showServing := by
  refine Calm.puts h _ ?_
  simp only [List.mem_cons, List.not_mem_nil, or_false, forall_eq_or_imp, forall_eq]
  decide

theorem Calm.showPorts (h : Calm l s t) : Calm l s t.showPorts :=
  (h.putB GNSSF.GNSSF_STATUS_A_OK _ (by decide)).putB GNSSF.GNSSF_STATUS_B_OK _ (by decide)

theorem Calm.showStrobes (h : Calm l s t) : Calm l s t.showStrobes := by
  unfold State.showStrobes
  refine Calm.foldRange 16 _ h (fun u n hn hu => ?_)
  exact (hu.putB _ _ (by simp only [OffCalm, TIME.EVT_STAT_SUPPRESSED]; omega)).putB _ _ (by simp only [OffCalm, TIME.EVT_STAT_LEVEL]; omega)

theorem Calm.showRest (h : Calm l s t) : Calm l s t.showRest :=
  Calm.putB (Calm.putB h.showPorts.showStrobes SYN.SYN_STATUS_RAMPING _ (by decide)) REFSEL.REFSEL_STATUS_FROZEN _ (by decide)

theorem Calm.afterFaults (h : Calm l s t) : Calm l s t.afterFaults :=
  (h.foldRange 26 _ (fun _ b hb hu => hu.judgeOvf b hb)).reamPost.showReamWin.flushDue

/-- The pair as a state shows it and escalation changes it; then the rest of what follows a command is calm. -/
def State.showLink (s : State) : State := s.flushDue.reserveOver.showPair.escHandover

theorem State.settle_calm (h : s.inReset = false) : Calm l s.showLink s.settle := by
  unfold State.settle
  rw [h]
  exact Calm.showRest (Calm.showOuts (Calm.showServing (Calm.showCands (Calm.afterFaults ((Calm.refl s.showLink).judgeFaults.judgeFaults)))))

end Sys2Proof.Machine
end

section
/-! What follows every command, on the couch link. -/

namespace Sys2Proof.Machine

variable {s t u : State} {l : List Fld}

/-! ### The link as a state shows it (R342, R358) -/

/-- The couch link but for whether the lanes are locked, and for what the last frame offered. -/
def CouchSt.linked (c : CouchSt) (locked : Bool) (offer final : Option (Nat × Nat × Nat)) : CouchSt :=
  { c with locked := locked, offer := offer, final := final }

/-- The lanes may be up: the pair is enabled and the reference of the lanes is good. -/
def State.LanesUp (s : State) : Prop := s.flag COUCH.PAIR_CFG_EN = true ∧ s.flag COUCH.PAIR_STATUS_REF_BAD = false

/-- Showing the link does not change what the standby's state is. -/
def State.SteadyLink (s : State) : Prop := s.mode ≠ 5 ∨ s.LanesUp ∨ s.pairState < 2 ∨ 4 < s.pairState

/-- The fields that a lost link shows. -/
def lossFields : List Fld := [COUCH.PAIR_STATUS_ROLE, COUCH.PAIR_STATUS_LINK, COUCH.PAIR_STATUS_STATE, COUCH.PAIR_STATUS_PROMOTABLE, COUCH.LINK_LOSS_CNT]

theorem Calm.couchGo (h : Calm l s t) (n : Nat) (m : COUCH.PAIR_STATUS_STATE ∈ l ∧ COUCH.PAIR_STATUS_PROMOTABLE ∈ l) : Calm l s (t.couchGo n) := by
  have h1 := h.putOf COUCH.PAIR_STATUS_STATE n m.1
  exact Calm.ite (h1.putOf _ _ m.2) (Calm.ite (h1.putOf _ _ m.2) h1)

theorem State.linkLost_calm (s : State) : Calm lossFields { s with couch := s.couch.linked false none none } s.linkLost := by
  have h1 : Calm lossFields { s with couch := s.couch.linked false none none }
      (State.put { s with couch := s.couch.linked false none none } COUCH.PAIR_STATUS_LINK 1) := (Calm.refl _).putOf _ _ (by decide)
  exact Calm.ite h1 (Calm.ite (((h1.couchGo 5 (by decide)).incOf _ (by decide)).pairEvent _ _ _ _ _ _) ((h1.couchGo 6 (by decide)).pairEvent _ _ _ _ _ _))

/-- Where the standby is in none of the states 2 to 4 a lost link changes no state. -/
theorem State.linkLost_idle (h : s.pairState < 2 ∨ 4 < s.pairState) :
    s.linkLost = State.put { s with couch := s.couch.linked false none none } COUCH.PAIR_STATUS_LINK 1 := if_pos h

/-- ROLE is shown. -/
def State.roled (s : State) : State :=
  s.put COUCH.PAIR_STATUS_ROLE (if !s.flag COUCH.PAIR_CFG_EN then 0 else if s.mode = 5 then 2 else 1)

theorem State.roled_calm (s : State) (m : COUCH.PAIR_STATUS_ROLE ∈ l) : Calm l s s.roled := (Calm.refl _).putOf _ _ m

theorem State.roled_get (s : State) (f : Fld) (h : f.key ≠ COUCH.PAIR_STATUS_ROLE.key) : s.roled.get f = s.get f := State.get_put_other _ _ _ _ h

theorem State.roled_flag (s : State) (f : Fld) (h : f.key ≠ COUCH.PAIR_STATUS_ROLE.key) : s.roled.flag f = s.flag f := State.flag_put_other _ _ _ _ h

theorem State.showPair_of_up (up : s.LanesUp) :
    s.showPair = if s.roled.get COUCH.PAIR_STATUS_LINK = 0 then s.roled.put COUCH.PAIR_STATUS_LINK 1 else s.roled := by
  refine if_neg ?_
  have ref : s.roled.flag COUCH.PAIR_STATUS_REF_BAD = false := (s.roled_flag _ (by decide)).trans up.2
  rw [show State.flag (s.put _ _) COUCH.PAIR_STATUS_REF_BAD = false from ref, up.1]
  decide

/-- The lanes are no longer locked. -/
def State.lanesDown (s : State) : State := { s with couch := { s.couch with locked := false } }

theorem Calm.lanesDown {a : Bool} {b c : Option (Nat × Nat × Nat)} (k : Calm l { s with couch := s.couch.linked a b c } u) :
    Calm l { s with couch := s.couch.linked false b c } u.lanesDown :=
  ⟨congrArg (fun c : CouchSt => { c with locked := false }) k.couch, k.esc, k.get⟩

theorem State.showPair_of_down (down : ¬s.LanesUp) :
    s.showPair = if s.roled.get COUCH.PAIR_STATUS_LINK = 0 then s.roled
      else (if s.roled.mode = 5 then s.roled.linkLost else s.roled).lanesDown.put COUCH.PAIR_STATUS_LINK 0 := by
  refine if_pos ?_
  by_contra no
  have ref : s.roled.flag COUCH.PAIR_STATUS_REF_BAD = s.flag COUCH.PAIR_STATUS_REF_BAD := s.roled_flag _ (by decide)
  rw [show State.flag (s.put _ _) COUCH.PAIR_STATUS_REF_BAD = _ from ref] at no
  simp only [Bool.or_eq_true, Bool.not_eq_eq_eq_not, Bool.not_true, not_or, Bool.not_eq_false, Bool.not_eq_true] at no
  exact down no

/-- With the lanes up only LINK may leave 0. -/
theorem State.showPair_up (up : s.LanesUp) : Calm [COUCH.PAIR_STATUS_ROLE, COUCH.PAIR_STATUS_LINK] s s.showPair ∧
    s.showPair.get COUCH.PAIR_STATUS_LINK = if s.get COUCH.PAIR_STATUS_LINK = 0 then 1 else s.get COUCH.PAIR_STATUS_LINK := by
  rw [State.showPair_of_up up, s.roled_get _ (by decide)]
  split
  · exact ⟨(s.roled_calm (by decide)).putOf _ _ (by decide), State.get_put_same _ _ _⟩
  · exact ⟨s.roled_calm (by decide), s.roled_get _ (by decide)⟩

theorem CouchSt.linked_self (s : State) : { s with couch := s.couch.linked s.couch.locked s.couch.offer s.couch.final } = s := rfl

/-- Lanes that go down leave what the link lost leaves. -/
theorem State.showPair_down (down : ¬s.LanesUp) (m : COUCH.PAIR_STATUS_ROLE ∈ l ∧ COUCH.PAIR_STATUS_LINK ∈ l)
    (lost : s.mode = 5 → Calm l { s.roled with couch := s.couch.linked false none none } s.roled.linkLost) :
    ∃ a b c, Calm l { s with couch := s.couch.linked a b c } s.showPair := by
  have role : Calm l s s.roled := s.roled_calm m.1
  rw [State.showPair_of_down down]
  split
  · exact ⟨_, _, _, (CouchSt.linked_self s).symm ▸ role⟩
  · split
    · next five =>
      have k := (role.couchSet (s.couch.linked false none none)).trans (lost five)
      exact ⟨false, none, none, k.lanesDown.putOf _ _ m.2⟩
    · exact ⟨false, s.couch.offer, s.couch.final, Calm.putOf (Calm.lanesDown (a := s.couch.locked) role) _ _ m.2⟩

/-- The link of a unit that is no standby with a link to lose. -/
theorem State.showPair_steady (h : s.SteadyLink) :
    ∃ a b c, Calm [COUCH.PAIR_STATUS_ROLE, COUCH.PAIR_STATUS_LINK] { s with couch := s.couch.linked a b c } s.showPair := by
  by_cases up : s.LanesUp
  · exact ⟨_, _, _, (CouchSt.linked_self s).symm ▸ (State.showPair_up up).1⟩
  · refine State.showPair_down up ⟨by decide, by decide⟩ (fun five => ?_)
    have idle : s.roled.pairState < 2 ∨ 4 < s.roled.pairState := by
      rw [State.pairState, s.roled_get _ (by decide)]
      obtain no | no | idle := h
      exacts [absurd five no, absurd no up, idle]
    rw [State.linkLost_idle idle]
    exact (Calm.refl _).putOf _ _ (by decide)

/-- Whatever the link, showing it keeps the couch but for its lanes and offers. -/
theorem State.showPair_calm (s : State) : ∃ a b c, Calm lossFields { s with couch := s.couch.linked a b c } s.showPair := by
  by_cases up : s.LanesUp
  · exact ⟨_, _, _, (CouchSt.linked_self s).symm ▸ (State.showPair_up up).1.more (by decide)⟩
  · exact State.showPair_down up ⟨by decide, by decide⟩ (fun _ => s.roled.linkLost_calm)

/-! ### The handover that escalation asks for (R360) -/

/-- Escalation asks for no handover, or none may begin. -/
def State.NoEscalation (s : State) : Prop :=
  s.flt.handover = false ∨ servingMode s.mode = false ∨ s.flag COUCH.PAIR_CFG_EN = false ∨ s.couch.hand.isSome = true

theorem State.escHandover_none (h : s.NoEscalation) : s.escHandover.couch = s.couch ∧ ∀ f, s.escHandover.get f = s.get f := by
  unfold State.escHandover
  split
  · exact ⟨rfl, fun _ => rfl⟩
  · next due =>
    have no : ¬(servingMode s.mode && s.flag COUCH.PAIR_CFG_EN && s.couch.hand.isNone) = true := by
      rw [Bool.and_eq_true, Bool.and_eq_true]
      rintro ⟨⟨serves, en⟩, none'⟩
      obtain h | h | h | h := h
      · exact absurd h (by simpa using due)
      · exact absurd (serves.symm.trans h) (by decide)
      · exact absurd (en.symm.trans h) (by decide)
      · rw [Option.isNone_iff_eq_none] at none'
        rw [none'] at h
        exact absurd h (by decide)
    exact (if_neg no).symm ▸ ⟨rfl, fun _ => rfl⟩

/-- The fields of a handover that escalation may begin. -/
def handFields : List Fld := [COUCH.PAIR_STATUS_HANDOVER_PENDING, COUCH.HANDOVER_SHEET]

/-- Escalation changes at most the handover under way. -/
theorem State.escHandover_calm (s : State) : (∃ x, s.escHandover.couch = { s.couch with hand := x }) ∧
    ∀ f : Fld, (∀ d ∈ handFields, f.key ≠ d.key) → s.escHandover.get f = s.get f := by
  unfold State.escHandover
  split
  · exact ⟨⟨s.couch.hand, rfl⟩, fun _ _ => rfl⟩
  · dsimp only
    split
    · refine ⟨⟨_, rfl⟩, fun f hf => ?_⟩
      exact (State.get_put_other _ _ f _ (hf _ (by decide))).trans (State.get_put_other _ _ f _ (hf _ (by decide)))
    · exact ⟨⟨s.couch.hand, rfl⟩, fun _ _ => rfl⟩

/-! ### What every command runs -/

/-- The state in which the link is shown. -/
def State.beforeLink (s : State) : State := s.flushDue.reserveOver

theorem State.beforeLink_calm (s : State) : Calm l s s.beforeLink := (Calm.refl s).flushDue.reserveOver

theorem State.beforeLink_keeps (s : State) : Keeps [] s s.beforeLink := (Keeps.refl s).flushDue.reserveOver

theorem State.beforeLink_up (up : s.LanesUp) : s.beforeLink.LanesUp :=
  ⟨(s.beforeLink_keeps.flag _ (by decide)).trans up.1, (s.beforeLink_keeps.flag _ (by decide)).trans up.2⟩

theorem State.beforeLink_steady (h : s.SteadyLink) : s.beforeLink.SteadyLink := by
  have st : s.beforeLink.pairState = s.pairState := (State.beforeLink_calm (l := []) s).get _ (.inl (by decide)) (fun _ h => nomatch h)
  unfold State.SteadyLink
  rw [st, s.beforeLink_keeps.mode]
  exact h.imp id (fun h => h.imp State.beforeLink_up id)

/-- A field of the couch block reads the same after the link has been shown, and so after the command. -/
theorem State.settle_get {f : Fld} (awake : s.inReset = false) (lo : 60817408 ≤ f.key) (hi : f.key < 62914560) (hand : ∀ d ∈ handFields, f.key ≠ d.key)
    (shown : s.beforeLink.showPair.get f = s.beforeLink.get f) : s.settle.get f = s.get f := by
  obtain ⟨-, esc⟩ := s.beforeLink.showPair.escHandover_calm
  calc s.settle.get f
    _ = s.showLink.get f := (State.settle_calm (l := []) awake).get f (.inl ⟨lo, hi⟩) (fun _ h => nomatch h)
    _ = s.beforeLink.showPair.get f := esc f hand
    _ = s.beforeLink.get f := shown
    _ = s.get f := (State.beforeLink_calm (l := []) s).get f (.inl ⟨lo, hi⟩) (fun _ h => nomatch h)

/-- What follows a command leaves the state of the standby where the link is steady. -/
theorem State.settle_steady (awake : s.inReset = false) (h : s.SteadyLink) :
    s.settle.pairState = s.pairState ∧ s.settle.get COUCH.PAIR_STATUS_PROMOTABLE = s.get COUCH.PAIR_STATUS_PROMOTABLE ∧
      s.settle.get COUCH.LINK_LOSS_CNT = s.get COUCH.LINK_LOSS_CNT := by
  obtain ⟨_, _, _, k⟩ := State.showPair_steady (State.beforeLink_steady h)
  exact ⟨State.settle_get awake (by decide) (by decide) (by decide) (k.get _ (.inl (by decide)) (by decide)),
    State.settle_get awake (by decide) (by decide) (by decide) (k.get _ (.inl (by decide)) (by decide)),
    State.settle_get awake (by decide) (by decide) (by decide) (k.get _ (.inl (by decide)) (by decide))⟩

/-- With the lanes up they stay as they are. -/
theorem State.settle_up (awake : s.inReset = false) (up : s.LanesUp) :
    s.settle.couch.locked = s.couch.locked ∧
      s.settle.get COUCH.PAIR_STATUS_LINK = if s.get COUCH.PAIR_STATUS_LINK = 0 then 1 else s.get COUCH.PAIR_STATUS_LINK := by
  obtain ⟨k, link⟩ := State.showPair_up (State.beforeLink_up up)
  obtain ⟨⟨_, esc⟩, escGet⟩ := s.beforeLink.showPair.escHandover_calm
  have after : Calm [] s.showLink s.settle := State.settle_calm awake
  have before : Calm [] s s.beforeLink := s.beforeLink_calm
  refine ⟨?_, ?_⟩
  · calc s.settle.couch.locked
      _ = s.showLink.couch.locked := congrArg CouchSt.locked after.couch
      _ = s.beforeLink.showPair.couch.locked := by rw [show s.showLink.couch = _ from esc]
      _ = s.beforeLink.couch.locked := congrArg CouchSt.locked k.couch
      _ = s.couch.locked := congrArg CouchSt.locked before.couch
  · calc s.settle.get COUCH.PAIR_STATUS_LINK
      _ = s.showLink.get COUCH.PAIR_STATUS_LINK := after.get _ (.inl (by decide)) (fun _ h => nomatch h)
      _ = s.beforeLink.showPair.get COUCH.PAIR_STATUS_LINK := escGet _ (by decide)
      _ = _ := by rw [link, before.get _ (.inl (by decide)) (fun _ h => nomatch h)]

/-- Where escalation asks for no handover the one under way stays. -/
theorem State.settle_hand (awake : s.inReset = false) (h : s.NoEscalation) :
    s.settle.couch.hand = s.couch.hand ∧ (∀ f ∈ handFields, s.settle.get f = s.get f) := by
  obtain ⟨_, _, _, k⟩ := s.beforeLink.showPair_calm
  have kept : Keeps [] s s.beforeLink.showPair := s.beforeLink_keeps.showPair
  have before : Calm [] s s.beforeLink := s.beforeLink_calm
  have hand : s.beforeLink.showPair.couch.hand = s.couch.hand := by
    have same : s.beforeLink.couch.hand = s.couch.hand := congrArg CouchSt.hand before.couch
    rw [k.couch]
    exact same
  have quiet : s.beforeLink.showPair.NoEscalation := by
    unfold State.NoEscalation
    rw [k.esc, show State.flt { s.beforeLink with couch := _ } = s.beforeLink.flt from rfl, before.esc, kept.mode, kept.flag _ (by decide), hand]
    exact h
  obtain ⟨esc, escGet⟩ := State.escHandover_none quiet
  have after : Calm [] s.showLink s.settle := State.settle_calm awake
  refine ⟨(congrArg CouchSt.hand after.couch).trans ((congrArg CouchSt.hand esc).trans hand), fun f hf => ?_⟩
  obtain ⟨lo, hi, off⟩ : 60817408 ≤ f.key ∧ f.key < 62914560 ∧ ∀ d ∈ lossFields, f.key ≠ d.key := by
    revert f; decide
  calc s.settle.get f
    _ = s.showLink.get f := after.get f (.inl ⟨lo, hi⟩) (fun _ h => nomatch h)
    _ = s.beforeLink.showPair.get f := escGet f
    _ = s.beforeLink.get f := k.get f (.inl ⟨lo, hi⟩) off
    _ = s.get f := before.get f (.inl ⟨lo, hi⟩) (fun _ h => nomatch h)

end Sys2Proof.Machine
end

section
/-! Couch frames, and the checks of the link. -/

namespace Sys2Proof.Machine

variable {ps : List Part} {l : List Fld} {s t u : State} {c : CouchSt}

/-! ### What a command of the pair changes -/

/-- Of a state at most some parts and fields have changed, and its couch link is now `c`. -/
structure Coupled (ps : List Part) (l : List Fld) (c : CouchSt) (s t : State) : Prop where
  only : Only ps l s t
  calm : Calm l { s with couch := c } t

theorem Coupled.refl (s : State) : Coupled ps l s.couch s s := ⟨Only.refl s, Calm.refl s⟩

theorem Coupled.couch (h : Coupled ps l c s t) : t.couch = c := h.calm.couch

/-- A field of the couch block that is not named reads the same. -/
theorem Coupled.read (h : Coupled ps l c s t) (f : Fld) (lo : 60817408 ≤ f.key) (hi : f.key < 62914560) (off : ∀ d ∈ l, f.key ≠ d.key) :
    t.get f = s.get f := h.calm.get f (.inl ⟨lo, hi⟩) off

theorem Coupled.flag (h : Coupled ps l c s t) (f : Fld) (lo : 60817408 ≤ f.key) (hi : f.key < 62914560) (off : ∀ d ∈ l, f.key ≠ d.key) :
    t.flag f = s.flag f := by rw [State.flag, h.read f lo hi off]; rfl

/-- Bookkeeping that is calm. -/
theorem Coupled.tail (h : Coupled ps l c s t) (k : Keeps [] t u) (q : Calm l t u) : Coupled ps l c s u := ⟨h.only.trans k.only0, h.calm.trans q⟩

/-- The couch link may be set. -/
theorem Coupled.set (h : Coupled ps l c s t) (hp : ps.contains .couch = true) (x : CouchSt) : Coupled ps l x s { t with couch := x } :=
  ⟨h.only.set_couch hp x, h.calm.couchSet x⟩

theorem Coupled.update (h : Coupled ps l c s t) (hp : ps.contains .couch = true) (g : CouchSt → CouchSt) :
    Coupled ps l (g c) s { t with couch := g t.couch } := by
  rw [h.couch]
  exact h.set hp _

theorem Coupled.put (h : Coupled ps l c s t) (f : Fld) (v : Nat) (m : f ∈ l) : Coupled ps l c s (t.put f v) :=
  ⟨h.only.putK f v ⟨f, m, rfl⟩, h.calm.putOf f v m⟩

theorem Coupled.putB (h : Coupled ps l c s t) (f : Fld) (b : Bool) (m : f ∈ l) : Coupled ps l c s (t.putB f b) := h.put f _ m

theorem Coupled.inc (h : Coupled ps l c s t) (f : Fld) (m : f ∈ l) : Coupled ps l c s (t.inc f) :=
  ⟨h.only.incK f ⟨f, m, rfl⟩, h.calm.incOf f m⟩

theorem Coupled.charge0 (h : Coupled ps l c s t) (n : Nat) : Coupled ps l c s (t.charge0 n) := h.tail ((Keeps.refl t).charge0 n) ((Calm.refl t).charge0 n)

theorem Coupled.pay (h : Coupled ps l c s t) (k n : Nat) (hk : k < 8) : Coupled ps l c s (t.pay k n) :=
  h.tail ((Keeps.refl t).pay k n hk) ((Calm.refl t).pay k n hk)

theorem Coupled.pairEvent (h : Coupled ps l c s t) (o : Origin) (a b : Nat) (v : Int) (x y : Nat) : Coupled ps l c s (t.pairEvent o a b v x y) :=
  h.tail ((Keeps.refl t).pairEvent o a b v x y) ((Calm.refl t).pairEvent o a b v x y)

theorem Coupled.ite {p : Prop} [Decidable p] {a b : State} (ha : Coupled ps l c s a) (hb : Coupled ps l c s b) : Coupled ps l c s (if p then a else b) := by
  split
  · exact ha
  · exact hb

/-- The states of a standby that follow a change of its state. -/
def standbyFields : List Fld := [COUCH.PAIR_STATUS_STATE, COUCH.PAIR_STATUS_PROMOTABLE]

theorem Coupled.couchGo (h : Coupled ps l c s t) (n : Nat) (m : ∀ d ∈ standbyFields, d ∈ l) : Coupled ps l c s (t.couchGo n) := by
  have h1 := h.put COUCH.PAIR_STATUS_STATE n (m _ (by decide))
  exact Coupled.ite (h1.put _ _ (m _ (by decide))) (Coupled.ite (h1.put _ _ (m _ (by decide))) h1)

theorem Calm.advanceTo (h : Calm l s t) (n : Nat) : Calm l s (t.advanceTo n) := by
  have time {u : State} (k : Calm l s u) (x : TimeSt) : Calm l s { u with time := x } := ⟨k.couch, k.esc, k.get⟩
  have residual {u : State} (k : Calm l s u) (r : Int) : Calm l s (u.setResidual r) := time (k.put TIME.SLEW_RESID _ (by decide)) _
  have run {u : State} (k : Calm l s u) (a b : Nat) : Calm l s (u.runTo a b) := Calm.ite (time k _) (residual (time k _) _)
  have drop {u : State} (k : Calm l s u) : Calm l s u.dropSlew := ((time k _).put TIME.STEER _ (by decide)).putB TIME.TIME_STATUS_SLEWING _ (by decide)
  exact Calm.ite h (Calm.ite (run h _ _) (Calm.ite (run h _ _) (Calm.ite (drop (residual (run h _ _) _)) (run (drop (residual (run h _ _) _)) _ _))))

theorem Coupled.advanceTo (h : Coupled ps l c s t) (n : Nat) (hp : ps.contains .time = true) (m : ∀ d ∈ timeFields, d ∈ l) :
    Coupled ps l c s (t.advanceTo n) :=
  ⟨h.only.trans ((t.advanceTo_ran n).parts (by simpa using hp) (fun _ ⟨d, hd, e⟩ => ⟨d, m d hd, e⟩)), h.calm.trans ((Calm.refl t).advanceTo n)⟩

/-! ### The state of the standby -/

theorem State.couchGo_get (s : State) (n : Nat) (f : Fld) (off : ∀ d ∈ standbyFields, f.key ≠ d.key) : (s.couchGo n).get f = s.get f := by
  have put : (s.put COUCH.PAIR_STATUS_STATE n).get f = s.get f := State.get_put_other _ _ f _ (off _ (by decide))
  unfold State.couchGo
  dsimp only
  split
  · exact (State.get_put_other _ _ f _ (off _ (by decide))).trans put
  · split
    · exact (State.get_put_other _ _ f _ (off _ (by decide))).trans put
    · exact put

theorem State.couchGo_state (s : State) {n : Nat} (h : n < 8) : (s.couchGo n).pairState = n := by
  have put : (s.put COUCH.PAIR_STATUS_STATE n).pairState = n := State.get_put_fits _ _ _ h
  unfold State.couchGo
  dsimp only
  split
  · exact (State.get_put_other _ _ _ _ (by decide)).trans put
  · split
    · exact (State.get_put_other _ _ _ _ (by decide)).trans put
    · exact put

theorem State.couchGo_down (s : State) {n : Nat} (h : n = 1 ∨ n = 2) : (s.couchGo n).flag COUCH.PAIR_STATUS_PROMOTABLE = false := by
  unfold State.couchGo
  dsimp only
  rw [if_neg (by omega), if_pos h]
  exact State.flag_put_bit _ _ rfl false

/-! ### The lanes lock (R358) -/

/-- The fields of a lock of the lanes. -/
def lockFields : List Fld := [COUCH.PAIR_STATUS_STATE, COUCH.PAIR_STATUS_PROMOTABLE, COUCH.PAIR_STATUS_LINK]

/-- The couch link with its lanes locked. -/
def CouchSt.lockedNow (c : CouchSt) : CouchSt := { c with locked := true, flowing := false, dual := none }

/-- The lanes are locked and LINK shows it. -/
def State.lanesLock (s : State) : State := State.put { s with couch := s.couch.lockedNow } COUCH.PAIR_STATUS_LINK 2

theorem State.lanesLock_coupled (s : State) : Coupled [.couch] lockFields s.couch.lockedNow s s.lanesLock :=
  ((Coupled.refl s).set rfl _).put _ _ (by decide)

theorem runCouchBlockLock_eq (en : s.flag COUCH.PAIR_CFG_EN = true) (ref : s.flag COUCH.PAIR_STATUS_REF_BAD = false) (free : s.couch.locked = false) :
    runCouchBlockLock s =
      if s.mode = 5 ∧ (s.pairState = 0 ∨ s.pairState = 5 ∨ s.pairState = 6) then s.lanesLock.couchGo 1 else s.lanesLock := by
  have st : s.lanesLock.pairState = s.pairState := State.get_put_other _ _ _ _ (by decide)
  rw [← st]
  refine if_neg ?_
  rw [en, ref, free]
  decide

theorem couchBlockLock_locks (awake : s.inReset = false) (en : s.flag COUCH.PAIR_CFG_EN = true) (ref : s.flag COUCH.PAIR_STATUS_REF_BAD = false)
    (free : s.couch.locked = false) :
    ∃ t, exec .couchBlockLock s = .next t ∧ t.get COUCH.PAIR_STATUS_LINK = 2 ∧ t.couch.locked = true ∧
      (s.mode = 5 → s.pairState ∈ [0, 5, 6] → t.pairState = 1 ∧ t.flag COUCH.PAIR_STATUS_PROMOTABLE = false) ∧
      (s.mode ≠ 5 ∨ s.pairState ∈ [1, 2, 3, 4] → t.pairState = s.pairState) ∧
      Only [.couch] lockFields s t := by
  have lock := s.lanesLock_coupled
  have run := runCouchBlockLock_eq en ref free
  refine ⟨_, rfl, ?_⟩
  rw [State.awake_eq awake]
  have coupled : Coupled [.couch] lockFields s.couch.lockedNow s (runCouchBlockLock s) := by
    rw [run]
    exact Coupled.ite (lock.couchGo 1 (by decide)) lock
  have link : (runCouchBlockLock s).get COUCH.PAIR_STATUS_LINK = 2 := by
    have put : s.lanesLock.get COUCH.PAIR_STATUS_LINK = 2 := State.get_put_fits _ _ _ (by decide)
    rw [run]
    split
    · exact (State.couchGo_get _ _ _ (by decide)).trans put
    · exact put
  generalize hu : runCouchBlockLock s = u at coupled link run ⊢
  have awake' : u.inReset = false := (coupled.only.inReset rfl).trans awake
  have up : u.LanesUp := ⟨(coupled.flag _ (by decide) (by decide) (by decide)).trans en, (coupled.flag _ (by decide) (by decide) (by decide)).trans ref⟩
  obtain ⟨locked, link'⟩ := State.settle_up awake' up
  obtain ⟨state, promotable, -⟩ := State.settle_steady awake' (.inr (.inl up))
  refine ⟨?_, ?_, fun five st => ?_, fun h => ?_, coupled.only.settle⟩
  · rw [link', link]; rfl
  · rw [locked, coupled.couch]; rfl
  · simp only [List.mem_cons, List.not_mem_nil, or_false] at st
    rw [if_pos ⟨five, st⟩] at run
    rw [State.flag, promotable, state, run]
    exact ⟨State.couchGo_state _ (by decide), State.couchGo_down _ (.inl rfl)⟩
  · simp only [List.mem_cons, List.not_mem_nil, or_false] at h
    rw [if_neg (by omega)] at run
    rw [state, run]
    exact State.get_put_other _ _ _ _ (by decide)

/-! ### A frame comes in (R343, R344) -/

/-- The counter reaches the time of a frame, and the frame is counted. -/
def State.frameIn (s : State) (time : Nat) : State := (s.reachTime time).inc COUCH.FRAME_RX_CNT

/-- The fields of a frame's arrival. -/
def arrivalFields : List Fld := COUCH.FRAME_RX_CNT :: timeFields

theorem State.frameIn_coupled (s : State) (time : Nat) : Coupled [.time] arrivalFields s.couch s (s.frameIn time) :=
  ((Coupled.refl s).advanceTo _ rfl (by decide)).inc _ (by decide)

theorem State.frameIn_count (s : State) (time : Nat) :
    (s.frameIn time).get COUCH.FRAME_RX_CNT = min (s.get COUCH.FRAME_RX_CNT + 1) (2 ^ 48 - 1) := by
  have ran : (s.reachTime time).get COUCH.FRAME_RX_CNT = s.get COUCH.FRAME_RX_CNT := (s.advanceTo_ran _).read _ (by decide) (by decide)
  exact (State.incBy_get _ _ _ rfl (by decide)).trans (by rw [ran])

theorem Coupled.weaken {qs : List Part} {m : List Fld} (h : Coupled ps l c s t) (hp : ps.all (fun p => qs.contains p) = true) (hl : ∀ d ∈ l, d ∈ m) :
    Coupled qs m c s t := ⟨h.only.parts hp (fun _ ⟨d, hd, e⟩ => ⟨d, hl d hd, e⟩), h.calm.more hl⟩

/-- One change of the pair after another. -/
theorem Coupled.trans {d : CouchSt} (a : Coupled ps l c s t) (b : Coupled ps l d t u) : Coupled ps l d s u :=
  ⟨a.only.trans b.only, (a.calm.couchSet d).trans b.calm⟩

theorem Coupled.up (h : Coupled ps l c s t) (off : ∀ d ∈ l, COUCH.PAIR_CFG_EN.key ≠ d.key ∧ COUCH.PAIR_STATUS_REF_BAD.key ≠ d.key) (up : s.LanesUp) :
    t.LanesUp :=
  ⟨(h.flag _ (by decide) (by decide) (fun d m => (off d m).1)).trans up.1, (h.flag _ (by decide) (by decide) (fun d m => (off d m).2)).trans up.2⟩

/-! ### HELLO frames (R344, R358, R366) -/

/-- What a HELLO frame tells of the peer. -/
def CouchSt.heard (c : CouchSt) (h : CouchHead) (id time : Nat) : CouchSt :=
  { c with peerId := some id, peerPrio := bitOf h.state 0, peerMode := h.mode, rxLast := some (h.seq, time) }

/-- A standby that begins to fill. -/
def CouchSt.filling (c : CouchSt) : CouchSt := { c with fillWait := true, fillSeen := false, filled := 0, flowing := false, dual := none }

/-- A HELLO frame of the peer is taken. -/
def State.helloTaken (s : State) (h : CouchHead) (id time : Nat) : State :=
  State.put { s with couch := s.couch.heard h id time } COUCH.PEER_ENGINE_ID id

/-- The standby in LINKING begins to fill. -/
def State.fillBegins (s : State) : State :=
  { (s.couchGo 2).put COUCH.PAIR_STATUS_LINK 3 with couch := ((s.couchGo 2).put COUCH.PAIR_STATUS_LINK 3).couch.filling }

/-- The fields of a HELLO frame beside those of its arrival. -/
def helloFields : List Fld := [COUCH.PEER_ENGINE_ID, COUCH.PAIR_STATUS_STATE, COUCH.PAIR_STATUS_PROMOTABLE, COUCH.PAIR_STATUS_LINK]

theorem State.helloTaken_read (s : State) (h : CouchHead) (id time : Nat) (f : Fld) (off : f.key ≠ COUCH.PEER_ENGINE_ID.key) :
    (s.helloTaken h id time).get f = s.get f := State.get_put_other _ _ _ _ off

theorem State.helloTaken_id (s : State) (h : CouchHead) {id : Nat} (time : Nat) (fits : id < 2 ^ 64) :
    (s.helloTaken h id time).get COUCH.PEER_ENGINE_ID = id := State.get_put_fits _ _ _ fits

theorem State.fillBegins_coupled (v : State) : Coupled [.couch] helloFields v.couch.filling v v.fillBegins :=
  (((Coupled.refl v).couchGo 2 (by decide)).put COUCH.PAIR_STATUS_LINK 3 (by decide)).update rfl CouchSt.filling

theorem State.pairEvent_read (s : State) (o : Origin) (a b : Nat) (v : Int) (x y : Nat) (f : Fld) (lo : 60817408 ≤ f.key) (hi : f.key < 62914560) :
    (s.pairEvent o a b v x y).get f = s.get f :=
  ((Coupled.refl s (ps := []) (l := [])).pairEvent o a b v x y).read f lo hi (fun _ h => nomatch h)

theorem State.fillBegins_read (v : State) (f : Fld) (off : ∀ d ∈ lockFields, f.key ≠ d.key) : v.fillBegins.get f = v.get f :=
  (State.get_put_other _ _ _ _ (off _ (by decide))).trans (State.couchGo_get _ _ _ (fun d m => off d (by revert d; decide)))

/-- What a unit does with a HELLO frame that it has taken. -/
def State.helloNext (v : State) (prio : Bool) (id : Nat) : State :=
  if v.mode != 5 || v.pairState != 1 then v
  else if prio == v.flag COUCH.PAIR_CFG_PRIO then v.pairEvent .auto 0x0B02 0 (if prio then 1 else 0) 0 id
  else v.fillBegins.pairEvent .auto 0x0B01 0 id 0 id

theorem State.helloNext_coupled (v : State) (prio : Bool) (id : Nat) :
    ∃ c, Coupled [.couch] helloFields c v (v.helloNext prio id) ∧ c.peerId = v.couch.peerId ∧ c.peerPrio = v.couch.peerPrio ∧
      c.peerMode = v.couch.peerMode ∧ (v.helloNext prio id).get COUCH.PEER_ENGINE_ID = v.get COUCH.PEER_ENGINE_ID := by
  unfold State.helloNext
  split
  · exact ⟨_, Coupled.refl v, rfl, rfl, rfl, rfl⟩
  · split
    · exact ⟨_, (Coupled.refl v).pairEvent _ _ _ _ _ _, rfl, rfl, rfl, v.pairEvent_read _ _ _ _ _ _ _ (by decide) (by decide)⟩
    · exact ⟨_, v.fillBegins_coupled.pairEvent _ _ _ _ _ _, rfl, rfl, rfl,
        (State.pairEvent_read _ _ _ _ _ _ _ _ (by decide) (by decide)).trans (v.fillBegins_read _ (by decide))⟩

/-- A standby in LINKING with the other PRIO begins to fill. -/
theorem State.helloNext_fills {v : State} {prio : Bool} {id : Nat} (five : v.mode = 5) (linking : v.pairState = 1) (differ : prio ≠ v.flag COUCH.PAIR_CFG_PRIO) :
    (v.helloNext prio id).pairState = 2 ∧ (v.helloNext prio id).get COUCH.PAIR_STATUS_LINK = 3 := by
  unfold State.helloNext
  rw [five, linking, if_neg (by decide), if_neg (by simpa using differ)]
  refine ⟨(State.pairEvent_read _ _ _ _ _ _ _ _ (by decide) (by decide)).trans ?_, (State.pairEvent_read _ _ _ _ _ _ _ _ (by decide) (by decide)).trans ?_⟩
  · exact (State.get_put_other _ _ _ _ (by decide)).trans (State.couchGo_state v (by decide))
  · exact State.get_put_fits _ _ _ (by decide)

theorem State.helloNext_stays {v : State} {prio : Bool} {id : Nat} (stays : v.mode ≠ 5 ∨ v.pairState ≠ 1 ∨ prio = v.flag COUCH.PAIR_CFG_PRIO) :
    (v.helloNext prio id).pairState = v.pairState := by
  unfold State.helloNext
  split
  · rfl
  · next linking =>
    simp only [Bool.or_eq_true, bne_iff_ne, ne_eq, not_or, not_not] at linking
    obtain ⟨five, linking⟩ := linking
    obtain no | no | same := stays
    · exact absurd five no
    · exact absurd linking no
    · rw [if_pos (by simpa using same)]
      exact v.pairEvent_read _ _ _ _ _ _ _ (by decide) (by decide)

/-- What is read after a command that leaves the lanes up. -/
structure PairRead (u t : State) : Prop where
  kept : Keeps [] u t
  state : t.pairState = u.pairState
  link : t.get COUCH.PAIR_STATUS_LINK = if u.get COUCH.PAIR_STATUS_LINK = 0 then 1 else u.get COUCH.PAIR_STATUS_LINK

theorem State.settle_pairRead (awake : u.inReset = false) (up : u.LanesUp) : PairRead u u.settle :=
  ⟨(Keeps.refl u).settle, (State.settle_steady awake (.inr (.inl up))).1, (State.settle_up awake up).2⟩

theorem runHelloRx_eq {time : Nat} {seg b : List Byte} {h : CouchHead} (locked : s.couch.locked = true) (good : segOpen seg = some b)
    (head : CouchHead.ofBytes b = some h) (kind : h.kind = 0) (version : h.version = 1) (mode : h.mode ≠ 5) :
    runHelloRx time seg s =
      ((s.frameIn time).helloTaken h (leAt b 64 8) (time % 2 ^ 64)).helloNext (bitOf h.state 0) (leAt b 64 8) := by
  have taken : ¬(h.kind ≠ 0 ∨ h.version ≠ 1 ∨ h.mode = 5) := by omega
  unfold runHelloRx
  rw [locked]
  simp only [Bool.not_true, Bool.false_eq_true, if_false, good, head]
  rw [if_neg taken]
  rfl

theorem helloRx_tells {time : Nat} {seg b : List Byte} {h : CouchHead} (awake : s.inReset = false) (locked : s.couch.locked = true) (up : s.LanesUp)
    (good : segOpen seg = some b) (head : CouchHead.ofBytes b = some h) (kind : h.kind = 0) (version : h.version = 1) (mode : h.mode ≠ 5) :
    ∃ t, exec (.helloRx time seg) s = .next t ∧ t.get COUCH.FRAME_RX_CNT = min (s.get COUCH.FRAME_RX_CNT + 1) (2 ^ 48 - 1) ∧
      t.couch.peerId = some (leAt b 64 8) ∧ t.couch.peerPrio = bitOf h.state 0 ∧ t.couch.peerMode = h.mode ∧
      t.get COUCH.PEER_ENGINE_ID = leAt b 64 8 ∧
      (s.mode = 5 → s.pairState = 1 → bitOf h.state 0 ≠ s.flag COUCH.PAIR_CFG_PRIO → t.pairState = 2 ∧ t.get COUCH.PAIR_STATUS_LINK = 3) ∧
      (s.mode ≠ 5 ∨ s.pairState ≠ 1 ∨ bitOf h.state 0 = s.flag COUCH.PAIR_CFG_PRIO → t.pairState = s.pairState) ∧
      Only [.couch, .time] (helloFields ++ arrivalFields) s t := by
  have arrived := s.frameIn_coupled time
  obtain ⟨v, hv⟩ : ∃ v, v = (s.frameIn time).helloTaken h (leAt b 64 8) (time % 2 ^ 64) := ⟨_, rfl⟩
  have taken : Coupled [.couch] helloFields (s.couch.heard h (leAt b 64 8) (time % 2 ^ 64)) (s.frameIn time) v := by
    rw [hv, ← arrived.couch]
    exact ((Coupled.refl _).set rfl _).put _ _ (by decide)
  have modeV : v.mode = s.mode := (taken.only.mode rfl).trans (arrived.only.mode rfl)
  have idV : v.get COUCH.PEER_ENGINE_ID = leAt b 64 8 := hv ▸ State.helloTaken_id _ _ _ (leAt_lt b 64 8)
  have stateV : v.pairState = s.pairState := by
    rw [hv]
    exact (State.helloTaken_read _ _ _ _ COUCH.PAIR_STATUS_STATE (by decide)).trans (arrived.read _ (by decide) (by decide) (by decide))
  have prioV : v.flag COUCH.PAIR_CFG_PRIO = s.flag COUCH.PAIR_CFG_PRIO :=
    (taken.flag _ (by decide) (by decide) (by decide)).trans (arrived.flag _ (by decide) (by decide) (by decide))
  have run : runHelloRx time seg s = v.helloNext (bitOf h.state 0) (leAt b 64 8) := hv ▸ runHelloRx_eq locked good head kind version mode
  refine ⟨_, rfl, ?_⟩
  rw [State.awake_eq awake, run]
  obtain ⟨c, coupled, peerId, peerPrio, peerMode, engine⟩ := v.helloNext_coupled (bitOf h.state 0) (leAt b 64 8)
  rw [← modeV, ← stateV, ← prioV]
  have fills := State.helloNext_fills (v := v) (prio := bitOf h.state 0) (id := leAt b 64 8)
  have stays := State.helloNext_stays (v := v) (prio := bitOf h.state 0) (id := leAt b 64 8)
  generalize v.helloNext (bitOf h.state 0) (leAt b 64 8) = u at coupled engine fills stays ⊢
  have all : Coupled [.couch, .time] (helloFields ++ arrivalFields) c s u :=
    ((arrived.weaken rfl (by decide)).trans (taken.weaken rfl (by decide))).trans (coupled.weaken rfl (by decide))
  obtain ⟨kept, state, link⟩ := State.settle_pairRead ((all.only.inReset rfl).trans awake) (all.up (by decide) up)
  refine ⟨?_, ?_, ?_, ?_, ?_, fun five linking differ => ?_, fun same => ?_, all.only.settle⟩
  · rw [kept.read _ (by decide), coupled.read _ (by decide) (by decide) (by decide), taken.read _ (by decide) (by decide) (by decide), s.frameIn_count]
  · rw [kept.couch_peerId, coupled.couch, peerId, taken.couch]; rfl
  · rw [show u.settle.couch.peerPrio = u.couch.peerPrio from congrArg (fun c => c.couch.peerPrio) kept.core, coupled.couch, peerPrio, taken.couch]; rfl
  · rw [show u.settle.couch.peerMode = u.couch.peerMode from congrArg (fun c => c.couch.peerMode) kept.core, coupled.couch, peerMode, taken.couch]; rfl
  · rw [kept.read _ (by decide), engine, idV]
  · obtain ⟨two, three⟩ := fills five linking differ
    rw [state, two, link, three]
    exact ⟨rfl, rfl⟩
  · rw [state, stays same]

end Sys2Proof.Machine
end

section
/-! The link of the pair: frames from the active, losses, the heartbeat and conflicts. -/

namespace Sys2Proof.Machine

variable {ps : List Part} {l : List Fld} {s t u : State} {c : CouchSt}

/-! ### A serving peer (R365) -/

theorem Keeps.couch_foreign (h : Keeps l s t) : t.couch.foreign = s.couch.foreign := congrArg (fun c => c.couch.foreign) h.core

theorem State.couchSet_get (s : State) (c : CouchSt) (f : Fld) : State.get { s with couch := c } f = s.get f := rfl

/-- The couch link of a unit that has seen a FORWARD frame from its peer outside MIRROR. -/
def CouchSt.foreignSeen (c : CouchSt) (serving : Bool) : CouchSt := { c with foreign := c.foreign || serving }

theorem runForwardFrameRx_eq {time : Nat} {segs : List (List Byte)} (locked : s.couch.locked = true) :
    runForwardFrameRx time segs s =
      if (s.frameIn time).mode = 5 then (s.frameIn time).takeForward (time % 2 ^ 64) segs
      else { s.frameIn time with couch := (s.frameIn time).couch.foreignSeen (servingMode (s.frameIn time).mode) } := by
  unfold runForwardFrameRx
  rw [locked]
  exact if_neg (by decide)

theorem forwardFrameRx_foreign {time : Nat} {segs : List (List Byte)} (awake : s.inReset = false) (locked : s.couch.locked = true) (mode : s.mode ≠ 5) :
    ∃ t, exec (.forwardFrameRx time segs) s = .next t ∧ t.get COUCH.FRAME_RX_CNT = min (s.get COUCH.FRAME_RX_CNT + 1) (2 ^ 48 - 1) ∧
      t.couch.foreign = (s.couch.foreign || servingMode s.mode) ∧ Only [.couch, .time] arrivalFields s t := by
  have arrived : Coupled [.couch, .time] arrivalFields s.couch s (s.frameIn time) := (s.frameIn_coupled time).weaken rfl (fun _ m => m)
  have modeV : (s.frameIn time).mode = s.mode := arrived.only.mode rfl
  have count := s.frameIn_count time
  refine ⟨_, rfl, ?_⟩
  rw [State.awake_eq awake, runForwardFrameRx_eq locked, modeV, if_neg mode, arrived.couch]
  have coupled := arrived.set rfl (s.couch.foreignSeen (servingMode s.mode))
  have read : State.get { s.frameIn time with couch := s.couch.foreignSeen (servingMode s.mode) } COUCH.FRAME_RX_CNT =
      min (s.get COUCH.FRAME_RX_CNT + 1) (2 ^ 48 - 1) := (State.couchSet_get _ _ _).trans count
  generalize { s.frameIn time with couch := s.couch.foreignSeen (servingMode s.mode) } = u at coupled read ⊢
  have kept : Keeps [] u u.settle := (Keeps.refl u).settle
  refine ⟨(kept.read _ (by decide)).trans read, ?_, coupled.only.settle⟩
  rw [kept.couch_foreign, coupled.couch]
  rfl

/-! ### The link is lost (R358) -/

/-- A counter of the couch block counts up to its greatest value. -/
theorem State.inc_couch (s : State) (f : Fld) (w : f.width = 48) (lo : 60817408 ≤ f.key) (hi : f.key < 62914560) :
    (s.inc f).get f = min (s.get f + 1) (2 ^ 48 - 1) := by
  have hl := State.get_lt s f
  rw [w] at hl
  unfold State.inc State.incBy
  dsimp only
  split
  · omega
  · split
    · rw [State.get_put_fits _ _ _ (by rw [w]; omega)]; omega
    · have hb := blockOf_lt (f.key / 32)
      rw [(((Calm.refl (l := []) _).put GLB.GLB_CNT_OVF _ (by decide)).irqLevel (192 + blockOf (f.key / 32)) true (by omega)).get f (.inl ⟨lo, hi⟩)
        (fun _ h => nomatch h)]
      rw [State.get_put_fits _ _ _ (by rw [w]; omega)]; omega

/-- A frame need not name the fields that bookkeeping may write. -/
theorem Only.quiet {m : List Fld} (h : Only ps l s t) (q : ∀ d ∈ l, noisy d.key = true ∨ ∃ e ∈ m, d.key = e.key) : Only ps m s t := by
  refine ⟨fun f n off => h.get f n (fun d hd e => ?_), h.core, h.out⟩
  obtain loud | ⟨e', he, same⟩ := q d hd
  · rw [← e, n] at loud
    exact absurd loud (by decide)
  · exact off e' he (e.trans same)

theorem State.linkLost_down {u : State} (two : 2 ≤ u.pairState) (four : u.pairState ≤ 4) :
    u.linkLost.pairState = (if u.flag COUCH.PAIR_STATUS_HB_OK then 5 else 6) ∧
      (u.flag COUCH.PAIR_STATUS_HB_OK = true → u.linkLost.get COUCH.LINK_LOSS_CNT = min (u.get COUCH.LINK_LOSS_CNT + 1) (2 ^ 48 - 1)) := by
  obtain ⟨v, hv⟩ : ∃ v, v = State.put { u with couch := u.couch.linked false none none } COUCH.PAIR_STATUS_LINK 1 := ⟨_, rfl⟩
  have read (f : Fld) (h : f.key ≠ COUCH.PAIR_STATUS_LINK.key) : v.get f = u.get f := hv ▸ State.get_put_other _ _ _ _ h
  have flag : v.flag COUCH.PAIR_STATUS_HB_OK = u.flag COUCH.PAIR_STATUS_HB_OK := by rw [State.flag, read _ (by decide)]; rfl
  have run : u.linkLost = if v.flag COUCH.PAIR_STATUS_HB_OK then ((v.couchGo 5).inc COUCH.LINK_LOSS_CNT).pairEvent .auto 0x0B05 0 5 u.pairState 5
      else (v.couchGo 6).pairEvent .auto 0x0B06 0 6 u.pairState 6 := by
    rw [hv]
    exact if_neg (by omega)
  have count : ((v.couchGo 5).inc COUCH.LINK_LOSS_CNT).get COUCH.LINK_LOSS_CNT = min (u.get COUCH.LINK_LOSS_CNT + 1) (2 ^ 48 - 1) := by
    rw [State.inc_couch _ _ rfl (by decide) (by decide), State.couchGo_get _ _ _ (by decide), read _ (by decide)]
  have counted (f : Fld) (lo : 60817408 ≤ f.key) (hi : f.key < 62914560) (h : f.key ≠ COUCH.LINK_LOSS_CNT.key) :
      ((v.couchGo 5).inc COUCH.LINK_LOSS_CNT).get f = (v.couchGo 5).get f :=
    ((Calm.refl (l := [COUCH.LINK_LOSS_CNT]) _).incOf _ (by decide)).get f (.inl ⟨lo, hi⟩) (by simpa using h)
  rw [run, flag]
  split
  · refine ⟨?_, fun _ => (State.pairEvent_read _ _ _ _ _ _ _ _ (by decide) (by decide)).trans count⟩
    exact (State.pairEvent_read _ _ _ _ _ _ _ _ (by decide) (by decide)).trans ((counted _ (by decide) (by decide) (by decide)).trans
      (State.couchGo_state _ (by decide)))
  · next off =>
    exact ⟨(State.pairEvent_read _ _ _ _ _ _ _ _ (by decide) (by decide)).trans (State.couchGo_state _ (by decide)), fun on => absurd on off⟩

theorem couchLinkCheck_loses (awake : s.inReset = false) (missing : s.frameMissing = true) :
    ∃ t, exec .couchLinkCheck s = .next t ∧ t.couch.gotFwd = false ∧
      t.pairState = (if s.flag COUCH.PAIR_STATUS_HB_OK then 5 else 6) ∧
      (s.flag COUCH.PAIR_STATUS_HB_OK = true → t.get COUCH.LINK_LOSS_CNT = min (s.get COUCH.LINK_LOSS_CNT + 1) (2 ^ 48 - 1)) ∧
      Only [.couch, .time] ([COUCH.PAIR_STATUS_STATE, COUCH.PAIR_STATUS_LINK, COUCH.LINK_LOSS_CNT] ++ timeFields) s t := by
  have ran : Coupled [.couch, .time] timeFields s.couch s (s.atSheetTime (nsU 120000)) := (Coupled.refl s).advanceTo _ rfl (fun _ m => m)
  generalize hv : s.atSheetTime (nsU 120000) = v at ran
  obtain ⟨w, hw⟩ : ∃ w, w = { v with couch := { v.couch with gotFwd := false } } := ⟨_, rfl⟩
  have coupled : Coupled [.couch, .time] timeFields { s.couch with gotFwd := false } s w := hw ▸ ran.update rfl (fun c => { c with gotFwd := false })
  have modeV : v.mode = s.mode := ran.only.mode rfl
  have stateV : v.pairState = s.pairState := ran.read _ (by decide) (by decide) (by decide)
  have lost : v.frameMissing = true := by
    unfold State.frameMissing at missing ⊢
    rw [modeV, stateV, ran.couch]
    exact missing
  have run : runCouchLinkCheck s = w.linkLost := by
    rw [hw, runCouchLinkCheck, hv, State.linkCheck, lost]
    exact if_pos rfl
  have stateW : w.pairState = s.pairState := coupled.read _ (by decide) (by decide) (by decide)
  have okW : w.flag COUCH.PAIR_STATUS_HB_OK = s.flag COUCH.PAIR_STATUS_HB_OK := coupled.flag _ (by decide) (by decide) (by decide)
  have range : 2 ≤ w.pairState ∧ w.pairState ≤ 4 := by
    rw [stateW]
    simp only [State.frameMissing, Bool.and_eq_true, decide_eq_true_eq] at missing
    obtain ⟨⟨-, two⟩, four⟩ := missing
    exact ⟨two, four⟩
  obtain ⟨state, count⟩ := State.linkLost_down range.1 range.2
  have kept : Keeps [] w w.linkLost := (Keeps.refl w).linkLost
  have awakeU : w.linkLost.inReset = false := kept.inReset.trans ((coupled.only.inReset rfl).trans awake)
  have steady : w.linkLost.SteadyLink := by
    refine .inr (.inr (.inr ?_))
    rw [state]
    split <;> omega
  obtain ⟨state', -, count'⟩ := State.settle_steady awakeU steady
  refine ⟨_, rfl, ?_⟩
  rw [State.awake_eq awake, run]
  refine ⟨?_, ?_, fun ok => ?_, ?_⟩
  · rw [(kept.settle).couch_gotFwd, coupled.couch]
  · rw [state', state, okW]
  · rw [count', count (okW.trans ok), coupled.read _ (by decide) (by decide) (by decide)]
  · exact (coupled.only.tail (kept.more (fun _ h => nomatch h))).settle.parts rfl (fun k ⟨d, hd, e⟩ => ⟨d, List.mem_append_right _ hd, e⟩)

end Sys2Proof.Machine
end

section
/-! The content of couch frames: digests, FORWARD frames on a standby and RETURN frames. -/

namespace Sys2Proof.Machine

variable {ps : List Part} {l : List Fld} {s t u v : State} {c : CouchSt}

theorem Keeps.couch_fill (h : Keeps l s t) : t.couch.fill = s.couch.fill := congrArg (fun c => c.couch.fill) h.core
theorem Keeps.couch_peerMode (h : Keeps l s t) : t.couch.peerMode = s.couch.peerMode := congrArg (fun c => c.couch.peerMode) h.core

/-! ### Digests (R354) -/

/-- One digest of the peer is compared with the unit's own. -/
def State.judgeDigest (s : State) (f : Fld) (code own peer : Nat) : State :=
  if own != peer && !s.flag f then (s.putB f (own != peer)).pairEvent .auto code 0 peer own peer else s.putB f (own != peer)

/-- The peer's digests are shown. -/
def State.peerDigests (s : State) (cfg key : Nat) : State := (s.put COUCH.PEER_CFG_DIGEST cfg).put COUCH.PEER_KEY_DIGEST key

theorem State.compareDigests_eq (s : State) (cfg key : Nat) : s.compareDigests cfg key =
    ((s.peerDigests cfg key).judgeDigest COUCH.PAIR_STATUS_CFG_DIFFER 0x0B09 ((s.peerDigests cfg key).get COUCH.CFG_DIGEST) cfg).judgeDigest
      COUCH.PAIR_STATUS_KEY_DIFFER 0x0B0A
      (((s.peerDigests cfg key).judgeDigest COUCH.PAIR_STATUS_CFG_DIFFER 0x0B09 ((s.peerDigests cfg key).get COUCH.CFG_DIGEST) cfg).get COUCH.KEY_DIGEST) key :=
  rfl

theorem Coupled.judgeDigest (h : Coupled ps l c s t) (f : Fld) (code own peer : Nat) (m : f ∈ l) : Coupled ps l c s (t.judgeDigest f code own peer) := by
  have k := h.putB f (own != peer) m
  exact Coupled.ite (k.pairEvent _ _ _ _ _ _) k

/-- The fields of the peer's digests. -/
def digestFields : List Fld := [COUCH.PEER_CFG_DIGEST, COUCH.PEER_KEY_DIGEST, COUCH.PAIR_STATUS_CFG_DIFFER, COUCH.PAIR_STATUS_KEY_DIFFER]

theorem Coupled.compareDigests (h : Coupled ps l c s t) (cfg key : Nat) (m : ∀ d ∈ digestFields, d ∈ l) : Coupled ps l c s (t.compareDigests cfg key) := by
  rw [State.compareDigests_eq]
  exact (((h.put _ cfg (m _ (by decide))).put _ key (m _ (by decide))).judgeDigest _ _ _ _ (m _ (by decide))).judgeDigest _ _ _ _ (m _ (by decide))

theorem State.judged_read (s : State) (f : Fld) (code own peer : Nat) (g : Fld) (lo : 60817408 ≤ g.key) (hi : g.key < 62914560) (off : g.key ≠ f.key) :
    (s.judgeDigest f code own peer).get g = s.get g :=
  ((Coupled.refl s (ps := []) (l := [f])).judgeDigest f _ _ _ (by simp)).read g lo hi (by simpa using off)

theorem State.compareDigests_shown (s : State) {cfg key : Nat} (hc : cfg < 2 ^ 32) (hk : key < 2 ^ 32) :
    (s.compareDigests cfg key).get COUCH.PEER_CFG_DIGEST = cfg ∧ (s.compareDigests cfg key).get COUCH.PEER_KEY_DIGEST = key := by
  rw [State.compareDigests_eq, State.judged_read _ _ _ _ _ _ (by decide) (by decide) (by decide), State.judged_read _ _ _ _ _ _ (by decide) (by decide) (by decide),
    State.judged_read _ _ _ _ _ _ (by decide) (by decide) (by decide), State.judged_read _ _ _ _ _ _ (by decide) (by decide) (by decide)]
  exact ⟨(State.get_put_other _ _ _ _ (by decide)).trans (State.get_put_fits _ _ _ hc), State.get_put_fits _ _ _ hk⟩

/-! ### The rest of a FORWARD frame (R346 to R349, R353) -/

/-- The fields that the rest of a FORWARD frame may change, after its header. -/
def restFields : List Fld := [COUCH.FILL_KIB, COUCH.PAIR_STATUS_STATE, COUCH.PAIR_STATUS_PROMOTABLE, COUCH.PEER_THETA, COUCH.PEER_DELAY, VAT.RMW_CNT]

/-- The rest of a frame has been applied: what its header told stands. -/
structure Forwarded (s t : State) : Prop where
  only : Only [.couch, .ref, .vat] restFields s t
  gotFwd : t.couch.gotFwd = s.couch.gotFwd
  rxLast : t.couch.rxLast = s.couch.rxLast
  peerMode : t.couch.peerMode = s.couch.peerMode

theorem Forwarded.refl (s : State) : Forwarded s s := ⟨Only.refl s, rfl, rfl, rfl⟩

theorem Forwarded.trans (a : Forwarded s t) (b : Forwarded t u) : Forwarded s u :=
  ⟨a.only.trans b.only, b.gotFwd.trans a.gotFwd, b.rxLast.trans a.rxLast, b.peerMode.trans a.peerMode⟩

theorem Forwarded.of (k : Keeps [] s t) : Forwarded s t := ⟨k.only0, k.couch_gotFwd, k.couch_rxLast, k.couch_peerMode⟩

theorem Forwarded.tail (a : Forwarded s t) (k : Keeps [] t u) : Forwarded s u := a.trans (Forwarded.of k)

theorem Forwarded.put (a : Forwarded s t) (f : Fld) (x : Nat) (m : f ∈ restFields) : Forwarded s (t.put f x) :=
  ⟨a.only.putK f x ⟨f, m, rfl⟩, a.gotFwd, a.rxLast, a.peerMode⟩

theorem Forwarded.update (a : Forwarded s t) (x : CouchSt) (g : x.gotFwd = t.couch.gotFwd) (r : x.rxLast = t.couch.rxLast)
    (p : x.peerMode = t.couch.peerMode) : Forwarded s { t with couch := x } :=
  ⟨a.only.set_couch rfl x, g.trans a.gotFwd, r.trans a.rxLast, p.trans a.peerMode⟩

theorem Forwarded.refSet (a : Forwarded s t) (x : RefSt) : Forwarded s { t with ref := x } := ⟨a.only.set_ref rfl x, a.gotFwd, a.rxLast, a.peerMode⟩

theorem Forwarded.ite {p : Prop} [Decidable p] {x y : State} (hx : Forwarded s x) (hy : Forwarded s y) : Forwarded s (if p then x else y) := by
  split
  · exact hx
  · exact hy

theorem Forwarded.foldl {α : Type} (f : State → α → State) (step : ∀ x y, Forwarded x (f x y)) (xs : List α) (a : Forwarded s t) :
    Forwarded s (xs.foldl f t) := by
  induction xs generalizing t with
  | nil => exact a
  | cons y ys ih => exact ih (a.trans (step t y))

/-- A write of the vat leaves the couch link alone. -/
theorem Calm.vatWrite (h : Calm l s t) (m a : Nat) (b : List Byte) : Calm l s (t.vatWrite m a b).2 := by
  have base (x : Memory) (p : List Nat) (j : Nat) :
      Calm l s (({ t.vatCount a b.length with vat := x, vatc := { (t.vatCount a b.length).vatc with poison := p } } : State).incBy VAT.RMW_CNT j) := by
    have counted := h.vatCount a b.length
    have set : Calm l s { t.vatCount a b.length with vat := x, vatc := { (t.vatCount a b.length).vatc with poison := p } } :=
      ⟨counted.couch, counted.esc, counted.get⟩
    exact set.incBy VAT.RMW_CNT j (by decide)
  unfold State.vatWrite
  dsimp only
  split
  · exact h
  · split
    · exact h.vatDeny m a true
    · split
      · exact (base _ _ _).vatUncorr _ _
      · split
        · exact (base _ _ _).vatUncorr _ _
        · exact base _ _ _

theorem Forwarded.vatWrite (a : Forwarded s t) (m x : Nat) (b : List Byte) : Forwarded s (t.vatWrite m x b).2 := by
  have same : (t.vatWrite m x b).2.couch = t.couch := ((Calm.refl (l := []) t).vatWrite m x b).couch
  refine a.trans ⟨(t.vatWrite_wrote m x b).1.parts rfl ?_, by rw [same], by rw [same], by rw [same]⟩
  rintro k ⟨d, hd, e⟩
  rw [List.mem_singleton] at hd
  exact ⟨d, hd ▸ (by decide), e⟩

theorem Forwarded.mapSet (a : Forwarded s t) (n : Nat) (b : Bool) : Forwarded s (t.mapSet n b) := by
  have mended : Forwarded s t.mendMap := by
    unfold State.mendMap
    exact Forwarded.foldl _ (fun x y => ((Forwarded.refl x).tail ((Keeps.refl x).vatUncorr _ _)).vatWrite _ _ _) _ a
  exact mended.vatWrite _ _ _

theorem Forwarded.copyRec (a : Forwarded s t) (n : Nat) (b : List Byte) : Forwarded s (t.copyRec n b) := (a.vatWrite _ _ _).mapSet _ _

theorem Forwarded.applyEntry (q : Nat × State) (e : CouchEntry) : Forwarded q.2 (State.applyEntry q e).2 := by
  have charged (n : Nat) : Forwarded q.2 (q.2.charge0 n) := Forwarded.of ((Keeps.refl q.2).charge0 n)
  unfold State.applyEntry
  dsimp only
  split
  · exact (charged 40).copyRec _ _
  · split
    · exact (charged 40).vatWrite _ _ _
    · split
      · exact Forwarded.foldl _ (fun x y => (Forwarded.refl x).mapSet _ _) _
          ((Forwarded.of ((Keeps.refl q.2).pay 4 300 (by decide))).vatWrite _ _ _)
      · exact Forwarded.refl _

theorem Forwarded.applyEntries (es : List CouchEntry) (q : Nat × State) : Forwarded q.2 (es.foldl State.applyEntry q).2 := by
  induction es generalizing q with
  | nil => exact Forwarded.refl _
  | cons e es ih => exact (Forwarded.applyEntry q e).trans (ih _)

theorem Forwarded.askFill (a : Forwarded s t) : Forwarded s t.askFill := a.update _ rfl rfl rfl

theorem Forwarded.couchGo (a : Forwarded s t) (n : Nat) : Forwarded s (t.couchGo n) := by
  have h := a.put COUCH.PAIR_STATUS_STATE n (by decide)
  exact Forwarded.ite (h.put _ _ (by decide)) (Forwarded.ite (h.put _ _ (by decide)) h)

theorem Forwarded.goEvent (a : Forwarded s t) (n : Nat) (o : Origin) (x y : Nat) (z : Int) (p q : Nat) :
    Forwarded s ((t.couchGo n).pairEvent o x y z p q) := (a.couchGo n).tail ((Keeps.refl _).pairEvent _ _ _ _ _ _)

theorem Forwarded.degrade (a : Forwarded s t) : Forwarded s t.degrade := Forwarded.ite (a.goEvent _ _ _ _ _ _ _) a

theorem Forwarded.afterForward (a : Forwarded s t) (bad : Bool) : Forwarded s (t.afterForward bad) := by
  unfold State.afterForward
  dsimp only
  have asked : Forwarded s (if (bad && decide (2 ≤ t.pairState) && decide (t.pairState ≤ 4)) = true then t.askFill else t) := Forwarded.ite a.askFill a
  generalize (if (bad && decide (2 ≤ t.pairState) && decide (t.pairState ≤ 4)) = true then t.askFill else t) = x at asked ⊢
  exact Forwarded.ite (Forwarded.ite asked (Forwarded.ite (asked.goEvent _ _ _ _ _ _ _) (asked.goEvent _ _ _ _ _ _ _)))
    (Forwarded.ite (Forwarded.ite asked asked.degrade) (Forwarded.ite (Forwarded.ite (asked.goEvent _ _ _ _ _ _ _) asked) asked))

theorem Forwarded.couchPhase (a : Forwarded s t) (h : CouchHead) (x : Timing) (time : Nat) : Forwarded s (t.couchPhase h x time) := by
  have told (y : State) (k : Forwarded s y) (p : Option (Nat × Nat × Nat)) : Forwarded s { y with couch := { y.couch with fwdLast := p } } :=
    k.update _ rfl rfl rfl
  unfold State.couchPhase
  dsimp only
  apply told
  split
  · refine Forwarded.ite a (Forwarded.refSet ?_ _)
    exact (Forwarded.put (a.tail ((Keeps.refl t).charge0 30)) COUCH.PEER_THETA _ (by decide)).put _ _ (by decide)
  · exact a

theorem Forwarded.ended (a : Forwarded s t) (fill : Bool) :
    Forwarded s (if fill then { t with couch := { t.couch with fillSeen := true } }
      else if t.couch.fillSeen then { t with couch := { t.couch with fillWait := false } } else t) := by
  split
  · exact a.update _ rfl rfl rfl
  · split
    · exact a.update _ rfl rfl rfl
    · exact a

theorem Forwarded.begun (a : Forwarded s t) (fill : Bool) :
    Forwarded s (if fill && !t.couch.fillSeen then { t with couch := { t.couch with filled := 0 } } else t) := by
  split
  · exact a.update _ rfl rfl rfl
  · exact a

/-! ### The header of a FORWARD frame (R344, R349, R360) -/

/-- The couch link of a standby that sees a FORWARD frame. -/
def CouchSt.sees (c : CouchSt) : CouchSt := { c with flowing := true, gotFwd := true, firstReturn := some (c.firstReturn.getD false) }

/-- The couch link of a standby that has taken the header of a FORWARD frame. -/
def CouchSt.told (c : CouchSt) (h : CouchHead) (time : Nat) (dual : Option DualSection) (bad : Bool) : CouchSt :=
  { c with
    rxLast := some (h.seq, time), peerMode := h.mode, dual := dual
    offer := if bitOf h.flags 2 then some (h.mode, h.handTai, h.dwell) else none
    final := if bitOf h.flags 2 && bitOf h.flags 3 && !bad then some (h.mode, h.handTai, h.dwell) else none }

/-- The fields of the header of a FORWARD frame. -/
def headFields : List Fld := COUCH.SEG_BAD_CNT :: COUCH.PAIR_STATUS_LAG :: digestFields

/-- The header of a FORWARD frame and the digests in it have been taken. -/
structure HeadTaken (v t : State) (h : CouchHead) (x : Timing) (time : Nat) : Prop where
  only : Only [.couch, .ref, .vat] (headFields ++ restFields) v t
  gotFwd : t.couch.gotFwd = true
  rxLast : t.couch.rxLast = some (h.seq, time)
  peerMode : t.couch.peerMode = h.mode
  count : t.get COUCH.FRAME_RX_CNT = v.get COUCH.FRAME_RX_CNT
  lag : t.flag COUCH.PAIR_STATUS_LAG = bitOf h.flags 0
  cfg : t.get COUCH.PEER_CFG_DIGEST = x.cfg
  key : t.get COUCH.PEER_KEY_DIGEST = x.key

theorem HeadTaken.rest {h : CouchHead} {x : Timing} {time : Nat} (a : HeadTaken s t h x time) (f : Forwarded t u) : HeadTaken s u h x time where
  only := a.only.trans (f.only.parts rfl (fun _ ⟨d, hd, e⟩ => ⟨d, List.mem_append_right _ hd, e⟩))
  gotFwd := f.gotFwd.trans a.gotFwd
  rxLast := f.rxLast.trans a.rxLast
  peerMode := f.peerMode.trans a.peerMode
  count := (f.only.read _ (by decide) (by decide)).trans a.count
  lag := by rw [State.flag, f.only.read _ (by decide) (by decide)]; exact a.lag
  cfg := (f.only.read _ (by decide) (by decide)).trans a.cfg
  key := (f.only.read _ (by decide) (by decide)).trans a.key

/-- A header is taken in a state that has seen its frame. -/
theorem HeadTaken.of {h : CouchHead} {b : List Byte} {time : Nat} {dual : Option DualSection} {bad : Bool}
    (told : Coupled [.couch] headFields (c.sees.told h time dual bad) s u) :
    HeadTaken s ((u.putB COUCH.PAIR_STATUS_LAG (bitOf h.flags 0)).compareDigests (Timing.ofBytes b).cfg (Timing.ofBytes b).key) h (Timing.ofBytes b) time := by
  have put := told.putB COUCH.PAIR_STATUS_LAG (bitOf h.flags 0) (by decide)
  have lag : (u.putB COUCH.PAIR_STATUS_LAG (bitOf h.flags 0)).flag COUCH.PAIR_STATUS_LAG = bitOf h.flags 0 := State.flag_putB _ _ _ rfl
  generalize u.putB COUCH.PAIR_STATUS_LAG (bitOf h.flags 0) = w at put lag ⊢
  have all := put.compareDigests (Timing.ofBytes b).cfg (Timing.ofBytes b).key (by decide)
  have kept := ((Coupled.refl w (ps := []) (l := digestFields)).compareDigests (Timing.ofBytes b).cfg (Timing.ofBytes b).key (fun _ m => m)).flag
    COUCH.PAIR_STATUS_LAG (by decide) (by decide) (by decide)
  obtain ⟨cfg, key⟩ := w.compareDigests_shown (leAt_lt b 0x2C 4) (leAt_lt b 0x38 4)
  refine ⟨all.only.parts rfl (fun k ⟨d, hd, e⟩ => ⟨d, List.mem_append_left _ hd, e⟩), ?_, ?_, ?_, all.read _ (by decide) (by decide) (by decide),
    kept.trans lag, cfg, key⟩
  · rw [all.couch]; rfl
  · rw [all.couch]; rfl
  · rw [all.couch]; rfl

theorem State.takeForward_taken (s : State) {time : Nat} {segs rest : List (List Byte)} {b : List Byte} {h : CouchHead} (good : (goodSegs segs).1 = b :: rest)
    (head : CouchHead.ofBytes b = some h) (kind : h.kind = 1) (version : h.version = 1) :
    HeadTaken s (s.takeForward time segs) h (Timing.ofBytes (b.drop 64)) time := by
  unfold State.takeForward
  extract_lets _ s1 g s2
  have seen : Coupled [.couch] headFields s.couch.sees s s2 :=
    have set : Coupled [.couch] headFields s.couch.sees s s1 := (Coupled.refl s).set rfl _
    Coupled.ite (set.inc _ (by decide)) set
  clear_value s2
  split
  · next none => exact absurd (none.symm.trans good) (by simp)
  next b' rest' some =>
  obtain ⟨rfl, rfl⟩ := List.cons.inj (some.symm.trans good)
  rw [head]
  dsimp -zeta only
  rw [if_neg (by omega)]
  extract_lets x es toldS phasedS _ begunS r _ _ sumS kibS fill
  have told : Coupled [.couch] headFields (s.couch.sees.told h time (dualOf h x es) g.2) s toldS :=
    (seen.charge0 1200).update rfl (fun c => c.told h time (dualOf h x es) g.2)
  have taken := HeadTaken.of (b := b'.drop 64) told
  have phased := (Forwarded.refl _).couchPhase h x time (t := (toldS.putB COUCH.PAIR_STATUS_LAG (bitOf h.flags 0)).compareDigests x.cfg x.key)
  have applied := (phased.begun (bitOf h.flags 1)).trans (Forwarded.applyEntries ((es.dropWhile (fun e => e.type != 5)).drop 1) (0, begunS))
  have filled : Forwarded _ kibS := (applied.update { r.2.couch with filled := r.2.couch.filled + r.1 } rfl rfl rfl).put COUCH.FILL_KIB
    (satN 20 (sumS.couch.filled / 1024)) (by decide)
  exact taken.rest ((filled.ended fill).afterForward g.2)

theorem forwardFrameRx_taken {time : Nat} {segs : List (List Byte)} {b : List Byte} {h : CouchHead} (awake : s.inReset = false)
    (locked : s.couch.locked = true) (mode : s.mode = 5) (good : (goodSegs segs).1.head? = some b) (head : CouchHead.ofBytes b = some h)
    (kind : h.kind = 1) (version : h.version = 1) :
    ∃ t, exec (.forwardFrameRx time segs) s = .next t ∧ t.get COUCH.FRAME_RX_CNT = min (s.get COUCH.FRAME_RX_CNT + 1) (2 ^ 48 - 1) ∧
      t.couch.gotFwd = true ∧ t.couch.rxLast = some (h.seq, time % 2 ^ 64) ∧ t.couch.peerMode = h.mode ∧
      t.flag COUCH.PAIR_STATUS_LAG = bitOf h.flags 0 ∧
      t.get COUCH.PEER_CFG_DIGEST = (Timing.ofBytes (b.drop 64)).cfg ∧ t.get COUCH.PEER_KEY_DIGEST = (Timing.ofBytes (b.drop 64)).key ∧
      Only [.couch, .time, .ref, .vat] (arrivalFields ++ (headFields ++ restFields)) s t := by
  obtain ⟨rest, good⟩ : ∃ rest, (goodSegs segs).1 = b :: rest := List.head?_eq_some_iff.mp good
  have arrived := s.frameIn_coupled time
  have five : (s.frameIn time).mode = 5 := (arrived.only.mode rfl).trans mode
  refine ⟨_, rfl, ?_⟩
  rw [State.awake_eq awake, runForwardFrameRx_eq locked, if_pos five]
  have taken := (s.frameIn time).takeForward_taken (time := time % 2 ^ 64) good head kind version
  generalize (s.frameIn time).takeForward (time % 2 ^ 64) segs = u at taken ⊢
  have kept : Keeps [] u u.settle := (Keeps.refl u).settle
  refine ⟨?_, ?_, ?_, ?_, ?_, ?_, ?_, ?_⟩
  · rw [kept.read _ (by decide), taken.count, s.frameIn_count]
  · rw [kept.couch_gotFwd, taken.gotFwd]
  · rw [kept.couch_rxLast, taken.rxLast]
  · rw [kept.couch_peerMode, taken.peerMode]
  · rw [kept.flag _ (by decide), taken.lag]
  · rw [kept.read _ (by decide), taken.cfg]
  · rw [kept.read _ (by decide), taken.key]
  · have first : Only [.couch, .time, .ref, .vat] (arrivalFields ++ (headFields ++ restFields)) s (s.frameIn time) :=
      arrived.only.parts rfl (fun k ⟨d, hd, e⟩ => ⟨d, List.mem_append_left _ hd, e⟩)
    exact (first.trans (taken.only.parts rfl (fun k ⟨d, hd, e⟩ => ⟨d, List.mem_append_right _ hd, e⟩))).settle

end Sys2Proof.Machine
end

section
/-! RETURN frames, the heartbeat, conflicts, and the events of the pair together. -/

namespace Sys2Proof.Machine

variable {ps : List Part} {l : List Fld} {s t u v : State} {c : CouchSt}

/-! ### RETURN frames (R344, R348, R353, R358) -/

theorem State.startFill_fill {a b : State} (h : ∀ i < 2, a.get (stateFld i) = b.get (stateFld i)) : a.startFill.couch.fill = b.startFill.couch.fill := by
  have same : ∀ i ∈ List.range 2, (if a.get (stateFld i) = 0 then none else some (bufAddr i, 0x800000)) =
      (if b.get (stateFld i) = 0 then none else some (bufAddr i, 0x800000)) := fun i hi => by rw [h i (List.mem_range.mp hi)]
  exact congrArg (fun m => (0, 0x4000000) :: (0x7000000, 0x800000) :: m) (List.filterMap_congr same)

/-- The fields of a RETURN frame. -/
def returnFields : List Fld := COUCH.PAIR_STATUS_STATE :: COUCH.PAIR_STATUS_LINK :: digestFields

/-- A RETURN frame has been taken by a unit outside MIRROR. -/
structure ReturnTaken (v t : State) (h : CouchHead) (b : List Byte) : Prop where
  only : Only [.couch] returnFields v t
  state : t.pairState = h.state % 8
  link : t.get COUCH.PAIR_STATUS_LINK = if 2 ≤ h.state ∧ h.state ≤ 4 then 3 else 2
  cfg : t.get COUCH.PEER_CFG_DIGEST = leAt b 0x48 4
  key : t.get COUCH.PEER_KEY_DIGEST = leAt b 0x4C 4

theorem ReturnTaken.couchSet {h : CouchHead} {b : List Byte} (a : ReturnTaken v t h b) (x : CouchSt) : ReturnTaken v { t with couch := x } h b :=
  ⟨a.only.set_couch rfl x, a.state, a.link, a.cfg, a.key⟩

/-- The standby accepts a handover, where its frame says so. -/
def State.returnHand (s : State) (accepts : Bool) : State :=
  match s.couch.hand with
  | some x => if accepts then { s with couch := { s.couch with hand := some { x with accepted := true } } } else s
  | none => s

theorem ReturnTaken.hand {h : CouchHead} {b : List Byte} (a : ReturnTaken v t h b) (accepts : Bool) : ReturnTaken v (t.returnHand accepts) h b := by
  unfold State.returnHand
  split
  · split
    · exact a.couchSet _
    · exact a
  · exact a

theorem ReturnTaken.of {h : CouchHead} {b : List Byte} (told : Coupled [.couch] returnFields c v u) :
    ReturnTaken v (((u.put COUCH.PAIR_STATUS_STATE h.state).put COUCH.PAIR_STATUS_LINK
      (if (decide (2 ≤ h.state) && decide (h.state ≤ 4)) = true then 3 else 2)).compareDigests (leAt b 0x48 4) (leAt b 0x4C 4)) h b := by
  have put := (told.put COUCH.PAIR_STATUS_STATE h.state (by decide)).put COUCH.PAIR_STATUS_LINK
    (if (decide (2 ≤ h.state) && decide (h.state ≤ 4)) = true then 3 else 2) (by decide)
  have state : ((u.put COUCH.PAIR_STATUS_STATE h.state).put COUCH.PAIR_STATUS_LINK
      (if (decide (2 ≤ h.state) && decide (h.state ≤ 4)) = true then 3 else 2)).pairState = h.state % 8 :=
    (State.get_put_other _ _ _ _ (by decide)).trans (State.get_put_same _ _ _)
  have link : ((u.put COUCH.PAIR_STATUS_STATE h.state).put COUCH.PAIR_STATUS_LINK
      (if (decide (2 ≤ h.state) && decide (h.state ≤ 4)) = true then 3 else 2)).get COUCH.PAIR_STATUS_LINK =
      if 2 ≤ h.state ∧ h.state ≤ 4 then 3 else 2 := by
    rw [State.get_put_fits _ _ _ (by split <;> decide)]
    simp only [Bool.and_eq_true, decide_eq_true_eq]
  generalize ((u.put COUCH.PAIR_STATUS_STATE h.state).put COUCH.PAIR_STATUS_LINK
    (if (decide (2 ≤ h.state) && decide (h.state ≤ 4)) = true then 3 else 2)) = w at put state link ⊢
  have judged := (Coupled.refl w (ps := []) (l := digestFields)).compareDigests (leAt b 0x48 4) (leAt b 0x4C 4) (fun _ m => m)
  obtain ⟨cfg, key⟩ := w.compareDigests_shown (leAt_lt b 0x48 4) (leAt_lt b 0x4C 4)
  exact ⟨(put.compareDigests _ _ (by decide)).only, (judged.read _ (by decide) (by decide) (by decide)).trans state,
    (judged.read _ (by decide) (by decide) (by decide)).trans link, cfg, key⟩

/-- What a unit does with the rest of a RETURN frame: a fill may begin, and one ends where the link is not up. -/
def State.returnEnd (s : State) (h : CouchHead) (was : Nat) : State :=
  let s := if bitOf h.flags 4 then s.startFill.inc COUCH.RESYNC_CNT
    else if h.state = 2 ∧ was ≠ 2 then s.startFill else s
  if decide (2 ≤ h.state) && decide (h.state ≤ 4) then s else { s with couch := { s.couch with fill := [] } }

theorem ReturnTaken.ending {h : CouchHead} {b : List Byte} (a : ReturnTaken v t h b) (flags : bitOf h.flags 4 = false)
    (sheet : ∀ i < 2, v.get (stateFld i) = s.get (stateFld i)) (was : Nat) : ReturnTaken v (t.returnEnd h was) h b ∧
      (h.state = 2 → was ≠ 2 → (t.returnEnd h was).couch.fill = s.startFill.couch.fill) := by
  have same : ∀ i < 2, t.get (stateFld i) = s.get (stateFld i) := fun i hi => by
    rw [← sheet i hi]
    unfold stateFld
    split <;> exact a.only.read _ (by decide) (by decide)
  unfold State.returnEnd
  dsimp only
  rw [flags, if_neg Bool.false_ne_true]
  by_cases begins : h.state = 2 ∧ was ≠ 2
  · have served : (decide (2 ≤ h.state) && decide (h.state ≤ 4)) = true := by rw [begins.1]; rfl
    rw [if_pos begins, if_pos served]
    exact ⟨a.couchSet _, fun _ _ => State.startFill_fill same⟩
  · rw [if_neg begins]
    refine ⟨?_, fun two differ => absurd ⟨two, differ⟩ begins⟩
    split
    · exact a
    · exact a.couchSet _

theorem returnFrameRx_takes {time : Nat} {seg b : List Byte} {h : CouchHead} (locked : s.couch.locked = true) (mode : s.mode ≠ 5)
    (good : segOpen seg = some b) (head : CouchHead.ofBytes b = some h) (kind : h.kind = 2) (version : h.version = 1) (flags : bitOf h.flags 4 = false) :
    ReturnTaken (s.frameIn time) (runReturnFrameRx time seg s) h b ∧
      (h.state = 2 → (s.frameIn time).pairState ≠ 2 → (runReturnFrameRx time seg s).couch.fill = s.startFill.couch.fill) := by
  have arrived := s.frameIn_coupled time
  have modeV : (s.frameIn time).mode ≠ 5 := fun five => mode ((arrived.only.mode rfl).symm.trans five)
  have sheet : ∀ i < 2, (s.frameIn time).get (stateFld i) = s.get (stateFld i) := fun i _ => by
    unfold stateFld
    split <;> exact arrived.only.read _ (by decide) (by decide)
  obtain ⟨r, run⟩ : ∃ r, r = runReturnFrameRx time seg s := ⟨_, rfl⟩
  rw [← run]
  unfold runReturnFrameRx at run
  generalize time % 2 ^ 64 = stamp at run
  rw [locked, if_neg (by decide)] at run
  extract_lets -underBinder +onlyGivenNames v' at run
  obtain ⟨v, isV⟩ : ∃ v, v = v' := ⟨_, rfl⟩
  have same : s.frameIn time = v := isV.symm
  rw [← isV] at run
  rw [same] at modeV sheet ⊢
  extract_lets -underBinder +onlyGivenNames c0 seenS at run
  have seen : Coupled [.couch] [] { v.couch with firstReturn := some (v.couch.firstReturn.getD true) } v seenS := (Coupled.refl v).set rfl _
  rw [good] at run
  dsimp -zeta only at run
  rw [head] at run
  dsimp -zeta only at run
  rw [if_neg (by omega)] at run
  extract_lets -underBinder +onlyGivenNames c1 toldS was up putS judgedS' at run
  have told : Coupled [.couch] [] _ v toldS := seen.set rfl { seenS.couch with rxLast := some (h.seq, stamp) }
  have modeT : toldS.mode ≠ 5 := fun five => modeV ((told.only.mode rfl).symm.trans five)
  rw [if_neg modeT] at run
  have taken : ReturnTaken v judgedS' h b := ReturnTaken.of ((told.charge0 100).weaken rfl (by decide))
  have stateT : was = v.pairState := told.read COUCH.PAIR_STATUS_STATE (by decide) (by decide) (by decide)
  obtain ⟨judgedS, isJ⟩ : ∃ x, x = judgedS' := ⟨_, rfl⟩
  rw [← isJ] at run taken
  extract_lets -underBinder +onlyGivenNames handS at run
  have handT : ReturnTaken v handS h b := taken.hand (bitOf h.flags 3)
  have ended : r = handS.returnEnd h was := run
  rw [ended, ← stateT]
  exact handT.ending flags sheet was

theorem returnFrameRx_taken {time : Nat} {seg b : List Byte} {h : CouchHead} (awake : s.inReset = false) (locked : s.couch.locked = true)
    (mode : s.mode ≠ 5) (up : s.LanesUp) (good : segOpen seg = some b) (head : CouchHead.ofBytes b = some h) (kind : h.kind = 2)
    (version : h.version = 1) (flags : bitOf h.flags 4 = false) :
    ∃ t, exec (.returnFrameRx time seg) s = .next t ∧ t.get COUCH.FRAME_RX_CNT = min (s.get COUCH.FRAME_RX_CNT + 1) (2 ^ 48 - 1) ∧
      t.pairState = h.state % 8 ∧ t.get COUCH.PAIR_STATUS_LINK = (if 2 ≤ h.state ∧ h.state ≤ 4 then 3 else 2) ∧
      t.get COUCH.PEER_CFG_DIGEST = leAt b 0x48 4 ∧ t.get COUCH.PEER_KEY_DIGEST = leAt b 0x4C 4 ∧
      (h.state = 2 → s.pairState ≠ 2 → t.couch.fill = s.startFill.couch.fill) ∧
      Only [.couch, .time] (arrivalFields ++ returnFields) s t := by
  have arrived := s.frameIn_coupled time
  obtain ⟨taken, fill⟩ := returnFrameRx_takes (time := time) locked mode good head kind version flags
  have was : (s.frameIn time).pairState = s.pairState := arrived.read _ (by decide) (by decide) (by decide)
  have count := s.frameIn_count time
  rw [was] at fill
  have upV : (s.frameIn time).LanesUp := arrived.up (by decide) up
  refine ⟨_, rfl, ?_⟩
  rw [State.awake_eq awake]
  generalize s.frameIn time = v at arrived taken count upV
  generalize runReturnFrameRx time seg s = u at taken fill ⊢
  have all : Only [.couch, .time] (arrivalFields ++ returnFields) s u :=
    (arrived.only.parts rfl (fun k ⟨d, hd, e⟩ => ⟨d, List.mem_append_left _ hd, e⟩)).trans
      (taken.only.parts rfl (fun k ⟨d, hd, e⟩ => ⟨d, List.mem_append_right _ hd, e⟩))
  have upU : u.LanesUp :=
    ⟨(congrArg (· != 0) (taken.only.read COUCH.PAIR_CFG_EN (by decide) (by decide))).trans upV.1,
      (congrArg (· != 0) (taken.only.read COUCH.PAIR_STATUS_REF_BAD (by decide) (by decide))).trans upV.2⟩
  obtain ⟨kept, state, link⟩ := State.settle_pairRead ((all.inReset rfl).trans awake) upU
  refine ⟨?_, state.trans taken.state, ?_, ?_, ?_, fun two differ => (kept.couch_fill).trans (fill two differ), all.settle⟩
  · rw [kept.read _ (by decide), taken.only.read _ (by decide) (by decide), count]
  · rw [link, taken.link]
    split <;> rfl
  · rw [kept.read _ (by decide), taken.cfg]
  · rw [kept.read _ (by decide), taken.key]

/-! ### The heartbeat (R355, R358) -/

/-- The fields of a check of the heartbeat. -/
def heartbeatFields : List Fld :=
  [COUCH.PAIR_STATUS_HB_OK, COUCH.PAIR_STATUS_HB_WIRE, COUCH.HB_LOSS_CNT, COUCH.PAIR_STATUS_STATE, COUCH.PAIR_STATUS_PROMOTABLE]

/-- The couch link after a check that has found so many good and so many equal. -/
def CouchSt.beaten (c : CouchSt) (good same : Nat) : CouchSt := { c with hbGood := good, hbEqual := same }

/-- The heartbeat is shown. -/
def State.heartbeatShown (s : State) (good same : Nat) : State :=
  let s := State.putB { s with couch := s.couch.beaten good same } COUCH.PAIR_STATUS_HB_WIRE (decide (2 ≤ same))
  if 8 ≤ good then s.put COUCH.PAIR_STATUS_HB_OK 1 else s

/-- The heartbeat is missed. -/
def State.heartbeatMissed (s : State) (was : Bool) : State :=
  let s := (s.put COUCH.PAIR_STATUS_HB_OK 0).inc COUCH.HB_LOSS_CNT
  if s.pairState = 5 then (s.couchGo 6).pairEvent .auto 0x0B06 0 6 5 6
  else if was && decide (2 ≤ s.pairState) && decide (s.pairState ≤ 4) then s.pairEvent .auto 0x0B07 0 0 1 0 else s

theorem State.heartbeatShown_coupled (s : State) (good same : Nat) : Coupled [.couch] heartbeatFields (s.couch.beaten good same) s (s.heartbeatShown good same) := by
  have put := (((Coupled.refl s (ps := [.couch]) (l := heartbeatFields)).set rfl (s.couch.beaten good same)).putB COUCH.PAIR_STATUS_HB_WIRE (decide (2 ≤ same)) (by decide))
  exact Coupled.ite (put.put _ _ (by decide)) put

theorem State.heartbeatShown_wire (s : State) (good same : Nat) :
    (s.heartbeatShown good same).flag COUCH.PAIR_STATUS_HB_WIRE = decide (2 ≤ same) ∧
      (8 ≤ good → (s.heartbeatShown good same).flag COUCH.PAIR_STATUS_HB_OK = true) := by
  unfold State.heartbeatShown
  obtain ⟨u, hu⟩ : ∃ u, u = State.putB { s with couch := s.couch.beaten good same } COUCH.PAIR_STATUS_HB_WIRE (decide (2 ≤ same)) := ⟨_, rfl⟩
  have wire : u.flag COUCH.PAIR_STATUS_HB_WIRE = decide (2 ≤ same) := hu ▸ State.flag_putB _ _ _ rfl
  rw [← hu]
  dsimp only
  split
  · exact ⟨(State.flag_put_other _ _ _ _ (by decide)).trans wire, fun _ => State.flag_put_bit _ _ rfl true⟩
  · next few => exact ⟨wire, fun many => absurd many few⟩

theorem State.heartbeatMissed_coupled (s : State) (was : Bool) : Coupled [.couch] heartbeatFields s.couch s (s.heartbeatMissed was) := by
  have put := ((Coupled.refl s (ps := [.couch]) (l := heartbeatFields)).put COUCH.PAIR_STATUS_HB_OK 0 (by decide)).inc COUCH.HB_LOSS_CNT (by decide)
  exact Coupled.ite ((put.couchGo 6 (by decide)).pairEvent _ _ _ _ _ _) (Coupled.ite (put.pairEvent _ _ _ _ _ _) put)

theorem State.heartbeatMissed_shown (s : State) (was : Bool) :
    (s.heartbeatMissed was).flag COUCH.PAIR_STATUS_HB_OK = false ∧
      (s.heartbeatMissed was).get COUCH.HB_LOSS_CNT = min (s.get COUCH.HB_LOSS_CNT + 1) (2 ^ 48 - 1) ∧
      (s.heartbeatMissed was).pairState = if s.pairState = 5 then 6 else s.pairState := by
  unfold State.heartbeatMissed
  obtain ⟨u, hu⟩ : ∃ u, u = (s.put COUCH.PAIR_STATUS_HB_OK 0).inc COUCH.HB_LOSS_CNT := ⟨_, rfl⟩
  have counted : Coupled [] [COUCH.HB_LOSS_CNT] (s.put COUCH.PAIR_STATUS_HB_OK 0).couch (s.put COUCH.PAIR_STATUS_HB_OK 0) u := by
    rw [hu]
    exact (Coupled.refl _ (l := [COUCH.HB_LOSS_CNT])).inc COUCH.HB_LOSS_CNT (by decide)
  have ok : u.flag COUCH.PAIR_STATUS_HB_OK = false :=
    (counted.flag _ (by decide) (by decide) (by decide)).trans (State.flag_put_bit _ _ rfl false)
  have count : u.get COUCH.HB_LOSS_CNT = min (s.get COUCH.HB_LOSS_CNT + 1) (2 ^ 48 - 1) := by
    rw [hu, State.inc_couch _ _ rfl (by decide) (by decide), State.get_put_other _ _ _ _ (by decide)]
  have state : u.pairState = s.pairState := (counted.read _ (by decide) (by decide) (by decide)).trans (State.get_put_other _ _ _ _ (by decide))
  rw [← hu, ← state]
  dsimp only
  have told (v : State) (o : Origin) (a b : Nat) (x : Int) (c d : Nat) (f : Fld) (lo : 60817408 ≤ f.key) (hi : f.key < 62914560) :
      (v.pairEvent o a b x c d).get f = v.get f := State.pairEvent_read _ _ _ _ _ _ _ _ lo hi
  split
  · refine ⟨?_, ?_, ?_⟩
    · rw [State.flag, told _ _ _ _ _ _ _ _ (by decide) (by decide), State.couchGo_get _ _ _ (by decide)]
      exact ok
    · rw [told _ _ _ _ _ _ _ _ (by decide) (by decide), State.couchGo_get _ _ _ (by decide), count]
    · rw [State.pairState, told _ _ _ _ _ _ _ _ (by decide) (by decide)]
      exact State.couchGo_state _ (by decide)
  · split
    · refine ⟨?_, ?_, ?_⟩
      · rw [State.flag, told _ _ _ _ _ _ _ _ (by decide) (by decide)]
        exact ok
      · rw [told _ _ _ _ _ _ _ _ (by decide) (by decide), count]
      · exact told _ _ _ _ _ _ _ _ (by decide) (by decide)
    · exact ⟨ok, count, rfl⟩

theorem State.heartbeatMissed_wire (s : State) (was : Bool) :
    (s.heartbeatMissed was).flag COUCH.PAIR_STATUS_HB_WIRE = s.flag COUCH.PAIR_STATUS_HB_WIRE := by
  have put := ((Coupled.refl s (ps := []) (l := [COUCH.PAIR_STATUS_HB_OK, COUCH.HB_LOSS_CNT, COUCH.PAIR_STATUS_STATE, COUCH.PAIR_STATUS_PROMOTABLE])).put
    COUCH.PAIR_STATUS_HB_OK 0 (by decide)).inc COUCH.HB_LOSS_CNT (by decide)
  exact (Coupled.ite ((put.couchGo 6 (by decide)).pairEvent _ _ _ _ _ _) (Coupled.ite (put.pairEvent _ _ _ _ _ _) put)).flag _
    (by decide) (by decide) (by decide)

theorem State.heartbeatShown_other (s : State) (good same : Nat) (f : Fld)
    (off : ∀ d ∈ [COUCH.PAIR_STATUS_HB_WIRE, COUCH.PAIR_STATUS_HB_OK], f.key ≠ d.key) : (s.heartbeatShown good same).get f = s.get f := by
  have wire : (State.putB { s with couch := s.couch.beaten good same } COUCH.PAIR_STATUS_HB_WIRE (decide (2 ≤ same))).get f = s.get f :=
    State.get_put_other _ _ _ _ (off _ (by decide))
  unfold State.heartbeatShown
  dsimp only
  split
  · exact (State.get_put_other _ _ _ _ (off _ (by decide))).trans wire
  · exact wire

/-- What a check of the heartbeat does on a standby. -/
def State.beat (s : State) (changed : Bool) (good same : Nat) (was : Bool) : State :=
  if changed then s.heartbeatShown good same else (s.heartbeatShown good same).heartbeatMissed was

theorem State.beat_coupled (s : State) (changed : Bool) (good same : Nat) (was : Bool) :
    Coupled [.couch] heartbeatFields (s.couch.beaten good same) s (s.beat changed good same was) := by
  have shown := s.heartbeatShown_coupled good same
  refine Coupled.ite shown (shown.trans ?_)
  rw [← shown.couch]
  exact State.heartbeatMissed_coupled _ _

theorem State.beat_shown (s : State) (changed : Bool) (good same : Nat) (was : Bool) :
    (s.beat changed good same was).flag COUCH.PAIR_STATUS_HB_WIRE = decide (2 ≤ same) ∧
      (changed = true → 8 ≤ good → (s.beat changed good same was).flag COUCH.PAIR_STATUS_HB_OK = true) ∧
      (changed = false → (s.beat changed good same was).flag COUCH.PAIR_STATUS_HB_OK = false ∧
        (s.beat changed good same was).get COUCH.HB_LOSS_CNT = min (s.get COUCH.HB_LOSS_CNT + 1) (2 ^ 48 - 1) ∧
        (s.beat changed good same was).pairState = if s.pairState = 5 then 6 else s.pairState) := by
  obtain ⟨wire, ok⟩ := s.heartbeatShown_wire good same
  have shown := s.heartbeatShown_coupled good same
  obtain ⟨w, hw⟩ : ∃ w, w = s.heartbeatShown good same := ⟨_, rfl⟩
  unfold State.beat
  rw [← hw] at wire ok shown ⊢
  obtain ⟨bad, count, state⟩ := w.heartbeatMissed_shown was
  cases changed with
  | true => exact ⟨wire, fun _ many => ok many, fun no => nomatch no⟩
  | false =>
    have missed : (w.heartbeatMissed was).flag COUCH.PAIR_STATUS_HB_WIRE = w.flag COUCH.PAIR_STATUS_HB_WIRE := w.heartbeatMissed_wire was
    have lossW : w.get COUCH.HB_LOSS_CNT = s.get COUCH.HB_LOSS_CNT := hw ▸ s.heartbeatShown_other _ _ _ (by decide)
    have stateW : w.pairState = s.pairState := hw ▸ s.heartbeatShown_other _ _ COUCH.PAIR_STATUS_STATE (by decide)
    rw [lossW] at count
    rw [stateW] at state
    exact ⟨missed.trans wire, fun (yes : false = true) => absurd yes (by decide), fun _ => ⟨bad, count, state⟩⟩

theorem runHeartbeatCheck_eq (changed equal : Bool) (mode : s.mode = 5) (en : s.flag COUCH.PAIR_CFG_EN = true) : runHeartbeatCheck changed equal s =
    ((s.atSheetTime (nsU 62500)).charge0 5).beat changed (if changed && !equal then s.couch.hbGood + 1 else 0) (if equal then s.couch.hbEqual + 1 else 0)
      (((s.atSheetTime (nsU 62500)).charge0 5).flag COUCH.PAIR_STATUS_HB_OK) := by
  have ran : Coupled [.time] timeFields s.couch s (s.atSheetTime (nsU 62500)) := (Coupled.refl s).advanceTo _ rfl (fun _ m => m)
  have five : (s.atSheetTime (nsU 62500)).mode = 5 := (ran.only.mode rfl).trans mode
  have on : (s.atSheetTime (nsU 62500)).flag COUCH.PAIR_CFG_EN = true := (ran.flag _ (by decide) (by decide) (by decide)).trans en
  rw [← (ran.charge0 5).couch]
  exact if_neg (by rw [five, on]; decide)

theorem heartbeatCheck_judges (changed equal : Bool) (awake : s.inReset = false) (mode : s.mode = 5) (up : s.LanesUp) :
    ∃ t, exec (.heartbeatCheck changed equal) s = .next t ∧
      t.couch.hbGood = (if changed = true ∧ equal = false then s.couch.hbGood + 1 else 0) ∧
      t.flag COUCH.PAIR_STATUS_HB_WIRE = (equal && decide (1 ≤ s.couch.hbEqual)) ∧
      (changed = true → equal = false → 7 ≤ s.couch.hbGood → t.flag COUCH.PAIR_STATUS_HB_OK = true ∧ t.flag COUCH.PAIR_STATUS_HB_WIRE = false) ∧
      (changed = false → t.flag COUCH.PAIR_STATUS_HB_OK = false ∧ t.get COUCH.HB_LOSS_CNT = min (s.get COUCH.HB_LOSS_CNT + 1) (2 ^ 48 - 1) ∧
        t.pairState = (if s.pairState = 5 then 6 else s.pairState)) ∧
      Only [.couch, .time] (heartbeatFields ++ timeFields) s t := by
  have ran : Coupled [.couch, .time] (heartbeatFields ++ timeFields) s.couch s ((s.atSheetTime (nsU 62500)).charge0 5) :=
    ((Coupled.refl s).advanceTo _ rfl (by decide)).charge0 5
  have quiet : Coupled [.couch, .time] timeFields s.couch s ((s.atSheetTime (nsU 62500)).charge0 5) :=
    ((Coupled.refl s).advanceTo _ rfl (fun _ m => m)).charge0 5
  refine ⟨_, rfl, ?_⟩
  rw [State.awake_eq awake, runHeartbeatCheck_eq changed equal mode up.1]
  obtain ⟨v, hv⟩ : ∃ v, v = (s.atSheetTime (nsU 62500)).charge0 5 := ⟨_, rfl⟩
  rw [← hv] at ran quiet ⊢
  have loss : v.get COUCH.HB_LOSS_CNT = s.get COUCH.HB_LOSS_CNT := quiet.read _ (by decide) (by decide) (by decide)
  have was : v.pairState = s.pairState := quiet.read _ (by decide) (by decide) (by decide)
  have beat := v.beat_coupled changed (if changed && !equal then s.couch.hbGood + 1 else 0) (if equal then s.couch.hbEqual + 1 else 0)
    (v.flag COUCH.PAIR_STATUS_HB_OK)
  obtain ⟨wire, ok, missed⟩ := v.beat_shown changed (if changed && !equal then s.couch.hbGood + 1 else 0) (if equal then s.couch.hbEqual + 1 else 0)
    (v.flag COUCH.PAIR_STATUS_HB_OK)
  rw [loss, was] at missed
  generalize v.beat changed (if changed && !equal then s.couch.hbGood + 1 else 0) (if equal then s.couch.hbEqual + 1 else 0)
    (v.flag COUCH.PAIR_STATUS_HB_OK) = u at beat wire ok missed ⊢
  have all := ran.trans (beat.weaken rfl (by decide))
  obtain ⟨kept, state, -⟩ := State.settle_pairRead ((all.only.inReset rfl).trans awake) (all.up (by decide) up)
  have wire' : u.settle.flag COUCH.PAIR_STATUS_HB_WIRE = (equal && decide (1 ≤ s.couch.hbEqual)) := by
    rw [kept.flag _ (by decide), wire]
    cases equal <;> simp
  refine ⟨?_, wire', fun yes no seven => ⟨?_, ?_⟩, fun no => ?_, all.only.settle⟩
  · rw [kept.couch_hbGood, beat.couch]
    cases changed <;> cases equal <;> rfl
  · rw [kept.flag _ (by decide), ok yes (by rw [yes, no]; exact Nat.succ_le_succ seven)]
  · rw [wire', no]
    rfl
  · obtain ⟨bad, count, go⟩ := missed no
    exact ⟨by rw [kept.flag _ (by decide), bad], by rw [kept.read _ (by decide), count], by rw [state, go]⟩

/-! ### Conflicts and promotion of an orphan (R357, R365, R366) -/

/-- The couch link of a unit that finds a conflict. -/
def CouchSt.clashing (c : CouchSt) (leave : Bool) : CouchSt := { c with foreign := false, actHigh := 0, clash := true, quiet := c.quiet || leave }

/-- The fields of a conflict. -/
def conflictFields : List Fld := [COUCH.PAIR_STATUS_ARB, COUCH.PAIR_STATUS_CONFLICT, COUCH.CONFLICT_CNT]

/-- A conflict is shown and counted. -/
def State.conflictShown (s : State) (arb stay : Bool) : State :=
  ((State.putB { s with couch := s.couch.clashing (!stay) } COUCH.PAIR_STATUS_ARB arb).put COUCH.PAIR_STATUS_CONFLICT 1).inc COUCH.CONFLICT_CNT

theorem State.conflictShown_coupled (s : State) (arb stay : Bool) :
    Coupled [.couch] conflictFields (s.couch.clashing (!stay)) s (s.conflictShown arb stay) :=
  ((((Coupled.refl s).set rfl _).putB COUCH.PAIR_STATUS_ARB arb (by decide)).put COUCH.PAIR_STATUS_CONFLICT 1 (by decide)).inc COUCH.CONFLICT_CNT (by decide)

theorem State.conflictShown_shown (s : State) (arb stay : Bool) :
    (s.conflictShown arb stay).flag COUCH.PAIR_STATUS_CONFLICT = true ∧ (s.conflictShown arb stay).flag COUCH.PAIR_STATUS_ARB = arb ∧
      (s.conflictShown arb stay).get COUCH.CONFLICT_CNT = min (s.get COUCH.CONFLICT_CNT + 1) (2 ^ 48 - 1) := by
  unfold State.conflictShown
  obtain ⟨v, hv⟩ : ∃ v : State, v = { s with couch := s.couch.clashing (!stay) } := ⟨_, rfl⟩
  have read (f : Fld) : v.get f = s.get f := hv ▸ State.couchSet_get _ _ _
  rw [← hv]
  obtain ⟨u, hu⟩ : ∃ u, u = (v.putB COUCH.PAIR_STATUS_ARB arb).put COUCH.PAIR_STATUS_CONFLICT 1 := ⟨_, rfl⟩
  have arbU : u.flag COUCH.PAIR_STATUS_ARB = arb := by
    rw [hu, State.flag_put_other _ _ _ _ (by decide)]
    exact State.flag_putB _ _ _ rfl
  have conflictU : u.flag COUCH.PAIR_STATUS_CONFLICT = true := hu ▸ State.flag_put_bit _ _ rfl true
  have countU : u.get COUCH.CONFLICT_CNT = s.get COUCH.CONFLICT_CNT := by
    rw [hu, State.get_put_other _ _ _ _ (by decide)]
    exact (State.get_put_other _ _ _ _ (by decide)).trans (read _)
  rw [← hu]
  have counted := (Coupled.refl u (ps := []) (l := [COUCH.CONFLICT_CNT])).inc COUCH.CONFLICT_CNT (by decide)
  refine ⟨(counted.flag _ (by decide) (by decide) (by decide)).trans conflictU, (counted.flag _ (by decide) (by decide) (by decide)).trans arbU, ?_⟩
  rw [State.inc_couch _ _ rfl (by decide) (by decide), countU]

/-- The unit has seen a sign that its peer serves. -/
theorem runSplitBrain_due {readback : Bool} (serving : servingMode s.mode = true) (en : s.flag COUCH.PAIR_CFG_EN = true)
    (sign : readback = true ∨ s.couch.foreign = true ∨ s.get COUCH.PAIR_CFG_ACT_CONFLICT ≤ s.couch.actHigh) :
    ¬(!servingMode s.mode || !s.flag COUCH.PAIR_CFG_EN ||
      !(readback || s.couch.foreign || decide (s.get COUCH.PAIR_CFG_ACT_CONFLICT ≤ s.couch.actHigh))) = true := by
  rcases sign with sign | sign | sign <;> simp [serving, en, sign]

theorem State.conflictStay_fst (s : State) (arb : Bool) : (s.conflictStay arb).1 = match s.couch.peerId with
    | none => arb
    | some id => if s.flag COUCH.PAIR_CFG_PRIO = s.couch.peerPrio then decide (s.get BOUND.WM_ENGINE_ID ≤ id) else !s.flag COUCH.PAIR_CFG_PRIO := by
  unfold State.conflictStay
  cases s.couch.peerId with
  | none => rfl
  | some id => exact apply_ite Prod.fst _ _ _

theorem splitBrain_finds {readback arb : Bool} (awake : s.inReset = false) (serving : servingMode s.mode = true) (en : s.flag COUCH.PAIR_CFG_EN = true)
    (first : s.flag COUCH.PAIR_STATUS_CONFLICT = false)
    (sign : readback = true ∨ s.couch.foreign = true ∨ s.get COUCH.PAIR_CFG_ACT_CONFLICT ≤ s.couch.actHigh) :
    ∃ t, exec (.splitBrain readback arb) s = .next t ∧ t.flag COUCH.PAIR_STATUS_CONFLICT = true ∧ t.flag COUCH.PAIR_STATUS_ARB = arb ∧
      t.get COUCH.CONFLICT_CNT = min (s.get COUCH.CONFLICT_CNT + 1) (2 ^ 48 - 1) ∧
      t.couch.quiet = (s.couch.quiet || !(s.conflictStay arb).1) ∧ Only [.couch] conflictFields s t := by
  have run : runSplitBrain readback arb s =
      let u := (s.conflictShown arb (s.conflictStay arb).1).pairEvent .auto 0x0B08 0 (if (s.conflictStay arb).1 then 0 else 1) 0 1
      if (s.conflictStay arb).2 then u.pairEvent .auto 0x0B02 0 (u.get COUCH.PAIR_CFG_PRIO) 0 (u.couch.peerId.getD 0) else u :=
    (if_neg (runSplitBrain_due serving en sign)).trans (if_neg (by rw [first]; decide))
  refine ⟨_, rfl, ?_⟩
  rw [State.awake_eq awake, run]
  have shown := s.conflictShown_coupled arb (s.conflictStay arb).1
  obtain ⟨conflict, arbV, count⟩ := s.conflictShown_shown arb (s.conflictStay arb).1
  generalize s.conflictShown arb (s.conflictStay arb).1 = v at shown conflict arbV count ⊢
  dsimp only
  obtain ⟨u, hu⟩ : ∃ u, u = v.pairEvent .auto 0x0B08 0 (if (s.conflictStay arb).1 then 0 else 1) 0 1 := ⟨_, rfl⟩
  have told : Keeps [] v u := hu ▸ (Keeps.refl v).pairEvent _ _ _ _ _ _
  rw [← hu]
  have both : Keeps [] v (if (s.conflictStay arb).2 then u.pairEvent .auto 0x0B02 0 (u.get COUCH.PAIR_CFG_PRIO) 0 (u.couch.peerId.getD 0) else u) := by
    split
    · exact told.pairEvent _ _ _ _ _ _
    · exact told
  have kept := both.settle
  refine ⟨by rw [kept.flag _ (by decide), conflict], by rw [kept.flag _ (by decide), arbV], by rw [kept.read _ (by decide), count], ?_,
    shown.only.tail (kept.more (fun _ h => nomatch h))⟩
  rw [kept.couch_quiet, shown.couch]
  rfl

theorem splitBrain_lasts {readback arb : Bool} (awake : s.inReset = false) (serving : servingMode s.mode = true) (en : s.flag COUCH.PAIR_CFG_EN = true)
    (lasts : s.flag COUCH.PAIR_STATUS_CONFLICT = true)
    (sign : readback = true ∨ s.couch.foreign = true ∨ s.get COUCH.PAIR_CFG_ACT_CONFLICT ≤ s.couch.actHigh) :
    ∃ t, exec (.splitBrain readback arb) s = .next t ∧ Keeps [] { s with couch := { s.couch with foreign := false, actHigh := 0, clash := true } } t := by
  refine ⟨_, rfl, ?_⟩
  rw [State.awake_eq awake, show runSplitBrain readback arb s = _ from (if_neg (runSplitBrain_due serving en sign)).trans (if_pos lasts)]
  exact (Keeps.refl _).settle

/-- The couch link with a promotion. -/
def CouchSt.promoting (c : CouchSt) (p : Option PromoteRun) : CouchSt := { c with promote := p }

theorem orphanPromote_decides (arb act : Bool) (awake : s.inReset = false) :
    ∃ t, exec (.orphanPromote arb act) s = .next t ∧ t.flag COUCH.PAIR_STATUS_ARB = arb ∧ t.flag COUCH.PAIR_STATUS_ACT_I = act ∧
      t.couch.promote = (if s.mode = 5 ∧ s.pairState = 6 ∧ s.flag COUCH.PAIR_STATUS_PROMOTABLE = true ∧ s.flag COUCH.PAIR_CFG_AUTO_PROMOTE = true ∧
        arb = true ∧ act = false ∧ servingMode s.couch.peerMode = true then some ⟨s.couch.peerMode, .auto⟩ else s.couch.promote) ∧
      Only [.couch] [COUCH.PAIR_STATUS_ARB, COUCH.PAIR_STATUS_ACT_I] s t := by
  have put : Coupled [.couch] [COUCH.PAIR_STATUS_ARB, COUCH.PAIR_STATUS_ACT_I] s.couch s ((s.putB COUCH.PAIR_STATUS_ARB arb).putB COUCH.PAIR_STATUS_ACT_I act) :=
    ((Coupled.refl s).putB _ _ (by decide)).putB _ _ (by decide)
  have arbV : ((s.putB COUCH.PAIR_STATUS_ARB arb).putB COUCH.PAIR_STATUS_ACT_I act).flag COUCH.PAIR_STATUS_ARB = arb :=
    (State.flag_put_other _ _ _ _ (by decide)).trans (State.flag_putB _ _ _ rfl)
  have actV : ((s.putB COUCH.PAIR_STATUS_ARB arb).putB COUCH.PAIR_STATUS_ACT_I act).flag COUCH.PAIR_STATUS_ACT_I = act := State.flag_putB _ _ _ rfl
  refine ⟨_, rfl, ?_⟩
  rw [State.awake_eq awake]
  unfold runOrphanPromote
  generalize (s.putB COUCH.PAIR_STATUS_ARB arb).putB COUCH.PAIR_STATUS_ACT_I act = v at put arbV actV ⊢
  dsimp only
  have five : v.mode = s.mode := put.only.mode rfl
  have state : v.pairState = s.pairState := put.read _ (by decide) (by decide) (by decide)
  have able : v.flag COUCH.PAIR_STATUS_PROMOTABLE = s.flag COUCH.PAIR_STATUS_PROMOTABLE := put.flag _ (by decide) (by decide) (by decide)
  have auto : v.flag COUCH.PAIR_CFG_AUTO_PROMOTE = s.flag COUCH.PAIR_CFG_AUTO_PROMOTE := put.flag _ (by decide) (by decide) (by decide)
  have same : ((decide (v.mode = 5) && v.pairState == 6 && v.flag COUCH.PAIR_STATUS_PROMOTABLE && v.flag COUCH.PAIR_CFG_AUTO_PROMOTE && arb && !act &&
      servingMode v.couch.peerMode) = true) ↔ (s.mode = 5 ∧ s.pairState = 6 ∧ s.flag COUCH.PAIR_STATUS_PROMOTABLE = true ∧
        s.flag COUCH.PAIR_CFG_AUTO_PROMOTE = true ∧ arb = true ∧ act = false ∧ servingMode s.couch.peerMode = true) := by
    rw [five, state, able, auto, put.couch]
    simp only [Bool.and_eq_true, decide_eq_true_eq, beq_iff_eq, Bool.not_eq_true', and_assoc]
  have shown (u : State) (k : Only [.couch] [COUCH.PAIR_STATUS_ARB, COUCH.PAIR_STATUS_ACT_I] s u) (r : ∀ f, u.get f = v.get f) (p : Option PromoteRun)
      (e : u.couch.promote = p) : u.settle.flag COUCH.PAIR_STATUS_ARB = arb ∧ u.settle.flag COUCH.PAIR_STATUS_ACT_I = act ∧ u.settle.couch.promote = p ∧
        Only [.couch] [COUCH.PAIR_STATUS_ARB, COUCH.PAIR_STATUS_ACT_I] s u.settle := by
    have kept : Keeps [] u u.settle := (Keeps.refl u).settle
    refine ⟨?_, ?_, kept.couch_promote.trans e, k.settle⟩
    · rw [kept.flag _ (by decide), State.flag, r]
      exact arbV
    · rw [kept.flag _ (by decide), State.flag, r]
      exact actV
  by_cases due : s.mode = 5 ∧ s.pairState = 6 ∧ s.flag COUCH.PAIR_STATUS_PROMOTABLE = true ∧ s.flag COUCH.PAIR_CFG_AUTO_PROMOTE = true ∧
      arb = true ∧ act = false ∧ servingMode s.couch.peerMode = true
  · rw [if_pos (same.mpr due), if_pos due]
    exact shown _ (put.only.set_couch rfl _) (fun f => State.couchSet_get _ _ f) _ (by rw [put.couch])
  · rw [if_neg (fun h => due (same.mp h)), if_neg due]
    exact shown _ put.only (fun _ => rfl) _ (by rw [put.couch])

/-- Settles O42: each event of the pair by its own theorem, over the layer that says what the couch link keeps. -/
theorem pairEventsComplete : Obligations.PairEventsComplete := by
  refine ⟨fun s awake en ref free => couchBlockLock_locks awake en ref free,
    fun s time seg b h awake locked en ref good head kind version mode => ?_,
    fun s time segs awake locked mode => forwardFrameRx_foreign awake locked mode,
    fun s time segs b h awake locked mode good head kind version => ?_,
    fun s time seg b h awake locked mode en ref good head kind version flags => ?_,
    fun s awake missing => couchLinkCheck_loses awake missing,
    fun s changed equal awake mode en ref => ?_,
    fun s readback arb awake serving en first sign => ?_,
    fun s readback arb awake serving en lasts sign => splitBrain_lasts awake serving en lasts sign,
    fun s arb act awake => orphanPromote_decides arb act awake⟩
  · obtain ⟨t, run, count, id, prio, m, engine, fills, stays, only⟩ := helloRx_tells awake locked ⟨en, ref⟩ good head kind version mode (time := time)
    exact ⟨t, run, count, id, prio, m, engine, fills, stays, only.quiet (by decide)⟩
  · obtain ⟨t, run, count, got, last, m, lag, cfg, key, only⟩ := forwardFrameRx_taken awake locked mode good head kind version (time := time)
    exact ⟨t, run, count, got, last, m, lag, cfg, key, only.quiet (by decide)⟩
  · obtain ⟨t, run, count, state, link, cfg, key, fill, only⟩ := returnFrameRx_taken awake locked mode ⟨en, ref⟩ good head kind version flags (time := time)
    exact ⟨t, run, count, state, link, cfg, key, fill, only.quiet (by decide)⟩
  · obtain ⟨t, run, good, wire, ok, missed, only⟩ := heartbeatCheck_judges changed equal awake mode ⟨en, ref⟩
    exact ⟨t, run, good, wire, ok, missed, only.quiet (by decide)⟩
  · obtain ⟨t, run, conflict, arbT, count, quiet, only⟩ := splitBrain_finds awake serving en first sign (arb := arb)
    exact ⟨t, run, conflict, arbT, count, quiet.trans (congrArg (fun b => s.couch.quiet || !b) (s.conflictStay_fst arb)), only⟩

end Sys2Proof.Machine
end

section
/-! A handover passes through its sheets. -/

namespace Sys2Proof.Machine

variable {ps : List Part} {l : List Fld} {s t u v : State} {c : CouchSt}

/-! ### Parts of the state that a change of role sets -/

theorem Calm.boundSet (h : Calm l s t) (x : BoundSt) : Calm l s { t with bound := x } := ⟨h.couch, h.esc, h.get⟩
theorem Calm.macSet (h : Calm l s t) (x : MacSt) : Calm l s { t with mac := x } := ⟨h.couch, h.esc, h.get⟩
theorem Calm.synSet (h : Calm l s t) (x : SynSt) : Calm l s { t with syn := x } := ⟨h.couch, h.esc, h.get⟩

theorem Coupled.setBound (h : Coupled ps l c s t) (hp : ps.contains .bound = true) (x : BoundSt) : Coupled ps l c s { t with bound := x } :=
  ⟨h.only.set_bound hp x, h.calm.boundSet x⟩

theorem Coupled.setMac (h : Coupled ps l c s t) (hp : ps.contains .mac = true) (x : MacSt) : Coupled ps l c s { t with mac := x } :=
  ⟨h.only.set_mac hp x, h.calm.macSet x⟩

theorem Coupled.setSyn (h : Coupled ps l c s t) (hp : ps.contains .syn = true) (x : SynSt) : Coupled ps l c s { t with syn := x } :=
  ⟨h.only.set_syn hp x, h.calm.synSet x⟩

theorem Coupled.emit (h : Coupled ps l c s t) (o : Out) : Coupled ps l c s (t.emit o) := h.tail ((Keeps.refl t).emit o) ((Calm.refl t).emit o)

theorem Coupled.event (h : Coupled ps l c s t) (a b : Nat) (x : Int) : Coupled ps l c s (t.event a b x) :=
  h.tail ((Keeps.refl t).event a b x) ((Calm.refl t).event a b x)

theorem Coupled.journal (h : Coupled ps l c s t) (o : Origin) (k a x y z : Nat) : Coupled ps l c s (t.journal o k a x y z) :=
  h.tail ((Keeps.refl t).journal o k a x y z) ((Calm.refl t).journal o k a x y z)

theorem Coupled.complete (h : Coupled ps l c s t) (hd : Hdr) (op st r : Nat) (late : Bool) : Coupled ps l c s (t.complete hd op st r late) :=
  h.tail ((Keeps.refl t).complete hd op st r late) ((Calm.refl t).complete hd op st r late)

theorem Coupled.puts (h : Coupled ps l c s t) (p : List (Fld × Nat)) (m : ∀ q ∈ p, q.1 ∈ l) : Coupled ps l c s (t.puts p) := by
  induction p generalizing t with
  | nil => exact h
  | cons q p ih => exact ih (h.put q.1 q.2 (m q (List.mem_cons_self ..))) (fun q hq => m q (List.mem_cons_of_mem _ hq))

theorem Coupled.foldRange (h : Coupled ps l c s t) (n : Nat) (g : State → Nat → State)
    (step : ∀ x, ∀ i < n, Coupled ps l c s x → Coupled ps l c s (g x i)) : Coupled ps l c s ((List.range n).foldl g t) := by
  induction n with
  | zero => exact h
  | succ n ih =>
    rw [List.range_succ, List.foldl_append]
    exact step _ n (by omega) (ih (fun x i hi => step x i (by omega)))

/-- The three banks of a triple are written. -/
theorem Coupled.putT (h : Coupled ps l c s t) (b : ps.contains .rwtB = true) (d : ps.contains .rwtC = true) (f : Fld) (x : Nat) (m : f ∈ l) :
    Coupled ps l c s (t.putT f x) := by
  have put := h.put f x m
  exact ⟨(put.only.set_rwtB b _).set_rwtC d _, ⟨put.calm.couch, put.calm.esc, put.calm.get⟩⟩

theorem Coupled.setMode (h : Coupled ps l c s t) (g : ps.contains .glb = true) (b : ps.contains .rwtB = true) (d : ps.contains .rwtC = true) (m : Nat) (o : Origin)
    (hm : GLB.GLB_MODE_MODE ∈ l) : Coupled ps l c s (t.setMode m o) := by
  have put := h.putT b d GLB.GLB_MODE_MODE m hm
  have set : Coupled ps l c s { t.putT GLB.GLB_MODE_MODE m with glb := { t.glb with mode := m } } :=
    ⟨put.only.set_glb g _, ⟨put.calm.couch, put.calm.esc, put.calm.get⟩⟩
  have told := set.event 0x0101 0 m
  exact Coupled.ite told (told.journal _ _ _ _ _ _)

theorem State.setMode_mode (s : State) (m : Nat) (o : Origin) : (s.setMode m o).mode = m := by
  have event (v : State) : (v.event 0x0101 0 m).mode = v.mode := ((Keeps.refl (l := []) v).event _ _ _).mode
  have journal (v : State) (x : Nat) : (v.journal o 5 0 x m 0x0101).mode = v.mode := ((Keeps.refl (l := []) v).journal _ _ _ _ _ _).mode
  unfold State.setMode
  dsimp only
  split
  · exact event _
  · exact (journal _ _).trans (event _)

theorem Coupled.dropNegs (h : Coupled ps l c s t) (hp : ps.contains .mac = true) (m : PTP.NEG_PENDING ∈ l) : Coupled ps l c s t.dropNegs :=
  (h.setMac hp _).put _ _ m

theorem Keeps.couch_byHandover (h : Keeps l s t) : t.couch.byHandover = s.couch.byHandover := congrArg (fun c => c.couch.byHandover) h.core
theorem Keeps.couch_heldFrom (h : Keeps l s t) : t.couch.heldFrom = s.couch.heldFrom := congrArg (fun c => c.couch.heldFrom) h.core

/-! ### The handover of the active (R360) -/

/-- The couch link of an active that has handed over. -/
def CouchSt.handed (c : CouchSt) (old sheet : Nat) (own : Option Timing) : CouchSt :=
  { c with
    former := old, byHandover := some sheet, block := own, suppress := false, dual := none, flowing := true, gotFwd := false
    fillWait := false, fillSeen := false, heldFrom := none, drillEnd := none, hbGood := 8 }

/-- The couch link without its handover. -/
def CouchSt.unhanded (c : CouchSt) : CouchSt := { c with hand := none, handing := false }

/-- The fields of a change of role. -/
def roleFields : List Fld :=
  [GLB.GLB_MODE_MODE, COUCH.HANDOVER_CNT, COUCH.PAIR_STATUS_HELD, COUCH.DRILL_LEFT, COUCH.PAIR_STATUS_LAG, COUCH.PAIR_STATUS_HB_OK, COUCH.PAIR_STATUS_HB_WIRE,
    COUCH.PAIR_STATUS_STATE, COUCH.PAIR_STATUS_PROMOTABLE, PTP.NEG_PENDING, COUCH.PAIR_STATUS_HANDOVER_PENDING, BOUND.BOUND_STATUS, BOUND.BOUND_CORE] ++
  (List.range 8).map BOUND.PORT_BOUND

/-- The parts of a change of role. -/
def roleParts : List Part := [.glb, .couch, .bound, .mac, .syn, .rwtB, .rwtC]

theorem Coupled.endHandover (h : Coupled ps l c s t) (hp : ps.contains .couch = true) (m : COUCH.PAIR_STATUS_HANDOVER_PENDING ∈ l) {x : HandRun}
    (hand : c.hand = some x) (status : Nat) : Coupled ps l c.unhanded s (t.endHandover status) := by
  have put := (h.set hp c.unhanded).put COUCH.PAIR_STATUS_HANDOVER_PENDING 0 m
  unfold State.endHandover
  rw [h.couch, hand]
  dsimp only
  cases x.cmd with
  | none => exact put
  | some cmd => exact put.complete _ _ _ _ _

/-- A handover has been ended with a status that its command gets. -/
theorem State.endHandover_out {x : HandRun} {h : Hdr} (hand : s.couch.hand = some x) (status : Nat) (hh : x.cmd = some h) (m : h.origin = .mspi) :
    Out.mailbox ⟨0xD0, h.tag, status, false, .mspi, h.ring, 0, s.sheetNo, h.index⟩ ∈ (s.endHandover status).out := by
  have no : (State.put { s with couch := s.couch.unhanded } COUCH.PAIR_STATUS_HANDOVER_PENDING 0).sheetNo = s.sheetNo := State.get_put_other _ _ _ _ (by decide)
  have out := (State.put { s with couch := s.couch.unhanded } COUCH.PAIR_STATUS_HANDOVER_PENDING 0).complete_out h 0xD0 status 0 false m
  rw [no] at out
  unfold State.endHandover
  rw [hand]
  dsimp only
  rw [hh]
  exact out

/-- The active has entered MIRROR at H. -/
structure HandedOver (s t : State) (x : HandRun) : Prop where
  coupled : Coupled roleParts roleFields (s.couch.handed s.mode s.sheetNo s.couch.own).unhanded s t
  mode : t.mode = 5
  state : t.pairState = 3
  count : t.get COUCH.HANDOVER_CNT = min (s.get COUCH.HANDOVER_CNT + 1) (2 ^ 48 - 1)
  told : ∀ h ∈ x.cmd, h.origin = .mspi → Out.mailbox ⟨0xD0, h.tag, stOK, false, .mspi, h.ring, 0, s.sheetNo, h.index⟩ ∈ t.out

/-- The mode of a change of role is set, and the change is counted and told. -/
def State.roleTold (s : State) (m old : Nat) (o : Origin) : State :=
  (((s.charge0 2500).setMode m o).inc COUCH.HANDOVER_CNT).pairEvent o 0x0B0B 0 m old m

theorem State.roleTold_coupled (s : State) (m old : Nat) (o : Origin) :
    Coupled [.glb, .rwtB, .rwtC] [GLB.GLB_MODE_MODE, COUCH.HANDOVER_CNT] s.couch s (s.roleTold m old o) :=
  ((((Coupled.refl s).charge0 2500).setMode rfl rfl rfl m o (by decide)).inc COUCH.HANDOVER_CNT (by decide)).pairEvent _ _ _ _ _ _

theorem State.roleTold_shown (s : State) (m old : Nat) (o : Origin) : (s.roleTold m old o).mode = m ∧
    (s.roleTold m old o).get COUCH.HANDOVER_CNT = min (s.get COUCH.HANDOVER_CNT + 1) (2 ^ 48 - 1) := by
  have set : Coupled [.glb, .rwtB, .rwtC] [GLB.GLB_MODE_MODE] s.couch s ((s.charge0 2500).setMode m o) :=
    ((Coupled.refl s).charge0 2500).setMode rfl rfl rfl m o (by decide)
  have mode := (s.charge0 2500).setMode_mode m o
  unfold State.roleTold
  obtain ⟨v, hv⟩ : ∃ v, v = (s.charge0 2500).setMode m o := ⟨_, rfl⟩
  rw [← hv] at set mode ⊢
  have tail : Coupled [] [COUCH.HANDOVER_CNT] v.couch v ((v.inc COUCH.HANDOVER_CNT).pairEvent o 0x0B0B 0 m old m) :=
    ((Coupled.refl v).inc COUCH.HANDOVER_CNT (by decide)).pairEvent _ _ _ _ _ _
  refine ⟨(tail.only.mode rfl).trans mode, ?_⟩
  rw [State.pairEvent_read _ _ _ _ _ _ _ _ (by decide) (by decide), State.inc_couch _ _ rfl (by decide) (by decide),
    set.read _ (by decide) (by decide) (by decide)]

/-- The registers of a standby that was the active. -/
def handedRegs : List (Fld × Nat) :=
  [(COUCH.PAIR_STATUS_HELD, 0), (COUCH.DRILL_LEFT, 0), (COUCH.PAIR_STATUS_LAG, 0), (COUCH.PAIR_STATUS_HB_OK, 1)]

theorem State.handOver_eq (s : State) (x : HandRun) (v : State) (hv : v = s.roleTold 5 s.mode x.origin) :
    s.handOver x = ((((State.puts { v with couch := v.couch.handed s.mode v.sheetNo s.couch.own, bound := { v.bound with heldMark := none } } handedRegs).couchGo 3).dropNegs).endHandover stOK) := by
  rw [hv]
  rfl

theorem State.handOver_done (s : State) (x : HandRun) (hand : s.couch.hand = some x) : HandedOver s (s.handOver x) x := by
  have told := s.roleTold_coupled 5 s.mode x.origin
  obtain ⟨mode, count⟩ := s.roleTold_shown 5 s.mode x.origin
  obtain ⟨v, hv⟩ : ∃ v, v = s.roleTold 5 s.mode x.origin := ⟨_, rfl⟩
  rw [s.handOver_eq x v hv]
  rw [← hv] at told mode count
  have sheet : v.sheetNo = s.sheetNo := told.only.read _ (by decide) (by decide)
  rw [told.couch, sheet]
  have first : Coupled roleParts roleFields (s.couch.handed s.mode s.sheetNo s.couch.own) s
      { v with couch := s.couch.handed s.mode s.sheetNo s.couch.own, bound := { v.bound with heldMark := none } } :=
    ((told.weaken rfl (by decide)).set rfl _).setBound rfl _
  have later : Coupled [.couch, .bound] [] (s.couch.handed s.mode s.sheetNo s.couch.own) v
      { v with couch := s.couch.handed s.mode s.sheetNo s.couch.own, bound := { v.bound with heldMark := none } } :=
    ((Coupled.refl v).set rfl _).setBound rfl _
  obtain ⟨w, hw⟩ : ∃ w : State, w = { v with couch := s.couch.handed s.mode s.sheetNo s.couch.own, bound := { v.bound with heldMark := none } } := ⟨_, rfl⟩
  rw [← hw] at first later ⊢
  have went := ((first.puts handedRegs (by decide)).couchGo 3 (by decide)).dropNegs rfl (by decide)
  have rest : Coupled [.couch, .bound, .mac] (handedRegs.map Prod.fst ++ [COUCH.PAIR_STATUS_STATE, COUCH.PAIR_STATUS_PROMOTABLE, PTP.NEG_PENDING,
      COUCH.PAIR_STATUS_HANDOVER_PENDING]) _ v _ :=
    (((((later.weaken rfl (fun _ m => nomatch m)).puts handedRegs (by decide)).couchGo 3 (by decide)).dropNegs rfl (by decide)).endHandover rfl (by decide)
      hand stOK)
  have negs := (Coupled.refl ((w.puts handedRegs).couchGo 3) (ps := [.mac]) (l := [PTP.NEG_PENDING])).dropNegs rfl (by decide)
  have state : (((w.puts handedRegs).couchGo 3).dropNegs).pairState = 3 :=
    (negs.read _ (by decide) (by decide) (by decide)).trans (State.couchGo_state _ (by decide))
  obtain ⟨u, hu⟩ : ∃ u, u = ((w.puts handedRegs).couchGo 3).dropNegs := ⟨_, rfl⟩
  rw [← hu] at went rest state ⊢
  have ended := (Coupled.refl u (ps := [.couch]) (l := [COUCH.PAIR_STATUS_HANDOVER_PENDING])).endHandover rfl (by decide) (x := x)
    (by rw [went.couch]; exact hand) stOK
  refine ⟨went.endHandover rfl (by decide) hand stOK, (rest.only.mode rfl).trans mode, (ended.read _ (by decide) (by decide) (by decide)).trans state,
    (rest.read _ (by decide) (by decide) (by decide)).trans count, fun h hh m => ?_⟩
  have no : u.sheetNo = s.sheetNo := went.only.read SHEET.SHEET_NUM (by decide) (by decide)
  rw [← no]
  exact State.endHandover_out (by rw [went.couch]; exact hand) stOK hh m

theorem runHandoverEdge_over {x : HandRun} (mode : s.mode ≠ 5) (hand : s.couch.hand = some x) (sheet : s.sheetNo = x.sheet)
    (handing : s.couch.handing = true) (serving : servingMode s.mode = true) : runHandoverEdge s = s.handOver x := by
  unfold runHandoverEdge
  rw [if_neg mode, hand]
  dsimp only
  rw [if_neg (by omega), handing, serving]
  exact if_pos rfl

theorem handoverEdge_over {x : HandRun} (awake : s.inReset = false) (mode : s.mode ≠ 5) (hand : s.couch.hand = some x) (sheet : s.sheetNo = x.sheet)
    (handing : s.couch.handing = true) (serving : servingMode s.mode = true) (up : s.LanesUp) :
    ∃ t, exec .handoverEdge s = .next t ∧ t.mode = 5 ∧ t.pairState = 3 ∧ t.couch.handing = false ∧ t.couch.former = s.mode ∧
      t.couch.byHandover = some s.sheetNo ∧ t.get COUCH.HANDOVER_CNT = min (s.get COUCH.HANDOVER_CNT + 1) (2 ^ 48 - 1) ∧ t.vat = s.vat ∧
      (∀ h ∈ x.cmd, h.origin = .mspi → Out.mailbox ⟨0xD0, h.tag, stOK, false, .mspi, h.ring, 0, s.sheetNo, h.index⟩ ∈ t.out) ∧
      Only roleParts roleFields s t := by
  refine ⟨_, rfl, ?_⟩
  rw [State.awake_eq awake, runHandoverEdge_over mode hand sheet handing serving]
  obtain ⟨coupled, five, state, count, told⟩ := s.handOver_done x hand
  generalize s.handOver x = u at coupled five state count told ⊢
  obtain ⟨kept, state', -⟩ := State.settle_pairRead ((coupled.only.inReset rfl).trans awake) (coupled.up (by decide) up)
  refine ⟨kept.mode.trans five, state'.trans state, ?_, ?_, ?_, ?_, kept.vat.trans (coupled.only.vat rfl), fun h hh m => kept.mem (told h hh m), coupled.only.settle⟩
  · rw [kept.couch_handing, coupled.couch]; rfl
  · rw [kept.couch_former, coupled.couch]; rfl
  · rw [kept.couch_byHandover, coupled.couch]; rfl
  · rw [kept.read _ (by decide), count]

/-! ### The take-over of the standby (R360, R363, R364) -/

/-- The couch link of a unit that leaves MIRROR. -/
def CouchSt.outOfMirror (c : CouchSt) : CouchSt :=
  { c with dual := none, suppress := false, flowing := false, offer := none, final := none, promote := none, byHandover := none, resyncOut := false, hbEqual := 0 }

/-- The couch link whose held sheets begin. -/
def CouchSt.holding (c : CouchSt) (sheet : Nat) : CouchSt := { c with heldFrom := some sheet }

/-- The couch link with a drill that ends. -/
def CouchSt.drilling (c : CouchSt) (e : Int) : CouchSt := { c with drillEnd := some e }

theorem Coupled.mirrorOut (h : Coupled ps l c s t) (hp : ps.contains .couch = true)
    (m : ∀ d ∈ [COUCH.PAIR_STATUS_STATE, COUCH.PAIR_STATUS_PROMOTABLE, COUCH.PAIR_STATUS_HB_WIRE], d ∈ l) : Coupled ps l c.outOfMirror s (t.mirrorOut true) :=
  (h.puts [(COUCH.PAIR_STATUS_STATE, 0), (COUCH.PAIR_STATUS_PROMOTABLE, 0), (COUCH.PAIR_STATUS_HB_WIRE, 0)] (by simpa using m)).update hp CouchSt.outOfMirror

/-- The fields of the held values. -/
def heldFields : List Fld := [COUCH.PAIR_STATUS_HELD, BOUND.BOUND_STATUS, BOUND.BOUND_CORE] ++ (List.range 8).map BOUND.PORT_BOUND

theorem Coupled.showHeld (h : Coupled ps l c s t) (m : ∀ d ∈ heldFields, d ∈ l) : Coupled ps l c s t.showHeld := by
  unfold State.showHeld
  split
  · refine (h.puts _ ?_).foldRange 8 _ (fun x i hi k => k.put _ _ (m _ ?_))
    · intro q hq
      fin_cases hq
      · exact m BOUND.BOUND_STATUS (by decide)
      · exact m BOUND.BOUND_CORE (by decide)
    · exact List.mem_append_right _ (List.mem_map_of_mem (List.mem_range.mpr hi))
  · exact h

theorem Coupled.holdValues (h : Coupled ps l c s t) (hp : ps.contains .couch = true) (hb : ps.contains .bound = true) (m : ∀ d ∈ heldFields, d ∈ l) :
    Coupled ps l (c.holding t.sheetNo) s t.holdValues := by
  have set := ((h.setBound hb { t.bound with heldMark := t.couch.block.map (fun (b : Timing) => b.wm.map heldBody) }).update hp
    (fun c => c.holding t.sheetNo)).put COUCH.PAIR_STATUS_HELD 1 (m _ (by decide))
  exact set.showHeld m

theorem Coupled.todPromote (h : Coupled ps l c s t) (hp : ps.contains .syn = true) : Coupled ps l c s t.todPromote := by
  refine h.foldRange 4 _ (fun x k _ g => ?_)
  dsimp only
  split
  · exact g
  · have set (y : SynSt) := g.setSyn hp y
    split
    · exact g
    · split
      · exact set _
      · exact ((set _).charge0 200).emit _

/-- The standby has entered a serving mode at H. -/
structure TookOver (s t : State) (m dwell : Nat) : Prop where
  only : Only roleParts roleFields s t
  mode : t.mode = m
  state : t.pairState = 0
  held : t.flag COUCH.PAIR_STATUS_HELD = true
  heldFrom : t.couch.heldFrom = some s.sheetNo
  count : t.get COUCH.HANDOVER_CNT = min (s.get COUCH.HANDOVER_CNT + 1) (2 ^ 48 - 1)
  drill : dwell ≠ 0 → t.couch.drillEnd = some (s.mono + (dwell * secU : Nat)) ∧ t.get COUCH.DRILL_LEFT = dwell % 65536

theorem Only.units (h : Only ps l s t) (hp : ps.contains .time = false) : t.units = s.units := by rw [State.units, State.units, h.time hp]

theorem Only.mono (h : Only ps l s t) (hp : ps.contains .time = false) : t.mono = s.mono := by rw [State.mono, State.mono, h.units hp, h.time hp]

theorem State.showHeld_held (s : State) : s.showHeld.get COUCH.PAIR_STATUS_HELD = s.get COUCH.PAIR_STATUS_HELD := by
  have h : Coupled [] (BOUND.BOUND_STATUS :: BOUND.BOUND_CORE :: (List.range 8).map BOUND.PORT_BOUND) s.couch s s.showHeld := by
    unfold State.showHeld
    split
    · refine ((Coupled.refl s).puts _ ?_).foldRange 8 _ (fun x i hi k => k.put _ _ ?_)
      · intro q hq
        fin_cases hq
        · exact List.mem_cons_self ..
        · exact List.mem_cons_of_mem _ (List.mem_cons_self ..)
      · exact List.mem_cons_of_mem _ (List.mem_cons_of_mem _ (List.mem_map_of_mem (List.mem_range.mpr hi)))
    · exact Coupled.refl s
  exact h.read _ (by decide) (by decide) (by decide)

theorem State.holdValues_held (s : State) : s.holdValues.flag COUCH.PAIR_STATUS_HELD = true := by
  unfold State.holdValues State.flag
  dsimp only
  rw [State.showHeld_held]
  exact State.flag_put_bit _ _ rfl true

theorem State.takeOver_done (s : State) (m dwell : Nat) : TookOver s (s.takeOver m dwell) m dwell := by
  have told := s.roleTold_coupled m 5 .auto
  obtain ⟨mode, count⟩ := s.roleTold_shown m 5 .auto
  have run : s.takeOver m dwell = (let w := (((s.roleTold m 5 .auto).mirrorOut true).holdValues).todPromote
      if dwell = 0 then w else State.put { w with couch := w.couch.drilling (w.mono + (dwell * secU : Nat)) } COUCH.DRILL_LEFT dwell) := rfl
  rw [run]
  obtain ⟨v, hv⟩ : ∃ v, v = s.roleTold m 5 .auto := ⟨_, rfl⟩
  rw [← hv] at told mode count ⊢
  have out := (told.weaken (qs := roleParts) (m := roleFields) rfl (by decide)).mirrorOut rfl (by decide)
  have state : (v.mirrorOut true).pairState = 0 :=
    (State.couchSet_get _ _ _).trans (State.get_puts_mem _ (by decide) (by decide) (by decide))
  obtain ⟨w, hw⟩ : ∃ w, w = v.mirrorOut true := ⟨_, rfl⟩
  rw [← hw] at out state ⊢
  have sheet : w.sheetNo = s.sheetNo := out.only.read SHEET.SHEET_NUM (by decide) (by decide)
  have outTail : Coupled [.couch] [COUCH.PAIR_STATUS_STATE, COUCH.PAIR_STATUS_PROMOTABLE, COUCH.PAIR_STATUS_HB_WIRE] v.couch.outOfMirror v w :=
    hw ▸ (Coupled.refl v).mirrorOut rfl (fun _ m => m)
  have held := (out.holdValues rfl rfl (by decide)).todPromote rfl
  have rest := ((Coupled.refl w (ps := [.couch, .bound, .syn]) (l := heldFields)).holdValues rfl rfl (fun _ m => m)).todPromote rfl
  have shown := w.holdValues_held
  have tods := (Coupled.refl w.holdValues (ps := [.syn]) (l := [])).todPromote rfl
  rw [← tods.flag _ (by decide) (by decide) (fun _ m => nomatch m)] at shown
  obtain ⟨u, hu⟩ : ∃ u, u = w.holdValues.todPromote := ⟨_, rfl⟩
  rw [← hu] at held rest shown ⊢
  rw [sheet] at held
  have modeU : u.mode = m := (rest.only.mode rfl).trans ((outTail.only.mode rfl).trans mode)
  have stateU : u.pairState = 0 := (rest.read _ (by decide) (by decide) (by decide)).trans state
  have countU : u.get COUCH.HANDOVER_CNT = min (s.get COUCH.HANDOVER_CNT + 1) (2 ^ 48 - 1) :=
    (rest.read _ (by decide) (by decide) (by decide)).trans ((outTail.read _ (by decide) (by decide) (by decide)).trans count)
  have heldFrom : u.couch.heldFrom = some s.sheetNo := by rw [held.couch]; rfl
  dsimp only
  split
  · next none => exact ⟨held.only, modeU, stateU, shown, heldFrom, countU, fun some => absurd none some⟩
  · have drill := (held.set rfl (u.couch.drilling (u.mono + (dwell * secU : Nat)))).put COUCH.DRILL_LEFT dwell (by decide)
    have last := ((Coupled.refl u (ps := [.couch]) (l := [COUCH.DRILL_LEFT])).set rfl (u.couch.drilling (u.mono + (dwell * secU : Nat)))).put
      COUCH.DRILL_LEFT dwell (by decide)
    refine ⟨drill.only, (last.only.mode rfl).trans modeU, (last.read _ (by decide) (by decide) (by decide)).trans stateU,
      (last.flag _ (by decide) (by decide) (by decide)).trans shown, ?_, (last.read _ (by decide) (by decide) (by decide)).trans countU,
      fun _ => ⟨?_, State.get_put_same _ _ _⟩⟩
    · rw [last.couch]
      exact heldFrom
    · rw [last.couch, held.only.mono rfl]
      rfl

theorem handoverEdge_takes {m dwell : Nat} (awake : s.inReset = false) (mode : s.mode = 5) (final : s.couch.final = some (m, s.taiSheet, dwell))
    (serving : servingMode m = true) :
    ∃ t, exec .handoverEdge s = .next t ∧ t.mode = m ∧ t.pairState = 0 ∧ t.couch.heldFrom = some s.sheetNo ∧
      t.get COUCH.HANDOVER_CNT = min (s.get COUCH.HANDOVER_CNT + 1) (2 ^ 48 - 1) ∧ t.flag COUCH.PAIR_STATUS_HELD = true ∧ t.vat = s.vat ∧
      (dwell ≠ 0 → t.couch.drillEnd = some (s.mono + (dwell * secU : Nat)) ∧ t.get COUCH.DRILL_LEFT = dwell % 65536) ∧
      Only roleParts roleFields s t := by
  have run : runHandoverEdge s = s.takeOver m dwell := by
    unfold runHandoverEdge
    rw [if_pos mode, final]
    exact if_pos ⟨rfl, serving⟩
  refine ⟨_, rfl, ?_⟩
  rw [State.awake_eq awake, run]
  have done := s.takeOver_done m dwell
  generalize s.takeOver m dwell = u at done ⊢
  have kept : Keeps [] u u.settle := (Keeps.refl u).settle
  have steady : u.SteadyLink := .inl (by
    rw [done.mode]
    intro five
    rw [five] at serving
    exact absurd serving (by decide))
  obtain ⟨state, -⟩ := State.settle_steady ((done.only.inReset rfl).trans awake) steady
  refine ⟨kept.mode.trans done.mode, state.trans done.state, kept.couch_heldFrom.trans done.heldFrom, ?_, ?_, kept.vat.trans (done.only.vat rfl),
    fun some => ?_, done.only.settle⟩
  · rw [kept.read _ (by decide), done.count]
  · rw [kept.flag _ (by decide), done.held]
  · obtain ⟨drill, left⟩ := done.drill some
    exact ⟨kept.couch_drillEnd.trans drill, by rw [kept.read _ (by decide), left]⟩

/-! ### Before and after the handover (R360, R361, R363) -/

theorem handoverSheet_cancels {x : HandRun} (awake : s.inReset = false) (hand : s.couch.hand = some x) (sheet : s.sheetNo + 1 = x.sheet)
    (accepted : x.accepted = false) :
    ∃ t, exec .handoverSheet s = .next t ∧ (s.flt.handover = false →
        t.flag COUCH.PAIR_STATUS_HANDOVER_PENDING = false ∧ Keeps [COUCH.PAIR_STATUS_HANDOVER_PENDING] { s with couch := { s.couch with handing := false } } t) := by
  have run : runHandoverSheet s = s.endHandover stNOTREADY := by
    unfold runHandoverSheet
    rw [hand]
    dsimp only
    rw [if_neg (by omega), accepted]
    exact if_neg Bool.false_ne_true
  refine ⟨_, rfl, ?_⟩
  rw [State.awake_eq awake, run]
  have ended : Coupled [.couch] [COUCH.PAIR_STATUS_HANDOVER_PENDING] s.couch.unhanded s (s.endHandover stNOTREADY) :=
    (Coupled.refl s).endHandover rfl (by decide) hand _
  have pending : (s.endHandover stNOTREADY).flag COUCH.PAIR_STATUS_HANDOVER_PENDING = false := by
    have put : (State.put { s with couch := s.couch.unhanded } COUCH.PAIR_STATUS_HANDOVER_PENDING 0).flag COUCH.PAIR_STATUS_HANDOVER_PENDING = false :=
      State.flag_put_bit _ _ rfl false
    unfold State.endHandover
    rw [hand]
    dsimp only
    cases x.cmd with
    | none => exact put
    | some cmd => exact (congrArg (· != 0) (((Calm.refl (l := []) _).complete _ _ _ _ _).get _ (.inl (by decide)) (fun _ m => nomatch m))).trans put
  have kept : Keeps [COUCH.PAIR_STATUS_HANDOVER_PENDING] { s with couch := { s.couch with handing := false } } (s.endHandover stNOTREADY) := by
    have put : Keeps [COUCH.PAIR_STATUS_HANDOVER_PENDING] { s with couch := { s.couch with handing := false } }
        (State.put { s with couch := s.couch.unhanded } COUCH.PAIR_STATUS_HANDOVER_PENDING 0) :=
      have same : Keeps [COUCH.PAIR_STATUS_HANDOVER_PENDING] { s with couch := { s.couch with handing := false } } { s with couch := s.couch.unhanded } :=
        ⟨fun _ _ _ => rfl, rfl, List.suffix_refl _⟩
      same.putIn COUCH.PAIR_STATUS_HANDOVER_PENDING 0 (List.mem_singleton_self _)
    unfold State.endHandover
    rw [hand]
    dsimp only
    cases x.cmd with
    | none => exact put
    | some cmd => exact put.complete _ _ _ _ _
  generalize s.endHandover stNOTREADY = u at ended pending kept ⊢
  intro calm
  have quiet : u.NoEscalation := .inl (ended.calm.esc.trans calm)
  obtain ⟨-, fields⟩ := State.settle_hand ((ended.only.inReset rfl).trans awake) quiet
  exact ⟨(congrArg (· != 0) (fields _ (by decide))).trans pending, kept.settle⟩

theorem handoverSheet_runs {x : HandRun} (awake : s.inReset = false) (hand : s.couch.hand = some x) (sheet : s.sheetNo + 1 = x.sheet)
    (accepted : x.accepted = true) (serving : servingMode s.mode = true) :
    ∃ t, exec .handoverSheet s = .next t ∧ Keeps [] { s with couch := { s.couch with handing := true } } t := by
  have run : runHandoverSheet s = { s with couch := { s.couch with handing := true } } := by
    unfold runHandoverSheet
    rw [hand]
    dsimp only
    rw [if_neg (by omega), accepted, serving]
    exact if_pos rfl
  refine ⟨_, rfl, ?_⟩
  rw [State.awake_eq awake, run]
  exact (Keeps.refl _).settle

theorem heldSheetsEnd_ends {n : Nat} (awake : s.inReset = false) (held : s.couch.heldFrom = some n) (third : n + 2 ≤ s.sheetNo) :
    ∃ t, exec .heldSheetsEnd s = .next t ∧ t.flag COUCH.PAIR_STATUS_HELD = false ∧ t.couch.heldFrom = none ∧ t.bound.heldMark = none ∧
      Only [.couch, .bound] [COUCH.PAIR_STATUS_HELD] s t := by
  refine ⟨_, rfl, ?_⟩
  rw [State.awake_eq awake]
  have run : runHeldSheetsEnd s = State.put { s with
      couch := { s.couch with heldFrom := none, block := if s.mode = 5 then s.couch.block else none }
      bound := { s.bound with heldMark := none } } COUCH.PAIR_STATUS_HELD 0 := by
    unfold runHeldSheetsEnd
    rw [held]
    exact if_neg (by omega)
  rw [run]
  have set := ((Coupled.refl s (ps := [.couch, .bound]) (l := [COUCH.PAIR_STATUS_HELD])).set rfl
    { s.couch with heldFrom := none, block := if s.mode = 5 then s.couch.block else none }).setBound rfl { s.bound with heldMark := none }
  have put := set.put COUCH.PAIR_STATUS_HELD 0 (by decide)
  have shown := State.flag_put_bit { s with
      couch := { s.couch with heldFrom := none, block := if s.mode = 5 then s.couch.block else none }
      bound := { s.bound with heldMark := none } } COUCH.PAIR_STATUS_HELD rfl false
  have mark : (State.put { s with
      couch := { s.couch with heldFrom := none, block := if s.mode = 5 then s.couch.block else none }
      bound := { s.bound with heldMark := none } } COUCH.PAIR_STATUS_HELD 0).bound.heldMark = none := rfl
  obtain ⟨u, hu⟩ : ∃ u, u = State.put { s with
      couch := { s.couch with heldFrom := none, block := if s.mode = 5 then s.couch.block else none }
      bound := { s.bound with heldMark := none } } COUCH.PAIR_STATUS_HELD 0 := ⟨_, rfl⟩
  rw [← hu] at put mark ⊢
  have kept : Keeps [] u u.settle := (Keeps.refl u).settle
  refine ⟨?_, ?_, ?_, put.only.settle⟩
  · rw [kept.flag _ (by decide), hu]
    exact shown
  · rw [kept.couch_heldFrom, put.couch]
  · rw [kept.bound, mark]

/-- The fields of a change of role lie in the blocks that the frame names. -/
theorem role_block : ∀ d ∈ roleFields, noisy d.key = true ∨
    ∃ e ∈ regBlock 0x140000 0x180000 ++ regBlock 0x1D0000 0x1E0000 ++ [PTP.NEG_PENDING, GLB.GLB_MODE_MODE], d.key = e.key := by
  have all : ∀ d ∈ roleFields, (32 * 0x140000 ≤ d.key ∧ d.key < 32 * 0x180000) ∨ (32 * 0x1D0000 ≤ d.key ∧ d.key < 32 * 0x1E0000) ∨
      d = PTP.NEG_PENDING ∨ d = GLB.GLB_MODE_MODE := by decide
  intro d hd
  right
  obtain ⟨lo, hi⟩ | ⟨lo, hi⟩ | rfl | rfl := all d hd
  · obtain ⟨e, he, same⟩ := mem_block lo hi
    exact ⟨e, List.mem_append_left _ (List.mem_append_left _ he), same⟩
  · obtain ⟨e, he, same⟩ := mem_block lo hi
    exact ⟨e, List.mem_append_left _ (List.mem_append_right _ he), same⟩
  · exact ⟨_, List.mem_append_right _ (by simp), rfl⟩
  · exact ⟨_, List.mem_append_right _ (by simp), rfl⟩

/-- Settles O43: each sheet of a handover by its own theorem. -/
theorem handoverEventsComplete : Obligations.HandoverEventsComplete := by
  refine ⟨fun s x awake hand sheet accepted serving => handoverSheet_runs awake hand sheet accepted serving,
    fun s x awake hand sheet accepted => handoverSheet_cancels awake hand sheet accepted,
    fun s x awake mode hand sheet handing serving en ref => ?_, fun s m dwell awake mode final serving => ?_,
    fun s awake mode by_ first => ⟨_, rfl, ?_⟩, fun s n awake held third => heldSheetsEnd_ends awake held third⟩
  · obtain ⟨t, run, five, state, handing, former, by_, count, vat, told, only⟩ := handoverEdge_over awake mode hand sheet handing serving ⟨en, ref⟩
    exact ⟨t, run, five, state, handing, former, by_, count, vat, told, only.quiet role_block⟩
  · obtain ⟨t, run, mode, state, from_, count, held, vat, drill, only⟩ := handoverEdge_takes awake mode final serving
    exact ⟨t, run, mode, state, from_, count, held, vat, drill, only.quiet role_block⟩
  · rw [State.awake_eq awake, show runHandoverRepromote s = _ from if_pos ⟨mode, by_, first⟩]
    exact (Keeps.refl _).settle

end Sys2Proof.Machine
end

section
/-! The commands of the pair. -/

namespace Sys2Proof.Machine

variable {ps : List Part} {l : List Fld} {s t u v : State} {c : CouchSt}

/-! ### An accepted command is admitted (R371, R383, R393) -/

/-- A command whose stock is paid is under way. -/
def State.admitted (s : State) (h : Hdr) : State :=
  let s := s.put HIF.HIF_INFLIGHT_CMDS (s.get HIF.HIF_INFLIGHT_CMDS + 1)
  if h.origin = .mspi then { s.putB HIF.HIF_STATUS_MB_BUSY true with hif := { s.hif with mbDone := false } }
  else s.put (HIF.RING_CONS h.ring) (s.get (HIF.RING_CONS h.ring) + 1)

theorem Keeps.admitted (k : Keeps l s t) {h : Hdr} (ring : h.origin = .mspi ∨ h.ring < 64) : Keeps l s (t.admitted h) := by
  have put := k.put HIF.HIF_INFLIGHT_CMDS (t.get HIF.HIF_INFLIGHT_CMDS + 1) .hif_hif_inflight_cmds
  unfold State.admitted
  dsimp only
  split
  · exact Keeps.hifSet (put.putB HIF.HIF_STATUS_MB_BUSY true .hif_hif_status_mb_busy) _
  · next no => exact put.put (HIF.RING_CONS h.ring) _ (.hif_ring_cons h.ring (ring.resolve_left no))

theorem Calm.admitted (k : Calm l s t) {h : Hdr} (ring : h.origin = .mspi ∨ h.ring < 64) : Calm l s (t.admitted h) := by
  have put := k.put HIF.HIF_INFLIGHT_CMDS (t.get HIF.HIF_INFLIGHT_CMDS + 1) (by decide)
  unfold State.admitted
  dsimp only
  split
  · exact (put.putB HIF.HIF_STATUS_MB_BUSY true (by decide)).hifSet _
  · next no =>
    have small := ring.resolve_left no
    exact put.put (HIF.RING_CONS h.ring) _ (by simp only [OffCalm, HIF.RING_CONS]; omega)

theorem State.Accepts.admits {h : Hdr} {pf1 : Bool} {extra : Nat} (a : s.Accepts h pf1 extra) (op : Nat) (self : Instr) (f : State → State) :
    ∃ u, Keeps [] s u ∧ Calm [] s u ∧ s.command h op pf1 self extra f = f (u.admitted h) := by
  obtain ⟨u, paid⟩ := Option.isSome_iff_exists.1 a.stock
  have kept : Keeps [] s u := (Keeps.refl s).charge paid
  have ring : h.origin = .mspi ∨ h.ring < 64 := a.ring.imp id And.left
  have after := kept.admitted ring
  refine ⟨u, kept, (Calm.refl s).charge paid, ?_⟩
  have first : s.held.any (fun w => w.ring == some (cmdSource h)) = false := by
    rw [List.any_eq_false]
    intro w hw
    simpa using a.order w hw
  have room : decide (256 ≤ s.get HIF.HIF_INFLIGHT_CMDS) = false := by simpa using a.room
  have running : ¬(!s.running || decide (256 ≤ s.get HIF.HIF_INFLIGHT_CMDS) || s.held.any (fun w => w.ring == some (cmdSource h))) = true := by
    simp [a.running, first, room]
  have share : ¬(h.origin = .mspi ∧ (u.admitted h).flag HIF.HIF_STATUS_PF0_BME = true ∧ (u.admitted h).flag HIF.HIF_CFG_MSPI_SHARE = false) := by
    rw [after.flag _ (by decide), after.flag _ (by decide)]
    exact a.share
  have fn : ¬(h.origin = .pf1 ∧ pf1 = false) := fun x => by simp [a.fn x.1] at x
  have halted : ¬(h.origin ≠ .mspi ∧ s.flag (HIF.RING_STAT_HALTED h.ring) = true) := fun x => by
    rw [(a.ring.resolve_left x.1).2] at x
    exact Bool.false_ne_true x.2
  unfold State.command State.tryPay
  dsimp only
  rw [if_neg halted, if_neg running, paid]
  unfold State.admitted at share ⊢
  by_cases m : h.origin = .mspi
  · simp only [m, if_true, true_and, a.form, reduceCtorEq, false_and, if_false] at share ⊢
    exact if_neg share
  · simp only [m, if_false, false_and, a.form, fn]

/-! ### PAIR_SWITCHOVER, PAIR_PROMOTE and PAIR_RESYNC (R360, R362, R367) -/

theorem Calm.journalCmd (k : Calm l s t) (h : Hdr) (op a b : Nat) : Calm l s (t.journalCmd h op a b) := k.journal _ _ _ _ _ _

theorem Keeps.promoting (h : Keeps l s t) (p : Option PromoteRun) :
    Keeps l { s with couch := s.couch.promoting p } { t with couch := t.couch.promoting p } :=
  ⟨h.get, congrArg (fun c => ({ c with couch := c.couch.promoting p } : Core)) h.core, h.out⟩

/-- The couch link of a standby that asks for a fill. -/
def CouchSt.asking (c : CouchSt) : CouchSt := { c with resyncOut := true, fillWait := true, fillSeen := false }

theorem Keeps.asking (h : Keeps l s t) : Keeps l { s with couch := s.couch.asking } { t with couch := t.couch.asking } :=
  ⟨h.get, congrArg (fun c => ({ c with couch := c.couch.asking } : Core)) h.core, h.out⟩

/-- The couch link with a handover. -/
def CouchSt.handing_ (c : CouchSt) (x : HandRun) : CouchSt := { c with hand := some x }

/-- The fields of a handover that is announced. -/
def announceFields : List Fld := [COUCH.PAIR_STATUS_HANDOVER_PENDING, COUCH.HANDOVER_SHEET]

theorem State.startHandover_coupled (s : State) (cmd : Option Hdr) (o : Origin) (dwell : Nat) :
    Coupled [.couch] announceFields (s.couch.handing_ ⟨cmd, o, s.sheetNo + 3, dwell, false⟩) s (s.startHandover cmd o dwell) :=
  ((Coupled.refl s).set rfl _).puts _ (by simp [announceFields])

theorem State.startHandover_keeps (s : State) (cmd : Option Hdr) (o : Origin) (dwell : Nat) :
    Keeps announceFields s (s.startHandover cmd o dwell) := by
  have set : Keeps announceFields s { s with couch := s.couch.handing_ ⟨cmd, o, s.sheetNo + 3, dwell, false⟩ } :=
    ⟨fun _ _ _ => rfl, rfl, List.suffix_refl _⟩
  exact set.putsIn _ (by simp [announceFields])

theorem State.startHandover_pending (s : State) (cmd : Option Hdr) (o : Origin) (dwell : Nat) :
    (s.startHandover cmd o dwell).flag COUCH.PAIR_STATUS_HANDOVER_PENDING = true :=
  (State.flag_put_other _ _ _ _ (by decide)).trans (State.flag_put_bit _ _ rfl true)

theorem pairSwitchover_starts {h : Hdr} {dwell : Nat} (a : s.Accepts h false 0) (serving : servingMode s.mode = true) (free : s.couch.hand = none) :
    ∃ t, exec (.pairSwitchover h dwell) s = .next t ∧ t.couch.hand = some ⟨some h, h.origin, s.sheetNo + 3, dwell % 65536, false⟩ ∧
      t.flag COUCH.PAIR_STATUS_HANDOVER_PENDING = true ∧ Keeps [COUCH.PAIR_STATUS_HANDOVER_PENDING, COUCH.HANDOVER_SHEET] s t := by
  have ring : h.origin = .mspi ∨ h.ring < 64 := a.ring.imp id And.left
  obtain ⟨u, kept, calm, run⟩ := a.admits 0xD0 (.pairSwitchover h dwell) (fun s =>
    if !servingMode s.mode then s.complete h 0xD0 stMODE 0
    else if s.couch.hand.isSome then s.complete h 0xD0 stBUSY 0
    else (s.startHandover (some h) h.origin (dwell % 65536)).journalCmd h 0xD0 dwell 0)
  have keptV := kept.admitted ring
  have calmV := calm.admitted ring
  generalize u.admitted h = v at run keptV calmV
  have free' : v.couch.hand = none := by rw [calmV.couch, free]
  rw [keptV.mode, serving, if_neg (by decide), free', if_neg (by decide)] at run
  have started := v.startHandover_coupled (some h) h.origin (dwell % 65536)
  have keeps := keptV.any.trans (v.startHandover_keeps (some h) h.origin (dwell % 65536))
  have pending := v.startHandover_pending (some h) h.origin (dwell % 65536)
  rw [keptV.sheetNo] at started
  generalize v.startHandover (some h) h.origin (dwell % 65536) = w at run started keeps pending
  have journal : Calm [] w (w.journalCmd h 0xD0 dwell 0) := (Calm.refl w).journalCmd _ _ _ _
  have keepsJ := keeps.journalCmd h 0xD0 dwell 0
  refine ⟨_, rfl, ?_⟩
  rw [State.awake_eq a.awake, show runPairSwitchover h dwell s = _ from run]
  generalize w.journalCmd h 0xD0 dwell 0 = x at journal keepsJ ⊢
  have hand : x.couch.hand = some ⟨some h, h.origin, s.sheetNo + 3, dwell % 65536, false⟩ := by rw [journal.couch, started.couch]; rfl
  obtain ⟨hand', fields⟩ := State.settle_hand (keepsJ.inReset.trans a.awake) (s := x) (.inr (.inr (.inr (by rw [hand]; rfl))))
  refine ⟨hand'.trans hand, ?_, keepsJ.settle⟩
  rw [State.flag, fields _ (by decide), journal.get _ (.inl (by decide)) (fun _ m => nomatch m)]
  exact pending

/-- Settles O25: PAIR_SWITCHOVER announces a handover, PAIR_PROMOTE a promotion, and PAIR_RESYNC asks for a fill. -/
theorem pairCommandsComplete : Obligations.PairCommandsComplete := by
  refine ⟨fun s h dwell a serving free => pairSwitchover_starts a serving free, fun s h m a five serving quiet => ?_, fun s h a five synced => ?_⟩
  · obtain ⟨v, hv, run, -⟩ := a.elim (g := runPairPromote h m) rfl
    refine ⟨_, rfl, ?_⟩
    rw [run, hv.mode, five, if_neg (by decide), serving, if_neg (by decide), hv.flag _ (by decide), quiet, if_neg (by decide)]
    exact (((hv.promoting _).journalCmd _ _ _ _).complete _ _ _ _ _).settle
  · have ring : h.origin = .mspi ∨ h.ring < 64 := a.ring.imp id And.left
    obtain ⟨u, kept, calm, run⟩ := a.admits 0xD2 (.pairResync h) (fun s =>
      if s.mode ≠ 5 then s.complete h 0xD2 stMODE 0
      else if s.pairState ≠ 3 ∧ s.pairState ≠ 4 then s.complete h 0xD2 stNOTREADY 0
      else ((s.askFill).journalCmd h 0xD2 0 0).complete h 0xD2 stOK 0)
    have keptV := kept.admitted ring
    have state : (u.admitted h).pairState = s.pairState := (calm.admitted ring).get _ (.inl (by decide)) (fun _ m => nomatch m)
    generalize u.admitted h = v at run keptV state
    rw [if_neg (not_not_intro (keptV.mode.trans five)), if_neg (by rw [state]; omega)] at run
    refine ⟨_, rfl, ?_⟩
    rw [State.awake_eq a.awake, show runPairResync h s = _ from run]
    exact ((keptV.asking.journalCmd _ _ _ _).complete _ _ _ _ _).settle

end Sys2Proof.Machine
end

section
/-! What judging the faults does to the registers of the fault block (R426 to R430). -/

namespace Sys2Proof.Machine

variable {ps : List Part} {l : List Fld} {s t u : State}

/-! ### Single bits of a number -/

theorem bitOf_eq_testBit (v i : Nat) : bitOf v i = v.testBit i := by
  rw [bitOf, Nat.testBit_eq_decide_div_mod_eq, Bool.eq_iff_iff, beq_iff_eq, decide_eq_true_iff]

theorem bitOf_mod {w i : Nat} (v : Nat) (h : i < w) : bitOf (v % 2 ^ w) i = bitOf v i := by
  rw [bitOf_eq_testBit, bitOf_eq_testBit, Nat.testBit_mod_two_pow, decide_eq_true h, Bool.true_and]

/-- Making a bit what it is to be leaves the part below it and the part above it. -/
theorem putBit_parts (v i : Nat) (b : Bool) :
    putBit v i b % 2 ^ i = v % 2 ^ i ∧ putBit v i b / 2 ^ i / 2 = v / 2 ^ i / 2 ∧ putBit v i b / 2 ^ i % 2 = if b then 1 else 0 := by
  have pos : 0 < 2 ^ i := Nat.two_pow_pos i
  have bit : bitOf v i = true ↔ v / 2 ^ i % 2 = 1 := by simp [bitOf]
  unfold putBit
  generalize hq : v / 2 ^ i = q at bit ⊢
  by_cases on : bitOf v i = true
  · have one := bit.1 on
    have fits : 2 ^ i ≤ v := by
      by_contra short
      rw [Nat.div_eq_of_lt (by omega)] at hq
      omega
    rw [if_pos on]
    cases b
    · have high : (v - 2 ^ i) / 2 ^ i = q - 1 := by rw [← hq]; simpa using Nat.sub_mul_div v (2 ^ i) 1
      rw [if_neg Bool.false_ne_true, if_neg Bool.false_ne_true, ← Nat.mod_eq_sub_mod fits, high]
      exact ⟨rfl, by omega, by omega⟩
    · exact ⟨rfl, congrArg (· / 2) hq, hq.symm ▸ one⟩
  · have zero : q % 2 = 0 := by
      have off : ¬q % 2 = 1 := fun h => on (bit.2 h)
      omega
    rw [if_neg on]
    cases b
    · exact ⟨rfl, congrArg (· / 2) hq, hq.symm ▸ zero⟩
    · rw [if_pos rfl, if_pos rfl, Nat.add_mod_right, Nat.add_div_right v pos, hq]
      exact ⟨rfl, by omega, by omega⟩

theorem bitOf_putBit_same (v i : Nat) (b : Bool) : bitOf (putBit v i b) i = b := by
  obtain ⟨-, -, bit⟩ := putBit_parts v i b
  rw [bitOf, bit]
  cases b <;> rfl

theorem bitOf_putBit_other (v : Nat) {i j : Nat} (b : Bool) (h : j ≠ i) : bitOf (putBit v i b) j = bitOf v j := by
  obtain ⟨low, high, -⟩ := putBit_parts v i b
  obtain below | above : j < i ∨ i < j := by omega
  · rw [← bitOf_mod _ below, low, bitOf_mod _ below]
  · have shift (x : Nat) : x / 2 ^ j = x / 2 ^ i / 2 / 2 ^ (j - i - 1) := by
      rw [Nat.div_div_eq_div_mul, Nat.div_div_eq_div_mul, ← Nat.pow_succ', ← Nat.pow_add]
      congr 2
      omega
    rw [bitOf, bitOf, shift, high, ← shift]

/-! ### The fields that judging writes -/

/-- But for the fields named, the register fields of the fault block (BAR0 offsets 0x210000 to 0x21FFFF) read the same. -/
def FltBut (l : List Fld) (s t : State) : Prop :=
  ∀ f : Fld, 69206016 ≤ f.key → f.key < 71303168 → (∀ d ∈ l, f.key ≠ d.key) → t.get f = s.get f

theorem FltBut.refl (s : State) : FltBut l s s := fun _ _ _ _ => rfl

theorem FltBut.tail (a : FltBut l s t) (b : FltSame t u) : FltBut l s u := fun f lo hi off => (b f lo hi).trans (a f lo hi off)

theorem FltBut.fltSet (h : FltBut l s t) (x : FltSt) : FltBut l s { t with flt := x } := h

theorem FltBut.put (h : FltBut l s t) (f : Fld) (v : Nat) (m : ∃ d ∈ l, f.key = d.key) : FltBut l s (t.put f v) := fun g lo hi off => by
  obtain ⟨d, md, e⟩ := m
  exact (State.get_put_other t f g v (e ▸ off d md)).trans (h g lo hi off)

theorem FltBut.ite {c : Prop} [Decidable c] {a b : State} (ha : FltBut l s a) (hb : FltBut l s b) : FltBut l s (if c then a else b) := by
  split
  · exact ha
  · exact hb

theorem FltBut.foldRange (n : Nat) (g : State → Nat → State) (h : FltBut l s t)
    (k : ∀ (u : State) (i : Nat), i < n → FltBut l s u → FltBut l s (g u i)) : FltBut l s ((List.range n).foldl g t) :=
  foldRange_inv (FltBut l s) g h fun u i hi hu => k u i hi hu

theorem FltBut.inc (h : FltBut l s t) (f : Fld) (m : ∃ d ∈ l, f.key = d.key) : FltBut l s (t.inc f) := by
  have hb := blockOf_lt (f.key / 32)
  unfold State.inc State.incBy
  exact FltBut.ite h (FltBut.ite (h.put f _ m) ((h.put f _ m).tail (((FltSame.refl _).put GLB.GLB_CNT_OVF _ (.inl (by decide))).irqLevel _ _ (by omega))))

theorem FltBut.event (h : FltBut l s t) (c o : Nat) (v : Int) : FltBut l s (t.event c o v) :=
  h.tail (((FltSame.refl t).charge0 10).eventIn c o v)

theorem FltBut.setFbit (h : FltBut l s t) (r : Nat → Fld) {i : Nat} (b : Bool) (hi : i < 24) (m : r 0 ∈ l) : FltBut l s (t.setFbit r i b) := by
  have word : i / 32 = 0 := by omega
  unfold State.setFbit
  rw [word]
  exact h.put _ _ ⟨_, m, rfl⟩

/-- The fields of the fault block that judging the faults may write. -/
def judgedFields : List Fld :=
  [FLT.FLT_WIRE 0, FLT.WIRE_CNT, FLT.FLT_ACTIVE 0, FLT.FLT_ACKED 0, FLT.FLT_STATUS_ACTIVE_N, FLT.FLT_STATUS_FAULT_N, FLT.FLT_STATUS_TIMER_RUN] ++
    (List.range 24).map FLT.FLT_RAISE_CNT

theorem FltBut.judgeWire (h : FltBut l s t) {i : Nat} (hi : i < 24) (m : ∀ d ∈ [FLT.FLT_WIRE 0, FLT.WIRE_CNT], d ∈ l) : FltBut l s (t.judgeWire i) := by
  have set := h.setFbit FLT.FLT_WIRE (t.pairBroken i) hi (m _ (by simp))
  unfold State.judgeWire
  exact FltBut.ite h (FltBut.ite ((set.inc _ ⟨_, m _ (by simp), rfl⟩).event _ _ _) set)

theorem raiseCnt_judged {i : Nat} (hi : i < 24) : FLT.FLT_RAISE_CNT i ∈ judgedFields :=
  List.mem_append_right _ (List.mem_map_of_mem (List.mem_range.2 hi))

theorem FltBut.judgeFault (h : FltBut judgedFields s t) {i : Nat} (hi : i < 24) : FltBut judgedFields s (t.judgeFault i) := by
  have active (u : State) (k : FltBut judgedFields s u) (b : Bool) : FltBut judgedFields s (u.setFbit FLT.FLT_ACTIVE i b) :=
    k.setFbit FLT.FLT_ACTIVE b hi (by simp [judgedFields])
  unfold State.judgeFault
  refine FltBut.ite h (FltBut.ite ?_ ?_)
  · exact ((active _ (h.tail ((FltSame.refl t).charge0 300)) true).inc _ ⟨_, raiseCnt_judged hi, rfl⟩).tail
      ((((FltSame.refl _).eventIn _ _ _).journal _ _ _ _ _ _).irqLevel _ _ (by omega))
  · exact ((active t h false).setFbit FLT.FLT_ACKED false hi (by simp [judgedFields])).tail ((FltSame.refl _).irqLevel _ _ (by omega))

/-- The fields that show the faults. -/
def shownFaults : List Fld := [FLT.FLT_STATUS_ACTIVE_N, FLT.FLT_STATUS_FAULT_N, FLT.FLT_STATUS_TIMER_RUN]

theorem FltBut.showFaults (h : FltBut l s t) (m : ∀ d ∈ shownFaults, d ∈ l) : FltBut l s t.showFaults := by
  have shown : FltBut l s (t.puts [(FLT.FLT_STATUS_ACTIVE_N, ((List.range 24).filter (t.fbit FLT.FLT_ACTIVE)).length),
      (FLT.FLT_STATUS_FAULT_N, if t.flag FLT.FLT_STATUS_PULSE || t.flag FLT.FAULTN_CFG_HOLD then 1 else 0)]) :=
    (h.put _ _ ⟨FLT.FLT_STATUS_ACTIVE_N, m _ (by decide), rfl⟩).put _ _ ⟨FLT.FLT_STATUS_FAULT_N, m _ (by decide), rfl⟩
  have timer (v : Nat) := shown.put FLT.FLT_STATUS_TIMER_RUN v ⟨FLT.FLT_STATUS_TIMER_RUN, m _ (by decide), rfl⟩
  unfold State.showFaults
  exact FltBut.ite shown (FltBut.ite ((timer 1).fltSet _) (timer 0))

theorem FltBut.judgeFaults (h : FltBut judgedFields s t) : FltBut judgedFields s t.judgeFaults :=
  ((h.foldRange 24 _ fun _ _ hi hu => hu.judgeWire hi (by decide)).foldRange 24 _ fun _ _ hi hu => hu.judgeFault hi).showFaults (by decide)

/-! ### What every command runs -/

theorem FltSame.charge (h : FltSame s t) {c n : Nat} (e : t.charge c n = some u) : FltSame s u := by
  unfold State.charge at e
  split at e
  · cases e; exact h
  · split at e
    · cases e; exact h.charge0 n
    · split at e
      · cases e
      · dsimp only at e
        split at e
        · cases e
          exact FltSame.ledgerSet (h.put LEDGER.SHARED_LEFT _ (.inl (by decide))) _
        · cases e

theorem FltSame.pay (h : FltSame s t) {k : Nat} (n : Nat) (hk : k < 8) : FltSame s (t.pay k n) := by
  unfold State.pay
  split
  · next e => exact h.charge e
  · exact (h.inc _ (by simp only [OffFlt, LEDGER.REFUSE_CNT]; omega)).charge0 n

theorem FltSame.pairEvent (h : FltSame s t) (o : Origin) (c b : Nat) (v : Int) (x y : Nat) : FltSame s (t.pairEvent o c b v x y) :=
  ((h.pay 150 (by omega)).eventIn _ _ _).journal _ _ _ _ _ _

theorem FltSame.couchGo (h : FltSame s t) (n : Nat) : FltSame s (t.couchGo n) := by
  have set (f : Fld) (x : Nat) (m : f ∈ standbyFields) {u : State} (k : FltSame s u) : FltSame s (u.put f x) :=
    k.put f x (.inl ((by decide : ∀ d ∈ standbyFields, d.key < 69206016) f m))
  have state := set COUCH.PAIR_STATUS_STATE n (by decide) h
  unfold State.couchGo
  exact FltSame.ite (set COUCH.PAIR_STATUS_PROMOTABLE _ (by decide) state) (FltSame.ite (set COUCH.PAIR_STATUS_PROMOTABLE _ (by decide) state) state)

theorem FltSame.couchSet (h : FltSame s t) (x : CouchSt) : FltSame s { t with couch := x } := h

theorem FltSame.linkLost (h : FltSame s t) : FltSame s t.linkLost := by
  have down (x : CouchSt) : FltSame s (({ t with couch := x } : State).put COUCH.PAIR_STATUS_LINK 1) :=
    (h.couchSet x).put _ _ (.inl (by decide))
  unfold State.linkLost
  refine FltSame.ite (down _) (FltSame.ite ?_ ?_)
  · exact (((down _).couchGo 5).inc _ (.inl (by decide))).pairEvent _ _ _ _ _ _
  · exact ((down _).couchGo 6).pairEvent _ _ _ _ _ _

theorem FltSame.showPair (h : FltSame s t) : FltSame s t.showPair := by
  have role := h.put COUCH.PAIR_STATUS_ROLE (if (!t.flag COUCH.PAIR_CFG_EN) = true then 0 else if t.mode = 5 then 2 else 1) (.inl (by decide))
  unfold State.showPair
  exact FltSame.ite (FltSame.ite role (((FltSame.ite role.linkLost role).couchSet _).put _ _ (.inl (by decide))))
    (FltSame.ite (role.put _ _ (.inl (by decide))) role)

theorem FltSame.reserveOver (h : FltSame s t) : FltSame s t.reserveOver := by
  unfold State.reserveOver
  split
  · exact (((h.ledgerSet _).putB _ _ (.inl (by decide))).inc _ (.inl (by decide))).eventIn _ _ _
  · exact h

theorem FltSame.escHandover (h : FltSame s t) : FltSame s t.escHandover := by
  obtain ⟨-, kept⟩ := t.escHandover_calm
  exact fun f lo hi => (kept f fun d m => by
    have below := (by decide : ∀ d ∈ handFields, d.key < 69206016) d m
    omega).trans (h f lo hi)

theorem State.showLink_flt (s : State) : FltSame s s.showLink := (FltSame.refl s).flushDue.reserveOver.showPair.escHandover

/-- The state once the faults have been judged. -/
def State.judged (s : State) : State := s.showLink.judgeFaults.judgeFaults

/-- What follows the judging leaves the fault block. -/
theorem State.settle_judged (awake : s.inReset = false) : FltSame s.judged s.settle := fun f lo hi => by
  have run : s.settle = s.judged.afterFaults.showCands.showServing.showOuts.showRest := by
    rw [State.settle, awake]
    rfl
  rw [run, State.shown_get _ f (by omega) (by omega), State.afterFaults_flt _ f lo hi]
  simp only [PTP.PTP_STATUS_SERVING, NTS.NTS_STATUS_SERVING, SIZING.SIZ_STATUS_RUNNING]
  omega

/-- What follows a command leaves every field of the fault block that judging does not write. -/
theorem State.settle_fltBut (awake : s.inReset = false) : FltBut judgedFields s s.settle :=
  FltBut.tail (FltBut.judgeFaults (FltBut.judgeFaults ((FltBut.refl s).tail s.showLink_flt))) (State.settle_judged awake)

/-! ### A fault that is forced stays active, and acknowledged once it is (R427 to R429) -/

theorem State.fbit_setFbit_same (s : State) (r : Nat → Fld) {i : Nat} (b : Bool) (w : (r (i / 32)).width = 32) : (s.setFbit r i b).fbit r i = b := by
  have low : i % 32 < 32 := Nat.mod_lt _ (by decide)
  rw [State.fbit, State.setFbit, State.get_put_same, w, bitOf_mod _ low, bitOf_putBit_same]

theorem State.fbit_setFbit_other (s : State) (r : Nat → Fld) {i f : Nat} (b : Bool) (w : (r 0).width = 32) (hi : i < 24) (hf : f < 24) (other : f ≠ i) :
    (s.setFbit r i b).fbit r f = s.fbit r f := by
  have word : i / 32 = 0 ∧ f / 32 = 0 := by omega
  have low : i % 32 = i ∧ f % 32 = f := by omega
  rw [State.fbit, State.setFbit, State.fbit, word.1, word.2, low.1, low.2, State.get_put_same, w, bitOf_mod _ (by omega), bitOf_putBit_other _ _ other]

theorem State.fbit_congr {r : Nat → Fld} {f : Nat} (h : t.get (r (f / 32)) = s.get (r (f / 32))) : t.fbit r f = s.fbit r f := by
  rw [State.fbit, State.fbit, h]

/-- A fault other than WIRE that FLT_FORCE_ACT makes active. -/
def State.Forced (s : State) (f : Nat) : Prop := f ≠ 0 ∧ f < 24 ∧ s.fbit FLT.FLT_FORCE_ACT f = true

theorem State.Forced.on {f : Nat} (h : s.Forced f) : s.faultOn f = true := by
  obtain ⟨zero, small, forced⟩ := h
  have few : f ≤ 23 := by omega
  rw [State.faultOn, if_neg zero, forced, decide_eq_true few]
  simp

/-- The bits of a fault read the same. -/
structure FaultSame (f : Nat) (s t : State) : Prop where
  force : t.fbit FLT.FLT_FORCE_ACT f = s.fbit FLT.FLT_FORCE_ACT f
  active : t.fbit FLT.FLT_ACTIVE f = s.fbit FLT.FLT_ACTIVE f
  acked : t.fbit FLT.FLT_ACKED f = s.fbit FLT.FLT_ACKED f

theorem FaultSame.refl (f : Nat) (s : State) : FaultSame f s s := ⟨rfl, rfl, rfl⟩

theorem FaultSame.trans {f : Nat} (a : FaultSame f s t) (b : FaultSame f t u) : FaultSame f s u :=
  ⟨b.force.trans a.force, b.active.trans a.active, b.acked.trans a.acked⟩

/-- The words that hold the bits of the 24 faults. -/
def faultWords : List Fld := [FLT.FLT_FORCE_ACT 0, FLT.FLT_ACTIVE 0, FLT.FLT_ACKED 0]

theorem FltBut.faultSame {f : Nat} (h : FltBut l s t) (hf : f < 24) (off : ∀ d ∈ l, ∀ g ∈ faultWords, g.key ≠ d.key) : FaultSame f s t := by
  have word : f / 32 = 0 := by omega
  have read (g : Fld) (m : g ∈ faultWords) (lo : 69206016 ≤ g.key) (hi : g.key < 71303168) : t.get g = s.get g := h g lo hi fun d md => off d md g m
  constructor <;> refine State.fbit_congr ?_ <;> rw [word] <;> exact read _ (by decide) (by decide) (by decide)

theorem FltSame.faultSame {f : Nat} (h : FltSame s t) (hf : f < 24) : FaultSame f s t :=
  FltBut.faultSame (l := []) (fun g lo hi _ => h g lo hi) hf fun _ m => nomatch m

theorem raiseCnt_words {i : Nat} : ∀ d ∈ [FLT.FLT_RAISE_CNT i], ∀ g ∈ faultWords, g.key ≠ d.key := by
  simp only [faultWords, List.mem_cons, List.not_mem_nil, or_false, forall_eq, forall_eq_or_imp, FLT.FLT_RAISE_CNT, FLT.FLT_FORCE_ACT, FLT.FLT_ACTIVE,
    FLT.FLT_ACKED]
  omega

/-- The state in which a fault has become active, after which it is counted and told. -/
theorem State.judgeFault_raised (s : State) {i f : Nat} (hi : i < 24) (hf : f < 24) :
    FaultSame f ((s.charge0 300).setFbit FLT.FLT_ACTIVE i true)
      ((((((s.charge0 300).setFbit FLT.FLT_ACTIVE i true).inc (FLT.FLT_RAISE_CNT i)).eventIn 0x0E01 i 1).journal .auto 3 i 0 1 0x0E01).irqLevel (64 + i) true) :=
  (FltBut.tail ((FltBut.refl (l := [FLT.FLT_RAISE_CNT i]) _).inc _ ⟨_, by simp, rfl⟩)
    ((((FltSame.refl _).eventIn _ _ _).journal _ _ _ _ _ _).irqLevel _ _ (by omega))).faultSame hf raiseCnt_words

/-- A bit of one fault leaves the bits of the others. -/
theorem State.setFbit_others (s : State) {r : Nat → Fld} {i f : Nat} (b : Bool) (w : r = FLT.FLT_ACTIVE ∨ r = FLT.FLT_ACKED) (hi : i < 24) (hf : f < 24)
    (other : f ≠ i) : FaultSame f s (s.setFbit r i b) := by
  have apart (q : Nat → Fld) (k : (q 0).key ≠ (r 0).key) : (s.setFbit r i b).fbit q f = s.fbit q f := by
    have word : f / 32 = 0 ∧ i / 32 = 0 := by omega
    refine State.fbit_congr ?_
    rw [State.setFbit, word.1, word.2]
    exact State.get_put_other _ _ _ _ k
  obtain rfl | rfl := w
  · exact ⟨apart _ (by decide), State.fbit_setFbit_other s _ b rfl hi hf other, apart _ (by decide)⟩
  · exact ⟨apart _ (by decide), apart _ (by decide), State.fbit_setFbit_other s _ b rfl hi hf other⟩

/-- Judging one fault leaves the bits of the others. -/
theorem State.judgeFault_others (s : State) {i f : Nat} (hi : i < 24) (hf : f < 24) (other : f ≠ i) : FaultSame f s (s.judgeFault i) := by
  unfold State.judgeFault
  dsimp only
  split
  · exact FaultSame.refl f s
  · split
    · exact ((((FltSame.refl s).charge0 300).faultSame hf).trans (State.setFbit_others _ true (.inl rfl) hi hf other)).trans (s.judgeFault_raised hi hf)
    · exact ((s.setFbit_others false (.inl rfl) hi hf other).trans (State.setFbit_others _ false (.inr rfl) hi hf other)).trans
        (((FltSame.refl _).irqLevel _ _ (by omega)).faultSame hf)

theorem State.setFbit_active_force (s : State) (f : Nat) (b : Bool) : (s.setFbit FLT.FLT_ACTIVE f b).fbit FLT.FLT_FORCE_ACT f = s.fbit FLT.FLT_FORCE_ACT f :=
  State.fbit_congr (State.get_put_other _ _ _ _ (by simp only [FLT.FLT_ACTIVE, FLT.FLT_FORCE_ACT]; omega))

/-- Judging a forced fault makes it active, and leaves it if it is. -/
theorem State.Forced.judgeFault {f : Nat} (h : s.Forced f) :
    (s.judgeFault f).Forced f ∧ (s.judgeFault f).fbit FLT.FLT_ACTIVE f = true ∧ (s.fbit FLT.FLT_ACTIVE f = true → s.judgeFault f = s) := by
  obtain ⟨zero, small, forced⟩ := h
  have on : s.faultOn f = true := State.Forced.on ⟨zero, small, forced⟩
  have stays (active : s.fbit FLT.FLT_ACTIVE f = true) : s.judgeFault f = s := by
    unfold State.judgeFault
    exact if_pos (by rw [on, active]; rfl)
  by_cases active : s.fbit FLT.FLT_ACTIVE f = true
  · rw [stays active]
    exact ⟨⟨zero, small, forced⟩, active, fun _ => rfl⟩
  · have raised : s.judgeFault f = ((((((s.charge0 300).setFbit FLT.FLT_ACTIVE f true).inc (FLT.FLT_RAISE_CNT f)).eventIn 0x0E01 f 1).journal .auto 3 f 0 1
        0x0E01).irqLevel (64 + f) true) := by
      unfold State.judgeFault
      exact (if_neg (by rw [on]; simpa using active)).trans (if_pos on)
    have told := s.judgeFault_raised small small
    rw [raised]
    refine ⟨⟨zero, small, ?_⟩, ?_, fun a => absurd a active⟩
    · rw [told.force, State.setFbit_active_force, (((FltSame.refl s).charge0 300).faultSame small).force, forced]
    · rw [told.active, State.fbit_setFbit_same _ _ _ rfl]

/-- A fault that is forced and active. -/
def State.HeldOn (s : State) (f : Nat) : Prop := s.Forced f ∧ s.fbit FLT.FLT_ACTIVE f = true

/-- A fault that is forced, active and acknowledged. -/
def State.HeldAcked (s : State) (f : Nat) : Prop := s.HeldOn f ∧ s.fbit FLT.FLT_ACKED f = true

theorem FaultSame.forced {f : Nat} (k : FaultSame f s t) (h : s.Forced f) : t.Forced f := ⟨h.1, h.2.1, k.force.trans h.2.2⟩

theorem FaultSame.heldOn {f : Nat} (k : FaultSame f s t) (h : s.HeldOn f) : t.HeldOn f := ⟨k.forced h.1, k.active.trans h.2⟩

theorem FaultSame.heldAcked {f : Nat} (k : FaultSame f s t) (h : s.HeldAcked f) : t.HeldAcked f := ⟨k.heldOn h.1, k.acked.trans h.2⟩

/-- One step of judging keeps what is forced, active and acknowledged. -/
theorem State.HeldOn.judgeFault {f i : Nat} (h : s.HeldOn f) (hi : i < 24) : (s.judgeFault i).HeldOn f := by
  by_cases same : f = i
  · subst same
    rw [h.1.judgeFault.2.2 h.2]
    exact h
  · exact (s.judgeFault_others hi h.1.2.1 same).heldOn h

theorem State.HeldAcked.judgeFault {f i : Nat} (h : s.HeldAcked f) (hi : i < 24) : (s.judgeFault i).HeldAcked f := by
  by_cases same : f = i
  · subst same
    rw [h.1.1.judgeFault.2.2 h.1.2]
    exact h
  · exact (s.judgeFault_others hi h.1.1.2.1 same).heldAcked h

theorem State.Forced.judgeFault_any {f i : Nat} (h : s.Forced f) (hi : i < 24) : (s.judgeFault i).Forced f := by
  by_cases same : f = i
  · exact same ▸ h.judgeFault.1
  · exact (s.judgeFault_others hi h.2.1 same).forced h

/-- The wires leave the bits of the faults. -/
theorem State.judgeWires_faults (s : State) {f : Nat} (hf : f < 24) : FaultSame f s ((List.range 24).foldl State.judgeWire s) :=
  FltBut.faultSame (l := [FLT.FLT_WIRE 0, FLT.WIRE_CNT]) ((FltBut.refl s).foldRange 24 _ fun _ _ hi hu => hu.judgeWire hi fun _ m => m) hf (by decide)

theorem State.showFaults_faults (s : State) {f : Nat} (hf : f < 24) : FaultSame f s s.showFaults :=
  FltBut.faultSame (l := shownFaults) ((FltBut.refl s).showFaults fun _ m => m) hf (by decide)

theorem State.HeldAcked.judgeFaults {f : Nat} (h : s.HeldAcked f) : s.judgeFaults.HeldAcked f :=
  (State.showFaults_faults _ h.1.1.2.1).heldAcked
    (foldRange_inv (fun s => s.HeldAcked f) State.judgeFault ((s.judgeWires_faults h.1.1.2.1).heldAcked h) fun _ _ hi hx => hx.judgeFault hi)

/-- Judging all the faults makes a forced one active. -/
theorem State.Forced.judgeFaults {f : Nat} (h : s.Forced f) : s.judgeFaults.HeldOn f := by
  have small := h.2.1
  obtain ⟨before, after, split⟩ := List.append_of_mem (List.mem_range.2 small)
  have mem {i : Nat} (m : i ∈ before ++ f :: after) : i < 24 := List.mem_range.1 (split ▸ m)
  refine (State.showFaults_faults _ small).heldOn ?_
  rw [split, List.foldl_append, List.foldl_cons]
  have first : (before.foldl State.judgeFault ((before ++ f :: after).foldl State.judgeWire s)).Forced f := by
    refine List.foldlRecOn before State.judgeFault (motive := fun x => x.Forced f) ?_ fun x hx i m => hx.judgeFault_any (mem (by simp [m]))
    rw [← split]
    exact (s.judgeWires_faults small).forced h
  exact List.foldlRecOn after State.judgeFault (motive := fun x => x.HeldOn f) ⟨first.judgeFault.1, first.judgeFault.2.1⟩
    fun x hx i m => hx.judgeFault (mem (by simp [m]))

/-- A fault that is forced is active after the command, and acknowledged if it was active and acknowledged. -/
theorem State.settle_forced {f : Nat} (awake : s.inReset = false) (h : s.Forced f) : s.settle.HeldOn f :=
  ((State.settle_judged awake).faultSame h.2.1).heldOn ((s.showLink_flt.faultSame h.2.1).forced h).judgeFaults.1.judgeFaults

theorem State.settle_acked {f : Nat} (awake : s.inReset = false) (h : s.HeldAcked f) : s.settle.HeldAcked f :=
  ((State.settle_judged awake).faultSame h.1.1.2.1).heldAcked ((s.showLink_flt.faultSame h.1.1.2.1).heldAcked h).judgeFaults.judgeFaults

end Sys2Proof.Machine
end

section
/-! Acknowledgements, forces, the reaction timer and the drill (R428 to R432, R367). -/

namespace Sys2Proof.Machine

variable {ps : List Part} {l : List Fld} {s t u : State}

/-! ### Acknowledging (R429) -/

theorem State.useUnlock_get (s : State) (o : Origin) (f : Fld) (off : ∀ d ∈ unlockFlags, f.key ≠ d.key) : (s.useUnlock o).2.get f = s.get f := by
  unfold State.useUnlock
  dsimp only
  split_ifs
  · exact State.get_put_other _ _ f _ (off _ (by decide))
  · exact State.get_put_other _ _ f _ (off _ (by decide))
  · rfl

/-- A register of the fault block lies off the unlock flags. -/
theorem State.useUnlock_flt (s : State) (o : Origin) : FltSame s (s.useUnlock o).2 := fun f lo hi =>
  s.useUnlock_get o f fun d m => by
    have below := (by decide : ∀ d ∈ unlockFlags, d.key < 69206016) d m
    omega

theorem State.useUnlock_fltSt (s : State) (o : Origin) : (s.useUnlock o).2.flt = s.flt := by
  unfold State.useUnlock
  dsimp only
  split_ifs <;> rfl

/-- The faults that a write to FLT_ACK acknowledges. -/
def State.ackedWith (s : State) (w v : Nat) : State :=
  s.put (FLT.FLT_ACKED w) (s.get (FLT.FLT_ACKED w) ||| (v % 2 ^ 32 &&& s.get (FLT.FLT_ACTIVE w)))

theorem State.ackedWith_get (s : State) (w v : Nat) :
    (s.ackedWith w v).get (FLT.FLT_ACKED w) = (s.get (FLT.FLT_ACKED w) ||| (v % 2 ^ 32 &&& s.get (FLT.FLT_ACTIVE w))) := by
  refine State.get_put_fits _ _ _ (Nat.or_lt_two_pow (State.get_lt _ _) (Nat.and_lt_two_pow _ (State.get_lt s (FLT.FLT_ACTIVE w))))

/-- An acknowledgement of fault 6 ends its condition. -/
def State.keyAcked (s : State) (w v : Nat) : State :=
  if w = 0 ∧ bitOf v 6 = true then { s with flt := { s.flt with keyMismatch := false } } else s

theorem State.keyAcked_get (s : State) (w v : Nat) (f : Fld) : (s.keyAcked w v).get f = s.get f := by
  unfold State.keyAcked
  split <;> rfl

theorem runFltAck_eq {o : Origin} {w : Nat} (v : Nat) (ho : o ≠ .pf1) (hw : w ≤ 3) :
    runFltAck o w v s = ((s.useUnlock o).2.ackedWith w v).keyAcked w v := by
  unfold runFltAck State.busTouch
  rw [if_neg (by omega), if_neg ho]
  rfl

theorem runFltAck_only {o : Origin} {w : Nat} (v : Nat) (ho : o ≠ .pf1) (hw : w ≤ 3) :
    Only [.glb, .flt] (FLT.FLT_ACKED w :: unlockFlags) s (runFltAck o w v s) := by
  have used : Only [.glb, .flt] (FLT.FLT_ACKED w :: unlockFlags) s (s.useUnlock o).2 :=
    (s.useUnlock_only o).parts rfl fun k ⟨d, m, e⟩ => ⟨d, List.mem_cons_of_mem _ m, e⟩
  have acked : Only [.glb, .flt] (FLT.FLT_ACKED w :: unlockFlags) s ((s.useUnlock o).2.ackedWith w v) := used.putK _ _ ⟨_, by simp, rfl⟩
  rw [runFltAck_eq v ho hw]
  exact Only.ite' (acked.set_flt rfl _) acked

theorem ackedFld_unjudged {w : Nat} (hw : w ≤ 3) (one : 1 ≤ w) : ∀ d ∈ judgedFields, (FLT.FLT_ACKED w).key ≠ d.key :=
  (by decide : ∀ w ∈ [1, 2, 3], ∀ d ∈ judgedFields, (FLT.FLT_ACKED w).key ≠ d.key) w (by
    obtain rfl | rfl | rfl : w = 1 ∨ w = 2 ∨ w = 3 := by omega
    all_goals decide)

theorem fltAck_acknowledges {o : Origin} {w : Nat} (v : Nat) (awake : s.inReset = false) (ho : o ≠ .pf1) (hw : w ≤ 3) :
    ∃ t, exec (.fltAck o w v) s = .next t ∧ (1 ≤ w → t.get (FLT.FLT_ACKED w) = (s.get (FLT.FLT_ACKED w) ||| (v % 2 ^ 32 &&& s.get (FLT.FLT_ACTIVE w)))) ∧
      (w = 0 → ∀ f ∈ List.range 24, f ≠ 0 → bitOf (v % 2 ^ 32) f = true → s.fbit FLT.FLT_ACTIVE f = true → s.fbit FLT.FLT_FORCE_ACT f = true →
        t.fbit FLT.FLT_ACKED f = true) ∧
      (w = 0 → bitOf v 6 = true → t.flt.keyMismatch = false) ∧ Only [.glb, .flt] (FLT.FLT_ACKED w :: unlockFlags) s t := by
  have only := runFltAck_only (s := s) v ho hw
  have used := s.useUnlock_flt o
  have run := runFltAck_eq (s := s) v ho hw
  have awake' : (runFltAck o w v s).inReset = false := (only.inReset rfl).trans awake
  have read (g : Fld) : (runFltAck o w v s).get g = ((s.useUnlock o).2.ackedWith w v).get g := by rw [run, State.keyAcked_get]
  have off (g : Fld) (lo : 69206016 ≤ g.key) (hi : g.key < 71303168) (ne : g.key ≠ (FLT.FLT_ACKED w).key) : (runFltAck o w v s).get g = s.get g :=
    (read g).trans ((State.get_put_other _ _ g _ ne).trans (used g lo hi))
  have word (w : Nat) (hw : w ≤ 3) : (s.useUnlock o).2.get (FLT.FLT_ACKED w) = s.get (FLT.FLT_ACKED w) ∧
      (s.useUnlock o).2.get (FLT.FLT_ACTIVE w) = s.get (FLT.FLT_ACTIVE w) :=
    ⟨used _ (by simp only [FLT.FLT_ACKED]; omega) (by simp only [FLT.FLT_ACKED]; omega),
      used _ (by simp only [FLT.FLT_ACTIVE]; omega) (by simp only [FLT.FLT_ACTIVE]; omega)⟩
  have acked : (runFltAck o w v s).get (FLT.FLT_ACKED w) = (s.get (FLT.FLT_ACKED w) ||| (v % 2 ^ 32 &&& s.get (FLT.FLT_ACTIVE w))) := by
    rw [read, State.ackedWith_get, (word w hw).1, (word w hw).2]
  have kept := (runFltAck o w v s).settle_kept
  refine ⟨_, rfl, ?_⟩
  rw [State.awake_eq awake]
  refine ⟨fun one => ?_, fun zero f hf ne bit active forced => ?_, fun zero bit => ?_, only.settle⟩
  · exact (State.settle_fltBut awake' _ (by simp only [FLT.FLT_ACKED]; omega) (by simp only [FLT.FLT_ACKED]; omega) (ackedFld_unjudged hw one)).trans acked
  · subst zero
    have small := List.mem_range.1 hf
    have first : f / 32 = 0 ∧ f % 32 = f := by omega
    refine (State.settle_acked (f := f) awake' ⟨⟨⟨ne, small, ?_⟩, ?_⟩, ?_⟩).2
    · exact (State.fbit_congr (off _ (by simp only [FLT.FLT_FORCE_ACT]; omega) (by simp only [FLT.FLT_FORCE_ACT]; omega)
        (by simp only [FLT.FLT_FORCE_ACT, FLT.FLT_ACKED]; omega))).trans forced
    · exact (State.fbit_congr (off _ (by simp only [FLT.FLT_ACTIVE]; omega) (by simp only [FLT.FLT_ACTIVE]; omega)
        (by simp only [FLT.FLT_ACTIVE, FLT.FLT_ACKED]; omega))).trans active
    · rw [State.fbit, first.1, first.2] at active ⊢
      rw [bitOf_eq_testBit] at bit active
      rw [acked, bitOf_eq_testBit, Nat.testBit_or, Nat.testBit_and, bit, active, Bool.and_self, Bool.or_true]
  · rw [kept.flt_keyMismatch, run, State.keyAcked, if_pos ⟨zero, bit⟩]

/-! ### The stage (R430) -/

theorem State.setStage_keeps (s : State) (n : Nat) : Keeps [FLT.ESC_CNT] (s.put FLT.FLT_STATUS_STAGE n) (s.setStage n) :=
  (((Keeps.refl _).incK FLT.ESC_CNT ⟨_, by simp, rfl⟩).eventIn _ _ _).journal _ _ _ _ _ _

theorem State.setStage_stage (s : State) {n : Nat} (hn : n < 4) : (s.setStage n).get FLT.FLT_STATUS_STAGE = n :=
  ((s.setStage_keeps n).get _ (by decide) (by decide)).trans (State.get_put_fits _ _ _ hn)

theorem State.setStage_only (s : State) (n : Nat) : Keeps [FLT.FLT_STATUS_STAGE, FLT.ESC_CNT] s (s.setStage n) :=
  ((Keeps.refl s).putK _ _ ⟨_, by simp, rfl⟩).trans ((s.setStage_keeps n).more (by simp))

/-- The state in which escalation is cleared. -/
def State.escCleared (s : State) : State := { s.setStage 0 with flt := { s.flt with squelchLift := s.flt.squelch, handover := false } }

theorem runFltEscClear_eq {o : Origin} {v : Nat} (ho : o ≠ .pf1) (unlocked : (s.useUnlock o).1 = true) (bit : bitOf v 0 = true)
    (stage : s.get FLT.FLT_STATUS_STAGE ≠ 0)
    (settled : ∀ f ∈ List.range 24, s.fbit FLT.FLT_ACTIVE f = true → s.fbit FLT.FLT_ACKED f = true ∨ s.get (FLT.FLT_CFG f) = 0) :
    runFltEscClear o v s = (s.useUnlock o).2.escCleared := by
  have used := s.useUnlock_flt o
  obtain ⟨u, hu⟩ : ∃ u, u = (s.useUnlock o).2 := ⟨_, rfl⟩
  rw [← hu] at used
  have none_ : (List.range 24).any (fun f => u.fbit FLT.FLT_ACTIVE f && !u.fbit FLT.FLT_ACKED f && u.get (FLT.FLT_CFG f) != 0) = false := by
    refine List.any_eq_false.2 fun f hf => ?_
    have small := List.mem_range.1 hf
    have active : u.fbit FLT.FLT_ACTIVE f = s.fbit FLT.FLT_ACTIVE f :=
      State.fbit_congr (used _ (by simp only [FLT.FLT_ACTIVE]; omega) (by simp only [FLT.FLT_ACTIVE]; omega))
    have acked : u.fbit FLT.FLT_ACKED f = s.fbit FLT.FLT_ACKED f :=
      State.fbit_congr (used _ (by simp only [FLT.FLT_ACKED]; omega) (by simp only [FLT.FLT_ACKED]; omega))
    rw [active, acked, used _ (by simp only [FLT.FLT_CFG]; omega) (by simp only [FLT.FLT_CFG]; omega)]
    by_cases on : s.fbit FLT.FLT_ACTIVE f = true
    · obtain h | h := settled f hf on <;> simp [h]
    · simp [on]
  have held : u.get FLT.FLT_STATUS_STAGE ≠ 0 := by rw [used _ (by decide) (by decide)]; exact stage
  unfold runFltEscClear
  dsimp only
  rw [if_neg ho, unlocked, if_neg (by decide), ← hu, if_neg (by simp [bit, held]), none_, if_neg (by decide)]
  rfl

theorem fltEscClear_clears {o : Origin} {v : Nat} (awake : s.inReset = false) (ho : o ≠ .pf1) (unlocked : (s.useUnlock o).1 = true) (bit : bitOf v 0 = true)
    (stage : s.get FLT.FLT_STATUS_STAGE ≠ 0)
    (settled : ∀ f ∈ List.range 24, s.fbit FLT.FLT_ACTIVE f = true → s.fbit FLT.FLT_ACKED f = true ∨ s.get (FLT.FLT_CFG f) = 0) :
    ∃ t, exec (.fltEscClear o v) s = .next t ∧ t.get FLT.FLT_STATUS_STAGE = 0 ∧ t.flt.squelchLift = s.flt.squelch ∧
      Only [.glb, .flt] ([FLT.FLT_STATUS_STAGE, FLT.ESC_CNT] ++ unlockFlags) s t := by
  have used : Only [.glb, .flt] ([FLT.FLT_STATUS_STAGE, FLT.ESC_CNT] ++ unlockFlags) s (s.useUnlock o).2 :=
    (s.useUnlock_only o).parts rfl fun k ⟨d, m, e⟩ => ⟨d, List.mem_append_right _ m, e⟩
  have squelch := s.useUnlock_fltSt o
  refine ⟨_, rfl, ?_⟩
  rw [State.awake_eq awake, runFltEscClear_eq ho unlocked bit stage settled]
  generalize (s.useUnlock o).2 = u at used squelch ⊢
  have set := (u.setStage_only 0).more (m := [FLT.FLT_STATUS_STAGE, FLT.ESC_CNT] ++ unlockFlags) (by simp)
  have stage' := u.setStage_stage (n := 0) (by decide)
  have kept := u.escCleared.settle_kept
  exact ⟨(kept.read _ (by decide)).trans stage', kept.flt_squelchLift.trans (congrArg FltSt.squelch squelch), ((used.trans set.only).set_flt rfl _).settle⟩

/-! ### Forces (R428) -/

/-- A write to a force register stores its one field. -/
theorem forceWrite_stores {o : Origin} {a i v : Nat} {r : Row} (f : Fld) (read : rowsAt a = [(r, i)]) (plain : plainRow (r, i) = true) (writable : r.acc = .rw)
    (free : r.ok = .any) (low : r.lsb = 0) (width : r.w = 32) (key : f.key = 32 * a) (wide : f.width = 32) (q : noisy f.key = false)
    (ho : o ≠ .pf1) (votes : s.glb.voteFailed = []) :
    Only [.glb] (f :: unlockFlags) s (s.forceWrite o a v) ∧ (s.forceWrite o a v).get f = v % 2 ^ 32 := by
  have all : [(r, i)].all plainRow = true := by rw [List.all_cons, plain]; rfl
  have whole := ((plainRow_iff _).1 plain).1
  have used : Only [.glb] (f :: unlockFlags) s (s.useUnlock o).2 := (s.useUnlock_only o).more fun k ⟨d, m, e⟩ => ⟨d, List.mem_cons_of_mem _ m, e⟩
  have fields : Only [.glb] (f :: unlockFlags) (s.useUnlock o).2 ((s.useUnlock o).2.storeFields a v) := by
    rw [State.storeFields_plain _ v read all, List.foldl_cons, List.foldl_nil, storeRow]
    refine Only.ite' ((Only.refl _).putK _ _ ⟨f, by simp, ?_⟩) (Only.refl _)
    rw [Row.fld_whole whole, key, low, Nat.add_zero]
  have value : ((s.useUnlock o).2.storeFields a v).get f = v % 2 ^ 32 := by
    rw [State.storeFields_get (pre := []) (post := []) _ v f read all rfl (by simp) writable free (by rw [key, low, Nat.add_zero]) (wide.trans width.symm),
      bits, low, width, Nat.pow_zero, Nat.div_one]
  have stored := s.stored_only o a v
  have only := (used.trans fields).trans (stored.more (by simp))
  have value' : (s.stored o a v).get f = v % 2 ^ 32 := (stored.read f q (by simp)).trans value
  unfold State.forceWrite
  dsimp only
  rw [State.busStore_plain v _ read (by simp) all ho votes]
  split
  · exact ⟨(only.charge0 60).journal _ _ _ _ _ _, (((Keeps.refl (s.stored o a v)).charge0 60).journal _ _ _ _ _ _ |>.read f q).trans value'⟩
  · exact ⟨only, value'⟩

/-- The rows of FLT_FORCE_ACT and FLT_FORCE_WIRE. -/
def forceRow (a : Nat) : Row := ⟨a, 0x4, 4, 0x0, 1, 0, 32, .rw, [0], .any, .whole, false⟩

theorem rowsAt_force : ∀ w < 4, rowsAt (0x210060 + 4 * w) = [(forceRow 0x210060, w)] ∧ rowsAt (0x210070 + 4 * w) = [(forceRow 0x210070, w)] := by
  decide +kernel

theorem force_quiet : ∀ w < 4, noisy (FLT.FLT_FORCE_ACT w).key = false ∧ noisy (FLT.FLT_FORCE_WIRE w).key = false := by decide

theorem fltForceAct_stores {o : Origin} {w : Nat} (v : Nat) (awake : s.inReset = false) (ho : o ≠ .pf1) (hw : w ≤ 3) (votes : s.glb.voteFailed = []) :
    ∃ t, exec (.fltForceAct o w v) s = .next t ∧ t.get (FLT.FLT_FORCE_ACT w) = v % 2 ^ 32 ∧
      (w = 0 → ∀ f ∈ List.range 24, f ≠ 0 → bitOf (v % 2 ^ 32) f = true → t.fbit FLT.FLT_ACTIVE f = true) ∧
      Only [.glb] (FLT.FLT_FORCE_ACT w :: unlockFlags) s t := by
  have quiet := (force_quiet w (by omega)).1
  obtain ⟨only, value⟩ := forceWrite_stores (v := v) (FLT.FLT_FORCE_ACT w) (rowsAt_force w (by omega)).1 rfl rfl rfl rfl rfl rfl rfl quiet ho votes
  have run : runFltForceAct o w v s = s.forceWrite o (0x210060 + 4 * w) v := if_neg (by omega)
  refine ⟨_, rfl, ?_⟩
  rw [State.awake_eq awake, run]
  refine ⟨((State.settle_kept _).read _ quiet).trans value, fun zero f hf ne bit => ?_, only.settle⟩
  subst zero
  have small := List.mem_range.1 hf
  have first : f / 32 = 0 ∧ f % 32 = f := by omega
  refine (State.settle_forced ((only.inReset rfl).trans awake) ⟨ne, small, ?_⟩).2
  rw [State.fbit, first.1, first.2, value, bit]

theorem fltForceWire_stores {o : Origin} {w : Nat} (v : Nat) (awake : s.inReset = false) (ho : o ≠ .pf1) (hw : w ≤ 3) (votes : s.glb.voteFailed = []) :
    ∃ t, exec (.fltForceWire o w v) s = .next t ∧ t.get (FLT.FLT_FORCE_WIRE w) = v % 2 ^ 32 ∧ Only [.glb] (FLT.FLT_FORCE_WIRE w :: unlockFlags) s t := by
  have quiet := (force_quiet w (by omega)).2
  obtain ⟨only, value⟩ := forceWrite_stores (v := v) (FLT.FLT_FORCE_WIRE w) (rowsAt_force w (by omega)).2 rfl rfl rfl rfl rfl rfl rfl quiet ho votes
  have run : runFltForceWire o w v s = s.forceWrite o (0x210070 + 4 * w) v := if_neg (by omega)
  refine ⟨_, rfl, ?_⟩
  rw [State.awake_eq awake, run]
  exact ⟨((State.settle_kept _).read _ quiet).trans value, only.settle⟩

/-! ### The reaction timer and the pulse (R430, R432) -/

/-- The stage has advanced and the timer has started anew. -/
def State.staged (s : State) (n : Nat) : State := { s.setStage (n + 1) with flt := { s.flt with timerUs := s.get FLT.STAGE_US } }

/-- Stage 1: the lockout that was set is kept, and every slot is locked out. -/
def State.lockedAll (s : State) : State :=
  (s.put FLT.ESC_LOCKOUT_PREV (s.getT REFSEL.REF_OVERRIDE_LOCKOUT)).autoWrite (REFSEL.REF_OVERRIDE_LOCKOUT.key / 32)
    (fun s => s.putT REFSEL.REF_OVERRIDE_LOCKOUT 0xFFFF)

/-- Stage 2: every output is squelched. -/
def State.squelched (s : State) : State :=
  { s with flt := { s.flt with squelch := true, squelchLift := false, handover := s.flag COUCH.PAIR_CFG_FAULT_HANDOVER } }

/-- Stage 3: FAULT_N gives a pulse. -/
def State.pulsed (s : State) : State :=
  (({ s with flt := { s.flt with pulseAt := s.mono } } : State).puts [(FLT.FLT_STATUS_FAULT_N, 1), (FLT.FLT_STATUS_PULSE, 1)]).inc FLT.FAULTN_CNT

theorem runReactionTimerExpire_eq (timer : s.flag FLT.FLT_STATUS_TIMER_RUN = true) (pressing : s.pressing = true) :
    runReactionTimerExpire s = if s.get FLT.FLT_STATUS_STAGE = 0 then (s.staged 0).lockedAll
      else if s.get FLT.FLT_STATUS_STAGE = 1 then (s.staged 1).squelched else (s.staged (s.get FLT.FLT_STATUS_STAGE)).pulsed := by
  unfold runReactionTimerExpire
  rw [timer, pressing, if_neg (by decide)]
  generalize s.get FLT.FLT_STATUS_STAGE = n
  dsimp only
  split
  · next zero => subst zero; rfl
  · split
    · next one => subst one; rfl
    · rfl

theorem State.staged_only (s : State) (n : Nat) : Only [.flt] [FLT.FLT_STATUS_STAGE, FLT.ESC_CNT] s (s.staged n) :=
  Only.set_flt (s.setStage_only (n + 1)).only rfl _

theorem State.staged_stage (s : State) {n : Nat} (hn : n < 3) : (s.staged n).get FLT.FLT_STATUS_STAGE = n + 1 := s.setStage_stage (by omega)

/-- A state with other faults samples the same. -/
theorem State.getT_fltSet (s : State) (x : FltSt) (f : Fld) : ({ s with flt := x } : State).getT f = s.getT f := rfl

theorem State.staged_getT (s : State) (n : Nat) : (s.staged n).getT REFSEL.REF_OVERRIDE_LOCKOUT = s.getT REFSEL.REF_OVERRIDE_LOCKOUT := by
  unfold State.staged
  rw [State.getT_fltSet]
  exact (s.setStage_only (n + 1)).getT _ (by decide) (by decide)

theorem State.getT_lt (s : State) (f : Fld) {n : Nat} (w : f.width = n) (safe : safeOf f < 2 ^ n) : s.getT f < 2 ^ n := by
  have fits (b : RegFile) : b.get f < 2 ^ n := w ▸ State.get_lt { s with regs := b } f
  unfold State.getT vote3
  split_ifs
  exacts [safe, w ▸ State.get_lt s f, w ▸ State.get_lt s f, fits _, safe]

/-- The voted value of a field that has just been written, where a failed vote gives the same. -/
theorem State.getT_putT (s : State) (f : Fld) {v : Nat} (fits : v < 2 ^ f.width) (safe : safeOf f = v) : (s.putT f v).getT f = v := by
  have regs : (s.putT f v).regs.get f = v := State.get_put_fits s f v fits
  unfold State.getT
  split
  · exact safe
  · rw [show (s.putT f v).rwtB.get f = v from State.get_put_fits { s with regs := s.rwtB } f v fits, vote3]
    exact if_pos regs ▸ regs

theorem State.lockedAll_only (s : State) : Only [.rwtB, .rwtC] [FLT.ESC_LOCKOUT_PREV, REFSEL.REF_OVERRIDE_LOCKOUT] s s.lockedAll :=
  (Only.set_rwtC (Only.set_rwtB (((Only.refl s).putK FLT.ESC_LOCKOUT_PREV _ ⟨_, by simp, rfl⟩).putK REFSEL.REF_OVERRIDE_LOCKOUT 0xFFFF
    ⟨_, by simp, rfl⟩) rfl _) rfl _).journalWrite _ _ _ _

theorem State.lockedAll_values (s : State) :
    s.lockedAll.getT REFSEL.REF_OVERRIDE_LOCKOUT = 0xFFFF ∧ s.lockedAll.get FLT.ESC_LOCKOUT_PREV = s.getT REFSEL.REF_OVERRIDE_LOCKOUT := by
  obtain ⟨x, hx⟩ : ∃ x, x = s.put FLT.ESC_LOCKOUT_PREV (s.getT REFSEL.REF_OVERRIDE_LOCKOUT) := ⟨_, rfl⟩
  have prev : x.get FLT.ESC_LOCKOUT_PREV = s.getT REFSEL.REF_OVERRIDE_LOCKOUT :=
    hx ▸ State.get_put_fits _ _ _ (s.getT_lt _ rfl (by decide))
  have written : Keeps [] (x.putT REFSEL.REF_OVERRIDE_LOCKOUT 0xFFFF) s.lockedAll := by
    rw [State.lockedAll, ← hx]
    exact (Keeps.refl _).journalWrite _ _ _ _
  refine ⟨(written.readT _ (by decide)).trans (x.getT_putT _ (by decide) (by decide)), ?_⟩
  rw [written.read _ (by decide)]
  exact (State.get_put_other x _ _ _ (by decide)).trans prev

theorem State.pulsed_only (s : State) : Only [.flt] [FLT.FLT_STATUS_PULSE, FLT.FAULTN_CNT] s s.pulsed := by
  have set : Only [.flt] [FLT.FLT_STATUS_PULSE, FLT.FAULTN_CNT] s { s with flt := { s.flt with pulseAt := s.mono } } := (Only.refl s).set_flt rfl _
  refine ((set.tail ?_).putK FLT.FLT_STATUS_PULSE 1 ⟨_, by simp, rfl⟩).incK _ ⟨_, by simp, rfl⟩
  exact (Keeps.refl _).put FLT.FLT_STATUS_FAULT_N 1 .flt_flt_status_fault_n

theorem State.pulsed_values (s : State) :
    s.pulsed.flag FLT.FLT_STATUS_PULSE = true ∧ s.pulsed.get FLT.FAULTN_CNT = min (s.get FLT.FAULTN_CNT + 1) (2 ^ 48 - 1) := by
  obtain ⟨x, hx⟩ : ∃ x : State, x = ({ s with flt := { s.flt with pulseAt := s.mono } } : State).put FLT.FLT_STATUS_FAULT_N 1 := ⟨_, rfl⟩
  have run : s.pulsed = (x.put FLT.FLT_STATUS_PULSE 1).inc FLT.FAULTN_CNT := by rw [hx]; rfl
  have counted : Keeps [FLT.FAULTN_CNT] (x.put FLT.FLT_STATUS_PULSE 1) s.pulsed := run ▸ (Keeps.refl _).incK _ ⟨_, by simp, rfl⟩
  have count : x.get FLT.FAULTN_CNT = s.get FLT.FAULTN_CNT := hx ▸ State.get_put_other _ _ _ _ (by decide)
  refine ⟨?_, ?_⟩
  · rw [State.flag, counted.get _ (by decide) (by decide)]
    exact State.flag_put_bit x _ rfl true
  · rw [run, State.inc, State.incBy_get _ _ _ rfl (by decide), State.get_put_other _ _ _ _ (by decide), count]

/-- Whatever the stage was, its action changes the fields that the rules name. -/
theorem runReactionTimerExpire_only (timer : s.flag FLT.FLT_STATUS_TIMER_RUN = true) (pressing : s.pressing = true) :
    Only [.flt, .rwtB, .rwtC] [FLT.FLT_STATUS_STAGE, FLT.ESC_CNT, FLT.ESC_LOCKOUT_PREV, REFSEL.REF_OVERRIDE_LOCKOUT, FLT.FLT_STATUS_PULSE, FLT.FAULTN_CNT] s
      (runReactionTimerExpire s) := by
  have into {m : List Fld} (h : ∀ d ∈ m, d ∈ [FLT.FLT_STATUS_STAGE, FLT.ESC_CNT, FLT.ESC_LOCKOUT_PREV, REFSEL.REF_OVERRIDE_LOCKOUT, FLT.FLT_STATUS_PULSE,
      FLT.FAULTN_CNT]) (k : Nat) (x : ∃ d ∈ m, k = d.key) : ∃ d ∈ [FLT.FLT_STATUS_STAGE, FLT.ESC_CNT, FLT.ESC_LOCKOUT_PREV, REFSEL.REF_OVERRIDE_LOCKOUT,
      FLT.FLT_STATUS_PULSE, FLT.FAULTN_CNT], k = d.key := by
    obtain ⟨d, md, e⟩ := x
    exact ⟨d, h d md, e⟩
  have staged (n : Nat) := (s.staged_only n).parts (qs := [.flt, .rwtB, .rwtC]) rfl (into (by simp))
  rw [runReactionTimerExpire_eq timer pressing]
  split
  · exact (staged 0).trans ((State.lockedAll_only _).parts rfl (into (by simp)))
  · split
    · exact (staged 1).set_flt rfl _
    · exact (staged _).trans ((State.pulsed_only _).parts rfl (into (by simp)))

theorem reactionTimerExpire_advances (awake : s.inReset = false) (timer : s.flag FLT.FLT_STATUS_TIMER_RUN = true) (pressing : s.pressing = true)
    (stage : s.get FLT.FLT_STATUS_STAGE < 3) :
    ∃ t, exec .reactionTimerExpire s = .next t ∧ t.get FLT.FLT_STATUS_STAGE = s.get FLT.FLT_STATUS_STAGE + 1 ∧
      (s.get FLT.FLT_STATUS_STAGE = 0 → t.getT REFSEL.REF_OVERRIDE_LOCKOUT = 0xFFFF ∧ t.get FLT.ESC_LOCKOUT_PREV = s.getT REFSEL.REF_OVERRIDE_LOCKOUT) ∧
      (s.get FLT.FLT_STATUS_STAGE = 1 → t.flt.squelch = true ∧ t.flt.squelchLift = false) ∧
      (s.get FLT.FLT_STATUS_STAGE = 2 → t.flag FLT.FLT_STATUS_PULSE = true ∧ t.flag FLT.FLT_STATUS_FAULT_N = true ∧
        t.get FLT.FAULTN_CNT = min (s.get FLT.FAULTN_CNT + 1) (2 ^ 48 - 1)) ∧
      Only [.flt, .rwtB, .rwtC] [FLT.FLT_STATUS_STAGE, FLT.ESC_CNT, FLT.ESC_LOCKOUT_PREV, REFSEL.REF_OVERRIDE_LOCKOUT, FLT.FLT_STATUS_PULSE, FLT.FAULTN_CNT] s t := by
  have run := runReactionTimerExpire_eq timer pressing
  have only := runReactionTimerExpire_only timer pressing
  have awake' := (only.inReset rfl).trans awake
  refine ⟨_, rfl, ?_⟩
  rw [State.awake_eq awake]
  generalize hn : s.get FLT.FLT_STATUS_STAGE = n at run stage ⊢
  generalize runReactionTimerExpire s = x at run only awake' ⊢
  have kept := x.settle_kept
  refine ⟨(kept.read _ (by decide)).trans ?_, fun zero => ?_, fun one => ?_, fun two => ?_, only.settle⟩
  · rw [run]
    split
    · next zero => subst zero; exact ((State.lockedAll_only _).get _ (by decide) (by decide)).trans (s.staged_stage (by decide))
    · split
      · next one => subst one; exact s.staged_stage (by decide)
      · exact ((State.pulsed_only _).get _ (by decide) (by decide)).trans (s.staged_stage stage)
  · rw [if_pos zero] at run
    obtain ⟨all, prev⟩ := (s.staged 0).lockedAll_values
    rw [kept.readT _ (by decide), kept.read _ (by decide), run]
    exact ⟨all, prev.trans (s.staged_getT 0)⟩
  · rw [if_neg (by omega), if_pos one] at run
    rw [kept.flt_squelch, kept.flt_squelchLift, run]
    exact ⟨rfl, rfl⟩
  · rw [if_neg (by omega), if_neg (by omega)] at run
    obtain ⟨pulse, count⟩ := (s.staged n).pulsed_values
    have pulse' : x.settle.flag FLT.FLT_STATUS_PULSE = true := (kept.flag _ (by decide)).trans (run ▸ pulse)
    refine ⟨pulse', (State.settle_shows awake').faultN.2 (.inl pulse'), ?_⟩
    rw [kept.read _ (by decide), run, count, (s.staged_only n).get _ (by decide) (by decide)]

theorem faultNPulseEnd_ends (awake : s.inReset = false) (due : s.reaches (s.flt.pulseAt + (s.get FLT.FAULTN_CFG_PULSE_US * 65536000 : Nat)) = true) :
    ∃ t, exec .faultNPulseEnd s = .next t ∧ t.flag FLT.FLT_STATUS_PULSE = false ∧ t.flag FLT.FLT_STATUS_FAULT_N = s.flag FLT.FAULTN_CFG_HOLD ∧
      Keeps [FLT.FLT_STATUS_PULSE] s t := by
  have run : runFaultNPulseEnd s = (s.put FLT.FLT_STATUS_PULSE 0).put FLT.FLT_STATUS_FAULT_N (s.get FLT.FAULTN_CFG_HOLD) :=
    if_neg (by rw [due]; decide)
  have shown : Keeps [] (s.put FLT.FLT_STATUS_PULSE 0) (runFaultNPulseEnd s) := run ▸ (Keeps.refl _).put _ _ .flt_flt_status_fault_n
  have ended : Keeps [FLT.FLT_STATUS_PULSE] s (s.put FLT.FLT_STATUS_PULSE 0) := (Keeps.refl s).putK _ _ ⟨_, by simp, rfl⟩
  refine ⟨_, rfl, ?_⟩
  rw [State.awake_eq awake]
  generalize runFaultNPulseEnd s = x at shown
  have only := (ended.trans shown.any).settle
  have pulse : x.settle.flag FLT.FLT_STATUS_PULSE = false :=
    (shown.settle.flag _ (by decide)).trans (State.flag_put_bit s _ rfl false)
  have hold : x.settle.flag FLT.FAULTN_CFG_HOLD = s.flag FLT.FAULTN_CFG_HOLD := by
    rw [State.flag, State.flag, only.get _ (by decide) (by decide)]
  have shows := (State.settle_shows (shown.inReset.trans awake)).faultN
  rw [pulse, hold] at shows
  exact ⟨pulse, Bool.eq_iff_iff.2 (by simpa using shows), only⟩

/-! ### The end of a drill (R367) -/

/-- The couch link with no drill under way. -/
def CouchSt.drilled (c : CouchSt) : CouchSt := { c with drillEnd := none }

/-- The state in which the drill is over. -/
def State.drillOver (s : State) : State := State.put { s with couch := s.couch.drilled } COUCH.DRILL_LEFT 0

/-- The fields of a drill and of the handover it may end in. -/
def drillFields : List Fld := [COUCH.DRILL_LEFT, COUCH.HANDOVER_SHEET, COUCH.PAIR_STATUS_HANDOVER_PENDING]

theorem State.drillOver_coupled (s : State) : Coupled [.couch] drillFields s.couch.drilled s s.drillOver :=
  ((Coupled.refl s).set rfl _).put _ _ (by decide)

theorem State.drillOver_left (s : State) : s.drillOver.get COUCH.DRILL_LEFT = 0 := State.get_put_fits _ _ _ (by decide)

theorem runDrillExpire_eq {e : Int} (drill : s.couch.drillEnd = some e) (due : s.reaches e = true) :
    runDrillExpire s = if (!servingMode s.drillOver.mode) = true then s.drillOver
      else if s.drillOver.pairState = 3 ∧ s.drillOver.couch.hand.isNone = true then s.drillOver.startHandover none .auto 0
      else s.drillOver.pairEvent .auto 0x0B0D 0 0 0 0 := by
  unfold runDrillExpire
  rw [drill]
  dsimp only
  rw [due, if_neg (by decide)]
  rfl

/-- What the drill changes, however it ends. -/
theorem runDrillExpire_frame {e : Int} (drill : s.couch.drillEnd = some e) (due : s.reaches e = true) :
    Only [.couch] drillFields s (runDrillExpire s) ∧ (runDrillExpire s).couch.drillEnd = none ∧ (runDrillExpire s).get COUCH.DRILL_LEFT = 0 := by
  have run := runDrillExpire_eq drill due
  have past := s.drillOver_coupled
  have left := s.drillOver_left
  generalize s.drillOver = v at run past left
  have ended : v.couch.drillEnd = none := by rw [past.couch]; rfl
  rw [run]
  split
  · exact ⟨past.only, ended, left⟩
  · split
    · have started := v.startHandover_coupled none .auto 0
      exact ⟨past.only.trans (started.only.more fun k ⟨d, m, x⟩ => ⟨d, (by decide : ∀ d ∈ announceFields, d ∈ drillFields) d m, x⟩), started.couch ▸ ended,
        (started.read _ (by decide) (by decide) (by decide)).trans left⟩
    · have told : Keeps [] v (v.pairEvent .auto 0x0B0D 0 0 0 0) := (Keeps.refl v).pairEvent _ _ _ _ _ _
      exact ⟨past.only.tail told.any, told.couch_drillEnd.trans ended, (told.read _ (by decide)).trans left⟩

theorem drillExpire_ends {e : Int} (awake : s.inReset = false) (drill : s.couch.drillEnd = some e) (due : s.reaches e = true) :
    ∃ t, exec .drillExpire s = .next t ∧ t.couch.drillEnd = none ∧ t.get COUCH.DRILL_LEFT = 0 ∧
      (servingMode s.mode = true → s.pairState = 3 → s.couch.hand = none → t.couch.hand = some ⟨none, .auto, s.sheetNo + 3, 0, false⟩) ∧
      Only [.couch] drillFields s t := by
  obtain ⟨only, ended, left⟩ := runDrillExpire_frame drill due
  have run := runDrillExpire_eq drill due
  have awake' := (only.inReset rfl).trans awake
  have past := s.drillOver_coupled
  generalize s.drillOver = v at run past
  refine ⟨_, rfl, ?_⟩
  rw [State.awake_eq awake]
  generalize runDrillExpire s = x at only ended left run awake' ⊢
  have kept := x.settle_kept
  refine ⟨kept.couch_drillEnd.trans ended, (kept.read _ (by decide)).trans left, fun serving state free => ?_, only.settle⟩
  have serving' : ¬(!servingMode v.mode) = true := by rw [past.only.mode rfl, serving]; decide
  have state' : v.pairState = 3 := (past.read _ (by decide) (by decide) (by decide)).trans state
  have free' : v.couch.hand.isNone = true := by rw [past.couch]; exact Option.isNone_iff_eq_none.2 free
  have sheet : v.sheetNo = s.sheetNo := past.only.read _ (by decide) (by decide)
  rw [if_neg serving', if_pos ⟨state', free'⟩] at run
  have hand : x.couch.hand = some ⟨none, .auto, s.sheetNo + 3, 0, false⟩ := by
    rw [run, (v.startHandover_coupled none .auto 0).couch, sheet]
    rfl
  exact (State.settle_hand awake' (.inr (.inr (.inr (by rw [hand]; rfl))))).1.trans hand

/-- Settles O29: acknowledgements and forces hold through the judging of the faults, and the timer, the pulse and the drill do what falls due. -/
theorem faultCommandsComplete : Obligations.FaultCommandsComplete := by
  refine ⟨fun s o w v awake ho hw => fltAck_acknowledges v awake ho hw,
    fun s o v awake ho unlocked bit stage settled => fltEscClear_clears awake ho unlocked bit stage settled,
    fun s o w v awake ho hw votes _ => fltForceAct_stores v awake ho hw votes, fun s o w v awake ho hw votes _ => fltForceWire_stores v awake ho hw votes,
    fun s pair equal awake lo hi => ?_, fun s awake timer pressing stage => reactionTimerExpire_advances awake timer pressing stage,
    fun s awake due => faultNPulseEnd_ends awake due, fun s e awake drill due => drillExpire_ends awake drill due⟩
  refine ⟨_, rfl, ?_⟩
  rw [State.awake_eq awake, runFaultWireBreak, if_neg (by omega)]
  exact State.settle_kept _

end Sys2Proof.Machine
end

section
/-! PAUSE, its watchdog and low-power idle (R248 to R252). -/

namespace Sys2Proof.Machine

variable {ps : List Part} {l : List Fld} {s t u : State}

/-! ### The fields of PAUSE and LPI -/

/-- The fields of a port that PAUSE and LPI read and write. -/
def pauseFields (p : Nat) : List Fld :=
  [MAC.PAUSE_RX p, MAC.PORT_STATUS_PAUSED p, MAC.PORT_STATUS_PAUSE_OVERRIDE p, MAC.PAUSE_WD_TRIP p, MAC.PAUSE_CFG_RX_EN p, MAC.PORT_CFG_RATE p,
    MAC.PORT_STATUS_LPI_TX p, MAC.LPI_ENTRY p, MAC.EEE_CFG_TW_TX p, MAC.EEE_PARTNER_RX_TW p]

theorem pauseFields_quiet : ∀ p < 8, ∀ f ∈ pauseFields p, noisy f.key = false := by decide

/-- None of them is a field that the counter changes. -/
theorem pauseFields_time : ∀ p < 8, ∀ f ∈ pauseFields p, ∀ d ∈ timeFields, f.key ≠ d.key := by decide

/-- They lie apart. -/
theorem pauseFields_apart : ∀ p < 8, ∀ f ∈ pauseFields p, ∀ g ∈ pauseFields p, f.key = g.key → f = g := by decide

theorem Ran.port (h : Ran s t) (p : Nat) : t.port p = s.port p := by rw [State.port, State.port, Only.mac h rfl]

theorem Ran.pauseRead (h : Ran s t) {p : Nat} (hp : p < 8) {f : Fld} (m : f ∈ pauseFields p) : t.get f = s.get f :=
  Only.read h f (pauseFields_quiet p hp f m) (pauseFields_time p hp f m)

theorem Ran.length (h : Ran s t) : t.mac.ports.length = s.mac.ports.length := by rw [Only.mac h rfl]

theorem State.unpause_only (s : State) (p : Nat) : Only [.mac] [MAC.PORT_STATUS_PAUSED p] s (s.unpause p) :=
  Only.putBK ((Only.refl s).set_mac rfl _) _ _ ⟨_, by simp, rfl⟩

theorem State.unpause_flag (s : State) (p : Nat) : (s.unpause p).flag (MAC.PORT_STATUS_PAUSED p) = false := State.flag_putB _ _ _ rfl

theorem State.unpause_port (s : State) {p : Nat} (there : p < s.mac.ports.length) : (s.unpause p).port p = { s.port p with pauseEnd := none } :=
  s.port_setPort _ there

/-! ### A PAUSE frame (R248) -/

/-- The state in which a frame that has arrived is taken from its port. -/
def State.rxTaken (s : State) (p : Nat) (r : RxFrame) : State := s.setPort p { s.port p with rx := (s.port p).rx.erase r }

theorem State.takeRx_some {p cls cost : Nat} {ok : RxFrame → Bool} {r : RxFrame} (first : (s.port p).rx.find? ok = some r)
    (pays : (s.charge cls cost).isSome = true) :
    ∃ u, Keeps [] s u ∧ ∀ (self : Instr) (f : RxFrame → State → State), s.takeRx p ok cls cost self f = f r (u.rxTaken p r) := by
  obtain ⟨u, kept, run, -⟩ := State.tryPay_some pays
  refine ⟨u, kept, fun self f => ?_⟩
  rw [State.takeRx, first]
  exact run _ _ _ _

theorem State.rxTaken_port (s : State) {p : Nat} (r : RxFrame) (there : p < s.mac.ports.length) :
    (s.rxTaken p r).port p = { s.port p with rx := (s.port p).rx.erase r } := s.port_setPort _ there

/-- When the pause that a frame asks for begins and ends. -/
def State.pauseBegins (s : State) (p : Nat) (r : RxFrame) : Nat :=
  ((r.time : Int) + s.portSize p 3).toNat + wireUnits (s.get (MAC.PORT_CFG_RATE p)) (r.bytes.length + 4)

/-- The pause that a frame asks for. -/
def State.pausedBy (s : State) (p : Nat) (r : RxFrame) : State :=
  if beAt (ethParse r.bytes).payload 2 2 = 0 then s.unpause p
  else (s.setPort p { s.port p with
      pauseEnd := some (s.pauseBegins p r + wireUnits (s.get (MAC.PORT_CFG_RATE p)) (64 * beAt (ethParse r.bytes).payload 2 2))
      pauseFrom := if s.flag (MAC.PORT_STATUS_PAUSED p) then (s.port p).pauseFrom else s.pauseBegins p r }).putB (MAC.PORT_STATUS_PAUSED p) true

theorem runPauseRx_eq {p : Nat} {r : RxFrame} (first : (s.port p).rx.find? (isRule 1) = some r) (pays : (s.charge 1 30).isSome = true) :
    ∃ u, Keeps [] s u ∧ runPauseRx p s = (let v := (u.rxTaken p r).inc (MAC.PAUSE_RX p)
      if (!v.flag (MAC.PAUSE_CFG_RX_EN p) || v.flag (MAC.PORT_STATUS_PAUSE_OVERRIDE p)) = true then v else v.pausedBy p r) := by
  obtain ⟨u, kept, run⟩ := State.takeRx_some first pays
  refine ⟨u, kept, ?_⟩
  unfold runPauseRx
  rw [run]
  rfl

theorem State.pausedBy_only (s : State) (p : Nat) (r : RxFrame) : Only [.mac] [MAC.PORT_STATUS_PAUSED p] s (s.pausedBy p r) :=
  Only.ite' (s.unpause_only p) (Only.putBK ((Only.refl s).set_mac rfl _) _ _ ⟨_, by simp, rfl⟩)

theorem State.pausedBy_flag (s : State) (p : Nat) (r : RxFrame) :
    (s.pausedBy p r).flag (MAC.PORT_STATUS_PAUSED p) = (beAt (ethParse r.bytes).payload 2 2 != 0) := by
  unfold State.pausedBy
  split
  · next h => rw [s.unpause_flag p, h]; rfl
  · next h => rw [State.flag_putB _ _ _ rfl]; simpa using h

theorem State.pausedBy_port (s : State) {p : Nat} (r : RxFrame) (there : p < s.mac.ports.length) :
    ((s.pausedBy p r).port p).rx = (s.port p).rx ∧ ((s.pausedBy p r).port p).pauseEnd = (if beAt (ethParse r.bytes).payload 2 2 = 0 then none else
      some (s.pauseBegins p r + wireUnits (s.get (MAC.PORT_CFG_RATE p)) (64 * beAt (ethParse r.bytes).payload 2 2))) := by
  unfold State.pausedBy
  split
  · rw [s.unpause_port there]
    exact ⟨rfl, rfl⟩
  · exact ⟨(congrArg PortSt.rx (s.port_setPort _ there)).trans rfl, (congrArg PortSt.pauseEnd (s.port_setPort _ there)).trans rfl⟩

/-- The state in which a PAUSE frame has been taken and counted. -/
structure PauseCounted (p : Nat) (r : RxFrame) (s v : State) : Prop where
  only : Only [.mac] [MAC.PAUSE_RX p] s v
  count : v.get (MAC.PAUSE_RX p) = min (s.get (MAC.PAUSE_RX p) + 1) (2 ^ 48 - 1)
  port : v.port p = { s.port p with rx := (s.port p).rx.erase r }
  length : v.mac.ports.length = s.mac.ports.length

theorem Keeps.pauseCounted (kept : Keeps [] s u) {p : Nat} (r : RxFrame) (hp : p < 8) (there : p < s.mac.ports.length) :
    PauseCounted p r s ((u.rxTaken p r).inc (MAC.PAUSE_RX p)) := by
  have quiet := pauseFields_quiet p hp (MAC.PAUSE_RX p) (by simp [pauseFields])
  have taken : Only [.mac] [MAC.PAUSE_RX p] s (u.rxTaken p r) := Only.set_mac kept.only0 rfl _
  have counted : Keeps [MAC.PAUSE_RX p] (u.rxTaken p r) ((u.rxTaken p r).inc (MAC.PAUSE_RX p)) := (Keeps.refl _).incK _ ⟨_, by simp, rfl⟩
  refine ⟨taken.tail counted, ?_, ?_, ?_⟩
  · exact (State.incBy_get _ _ _ rfl quiet).trans (by rw [show (u.rxTaken p r).get _ = u.get (MAC.PAUSE_RX p) from rfl, kept.read _ quiet])
  · rw [counted.port, u.rxTaken_port r (kept.mac ▸ there), kept.port]
  · rw [counted.mac, show (u.rxTaken p r).mac.ports.length = u.mac.ports.length from u.setPort_length p _, kept.mac]

theorem Only.portSize (h : Only ps l s t) (hp : ps.contains .siz = false) (p f : Nat) : t.portSize p f = s.portSize p f := by
  simp only [State.portSize, State.userItem, h.siz hp]

theorem PauseCounted.read {p : Nat} {r : RxFrame} {v : State} (h : PauseCounted p r s v) (hp : p < 8) {f : Fld} (m : f ∈ pauseFields p)
    (other : f ≠ MAC.PAUSE_RX p) : v.get f = s.get f :=
  h.only.read f (pauseFields_quiet p hp f m) fun d md e => other (pauseFields_apart p hp f m _ (by simp [pauseFields]) (e.trans (by rw [List.mem_singleton.1 md])))

theorem pauseRx_pauses {p : Nat} {r : RxFrame} (awake : s.inReset = false) (hp : p < 8) (there : p < s.mac.ports.length)
    (first : (s.port p).rx.find? (isRule 1) = some r) (pays : (s.charge 1 30).isSome = true) :
    ∃ t, exec (.pauseRx p) s = .next t ∧ t.get (MAC.PAUSE_RX p) = min (s.get (MAC.PAUSE_RX p) + 1) (2 ^ 48 - 1) ∧ (t.port p).rx = (s.port p).rx.erase r ∧
      (s.flag (MAC.PAUSE_CFG_RX_EN p) = true → s.flag (MAC.PORT_STATUS_PAUSE_OVERRIDE p) = false →
        t.flag (MAC.PORT_STATUS_PAUSED p) = (beAt (ethParse r.bytes).payload 2 2 != 0) ∧
        (t.port p).pauseEnd = (if beAt (ethParse r.bytes).payload 2 2 = 0 then none else
          some (((r.time : Int) + s.portSize p 3).toNat + wireUnits (s.get (MAC.PORT_CFG_RATE p)) (r.bytes.length + 4) +
            wireUnits (s.get (MAC.PORT_CFG_RATE p)) (64 * beAt (ethParse r.bytes).payload 2 2)))) ∧
      (s.flag (MAC.PAUSE_CFG_RX_EN p) = false ∨ s.flag (MAC.PORT_STATUS_PAUSE_OVERRIDE p) = true →
        t.flag (MAC.PORT_STATUS_PAUSED p) = s.flag (MAC.PORT_STATUS_PAUSED p) ∧ (t.port p).pauseEnd = (s.port p).pauseEnd) ∧
      Only [.mac] [MAC.PAUSE_RX p, MAC.PORT_STATUS_PAUSED p] s t := by
  obtain ⟨u, kept, run⟩ := runPauseRx_eq first pays
  have counted := kept.pauseCounted r hp there
  dsimp only at run
  generalize (u.rxTaken p r).inc (MAC.PAUSE_RX p) = v at run counted
  have quiet {f : Fld} (m : f ∈ pauseFields p) := pauseFields_quiet p hp f m
  have paused : Fld.key (MAC.PORT_STATUS_PAUSED p) ≠ (MAC.PAUSE_RX p).key := by simp only [MAC.PORT_STATUS_PAUSED, MAC.PAUSE_RX]; omega
  have rate : v.get (MAC.PORT_CFG_RATE p) = s.get (MAC.PORT_CFG_RATE p) := counted.read hp (by simp [pauseFields]) (by simp [MAC.PORT_CFG_RATE, MAC.PAUSE_RX])
  have flagEn : v.flag (MAC.PAUSE_CFG_RX_EN p) = s.flag (MAC.PAUSE_CFG_RX_EN p) := by
    rw [State.flag, State.flag, counted.read hp (by simp [pauseFields]) (by simp [MAC.PAUSE_CFG_RX_EN, MAC.PAUSE_RX])]
  have flagOver : v.flag (MAC.PORT_STATUS_PAUSE_OVERRIDE p) = s.flag (MAC.PORT_STATUS_PAUSE_OVERRIDE p) := by
    rw [State.flag, State.flag, counted.read hp (by simp [pauseFields]) (by simp [MAC.PORT_STATUS_PAUSE_OVERRIDE, MAC.PAUSE_RX])]
  have flagPaused : v.flag (MAC.PORT_STATUS_PAUSED p) = s.flag (MAC.PORT_STATUS_PAUSED p) := by
    rw [State.flag, State.flag, counted.read hp (by simp [pauseFields]) (by simp [MAC.PORT_STATUS_PAUSED, MAC.PAUSE_RX])]
  have only : Only [.mac] [MAC.PAUSE_RX p, MAC.PORT_STATUS_PAUSED p] s v := counted.only.more (by simp)
  have ignored (h : s.flag (MAC.PAUSE_CFG_RX_EN p) = false ∨ s.flag (MAC.PORT_STATUS_PAUSE_OVERRIDE p) = true) :
      (!v.flag (MAC.PAUSE_CFG_RX_EN p) || v.flag (MAC.PORT_STATUS_PAUSE_OVERRIDE p)) = true := by
    rw [flagEn, flagOver]
    obtain h | h := h <;> simp [h]
  have later := v.pausedBy_only p r
  obtain ⟨rx, fin⟩ := v.pausedBy_port r (counted.length ▸ there)
  have begins : v.pauseBegins p r = s.pauseBegins p r := by rw [State.pauseBegins, State.pauseBegins, counted.only.portSize rfl, rate]
  rw [begins, rate] at fin
  refine ⟨_, rfl, ?_⟩
  rw [State.awake_eq awake]
  have settled := (runPauseRx p s).settle_kept
  rw [settled.port, settled.flag _ (quiet (by simp [pauseFields])), settled.read _ (quiet (by simp [pauseFields]))]
  by_cases skip : (!v.flag (MAC.PAUSE_CFG_RX_EN p) || v.flag (MAC.PORT_STATUS_PAUSE_OVERRIDE p)) = true
  · rw [if_pos skip] at run
    refine ⟨run ▸ counted.count, by rw [run, counted.port], fun en free => ?_, fun _ => by rw [run, flagPaused, counted.port]; exact ⟨rfl, rfl⟩,
      (run ▸ only).tail settled.any⟩
    rw [flagEn, flagOver, en, free] at skip
    exact absurd skip (by decide)
  · rw [if_neg skip] at run
    refine ⟨?_, by rw [run, rx, counted.port], fun _ _ => ?_, fun off => absurd (ignored off) skip, (run ▸ only.trans (later.more (by simp))).tail settled.any⟩
    · rw [run, later.read _ (quiet (by simp [pauseFields])) (by simpa using paused.symm), counted.count]
    · rw [run]
      exact ⟨v.pausedBy_flag p r, fin⟩

/-! ### The pause ends, and the watchdog (R248, R249) -/

theorem pauseExpire_ends {p e : Nat} (awake : s.inReset = false) (hp : p < 8) (there : p < s.mac.ports.length) (due : (s.port p).pauseEnd = some e)
    (soon : e ≤ s.time.next) :
    ∃ t, exec (.pauseExpire p) s = .next t ∧ t.flag (MAC.PORT_STATUS_PAUSED p) = false ∧ (t.port p).pauseEnd = none ∧
      Only [.mac, .time] (MAC.PORT_STATUS_PAUSED p :: timeFields) s t := by
  have ran := s.advanceTo_ran e
  have run : runPauseExpire p s = (s.advanceTo e).unpause p := by
    unfold runPauseExpire
    rw [due]
    exact if_pos soon
  generalize s.advanceTo e = v at ran run
  have only := v.unpause_only p
  refine ⟨_, rfl, ?_⟩
  rw [State.awake_eq awake]
  have settled := (runPauseExpire p s).settle_kept
  rw [settled.port, settled.flag _ (pauseFields_quiet p hp _ (by simp [pauseFields])), run]
  refine ⟨v.unpause_flag p, ?_, ?_⟩
  · rw [v.unpause_port (ran.length ▸ there)]
  · rw [run] at settled
    exact ((Only.parts ran rfl (by simp +contextual)).trans (only.parts rfl (by simp))).tail settled.any

/-- The watchdog has tripped: PAUSE is ignored for the holdoff. -/
def State.tripped (s : State) (p : Nat) : State :=
  (((s.setPort p { s.port p with overrideEnd := some (s.units + nsU (1000000 * s.get (MAC.PAUSE_HOLDOFF p))) }).unpause p).putB
    (MAC.PORT_STATUS_PAUSE_OVERRIDE p) true).inc (MAC.PAUSE_WD_TRIP p)

theorem State.tripped_only (s : State) (p : Nat) :
    Only [.mac] [MAC.PORT_STATUS_PAUSED p, MAC.PORT_STATUS_PAUSE_OVERRIDE p, MAC.PAUSE_WD_TRIP p] s (s.tripped p) := by
  have held := Only.set_mac (ps := [.mac]) (l := [MAC.PORT_STATUS_PAUSED p, MAC.PORT_STATUS_PAUSE_OVERRIDE p, MAC.PAUSE_WD_TRIP p]) (Only.refl s) rfl
    (s.setPort p { s.port p with overrideEnd := some (s.units + nsU (1000000 * s.get (MAC.PAUSE_HOLDOFF p))) }).mac
  exact ((held.trans ((State.unpause_only _ p).more (by simp))).putBK _ _ ⟨_, by simp, rfl⟩).incK _ ⟨_, by simp, rfl⟩

theorem State.tripped_values (s : State) {p : Nat} (hp : p < 8) (there : p < s.mac.ports.length) :
    (s.tripped p).flag (MAC.PORT_STATUS_PAUSED p) = false ∧ (s.tripped p).flag (MAC.PORT_STATUS_PAUSE_OVERRIDE p) = true ∧
      ((s.tripped p).port p).pauseEnd = none ∧ (s.tripped p).get (MAC.PAUSE_WD_TRIP p) = min (s.get (MAC.PAUSE_WD_TRIP p) + 1) (2 ^ 48 - 1) := by
  obtain ⟨v, hv⟩ : ∃ v, v = s.setPort p { s.port p with overrideEnd := some (s.units + nsU (1000000 * s.get (MAC.PAUSE_HOLDOFF p))) } := ⟨_, rfl⟩
  obtain ⟨w, hw⟩ : ∃ w, w = (v.unpause p).putB (MAC.PORT_STATUS_PAUSE_OVERRIDE p) true := ⟨_, rfl⟩
  have run : s.tripped p = w.inc (MAC.PAUSE_WD_TRIP p) := by rw [hw, hv]; rfl
  have counted : Keeps [MAC.PAUSE_WD_TRIP p] w (s.tripped p) := run ▸ (Keeps.refl w).incK _ ⟨_, by simp, rfl⟩
  have quiet {f : Fld} (m : f ∈ pauseFields p) := pauseFields_quiet p hp f m
  have length : v.mac.ports.length = s.mac.ports.length := hv ▸ s.setPort_length p _
  refine ⟨?_, ?_, ?_, ?_⟩
  · rw [State.flag, counted.get _ (quiet (by simp [pauseFields])) (by simp [MAC.PORT_STATUS_PAUSED, MAC.PAUSE_WD_TRIP]; omega), hw]
    exact (State.flag_put_other _ _ _ _ (by simp [MAC.PORT_STATUS_PAUSED, MAC.PORT_STATUS_PAUSE_OVERRIDE])).trans (v.unpause_flag p)
  · rw [State.flag, counted.get _ (quiet (by simp [pauseFields])) (by simp [MAC.PORT_STATUS_PAUSE_OVERRIDE, MAC.PAUSE_WD_TRIP]; omega), hw]
    exact State.flag_putB _ _ _ rfl
  · rw [counted.port, hw]
    exact congrArg PortSt.pauseEnd (v.unpause_port (length ▸ there))
  · rw [run, State.inc, State.incBy_get _ _ _ rfl (quiet (by simp [pauseFields])), hw, hv]
    congr 2
    exact (State.get_put_other _ _ _ _ (by simp [MAC.PORT_STATUS_PAUSE_OVERRIDE, MAC.PAUSE_WD_TRIP]; omega)).trans
      (State.get_put_other _ _ _ _ (by simp [MAC.PORT_STATUS_PAUSED, MAC.PAUSE_WD_TRIP]; omega))

theorem pauseStorm_trips {p e : Nat} (awake : s.inReset = false) (hp : p < 8) (there : p < s.mac.ports.length)
    (paused : s.flag (MAC.PORT_STATUS_PAUSED p) = true) (due : (s.port p).pauseEnd = some e)
    (long : (s.port p).pauseFrom + nsU (1000 * s.get (MAC.PAUSE_CFG_WD_US p)) < e)
    (soon : (s.port p).pauseFrom + nsU (1000 * s.get (MAC.PAUSE_CFG_WD_US p)) < s.time.next) :
    ∃ t, exec (.pauseStorm p) s = .next t ∧ t.flag (MAC.PORT_STATUS_PAUSED p) = false ∧ t.flag (MAC.PORT_STATUS_PAUSE_OVERRIDE p) = true ∧
      (t.port p).pauseEnd = none ∧ t.get (MAC.PAUSE_WD_TRIP p) = min (s.get (MAC.PAUSE_WD_TRIP p) + 1) (2 ^ 48 - 1) ∧
      Only [.mac, .time] ([MAC.PORT_STATUS_PAUSED p, MAC.PORT_STATUS_PAUSE_OVERRIDE p, MAC.PAUSE_WD_TRIP p] ++ timeFields) s t := by
  have ran := s.advanceTo_ran ((s.port p).pauseFrom + nsU (1000 * s.get (MAC.PAUSE_CFG_WD_US p)) + 1)
  have run : runPauseStorm p s = ((s.advanceTo ((s.port p).pauseFrom + nsU (1000 * s.get (MAC.PAUSE_CFG_WD_US p)) + 1)).tripped p).eventJ .auto 0x0806 p 1 0 1 := by
    refine if_pos ?_
    rw [paused, due, decide_eq_true soon, Option.any_some, decide_eq_true long]
    rfl
  generalize s.advanceTo _ = v at ran run
  have only := v.tripped_only p
  obtain ⟨cleared, over_, fin, count⟩ := v.tripped_values hp (ran.length ▸ there)
  rw [ran.pauseRead hp (by simp [pauseFields])] at count
  generalize v.tripped p = w at run only cleared over_ fin count
  have settled : Keeps [] w (runPauseStorm p s).settle := run ▸ ((Keeps.refl w).eventJ _ _ _ _ _ _).settle
  have quiet {f : Fld} (m : f ∈ pauseFields p) := pauseFields_quiet p hp f m
  refine ⟨_, rfl, ?_⟩
  rw [State.awake_eq awake, settled.port, settled.flag _ (quiet (by simp [pauseFields])), settled.flag _ (quiet (by simp [pauseFields])),
    settled.read _ (quiet (by simp [pauseFields]))]
  exact ⟨cleared, over_, fin, count, ((Only.parts ran rfl fun k ⟨d, m, x⟩ => ⟨d, List.mem_append_right _ m, x⟩).trans
    (only.parts rfl fun k ⟨d, m, x⟩ => ⟨d, List.mem_append_left _ m, x⟩)).tail settled.any⟩

/-- The holdoff of a port is over. -/
def State.unheld (s : State) (p : Nat) : State := (s.setPort p { s.port p with overrideEnd := none }).putB (MAC.PORT_STATUS_PAUSE_OVERRIDE p) false

theorem State.unheld_only (s : State) (p : Nat) : Only [.mac] [MAC.PORT_STATUS_PAUSE_OVERRIDE p] s (s.unheld p) :=
  ((Only.refl s).set_mac rfl (s.setPort p { s.port p with overrideEnd := none }).mac).putBK _ _ ⟨_, by simp, rfl⟩

theorem State.unheld_values (s : State) {p : Nat} (there : p < s.mac.ports.length) :
    (s.unheld p).flag (MAC.PORT_STATUS_PAUSE_OVERRIDE p) = false ∧ ((s.unheld p).port p).overrideEnd = none :=
  ⟨State.flag_putB _ _ _ rfl, congrArg PortSt.overrideEnd (s.port_setPort _ there)⟩

theorem pauseHoldoffEnd_ends {p e : Nat} (awake : s.inReset = false) (hp : p < 8) (there : p < s.mac.ports.length) (due : (s.port p).overrideEnd = some e)
    (soon : e ≤ s.time.next) :
    ∃ t, exec (.pauseHoldoffEnd p) s = .next t ∧ t.flag (MAC.PORT_STATUS_PAUSE_OVERRIDE p) = false ∧ (t.port p).overrideEnd = none ∧
      Only [.mac, .time] (MAC.PORT_STATUS_PAUSE_OVERRIDE p :: timeFields) s t := by
  have ran := s.advanceTo_ran e
  have run : runPauseHoldoffEnd p s = (s.advanceTo e).unheld p := by
    unfold runPauseHoldoffEnd
    rw [due]
    exact if_pos soon
  generalize s.advanceTo e = v at ran run
  obtain ⟨flag, fin⟩ := v.unheld_values (ran.length ▸ there)
  have only := v.unheld_only p
  refine ⟨_, rfl, ?_⟩
  rw [State.awake_eq awake]
  have settled := (runPauseHoldoffEnd p s).settle_kept
  rw [settled.port, settled.flag _ (pauseFields_quiet p hp _ (by simp [pauseFields])), run]
  rw [run] at settled
  exact ⟨flag, fin, ((Only.parts ran rfl (by simp +contextual)).trans (only.parts rfl (by simp))).tail settled.any⟩

/-! ### Low-power idle (R250, R252) -/

theorem lpiEnter_enters {p : Nat} (awake : s.inReset = false) (hp : p < 8) (en : s.flag (MAC.EEE_CFG_EN p) = true)
    (kind : s.get (MAC.EEE_CFG_LINK_KIND p) = 1 ∨ s.get (MAC.EEE_CFG_LINK_KIND p) = 2) (up : s.get (MAC.PORT_STATUS_LINK p) = 2)
    (out : s.flag (MAC.PORT_STATUS_LPI_TX p) = false) (none_ : (s.port p).unsched = []) (pending : s.flag SHEET.SHEET_STATUS_PENDING = false)
    (launch : nextLaunch (s.look p) s.units = none) (free : (s.port p).wireFree ≤ s.units) :
    ∃ t, exec (.lpiEnter p) s = .next t ∧ t.flag (MAC.PORT_STATUS_LPI_TX p) = true ∧
      t.get (MAC.LPI_ENTRY p) = min (s.get (MAC.LPI_ENTRY p) + 1) (2 ^ 48 - 1) ∧ Keeps [MAC.PORT_STATUS_LPI_TX p, MAC.LPI_ENTRY p] s t := by
  have run : runLpiEnter p s = ((s.charge0 40).putB (MAC.PORT_STATUS_LPI_TX p) true).inc (MAC.LPI_ENTRY p) := by
    refine if_pos ?_
    rw [en, up, out, none_, pending, launch, decide_eq_true free]
    obtain kind | kind := kind <;> rw [kind] <;> rfl
  have paid : Keeps [] s (s.charge0 40) := (Keeps.refl s).charge0 40
  generalize s.charge0 40 = v at run paid
  have quiet {f : Fld} (m : f ∈ pauseFields p) := pauseFields_quiet p hp f m
  have counted : Keeps [MAC.LPI_ENTRY p] (v.putB (MAC.PORT_STATUS_LPI_TX p) true) (runLpiEnter p s) := run ▸ (Keeps.refl _).incK _ ⟨_, by simp, rfl⟩
  have apart : (MAC.PORT_STATUS_LPI_TX p).key ≠ (MAC.LPI_ENTRY p).key := by simp only [MAC.PORT_STATUS_LPI_TX, MAC.LPI_ENTRY]; omega
  refine ⟨_, rfl, ?_⟩
  rw [State.awake_eq awake]
  have settled := (runLpiEnter p s).settle_kept
  rw [settled.flag _ (quiet (by simp [pauseFields])), settled.read _ (quiet (by simp [pauseFields]))]
  refine ⟨?_, ?_, (((paid.any (l := [MAC.PORT_STATUS_LPI_TX p, MAC.LPI_ENTRY p])).putBK _ _ ⟨_, by simp, rfl⟩).trans (counted.more (by simp))).trans settled.any⟩
  · rw [State.flag, counted.get _ (quiet (by simp [pauseFields])) (by simpa using apart)]
    exact State.flag_putB _ _ _ rfl
  · rw [run, State.inc, State.incBy_get _ _ _ rfl (quiet (by simp [pauseFields]))]
    congr 2
    exact (State.get_put_other _ _ _ _ apart.symm).trans (paid.read _ (quiet (by simp [pauseFields])))

/-- The time a port needs to wake is read off its registers. -/
theorem Ran.wakeTime (h : Ran s t) {p : Nat} (hp : p < 8) : t.wakeTime p = s.wakeTime p := by
  rw [State.wakeTime, State.wakeTime, h.pauseRead hp (f := MAC.PORT_CFG_RATE p) (by simp [pauseFields]),
    h.pauseRead hp (f := MAC.EEE_CFG_TW_TX p) (by simp [pauseFields]), h.pauseRead hp (f := MAC.EEE_PARTNER_RX_TW p) (by simp [pauseFields])]

theorem lpiWake_wakes {p : Nat} (awake : s.inReset = false) (hp : p < 8) (there : p < s.mac.ports.length) (idle : s.flag (MAC.PORT_STATUS_LPI_TX p) = true)
    (hu : u = s.advanceTo (min (s.wakeFrom p) s.time.next)) :
    ∃ t, exec (.lpiWake p) s = .next t ∧ t.flag (MAC.PORT_STATUS_LPI_TX p) = false ∧ (t.port p).wakeAt = u.units + s.wakeTime p ∧
      Only [.mac, .time] (MAC.PORT_STATUS_LPI_TX p :: timeFields) s t := by
  have ran : Ran s u := hu ▸ s.advanceTo_ran _
  have run : runLpiWake p s = ((u.charge0 40).setPort p { u.port p with wakeAt := u.units + u.wakeTime p }).putB (MAC.PORT_STATUS_LPI_TX p) false := by
    rw [hu]
    exact if_pos idle
  have paid : Keeps [] u (u.charge0 40) := (Keeps.refl u).charge0 40
  rw [ran.wakeTime hp] at run
  generalize u.charge0 40 = v at run paid
  have time : Only [.mac, .time] (MAC.PORT_STATUS_LPI_TX p :: timeFields) s v := (Only.parts ran rfl (by simp +contextual)).tail paid.any
  have only := (time.set_mac rfl (v.setPort p { u.port p with wakeAt := u.units + s.wakeTime p }).mac).putBK (MAC.PORT_STATUS_LPI_TX p) false
    ⟨_, by simp, rfl⟩
  refine ⟨_, rfl, ?_⟩
  rw [State.awake_eq awake]
  have settled := (runLpiWake p s).settle_kept
  rw [settled.port, settled.flag _ (pauseFields_quiet p hp _ (by simp [pauseFields])), run]
  rw [run] at settled
  exact ⟨State.flag_putB _ _ _ rfl, congrArg PortSt.wakeAt (v.port_setPort _ (by rw [paid.mac]; exact ran.length ▸ there)), only.tail settled.any⟩

/-- Settles O37: PAUSE and low-power idle change one port and the flags that show it, and the time where they wait for it. -/
theorem pauseEventsComplete : Obligations.PauseEventsComplete :=
  ⟨fun _ _ _ awake hp ports first pays => pauseRx_pauses awake hp (ports ▸ hp) first pays,
    fun _ _ _ awake hp ports due soon => pauseExpire_ends awake hp (ports ▸ hp) due soon,
    fun _ _ _ awake hp ports paused due long soon => pauseStorm_trips awake hp (ports ▸ hp) paused due long soon,
    fun _ _ _ awake hp ports due soon => pauseHoldoffEnd_ends awake hp (ports ▸ hp) due soon,
    fun _ _ awake hp en kind up out none_ pending launch free => lpiEnter_enters awake hp en kind up out none_ pending launch free,
    fun _ _ _ awake hp ports idle hu => lpiWake_wakes awake hp (ports ▸ hp) idle hu⟩

end Sys2Proof.Machine
end

section
/-! The keep-alive domain and the power warning (R65, R418, R442 to R446). -/

namespace Sys2Proof.Machine

variable {ps : List Part} {l : List Fld} {s t u : State}

/-! ### VKEEP goes and comes back (R444) -/

/-- The fields that VKEEP resets. -/
def vkeepFields : List Fld := [KEEP.KEEP_STATUS_VKEEP_LOW, TIME.KA_ALIGN_CNT, TIME.KA_ALIGN_TIME, TIME.KA_FREQ]

theorem vkeepFields_quiet : ∀ f ∈ vkeepFields, noisy f.key = false := by decide

theorem State.noAlign_keeps (s : State) : Keeps vkeepFields s s.noAlign := (Keeps.refl s).putsIn _ (by simp [vkeepFields])

/-- The alignment reads 0. -/
structure NoAlign (s : State) : Prop where
  cnt : s.get TIME.KA_ALIGN_CNT = 0
  time : s.get TIME.KA_ALIGN_TIME = 0
  freq : s.get TIME.KA_FREQ = 0

theorem State.noAlign_reads (s : State) : NoAlign s.noAlign := by
  have distinct : ([(TIME.KA_ALIGN_CNT, 0), (TIME.KA_ALIGN_TIME, 0), (TIME.KA_FREQ, 0)].map (fun q : Fld × Nat => q.1.key)).Nodup := by decide
  exact ⟨(State.get_puts_mem s distinct (by simp) (by decide)), (State.get_puts_mem s distinct (by simp) (by decide)),
    (State.get_puts_mem s distinct (by simp) (by decide))⟩

theorem NoAlign.keeps (h : NoAlign s) (k : Keeps [KEEP.KEEP_STATUS_VKEEP_LOW] s t) : NoAlign t :=
  ⟨(k.get _ (by decide) (by decide)).trans h.cnt, (k.get _ (by decide) (by decide)).trans h.time, (k.get _ (by decide) (by decide)).trans h.freq⟩

/-- The state in which the domain has lost its supply. -/
def State.vkeepLost (s : State) : State :=
  { s with keep := { lost := true, present := false }, time := { s.time with kaCopy := none, kaFreqCopy := 0, kaWinStart := none } }

theorem vkeepLoss_loses (s : State) :
    ∃ t, exec .vkeepLoss s = .next t ∧ t.flag KEEP.KEEP_STATUS_VKEEP_LOW = true ∧ t.get TIME.KA_ALIGN_CNT = 0 ∧ t.get TIME.KA_ALIGN_TIME = 0 ∧
      t.get TIME.KA_FREQ = 0 ∧ Keeps vkeepFields s.vkeepLost t := by
  have run : runVkeepLoss s = (s.vkeepLost.putB KEEP.KEEP_STATUS_VKEEP_LOW true).noAlign := rfl
  have low : (s.vkeepLost.putB KEEP.KEEP_STATUS_VKEEP_LOW true).flag KEEP.KEEP_STATUS_VKEEP_LOW = true := State.flag_putB _ _ _ rfl
  have lost : Keeps vkeepFields s.vkeepLost (s.vkeepLost.putB KEEP.KEEP_STATUS_VKEEP_LOW true) := (Keeps.refl _).putBK _ _ ⟨_, by simp [vkeepFields], rfl⟩
  generalize s.vkeepLost.putB KEEP.KEEP_STATUS_VKEEP_LOW true = v at run low lost
  have reads := v.noAlign_reads
  have kept := v.noAlign_keeps
  have low' : v.noAlign.flag KEEP.KEEP_STATUS_VKEEP_LOW = true := by
    rw [← low]
    exact (State.flag_put_other _ _ _ _ (by decide)).trans ((State.flag_put_other _ _ _ _ (by decide)).trans (State.flag_put_other _ _ _ _ (by decide)))
  have settled := v.noAlign.settle_kept
  obtain ⟨cnt, time, freq⟩ := reads.keeps settled.any
  refine ⟨_, rfl, ?_⟩
  rw [run]
  exact ⟨(settled.flag _ (by decide)).trans low', cnt, time, freq, (lost.trans kept).trans settled.any⟩

/-- The state in which the domain has its supply again. -/
def State.vkeepBack (s : State) : State :=
  { s with regs := s.regs.filter (fun p => !(isKeep p.1)), keep := { s.keep with latches := List.replicate 16 {}, present := true },
           glb := { s.glb with posted := s.glb.posted.filter (fun w => decide (w.addr < 0x260000)) } }

theorem vkeepRise_resets (s : State) (low : Bool) :
    ∃ t, exec (.vkeepRise low) s = .next t ∧ t.flag KEEP.KEEP_STATUS_VKEEP_LOW = low ∧ t.get TIME.KA_ALIGN_CNT = 0 ∧ t.get TIME.KA_ALIGN_TIME = 0 ∧
      t.get TIME.KA_FREQ = 0 ∧ Keeps vkeepFields s.vkeepBack t := by
  have run : runVkeepRise low s = s.vkeepBack.noAlign.putB KEEP.KEEP_STATUS_VKEEP_LOW low := rfl
  have reads := s.vkeepBack.noAlign_reads
  have kept := s.vkeepBack.noAlign_keeps
  generalize s.vkeepBack.noAlign = v at run reads kept
  have flag : (v.putB KEEP.KEEP_STATUS_VKEEP_LOW low).flag KEEP.KEEP_STATUS_VKEEP_LOW = low := State.flag_putB _ _ _ rfl
  have set : Keeps [KEEP.KEEP_STATUS_VKEEP_LOW] v (v.putB KEEP.KEEP_STATUS_VKEEP_LOW low) := (Keeps.refl v).putBK _ _ ⟨_, by simp, rfl⟩
  generalize v.putB KEEP.KEEP_STATUS_VKEEP_LOW low = w at run flag set
  have settled := w.settle_kept
  obtain ⟨cnt, time, freq⟩ := reads.keeps (set.trans settled.any)
  refine ⟨_, rfl, ?_⟩
  rw [run]
  exact ⟨(settled.flag _ (by decide)).trans flag, cnt, time, freq, (kept.trans (set.more (by simp [vkeepFields]))).trans settled.any⟩

/-! ### The power warning (R442) -/

/-- The state in which the warning pin is low. -/
def State.warned (s : State) : State := { s with ledger := { s.ledger with exitDue := false } }

/-- The state in which the warning stops the classes that it stops. -/
def State.stopped (s : State) : State := { s with ledger := { s.ledger with exitDue := false, warnStop := true } }

theorem runPwrWarn_low (s : State) : runPwrWarn true s = (s.warned.putB LEDGER.LEDGER_STATUS_WARN_PIN false).warnEnter := rfl

/-- The fields of an emergency. -/
def emergFields : List Fld := [LEDGER.LEDGER_STATUS_WARN_PIN, LEDGER.LEDGER_STATUS_EMERG, LEDGER.EMERG_CNT]

theorem State.warnEnter_begins (en : s.flag LEDGER.WARN_CFG_WARN_EN = true) (quiet : s.flag LEDGER.LEDGER_STATUS_EMERG = false) :
    s.warnEnter = ((((({ s with ledger := { s.ledger with warnStop := true } } : State).putB LEDGER.LEDGER_STATUS_EMERG true).inc LEDGER.EMERG_CNT).eventIn
      0x0F01 0 1).journal .auto 3 0 0 1 0x0F01) :=
  if_neg (by rw [en, quiet]; decide)

theorem pwrWarn_begins (awake : s.inReset = false) (en : s.flag LEDGER.WARN_CFG_WARN_EN = true) (quiet : s.flag LEDGER.LEDGER_STATUS_EMERG = false) :
    ∃ t, exec (.pwrWarn true) s = .next t ∧ t.flag LEDGER.LEDGER_STATUS_WARN_PIN = false ∧ t.flag LEDGER.LEDGER_STATUS_EMERG = true ∧
      t.get LEDGER.EMERG_CNT = min (s.get LEDGER.EMERG_CNT + 1) (2 ^ 48 - 1) ∧ Keeps emergFields s.stopped t := by
  obtain ⟨v, hv⟩ : ∃ v, v = s.stopped.putB LEDGER.LEDGER_STATUS_WARN_PIN false := ⟨_, rfl⟩
  have pin : v.flag LEDGER.LEDGER_STATUS_WARN_PIN = false := hv ▸ State.flag_putB _ _ _ rfl
  have low : Keeps [LEDGER.LEDGER_STATUS_WARN_PIN] s.stopped v := hv ▸ (Keeps.refl _).putBK _ _ ⟨_, by simp, rfl⟩
  have run : runPwrWarn true s = (((v.putB LEDGER.LEDGER_STATUS_EMERG true).inc LEDGER.EMERG_CNT).eventIn 0x0F01 0 1).journal .auto 3 0 0 1 0x0F01 := by
    rw [runPwrWarn_low, hv]
    exact State.warnEnter_begins (s := s.warned.putB LEDGER.LEDGER_STATUS_WARN_PIN false) ((State.flag_put_other _ _ _ _ (by decide)).trans en)
      ((State.flag_put_other _ _ _ _ (by decide)).trans quiet)
  have count : v.get LEDGER.EMERG_CNT = s.get LEDGER.EMERG_CNT := low.get _ (by decide) (by decide)
  clear hv
  obtain ⟨w, hw⟩ : ∃ w, w = v.putB LEDGER.LEDGER_STATUS_EMERG true := ⟨_, rfl⟩
  have emerg : w.flag LEDGER.LEDGER_STATUS_EMERG = true := hw ▸ State.flag_putB _ _ _ rfl
  have entered : Keeps [LEDGER.LEDGER_STATUS_EMERG] v w := hw ▸ (Keeps.refl v).putBK _ _ ⟨_, by simp, rfl⟩
  rw [← hw] at run
  clear hw
  have counted : Keeps [LEDGER.EMERG_CNT] w (w.inc LEDGER.EMERG_CNT) := (Keeps.refl w).incK _ ⟨_, by simp, rfl⟩
  have value : (w.inc LEDGER.EMERG_CNT).get LEDGER.EMERG_CNT = min (s.get LEDGER.EMERG_CNT + 1) (2 ^ 48 - 1) := by
    rw [State.inc, State.incBy_get _ _ _ rfl (by decide), entered.get _ (by decide) (by decide), count]
  generalize w.inc LEDGER.EMERG_CNT = x at run counted value
  have settled : Keeps [] x (runPwrWarn true s).settle := run ▸ (((Keeps.refl x).eventIn _ _ _).journal _ _ _ _ _ _).settle
  refine ⟨_, rfl, ?_⟩
  rw [State.awake_eq awake, settled.flag _ (by decide), settled.flag _ (by decide), settled.read _ (by decide)]
  refine ⟨?_, ?_, value, (((low.more (by simp [emergFields])).trans (entered.more (by simp [emergFields]))).trans (counted.more (by simp [emergFields]))).trans
    settled.any⟩
  · rw [State.flag, counted.get _ (by decide) (by decide), entered.get _ (by decide) (by decide)]
    exact pin
  · rw [State.flag, counted.get _ (by decide) (by decide)]
    exact emerg

theorem pwrWarn_lasts (awake : s.inReset = false) (off : s.flag LEDGER.WARN_CFG_WARN_EN = false ∨ s.flag LEDGER.LEDGER_STATUS_EMERG = true) :
    ∃ t, exec (.pwrWarn true) s = .next t ∧ t.flag LEDGER.LEDGER_STATUS_WARN_PIN = false ∧ Keeps [LEDGER.LEDGER_STATUS_WARN_PIN] s.warned t := by
  obtain ⟨v, hv⟩ : ∃ v, v = s.warned.putB LEDGER.LEDGER_STATUS_WARN_PIN false := ⟨_, rfl⟩
  have low : Keeps [LEDGER.LEDGER_STATUS_WARN_PIN] s.warned v := hv ▸ (Keeps.refl _).putBK _ _ ⟨_, by simp, rfl⟩
  have pin : v.flag LEDGER.LEDGER_STATUS_WARN_PIN = false := hv ▸ State.flag_putB _ _ _ rfl
  have en : v.flag LEDGER.WARN_CFG_WARN_EN = s.flag LEDGER.WARN_CFG_WARN_EN := by rw [State.flag, low.get _ (by decide) (by decide)]; rfl
  have emerg : v.flag LEDGER.LEDGER_STATUS_EMERG = s.flag LEDGER.LEDGER_STATUS_EMERG := by rw [State.flag, low.get _ (by decide) (by decide)]; rfl
  have run : runPwrWarn true s = v := by
    rw [runPwrWarn_low, ← hv]
    refine if_pos ?_
    rw [en, emerg]
    obtain off | off := off <;> simp [off]
  refine ⟨_, rfl, ?_⟩
  rw [State.awake_eq awake, run]
  exact ⟨(v.settle_kept.flag _ (by decide)).trans pin, low.trans v.settle_kept.any⟩

theorem pwrWarn_rises (awake : s.inReset = false) :
    ∃ t, exec (.pwrWarn false) s = .next t ∧ t.flag LEDGER.LEDGER_STATUS_WARN_PIN = true ∧ Keeps [LEDGER.LEDGER_STATUS_WARN_PIN]
      { s with ledger := { s.ledger with highAt := if s.flag LEDGER.LEDGER_STATUS_WARN_PIN then s.ledger.highAt else s.mono } } t := by
  obtain ⟨v, hv⟩ : ∃ v : State, v = { s with ledger := { s.ledger with highAt := if s.flag LEDGER.LEDGER_STATUS_WARN_PIN then s.ledger.highAt else s.mono } } :=
    ⟨_, rfl⟩
  have run : runPwrWarn false s = v.putB LEDGER.LEDGER_STATUS_WARN_PIN true := by
    rw [hv]
    unfold runPwrWarn
    cases s.flag LEDGER.LEDGER_STATUS_WARN_PIN <;> rfl
  refine ⟨_, rfl, ?_⟩
  rw [State.awake_eq awake, run, ← hv]
  exact ⟨((State.settle_kept _).flag _ (by decide)).trans (State.flag_putB _ _ _ rfl), ((Keeps.refl v).putBK _ _ ⟨_, by simp, rfl⟩).settle⟩

theorem emergExit_falls (awake : s.inReset = false) (emerg : s.flag LEDGER.LEDGER_STATUS_EMERG = true) (pin : s.flag LEDGER.LEDGER_STATUS_WARN_PIN = true)
    (due : s.reaches (s.ledger.highAt + (s.get LEDGER.WARN_CFG_WARN_HOLD_MS * 65536000000 : Nat)) = true) :
    ∃ t, exec .emergExit s = .next t ∧ Keeps [] { s with ledger := { s.ledger with exitDue := true } } t := by
  have run : runEmergExit s = { s with ledger := { s.ledger with exitDue := true } } := if_pos (by rw [emerg, pin, due]; rfl)
  refine ⟨_, rfl, ?_⟩
  rw [State.awake_eq awake, run]
  exact State.settle_kept _

/-! ### The edge latches (R418) -/

/-- The state in which a latch is cleared. -/
def State.unlatched (s : State) (i : Nat) : State := { s with keep := { s.keep with latches := setNth s.keep.latches i {} } }

/-- The registers that show a latch. -/
def latchFields (i : Nat) : List Fld := [KEEP.LATCH_TIME i, KEEP.LATCH_STAT_EDGES i, KEEP.LATCH_STAT_SET i]

theorem latchFields_quiet : ∀ i < 16, ∀ f ∈ latchFields i, noisy f.key = false := by decide

theorem latchFields_distinct : ∀ i < 16, ((latchFields i).map Fld.key).Nodup := by decide

theorem unreserved_latch : ∀ i < 16, reservedSource (288 + i) = false := by decide

/-- PENDING of a latch's source is set and stays. -/
theorem State.setPending_latch (s : State) {i : Nat} (hi : i < 16) : (s.setPending (288 + i) true).flag (IRQ.SRC_CFG_PENDING (288 + i)) = true := by
  have latch : LatchPending (IRQ.SRC_CFG_PENDING (288 + i)).key := by
    unfold LatchPending
    simp only [IRQ.SRC_CFG_PENDING]
    omega
  unfold State.setPending
  dsimp only
  split
  · next on => simpa using on
  · generalize hv : (s.putB (IRQ.SRC_CFG_PENDING (288 + i)) true).put IRQ.IRQ_STATUS_PENDING _ = v
    have set : v.flag (IRQ.SRC_CFG_PENDING (288 + i)) = true := by
      rw [← hv]
      exact (State.flag_put_other _ _ _ _ (by simp only [IRQ.SRC_CFG_PENDING, IRQ.IRQ_STATUS_PENDING]; omega)).trans (State.flag_putB _ _ _ rfl)
    rw [State.flag, ((Calm.refl (l := []) v).vecRefresh _ false (State.vecOf_lt _ _)).get _ (.inr latch) (fun _ m => nomatch m)]
    exact set

/-- What a latch captured is shown. -/
def State.latchShown (s : State) (i : Nat) (x : KaLatch) : State :=
  s.puts [(KEEP.LATCH_TIME i, x.time), (KEEP.LATCH_STAT_EDGES i, x.edges), (KEEP.LATCH_STAT_SET i, 1)]

/-- What follows a command leaves the pending bits of the latches. -/
theorem State.settle_latch {f : Fld} (awake : s.inReset = false) (latch : LatchPending f.key) : s.settle.get f = s.get f := by
  obtain ⟨-, esc⟩ := s.beforeLink.showPair.escHandover_calm
  obtain ⟨_, _, _, shown⟩ := s.beforeLink.showPair_calm
  have above : ∀ d ∈ handFields ++ lossFields, f.key ≠ d.key := fun d m e => by
    have below := (by decide : ∀ d ∈ handFields ++ lossFields, d.key < 67276818) d m
    obtain ⟨lo, -⟩ := latch
    omega
  calc s.settle.get f
    _ = s.showLink.get f := (State.settle_calm (l := []) awake).get f (.inr latch) (fun _ h => nomatch h)
    _ = s.beforeLink.showPair.get f := esc f fun d m => above d (List.mem_append_left _ m)
    _ = s.beforeLink.get f := shown.get f (.inr latch) fun d m => above d (List.mem_append_right _ m)
    _ = s.get f := (State.beforeLink_calm (l := []) s).get f (.inr latch) (fun _ h => nomatch h)

theorem runKaLatchTransfer_eq {i : Nat} (awake : s.inReset = false) (hi : i < 16) (some_ : (nth s.keep.latches i {}).edges ≠ 0) :
    runKaLatchTransfer i s = (((s.charge0 40).latchShown i (nth s.keep.latches i {})).unlatched i).setPending (288 + i) true := by
  refine (if_neg (by rw [awake]; simpa using some_)).trans ?_
  refine (if_neg (by rw [unreserved_latch i hi]; decide)).trans ?_
  rfl

theorem State.latchShown_reads (s : State) {i : Nat} (x : KaLatch) (few : x.edges < 256) :
    (s.latchShown i x).get (KEEP.LATCH_TIME i) = x.time % 2 ^ 48 ∧ (s.latchShown i x).get (KEEP.LATCH_STAT_EDGES i) = x.edges ∧
      (s.latchShown i x).flag (KEEP.LATCH_STAT_SET i) = true := by
  have apart : (KEEP.LATCH_TIME i).key ≠ (KEEP.LATCH_STAT_EDGES i).key ∧ (KEEP.LATCH_TIME i).key ≠ (KEEP.LATCH_STAT_SET i).key ∧
      (KEEP.LATCH_STAT_EDGES i).key ≠ (KEEP.LATCH_STAT_SET i).key := by
    simp only [KEEP.LATCH_TIME, KEEP.LATCH_STAT_EDGES, KEEP.LATCH_STAT_SET]
    omega
  refine ⟨?_, ?_, ?_⟩
  · exact (State.get_put_other _ _ _ _ apart.2.1).trans ((State.get_put_other _ _ _ _ apart.1).trans (State.get_put_same _ _ _))
  · exact (State.get_put_other _ _ _ _ apart.2.2).trans (State.get_put_fits _ _ _ few)
  · exact State.flag_put_bit _ (KEEP.LATCH_STAT_SET i) rfl true

theorem kaLatchTransfer_transfers {i : Nat} (awake : s.inReset = false) (hi : i < 16) (some_ : (nth s.keep.latches i {}).edges ≠ 0)
    (few : (nth s.keep.latches i {}).edges < 256) :
    ∃ t, exec (.kaLatchTransfer i) s = .next t ∧ t.get (KEEP.LATCH_TIME i) = (nth s.keep.latches i {}).time % 2 ^ 48 ∧
      t.get (KEEP.LATCH_STAT_EDGES i) = (nth s.keep.latches i {}).edges ∧ t.flag (KEEP.LATCH_STAT_SET i) = true ∧ t.flag (IRQ.SRC_CFG_PENDING (288 + i)) = true ∧
      Keeps (latchFields i) (s.unlatched i) t := by
  have run := runKaLatchTransfer_eq awake hi some_
  have paid : Keeps [] s (s.charge0 40) := (Keeps.refl s).charge0 40
  have shown : Keeps (latchFields i) (s.charge0 40) ((s.charge0 40).latchShown i (nth s.keep.latches i {})) := (Keeps.refl _).putsIn _ (by simp [latchFields])
  obtain ⟨time, edges, set⟩ := (s.charge0 40).latchShown_reads (nth s.keep.latches i {}) few
  have whole := paid.any.trans shown
  generalize (s.charge0 40).latchShown i (nth s.keep.latches i {}) = v at run time edges set whole
  have cleared : Keeps (latchFields i) (s.unlatched i) (v.unlatched i) := by
    unfold State.unlatched
    rw [whole.keep]
    exact whole.with_keep _
  have pending := (v.unlatched i).setPending_latch hi
  have edge : Keeps [] (v.unlatched i) ((v.unlatched i).setPending (288 + i) true) := (Keeps.refl _).setPending _ _ (by omega)
  have reads (f : Fld) : (v.unlatched i).get f = v.get f := rfl
  generalize (v.unlatched i).setPending (288 + i) true = w at run pending edge
  have quiet {f : Fld} (m : f ∈ latchFields i) := latchFields_quiet i hi f m
  have awake' : w.inReset = false := edge.inReset.trans (whole.inReset.trans awake)
  have latch : LatchPending (IRQ.SRC_CFG_PENDING (288 + i)).key := by
    unfold LatchPending
    simp only [IRQ.SRC_CFG_PENDING]
    omega
  have still : w.settle.flag (IRQ.SRC_CFG_PENDING (288 + i)) = true := by
    rw [State.flag, State.settle_latch awake' latch]
    exact pending
  have settled := edge.trans w.settle_kept
  refine ⟨_, rfl, ?_⟩
  rw [State.awake_eq awake, run]
  exact ⟨(settled.read _ (quiet (by simp [latchFields]))).trans time, (settled.read _ (quiet (by simp [latchFields]))).trans edges,
    (settled.flag _ (quiet (by simp [latchFields]))).trans set, still, cleared.trans settled.any⟩

/-! ### Alignment (R65) -/

/-- The pair that an alignment latches. -/
def State.pairOf (s : State) (n a : Nat) : KaPair := ⟨n % 2 ^ 48, a % 2 ^ 64, (s.targetUnits (a % 2 ^ 64)).toNat⟩

/-- An alignment is shown and kept. -/
def State.aligned (s : State) (p : KaPair) : State :=
  { s.puts [(TIME.KA_ALIGN_CNT, p.cnt), (TIME.KA_ALIGN_TIME, p.time), (KEEP.KEEP_STATUS_XTAL_UNBROKEN, 1), (KEEP.KA_CNT, p.cnt)] with
    time := { s.time with kaCopy := some p, kaWinStart := if s.time.kaWinStart.isNone then some p else s.time.kaWinStart } }

theorem runKaAlign_eq {n a : Nat}
    (new : s.time.kaCopy.any (fun (p : KaPair) => (p.wide / 65536000000000 : Int) == s.targetUnits (a % 2 ^ 64) / 65536000000000) = false) :
    runKaAlign n a s = if (s.flag TIME.TIME_STATUS_SET && !s.flag TIME.TIME_STATUS_COARSE) = true then (s.charge0 30).aligned (s.pairOf n a)
      else { s with time := { s.time with kaMissed := true } } := by
  unfold runKaAlign
  rw [new, if_neg Bool.false_ne_true]
  rfl

/-- The fields that an alignment shows. -/
def alignFields : List Fld := [TIME.KA_ALIGN_CNT, TIME.KA_ALIGN_TIME, KEEP.KEEP_STATUS_XTAL_UNBROKEN, KEEP.KA_CNT]

theorem State.aligned_only (s : State) (p : KaPair) : Only [.time] alignFields s (s.aligned p) :=
  Only.set_time ((Only.refl s).putsK [(TIME.KA_ALIGN_CNT, p.cnt), (TIME.KA_ALIGN_TIME, p.time), (KEEP.KEEP_STATUS_XTAL_UNBROKEN, 1), (KEEP.KA_CNT, p.cnt)]
    (by simp [alignFields])) rfl _

theorem State.aligned_reads (s : State) (n a u : Nat) :
    (s.aligned ⟨n % 2 ^ 48, a % 2 ^ 64, u⟩).get TIME.KA_ALIGN_CNT = n % 2 ^ 48 ∧ (s.aligned ⟨n % 2 ^ 48, a % 2 ^ 64, u⟩).get TIME.KA_ALIGN_TIME = a % 2 ^ 64 ∧
      (s.aligned ⟨n % 2 ^ 48, a % 2 ^ 64, u⟩).flag KEEP.KEEP_STATUS_XTAL_UNBROKEN = true := by
  have distinct : ([(TIME.KA_ALIGN_CNT, n % 2 ^ 48), (TIME.KA_ALIGN_TIME, a % 2 ^ 64), (KEEP.KEEP_STATUS_XTAL_UNBROKEN, 1), (KEEP.KA_CNT, n % 2 ^ 48)].map
      (fun q : Fld × Nat => q.1.key)).Nodup := by
    simp only [List.map_cons, List.map_nil]
    decide
  have cnt : n % 2 ^ 48 < 2 ^ TIME.KA_ALIGN_CNT.width := by
    have wide : TIME.KA_ALIGN_CNT.width = 64 := rfl
    rw [wide]
    exact (Nat.mod_lt _ (Nat.two_pow_pos 48)).trans (by decide)
  have time : a % 2 ^ 64 < 2 ^ TIME.KA_ALIGN_TIME.width := by
    have wide : TIME.KA_ALIGN_TIME.width = 64 := rfl
    rw [wide]
    exact Nat.mod_lt _ (Nat.two_pow_pos 64)
  refine ⟨State.get_puts_mem s distinct (by simp) cnt, State.get_puts_mem s distinct (by simp) time, ?_⟩
  rw [State.flag, show (s.aligned ⟨n % 2 ^ 48, a % 2 ^ 64, u⟩).get KEEP.KEEP_STATUS_XTAL_UNBROKEN = 1 from
    State.get_puts_mem s distinct (by simp) (by decide)]
  rfl

theorem kaAlign_aligns {n a : Nat} (awake : s.inReset = false)
    (new : s.time.kaCopy.any (fun (p : KaPair) => (p.wide / 65536000000000 : Int) == s.targetUnits (a % 2 ^ 64) / 65536000000000) = false)
    (set : s.flag TIME.TIME_STATUS_SET = true) (fine : s.flag TIME.TIME_STATUS_COARSE = false) :
    ∃ t, exec (.kaAlign n a) s = .next t ∧ t.get TIME.KA_ALIGN_CNT = n % 2 ^ 48 ∧ t.get TIME.KA_ALIGN_TIME = a % 2 ^ 64 ∧ t.flag KEEP.KEEP_STATUS_XTAL_UNBROKEN = true ∧
      t.time.kaCopy = some ⟨n % 2 ^ 48, a % 2 ^ 64, (s.targetUnits (a % 2 ^ 64)).toNat⟩ ∧ t.time.kaMissed = s.time.kaMissed ∧ Only [.time] alignFields s t := by
  have run := runKaAlign_eq (n := n) new
  rw [if_pos (by rw [set, fine]; rfl)] at run
  have paid : Keeps [] s (s.charge0 30) := (Keeps.refl s).charge0 30
  have missed : (s.charge0 30).time.kaMissed = s.time.kaMissed := congrArg TimeSt.kaMissed paid.time
  have only := paid.only0.trans ((s.charge0 30).aligned_only (s.pairOf n a))
  obtain ⟨cnt, time, unbroken⟩ := (s.charge0 30).aligned_reads n a (s.targetUnits (a % 2 ^ 64)).toNat
  have copy : ((s.charge0 30).aligned (s.pairOf n a)).time.kaCopy = some (s.pairOf n a) := rfl
  have missed' : ((s.charge0 30).aligned (s.pairOf n a)).time.kaMissed = s.time.kaMissed := missed
  have settled := ((s.charge0 30).aligned (s.pairOf n a)).settle_kept
  refine ⟨_, rfl, ?_⟩
  rw [State.awake_eq awake, run, settled.time]
  exact ⟨(settled.read _ (by decide)).trans cnt, (settled.read _ (by decide)).trans time, (settled.flag _ (by decide)).trans unbroken, copy, missed',
    only.tail settled.any⟩

theorem kaAlign_misses {n a : Nat} (awake : s.inReset = false)
    (new : s.time.kaCopy.any (fun (p : KaPair) => (p.wide / 65536000000000 : Int) == s.targetUnits (a % 2 ^ 64) / 65536000000000) = false)
    (unset : s.flag TIME.TIME_STATUS_SET = false ∨ s.flag TIME.TIME_STATUS_COARSE = true) :
    ∃ t, exec (.kaAlign n a) s = .next t ∧ Keeps [] { s with time := { s.time with kaMissed := true } } t := by
  have run := runKaAlign_eq (n := n) new
  rw [if_neg (by obtain h | h := unset <;> simp [h])] at run
  refine ⟨_, rfl, ?_⟩
  rw [State.awake_eq awake, run]
  exact State.settle_kept _

/-- The window of 1,024 s begins anew. -/
def State.windowBegins (s v : State) : State := { v with time := { v.time with kaWinStart := s.time.kaCopy, kaMissed := false } }

/-- The update of KA_FREQ that the window gives, if any. -/
theorem runKaFreqUpdate_eq (s : State) :
    ∃ v, runKaFreqUpdate s = s.windowBegins v ∧ (v = s ∨ s.time.kaMissed = false ∧ ∃ x, v = State.put { s with time := { s.time with kaFreqCopy := x } } TIME.KA_FREQ x) := by
  unfold runKaFreqUpdate
  dsimp only
  split
  · split
    · exact ⟨s, rfl, .inl rfl⟩
    · next updates =>
      refine ⟨_, rfl, .inr ⟨?_, _, rfl⟩⟩
      simp only [Bool.or_eq_true, not_or, Bool.not_eq_true] at updates
      exact updates.1
  · exact ⟨s, rfl, .inl rfl⟩

theorem kaFreqUpdate_updates (awake : s.inReset = false) :
    ∃ t, exec .kaFreqUpdate s = .next t ∧ t.time.kaWinStart = s.time.kaCopy ∧ t.time.kaMissed = false ∧
      (s.time.kaMissed = true → t.get TIME.KA_FREQ = s.get TIME.KA_FREQ ∧ t.time.kaFreqCopy = s.time.kaFreqCopy) ∧ Only [.time] [TIME.KA_FREQ] s t := by
  obtain ⟨v, run, change⟩ := runKaFreqUpdate_eq s
  have only : Only [.time] [TIME.KA_FREQ] s v := by
    obtain rfl | ⟨-, x, rfl⟩ := change
    · exact Only.refl _
    · exact Only.putK ((Only.refl s).set_time rfl _) _ _ ⟨_, by simp, rfl⟩
  have settled := (s.windowBegins v).settle_kept
  refine ⟨_, rfl, ?_⟩
  rw [State.awake_eq awake, run, settled.time, settled.read _ (by decide)]
  refine ⟨rfl, rfl, fun missed => ?_, (only.set_time rfl _).tail settled.any⟩
  obtain rfl | ⟨no, -⟩ := change
  · exact ⟨rfl, rfl⟩
  · exact absurd (missed.symm.trans no) (by decide)

/-! ### A tamper trigger (R330, R446) -/

theorem State.puts_key (s : State) (w : List (Fld × Nat)) : (s.puts w).key = s.key := congrArg Core.key (s.puts_core w)

theorem State.puts_nts (s : State) (w : List (Fld × Nat)) : (s.puts w).nts = s.nts := congrArg Core.nts (s.puts_core w)

theorem State.setSlotKey_key (s : State) (n : Nat) (k : KeySlot) : (s.setSlotKey n k).key = { s.key with slots := setNth s.key.slots n k } :=
  State.puts_key _ _

theorem State.setSlotKey_only (s : State) {n : Nat} (k : KeySlot) (hn : n < 256) : Only [.key] keyFields s (s.setSlotKey n k) := by
  refine Only.putsK ((Only.refl s).set_key rfl _) _ fun q hq => ⟨q.1, List.mem_flatMap.2 ⟨n, List.mem_range.2 hn, ?_⟩, rfl⟩
  revert q
  simp [slotFields]

theorem State.changeKey_only (s : State) (o : Origin) {n : Nat} (k : KeySlot) (hn : n < 256) : Only [.key] keyFields s (s.changeKey o n k) :=
  (s.setSlotKey_only k hn).journal _ _ _ _ _ _

theorem State.changeKey_slots (s : State) (o : Origin) (n : Nat) (k : KeySlot) : (s.changeKey o n k).key.slots = setNth s.key.slots n k := by
  have told : Keeps [] (s.setSlotKey n k) (s.changeKey o n k) := (Keeps.refl _).journal _ _ _ _ _ _
  rw [told.key, s.setSlotKey_key]

/-- A slot is zeroised. -/
def State.slotGone (s : State) (n : Nat) : State := s.changeKey .tamper n { s.keySlot n with state := 5, mat := [] }

/-- A slot of the store that is zeroised. -/
def State.Zeroed (s : State) (n : Nat) : Prop := n < s.key.slots.length ∧ (s.keySlot n).state = 5 ∧ (s.keySlot n).mat = []

theorem State.slotGone_slots (s : State) (n : Nat) : (s.slotGone n).key.slots = setNth s.key.slots n { s.keySlot n with state := 5, mat := [] } :=
  s.changeKey_slots _ _ _

theorem State.slotGone_zeroed (s : State) {n : Nat} (there : n < s.key.slots.length) : (s.slotGone n).Zeroed n := by
  have slots := s.slotGone_slots n
  have length : n < (s.slotGone n).key.slots.length := by rw [slots]; simpa [setNth] using there
  have read : (s.slotGone n).keySlot n = { s.keySlot n with state := 5, mat := [] } := by
    rw [State.keySlot, slots]
    simp [nth, setNth, there]
  exact ⟨length, by rw [read], by rw [read]⟩

/-- What is zeroised stays so. -/
theorem State.Zeroed.slotGone {n : Nat} (h : s.Zeroed n) (m : Nat) : (s.slotGone m).Zeroed n := by
  by_cases same : m = n
  · subst same
    exact s.slotGone_zeroed h.1
  · have slots := s.slotGone_slots m
    have read : (s.slotGone m).keySlot n = s.keySlot n := by
      rw [State.keySlot, slots]
      simp [State.keySlot, nth, setNth, same]
    refine ⟨by rw [slots]; simpa [setNth] using h.1, ?_⟩
    rw [read]
    exact h.2

theorem State.slotsGone_zeroed {live : List Nat} {n : Nat} (m : n ∈ live) (there : n < s.key.slots.length) : (live.foldl State.slotGone s).Zeroed n := by
  induction live generalizing s with
  | nil => exact absurd m List.not_mem_nil
  | cons k live ih =>
    have length : (s.slotGone k).key.slots.length = s.key.slots.length := by rw [s.slotGone_slots]; exact List.length_set
    obtain rfl | m := List.mem_cons.1 m
    · exact List.foldlRecOn live State.slotGone (motive := fun x => x.Zeroed n) (s.slotGone_zeroed there) fun x hx k _ => hx.slotGone k
    · exact ih m (length ▸ there)

/-- The slots that hold a key. -/
def State.liveSlots (s : State) : List Nat := (List.range 256).filter (fun n => (s.keySlot n).state != 0)

theorem State.keySlot_there {n : Nat} (live : (s.keySlot n).state ≠ 0) : n < s.key.slots.length := by
  by_contra beyond
  refine live ?_
  rw [State.keySlot, nth, List.getD_eq_default _ _ (by omega)]

/-- The registers of staging and of the pending change show nothing. -/
def State.stageGone (s : State) : State :=
  ((List.range 4).foldl (fun s j => s.put (KEY.KEY_STAGE_D j) 0) ((List.range 8).foldl (fun s i => s.put (KEY.KEY_STAGE i) 0) s)).puts
    [(KEY.KEY_STAGE_CRC, 0), (KEY.KEY_STATUS_BUSY, 0), (KEY.KEY_STATUS_PENDING, 0), (KEY.KEY_STATUS_TAMPER, 1)]

/-- No change is pending, and the slots are told. -/
def State.workGone (s : State) (live : List Nat) : State := { s with key := { s.key with work := none, zeroised := s.key.zeroised ++ live } }

theorem State.zeroise_eq (s : State) : s.zeroise = (((s.liveSlots.foldl State.slotGone s).stageGone).workGone s.liveSlots).inc KEY.ZEROISE_CNT := rfl

theorem State.stageGone_only (s : State) : Only ps zeroFields s s.stageGone := by
  have stageIn {i : Nat} (m : i ∈ List.range 8) : KEY.KEY_STAGE i ∈ zeroFields :=
    List.mem_append_left _ (List.mem_append_left _ (List.mem_append_right _ (List.mem_map_of_mem m)))
  have wordIn {i : Nat} (m : i ∈ List.range 4) : KEY.KEY_STAGE_D i ∈ zeroFields := List.mem_append_left _ (List.mem_append_right _ (List.mem_map_of_mem m))
  have stage : Only ps zeroFields s ((List.range 8).foldl (fun s i => s.put (KEY.KEY_STAGE i) 0) s) :=
    Only.foldlMem _ _ (fun x i m => (Only.refl x).putK (KEY.KEY_STAGE i) 0 ⟨_, stageIn m, rfl⟩) (Only.refl s)
  have words : Only ps zeroFields s ((List.range 4).foldl (fun s j => s.put (KEY.KEY_STAGE_D j) 0) ((List.range 8).foldl (fun s i => s.put (KEY.KEY_STAGE i) 0) s)) :=
    Only.foldlMem _ _ (fun x i m => (Only.refl x).putK (KEY.KEY_STAGE_D i) 0 ⟨_, wordIn m, rfl⟩) stage
  exact words.putsK _ (by simp [zeroFields])

theorem State.foldl_put_key {α : Type} (s : State) (f : α → Fld) (v : Nat) (xs : List α) : (xs.foldl (fun s x => s.put (f x) v) s).key = s.key := by
  induction xs generalizing s with
  | nil => rfl
  | cons x xs ih => exact (ih _).trans rfl

theorem State.stageGone_key (s : State) : s.stageGone.key = s.key := by
  unfold State.stageGone
  rw [State.puts_key, State.foldl_put_key, State.foldl_put_key]

theorem State.stageGone_tamper (s : State) : s.stageGone.flag KEY.KEY_STATUS_TAMPER = true := State.flag_put_bit _ _ rfl true

/-- What zeroising leaves. -/
structure ZeroisedBy (s t : State) : Prop where
  only : Only [.key] zeroFields s t
  tamper : t.flag KEY.KEY_STATUS_TAMPER = true
  trigger : t.key.trigger = s.key.trigger
  work : t.key.work = none
  slots : ∀ n ∈ List.range 256, (s.keySlot n).state ≠ 0 → t.Zeroed n

theorem State.zeroise_done (s : State) : ZeroisedBy s s.zeroise := by
  have keys : Only [.key] zeroFields s (s.liveSlots.foldl State.slotGone s) := by
    refine (Only.foldlMem _ _ (fun x n m => x.changeKey_only _ _ (List.mem_range.1 (List.mem_filter.1 m).1)) (Only.refl s)).more ?_
    exact fun k ⟨d, m, e⟩ => ⟨d, List.mem_append_right _ m, e⟩
  have trigger : (s.liveSlots.foldl State.slotGone s).key.trigger = s.key.trigger := by
    refine List.foldlRecOn _ State.slotGone (motive := fun x => x.key.trigger = s.key.trigger) rfl fun x hx n _ => ?_
    have told : Keeps [] (x.setSlotKey n { x.keySlot n with state := 5, mat := [] }) (x.slotGone n) := (Keeps.refl _).journal _ _ _ _ _ _
    rw [told.key, x.setSlotKey_key]
    exact hx
  have gone {n : Nat} (hn : n ∈ List.range 256) (live : (s.keySlot n).state ≠ 0) : (s.liveSlots.foldl State.slotGone s).Zeroed n :=
    State.slotsGone_zeroed (List.mem_filter.2 ⟨hn, by simpa using live⟩) (State.keySlot_there live)
  rw [State.zeroise_eq]
  generalize s.liveSlots.foldl State.slotGone s = v at keys trigger gone
  have stage := v.stageGone_only (ps := [.key])
  have key := v.stageGone_key
  have tamper := v.stageGone_tamper
  generalize v.stageGone = w at stage key tamper
  have counted : Keeps [KEY.ZEROISE_CNT] (w.workGone s.liveSlots) ((w.workGone s.liveSlots).inc KEY.ZEROISE_CNT) := (Keeps.refl _).incK _ ⟨_, by simp, rfl⟩
  have key' : ((w.workGone s.liveSlots).inc KEY.ZEROISE_CNT).key = { w.key with work := none, zeroised := w.key.zeroised ++ s.liveSlots } := counted.key
  refine ⟨((keys.trans stage).set_key rfl _).tail (counted.more (by simp [zeroFields])), ?_, ?_, ?_, fun n hn live => ?_⟩
  · rw [State.flag, counted.get _ (by decide) (by decide)]
    exact tamper
  · rw [key', key, ← trigger]
  · rw [key']
  · obtain ⟨there, state, mat⟩ := gone hn live
    rw [State.Zeroed, State.keySlot, key', key]
    exact ⟨there, state, mat⟩

/-- Whether a trigger is active. -/
def State.triggered (s : State) (b : Bool) : State := { s with key := { s.key with trigger := b } }

/-- The causes are shown, and the generations' nonce keys are gone. -/
def State.causeShown (s : State) (c : Nat) : State :=
  State.puts { s with nts := { s.nts with gens := s.nts.gens.map (fun (g : NtsGen) => { g with nonceKey := none }) } }
    [(KEY.TAMPER_CAUSE_PINS, c % 16), (KEY.TAMPER_CAUSE_VOLT, bits c 4 1), (KEY.TAMPER_CAUSE_CLOCK, bits c 5 1), (KEY.TAMPER_CAUSE_TEMP, bits c 6 1)]

/-- The entries that wait for sheet 0 carry the keep-alive count. -/
def State.earlyDated (s : State) (ka : Nat) : State :=
  if s.running then s
  else { s with ream := { s.ream with
    early := s.ream.early.map (fun (e : ReamEntry) =>
      if e.origin = Origin.tamper ∧ e.kaTime = false then { e with kaTime := true, time := ka % 2 ^ 48, sheet := 2 ^ 64 - 1 } else e) } }

theorem State.earlyDated_keeps (s : State) (ka : Nat) : Keeps [] s (s.earlyDated ka) := Keeps.ite' (Keeps.refl s) ((Keeps.refl s).reamSet _)

theorem Keeps.journalKa (h : Keeps l s t) (o : Origin) (kind addr old new ka : Nat) : Keeps l s (t.journalKa o kind addr old new ka) :=
  Keeps.ite' (h.reamWrite _) (h.reamSet _)

theorem runTamperTrigger_eq (p : TampIn) (ka : Nat) (fires : s.tamperArmed p ≠ 0) :
    runTamperTrigger p ka s =
      ((((s.triggered true).zeroise).causeShown (s.tamperArmed p)).earlyDated ka).journalKa .tamper 7 0 (s.tamperArmed p) 0 ka := by
  have active : (s.tamperArmed p != 0) = true := by simpa using fires
  obtain ⟨r, run⟩ : ∃ r, r = runTamperTrigger p ka s := ⟨_, rfl⟩
  rw [← run]
  unfold runTamperTrigger at run
  extract_lets -underBinder +onlyGivenNames c k0 begun gone g0 genless caused r0 dated at run
  have hBegun : begun = s.triggered (c != 0) := rfl
  have hGone : gone = begun.zeroise := rfl
  have hCaused : caused = gone.causeShown c := rfl
  have hDated : dated = caused.earlyDated ka := rfl
  rw [show (c != 0) = true from active] at hBegun
  rw [if_neg fires, hDated, hCaused, hGone, hBegun] at run
  exact run

theorem State.causeShown_reads (s : State) (c : Nat) :
    (s.causeShown c).get KEY.TAMPER_CAUSE_PINS = c % 16 ∧ (s.causeShown c).flag KEY.KEY_STATUS_TAMPER = s.flag KEY.KEY_STATUS_TAMPER := by
  have apart : (KEY.TAMPER_CAUSE_PINS.key ≠ KEY.TAMPER_CAUSE_VOLT.key ∧ KEY.TAMPER_CAUSE_PINS.key ≠ KEY.TAMPER_CAUSE_CLOCK.key) ∧
      KEY.TAMPER_CAUSE_PINS.key ≠ KEY.TAMPER_CAUSE_TEMP.key := by decide
  have fits : c % 16 < 2 ^ KEY.TAMPER_CAUSE_PINS.width := Nat.mod_lt _ (by decide)
  refine ⟨?_, ?_⟩
  · exact (State.get_put_other _ _ _ _ apart.2).trans ((State.get_put_other _ _ _ _ apart.1.2).trans ((State.get_put_other _ _ _ _ apart.1.1).trans
      (State.get_put_fits _ _ _ fits)))
  · exact (State.flag_put_other _ _ _ _ (by decide)).trans ((State.flag_put_other _ _ _ _ (by decide)).trans ((State.flag_put_other _ _ _ _ (by decide)).trans
      (State.flag_put_other _ _ _ _ (by decide))))

theorem State.causeShown_only (s : State) (c : Nat) : Only [.key, .nts] zeroFields s (s.causeShown c) :=
  Only.putsK ((Only.refl s).set_nts rfl _) _ (by simp [zeroFields])

theorem State.causeShown_nts (s : State) (c : Nat) : ∀ g ∈ (s.causeShown c).nts.gens, g.nonceKey = none := by
  have gens : (s.causeShown c).nts = { s.nts with gens := s.nts.gens.map (fun (g : NtsGen) => { g with nonceKey := none }) } :=
    State.puts_nts _ _
  rw [gens]
  intro g m
  obtain ⟨x, -, rfl⟩ := List.mem_map.1 m
  rfl

theorem tamperTrigger_zeroises (p : TampIn) (ka : Nat) (fires : s.tamperArmed p ≠ 0) :
    ∃ t, exec (.tamperTrigger p ka) s = .next t ∧ t.flag KEY.KEY_STATUS_TAMPER = true ∧ t.key.trigger = true ∧ t.key.work = none ∧
      t.get KEY.TAMPER_CAUSE_PINS = s.tamperArmed p % 16 ∧
      (∀ n ∈ List.range 256, (s.keySlot n).state ≠ 0 → (t.keySlot n).state = 5 ∧ (t.keySlot n).mat = []) ∧ (∀ g ∈ t.nts.gens, g.nonceKey = none) ∧
      Only [.key, .nts, .hif, .vatc] (zeroFields ++ regBlock 0x220000 0x230000) s t := by
  have run := runTamperTrigger_eq p ka fires
  have begun : Only [.key] zeroFields s (s.triggered true) := (Only.refl s).set_key rfl _
  have gone := (s.triggered true).zeroise_done
  have slots (n : Nat) (hn : n ∈ List.range 256) (live : (s.keySlot n).state ≠ 0) : (s.triggered true).zeroise.Zeroed n := gone.slots n hn live
  have trigger : (s.triggered true).zeroise.key.trigger = true := gone.trigger
  generalize (s.triggered true).zeroise = v at run gone slots trigger
  have cause := v.causeShown_only (s.tamperArmed p)
  obtain ⟨pins, tamper⟩ := v.causeShown_reads (s.tamperArmed p)
  have nts := v.causeShown_nts (s.tamperArmed p)
  have key : (v.causeShown (s.tamperArmed p)).key = v.key := State.puts_key _ _
  generalize v.causeShown (s.tamperArmed p) = w at run cause pins tamper nts key
  have settled : Keeps [] w (runTamperTrigger p ka s).settle := run ▸ ((w.earlyDated_keeps ka).journalKa _ _ _ _ _ _).settle
  refine ⟨_, rfl, ?_⟩
  generalize (runTamperTrigger p ka s).settle = t at settled
  have key' : t.key = v.key := settled.key.trans key
  refine ⟨(settled.flag _ (by decide)).trans (tamper.trans gone.tamper), key' ▸ trigger, key' ▸ gone.work, (settled.read _ (by decide)).trans pins,
    fun n hn live => ?_, settled.nts ▸ nts, ?_⟩
  · rw [State.keySlot, key']
    exact (slots n hn live).2
  · have all : Only [.key, .nts] zeroFields s w := (begun.parts rfl (by simp)).trans ((gone.only.parts rfl (by simp)).trans cause)
    exact (all.parts rfl fun k ⟨d, m, e⟩ => ⟨d, List.mem_append_left _ m, e⟩).tail settled.any

theorem tamperTrigger_quiet (p : TampIn) (ka : Nat) (calm : s.tamperArmed p = 0) :
    ∃ t, exec (.tamperTrigger p ka) s = .next t ∧ Keeps [] { s with key := { s.key with trigger := false } } t := by
  have run : runTamperTrigger p ka s = s.triggered false := by
    unfold runTamperTrigger
    dsimp only
    rw [if_pos calm, calm]
    rfl
  refine ⟨_, rfl, ?_⟩
  rw [run]
  exact (s.triggered false).settle_kept

/-- Settles O34: VKEEP, tamper triggers, the power warning, the latches and the alignment change what the rules name. -/
theorem keepAliveEventsComplete : Obligations.KeepAliveEventsComplete := by
  refine ⟨fun s => vkeepLoss_loses s, fun s low => vkeepRise_resets s low, fun s p ka fires => tamperTrigger_zeroises p ka fires,
    fun s p ka calm => tamperTrigger_quiet p ka calm, fun s awake en quiet => pwrWarn_begins awake en quiet, fun s awake => pwrWarn_rises awake,
    fun s awake emerg pin due => emergExit_falls awake emerg pin due, fun s i ka hi => ?_,
    fun s i awake hi some_ few => kaLatchTransfer_transfers awake hi some_ few, fun s n a awake new set fine => kaAlign_aligns awake new set fine,
    fun s n a awake new unset => kaAlign_misses awake new unset, fun s awake => kaFreqUpdate_updates awake, fun s awake off => pwrWarn_lasts awake off⟩
  exact ⟨_, rfl, State.settle_kept _⟩

end Sys2Proof.Machine
end

section
/-! Requests for time and addresses, and ESMC (R164 to R166, R295 to R300, R309, R310). -/

namespace Sys2Proof.Machine

variable {ps : List Part} {l : List Fld} {s t u v : State}

/-! ### A frame that waited is taken -/

/-- A frame has left the receive staging of a port, paid for; else nothing but bookkeeping happened. -/
structure RxTaken (p : Nat) (r : RxFrame) (s v : State) : Prop where
  only : Only [.mac] [] s v
  port : v.port p = { s.port p with rx := (s.port p).rx.erase r }
  there : p < v.mac.ports.length
  vatc : v.vatc = s.vatc

theorem State.takeRx_taken {p cls cost : Nat} {ok : RxFrame → Bool} {r : RxFrame} (first : (s.port p).rx.find? ok = some r)
    (pays : (s.charge cls cost).isSome = true) (there : p < s.mac.ports.length) :
    ∃ v, RxTaken p r s v ∧ ∀ (self : Instr) (f : RxFrame → State → State), s.takeRx p ok cls cost self f = f r v := by
  obtain ⟨u, kept, run, vatc⟩ := State.tryPay_some pays
  have there : p < u.mac.ports.length := kept.mac ▸ there
  refine ⟨u.rxTaken p r, ⟨Only.set_mac kept.only0 rfl _, by rw [u.rxTaken_port r there, kept.port], ?_, vatc⟩, fun self f => ?_⟩
  · rw [show (u.rxTaken p r).mac.ports.length = u.mac.ports.length from u.setPort_length p _]
    exact there
  · rw [State.takeRx, first]
    exact run _ _ _ _

theorem RxTaken.tail {p : Nat} {r : RxFrame} (h : RxTaken p r s v) (k : Keeps [] v t) (vatc : t.vatc = v.vatc) : RxTaken p r s t :=
  ⟨h.only.tail k, (k.port p).trans h.port, k.mac ▸ h.there, vatc.trans h.vatc⟩

theorem RxTaken.read {p : Nat} {r : RxFrame} (h : RxTaken p r s v) {f : Fld} (quiet : noisy f.key = false) : v.get f = s.get f :=
  h.only.read f quiet (by simp)

theorem RxTaken.mode {p : Nat} {r : RxFrame} (h : RxTaken p r s v) : v.mode = s.mode := h.only.mode rfl

/-! ### The addresses of a port -/

theorem Only.portMac (h : Only ps [] s t) {p : Nat} (hp : p < 8) : t.portMac p = s.portMac p := by
  rw [State.portMac, State.portMac, h.read _ (port_quiet (by simp only [MAC.MAC_ADDR]; omega) (by simp only [MAC.MAC_ADDR]; omega)) (by simp)]

theorem mem_bitsOf_lt {w m i : Nat} (h : i ∈ bitsOf w m) : i < w := List.mem_range.1 (List.mem_filter.1 h).1

theorem Only.ta4 (h : Only ps [] s t) {p : Nat} (hp : p < 8) : t.ta4 p = s.ta4 p := by
  rw [State.ta4, State.ta4, h.read _ (port_quiet (by simp only [MAC.TA_EN_V4]; omega) (by simp only [MAC.TA_EN_V4]; omega)) (by simp)]
  refine List.map_congr_left fun i m => ?_
  have := mem_bitsOf_lt m
  rw [h.read _ (port_quiet (by simp only [MAC.TA_V4]; omega) (by simp only [MAC.TA_V4]; omega)) (by simp)]

theorem Only.ta6 (h : Only ps [] s t) {p : Nat} (hp : p < 8) : t.ta6 p = s.ta6 p := by
  rw [State.ta6, State.ta6, h.read _ (port_quiet (by simp only [MAC.TA_EN_V6]; omega) (by simp only [MAC.TA_EN_V6]; omega)) (by simp)]
  refine List.map_congr_left fun i m => ?_
  have := mem_bitsOf_lt m
  refine congrArg List.flatten (List.map_congr_left fun j n => ?_)
  have := List.mem_range.1 n
  rw [h.read _ (port_quiet (by simp only [MAC.TA_V6]; omega) (by simp only [MAC.TA_V6]; omega)) (by simp)]

/-! ### A frame joins the unscheduled ones, a reply its queue -/

theorem State.queueTx_port (s : State) {p : Nat} (f : UFrame) (there : p < s.mac.ports.length) :
    (s.queueTx p f).port p = { s.port p with unsched := (s.port p).unsched ++ [f] } := s.port_setPort _ there

theorem State.queueTx_only (s : State) (p : Nat) (f : UFrame) : Only [.mac] l s (s.queueTx p f) := (Only.refl s).set_mac rfl _

theorem Keeps.answerOnly (k : Keeps [] s u) (p : Nat) (f : Fld) (b : List Byte) : Only [.mac] [f] s (u.answer p f b) :=
  (k.only0 (ps := [.mac]) (l := [f])).incK f ⟨_, by simp, rfl⟩ |>.trans (State.queueTx_only _ _ _)

/-- A frame that a port answers with is counted and waits last of its unscheduled frames. -/
theorem State.answer_values (s : State) {p : Nat} {f : Fld} (b : List Byte) (wide : f.width = 48) (quiet : noisy f.key = false)
    (there : p < s.mac.ports.length) :
    (s.answer p f b).get f = min (s.get f + 1) (2 ^ 48 - 1) ∧ ((s.answer p f b).port p).rx = (s.port p).rx ∧
      ((s.answer p f b).port p).unsched.map (·.bytes) = (s.port p).unsched.map (·.bytes) ++ [b] := by
  have counted : Keeps [f] s (s.inc f) := (Keeps.refl s).incK f ⟨_, by simp, rfl⟩
  have port : (s.answer p f b).port p = _ := (s.inc f).queueTx_port _ (counted.mac ▸ there)
  refine ⟨(State.incBy_get s f 1 wide quiet).trans rfl, ?_, ?_⟩ <;> rw [port, counted.port]
  rw [List.map_append]
  rfl

/-- A frame that waited is answered by a frame from its port. -/
theorem answered {p : Nat} {r : RxFrame} {g : State → State} {f : Fld} {b : List Byte} (wide : f.width = 48) (quiet : noisy f.key = false)
    (taken : RxTaken p r s v) (awake : s.inReset = false) (run : g s = (v.pay 2 250).answer p f b) :
    (s.awake g).settle.get f = min (s.get f + 1) (2 ^ 48 - 1) ∧ ((s.awake g).settle.port p).rx = (s.port p).rx.erase r ∧
      ((s.awake g).settle.port p).unsched.map (·.bytes) = (s.port p).unsched.map (·.bytes) ++ [b] ∧ Only [.mac] [f] s (s.awake g).settle := by
  have paid : Keeps [] v (v.pay 2 250) := (Keeps.refl v).pay 2 250 (by decide)
  have only := paid.answerOnly p f b
  obtain ⟨count, rx, unsched⟩ := (v.pay 2 250).answer_values b wide quiet (paid.mac ▸ taken.there)
  rw [paid.port, taken.port] at rx unsched
  rw [paid.read f quiet, taken.read quiet] at count
  rw [State.awake_eq awake, run]
  generalize (v.pay 2 250).answer p f b = w at only count rx unsched
  have settled := w.settle_kept
  rw [settled.port, settled.read f quiet]
  exact ⟨count, rx, unsched, ((taken.only.more (by simp)).trans only).tail settled.any⟩

/-! ### ARP and neighbour discovery (R309, R310) -/

theorem arpRx_answers {p : Nat} {r : RxFrame} (awake : s.inReset = false) (hp : p < 8) (there : p < s.mac.ports.length)
    (first : (s.port p).rx.find? (isArp true) = some r) (pays : (s.charge 2 300).isSome = true) (serving : servingMode s.mode = true)
    (kind : beAt (ethParse r.bytes).payload 0 6 = 0x000108000604) (asks : beAt (ethParse r.bytes).payload 6 2 = 1)
    (mine : (s.ta4 p).contains (cut (ethParse r.bytes).payload 24 4) = true)
    (sole : (s.ta4 p).contains (cut (ethParse r.bytes).payload 14 4) = false ∨ cut (ethParse r.bytes).payload 8 6 = s.portMac p) :
    ∃ t, exec (.arpRx p) s = .next t ∧ t.get NTS.ARP_ANS_CNT = min (s.get NTS.ARP_ANS_CNT + 1) (2 ^ 48 - 1) ∧
      (t.port p).rx = (s.port p).rx.erase r ∧
      (t.port p).unsched.map (·.bytes) = (s.port p).unsched.map (·.bytes) ++ [s.arpOut p 2 (cut (ethParse r.bytes).payload 8 6) (ethParse r.bytes).tci
        (cut (ethParse r.bytes).payload 24 4) (cut (ethParse r.bytes).payload 8 6) (cut (ethParse r.bytes).payload 14 4)] ∧
      Only [.mac] [NTS.ARP_ANS_CNT] s t := by
  obtain ⟨v, taken, run⟩ := State.takeRx_taken first pays there
  have calm : ((v.ta4 p).contains (cut (ethParse r.bytes).payload 14 4) && cut (ethParse r.bytes).payload 8 6 != v.portMac p) = false := by
    rw [taken.only.ta4 hp, taken.only.portMac hp]
    obtain h | h := sole
    · rw [h, Bool.false_and]
    · rw [h, bne_self_eq_false, Bool.and_false]
  refine ⟨_, rfl, answered rfl (by decide) taken awake ?_⟩
  unfold runArpRx
  rw [run]
  dsimp only
  rw [taken.mode, serving, Bool.not_true, if_neg (by decide), if_neg (not_not.2 kind), calm, if_neg Bool.false_ne_true, taken.only.ta4 hp, if_pos ⟨asks, mine⟩,
    State.arpOut, taken.only.portMac hp]
  rfl

theorem ndRx_answers {p : Nat} {r : RxFrame} {q : Nat × List Byte × List Byte} (awake : s.inReset = false) (hp : p < 8) (there : p < s.mac.ports.length)
    (first : (s.port p).rx.find? (isArp false) = some r) (pays : (s.charge 2 300).isSome = true) (serving : servingMode s.mode = true)
    (icmp : icmpParse (ethParse r.bytes) = some q) (hop : q.1 = 255) (mine : (s.ta6 p).contains (cut q.2.2 8 16) = true) (asks : beAt q.2.2 0 1 = 135) :
    ∃ t, exec (.ndRx p) s = .next t ∧ t.get NTS.ND_ANS_CNT = min (s.get NTS.ND_ANS_CNT + 1) (2 ^ 48 - 1) ∧ (t.port p).rx = (s.port p).rx.erase r ∧
      (t.port p).unsched.map (·.bytes) = (s.port p).unsched.map (·.bytes) ++ [
        if q.2.1 = List.replicate 16 0 then s.naOut p (groupMac allNodes) (ethParse r.bytes).tci (cut q.2.2 8 16) allNodes false
        else s.naOut p (ethParse r.bytes).src (ethParse r.bytes).tci (cut q.2.2 8 16) q.2.1 true] ∧
      Only [.mac] [NTS.ND_ANS_CNT] s t := by
  obtain ⟨v, taken, run⟩ := State.takeRx_taken first pays there
  refine ⟨_, rfl, answered rfl (by decide) taken awake ?_⟩
  unfold runNdRx
  rw [run]
  dsimp only
  rw [taken.mode, serving, Bool.not_true, if_neg (by decide), icmp]
  dsimp only
  rw [taken.only.ta6 hp, if_neg (by rw [mine]; exact not_or.2 ⟨not_not.2 hop, by decide⟩), if_pos asks]
  simp only [State.naOut, taken.only.portMac hp, beq_iff_eq]

/-! ### ESMC PDUs arrive (R164) -/

/-- The fields of a slot's state that a PDU at a port writes or leaves alone. -/
def qlFields (p : Nat) : List Fld := [REFSEL.REF_STAT_RX_SSM (5 + p), REFSEL.REF_STAT_RX_ESSM (5 + p), REFSEL.REF_STAT_CAUSE (5 + p),
  REFSEL.REF_STAT_STATE (5 + p), REFSEL.REF_TIMER (5 + p)]

/-- The quality level that a port has received is stored. -/
def State.qlTaken (s : State) (p : Nat) (q : Nat × Nat) : State :=
  (s.puts [(REFSEL.REF_STAT_RX_SSM (5 + p), q.1), (REFSEL.REF_STAT_RX_ESSM (5 + p), q.2)]).setSlot (5 + p)
    { s.slot (5 + p) with qlOut := false, qlAt := some s.mono }

theorem State.qlTaken_only (s : State) (p : Nat) (q : Nat × Nat) : Only [.ref] (qlFields p) s (s.qlTaken p q) :=
  ((Only.refl s).putsK _ (by simp only [List.forall_mem_cons, List.not_mem_nil, false_implies, implies_true, and_true]
                             exact ⟨⟨_, by simp [qlFields], rfl⟩, ⟨_, by simp [qlFields], rfl⟩⟩)).set_ref rfl _

theorem State.qlTaken_values (s : State) (p : Nat) {q : Nat × Nat} (ssm : q.1 < 16) (essm : q.2 < 256) :
    (s.qlTaken p q).get (REFSEL.REF_STAT_RX_SSM (5 + p)) = q.1 ∧ (s.qlTaken p q).get (REFSEL.REF_STAT_RX_ESSM (5 + p)) = q.2 := by
  constructor
  · refine (State.get_put_other _ _ _ _ (by simp only [REFSEL.REF_STAT_RX_SSM, REFSEL.REF_STAT_RX_ESSM]; omega)).trans ?_
    rw [State.get_put_same]
    exact Nat.mod_eq_of_lt ssm
  · refine (State.get_put_same _ _ _).trans ?_
    exact Nat.mod_eq_of_lt essm

theorem beAt_byte_lt (b : List Byte) (off : Nat) : beAt b off 1 < 256 := by
  rw [beAt, beNat]
  rcases (b.drop off) with _ | ⟨x, _⟩
  · decide
  · simpa [leNat] using x.isLt

/-- A quality level read off a PDU fits its fields. -/
theorem esmcParse_lt {b : List Byte} {q : Nat × Nat} (h : esmcParse b = some q) : q.1 < 16 ∧ q.2 < 256 := by
  unfold esmcParse at h
  split at h
  · obtain rfl := (Option.some.inj h).symm
    refine ⟨Nat.mod_lt _ (by decide), ?_⟩
    dsimp only
    split
    · exact beAt_byte_lt _ _
    · decide
  · cases h

theorem esmcPduRx_takes {p : Nat} {r : RxFrame} {q : Nat × Nat} (awake : s.inReset = false) (hp : p < 8) (there : p < s.mac.ports.length)
    (first : (s.port p).rx.find? (isRule 3) = some r) (pays : (s.charge 1 500).isSome = true) (good : esmcParse (ethParse r.bytes).payload = some q) :
    ∃ t, exec (.esmcPduRx p) s = .next t ∧ t.get (REFSEL.REF_STAT_RX_SSM (5 + p)) = q.1 ∧ t.get (REFSEL.REF_STAT_RX_ESSM (5 + p)) = q.2 ∧
      (t.port p).rx = (s.port p).rx.erase r ∧ Only [.mac, .ref] (qlFields p) s t := by
  obtain ⟨v, taken, run⟩ := State.takeRx_taken first pays there
  have run : runEsmcPduRx p s = v.qlTaken p q := by
    unfold runEsmcPduRx
    rw [run]
    dsimp only
    rw [good]
    rfl
  have only := v.qlTaken_only p q
  obtain ⟨ssm, essm⟩ := v.qlTaken_values p (esmcParse_lt good).1 (esmcParse_lt good).2
  refine ⟨_, rfl, ?_⟩
  rw [State.awake_eq awake, run]
  generalize v.qlTaken p q = w at only ssm essm
  have settled := w.settle_kept
  have port : w.port p = v.port p := by rw [State.port, State.port, only.mac rfl]
  rw [settled.port, port, taken.port, settled.read _ (refsel_quiet (by simp only [REFSEL.REF_STAT_RX_SSM]; omega) (by simp only [REFSEL.REF_STAT_RX_SSM]; omega)),
    settled.read _ (refsel_quiet (by simp only [REFSEL.REF_STAT_RX_ESSM]; omega) (by simp only [REFSEL.REF_STAT_RX_ESSM]; omega))]
  exact ⟨ssm, essm, rfl, ((taken.only.parts rfl (by simp)).trans (only.parts rfl fun _ x => x)).tail settled.any⟩

theorem esmcPduRx_counts {p : Nat} {r : RxFrame} (awake : s.inReset = false) (there : p < s.mac.ports.length)
    (first : (s.port p).rx.find? (isRule 3) = some r) (pays : (s.charge 1 500).isSome = true) (bad : esmcParse (ethParse r.bytes).payload = none) :
    ∃ t, exec (.esmcPduRx p) s = .next t ∧ t.get REFSEL.ESMC_BAD_CNT = min (s.get REFSEL.ESMC_BAD_CNT + 1) (2 ^ 48 - 1) ∧
      (t.port p).rx = (s.port p).rx.erase r ∧ Only [.mac] [REFSEL.ESMC_BAD_CNT] s t := by
  obtain ⟨v, taken, run⟩ := State.takeRx_taken first pays there
  have run : runEsmcPduRx p s = v.inc REFSEL.ESMC_BAD_CNT := by
    unfold runEsmcPduRx
    rw [run]
    dsimp only
    rw [bad]
  have quiet : noisy REFSEL.ESMC_BAD_CNT.key = false := by decide
  have counted : Keeps [REFSEL.ESMC_BAD_CNT] v (v.inc REFSEL.ESMC_BAD_CNT).settle := ((Keeps.refl v).incK _ ⟨_, by simp, rfl⟩).settle
  refine ⟨_, rfl, ?_⟩
  rw [State.awake_eq awake, run, counted.port, taken.port, (State.settle_kept _).read _ quiet, State.inc, State.incBy_get _ _ _ rfl quiet, taken.read quiet]
  exact ⟨rfl, rfl, (taken.only.more (by simp)).tail counted⟩

/-! ### ESMC PDUs leave (R166) -/

theorem beNat_beBytes (n x : Nat) : beNat (beBytes n x) = x % 256 ^ n := by rw [beNat, beBytes, List.reverse_reverse, leNat_leBytes]

@[simp] theorem length_beBytes (n x : Nat) : (beBytes n x).length = n := by rw [beBytes, List.length_reverse, length_leBytes]

/-- A number stands in the bytes that were appended for it. -/
theorem beAt_beBytes {a b : List Byte} {k n : Nat} (len : a.length = k) (x : Nat) : beAt (a ++ (beBytes n x ++ b)) k n = x % 256 ^ n := by
  rw [beAt, List.drop_left' len, List.take_left' (length_beBytes n x), beNat_beBytes]

/-- An untagged frame taken apart again: its payload with the padding. -/
theorem ethParse_ethOut {dst src : List Byte} {etype : Nat} (b : List Byte) (hd : dst.length = 6) (hs : src.length = 6) (small : etype < 65536)
    (untagged : etype ≠ 0x8100) : ethParse (ethOut dst src none etype b) = ⟨dst, src, none, etype, b ++ List.replicate (46 - b.length) 0⟩ := by
  have shape : ethOut dst src none etype b = dst ++ (src ++ (beBytes 2 etype ++ (b ++ List.replicate (46 - b.length) 0))) := by
    simp only [ethOut, List.length_append, List.append_assoc, hd, hs, length_beBytes, List.nil_append]
    congr 5
    omega
  have kind : beAt (ethOut dst src none etype b) 12 2 = etype := by
    rw [shape, ← List.append_assoc, beAt_beBytes (by simp [hd, hs])]
    exact Nat.mod_eq_of_lt small
  rw [ethParse, if_neg (by rwa [kind]), kind, shape]
  congr 1
  · exact List.take_left' hd
  · rw [cut, List.drop_left' hd, List.take_left' hs]
  · rw [← List.append_assoc, ← List.append_assoc, List.drop_left' (by simp [hd, hs])]

/-- The extended TLV of an ESMC PDU, where it has one. -/
def esmcTlv (ext : Bool) (essm : Nat) : List Byte := if ext then beBytes 1 2 ++ beBytes 2 20 ++ beBytes 1 essm ++ beBytes 16 Config.esmcExt else []

/-- The payload of an ESMC PDU. -/
def esmcBody (event ext : Bool) (ql : Nat × Nat) : List Byte :=
  beBytes 1 0x0A ++ beBytes 3 0x0019A7 ++ beBytes 2 1 ++ beBytes 1 (if event then 0x18 else 0x10) ++ beBytes 3 0 ++
    beBytes 1 1 ++ beBytes 2 4 ++ beBytes 1 ql.1 ++ esmcTlv ext ql.2

/-- The quality level of a PDU is read again from its payload, whatever padding follows. -/
theorem esmcParse_esmcBody (event ext : Bool) (ql : Nat × Nat) :
    esmcParse (esmcBody event ext ql ++ List.replicate (46 - (esmcBody event ext ql).length) 0) =
      some (ql.1 % 16, if ext then ql.2 % 256 else 0xFF) := by
  have low : ql.1 % 256 % 16 = ql.1 % 16 := by omega
  cases event <;> cases ext <;>
    simp [esmcBody, esmcTlv, esmcParse, beAt, beBytes, leBytes, beNat, leNat, low]

/-- The PDUs that a port has sent in the present TAI second. -/
def State.esmcSent (s : State) (p : Nat) : Nat := if (s.port p).esmcSec = s.taiSec then (s.port p).esmcN else 0

/-- The PDU that a port sends. -/
def State.esmcPdu (s : State) (p : Nat) (event : Bool) : List Byte :=
  ethOut (beBytes 6 0x0180C2000002) (s.portMac p) none 0x8809 (esmcBody event (s.flag REFSEL.TX_QL_CFG2_EXT_TLV) (s.txQl p))

theorem State.esmcPdu_parse (s : State) (p : Nat) (event : Bool) : esmcParse (ethParse (s.esmcPdu p event)).payload =
    some ((s.txQl p).1 % 16, if s.flag REFSEL.TX_QL_CFG2_EXT_TLV then (s.txQl p).2 % 256 else 0xFF) := by
  rw [State.esmcPdu, State.portMac, ethParse_ethOut _ (length_beBytes _ _) (length_beBytes _ _) (by decide) (by decide)]
  exact esmcParse_esmcBody event _ _

theorem State.sendEsmc_eq {p : Nat} (event : Bool) (room : s.esmcSent p < 10) : s.sendEsmc p event =
    ((s.pay 1 200).setPort p { s.port p with esmcSec := s.taiSec, esmcN := s.esmcSent p + 1 }).queueTx p
      { tc := Config.esmcTc % 8, engine := true, bytes := s.esmcPdu p event } :=
  if_neg (Nat.not_le.2 room)

theorem State.sendEsmc_only {p : Nat} (event : Bool) (room : s.esmcSent p < 10) : Only [.mac] [] s (s.sendEsmc p event) := by
  rw [State.sendEsmc_eq event room]
  exact ((((Keeps.refl s).pay 1 200 (by decide)).only0 (ps := [.mac])).set_mac rfl _).trans (State.queueTx_only _ _ _)

theorem State.sendEsmc_port {p : Nat} (event : Bool) (room : s.esmcSent p < 10) (there : p < s.mac.ports.length) :
    ((s.sendEsmc p event).port p).qlDue = (s.port p).qlDue ∧
      ((s.sendEsmc p event).port p).unsched.map (·.bytes) = (s.port p).unsched.map (·.bytes) ++ [s.esmcPdu p event] := by
  have paid : Keeps [] s (s.pay 1 200) := (Keeps.refl s).pay 1 200 (by decide)
  have there : p < (s.pay 1 200).mac.ports.length := paid.mac ▸ there
  rw [State.sendEsmc_eq event room, State.queueTx_port _ _ (by rwa [State.setPort_length]), State.port_setPort _ _ there, List.map_append]
  exact ⟨rfl, rfl⟩

/-- A port sends a PDU with the quality level that it transmits. -/
theorem esmc_sent {p : Nat} {g : State → State} (event : Bool) (awake : s.inReset = false) (there : p < s.mac.ports.length)
    (room : u.esmcSent p < 10) (from_ : u.esmcPdu p event = s.esmcPdu p event) (only : Only [.mac] [] s u) (mac : u.mac.ports.length = s.mac.ports.length)
    (unsched : (u.port p).unsched = (s.port p).unsched) (run : g s = u.sendEsmc p event) :
    ((s.awake g).settle.port p).qlDue = (u.port p).qlDue ∧
      ((s.awake g).settle.port p).unsched.map (fun f => esmcParse (ethParse f.bytes).payload) =
        (s.port p).unsched.map (fun f => esmcParse (ethParse f.bytes).payload) ++
          [some ((s.txQl p).1 % 16, if s.flag REFSEL.TX_QL_CFG2_EXT_TLV then (s.txQl p).2 % 256 else 0xFF)] ∧ Only [.mac] [] s (s.awake g).settle := by
  have sent := u.sendEsmc_only event room
  obtain ⟨due, frames⟩ := u.sendEsmc_port event room (mac ▸ there)
  rw [unsched, from_] at frames
  rw [State.awake_eq awake, run]
  generalize u.sendEsmc p event = w at sent due frames
  have settled := w.settle_kept
  rw [settled.port]
  refine ⟨due, ?_, (only.trans sent).tail settled⟩
  have parsed := congrArg (List.map fun b => esmcParse (ethParse b).payload) frames
  rwa [List.map_append, List.map_map, List.map_map, List.map_singleton, s.esmcPdu_parse] at parsed

theorem esmcTxSecond_sends {p : Nat} (awake : s.inReset = false) (ports : s.mac.ports.length = 8) (on : s.esmcOn p = true) (room : s.esmcSent p < 10) :
    ∃ t, exec (.esmcTxSecond p) s = .next t ∧ (t.port p).unsched.map (fun f => esmcParse (ethParse f.bytes).payload) =
      (s.port p).unsched.map (fun f => esmcParse (ethParse f.bytes).payload) ++
        [some ((s.txQl p).1 % 16, if s.flag REFSEL.TX_QL_CFG2_EXT_TLV then (s.txQl p).2 % 256 else 0xFF)] ∧ Only [.mac] [] s t := by
  obtain ⟨hp, -⟩ : p < 8 ∧ _ := by simpa [State.esmcOn, and_assoc] using on
  exact ⟨_, rfl, (esmc_sent false awake (ports ▸ hp) room rfl (Only.refl s) rfl rfl (if_pos on)).2⟩

theorem esmcEventPduTx_sends {p : Nat} (awake : s.inReset = false) (ports : s.mac.ports.length = 8) (on : s.esmcOn p = true)
    (due : (s.port p).qlDue = true) (room : s.esmcSent p < 10) :
    ∃ t, exec (.esmcEventPduTx p) s = .next t ∧ (t.port p).qlDue = false ∧ (t.port p).unsched.map (fun f => esmcParse (ethParse f.bytes).payload) =
      (s.port p).unsched.map (fun f => esmcParse (ethParse f.bytes).payload) ++
        [some ((s.txQl p).1 % 16, if s.flag REFSEL.TX_QL_CFG2_EXT_TLV then (s.txQl p).2 % 256 else 0xFF)] ∧ Only [.mac] [] s t := by
  obtain ⟨hp, -⟩ : p < 8 ∧ _ := by simpa [State.esmcOn, and_assoc] using on
  have port := s.port_setPort { s.port p with qlDue := false } (ports ▸ hp)
  have length : (s.setPort p { s.port p with qlDue := false }).mac.ports.length = s.mac.ports.length := s.setPort_length _ _
  have room : (s.setPort p { s.port p with qlDue := false }).esmcSent p < 10 := by
    rw [State.esmcSent, port]
    exact room
  obtain ⟨done, rest⟩ := esmc_sent (g := runEsmcEventPduTx p) true awake (ports ▸ hp) room rfl ((Only.refl s).set_mac rfl _) length
    (by rw [port]) (if_pos (by rw [on, due]; rfl))
  exact ⟨_, rfl, done.trans (congrArg PortSt.qlDue port), rest⟩

/-! ### Plain NTP requests (R295 to R297) -/

/-- A request that is plain, of a version and a mode that the engine answers, and whose extension fields parse. -/
structure PlainRequest (s : State) (u : UdpIn) : Prop where
  long : 48 ≤ u.payload.length
  short : u.payload.length ≤ 1024
  version : beAt u.payload 0 1 / 8 % 8 = 3 ∨ beAt u.payload 0 1 / 8 % 8 = 4
  client : beAt u.payload 0 1 % 8 = 3
  walk : ∃ x, extWalk u.payload u.payload.length 48 = some x ∧ x.any (fun f => [0x0104, 0x0204, 0x0304, 0x0404].contains f.1) = false
  en : s.flag NTS.NTS_CFG_PLAIN_EN = true

/-- A token is taken from the bucket of a source. -/
def State.tokenTaken (s : State) (k : Nat) : State := (s.rateNow k).2.setRate k { (s.rateNow k).1 with used := (s.rateNow k).1.used + 256 }

theorem Only.flag (h : Only ps l s t) (f : Fld) (n : noisy f.key = false) (d : ∀ d ∈ l, f.key ≠ d.key) : t.flag f = s.flag f := by
  rw [State.flag, State.flag, h.read f n d]

theorem runNtpRequestRx_plain {p : Nat} {r : RxFrame} {x : UdpIn} (taken : RxTaken p r s v) (serving : servingMode s.mode = true)
    (parse : udpParse (ethParse r.bytes) = some x) (plain : PlainRequest s x)
    (run : ∀ (self : Instr) (f : RxFrame → State → State), s.takeRx p (isRule 6) 2 300 self f = f r v) :
    (s.flag NTS.NTS_CFG_RL_EN = false → runNtpRequestRx p s = v.plainReply p (v.ntpDest (ethParse r.bytes) x) x.payload r.time) ∧
    (s.flag NTS.NTS_CFG_RL_EN = true → (v.rateNow (v.bucketOf x.v6 x.src)).2.hasToken (v.rateNow (v.bucketOf x.v6 x.src)).1 = true →
      runNtpRequestRx p s = (v.tokenTaken (v.bucketOf x.v6 x.src)).plainReply p (v.ntpDest (ethParse r.bytes) x) x.payload r.time) := by
  obtain ⟨long, short, version, client, ⟨fields, walk, plainFields⟩, en⟩ := plain
  rw [← taken.only.flag _ (by decide) (by simp)] at en
  rw [← taken.only.flag _ (by decide) (by simp)]
  have right : ¬(beAt x.payload 0 1 / 8 % 8 ≠ 3 ∧ beAt x.payload 0 1 / 8 % 8 ≠ 4 ∨ beAt x.payload 0 1 % 8 ≠ 3) := by omega
  have sized : ¬(x.payload.length < 48 ∨ 1024 < x.payload.length) := by omega
  unfold runNtpRequestRx
  rw [run]
  dsimp only
  rw [parse]
  dsimp only
  rw [taken.mode, serving, Bool.not_true, if_neg Bool.false_ne_true, if_neg sized, if_neg right, walk]
  dsimp only
  rw [plainFields, en]
  constructor
  · intro off
    rw [off]
    rfl
  · intro on token
    rw [on]
    simp only [Bool.false_eq_true, if_false, if_true]
    rw [token]
    rfl

theorem Only.refill (only : Only [.mac] [] s t) (x : RateBucket) : t.refill x = s.refill x := by
  have sec : t.taiSec = s.taiSec := by rw [State.taiSec, State.taiSec, only.units rfl]
  rw [State.refill, State.refill, State.rateTime, State.rateTime, State.kodMark, State.kodMark, only.mono rfl, sec,
    only.read NTS.RL_CFG_RL_BURST (by decide) (by simp), only.read NTS.RL_CFG_RL_RATE (by decide) (by simp)]

/-- What a bucket holds now is read off the vat, the time and the configuration alone. -/
theorem SeenSame.rateNow (seen : SeenSame s t) (only : Only [.mac] [] s t) (k : Nat) : (t.rateNow k).1 = (s.rateNow k).1 := by
  rw [State.rateNow, State.rateNow, only.refill, seen.read (show 8 < 16 by decide)]

theorem State.rateNow_keeps (s : State) (k : Nat) : Keeps [] s (s.rateNow k).2 := (Keeps.refl s).vatRead _ _ _

theorem State.tokenTaken_only (s : State) (k : Nat) : Only [.vat] [VAT.RMW_CNT] s (s.tokenTaken k) :=
  ((s.rateNow_keeps k).only0).trans (State.vatWrite_wrote _ _ _ _).1

theorem State.plainReply_only (s : State) (p : Nat) (d : Dest) (req : List Byte) (time : Nat) :
    Only [.mac] [NTS.WM_OMIT_CNT] s (s.plainReply p d req time) := by
  have paid : Only [.mac] [NTS.WM_OMIT_CNT] s (s.pay 2 250) := (Only.refl s).pay 2 250 (by decide)
  exact (Only.ite' (paid.incK _ ⟨_, by simp, rfl⟩) paid).set_mac rfl _

theorem State.queueNtp_port (s : State) {p : Nat} (m : NtpMsg) (there : p < s.mac.ports.length) :
    ∃ q : Reply, q.body = .ntp m ∧ (s.queueNtp p m).port p = { s.port p with replies := (s.port p).replies ++ [q] } :=
  ⟨{ cls := 2, since := s.units, len := frameLen m.dest m.size, body := .ntp m }, rfl, s.port_setPort _ there⟩

/-- A plain response waits last of its port's queue. -/
theorem State.plainReply_queued (s : State) {p : Nat} (d : Dest) (req : List Byte) (time : Nat) (there : p < s.mac.ports.length) :
    ∃ q : Reply, q.body = .ntp { kind := 0, dest := d, req := req.take 48, time := time, mark := s.get BOUND.WM_NTP != 0 && decide (92 ≤ req.length) } ∧
      (s.plainReply p d req time).port p = { s.port p with replies := (s.port p).replies ++ [q] } := by
  have paid : Keeps [NTS.WM_OMIT_CNT] s (s.pay 2 250) := (Keeps.refl s).pay 2 250 (by decide)
  obtain ⟨w, hw⟩ : ∃ w, w = (if (s.get BOUND.WM_NTP != 0 && !decide (92 ≤ req.length)) = true then (s.pay 2 250).inc NTS.WM_OMIT_CNT else s.pay 2 250) := ⟨_, rfl⟩
  have kept : Keeps [NTS.WM_OMIT_CNT] s w := hw ▸ Keeps.ite' (paid.incK _ ⟨_, by simp, rfl⟩) paid
  have run : s.plainReply p d req time = w.queueNtp p
      { kind := 0, dest := d, req := req.take 48, time := time, mark := s.get BOUND.WM_NTP != 0 && decide (92 ≤ req.length) } := by rw [hw]; rfl
  rw [run, ← kept.port]
  exact w.queueNtp_port _ (kept.mac ▸ there)

theorem Only.ntpDest (h : Only ps [] s t) (e : EthIn) (x : UdpIn) : t.ntpDest e x = s.ntpDest e x := by
  rw [State.ntpDest, State.ntpDest, h.read NTS.NTS_CFG_DSCP (by decide) (by simp), h.read NTS.NTS_CFG_HOP_LIMIT (by decide) (by simp)]

theorem Only.bucketOf (h : Only ps [] s t) (v6 : Bool) (a : List Byte) : t.bucketOf v6 a = s.bucketOf v6 a := by
  rw [State.bucketOf, State.bucketOf, h.read NTS.RL_CFG2 (by decide) (by simp)]

/-- The response to a plain request, from the state in which its request is taken and its token. -/
theorem plainReply_answers {p : Nat} {r : RxFrame} {d : Dest} {req : List Byte} {time : Nat} {m : List Fld} (port : u.port p = v.port p)
    (mark : u.get BOUND.WM_NTP = s.get BOUND.WM_NTP) (there : p < u.mac.ports.length) (taken : RxTaken p r s v) :
    s.Queued (u.plainReply p d req time).settle p r
        (.ntp { kind := 0, dest := d, req := req.take 48, time := time, mark := s.get BOUND.WM_NTP != 0 && decide (92 ≤ req.length) }) ∧
      (NTS.WM_OMIT_CNT ∈ m → ps.contains .mac = true → Only ps m u (u.plainReply p d req time).settle) := by
  obtain ⟨q, body, queued⟩ := u.plainReply_queued d req time there
  have only := u.plainReply_only p d req time
  rw [port, taken.port] at queued
  rw [mark] at body
  have settled := (u.plainReply p d req time).settle_kept
  refine ⟨?_, fun mem mac => (only.parts (by simpa using mac) (by simpa using ⟨_, mem, rfl⟩)).tail settled.any⟩
  rw [State.Queued, settled.port, queued]
  exact ⟨rfl, List.length_append, by rw [List.getLast?_append]; exact congrArg some body⟩

theorem ntpRequestRx_answers {p : Nat} {r : RxFrame} {x : UdpIn} (awake : s.inReset = false) (there : p < s.mac.ports.length)
    (first : (s.port p).rx.find? (isRule 6) = some r) (pays : (s.charge 2 300).isSome = true) (serving : servingMode s.mode = true)
    (parse : udpParse (ethParse r.bytes) = some x) (plain : PlainRequest s x)
    (token : s.flag NTS.NTS_CFG_RL_EN = true → s.hasToken (s.rateNow (s.bucketOf x.v6 x.src)).1 = true) :
    ∃ t, exec (.ntpRequestRx p) s = .next t ∧
      s.Queued t p r (.ntp { kind := 0, dest := s.ntpDest (ethParse r.bytes) x, req := x.payload.take 48, time := r.time,
                             mark := s.get BOUND.WM_NTP != 0 && decide (92 ≤ x.payload.length) }) ∧
      (s.flag NTS.NTS_CFG_RL_EN = false → Only [.mac] [NTS.WM_OMIT_CNT] s t) ∧
      Only [.mac, .nts, .vat] [NTS.WM_OMIT_CNT, VAT.RMW_CNT] s t := by
  obtain ⟨v, taken, run⟩ := State.takeRx_taken first pays there
  obtain ⟨free, limited⟩ := runNtpRequestRx_plain taken serving parse plain run
  have mark : v.get BOUND.WM_NTP = s.get BOUND.WM_NTP := taken.read (by decide)
  have far : Only [.mac, .nts, .vat] [NTS.WM_OMIT_CNT, VAT.RMW_CNT] s v := taken.only.parts rfl (by simp)
  rw [taken.only.ntpDest] at free limited
  refine ⟨_, rfl, ?_⟩
  rw [State.awake_eq awake]
  cases en : s.flag NTS.NTS_CFG_RL_EN with
  | false =>
    rw [free en]
    refine ⟨(plainReply_answers (m := []) (ps := []) rfl mark taken.there taken).1, fun _ => ?_, ?_⟩
    · exact (taken.only.more (by simp)).trans ((plainReply_answers rfl mark taken.there taken).2 (by simp) rfl)
    · exact far.trans ((plainReply_answers rfl mark taken.there taken).2 (by simp) rfl)
  | true =>
    have kept := v.rateNow_keeps (v.bucketOf x.v6 x.src)
    have seen : SeenSame s v := ⟨taken.only.vat rfl, taken.only.regions (by simp), taken.vatc⟩
    have token : (v.rateNow (v.bucketOf x.v6 x.src)).2.hasToken (v.rateNow (v.bucketOf x.v6 x.src)).1 = true := by
      rw [State.hasToken, kept.read NTS.RL_CFG_RL_BURST (by decide), taken.read (by decide), taken.only.bucketOf, seen.rateNow taken.only]
      exact token en
    have spent := v.tokenTaken_only (v.bucketOf x.v6 x.src)
    rw [limited en token]
    generalize v.tokenTaken (v.bucketOf x.v6 x.src) = w at spent
    have port : w.port p = v.port p := by rw [State.port, State.port, spent.mac rfl]
    have mark : w.get BOUND.WM_NTP = s.get BOUND.WM_NTP := (spent.read _ (by decide) (by simp [BOUND.WM_NTP, VAT.RMW_CNT])).trans mark
    have there : p < w.mac.ports.length := by rw [spent.mac rfl]; exact taken.there
    refine ⟨(plainReply_answers (m := []) (ps := []) port mark there taken).1, fun off => absurd off (by decide), ?_⟩
    exact (far.trans (spent.parts rfl (by simp))).trans ((plainReply_answers port mark there taken).2 (by simp) rfl)

/-- Settles O39: each message by its own theorem, from the state in which its frame is taken or the PDU leaves. -/
theorem addressMessagesComplete : Obligations.AddressMessagesComplete :=
  ⟨fun _ _ _ _ x ⟨awake, hp, ports, first, pays⟩ serving parse long short version client walk plain en token =>
      ntpRequestRx_answers awake (ports ▸ hp) first pays serving parse ⟨long, short, version, client, ⟨x, walk, plain⟩, en⟩ token,
    fun _ _ _ ⟨awake, hp, ports, first, pays⟩ serving kind asks mine sole => arpRx_answers awake hp (ports ▸ hp) first pays serving kind asks mine sole,
    fun _ _ _ _ ⟨awake, hp, ports, first, pays⟩ serving icmp hop mine asks => ndRx_answers awake hp (ports ▸ hp) first pays serving icmp hop mine asks,
    fun _ _ _ _ ⟨awake, hp, ports, first, pays⟩ good => esmcPduRx_takes awake hp (ports ▸ hp) first pays good,
    fun _ _ _ ⟨awake, hp, ports, first, pays⟩ bad => esmcPduRx_counts awake (ports ▸ hp) first pays bad,
    fun _ _ awake ports on room => esmcTxSecond_sends awake ports on room,
    fun _ _ awake ports on due room => esmcEventPduTx_sends awake ports on due room⟩

end Sys2Proof.Machine
end

section
/-! A management message whose sender's record cannot be looked up. -/

namespace Sys2Proof.Machine

/-- A management message of version 2, 48 bytes long, in an untagged frame. -/
def mgmtFrame : RxFrame :=
  { rule := 4, time := 0, coarse := false,
    bytes := ethOut (beBytes 6 1) (beBytes 6 2) none 0x88F7 (beBytes 4 0x0D020030 ++ List.replicate 44 0) }

/-- The engine serves before sheet 0. Its event ring is ring 0, which is also the ring whose buffers receive completion ring 1 fills; an event waits
in the staging area, and the regions deny PTP and the host interface every read. The faults that are on are shown already. -/
def deniedLookup : State :=
  { State.reset.puts [(HIF.RING_CFG_ENABLE 0, 1), (HIF.RING_CFG_TYPE 0, 3), (HIF.RING_CFG_ENABLE 1, 1), (HIF.RING_CFG_TYPE 1, 10),
      (HIF.RING_CFG_PORT_MASK 1, 1), (HIF.HIF_STATUS_PF0_BME, 1), (VAT.PERM_R 7, 0), (VAT.PERM_R 11, 0), (FLT.FLT_ACTIVE 0, 0xA20)] with
    glb := { mode := 2 }
    mac := { ports := { rx := [mgmtFrame] } :: List.replicate 7 {} }
    hif := { events := [.event { code := 0, object := 0, time := 0, sheet := 0, value := 0, gap := false }], rxBufs := [[{ addr := 0, len := 2048, cookie := 0 }]] } }

theorem deniedLookup_writesNothing : ((deniedLookup.awake (runManagementRx 0)).settle).out = [] := by decide +kernel

/-- The message waits, and the engine serves: it takes the message up, as one of no client's. -/
theorem deniedLookup_takes : deniedLookup.Waiting 0 (isPtp [0xD]) 1 300 mgmtFrame ∧ deniedLookup.TakesPtp 0 (ptpParse mgmtFrame) none :=
  ⟨⟨by decide +kernel, by decide, rfl, by decide +kernel, by decide +kernel⟩,
    rfl, by decide +kernel, by decide +kernel, by decide +kernel, by decide +kernel, by simp, by decide +kernel⟩

/-- Refutes O38: looking up the sender is denied; the event that reports it halts the event ring, whose buffers the receive completion ring was to
fill, so the host gets no byte of a management message. -/
theorem not_requestMessagesComplete : ¬ Obligations.RequestMessagesComplete := by
  rintro ⟨-, -, -, -, management⟩
  obtain ⟨t, ht, -, -, gets, -⟩ := management deniedLookup 0 mgmtFrame none deniedLookup_takes.1 deniedLookup_takes.2
  have silent : t.out = [] := Host.Outcome.next.inj ht ▸ deniedLookup_writesNothing
  rw [State.HostGets, show (deniedLookup.ringsOf 10).find? (fun n => bitOf (deniedLookup.get (HIF.RING_CFG_PORT_MASK n)) 0) = some 1 by decide +kernel] at gets
  have written := gets.2 rfl (by decide +kernel) (by decide +kernel) (by decide +kernel) (by decide +kernel) { addr := 0, len := 2048, cookie := 0 }
    (by decide +kernel) (by decide +kernel)
  rw [silent] at written
  exact List.not_mem_nil written

end Sys2Proof.Machine
end

section
/-! Messages upstream (R286): what a frame of the upstream port is made from. -/

namespace Sys2Proof.Machine

variable {ps : List Part} {l : List Fld} {s t u v : State}

/-! ### The upstream port's own part

A frame of the upstream port is made from the whole clock, but of the upstream port's part it reads the MAC addresses of the masters alone. -/

/-- The state with the upstream port's part replaced. -/
def State.upSet (s : State) (x : UpSt) : State := { s with ptp := { s.ptp with up := x } }

section UpSet

variable (s : State) (x : UpSt)

theorem State.upSet_ownTiming : (s.upSet x).ownTiming = s.ownTiming := rfl

theorem State.puts_upSet (w : List (Fld × Nat)) : (s.upSet x).puts w = (s.puts w).upSet x := by
  induction w generalizing s with
  | nil => rfl
  | cons a w ih => exact ih (s.put a.1 a.2)

theorem State.withView_upSet (v : ClockView) : (s.upSet x).withView v = (s.withView v).upSet x := by
  unfold State.withView
  rw [State.puts_upSet]
  rfl

theorem State.upSet_asLatched : (s.upSet x).asLatched = s.asLatched.upSet x := by
  unfold State.asLatched
  rw [show (s.upSet x).bound = s.bound from rfl]
  cases s.bound.latched with
  | none => rfl
  | some v => exact s.withView_upSet x v

theorem State.upSet_served (dual : Bool) : (s.upSet x).served dual = s.served dual := by
  unfold State.served
  rw [s.upSet_asLatched, State.upSet_ownTiming]
  rfl

theorem State.upSet_markOf (p : Nat) (dual : Bool) : (s.upSet x).markOf p dual = s.markOf p dual := rfl

theorem State.upSet_ptpBody (m : PtpMsg) (tx : Nat) (t : Timing) (mark : List Byte) : (s.upSet x).ptpBody m tx t mark = s.ptpBody m tx t mark := rfl

theorem State.upSet_ptpFlags (t : Timing) (mark : List Byte) (two uni : Bool) : (s.upSet x).ptpFlags t mark two uni = s.ptpFlags t mark two uni := rfl

theorem State.upSet_ptpHead (p type n flags seq log : Nat) (corr : Int) :
    (s.upSet x).ptpHead p type n flags seq log corr = s.ptpHead p type n flags seq log corr := rfl

theorem State.upSet_ptpBytes (m : PtpMsg) (p tx : Nat) (dual : Bool) : ((s.upSet x).ptpBytes m p tx dual none).1 = (s.ptpBytes m p tx dual none).1 := by
  unfold State.ptpBytes
  dsimp only
  rw [State.upSet_served, State.upSet_markOf, State.upSet_asLatched, State.upSet_ptpBody, State.upSet_ptpFlags, State.upSet_ptpHead]
  rfl

theorem State.upSet_wrap (p : Nat) (d : Dest) (b : List Byte) (q : Nat) : (s.upSet x).wrap p d b q = s.wrap p d b q := rfl

theorem State.upSet_upDest (masters : x.masters = s.ptp.up.masters) (p type k : Nat) : (s.upSet x).upDest p type k = s.upDest p type k := by
  have master : (s.upSet x).upM k = s.upM k := congrArg (fun l => nth l k ({} : UpMaster)) masters
  unfold State.upDest
  rw [master]
  rfl

/-- A frame of the upstream port reads nothing of its counts, its windows and its exchanges. -/
theorem State.upSet_upFrame (masters : x.masters = s.ptp.up.masters) (p type k seq tx : Nat) (peer tlvs : List Byte) :
    (s.upSet x).upFrame p type k seq tx peer tlvs = s.upFrame p type k seq tx peer tlvs := by
  unfold State.upFrame
  rw [s.upSet_upDest x masters]
  dsimp only
  rw [State.upSet_ptpBytes, State.upSet_wrap]
  rfl

end UpSet

/-! ### A frame upstream waits (R286) -/

/-- A frame of the upstream port joins the unscheduled ones, and one of its counts goes on. -/
def State.upSent (s : State) (p : Nat) (x : UpSt) (f : UFrame) : State := ((s.upSet x).charge0 200).queueTx p f

theorem State.upSent_sends {p : Nat} {x : UpSt} {f : UFrame} {g : State → State} (awake : s.inReset = false) (there : p < s.mac.ports.length)
    (run : g s = s.upSent p x f) : (s.awake g).settle.ptp.up = x ∧
      ((s.awake g).settle.port p).unsched = (s.port p).unsched ++ [f] ∧ Only [.mac, .ptp] [] s (s.awake g).settle := by
  have paid : Keeps [] (s.upSet x) ((s.upSet x).charge0 200) := (Keeps.refl _).charge0 200
  have set_ : Only [.mac, .ptp] [] s (s.upSet x) := Only.set_ptp (Only.refl s) rfl _
  have port := ((s.upSet x).charge0 200).queueTx_port f (paid.mac ▸ there)
  have only : Only [.mac, .ptp] [] s (s.upSent p x f) := (set_.tail paid).set_mac rfl _
  have ptp : (s.upSent p x f).ptp.up = x := (congrArg PtpSt.up paid.ptp :)
  rw [paid.port] at port
  rw [State.awake_eq awake, run]
  change (s.upSent p x f).port p = _ at port
  generalize s.upSent p x f = w at only ptp port
  have settled := w.settle_kept
  rw [settled.ptp, settled.port, port]
  exact ⟨ptp, rfl, only.tail settled⟩

theorem upstreamDelayReqTx_sends {k : Nat} (awake : s.inReset = false) (runs : s.upRuns = true) (hp : s.get PTP.UP_CFG_PORT < 8)
    (ports : s.mac.ports.length = 8) (link : s.get (MAC.PORT_STATUS_LINK (s.get PTP.UP_CFG_PORT)) = 2) (asks : s.upP2p = true ∨ s.upChosen = some k) :
    ∃ t, exec (.upstreamDelayReqTx k) s = .next t ∧ t.ptp.up.reqSeq = (s.ptp.up.reqSeq + 1) % 65536 ∧
      (t.port (s.get PTP.UP_CFG_PORT)).unsched = (s.port (s.get PTP.UP_CFG_PORT)).unsched ++ [{
        tc := s.get PTP.UP_CFG_UP_TC, engine := true,
        bytes := s.upFrame (s.get PTP.UP_CFG_PORT) (if s.upP2p then 2 else 1) k s.ptp.up.reqSeq 0 [] [],
        kind := if s.upP2p then .pdelayReq k s.ptp.up.reqSeq else .delayReq k s.ptp.up.reqSeq }] ∧
      Only [.mac, .ptp] [] s t := by
  have goes : ¬(!s.upRuns || s.get (MAC.PORT_STATUS_LINK (s.get PTP.UP_CFG_PORT)) != 2 || (!s.upP2p && s.upChosen != some k)) = true := by
    rw [runs, link]
    obtain h | h := asks <;> simp [h]
  have run : runUpstreamDelayReqTx k s = s.upSent (s.get PTP.UP_CFG_PORT) { s.ptp.up with reqSeq := (s.ptp.up.reqSeq + 1) % 65536 } {
      tc := s.get PTP.UP_CFG_UP_TC, engine := true,
      bytes := (s.upSet { s.ptp.up with reqSeq := (s.ptp.up.reqSeq + 1) % 65536 }).upFrame (s.get PTP.UP_CFG_PORT) (if s.upP2p then 2 else 1) k
        s.ptp.up.reqSeq 0 [] [],
      kind := if s.upP2p then .pdelayReq k s.ptp.up.reqSeq else .delayReq k s.ptp.up.reqSeq } := by
    unfold runUpstreamDelayReqTx
    exact if_neg goes
  rw [s.upSet_upFrame { s.ptp.up with reqSeq := (s.ptp.up.reqSeq + 1) % 65536 } rfl] at run
  obtain ⟨up, unsched, only⟩ := State.upSent_sends awake (ports ▸ hp) run
  exact ⟨_, rfl, congrArg UpSt.reqSeq up, unsched, only⟩

/-- The TLV that asks a master for a grant (R286). -/
def State.upAsk (s : State) (type : Nat) : List Byte :=
  beBytes 2 4 ++ beBytes 2 6 ++ beBytes 1 (type * 16) ++
    beBytes 1 (if type = 0 then s.get PTP.UP_CFG_SYNC_LOG else if type = 9 then s.get PTP.UP_CFG_DREQ_LOG else Config.upAnnounceLog % 256) ++
    beBytes 4 (s.get PTP.UP_CFG2_UP_DURATION)

theorem upstreamGrantRenew_sends {k type : Nat} (awake : s.inReset = false) (runs : s.upRuns = true) (asks : s.flag PTP.UP_CFG_NEGOTIATE = true)
    (hk : k ≤ 3) (en : s.flag (PTP.UP_MCFG_EN k) = true) (kind : type ∈ [0, 9, 0xB])
    (early : ((upGrantOf type).bind (fun i => nth (s.upM k).grants i none)).any (fun e =>
      !s.reaches (e - ((s.get PTP.UP_CFG2_UP_DURATION * secU / 2 : Nat) : Int))) = false)
    (hp : s.get PTP.UP_CFG_PORT < 8) (ports : s.mac.ports.length = 8) (link : s.get (MAC.PORT_STATUS_LINK (s.get PTP.UP_CFG_PORT)) = 2) :
    ∃ t, exec (.upstreamGrantRenew k type) s = .next t ∧ t.ptp.up.sigSeq = (s.ptp.up.sigSeq + 1) % 65536 ∧
      (t.port (s.get PTP.UP_CFG_PORT)).unsched.map (·.bytes) = (s.port (s.get PTP.UP_CFG_PORT)).unsched.map (·.bytes) ++ [
        s.upFrame (s.get PTP.UP_CFG_PORT) 0xC k s.ptp.up.sigSeq 0 (beBytes 10 (Config.upTarget k)) (s.upAsk type)] ∧
      Only [.mac, .ptp] [] s t := by
  have known : (upGrantOf type).isNone = false := by
    simp only [List.mem_cons, List.not_mem_nil, or_false] at kind
    rcases kind with rfl | rfl | rfl <;> rfl
  have goes : ¬(!s.upRuns || !s.flag PTP.UP_CFG_NEGOTIATE || decide (3 < k) || !s.flag (PTP.UP_MCFG_EN k) || (upGrantOf type).isNone ||
      ((upGrantOf type).bind (fun i => nth (s.upM k).grants i none)).any (fun e =>
        !s.reaches (e - ((s.get PTP.UP_CFG2_UP_DURATION * secU / 2 : Nat) : Int))) ||
      s.get (MAC.PORT_STATUS_LINK (s.get PTP.UP_CFG_PORT)) != 2) = true := by
    rw [runs, asks, decide_eq_false (Nat.not_lt.2 hk), en, known, early, link]
    decide
  have run : runUpstreamGrantRenew k type s = s.upSent (s.get PTP.UP_CFG_PORT) { s.ptp.up with sigSeq := (s.ptp.up.sigSeq + 1) % 65536 } {
      tc := s.get PTP.UP_CFG_UP_TC, engine := true,
      bytes := (s.upSet { s.ptp.up with sigSeq := (s.ptp.up.sigSeq + 1) % 65536 }).upFrame (s.get PTP.UP_CFG_PORT) 0xC k s.ptp.up.sigSeq 0
        (beBytes 10 (Config.upTarget k)) (s.upAsk type) } := by
    unfold runUpstreamGrantRenew
    exact if_neg goes
  rw [s.upSet_upFrame { s.ptp.up with sigSeq := (s.ptp.up.sigSeq + 1) % 65536 } rfl] at run
  obtain ⟨up, unsched, only⟩ := State.upSent_sends awake (ports ▸ hp) run
  exact ⟨_, rfl, congrArg UpSt.sigSeq up, by rw [unsched, List.map_append]; rfl, only⟩

end Sys2Proof.Machine
end

section
/-! PTP messages as they are taken up (R262, R267, R282), and those of the upstream port (R286 to R288). -/

namespace Sys2Proof.Machine

variable {ps : List Part} {l : List Fld} {s t u v w : State}

/-! ### A message is taken and checked -/

/-- Bookkeeping writes one field of PTP, SERVING. -/
theorem ptp_quiet {k : Nat} (lo : 54525953 ≤ k) (hi : k < 56623104) : noisy k = false := noisy_gaps (by omega)

theorem State.ptpAccept_snd {m : PtpIn} (h : (s.ptpAccept m).1 = true) : (s.ptpAccept m).2 = s := by
  unfold State.ptpAccept at h ⊢
  dsimp only at h ⊢
  split_ifs at h ⊢
  rfl

theorem Only.ptpAccept (h : Only ps [] s t) (m : PtpIn) : (t.ptpAccept m).1 = (s.ptpAccept m).1 := by
  unfold State.ptpAccept
  dsimp only
  rw [h.read PTP.PTP_DOMAIN (by decide) (by simp), h.read PTP.PTP_CFG_PROFILE (by decide) (by simp)]
  split_ifs <;> rfl

/-- A message without an AUTHENTICATION TLV, where none is asked for. -/
theorem State.ptpAuth_absent {p : Nat} {m : PtpIn} {c : Found} (bare : m.tlvs.find? (fun t => t.1 == 0x8009) = none)
    (free : s.flag PTP.AUTH_CFG_AUTH_REQ = false) (open_ : ∀ q ∈ c, q.2.auth = false) : s.ptpAuth p m c = (.absent, s) := by
  have none_ : c.any (fun q => q.2.auth) = false := by
    cases c with
    | none => rfl
    | some q => exact open_ q rfl
  unfold State.ptpAuth
  rw [bare]
  dsimp only
  rw [free, none_, Bool.or_false, Bool.and_false]
  rfl

/-- A PTP message has left the receive staging of a port; else nothing but bookkeeping happened. -/
structure MsgTaken (p : Nat) (r : RxFrame) (s v : State) : Prop where
  only : Only [.mac] [] s v
  port : v.port p = { s.port p with rx := (s.port p).rx.erase r }
  there : p < v.mac.ports.length

theorem State.ptpTake_taken {p : Nat} {types : List Nat} {r : RxFrame} {c : Found} (first : (s.port p).rx.find? (isPtp types) = some r)
    (pays : (s.charge 1 300).isSome = true) (there : p < s.mac.ports.length) (takes : s.TakesPtp p (ptpParse r) c) :
    ∃ v, MsgTaken p r s v ∧ ∀ (self : Instr) (f : PtpIn → Found → AuthRes → State → State), s.ptpTake p types self f = f (ptpParse r) c .absent v := by
  obtain ⟨serving, sound, found, bare, free, open_, accept⟩ := takes
  obtain ⟨v, taken, run⟩ := State.takeRx_taken first pays there
  have alike : Alike s v := ⟨taken.only.vat rfl, taken.only.regions (by simp), sound, (show Sound s from sound).same taken.vatc⟩
  obtain ⟨same, kept, -⟩ := alike.findRec p (ptpParse r).transport (ptpParse r).addr (ptpParse r).portId
  rw [found] at same
  refine ⟨(v.findRec p (ptpParse r).transport (ptpParse r).addr (ptpParse r).portId).2,
    ⟨taken.only.tail kept, (kept.port p).trans taken.port, kept.mac ▸ taken.there⟩, fun self f => ?_⟩
  have only := taken.only.tail kept
  unfold State.ptpTake
  rw [run]
  unfold State.ptpChecked
  rw [taken.mode, serving, Bool.not_true, if_neg Bool.false_ne_true]
  dsimp only
  rw [same]
  generalize (v.findRec p (ptpParse r).transport (ptpParse r).addr (ptpParse r).portId).2 = x at only
  have good : (x.ptpAccept (ptpParse r)).1 = true := (only.ptpAccept _).trans accept
  rw [State.ptpAuth_absent bare ((only.flag _ (by decide) (by simp)).trans free) open_]
  dsimp only
  rw [good, State.ptpAccept_snd good]
  rfl

/-! ### Its sender's record is written -/

theorem State.noteChange_only (s : State) (bucket : Bool) (n : Nat) : Only [.ptp] [] s (s.noteChange bucket n) ∧ (s.noteChange bucket n).ptp.up = s.ptp.up := by
  unfold State.noteChange
  split_ifs
  · exact ⟨Only.refl s, rfl⟩
  · exact ⟨Only.refl s, rfl⟩
  · exact ⟨(Only.refl s).set_ptp rfl _, rfl⟩

theorem State.setRec_only (s : State) (n : Nat) (c : Client) : Only [.vat, .ptp] [VAT.RMW_CNT] s (s.setRec n c) ∧ (s.setRec n c).ptp.up = s.ptp.up := by
  have wrote := (s.vatWrite_wrote 7 (64 * n) c.bytes).1
  unfold State.setRec
  obtain ⟨x, hx⟩ : ∃ x, x = (s.vatWrite 7 (64 * n) c.bytes).2 := ⟨_, rfl⟩
  rw [← hx] at wrote ⊢
  obtain ⟨noted, up⟩ := x.noteChange_only false n
  exact ⟨(wrote.parts rfl fun _ x => x).trans (noted.parts rfl (by simp)), up.trans (congrArg PtpSt.up (wrote.ptp rfl))⟩

/-- A PTP message has been taken, and its sender's record with it. -/
structure MsgRead (p : Nat) (r : RxFrame) (s w : State) : Prop where
  only : Only [.vat, .mac, .ptp] [VAT.RMW_CNT] s w
  port : w.port p = { s.port p with rx := (s.port p).rx.erase r }
  there : p < w.mac.ports.length
  up : w.ptp.up = s.ptp.up

theorem MsgTaken.read {p : Nat} {r : RxFrame} (h : MsgTaken p r s v) : MsgRead p r s v :=
  ⟨h.only.parts rfl (by simp), h.port, h.there, by rw [h.only.ptp rfl]⟩

theorem MsgRead.touch {p : Nat} {r : RxFrame} (h : MsgRead p r s w) (q : Nat × Client) (m : PtpIn) (a : AuthRes) : MsgRead p r s (w.touch q m a).2 := by
  obtain ⟨c, run⟩ : ∃ c, (w.touch q m a).2 = w.setRec q.1 c := by
    unfold State.touch
    dsimp only
    exact ⟨_, rfl⟩
  obtain ⟨only, up⟩ := w.setRec_only q.1 c
  rw [← run] at only up
  generalize (w.touch q m a).2 = x at only up
  have mac : x.mac = w.mac := only.mac rfl
  exact ⟨h.only.trans (only.parts rfl fun _ x => x), (congrArg (fun m : MacSt => nth m.ports p {}) mac).trans h.port, mac ▸ h.there, up.trans h.up⟩

theorem MsgRead.tail {p : Nat} {r : RxFrame} (h : MsgRead p r s w) (k : Keeps [] w t) : MsgRead p r s t :=
  ⟨h.only.tail k.any, (k.port p).trans h.port, k.mac ▸ h.there, by rw [k.ptp, h.up]⟩

/-! ### Who sent it -/

theorem Only.upRuns (h : Only ps l s t) (glb : ps.contains .glb = false) (off : ∀ d ∈ l, PTP.UP_CFG_EN.key ≠ d.key) : t.upRuns = s.upRuns := by
  rw [State.upRuns, State.upRuns, h.mode glb, h.flag _ (by decide) off]

theorem MsgRead.cfg {p : Nat} {r : RxFrame} (h : MsgRead p r s w) {f : Fld} (lo : 54525953 ≤ f.key) (hi : f.key < 56623104) : w.get f = s.get f :=
  h.only.read f (ptp_quiet lo hi) (by simp only [List.forall_mem_cons, List.not_mem_nil, false_implies, implies_true, and_true, VAT.RMW_CNT]; omega)

theorem MsgRead.upRuns {p : Nat} {r : RxFrame} (h : MsgRead p r s w) : w.upRuns = s.upRuns := h.only.upRuns rfl (by decide)

theorem MsgRead.upAddr {p : Nat} {r : RxFrame} (h : MsgRead p r s w) {k : Nat} (hk : k < 4) : w.upAddr k = s.upAddr k := by
  have words : (List.range 4).flatMap (fun j => beBytes 4 (w.get (PTP.UP_ADDR k j))) = (List.range 4).flatMap (fun j => beBytes 4 (s.get (PTP.UP_ADDR k j))) := by
    refine congrArg List.flatten (List.map_congr_left fun j m => ?_)
    have := List.mem_range.1 m
    rw [h.cfg (by simp only [PTP.UP_ADDR]; omega) (by simp only [PTP.UP_ADDR]; omega)]
  rw [State.upAddr, State.upAddr, words, h.cfg (f := PTP.UP_CFG_TRANSPORT) (by decide) (by decide)]

theorem find_congr {α : Type} {f g : α → Bool} {xs : List α} (h : ∀ x ∈ xs, f x = g x) : xs.find? f = xs.find? g := by
  induction xs with
  | nil => rfl
  | cons x xs ih => rw [List.find?_cons, List.find?_cons, h x List.mem_cons_self, ih fun y m => h y (List.mem_cons_of_mem x m)]

theorem MsgRead.upFrom {p : Nat} {r : RxFrame} (h : MsgRead p r s w) (m : PtpIn) : w.upFrom p m = s.upFrom p m := by
  rw [State.upFrom, State.upFrom, h.upRuns, h.cfg (f := PTP.UP_CFG_PORT) (by decide) (by decide), h.cfg (f := PTP.UP_CFG_TRANSPORT) (by decide) (by decide)]
  refine if_congr Iff.rfl (find_congr fun k hk => ?_) rfl
  have hk := List.mem_range.1 hk
  rw [h.upAddr hk, State.flag, h.cfg (f := PTP.UP_MCFG_EN k) (by simp only [PTP.UP_MCFG_EN]; omega) (by simp only [PTP.UP_MCFG_EN]; omega)]
  rfl

theorem State.upFrom_lt {p k : Nat} {m : PtpIn} (h : s.upFrom p m = some k) : k < 4 := by
  unfold State.upFrom at h
  split at h
  · exact List.mem_range.1 (List.mem_of_find?_eq_some h)
  · cases h

theorem MsgRead.upP2p {p : Nat} {r : RxFrame} (h : MsgRead p r s w) : w.upP2p = s.upP2p := by
  rw [State.upP2p, State.upP2p, State.flag, State.flag, h.cfg (f := PTP.UP_CFG_P2P) (by decide) (by decide),
    h.cfg (f := PTP.UP_CFG_TRANSPORT) (by decide) (by decide)]

/-! ### A master's part is written -/

/-- What UP_MSTAT shows of a master that its messages change. -/
def masterFields (k : Nat) : List Fld := [PTP.UP_MSTAT_CANDIDATE k, PTP.UP_MSTAT_GRANTED k]

theorem State.setUpM_only (s : State) (k : Nat) (x : UpMaster) : Only [.ptp] (masterFields k) s (s.setUpM k x) :=
  ((Only.refl s).set_ptp rfl (s.setUpM k x).ptp).putsK _ (by
    simp only [List.forall_mem_cons, List.not_mem_nil, false_implies, implies_true, and_true]
    exact ⟨⟨_, by simp [masterFields], rfl⟩, ⟨_, by simp [masterFields], rfl⟩⟩)

theorem State.setUpM_up (s : State) (k : Nat) (x : UpMaster) : (s.setUpM k x).ptp.up = { s.ptp.up with masters := setNth s.ptp.up.masters k x } := rfl

theorem State.setUpM_upM (s : State) {k : Nat} (x : UpMaster) (hk : k < s.ptp.up.masters.length) : (s.setUpM k x).upM k = x :=
  nth_setNth_same _ _ _ _ hk

theorem State.setUpM_candidate (s : State) (k : Nat) (x : UpMaster) : (s.setUpM k x).flag (PTP.UP_MSTAT_CANDIDATE k) = x.ann.isSome := by
  rw [State.flag]
  refine congrArg (· != 0) ((State.get_put_other _ _ _ _ (by simp only [PTP.UP_MSTAT_CANDIDATE, PTP.UP_MSTAT_GRANTED]; omega)).trans (State.get_put_same _ _ _)) |>.trans ?_
  cases x.ann <;> rfl

/-! ### A message of the upstream port -/

/-- A message of the upstream port has been taken: the masters' MAC addresses aside, the upstream port's part is as it was. -/
structure UpReady (p : Nat) (r : RxFrame) (l : List Fld) (s y : State) : Prop where
  only : Only [.vat, .mac, .ptp] (VAT.RMW_CNT :: l) s y
  port : y.port p = { s.port p with rx := (s.port p).rx.erase r }
  up : ∃ ms, y.ptp.up = { s.ptp.up with masters := ms }

theorem MsgRead.ready {p : Nat} {r : RxFrame} (h : MsgRead p r s w) : UpReady p r l s w :=
  ⟨h.only.more (by simp), h.port, s.ptp.up.masters, h.up⟩

theorem MsgRead.setMac {p k : Nat} {r : RxFrame} (h : MsgRead p r s w) (x : List Byte) :
    UpReady p r (masterFields k) s (w.setUpM k { w.upM k with mac := x }) := by
  refine ⟨(h.only.more (by simp)).trans ((w.setUpM_only k _).parts rfl fun _ ⟨d, m, e⟩ => ⟨d, List.mem_cons_of_mem _ m, e⟩), h.port,
    setNth s.ptp.up.masters k { w.upM k with mac := x }, ?_⟩
  rw [State.setUpM_up, h.up]

theorem UpReady.more {m : List Fld} {p : Nat} {r : RxFrame} (h : UpReady p r l s t) (sub : ∀ d ∈ l, d ∈ m) : UpReady p r m s t :=
  ⟨h.only.more fun k ⟨d, n, e⟩ => ⟨d, by
    rcases List.mem_cons.1 n with rfl | n
    · exact List.mem_cons_self
    · exact List.mem_cons_of_mem _ (sub d n), e⟩, h.port, h.up⟩

/-- A message whose sender's record has been written goes to its function, if it is one of the upstream port's (R286). -/
def State.upGoes (s : State) (p : Nat) (m : PtpIn) (a : AuthRes) (f : PtpIn → Option Nat → AuthRes → State → State) : State :=
  let k := s.upFrom p m
  let peer := m.type == 3 || m.type == 0xA
  let ok := if peer then s.upRuns && p == s.get PTP.UP_CFG_PORT && s.upP2p && m.transport == 0 else k.isSome
  if !ok then s.inc PTP.RX_IGNORED_CNT
  else
    let s := s.charge0 200
    let s := match k with
      | some k => s.setUpM k { s.upM k with mac := m.smac }
      | none => s
    f m k a s

theorem State.upTake_read {p : Nat} {types : List Nat} {r : RxFrame} {c : Found} (first : (s.port p).rx.find? (isPtp types) = some r)
    (pays : (s.charge 1 300).isSome = true) (there : p < s.mac.ports.length) (takes : s.TakesPtp p (ptpParse r) c) :
    ∃ w, MsgRead p r s w ∧ ∀ (self : Instr) (f : PtpIn → Option Nat → AuthRes → State → State),
      s.upTake p types self f = w.upGoes p (ptpParse r) .absent f := by
  obtain ⟨v, taken, run⟩ := State.ptpTake_taken first pays there takes
  cases c with
  | none => exact ⟨v, taken.read, fun self f => by unfold State.upTake; rw [run]; rfl⟩
  | some q =>
    obtain ⟨x, hx⟩ : ∃ x, x = (v.touch q (ptpParse r) .absent).2 := ⟨_, rfl⟩
    refine ⟨x, hx ▸ taken.read.touch q (ptpParse r) .absent, fun self f => ?_⟩
    unfold State.upTake
    rw [run]
    dsimp only
    rw [← hx]
    rfl

/-- The state in which a message of an upstream master goes to its function, with the master's MAC address taken. -/
theorem State.upTake_master {p k : Nat} {types : List Nat} {r : RxFrame} {c : Found} (first : (s.port p).rx.find? (isPtp types) = some r)
    (pays : (s.charge 1 300).isSome = true) (there : p < s.mac.ports.length) (takes : s.TakesPtp p (ptpParse r) c)
    (from_ : s.upFrom p (ptpParse r) = some k) (kind : ((ptpParse r).type == 3 || (ptpParse r).type == 0xA) = false) :
    ∃ w, MsgRead p r s w ∧ ∀ (self : Instr) (f : PtpIn → Option Nat → AuthRes → State → State),
      s.upTake p types self f = f (ptpParse r) (some k) .absent (w.setUpM k { w.upM k with mac := (ptpParse r).smac }) := by
  obtain ⟨w, read, run⟩ := State.upTake_read first pays there takes
  refine ⟨w.charge0 200, read.tail ((Keeps.refl w).charge0 200), fun self f => ?_⟩
  rw [run, State.upGoes]
  dsimp only
  rw [read.upFrom, from_, kind]
  rfl

end Sys2Proof.Machine
end

section
/-! The upstream port takes Sync, Follow_Up and delay messages, Announces, and loses candidates (R286 to R289). -/

namespace Sys2Proof.Machine

variable {ps : List Part} {l : List Fld} {s t u v w y : State} {p k : Nat} {r : RxFrame}

/-! ### What the upstream port reads while its message is handled -/

theorem UpReady.cfg (h : UpReady p r l s y) {f : Fld} (lo : 54525953 ≤ f.key) (hi : f.key < 56623104) (off : ∀ d ∈ l, f.key ≠ d.key) : y.get f = s.get f :=
  h.only.read f (ptp_quiet lo hi) (List.forall_mem_cons.2 ⟨by simp only [VAT.RMW_CNT]; omega, off⟩)

/-- What UP_MSTAT shows of all masters that their messages change. -/
def allMasters : List Fld := (List.range 4).map PTP.UP_MSTAT_CANDIDATE ++ (List.range 4).map PTP.UP_MSTAT_GRANTED

/-- Fields from the status of the first master on. -/
@[reducible] def FromStatus (l : List Fld) : Prop := ∀ d ∈ l, 54560392 ≤ d.key

theorem masterFields_status (k : Nat) : FromStatus (masterFields k) := by
  simp only [FromStatus, masterFields, List.forall_mem_cons, List.not_mem_nil, false_implies, implies_true, and_true, PTP.UP_MSTAT_CANDIDATE,
    PTP.UP_MSTAT_GRANTED]
  omega

theorem allMasters_status : FromStatus allMasters := by decide

theorem masterFields_all {k : Nat} (hk : k < 4) : ∀ d ∈ masterFields k, d ∈ allMasters := by
  simp only [masterFields, allMasters, List.forall_mem_cons, List.not_mem_nil, false_implies, implies_true, and_true, List.mem_append]
  exact ⟨.inl (List.mem_map_of_mem (List.mem_range.2 hk)), .inr (List.mem_map_of_mem (List.mem_range.2 hk))⟩

/-- A register of the PTP block before the masters' status. -/
theorem UpReady.get (h : UpReady p r l s y) (low : FromStatus l) {f : Fld} (lo : 54525953 ≤ f.key) (hi : f.key < 54560392 := by decide) : y.get f = s.get f :=
  h.cfg lo (by omega) fun d m e => by have := low d m; omega

theorem UpReady.upChosen (h : UpReady p r l s y) (low : FromStatus l) : y.upChosen = s.upChosen := by
  rw [State.upChosen, State.upChosen, State.flag, h.get low (by decide), h.get low (f := PTP.PTP_STATUS_UP_MASTER) (by decide)]
  rfl

theorem UpReady.upP2p (h : UpReady p r l s y) (low : FromStatus l) : y.upP2p = s.upP2p := by
  rw [State.upP2p, State.upP2p, State.flag, h.get low (by decide), h.get low (f := PTP.UP_CFG_TRANSPORT) (by decide)]
  rfl

theorem UpReady.portId (h : UpReady p r l s y) (low : FromStatus l) : y.portId p = s.portId p := by
  rw [State.portId, State.portId, h.get low (by decide)]

theorem State.upSet_only (s : State) (x : UpSt) : Only [.ptp] l s (s.upSet x) := (Only.refl s).set_ptp rfl _

/-- What a message of the upstream port does after it is taken goes on from there. -/
theorem UpReady.goes {qs : List Part} {m : List Fld} (h : UpReady p r l s y) (o : Only qs m y u) (mac : u.mac = y.mac) :
    (u.settle.port p).rx = (s.port p).rx.erase r ∧ u.settle.ptp = u.ptp ∧
      (qs.all (fun q => ps.contains q) = true → [Part.vat, .mac, .ptp].all (fun q => ps.contains q) = true → ∀ n : List Fld,
        (∀ d ∈ VAT.RMW_CNT :: l, d ∈ n) → (∀ d ∈ m, d ∈ n) → Only ps n s u.settle) := by
  have settled := u.settle_kept
  refine ⟨?_, settled.ptp, fun hq hp n hl hm => ?_⟩
  · rw [settled.port, State.port, mac]
    exact congrArg PortSt.rx h.port
  · exact ((h.only.parts hp fun _ ⟨d, x, e⟩ => ⟨d, hl d x, e⟩).trans (o.parts hq fun _ ⟨d, x, e⟩ => ⟨d, hm d x, e⟩)).tail settled.any

/-! ### Sync and Follow_Up (R287, R288) -/

/-- The fields that a measurement of the upstream port shows. -/
def measureFields : List Fld := [PTP.UP_OFFSET, PTP.UP_BOUND]

/-- What the formation of an offset writes: what it shows, and what REF13 takes. -/
theorem State.upMeasure_kept (s : State) (k t2 : Nat) (fwd : Int) (mark : Option Nat) :
    Only [.ptp, .ref] measureFields s (s.upMeasure k t2 fwd mark) ∧ (s.upMeasure k t2 fwd mark).mac = s.mac ∧
      (s.upMeasure k t2 fwd mark).ptp.up = { s.ptp.up with fwd := some fwd, wait := none } := by
  have set_ : Only [.ptp, .ref] measureFields s (s.upSet { s.ptp.up with fwd := some fwd, wait := none }) := (Only.refl s).set_ptp rfl _
  unfold State.upMeasure
  dsimp only
  split
  · split
    · exact ⟨((set_.putiK _ _ ⟨PTP.UP_OFFSET, by simp [measureFields], rfl⟩).putK _ _ ⟨PTP.UP_BOUND, by simp [measureFields], rfl⟩).set_ref rfl _, rfl, rfl⟩
    · exact ⟨(set_.putiK _ _ ⟨PTP.UP_OFFSET, by simp [measureFields], rfl⟩).set_ref rfl _, rfl, rfl⟩
  · exact ⟨set_, rfl, rfl⟩

/-- A message of the chosen master's that is a Sync or a Follow_Up goes on to its measurement. -/
theorem runUpstreamSyncRx_eq {c : Found} (first : (s.port p).rx.find? (isPtp [0, 8]) = some r) (pays : (s.charge 1 300).isSome = true)
    (there : p < s.mac.ports.length) (takes : s.TakesPtp p (ptpParse r) c) (from_ : s.upFrom p (ptpParse r) = some k) (chosen : s.upChosen = some k)
    (kind : (ptpParse r).type = 0 ∨ (ptpParse r).type = 8) :
    ∃ y, UpReady p r (masterFields k) s y ∧ runUpstreamSyncRx p s =
      if (ptpParse r).type = 0 then
        if msgTwoStep (ptpParse r) then
          y.upSet { y.ptp.up with wait := some ⟨k, beAt (ptpParse r).msg 30 2, (ptpParse r).time, msgCorr (ptpParse r), y.upMark (ptpParse r) .absent⟩ }
        else y.upMeasure k (ptpParse r).time (((ptpParse r).time : Int) - msgTime (ptpParse r) - msgCorr (ptpParse r)) (y.upMark (ptpParse r) .absent)
      else
        match y.ptp.up.wait with
        | some w =>
          if w.master = k ∧ w.seq = beAt (ptpParse r).msg 30 2 then
            y.upMeasure k w.t2 ((w.t2 : Int) - msgTime (ptpParse r) - (w.corr + msgCorr (ptpParse r))) ((y.upMark (ptpParse r) .absent).or w.mark)
          else y
        | none => y := by
  obtain ⟨w, read, run⟩ := State.upTake_master first pays there takes from_ (by obtain h | h := kind <;> rw [h] <;> rfl)
  have ready := read.setMac (k := k) (ptpParse r).smac
  refine ⟨_, ready, ?_⟩
  have chosen := (ready.upChosen (masterFields_status k)).trans chosen
  unfold runUpstreamSyncRx
  rw [run]
  generalize w.setUpM k { w.upM k with mac := (ptpParse r).smac } = y at chosen
  dsimp only
  rw [chosen, if_neg (not_not.2 rfl)]
  rfl

theorem upstreamSyncRx_measures {c : Found} (awake : s.inReset = false) (first : (s.port p).rx.find? (isPtp [0, 8]) = some r)
    (pays : (s.charge 1 300).isSome = true) (there : p < s.mac.ports.length) (takes : s.TakesPtp p (ptpParse r) c)
    (from_ : s.upFrom p (ptpParse r) = some k) (chosen : s.upChosen = some k) (sync : (ptpParse r).type = 0) (one : msgTwoStep (ptpParse r) = false) :
    ∃ t, exec (.upstreamSyncRx p) s = .next t ∧
      t.ptp.up.fwd = some (((ptpParse r).time : Int) - msgTime (ptpParse r) - msgCorr (ptpParse r)) ∧ t.ptp.up.wait = none ∧
      (t.port p).rx = (s.port p).rx.erase r ∧
      Only [.vat, .mac, .ptp, .ref] [PTP.UP_MSTAT_CANDIDATE k, PTP.UP_MSTAT_GRANTED k, PTP.UP_OFFSET, PTP.UP_BOUND, VAT.RMW_CNT] s t := by
  obtain ⟨y, ready, run⟩ := runUpstreamSyncRx_eq first pays there takes from_ chosen (.inl sync)
  rw [if_pos sync, one, if_neg Bool.false_ne_true] at run
  obtain ⟨only, mac, up⟩ := y.upMeasure_kept k (ptpParse r).time (((ptpParse r).time : Int) - msgTime (ptpParse r) - msgCorr (ptpParse r))
    (y.upMark (ptpParse r) .absent)
  rw [← run] at only mac up
  obtain ⟨rx, ptp, frame⟩ := ready.goes (ps := [.vat, .mac, .ptp, .ref]) only mac
  refine ⟨_, rfl, ?_⟩
  rw [State.awake_eq awake, ptp, up]
  exact ⟨rfl, rfl, rx, frame rfl rfl _ (by simp [masterFields]) (by simp [measureFields])⟩

theorem upstreamSyncRx_waits {c : Found} (awake : s.inReset = false) (first : (s.port p).rx.find? (isPtp [0, 8]) = some r)
    (pays : (s.charge 1 300).isSome = true) (there : p < s.mac.ports.length) (takes : s.TakesPtp p (ptpParse r) c)
    (from_ : s.upFrom p (ptpParse r) = some k) (chosen : s.upChosen = some k) (sync : (ptpParse r).type = 0) (two : msgTwoStep (ptpParse r) = true) :
    ∃ t, exec (.upstreamSyncRx p) s = .next t ∧ t.ptp.up.fwd = s.ptp.up.fwd ∧
      t.ptp.up.wait.map (fun w => (w.master, w.seq, w.t2, w.corr)) = some (k, beAt (ptpParse r).msg 30 2, (ptpParse r).time, msgCorr (ptpParse r)) ∧
      Only [.vat, .mac, .ptp] [PTP.UP_MSTAT_CANDIDATE k, PTP.UP_MSTAT_GRANTED k, VAT.RMW_CNT] s t := by
  obtain ⟨y, ready, run⟩ := runUpstreamSyncRx_eq first pays there takes from_ chosen (.inl sync)
  rw [if_pos sync, if_pos two] at run
  obtain ⟨ms, up⟩ := ready.up
  obtain ⟨-, ptp, frame⟩ := ready.goes (ps := [.vat, .mac, .ptp]) (m := []) (y.upSet_only
    { y.ptp.up with wait := some ⟨k, beAt (ptpParse r).msg 30 2, (ptpParse r).time, msgCorr (ptpParse r), y.upMark (ptpParse r) .absent⟩ }) rfl
  rw [← run] at ptp frame
  refine ⟨_, rfl, ?_⟩
  rw [State.awake_eq awake, ptp.trans (congrArg State.ptp run)]
  have fwd : y.ptp.up.fwd = s.ptp.up.fwd := by rw [up]
  exact ⟨fwd, rfl, frame rfl rfl _ (by simp [masterFields]) (by simp)⟩

theorem upstreamSyncRx_follows {c : Found} {w : UpSync} (awake : s.inReset = false) (first : (s.port p).rx.find? (isPtp [0, 8]) = some r)
    (pays : (s.charge 1 300).isSome = true) (there : p < s.mac.ports.length) (takes : s.TakesPtp p (ptpParse r) c)
    (from_ : s.upFrom p (ptpParse r) = some k) (chosen : s.upChosen = some k) (follow : (ptpParse r).type = 8) (waits : s.ptp.up.wait = some w)
    (master : w.master = k) (seq : w.seq = beAt (ptpParse r).msg 30 2) :
    ∃ t, exec (.upstreamSyncRx p) s = .next t ∧ t.ptp.up.wait = none ∧
      t.ptp.up.fwd = some ((w.t2 : Int) - msgTime (ptpParse r) - (w.corr + msgCorr (ptpParse r))) ∧
      Only [.vat, .mac, .ptp, .ref] [PTP.UP_MSTAT_CANDIDATE k, PTP.UP_MSTAT_GRANTED k, PTP.UP_OFFSET, PTP.UP_BOUND, VAT.RMW_CNT] s t := by
  obtain ⟨y, ready, run⟩ := runUpstreamSyncRx_eq first pays there takes from_ chosen (.inr follow)
  obtain ⟨ms, same⟩ := ready.up
  have waits : y.ptp.up.wait = some w := by rw [same]; exact waits
  rw [if_neg (by rw [follow]; decide), waits] at run
  dsimp only at run
  rw [if_pos ⟨master, seq⟩] at run
  obtain ⟨only, mac, up⟩ := y.upMeasure_kept k w.t2 ((w.t2 : Int) - msgTime (ptpParse r) - (w.corr + msgCorr (ptpParse r)))
    ((y.upMark (ptpParse r) .absent).or w.mark)
  rw [← run] at only mac up
  obtain ⟨-, ptp, frame⟩ := ready.goes (ps := [.vat, .mac, .ptp, .ref]) only mac
  refine ⟨_, rfl, ?_⟩
  rw [State.awake_eq awake, ptp, up]
  exact ⟨rfl, rfl, frame rfl rfl _ (by simp [masterFields]) (by simp [measureFields])⟩

/-! ### Delay responses (R287) -/

/-- The window of delays with one more. -/
def State.delaysWith (s : State) (d : Rat) : List Rat := (d * 1000 / 65536 :: s.ptp.up.delays).take (s.get PTP.UP_CFG2_PD_WIN)

theorem State.upDelay_kept (s : State) (d : Rat) : Only [.ptp] [PTP.UP_DELAY] s (s.upDelay d) ∧ (s.upDelay d).mac = s.mac ∧
    (s.upDelay d).ptp.up = { s.ptp.up with delays := s.delaysWith d, req := none } :=
  ⟨(s.upSet_only { s.ptp.up with delays := s.delaysWith d, req := none }).putK _ _ ⟨_, by simp, rfl⟩, rfl, rfl⟩

/-- A delay joins the window after its message was taken. -/
theorem UpReady.delayed {d : Rat} {g : State → State} {n : List Fld} (h : UpReady p r l s y) (low : FromStatus l) (awake : s.inReset = false) (run : g s = y.upDelay d)
    (sub : ∀ d ∈ VAT.RMW_CNT :: l, d ∈ n) (shown : PTP.UP_DELAY ∈ n) :
    (s.awake g).settle.ptp.up.req = none ∧ (s.awake g).settle.ptp.up.delays = s.delaysWith d ∧ Only [.vat, .mac, .ptp] n s (s.awake g).settle := by
  obtain ⟨only, mac, up⟩ := y.upDelay_kept d
  obtain ⟨-, ptp, frame⟩ := h.goes (ps := [.vat, .mac, .ptp]) only mac
  obtain ⟨ms, same⟩ := h.up
  rw [State.awake_eq awake, run, ptp, up]
  refine ⟨rfl, ?_, frame rfl rfl n sub (by simpa using shown)⟩
  rw [State.delaysWith, State.delaysWith, h.get low (by decide), same]

theorem upstreamDelayRespRx_answers {c : Found} {q : UpReq} {f : Int} (awake : s.inReset = false)
    (first : (s.port p).rx.find? (isPtp [9, 3, 0xA]) = some r) (pays : (s.charge 1 300).isSome = true) (there : p < s.mac.ports.length)
    (takes : s.TakesPtp p (ptpParse r) c) (kind : (ptpParse r).type = 9) (from_ : s.upFrom p (ptpParse r) = some k) (asked : s.ptp.up.req = some q)
    (e2e : s.upP2p = false) (master : q.master = k) (seq : beAt (ptpParse r).msg 30 2 = q.seq) (mine : cut (ptpParse r).msg 44 10 = s.portId p)
    (fwd : s.ptp.up.fwd = some f) :
    ∃ t, exec (.upstreamDelayRespRx p) s = .next t ∧ t.ptp.up.req = none ∧
      t.ptp.up.delays = s.delaysWith (((f + ((msgTime (ptpParse r) : Int) - q.sent - msgCorr (ptpParse r)) : Int) : Rat) / 2) ∧
      Only [.vat, .mac, .ptp] [PTP.UP_MSTAT_CANDIDATE k, PTP.UP_MSTAT_GRANTED k, PTP.UP_DELAY, VAT.RMW_CNT] s t := by
  obtain ⟨w, read, run⟩ := State.upTake_master first pays there takes from_ (by rw [kind]; rfl)
  have ready := read.setMac (k := k) (ptpParse r).smac
  obtain ⟨ms, same⟩ := ready.up
  have low := masterFields_status k
  have e2e := (ready.upP2p low).trans e2e
  have mine := mine.trans (ready.portId low).symm
  refine ⟨_, rfl, ready.delayed low awake ?_ (by simp [masterFields]) (by simp)⟩
  unfold runUpstreamDelayRespRx
  rw [run]
  generalize w.setUpM k { w.upM k with mac := (ptpParse r).smac } = y at same e2e mine
  have asked : y.ptp.up.req = some q := by rw [same]; exact asked
  have fwd : y.ptp.up.fwd = some f := by rw [same]; exact fwd
  dsimp only
  rw [asked]
  dsimp only
  rw [if_neg (by rw [seq, mine]; simp), if_pos kind, if_neg (by rw [e2e, master]; simp), fwd]

/-- The state in which a peer delay response goes to its function. -/
theorem State.upTake_peer {types : List Nat} {c : Found} (first : (s.port p).rx.find? (isPtp types) = some r)
    (pays : (s.charge 1 300).isSome = true) (there : p < s.mac.ports.length) (takes : s.TakesPtp p (ptpParse r) c)
    (kind : (ptpParse r).type = 3) (ethernet : (ptpParse r).transport = 0) (runs : s.upRuns = true) (port : p = s.get PTP.UP_CFG_PORT) (p2p : s.upP2p = true) :
    ∃ y, UpReady p r allMasters s y ∧ ∀ (self : Instr) (f : PtpIn → Option Nat → AuthRes → State → State),
      s.upTake p types self f = f (ptpParse r) (s.upFrom p (ptpParse r)) .absent y := by
  obtain ⟨w, read, run⟩ := State.upTake_read first pays there takes
  have paid := read.tail ((Keeps.refl w).charge0 200)
  have ok : (w.upRuns && p == w.get PTP.UP_CFG_PORT && w.upP2p && (ptpParse r).transport == 0) = true := by
    rw [read.upRuns, read.cfg (f := PTP.UP_CFG_PORT) (by decide) (by decide), read.upP2p, runs, p2p, ethernet, ← port, beq_self_eq_true]
    rfl
  cases from_ : s.upFrom p (ptpParse r) with
  | none =>
    refine ⟨_, paid.ready, fun self f => ?_⟩
    rw [run, State.upGoes, read.upFrom, from_, kind]
    dsimp only
    rw [if_pos (show (3 == 3 || 3 == 10) = true from rfl), ok]
    rfl
  | some k =>
    refine ⟨_, (paid.setMac (k := k) (ptpParse r).smac).more (masterFields_all (State.upFrom_lt from_)), fun self f => ?_⟩
    rw [run, State.upGoes, read.upFrom, from_, kind]
    dsimp only
    rw [if_pos (show (3 == 3 || 3 == 10) = true from rfl), ok]
    rfl

theorem upstreamDelayRespRx_peer {c : Found} {q : UpReq} (awake : s.inReset = false)
    (first : (s.port p).rx.find? (isPtp [9, 3, 0xA]) = some r) (pays : (s.charge 1 300).isSome = true) (there : p < s.mac.ports.length)
    (takes : s.TakesPtp p (ptpParse r) c) (kind : (ptpParse r).type = 3) (ethernet : (ptpParse r).transport = 0) (runs : s.upRuns = true)
    (port : p = s.get PTP.UP_CFG_PORT) (p2p : s.upP2p = true) (asked : s.ptp.up.req = some q)
    (seq : beAt (ptpParse r).msg 30 2 = q.seq) (mine : cut (ptpParse r).msg 44 10 = s.portId p) (one : msgTwoStep (ptpParse r) = false) :
    ∃ t, exec (.upstreamDelayRespRx p) s = .next t ∧ t.ptp.up.req = none ∧
      t.ptp.up.delays = s.delaysWith ((((ptpParse r).time : Int) - q.sent - msgCorr (ptpParse r) : Int) / 2) ∧
      Only [.vat, .mac, .ptp] (allMasters ++ [PTP.UP_DELAY, VAT.RMW_CNT]) s t := by
  obtain ⟨y, ready, run⟩ := State.upTake_peer first pays there takes kind ethernet runs port p2p
  obtain ⟨ms, same⟩ := ready.up
  have mine := mine.trans (ready.portId allMasters_status).symm
  refine ⟨_, rfl, ready.delayed allMasters_status awake ?_ (List.forall_mem_cons.2 ⟨by simp, fun d m => List.mem_append_left _ m⟩) (by simp)⟩
  have asked : y.ptp.up.req = some q := by rw [same]; exact asked
  unfold runUpstreamDelayRespRx
  rw [run]
  dsimp only
  rw [asked]
  dsimp only
  rw [if_neg (by rw [seq, mine]; simp), if_neg (by rw [kind]; decide), if_pos kind, one, if_neg Bool.false_ne_true]

/-! ### The best master is chosen (R289) -/

/-- A fold goes the same over two functions that agree where an invariant of the first holds. -/
theorem foldl_congr_of {α β : Type} {f g : β → α → β} {P : β → Prop} {xs : List α} (keep : ∀ b, P b → ∀ a ∈ xs, P (f b a))
    (same : ∀ b, P b → ∀ a ∈ xs, f b a = g b a) {b : β} (h : P b) : xs.foldl f b = xs.foldl g b ∧ P (xs.foldl f b) := by
  induction xs generalizing b with
  | nil => exact ⟨rfl, h⟩
  | cons a xs ih =>
    rw [List.foldl_cons, List.foldl_cons, ← same b h a List.mem_cons_self]
    exact ih (fun b hb a m => keep b hb a (List.mem_cons_of_mem _ m)) (fun b hb a m => same b hb a (List.mem_cons_of_mem _ m))
      (keep b h a List.mem_cons_self)

/-- The better of the best candidate so far and a master. -/
def State.upBetter (s : State) (best : Option Nat) (k : Nat) : Option Nat :=
  match (s.upM k).ann with
  | none => best
  | some a =>
    match best.bind (fun j => (s.upM j).ann.map (fun (x : UpAnn) => (j, x))) with
    | none => some k
    | some (j, x) =>
      let better := if s.get PTP.PTP_CFG_PROFILE = 0 then bmcaBetter a x
        else altBetter (s.get (PTP.UP_MCFG_LOCAL_PRIORITY k)) (s.get (PTP.UP_MCFG_LOCAL_PRIORITY j)) a x
      if better then some k else best

theorem State.upBest_eq (s : State) : s.upBest = (List.range 4).foldl s.upBetter none := rfl

/-- A number that is a master's, where it is one at all. -/
@[reducible] def OfMaster (b : Option Nat) : Prop := ∀ j ∈ b, j < 4

theorem State.upBetter_master (s : State) {b : Option Nat} (hb : OfMaster b) (hk : k < 4) : OfMaster (s.upBetter b k) := by
  have this : OfMaster (some k) := by simpa [OfMaster] using hk
  unfold State.upBetter
  split
  · exact hb
  · split
    · exact this
    · dsimp only
      split <;> split <;> assumption

/-- The choice reads the Announces, the profile and the local priorities. -/
theorem State.upBetter_congr (masters : t.ptp.up.masters = s.ptp.up.masters) (profile : t.get PTP.PTP_CFG_PROFILE = s.get PTP.PTP_CFG_PROFILE)
    (priority : ∀ j < 4, t.get (PTP.UP_MCFG_LOCAL_PRIORITY j) = s.get (PTP.UP_MCFG_LOCAL_PRIORITY j)) {b : Option Nat} (hb : OfMaster b) (hk : k < 4) :
    s.upBetter b k = t.upBetter b k := by
  have same (j : Nat) : t.upM j = s.upM j := by rw [State.upM, State.upM, masters]
  unfold State.upBetter
  rw [same k]
  cases (s.upM k).ann with
  | none => rfl
  | some a =>
    cases b with
    | none => rfl
    | some j =>
      dsimp only [Option.bind_some]
      rw [same j]
      cases (s.upM j).ann with
      | none => rfl
      | some x =>
        dsimp only [Option.map_some]
        rw [profile, priority k hk, priority j (hb j rfl)]

theorem State.upBest_congr (masters : t.ptp.up.masters = s.ptp.up.masters) (profile : t.get PTP.PTP_CFG_PROFILE = s.get PTP.PTP_CFG_PROFILE)
    (priority : ∀ j < 4, t.get (PTP.UP_MCFG_LOCAL_PRIORITY j) = s.get (PTP.UP_MCFG_LOCAL_PRIORITY j)) : t.upBest = s.upBest := by
  rw [State.upBest_eq, State.upBest_eq]
  exact (foldl_congr_of (P := OfMaster) (fun b hb a m => s.upBetter_master hb (List.mem_range.1 m))
    (fun b hb a m => State.upBetter_congr masters profile priority hb (List.mem_range.1 m)) (by simp [OfMaster])).1.symm

theorem State.upBest_master (s : State) : OfMaster s.upBest := by
  rw [State.upBest_eq]
  exact (foldl_congr_of (P := OfMaster) (g := s.upBetter) (fun b hb a m => s.upBetter_master hb (List.mem_range.1 m)) (fun _ _ _ _ => rfl) (by simp [OfMaster])).2

theorem State.upBest_none (silent : ∀ j < 4, (s.upM j).ann = none) : s.upBest = none := by
  rw [State.upBest_eq]
  refine (foldl_congr_of (P := fun _ => True) (g := fun b _ => b) (fun _ _ _ _ => trivial) (fun b _ k m => ?_) trivial).1.trans (List.foldl_fixed _)
  rw [State.upBetter, silent k (List.mem_range.1 m)]

theorem State.upRefJudge_only (s : State) : Only [.ref] (slotShown 13) s s.upRefJudge := by
  unfold State.upRefJudge
  exact Only.ite' (Only.refl s) (s.slotJudge_shown 13).1

/-- What the choice of a master shows. -/
def chooseFields : List Fld := PTP.PTP_STATUS_UP_MASTER :: PTP.PTP_STATUS_UP_MASTER_VALID :: slotShown 13

/-- The state in which another master has been chosen, or none, and the windows of the one before are empty. -/
def State.upSwitched (s : State) (c : Option Nat) : State :=
  let s := s.puts [(PTP.PTP_STATUS_UP_MASTER, c.getD 0), (PTP.PTP_STATUS_UP_MASTER_VALID, if c.isSome then 1 else 0)]
  { s with
    ptp := { s.ptp with up := { s.ptp.up with delays := [], fwd := none, wait := none, req := none } }
    ref := { s.ref with up := none, upNew := false } }

theorem State.upSwitched_only (s : State) (c : Option Nat) : Only [.ptp, .ref] chooseFields s (s.upSwitched c) := by
  have shown : Only [.ptp, .ref] chooseFields s (s.puts [(PTP.PTP_STATUS_UP_MASTER, c.getD 0), (PTP.PTP_STATUS_UP_MASTER_VALID, if c.isSome then 1 else 0)]) :=
    (Only.refl s).putsK _ (by simp [chooseFields])
  exact (shown.set_ptp rfl (s.upSwitched c).ptp).set_ref rfl (s.upSwitched c).ref

theorem State.upSwitched_chosen (s : State) {c : Option Nat} (hc : OfMaster c) : (s.upSwitched c).upChosen = c := by
  have valid : (s.upSwitched c).get PTP.PTP_STATUS_UP_MASTER_VALID = if c.isSome then 1 else 0 := by
    refine (State.get_put_same _ _ _).trans ?_
    cases c <;> rfl
  have master : (s.upSwitched c).get PTP.PTP_STATUS_UP_MASTER = c.getD 0 % 2 ^ 2 :=
    (State.get_put_other _ _ _ _ (by decide)).trans (State.get_put_same _ _ _)
  rw [State.upChosen, State.flag, valid, master]
  cases c with
  | none => rfl
  | some j => exact congrArg some (Nat.mod_eq_of_lt (hc j rfl))

theorem State.upChoose_eq (s : State) : s.upChoose =
    if (if s.upRuns then s.upBest else none) = s.upChosen then s else (s.upSwitched (if s.upRuns then s.upBest else none)).upRefJudge := rfl

theorem State.upChosen_congr (valid : t.get PTP.PTP_STATUS_UP_MASTER_VALID = s.get PTP.PTP_STATUS_UP_MASTER_VALID)
    (master : t.get PTP.PTP_STATUS_UP_MASTER = s.get PTP.PTP_STATUS_UP_MASTER) : t.upChosen = s.upChosen := by
  rw [State.upChosen, State.upChosen, State.flag, State.flag, valid, master]

/-- After the choice the chosen master is the best, while the upstream port runs; the masters themselves stay. -/
theorem State.upChoose_kept (s : State) : Only [.ptp, .ref] chooseFields s s.upChoose ∧ s.upChoose.ptp.up.masters = s.ptp.up.masters ∧
    s.upChoose.upChosen = if s.upRuns then s.upBest else none := by
  have master : OfMaster (if s.upRuns then s.upBest else none) := by
    split
    · exact s.upBest_master
    · simp [OfMaster]
  rw [State.upChoose_eq]
  generalize (if s.upRuns then s.upBest else none) = c at master
  split
  · next h => exact ⟨Only.refl s, rfl, h.symm⟩
  · have judged := (s.upSwitched c).upRefJudge_only
    refine ⟨(s.upSwitched_only c).trans (judged.parts rfl fun _ ⟨d, m, e⟩ => ⟨d, by simp [chooseFields, m], e⟩), ?_, ?_⟩
    · rw [judged.ptp rfl]
      rfl
    · rw [State.upChosen_congr (judged.read _ (by decide) (by decide)) (judged.read _ (by decide) (by decide)), s.upSwitched_chosen master]

/-! ### A candidate is lost (R286) -/

theorem upstreamCandidateTimeout_ends (awake : s.inReset = false) (hk : k < 4) (masters : s.ptp.up.masters.length = 4)
    (late : (s.upM k).ann.any (fun a => a.log == 127 || s.reaches ((s.upM k).annAt + 3 * a.interval)) = true) :
    ∃ t, exec (.upstreamCandidateTimeout k) s = .next t ∧ (t.upM k).ann = none ∧ t.flag (PTP.UP_MSTAT_CANDIDATE k) = false ∧
      ((∀ j ∈ List.range 4, j ≠ k → (s.upM j).ann = none) → t.upChosen = none) ∧
      Only [.ptp, .ref] (masterFields k ++ chooseFields) s t := by
  have run : runUpstreamCandidateTimeout k s = (s.setUpM k { s.upM k with ann := none }).upChoose :=
    if_pos (by rw [decide_eq_true hk, late]; rfl)
  have set_ := s.setUpM_only k { s.upM k with ann := none }
  have gone := s.setUpM_upM { s.upM k with ann := none } (masters ▸ hk)
  have shown := s.setUpM_candidate k { s.upM k with ann := none }
  have others (j : Nat) (h : j ≠ k) : (s.setUpM k { s.upM k with ann := none }).upM j = s.upM j := nth_setNth_other _ _ _ _ _ h
  obtain ⟨y, hy⟩ : ∃ y, y = s.setUpM k { s.upM k with ann := none } := ⟨_, rfl⟩
  rw [← hy] at run set_ gone shown others
  obtain ⟨only, same, chosen⟩ := y.upChoose_kept
  rw [← run] at only same chosen
  have quiet (f : Fld) (lo : 54525953 ≤ f.key) (hi : f.key < 56623104) : noisy f.key = false := ptp_quiet lo hi
  have settled := (runUpstreamCandidateTimeout k s).settle_kept
  refine ⟨_, rfl, ?_⟩
  rw [State.awake_eq awake]
  have up : (runUpstreamCandidateTimeout k s).settle.ptp.up.masters = y.ptp.up.masters := (congrArg (fun x : PtpSt => x.up.masters) settled.ptp).trans same
  refine ⟨?_, ?_, fun silent => ?_, ((set_.parts rfl fun _ ⟨d, m, e⟩ => ⟨d, List.mem_append_left _ m, e⟩).trans
    (only.parts rfl fun _ ⟨d, m, e⟩ => ⟨d, List.mem_append_right _ m, e⟩)).tail settled.any⟩
  · rw [State.upM, up]
    exact congrArg UpMaster.ann gone
  · rw [settled.flag _ (quiet _ (by simp only [PTP.UP_MSTAT_CANDIDATE]; omega) (by simp only [PTP.UP_MSTAT_CANDIDATE]; omega)), only.flag _ (quiet _ (by simp only [PTP.UP_MSTAT_CANDIDATE]; omega) (by simp only [PTP.UP_MSTAT_CANDIDATE]; omega)) ?_, shown]
    · rfl
    · simp only [chooseFields, slotShown, List.forall_mem_cons, List.not_mem_nil, false_implies, implies_true, and_true, PTP.UP_MSTAT_CANDIDATE,
        PTP.PTP_STATUS_UP_MASTER, PTP.PTP_STATUS_UP_MASTER_VALID, REFSEL.REF_STAT_CAUSE, REFSEL.REF_STAT_STATE, REFSEL.REF_TIMER]
      omega
  · have best : y.upBest = none := State.upBest_none fun j hj => by
      by_cases h : j = k
      · rw [h, gone]
      · rw [others j h, silent j (List.mem_range.2 hj) h]
    rw [State.upChosen_congr (settled.read _ (by decide)) (settled.read _ (by decide)), chosen, best, ite_self]

/-! ### Announces (R286, R288, R289) -/

/-- A master's Announce is stored; the choice follows. -/
def State.upAnnounced (s : State) (k : Nat) (a : UpAnn) : State :=
  (s.setUpM k { s.upM k with ann := some a, annAt := s.mono }).put (PTP.UP_MSTAT_CLOCK_CLASS k) a.cls

/-- REF13 takes what the Announce of the chosen master says. -/
def State.upTold (s : State) (k : Nat) (a : UpAnn) : State :=
  match (if s.upChosen = some k then s.ref.up else none) with
  | some u => ({ s with ref := { s.ref with up := some { u with gm := a.gm, steps := a.steps, tsrc := a.tsrc, traceable := a.traceable, cls := a.cls } } }).upRefJudge
  | none => s

theorem State.upTold_only (s : State) (k : Nat) (a : UpAnn) : Only [.ref] (slotShown 13) s (s.upTold k a) := by
  unfold State.upTold
  split
  · exact ((Only.refl s).set_ref rfl _).trans (State.upRefJudge_only _)
  · exact Only.refl s

/-- What an Announce shows. -/
def upAnnounceFields (k : Nat) : List Fld := masterFields k ++ [PTP.UP_MSTAT_CLOCK_CLASS k]

theorem State.upAnnounced_only (s : State) (k : Nat) (a : UpAnn) : Only [.ptp] (upAnnounceFields k) s (s.upAnnounced k a) :=
  ((s.setUpM_only k _).parts (m := upAnnounceFields k) rfl fun _ ⟨d, m, e⟩ => ⟨d, List.mem_append_left _ m, e⟩).putK _ _ ⟨PTP.UP_MSTAT_CLOCK_CLASS k, by simp [upAnnounceFields], rfl⟩

theorem State.upAnnounced_values (s : State) {k : Nat} {a : UpAnn} (hk : k < s.ptp.up.masters.length) (cls : a.cls < 256) :
    ((s.upAnnounced k a).upM k).ann = some a ∧ ((s.upAnnounced k a).upM k).mac = (s.upM k).mac ∧
      (s.upAnnounced k a).flag (PTP.UP_MSTAT_CANDIDATE k) = true ∧ (s.upAnnounced k a).get (PTP.UP_MSTAT_CLOCK_CLASS k) = a.cls := by
  have master : (s.upAnnounced k a).upM k = { s.upM k with ann := some a, annAt := s.mono } := s.setUpM_upM _ hk
  refine ⟨by rw [master], by rw [master], ?_, (State.get_put_same _ _ _).trans (Nat.mod_eq_of_lt cls)⟩
  have shown := s.setUpM_candidate k { s.upM k with ann := some a, annAt := s.mono }
  exact (congrArg (· != 0) (State.get_put_other _ _ _ _ (by simp only [PTP.UP_MSTAT_CANDIDATE, PTP.UP_MSTAT_CLOCK_CLASS]; omega))).trans shown

theorem MsgRead.announced {a : UpAnn} {x : List Byte} (h : MsgRead p r s w) (hk : k < 4) (masters : s.ptp.up.masters.length = 4) (cls : a.cls < 256) :
    ∃ z, z = (w.setUpM k { w.upM k with mac := x }).upAnnounced k a ∧ UpReady p r (upAnnounceFields k) s z ∧ (z.upM k).ann = some a ∧ (z.upM k).mac = x ∧
      z.flag (PTP.UP_MSTAT_CANDIDATE k) = true ∧ z.get (PTP.UP_MSTAT_CLOCK_CLASS k) = a.cls ∧ z.upRuns = s.upRuns := by
  have ready := h.setMac (k := k) x
  have length : (w.setUpM k { w.upM k with mac := x }).ptp.up.masters.length = 4 := by
    rw [State.setUpM_up, ← masters, ← h.up]
    exact List.length_set
  have master := w.setUpM_upM { w.upM k with mac := x } (show k < w.ptp.up.masters.length by rw [h.up, masters]; exact hk)
  obtain ⟨y, hy⟩ : ∃ y, y = w.setUpM k { w.upM k with mac := x } := ⟨_, rfl⟩
  rw [← hy] at ready length master ⊢
  obtain ⟨ann, mac, cand, shown⟩ := y.upAnnounced_values (a := a) (length ▸ hk) cls
  have only := y.upAnnounced_only k a
  have only' : Only [.vat, .mac, .ptp] (VAT.RMW_CNT :: upAnnounceFields k) s (y.upAnnounced k a) :=
    (ready.only.more fun _ ⟨d, m, e⟩ => ⟨d, by
      rcases List.mem_cons.1 m with rfl | m
      · exact List.mem_cons_self
      · exact List.mem_cons_of_mem _ (List.mem_append_left _ m), e⟩).trans (only.parts rfl fun _ ⟨d, m, e⟩ => ⟨d, List.mem_cons_of_mem _ m, e⟩)
  obtain ⟨ms, up⟩ := ready.up
  refine ⟨_, rfl, ⟨only', ready.port, setNth y.ptp.up.masters k { y.upM k with ann := some a, annAt := y.mono }, ?_⟩, ann,
    mac.trans (congrArg UpMaster.mac master), cand, shown, only'.upRuns rfl ?_⟩
  · refine (y.setUpM_up k { y.upM k with ann := some a, annAt := y.mono }).trans ?_
    rw [up]
  · simp only [upAnnounceFields, masterFields, List.cons_append, List.nil_append, List.forall_mem_cons, List.not_mem_nil, false_implies, implies_true, and_true,
      VAT.RMW_CNT, PTP.UP_CFG_EN, PTP.UP_MSTAT_CANDIDATE, PTP.UP_MSTAT_GRANTED, PTP.UP_MSTAT_CLOCK_CLASS]
    omega

theorem State.upFrom_runs {m : PtpIn} (h : s.upFrom p m = some k) : s.upRuns = true := by
  unfold State.upFrom at h
  split at h
  · next c => exact (Bool.and_eq_true_iff.1 (Bool.and_eq_true_iff.1 c).1).1
  · cases h

/-- What an Announce of a master goes through after it is stored: the choice, and what REF13 takes. -/
theorem State.upChoose_told (z : State) (k : Nat) (a : UpAnn) : Only [.ptp, .ref] chooseFields z (z.upChoose.upTold k a) ∧
    (z.upChoose.upTold k a).ptp.up.masters = z.ptp.up.masters ∧ (z.upChoose.upTold k a).mac = z.mac ∧
    (z.upChoose.upTold k a).upChosen = if z.upRuns then z.upBest else none := by
  obtain ⟨only, masters, chosen⟩ := z.upChoose_kept
  have told := z.upChoose.upTold_only k a
  have both := only.trans (told.parts rfl fun _ ⟨d, m, e⟩ => ⟨d, by simp [chooseFields, m], e⟩)
  refine ⟨both, by rw [told.ptp rfl, masters], both.mac rfl, ?_⟩
  rw [State.upChosen_congr (told.read _ (by decide) (by decide)) (told.read _ (by decide) (by decide)), chosen]

/-- The choice shows nothing of a master. -/
theorem chooseFields_off {f : Fld} (lo : 54525958 ≤ f.key) (hi : f.key < 56623104) : ∀ d ∈ chooseFields, f.key ≠ d.key := by
  simp only [chooseFields, slotShown, List.forall_mem_cons, List.not_mem_nil, false_implies, implies_true, and_true,
    PTP.PTP_STATUS_UP_MASTER, PTP.PTP_STATUS_UP_MASTER_VALID, REFSEL.REF_STAT_CAUSE, REFSEL.REF_STAT_STATE, REFSEL.REF_TIMER]
  omega

theorem Only.choice (h : Only ps chooseFields s t) {f : Fld} (lo : 54525958 ≤ f.key) (hi : f.key < 56623104) : t.get f = s.get f :=
  h.read f (ptp_quiet (by omega) hi) (chooseFields_off lo hi)

theorem upstreamAnnounceRx_takes {c : Found} (awake : s.inReset = false) (first : (s.port p).rx.find? (isPtp [0xB]) = some r)
    (pays : (s.charge 1 300).isSome = true) (there : p < s.mac.ports.length) (takes : s.TakesPtp p (ptpParse r) c)
    (from_ : s.upFrom p (ptpParse r) = some k) (masters : s.ptp.up.masters.length = 4) :
    ∃ t, exec (.upstreamAnnounceRx p) s = .next t ∧ (t.upM k).ann = some (upAnnOf (ptpParse r)) ∧ (t.upM k).mac = (ptpParse r).smac ∧
      t.flag (PTP.UP_MSTAT_CANDIDATE k) = true ∧ t.get (PTP.UP_MSTAT_CLOCK_CLASS k) = beAt (ptpParse r).msg 48 1 ∧ t.upChosen = t.upBest ∧
      (t.port p).rx = (s.port p).rx.erase r ∧ Only [.vat, .mac, .ptp, .ref] (VAT.RMW_CNT :: (upAnnounceFields k ++ chooseFields)) s t := by
  have type_ : (ptpParse r).type = 0xB := by
    have := List.find?_some first
    simp only [isPtp, Bool.and_eq_true, List.contains_eq_mem, decide_eq_true_eq, List.mem_singleton] at this
    exact this.2
  have hk := State.upFrom_lt from_
  obtain ⟨w, read, run⟩ := State.upTake_master first pays there takes from_ (by rw [type_]; rfl)
  obtain ⟨z, hz, ready, ann, mac, cand, cls, runs⟩ := read.announced (x := (ptpParse r).smac) (a := upAnnOf (ptpParse r)) hk masters (beAt_byte_lt _ _)
  have run : runUpstreamAnnounceRx p s = z.upChoose.upTold k (upAnnOf (ptpParse r)) := by
    unfold runUpstreamAnnounceRx
    rw [run, hz]
    rfl
  obtain ⟨only, kept, same, chosen⟩ := z.upChoose_told k (upAnnOf (ptpParse r))
  rw [← run] at only kept same chosen
  obtain ⟨rx, ptp, frame⟩ := ready.goes (ps := [.vat, .mac, .ptp, .ref]) only same
  have settled := (runUpstreamAnnounceRx p s).settle_kept
  have all : Only [.ptp, .ref] chooseFields z (runUpstreamAnnounceRx p s).settle := only.tail settled.any
  have up : (runUpstreamAnnounceRx p s).settle.ptp.up.masters = z.ptp.up.masters := by rw [ptp]; exact kept
  have master : (runUpstreamAnnounceRx p s).settle.upM k = z.upM k := by rw [State.upM, State.upM, up]
  have best : (runUpstreamAnnounceRx p s).settle.upBest = z.upBest := State.upBest_congr up (all.choice (by decide) (by decide)) fun j hj =>
    all.choice (by simp only [PTP.UP_MCFG_LOCAL_PRIORITY]; omega) (by simp only [PTP.UP_MCFG_LOCAL_PRIORITY]; omega)
  refine ⟨_, rfl, ?_⟩
  rw [State.awake_eq awake, master, best]
  refine ⟨ann, mac, ?_, ?_, ?_, rx, frame rfl rfl _ ?_ ?_⟩
  · rw [State.flag, all.choice (by simp only [PTP.UP_MSTAT_CANDIDATE]; omega) (by simp only [PTP.UP_MSTAT_CANDIDATE]; omega)]
    exact cand
  · rw [all.choice (by simp only [PTP.UP_MSTAT_CLOCK_CLASS]; omega) (by simp only [PTP.UP_MSTAT_CLOCK_CLASS]; omega)]
    exact cls
  · rw [State.upChosen_congr (settled.read _ (by decide)) (settled.read _ (by decide)), chosen, runs, State.upFrom_runs from_]
    rfl
  · exact List.forall_mem_cons.2 ⟨List.mem_cons_self, fun d m => List.mem_cons_of_mem _ (List.mem_append_left _ m)⟩
  · exact fun d m => List.mem_cons_of_mem _ (List.mem_append_right _ m)

/-- A frame that names the same fields in another order. -/
theorem Only.fields {m : List Fld} (h : Only ps l s t) (sub : ∀ d ∈ l, d ∈ m) : Only ps m s t := h.more fun _ ⟨d, x, e⟩ => ⟨d, sub d x, e⟩

/-- Settles O41: each message of the upstream port by its own theorem, from the state in which it is taken. -/
theorem upstreamCommandsComplete : Obligations.UpstreamCommandsComplete := by
  refine ⟨fun _ _ _ _ _ ⟨awake, hp, ports, first, pays⟩ takes from_ masters => ?_,
    fun _ _ _ _ _ ⟨awake, hp, ports, first, pays⟩ takes from_ chosen sync one =>
      upstreamSyncRx_measures awake first pays (ports ▸ hp) takes from_ chosen sync one,
    fun _ _ _ _ _ ⟨awake, hp, ports, first, pays⟩ takes from_ chosen sync two =>
      upstreamSyncRx_waits awake first pays (ports ▸ hp) takes from_ chosen sync two,
    fun _ _ _ _ _ _ ⟨awake, hp, ports, first, pays⟩ takes from_ chosen follow waits master seq =>
      upstreamSyncRx_follows awake first pays (ports ▸ hp) takes from_ chosen follow waits master seq,
    fun _ _ _ _ _ _ _ ⟨awake, hp, ports, first, pays⟩ takes kind from_ asked e2e master seq mine fwd =>
      upstreamDelayRespRx_answers awake first pays (ports ▸ hp) takes kind from_ asked e2e master seq mine fwd,
    fun _ _ _ _ _ ⟨awake, hp, ports, first, pays⟩ takes kind ethernet runs port p2p asked seq mine one =>
      upstreamDelayRespRx_peer awake first pays (ports ▸ hp) takes kind ethernet runs port p2p asked seq mine one,
    fun _ _ awake runs hp ports link asks => upstreamDelayReqTx_sends awake runs hp ports link asks,
    fun _ _ _ awake runs asks hk en kind early hp ports link => upstreamGrantRenew_sends awake runs asks hk en kind early hp ports link,
    fun _ _ awake hk masters late => ?_⟩
  · obtain ⟨t, run, ann, mac, cand, cls, chosen, rx, only⟩ := upstreamAnnounceRx_takes awake first pays (ports ▸ hp) takes from_ masters
    exact ⟨t, run, ann, mac, cand, cls, chosen, rx, only.fields (by simp [upAnnounceFields, masterFields, chooseFields, slotShown])⟩
  · obtain ⟨t, run, ann, cand, chosen, only⟩ := upstreamCandidateTimeout_ends awake hk masters late
    exact ⟨t, run, ann, cand, chosen, only.fields (by simp [masterFields, chooseFields, slotShown])⟩

end Sys2Proof.Machine
end
